-- ==== Sys2Proof/Word.lean ====
section
/-! DEFINITION. Bytes, fields, fixed-width integers and keyed tables: the plainest arithmetic (00 R10 to R15). -/

namespace Sys2Proof

/-- One byte of a Boteica format or of memory (00 R13). -/
abbrev Byte := BitVec 8

/-- A byte string, byte 0 first. -/
abbrev Bytes := List Byte

/-- Unsigned result of width `n`: wraps modulo 2^n (00 R11). -/
def wrap (n v : Nat) : Nat := v % 2 ^ n

/-- Saturating result of width `n`: stays at 2^n - 1 (00 R11). -/
def satTo (n v : Nat) : Nat := min v (2 ^ n - 1)

/-- Field [hi:lo] of a value, bit 0 least significant (00 R12). -/
def fieldOf (v hi lo : Nat) : Nat := v / 2 ^ lo % 2 ^ (hi + 1 - lo)

/-- The two's-complement reading of an `n`-bit pattern (00 R15). -/
def toSigned (n v : Nat) : Int :=
  let w := v % 2 ^ n
  if 2 * w < 2 ^ n then (w : Int) else (w : Int) - (2 ^ n : Nat)

/-- The `n`-bit two's-complement pattern of an integer (00 R15). -/
def ofSigned (n : Nat) (i : Int) : Nat := (i % (2 ^ n : Nat)).toNat

/-- An integer held at the ends of the signed range of width `n`. -/
def satSigned (n : Nat) (i : Int) : Int :=
  max (-(2 ^ (n - 1) : Nat)) (min i ((2 ^ (n - 1) : Nat) - 1))

/-- `n` bytes of a value, least significant first (00 R13). -/
def leBytes : Nat → Nat → Bytes
  | 0, _ => []
  | n + 1, v => BitVec.ofNat 8 v :: leBytes n (v / 256)

/-- The value of a little-endian byte string (00 R13). -/
def ofLe : Bytes → Nat
  | [] => 0
  | b :: bs => b.toNat + 256 * ofLe bs

/-- The value of a big-endian byte string (published standards, 00 R13). -/
def ofBe (bs : Bytes) : Nat := bs.foldl (fun a b => a * 256 + b.toNat) 0

/-- `n` bytes of a value, most significant first (published standards, 00 R13). -/
def beBytes (n v : Nat) : Bytes := (leBytes n v).reverse

/-- A record laid out from its fields, highest bits first: each field is (width, value). -/
def packBits (fields : List (Nat × Nat)) : Nat :=
  fields.foldl (fun a f => a * 2 ^ f.1 + f.2 % 2 ^ f.1) 0

/-- Zero bytes. -/
def zeros (n : Nat) : Bytes := List.replicate n 0

/-- A byte string padded with 0 (or cut) to `n` bytes. -/
def fitBytes (n : Nat) (bs : Bytes) : Bytes := (bs ++ zeros (n - bs.length)).take n

/-- Bytes padded with 0 to the next multiple of `m`. -/
def padTo (m : Nat) (bs : Bytes) : Bytes := bs ++ zeros ((m - bs.length % m) % m)

/-- Byte `i` of a string as a number; 0 past its end. -/
def byteAt (bs : Bytes) (i : Nat) : Nat := (bs.getD i 0).toNat

/-- The `n`-byte little-endian value at offset `i`. -/
def leAt (bs : Bytes) (i n : Nat) : Nat := ofLe ((bs.drop i).take n)

/-- `b` as 0 or 1. -/
def bit (b : Bool) : Nat := if b then 1 else 0

/-- Bit `i` of a set held as a number. -/
def hasBit (v i : Nat) : Bool := v.testBit i

/-- A set with member `i` put in. -/
def setBit (v i : Nat) : Nat := v ||| 2 ^ i

/-- A set with member `i` taken out. -/
def clrBit (v i : Nat) : Nat := if v.testBit i then v - 2 ^ i else v

/-- Members of a set of bit positions below `n`, ascending. -/
def bitList (n v : Nat) : List Nat := (List.range n).filter (fun i => v.testBit i)

/-- Number of members below `n`. -/
def popCount (n v : Nat) : Nat := (bitList n v).length

/-- Number of bits of a value: the position after its highest 1. -/
def bitLen (v : Nat) : Nat := if v = 0 then 0 else Nat.log2 v + 1

/-- Rounded-up division. -/
def ceilDiv (a b : Nat) : Nat := (a + b - 1) / b

/-- Exact quotient a / b rounded half to even (00 R11). -/
def divRhe (a b : Nat) : Nat :=
  let q := a / b
  let r := a % b
  if 2 * r < b then q else if b < 2 * r then q + 1 else if q % 2 = 0 then q else q + 1

/-- Frame order modulo 2^32 (06 R121, 22 R440): `a` is at or after `b`. -/
def frameGe (a b : Nat) : Bool := (a + 2 ^ 32 - b % 2 ^ 32) % 2 ^ 32 < 2 ^ 31

/-- Frame order: `a` is later than `b`. -/
def frameGt (a b : Nat) : Bool := frameGe a b && a % 2 ^ 32 != b % 2 ^ 32

/-- A table keyed by a number, keys rising. -/
abbrev Tbl (α : Type) := List (Nat × α)

/-- The entry under a key. -/
def Tbl.get? {α : Type} : Tbl α → Nat → Option α
  | [], _ => none
  | (k, v) :: t, key => if k = key then some v else Tbl.get? t key

/-- The entry under a key, or a default. -/
def Tbl.getD {α : Type} (t : Tbl α) (key : Nat) (d : α) : α := (Tbl.get? t key).getD d

/-- Put an entry under a key, keeping the keys rising. -/
def Tbl.set {α : Type} : Tbl α → Nat → α → Tbl α
  | [], key, v => [(key, v)]
  | (k, w) :: t, key, v =>
    if key < k then (key, v) :: (k, w) :: t
    else if key = k then (key, v) :: t
    else (k, w) :: Tbl.set t key v

/-- Take the entry under a key out. -/
def Tbl.del {α : Type} (t : Tbl α) (key : Nat) : Tbl α := t.filter (fun e => e.1 != key)

/-- Every key lies at or above `lo` and the keys rise. -/
def Tbl.rises {α : Type} : Nat → Tbl α → Bool
  | _, [] => true
  | lo, (k, _) :: t => decide (lo ≤ k) && Tbl.rises (k + 1) t

/-- Change the entry at a position of a list. -/
def modAt {α : Type} (l : List α) (i : Nat) (f : α → α) : List α :=
  match l, i with
  | [], _ => []
  | x :: t, 0 => f x :: t
  | x :: t, i + 1 => x :: modAt t i f

/-- An element put into a list ordered by `le`, after its equals. -/
def insertBy {α : Type} (le : α → α → Bool) (x : α) : List α → List α
  | [] => [x]
  | y :: t => if le y x then y :: insertBy le x t else x :: y :: t

/-- A list in the order `le`, equal elements in their order. -/
def sortBy {α : Type} (le : α → α → Bool) (l : List α) : List α := l.foldl (fun acc x => insertBy le x acc) []

/-- Numbers ascending. -/
def sortNat (l : List Nat) : List Nat := sortBy (fun a b => decide (a ≤ b)) l

end Sys2Proof
end

