-- ==== Sys2Proof/Config.lean ====
section
/-! DEFINITION. What an instance is (00 R1 to R4) and the free values: what the spec leaves open. -/

namespace Sys2Proof

/-- The two builds (Table 00-1). -/
inductive Build where
  /-- Uhlyr-D, the die build. -/
  | die
  /-- Uhlyr-T, the tray chip. -/
  | trayChip
deriving DecidableEq, Repr

/-- The roles (Table 00-3); the leaf role belongs to the die build alone. -/
inductive Role where
  | leaf | tray | rack | spine | root
deriving DecidableEq, Repr

/-- ROLE encoding, also the level number of SOURCE and SRC_LEVEL (Tables 00-3, 17-1, 14-5). -/
def Role.code : Role → Nat
  | .leaf => 0
  | .tray => 1
  | .rack => 2
  | .spine => 3
  | .root => 4

/-- The role a ROLE value names on a tray chip (Table 00-3). -/
def Role.ofCode? : Nat → Option Role
  | 1 => some .tray
  | 2 => some .rack
  | 3 => some .spine
  | 4 => some .root
  | _ => none

/-- FREE VALUE (DESIGN CHOICE, log entry 4): the n-th open value. No body: nothing can be proved of what it is. -/
opaque Config.freeNat : Nat → Nat

/-- FREE VALUE (DESIGN CHOICE, log entry 4): the n-th open integer. -/
opaque Config.freeInt : Nat → Int

/-- FREE VALUE (DESIGN CHOICE, log entry 4): byte `a` of an open region of the stacks. -/
opaque Config.freeByte : Nat → Nat → Byte

/-- FREE VALUE (DESIGN CHOICE, log entry 4): the group of lane p under a reserved DOWN_SPLIT (13 R273). -/
opaque Config.freeGroup : Nat → Nat → Nat

/-- FREE VALUE (19 R401): the key that authenticates keeper images, fixed in ROM and stated nowhere; log entry 4. -/
opaque Config.keeperKey : Nat

/-- FREE VALUE (02 R27): the IEEE 1588-2019 clockIdentity of the instance, stated nowhere; log entry 4. -/
opaque Config.clockIdentity : Nat

/-- FREE VALUE (10 R225, OD 2542.00): the code by which TEST_TABLE tells FREE (0), PENDING (1) and ISSUED (2), stated nowhere;
log entry 24. -/
opaque Config.testCode : Nat → Nat

/-- FREE VALUE (OD 3000+p.6A): the bytes of GATE_CURRENT for a base (ns), a cycle (ns) and entries (GATES, DURATION), whose layout
is stated nowhere; log entry 24. -/
opaque Config.gateBytes : Nat → Nat → List (Nat × Nat) → Bytes

/-- FREE VALUE (18 R379, R381): how long, in 2^-16 ns, the block takes to read (0) or acknowledge (1) a message rung at a local time; its
users cut it to the 0.5 us and 1 us that those rules allow. Log entry 4. -/
opaque Config.mailboxTime : Nat → Nat → Nat

/-- FREE VALUE (15 R322, R329): how long, in 2^-16 ns, a target takes over a request that comes at a local time behind so many others; its
users cut it to the 4 us that R322 allows. Log entry 4. -/
opaque Config.serviceTime : Nat → Nat → Nat

end Sys2Proof
end

