-- ==== Sys2Proof/Machine/Dict.lean ====
section
/-! DEFINITION. The object dictionary (chapters 15 and 16): one row per object, each from its defining table. -/

namespace Sys2Proof.Machine

open Sys2Proof

/-- Object types (Table 00-5). Q8.24 is carried by no object of the dictionary. -/
inductive OType where
  | u8 | u16 | u32 | u64 | s16 | s32 | bool | time80 | vstring | domain | cmd
deriving DecidableEq, Repr

/-- Size in bytes of a scalar type (Table 00-5); 0 for the types whose length is carried by the transfer. -/
def OType.bytes : OType → Nat
  | .u8 => 1
  | .u16 => 2
  | .u32 => 4
  | .u64 => 8
  | .s16 => 2
  | .s32 => 4
  | .bool => 1
  | .time80 => 10
  | .vstring => 0
  | .domain => 0
  | .cmd => 1

/-- Access kinds (Table 00-6). -/
inductive Access where
  | ro | rw | wo | cmd | rwp
deriving DecidableEq, Repr

/-- How a default depends on the member or the role (16 R338). -/
inductive InitBy where
  /-- one default per build -/
  | build
  /-- the first members have the listed defaults (and the rest the build's) -/
  | byMember (l : List Nat)
  /-- the default is listed by the code of the role in force -/
  | byRole (l : List Nat)
  /-- the member's own number (GROUP) -/
  | ident
  /-- the member's number modulo 4 (WAVELENGTH) -/
  | mod4
  /-- a DOMAIN of U32 words: those of Uhlyr-D, those of the tray chip -/
  | words (d t : List Nat)
deriving DecidableEq, Repr

/-- One row of a defining table. A row of a family stands for all its members (16 R341). -/
structure Ob where
  name : String
  idx : Nat
  sub : Nat
  ty : OType
  accD : Access := .ro
  accT : Access := .ro
  /-- members the family has on Uhlyr-D: numbers fromD to membersD - 1 -/
  membersD : Nat := 1
  membersT : Nat := 1
  fromD : Nat := 0
  fromT : Nat := 0
  /-- offsets of the subindices the row stands for -/
  subs : List Nat := [0]
  /-- roles in which the object exists (16 R336) -/
  roles : List Role := [.leaf, .tray, .rack, .spine, .root]
  initD : Nat := 0
  initT : Nat := 0
  initBy : InitBy := .build
  /-- bytes and fill of a DOMAIN object's default -/
  len : Nat := 0
  fill : Nat := 0
  /-- stated range of the values, when hi is not 0 -/
  lo : Nat := 0
  hi : Nat := 0
deriving DecidableEq, Repr

/-- The number of an object: index and subindex as one key (16 R335). -/
def Ob.key (o : Ob) (m j : Nat) : Nat := (o.idx + m) * 256 + o.sub + j

/-- The Default column of a scalar object (16 R338). -/
def Ob.init (o : Ob) (b : Build) (r : Role) (m : Nat) : Nat :=
  let base := match b with
    | .die => o.initD
    | .trayChip => o.initT
  match o.initBy with
  | .build => base
  | .byMember l => l.getD m base
  | .byRole l => l.getD r.code base
  | .ident => m
  | .mod4 => m % 4
  | .words _ _ => base

/-- The Default column of a DOMAIN object (16 R338). -/
def Ob.initBytes (o : Ob) (b : Build) : Bytes :=
  match o.initBy, b with
  | .words d _, .die => (d.map (leBytes 4)).flatten
  | .words _ t, .trayChip => (t.map (leBytes 4)).flatten
  | _, _ => List.replicate o.len (BitVec.ofNat 8 o.fill)

/-- The access of an object on a build (Table 00-6; RWP is RW on Uhlyr-D). -/
def Ob.access (o : Ob) : Build → Access
  | .die => o.accD
  | .trayChip => o.accT

/-- Does the row have member m and offset j in this build and role (16 R336)? -/
def Ob.existsAt (o : Ob) (b : Build) (r : Role) (m j : Nat) : Bool :=
  (match b with
   | .die => decide (o.fromD ≤ m) && decide (m < o.membersD)
   | .trayChip => decide (o.fromT ≤ m) && decide (m < o.membersT))
  && o.roles.contains r && o.subs.contains j

/-- OD 1000.00 DEVICE_NAME (Table 15-6). -/
def Dict.deviceName : Ob := { name := "DEVICE_NAME", idx := 0x1000, sub := 0x00, ty := .vstring }
/-- OD 1001.00 HW_VERSION (Table 15-6). -/
def Dict.hwVersion : Ob := { name := "HW_VERSION", idx := 0x1001, sub := 0x00, ty := .u32, initD := 65537, initT := 65793 }
/-- OD 1002.00 ROLE (Table 00-3). -/
def Dict.role : Ob := { name := "ROLE", idx := 0x1002, sub := 0x00, ty := .u8, accD := .ro, accT := .rwp, initBy := (.byRole [0, 1, 2, 3, 4]), lo := 1, hi := 4 }
/-- OD 1003.00 GENERATION (Table 04-6). -/
def Dict.generation : Ob := { name := "GENERATION", idx := 0x1003, sub := 0x00, ty := .u8, accD := .rw, accT := .rwp, lo := 0, hi := 15 }
/-- OD 1004.00 KEEPER_VERSION (Table 16-4). -/
def Dict.keeperVersion : Ob := { name := "KEEPER_VERSION", idx := 0x1004, sub := 0x00, ty := .u32 }
/-- OD 1005.00 DICT_VERSION (Table 16-4). -/
def Dict.dictVersion : Ob := { name := "DICT_VERSION", idx := 0x1005, sub := 0x00, ty := .u16, initD := 1, initT := 1 }
/-- OD 1006.00 ROLE_ACTIVE (Table 16-4). -/
def Dict.roleActive : Ob := { name := "ROLE_ACTIVE", idx := 0x1006, sub := 0x00, ty := .u8, initBy := (.byRole [0, 1, 2, 3, 4]) }
/-- OD 1010.00 DIE_ID (Table 15-6). -/
def Dict.dieId : Ob := { name := "DIE_ID", idx := 0x1010, sub := 0x00, ty := .u32, accD := .rw, accT := .ro, initD := 0xffffffff, initT := 0 }
/-- OD 1020.00 DAP_UDP_PORT (Table 15-6). -/
def Dict.dapUdpPort : Ob := { name := "DAP_UDP_PORT", idx := 0x1020, sub := 0x00, ty := .u16, accD := .rw, accT := .rwp, membersD := 0, initD := 49300, initT := 49300 }
/-- OD 1021.00 MGMT_MAC (Table 15-6). -/
def Dict.mgmtMac : Ob := { name := "MGMT_MAC", idx := 0x1021, sub := 0x00, ty := .domain, accD := .rw, accT := .rwp, membersD := 0, len := 6 }
/-- OD 1022.00 MGMT_ADDR (Table 15-6). -/
def Dict.mgmtAddr : Ob := { name := "MGMT_ADDR", idx := 0x1022, sub := 0x00, ty := .domain, accD := .rw, accT := .rwp, membersD := 0, len := 16 }
/-- OD 1023.00 MGMT_PREFIX (Table 15-6). -/
def Dict.mgmtPrefix : Ob := { name := "MGMT_PREFIX", idx := 0x1023, sub := 0x00, ty := .u8, accD := .rw, accT := .rwp, membersD := 0, initD := 64, initT := 64, lo := 0, hi := 128 }
/-- OD 1024.00 MGMT_GATEWAY (Table 15-6). -/
def Dict.mgmtGateway : Ob := { name := "MGMT_GATEWAY", idx := 0x1024, sub := 0x00, ty := .domain, accD := .rw, accT := .rwp, membersD := 0, len := 16 }
/-- OD 1025.00 CONDUCTOR_ADDR (Table 15-6). -/
def Dict.conductorAddr : Ob := { name := "CONDUCTOR_ADDR", idx := 0x1025, sub := 0x00, ty := .domain, accD := .rw, accT := .rwp, membersD := 0, roles := [.root], len := 16 }
/-- OD 1026.00 CONDUCTOR_PORT (Table 15-6). -/
def Dict.conductorPort : Ob := { name := "CONDUCTOR_PORT", idx := 0x1026, sub := 0x00, ty := .u16, accD := .rw, accT := .rwp, membersD := 0, roles := [.root], initD := 49300, initT := 49300 }
/-- OD 1027.00 PEND_TIMEOUT (Table 15-6). -/
def Dict.pendTimeout : Ob := { name := "PEND_TIMEOUT", idx := 0x1027, sub := 0x00, ty := .u32, accD := .rw, accT := .rw, membersD := 0, initD := 0x989680, initT := 0x989680 }
/-- OD 1028.00 SEG_TIMEOUT (Table 15-6). -/
def Dict.segTimeout : Ob := { name := "SEG_TIMEOUT", idx := 0x1028, sub := 0x00, ty := .u32, accD := .rw, accT := .rw, initD := 0x5f5e100, initT := 0x5f5e100 }
/-- OD 1029.00 MGMT_DISCARDS (Table 15-6). -/
def Dict.mgmtDiscards : Ob := { name := "MGMT_DISCARDS", idx := 0x1029, sub := 0x00, ty := .u32, membersD := 0 }
/-- OD 102A.00 PUSH_DROPS (Table 15-6). -/
def Dict.pushDrops : Ob := { name := "PUSH_DROPS", idx := 0x102A, sub := 0x00, ty := .u32, membersD := 0, roles := [.root] }
/-- OD 102B.00 PENDING (Table 15-6). -/
def Dict.dapPending : Ob := { name := "PENDING", idx := 0x102B, sub := 0x00, ty := .u16, membersD := 0 }
/-- OD 102C.00 ORPHAN_RESPONSES (Table 15-6). -/
def Dict.orphanResponses : Ob := { name := "ORPHAN_RESPONSES", idx := 0x102C, sub := 0x00, ty := .u32, membersD := 0 }
/-- OD 102D.00 SERVED (Table 15-6). -/
def Dict.served : Ob := { name := "SERVED", idx := 0x102D, sub := 0x00, ty := .u64 }
/-- OD 102E.00 ROUTE_LOSTS (Table 15-6). -/
def Dict.routeLosts : Ob := { name := "ROUTE_LOSTS", idx := 0x102E, sub := 0x00, ty := .u32 }
/-- OD 1100.00 CLOCK_STATE (Table 02-9). -/
def Dict.clockState : Ob := { name := "CLOCK_STATE", idx := 0x1100, sub := 0x00, ty := .u8 }
/-- OD 1101.00 PTP_DOMAIN (Table 02-9). -/
def Dict.ptpDomain : Ob := { name := "PTP_DOMAIN", idx := 0x1101, sub := 0x00, ty := .u8, accD := .rw, accT := .rwp, lo := 0, hi := 127 }
/-- OD 1102.00 TIME_NOW (Table 02-9). -/
def Dict.timeNow : Ob := { name := "TIME_NOW", idx := 0x1102, sub := 0x00, ty := .time80 }
/-- OD 1103.00 OFFSET (Table 02-9). -/
def Dict.clockOffset : Ob := { name := "OFFSET", idx := 0x1103, sub := 0x00, ty := .s32 }
/-- OD 1104.00 PATH_DELAY (Table 02-9). -/
def Dict.pathDelay : Ob := { name := "PATH_DELAY", idx := 0x1104, sub := 0x00, ty := .u32 }
/-- OD 1105.00 LOG_SYNC_INTERVAL (Table 02-9). -/
def Dict.logSyncInterval : Ob := { name := "LOG_SYNC_INTERVAL", idx := 0x1105, sub := 0x00, ty := .s16, accD := .rw, accT := .rwp, initD := 65529, initT := 65529 }
/-- OD 1106.00 STEP_THRESHOLD (Table 02-9). -/
def Dict.stepThreshold : Ob := { name := "STEP_THRESHOLD", idx := 0x1106, sub := 0x00, ty := .u32, accD := .rw, accT := .rwp, initD := 1000, initT := 1000 }
/-- OD 1107.00 LOCK_THRESHOLD (Table 02-9). -/
def Dict.lockThreshold : Ob := { name := "LOCK_THRESHOLD", idx := 0x1107, sub := 0x00, ty := .u32, accD := .rw, accT := .rwp, initD := 500, initT := 500 }
/-- OD 1108.00 GM_SOURCE (Table 02-9). -/
def Dict.gmSource : Ob := { name := "GM_SOURCE", idx := 0x1108, sub := 0x00, ty := .u8, hi := 1 }
/-- OD 1109.00 UTC_OFFSET (Table 02-9). -/
def Dict.utcOffset : Ob := { name := "UTC_OFFSET", idx := 0x1109, sub := 0x00, ty := .s16, initD := 37, initT := 37 }
/-- OD 110A.00 ANCHORS (Table 02-9). -/
def Dict.anchors : Ob := { name := "ANCHORS", idx := 0x110A, sub := 0x00, ty := .u32 }
/-- OD 110B.00 STEPS (Table 02-9). -/
def Dict.steps : Ob := { name := "STEPS", idx := 0x110B, sub := 0x00, ty := .u32 }
/-- OD 110C.00 SLAVE_LANE (Table 02-9). -/
def Dict.slaveLane : Ob := { name := "SLAVE_LANE", idx := 0x110C, sub := 0x00, ty := .u16, initD := 65535, initT := 65535 }
/-- OD 1120+c.01 MODE (Table 02-5). -/
def Dict.shutterMode : Ob := { name := "MODE", idx := 0x1120, sub := 0x01, ty := .u8, accD := .rw, accT := .rw, membersD := 8, membersT := 8, initBy := (.byMember [2]), lo := 0, hi := 2 }
/-- OD 1120+c.02 START (Table 02-5). -/
def Dict.shutterStart : Ob := { name := "START", idx := 0x1120, sub := 0x02, ty := .time80, membersD := 8, membersT := 8 }
/-- OD 1120+c.03 PERIOD (Table 02-5). -/
def Dict.shutterPeriod : Ob := { name := "PERIOD", idx := 0x1120, sub := 0x03, ty := .u32, membersD := 8, membersT := 8, initBy := (.byMember [10000]) }
/-- OD 1120+c.04 BASE (Table 02-5). -/
def Dict.shutterBase : Ob := { name := "BASE", idx := 0x1120, sub := 0x04, ty := .u32, membersD := 8, membersT := 8 }
/-- OD 1120+c.05 WIDTH (Table 02-5). -/
def Dict.shutterWidth : Ob := { name := "WIDTH", idx := 0x1120, sub := 0x05, ty := .u16, accD := .rw, accT := .rw, membersD := 8, membersT := 8, fromD := 2, fromT := 2, initD := 20, initT := 20, lo := 4, hi := 65535 }
/-- OD 1120+c.06 FIRED (Table 02-5). -/
def Dict.shutterFired : Ob := { name := "FIRED", idx := 0x1120, sub := 0x06, ty := .u32, membersD := 8, membersT := 8 }
/-- OD 1120+c.07 MISSED (Table 02-5). -/
def Dict.shutterMissed : Ob := { name := "MISSED", idx := 0x1120, sub := 0x07, ty := .u32, membersD := 8, membersT := 8 }
/-- OD 1120+c.08 NEXT (Table 02-5). -/
def Dict.shutterNext : Ob := { name := "NEXT", idx := 0x1120, sub := 0x08, ty := .time80, membersD := 8, membersT := 8 }
/-- OD 1120+c.0A STAGE_START (Table 02-5). -/
def Dict.stageStart : Ob := { name := "STAGE_START", idx := 0x1120, sub := 0x0A, ty := .time80, accD := .rw, accT := .rw, membersD := 8, membersT := 8 }
/-- OD 1120+c.0B STAGE_PERIOD (Table 02-5). -/
def Dict.stagePeriod : Ob := { name := "STAGE_PERIOD", idx := 0x1120, sub := 0x0B, ty := .u32, accD := .rw, accT := .rw, membersD := 8, membersT := 8 }
/-- OD 1120+c.0C STAGE_BASE (Table 02-5). -/
def Dict.stageBase : Ob := { name := "STAGE_BASE", idx := 0x1120, sub := 0x0C, ty := .u32, accD := .rw, accT := .rw, membersD := 8, membersT := 8 }
/-- OD 1120+c.0D APPLY (Table 02-5). -/
def Dict.shutterApply : Ob := { name := "APPLY", idx := 0x1120, sub := 0x0D, ty := .cmd, accD := .cmd, accT := .cmd, membersD := 8, membersT := 8 }
/-- OD 1200.00 FRAME_NOW (Table 03-11). -/
def Dict.frameNow : Ob := { name := "FRAME_NOW", idx := 0x1200, sub := 0x00, ty := .u32 }
/-- OD 1201.00 ENGINE_STRIDE (Table 03-11). -/
def Dict.engineStride : Ob := { name := "ENGINE_STRIDE", idx := 0x1201, sub := 0x00, ty := .u8, accD := .rw, accT := .rw, initD := 5, initT := 5, lo := 1, hi := 255 }
/-- OD 1202.00 ENGINE_COUNT (Table 03-11). -/
def Dict.engineCount : Ob := { name := "ENGINE_COUNT", idx := 0x1202, sub := 0x00, ty := .u16, accD := .rw, accT := .rw, membersT := 0, initD := 2048, initT := 2048, lo := 1, hi := 2048 }
/-- OD 1203.00 MEM_LEVELS (Table 03-11). -/
def Dict.memLevels : Ob := { name := "MEM_LEVELS", idx := 0x1203, sub := 0x00, ty := .u8, accD := .rw, accT := .rw, initD := 4, initT := 4, lo := 1, hi := 4 }
/-- OD 1204.00 CHANNELS (Table 03-11). -/
def Dict.channels : Ob := { name := "CHANNELS", idx := 0x1204, sub := 0x00, ty := .u8, accD := .rw, accT := .rw, membersT := 0, initD := 32, initT := 32, lo := 0, hi := 32 }
/-- OD 1205.00 HOST_LINKS (Table 03-11). -/
def Dict.hostLinks : Ob := { name := "HOST_LINKS", idx := 0x1205, sub := 0x00, ty := .u8, accD := .rw, accT := .rw, membersT := 0, initD := 64, initT := 64, lo := 0, hi := 64 }
/-- OD 1206.00 AUTO_CLEAR (Table 03-11). -/
def Dict.autoClear : Ob := { name := "AUTO_CLEAR", idx := 0x1206, sub := 0x00, ty := .bool, accD := .rw, accT := .rw }
/-- OD 1210.00 DIE_POLICY (Table 03-11). -/
def Dict.diePolicy : Ob := { name := "DIE_POLICY", idx := 0x1210, sub := 0x00, ty := .u8, accD := .rw, accT := .rw, lo := 0, hi := 2 }
/-- OD 1211.00 ENGINE_POLICY (Table 03-11). -/
def Dict.enginePolicy : Ob := { name := "ENGINE_POLICY", idx := 0x1211, sub := 0x00, ty := .u8, accD := .rw, accT := .rw, membersT := 0, initD := 1, initT := 1, lo := 0, hi := 2 }
/-- OD 1212.00 DIE_HELD (Table 03-11). -/
def Dict.dieHeld : Ob := { name := "DIE_HELD", idx := 0x1212, sub := 0x00, ty := .u32 }
/-- OD 1213.00 DIE_EMPTY (Table 03-11). -/
def Dict.dieEmpty : Ob := { name := "DIE_EMPTY", idx := 0x1213, sub := 0x00, ty := .u32 }
/-- OD 1214.00 DIE_TORN (Table 03-11). -/
def Dict.dieTorn : Ob := { name := "DIE_TORN", idx := 0x1214, sub := 0x00, ty := .u32 }
/-- OD 1215.00 ENGINE_HELD (Table 03-11). -/
def Dict.engineHeld : Ob := { name := "ENGINE_HELD", idx := 0x1215, sub := 0x00, ty := .u32, membersT := 0 }
/-- OD 1216.00 ENGINE_SKIPPED (Table 03-11). -/
def Dict.engineSkipped : Ob := { name := "ENGINE_SKIPPED", idx := 0x1216, sub := 0x00, ty := .u32, membersT := 0 }
/-- OD 1217.00 ENGINE_TORN (Table 03-11). -/
def Dict.engineTorn : Ob := { name := "ENGINE_TORN", idx := 0x1217, sub := 0x00, ty := .u32, membersT := 0 }
/-- OD 1220.00 SAT_COUNT (Table 03-11). -/
def Dict.satCount : Ob := { name := "SAT_COUNT", idx := 0x1220, sub := 0x00, ty := .u32 }
/-- OD 1221.00 CLEAR_EVENTS (Table 03-11). -/
def Dict.clearEvents : Ob := { name := "CLEAR_EVENTS", idx := 0x1221, sub := 0x00, ty := .cmd, accD := .cmd, accT := .cmd }
/-- OD 1230.00 CMD_OPEN (Table 03-11). -/
def Dict.cmdOpen : Ob := { name := "CMD_OPEN", idx := 0x1230, sub := 0x00, ty := .u32, membersT := 0 }
/-- OD 1231.00 ORPHAN_ENDS (Table 03-11). -/
def Dict.orphanEnds : Ob := { name := "ORPHAN_ENDS", idx := 0x1231, sub := 0x00, ty := .u32, membersT := 0 }
/-- OD 1232.00 DUP_BEGINS (Table 03-11). -/
def Dict.dupBegins : Ob := { name := "DUP_BEGINS", idx := 0x1232, sub := 0x00, ty := .u32, membersT := 0 }
/-- OD 1233.00 CMD_TABLE_CLEAR (Table 03-11). -/
def Dict.cmdTableClear : Ob := { name := "CMD_TABLE_CLEAR", idx := 0x1233, sub := 0x00, ty := .cmd, accD := .cmd, accT := .cmd, membersT := 0 }
/-- OD 1240.01–1240.40 HEALTH_KIND (Table 03-11). -/
def Dict.healthKind : Ob := { name := "HEALTH_KIND", idx := 0x1240, sub := 0x01, ty := .u8, accD := .rw, accT := .rw, subs := (List.range 64) }
/-- OD 1250.00 LAST_DIE_SNAPSHOT (Table 03-11). -/
def Dict.lastDieSnapshot : Ob := { name := "LAST_DIE_SNAPSHOT", idx := 0x1250, sub := 0x00, ty := .domain }
/-- OD 1251.00 LAST_ENGINE_SNAPSHOT (Table 03-11). -/
def Dict.lastEngineSnapshot : Ob := { name := "LAST_ENGINE_SNAPSHOT", idx := 0x1251, sub := 0x00, ty := .domain, membersT := 0 }
/-- OD 2001.00 APPLY (Table 04-6). -/
def Dict.descApply : Ob := { name := "APPLY", idx := 0x2001, sub := 0x00, ty := .cmd, accD := .cmd, accT := .cmd }
/-- OD 2003.00 HOST_MASK (Table 04-6). -/
def Dict.hostMask : Ob := { name := "HOST_MASK", idx := 0x2003, sub := 0x00, ty := .domain, accD := .rw, accT := .rw, len := 32 }
/-- OD 2004.00 ENGINE_MASK (Table 04-6). -/
def Dict.engineMask : Ob := { name := "ENGINE_MASK", idx := 0x2004, sub := 0x00, ty := .u32, accD := .rw, accT := .rw, membersT := 0 }
/-- OD 2008.00 PEER_LAG (Table 04-6). -/
def Dict.peerLag : Ob := { name := "PEER_LAG", idx := 0x2008, sub := 0x00, ty := .u8, accD := .rw, accT := .rw, initD := 2, initT := 2, lo := 1, hi := 15 }
/-- OD 2010.00 TEMP_INPUT (Table 04-6). -/
def Dict.tempInput : Ob := { name := "TEMP_INPUT", idx := 0x2010, sub := 0x00, ty := .u8, accD := .rw, accT := .rw, initD := 255, initT := 255 }
/-- OD 2011.00 TEMP_BASE (Table 04-6). -/
def Dict.tempBase : Ob := { name := "TEMP_BASE", idx := 0x2011, sub := 0x00, ty := .u32, accD := .rw, accT := .rw }
/-- OD 2012.00 TEMP_STEP (Table 04-6). -/
def Dict.tempStep : Ob := { name := "TEMP_STEP", idx := 0x2012, sub := 0x00, ty := .u32, accD := .rw, accT := .rw }
/-- OD 2013.00 VOLT_INPUT (Table 04-6). -/
def Dict.voltInput : Ob := { name := "VOLT_INPUT", idx := 0x2013, sub := 0x00, ty := .u8, accD := .rw, accT := .rw, initD := 255, initT := 255 }
/-- OD 2014.00 VOLT_BASE (Table 04-6). -/
def Dict.voltBase : Ob := { name := "VOLT_BASE", idx := 0x2014, sub := 0x00, ty := .u32, accD := .rw, accT := .rw }
/-- OD 2015.00 VOLT_STEP (Table 04-6). -/
def Dict.voltStep : Ob := { name := "VOLT_STEP", idx := 0x2015, sub := 0x00, ty := .u32, accD := .rw, accT := .rw }
/-- OD 2016.00 FREQ_INPUT (Table 04-6). -/
def Dict.freqInput : Ob := { name := "FREQ_INPUT", idx := 0x2016, sub := 0x00, ty := .u8, accD := .rw, accT := .rw, initD := 255, initT := 255 }
/-- OD 2020.00 DIE_DESC (Table 04-6). -/
def Dict.dieDesc : Ob := { name := "DIE_DESC", idx := 0x2020, sub := 0x00, ty := .domain, accD := .rw, accT := .rw, len := 4096 }
/-- OD 2021.00 ENGINE_DESC (Table 04-6). -/
def Dict.engineDesc : Ob := { name := "ENGINE_DESC", idx := 0x2021, sub := 0x00, ty := .domain, accD := .rw, accT := .rw, membersT := 0, len := 512 }
/-- OD 2022.00 BIN_TABLES (Table 04-6). -/
def Dict.binTables : Ob := { name := "BIN_TABLES", idx := 0x2022, sub := 0x00, ty := .domain, accD := .rw, accT := .rw, len := 32768 }
/-- OD 2030.00 CENTRE_LIST (Table 04-6). -/
def Dict.centreList : Ob := { name := "CENTRE_LIST", idx := 0x2030, sub := 0x00, ty := .domain, accD := .rw, accT := .rw, membersD := 0, roles := [.tray], len := 32, fill := 255 }
/-- OD 2031.00 PEER_LATE_COUNT (Table 04-6). -/
def Dict.peerLateCount : Ob := { name := "PEER_LATE_COUNT", idx := 0x2031, sub := 0x00, ty := .u32 }
/-- OD 2100.00 DEV_PIPES (Table 05-10). -/
def Dict.devPipes : Ob := { name := "DEV_PIPES", idx := 0x2100, sub := 0x00, ty := .u16, initD := 16, initT := 384 }
/-- OD 2101.00 DEV_STAGES (Table 05-10). -/
def Dict.devStages : Ob := { name := "DEV_STAGES", idx := 0x2101, sub := 0x00, ty := .u8, initD := 13, initT := 17 }
/-- OD 2102.00 DEV_CLOCK (Table 05-10). -/
def Dict.devClock : Ob := { name := "DEV_CLOCK", idx := 0x2102, sub := 0x00, ty := .u16, initD := 1750, initT := 1800 }
/-- OD 2103.00 NODE_CAPACITY (Table 05-10). -/
def Dict.nodeCapacity : Ob := { name := "NODE_CAPACITY", idx := 0x2103, sub := 0x00, ty := .u32, initD := 0x33333, initT := 0x800000 }
/-- OD 2104.00 NODES_USED (Table 05-10). -/
def Dict.nodesUsed : Ob := { name := "NODES_USED", idx := 0x2104, sub := 0x00, ty := .u32 }
/-- OD 2105.00 EVALS (Table 05-10). -/
def Dict.devEvals : Ob := { name := "EVALS", idx := 0x2105, sub := 0x00, ty := .u64 }
/-- OD 2106.00 UNSCORED_ALL (Table 05-10). -/
def Dict.unscoredAll : Ob := { name := "UNSCORED_ALL", idx := 0x2106, sub := 0x00, ty := .u32, membersD := 0 }
/-- OD 2107.00 LINK_TABLE (Table 05-10). -/
def Dict.linkTable : Ob := { name := "LINK_TABLE", idx := 0x2107, sub := 0x00, ty := .domain }
/-- OD 2110+s.01 STATE (Table 05-10). -/
def Dict.slotState : Ob := { name := "STATE", idx := 0x2110, sub := 0x01, ty := .u8, membersD := 4, membersT := 16 }
/-- OD 2110+s.02 VKIND (Table 05-10). -/
def Dict.slotVkind : Ob := { name := "VKIND", idx := 0x2110, sub := 0x02, ty := .u8, accD := .rw, accT := .rw, membersD := 4, membersT := 16 }
/-- OD 2110+s.03 GEN_MASK (Table 05-10). -/
def Dict.slotGenMask : Ob := { name := "GEN_MASK", idx := 0x2110, sub := 0x03, ty := .u16, accD := .rw, accT := .rw, membersD := 4, membersT := 16, initD := 65535, initT := 65535 }
/-- OD 2110+s.04 PIPE_FIRST (Table 05-10). -/
def Dict.slotPipeFirst : Ob := { name := "PIPE_FIRST", idx := 0x2110, sub := 0x04, ty := .u16, accD := .rw, accT := .rw, membersD := 4, membersT := 16 }
/-- OD 2110+s.05 PIPE_COUNT (Table 05-10). -/
def Dict.slotPipeCount : Ob := { name := "PIPE_COUNT", idx := 0x2110, sub := 0x05, ty := .u16, accD := .rw, accT := .rw, membersD := 4, membersT := 16 }
/-- OD 2110+s.06 LINK (Table 05-10). -/
def Dict.slotLink : Ob := { name := "LINK", idx := 0x2110, sub := 0x06, ty := .u8, membersD := 4, membersT := 16 }
/-- OD 2110+s.07 TREES (Table 05-10). -/
def Dict.slotTrees : Ob := { name := "TREES", idx := 0x2110, sub := 0x07, ty := .u32, membersD := 4, membersT := 16 }
/-- OD 2110+s.08 DEPTH (Table 05-10). -/
def Dict.slotDepth : Ob := { name := "DEPTH", idx := 0x2110, sub := 0x08, ty := .u8, membersD := 4, membersT := 16 }
/-- OD 2110+s.09 NODES (Table 05-10). -/
def Dict.slotNodes : Ob := { name := "NODES", idx := 0x2110, sub := 0x09, ty := .u32, membersD := 4, membersT := 16 }
/-- OD 2110+s.0A MODEL_ID (Table 05-10). -/
def Dict.slotModelId : Ob := { name := "MODEL_ID", idx := 0x2110, sub := 0x0A, ty := .u32, membersD := 4, membersT := 16 }
/-- OD 2110+s.0B QUEUE_DEPTH (Table 05-10). -/
def Dict.slotQueueDepth : Ob := { name := "QUEUE_DEPTH", idx := 0x2110, sub := 0x0B, ty := .u32, accD := .ro, accT := .rw, membersD := 4, membersT := 16, initD := 256, initT := 65536, lo := 1, hi := 1048576 }
/-- OD 2110+s.0C QUEUED (Table 05-10). -/
def Dict.slotQueued : Ob := { name := "QUEUED", idx := 0x2110, sub := 0x0C, ty := .u32, membersD := 4, membersT := 16 }
/-- OD 2110+s.0D VECTORS (Table 05-10). -/
def Dict.slotVectors : Ob := { name := "VECTORS", idx := 0x2110, sub := 0x0D, ty := .u64, membersD := 4, membersT := 16 }
/-- OD 2110+s.0E UNSCORED (Table 05-10). -/
def Dict.slotUnscored : Ob := { name := "UNSCORED", idx := 0x2110, sub := 0x0E, ty := .u32, membersD := 0, membersT := 16 }
/-- OD 2110+s.0F DEFAULT_ROUTES (Table 05-10). -/
def Dict.slotDefaultRoutes : Ob := { name := "DEFAULT_ROUTES", idx := 0x2110, sub := 0x0F, ty := .u64, membersD := 4, membersT := 16 }
/-- OD 2110+s.10 LAST_SCORE (Table 05-10). -/
def Dict.slotLastScore : Ob := { name := "LAST_SCORE", idx := 0x2110, sub := 0x10, ty := .domain, membersD := 4, membersT := 16 }
/-- OD 2110+s.11 IMAGE (Table 06-7). -/
def Dict.slotImage : Ob := { name := "IMAGE", idx := 0x2110, sub := 0x11, ty := .domain, accD := .wo, accT := .wo, membersD := 4, membersT := 16 }
/-- OD 2110+s.12 SWAP_FRAME (Table 06-7). -/
def Dict.slotSwapFrame : Ob := { name := "SWAP_FRAME", idx := 0x2110, sub := 0x12, ty := .u32, accD := .rw, accT := .rw, membersD := 4, membersT := 16 }
/-- OD 2110+s.13 ACTIVATE (Table 06-7). -/
def Dict.slotActivate : Ob := { name := "ACTIVATE", idx := 0x2110, sub := 0x13, ty := .cmd, accD := .cmd, accT := .cmd, membersD := 4, membersT := 16 }
/-- OD 2110+s.14 STACK_ADDR (Table 06-7). -/
def Dict.slotStackAddr : Ob := { name := "STACK_ADDR", idx := 0x2110, sub := 0x14, ty := .u64, accD := .rw, accT := .rw, membersD := 0, membersT := 16 }
/-- OD 2110+s.15 LOAD_STACK (Table 06-7). -/
def Dict.slotLoadStack : Ob := { name := "LOAD_STACK", idx := 0x2110, sub := 0x15, ty := .cmd, accD := .cmd, accT := .cmd, membersD := 0, membersT := 16 }
/-- OD 2110+s.16 UNLOAD (Table 06-7). -/
def Dict.slotUnload : Ob := { name := "UNLOAD", idx := 0x2110, sub := 0x16, ty := .cmd, accD := .cmd, accT := .cmd, membersD := 4, membersT := 16 }
/-- OD 2110+s.17 LOAD_RESULT (Table 06-7). -/
def Dict.slotLoadResult : Ob := { name := "LOAD_RESULT", idx := 0x2110, sub := 0x17, ty := .u8, membersD := 4, membersT := 16, initD := 254, initT := 254 }
/-- OD 2110+s.18 RESIDENT (Table 06-7). -/
def Dict.slotResident : Ob := { name := "RESIDENT", idx := 0x2110, sub := 0x18, ty := .bool, membersD := 4, membersT := 16 }
/-- OD 2120.00 MODEL_KEY (Table 06-7). -/
def Dict.modelKey : Ob := { name := "MODEL_KEY", idx := 0x2120, sub := 0x00, ty := .domain, accD := .rw, accT := .rwp, len := 97 }
/-- OD 2121.00 SIG_POLICY (Table 06-7). -/
def Dict.sigPolicy : Ob := { name := "SIG_POLICY", idx := 0x2121, sub := 0x00, ty := .u8, accD := .rw, accT := .rwp, lo := 0, hi := 1 }
/-- OD 2122.00 SWAP_HOLD (Table 06-7). -/
def Dict.swapHold : Ob := { name := "SWAP_HOLD", idx := 0x2122, sub := 0x00, ty := .u8, accD := .rw, accT := .rw, initD := 16, initT := 16, lo := 1, hi := 255 }
/-- OD 2123.00 DEV_PHASE (Table 06-7). -/
def Dict.devPhase : Ob := { name := "DEV_PHASE", idx := 0x2123, sub := 0x00, ty := .u8, accD := .rw, accT := .rw, membersD := 0, initD := 1, initT := 1 }
/-- OD 2124.00 STACK_WRITE_ADDR (Table 06-7). -/
def Dict.stackWriteAddr : Ob := { name := "STACK_WRITE_ADDR", idx := 0x2124, sub := 0x00, ty := .u64, accD := .rw, accT := .rw, membersD := 0 }
/-- OD 2125.00 STACK_WRITE (Table 06-7). -/
def Dict.stackWrite : Ob := { name := "STACK_WRITE", idx := 0x2125, sub := 0x00, ty := .domain, accD := .wo, accT := .wo, membersD := 0 }
/-- OD 2126.00 LIBRARY_BASE (Table 06-7). -/
def Dict.libraryBase : Ob := { name := "LIBRARY_BASE", idx := 0x2126, sub := 0x00, ty := .u64, accD := .rw, accT := .rwp, membersD := 0 }
/-- OD 2127.00 LIBRARY_SIZE (Table 06-7). -/
def Dict.librarySize : Ob := { name := "LIBRARY_SIZE", idx := 0x2127, sub := 0x00, ty := .u64, accD := .rw, accT := .rwp, membersD := 0, initD := 0x400000000, initT := 0x400000000 }
/-- OD 2128.00 STREAM_REFUSED (Table 06-7). -/
def Dict.streamRefused : Ob := { name := "STREAM_REFUSED", idx := 0x2128, sub := 0x00, ty := .u32, membersD := 0 }
/-- OD 2210.00 FIELDS (Table 07-12). -/
def Dict.fields : Ob := { name := "FIELDS", idx := 0x2210, sub := 0x00, ty := .domain, accD := .rw, accT := .rw, len := 4096 }
/-- OD 2211.00 FIELD_COUNT (Table 07-12). -/
def Dict.fieldCount : Ob := { name := "FIELD_COUNT", idx := 0x2211, sub := 0x00, ty := .u16, accD := .rw, accT := .rw, lo := 0, hi := 256 }
/-- OD 2212.00 PROGRAM_ID (Table 07-12). -/
def Dict.programId : Ob := { name := "PROGRAM_ID", idx := 0x2212, sub := 0x00, ty := .u16, accD := .rw, accT := .rw }
/-- OD 2213.00 RED_MODE (Table 07-12). -/
def Dict.redMode : Ob := { name := "RED_MODE", idx := 0x2213, sub := 0x00, ty := .u8, accD := .rw, accT := .rw, initD := 1, initT := 1, lo := 0, hi := 1 }
/-- OD 2214.00 APPLY_FRAME (Table 07-12). -/
def Dict.applyFrame : Ob := { name := "APPLY_FRAME", idx := 0x2214, sub := 0x00, ty := .u32, accD := .rw, accT := .rw }
/-- OD 2215.00 APPLY (Table 07-12). -/
def Dict.programApply : Ob := { name := "APPLY", idx := 0x2215, sub := 0x00, ty := .cmd, accD := .cmd, accT := .cmd }
/-- OD 2216.00 CUR_PROGRAM_ID (Table 07-12). -/
def Dict.curProgramId : Ob := { name := "CUR_PROGRAM_ID", idx := 0x2216, sub := 0x00, ty := .u16 }
/-- OD 2217.00 CUR_MODE (Table 07-12). -/
def Dict.curMode : Ob := { name := "CUR_MODE", idx := 0x2217, sub := 0x00, ty := .u8, initD := 1, initT := 1 }
/-- OD 2218.00 CUR_FIELDS (Table 07-12). -/
def Dict.curFields : Ob := { name := "CUR_FIELDS", idx := 0x2218, sub := 0x00, ty := .domain, len := 4096 }
/-- OD 2220.00 DEADLINE (Table 07-12). -/
def Dict.deadline : Ob := { name := "DEADLINE", idx := 0x2220, sub := 0x00, ty := .u32, accD := .rw, accT := .rw, membersD := 0, initBy := (.byRole [0, 3000, 6000, 10000, 14000]) }
/-- OD 2221.00 SCORE_LAG (Table 07-12). -/
def Dict.scoreLag : Ob := { name := "SCORE_LAG", idx := 0x2221, sub := 0x00, ty := .u8, accD := .rw, accT := .rw, membersD := 0, roles := [.tray], initD := 8, initT := 8, lo := 1, hi := 255 }
/-- OD 2222.00 PENDING (Table 07-12). -/
def Dict.redPending : Ob := { name := "PENDING", idx := 0x2222, sub := 0x00, ty := .u16, membersD := 0 }
/-- OD 2223.00 LAST_RECORD (Table 07-12). -/
def Dict.lastRecord : Ob := { name := "LAST_RECORD", idx := 0x2223, sub := 0x00, ty := .domain }
/-- OD 2230.00 LATE_RECORDS (Table 07-12). -/
def Dict.lateRecords : Ob := { name := "LATE_RECORDS", idx := 0x2230, sub := 0x00, ty := .u32, membersD := 0 }
/-- OD 2231.00 UNEXPECTED (Table 07-12). -/
def Dict.unexpected : Ob := { name := "UNEXPECTED", idx := 0x2231, sub := 0x00, ty := .u32, membersD := 0 }
/-- OD 2232.00 FORCED_CLOSES (Table 07-12). -/
def Dict.forcedCloses : Ob := { name := "FORCED_CLOSES", idx := 0x2232, sub := 0x00, ty := .u32, membersD := 0 }
/-- OD 2233.00 GAP_CLOSES (Table 07-12). -/
def Dict.gapCloses : Ob := { name := "GAP_CLOSES", idx := 0x2233, sub := 0x00, ty := .u32, membersD := 0 }
/-- OD 2234.00 DEADLINE_CLOSES (Table 07-12). -/
def Dict.deadlineCloses : Ob := { name := "DEADLINE_CLOSES", idx := 0x2234, sub := 0x00, ty := .u32, membersD := 0 }
/-- OD 2240.00 SHEET_SELECT (Table 07-12). -/
def Dict.sheetSelect : Ob := { name := "SHEET_SELECT", idx := 0x2240, sub := 0x00, ty := .u32, accD := .rw, accT := .rw, membersD := 0, roles := [.root] }
/-- OD 2241.00 SHEET (Table 07-12). -/
def Dict.sheet : Ob := { name := "SHEET", idx := 0x2241, sub := 0x00, ty := .domain, membersD := 0, roles := [.root] }
/-- OD 2242.00 SHEET_PUSH (Table 07-12). -/
def Dict.sheetPush : Ob := { name := "SHEET_PUSH", idx := 0x2242, sub := 0x00, ty := .bool, accD := .rw, accT := .rw, membersD := 0, roles := [.root], initD := 1, initT := 1 }
/-- OD 2300.00 LAST_COUNT (Table 08-10). -/
def Dict.lastCount : Ob := { name := "LAST_COUNT", idx := 0x2300, sub := 0x00, ty := .u16, membersT := 0 }
/-- OD 2301.00 LATE_EWMA (Table 08-10). -/
def Dict.lateEwma : Ob := { name := "LATE_EWMA", idx := 0x2301, sub := 0x00, ty := .u32, membersT := 0 }
/-- OD 2302.00 LATE_SHIFT (Table 08-10). -/
def Dict.lateShift : Ob := { name := "LATE_SHIFT", idx := 0x2302, sub := 0x00, ty := .u8, accD := .rw, accT := .rw, membersT := 0, initD := 6, initT := 6, lo := 1, hi := 16 }
/-- OD 2303.00 SUSPECT_MODE (Table 08-10). -/
def Dict.suspectMode : Ob := { name := "SUSPECT_MODE", idx := 0x2303, sub := 0x00, ty := .u8, accD := .rw, accT := .rw, membersT := 0, initD := 1, initT := 1, lo := 0, hi := 1 }
/-- OD 2304.00 SUSPECT_FIXED (Table 08-10). -/
def Dict.suspectFixed : Ob := { name := "SUSPECT_FIXED", idx := 0x2304, sub := 0x00, ty := .u16, accD := .rw, accT := .rw, membersT := 0, initD := 16, initT := 16, lo := 1, hi := 1024 }
/-- OD 2305.00 AUTO_K (Table 08-10). -/
def Dict.autoK : Ob := { name := "AUTO_K", idx := 0x2305, sub := 0x00, ty := .u8, accD := .rw, accT := .rw, membersT := 0, initD := 4, initT := 4 }
/-- OD 2306.00 AUTO_FLOOR (Table 08-10). -/
def Dict.autoFloor : Ob := { name := "AUTO_FLOOR", idx := 0x2306, sub := 0x00, ty := .u8, accD := .rw, accT := .rw, membersT := 0, initD := 4, initT := 4 }
/-- OD 2307.00 SUSPECT_THR (Table 08-10). -/
def Dict.suspectThr : Ob := { name := "SUSPECT_THR", idx := 0x2307, sub := 0x00, ty := .u16, membersT := 0, initD := 65535, initT := 65535 }
/-- OD 2308.00 BARRIERS_SEEN (Table 08-10). -/
def Dict.barriersSeen : Ob := { name := "BARRIERS_SEEN", idx := 0x2308, sub := 0x00, ty := .u32, membersT := 0 }
/-- OD 2310.00 DRIFT_SHIFT (Table 08-10). -/
def Dict.driftShift : Ob := { name := "DRIFT_SHIFT", idx := 0x2310, sub := 0x00, ty := .u8, accD := .rw, accT := .rw, initD := 16, initT := 16, lo := 4, hi := 24 }
/-- OD 2311.00 DRIFT_MASK (Table 08-10). -/
def Dict.driftMask : Ob := { name := "DRIFT_MASK", idx := 0x2311, sub := 0x00, ty := .domain, accD := .rw, accT := .rw, len := 32 }
/-- OD 2312.00 DRIFT_SCORE (Table 08-10). -/
def Dict.driftScore : Ob := { name := "DRIFT_SCORE", idx := 0x2312, sub := 0x00, ty := .u16, initD := 65535, initT := 65535 }
/-- OD 2313.00 DRIFT_ARG (Table 08-10). -/
def Dict.driftArg : Ob := { name := "DRIFT_ARG", idx := 0x2313, sub := 0x00, ty := .u8 }
/-- OD 2314.00 BASELINES (Table 08-10). -/
def Dict.baselines : Ob := { name := "BASELINES", idx := 0x2314, sub := 0x00, ty := .domain, len := 2048 }
/-- OD 2315.00 BASELINE_RESET (Table 08-10). -/
def Dict.baselineReset : Ob := { name := "BASELINE_RESET", idx := 0x2315, sub := 0x00, ty := .cmd, accD := .cmd, accT := .cmd }
/-- OD 232x.01 THRESHOLD (Table 08-10). -/
def Dict.loopThreshold : Ob := { name := "THRESHOLD", idx := 0x2320, sub := 0x01, ty := .u16, membersD := 2, membersT := 2, initBy := (.byMember [64, 0xF000]) }
/-- OD 232x.02 THR_INIT (Table 08-10). -/
def Dict.loopThrInit : Ob := { name := "THR_INIT", idx := 0x2320, sub := 0x02, ty := .u16, accD := .rw, accT := .rw, membersD := 2, membersT := 2, initBy := (.byMember [64, 0xF000]) }
/-- OD 232x.03 THR_MIN (Table 08-10). -/
def Dict.loopThrMin : Ob := { name := "THR_MIN", idx := 0x2320, sub := 0x03, ty := .u16, accD := .rw, accT := .rw, membersD := 2, membersT := 2, initBy := (.byMember [8, 0x8000]) }
/-- OD 232x.04 THR_MAX (Table 08-10). -/
def Dict.loopThrMax : Ob := { name := "THR_MAX", idx := 0x2320, sub := 0x04, ty := .u16, accD := .rw, accT := .rw, membersD := 2, membersT := 2, initD := 65534, initT := 65534 }
/-- OD 232x.05 GAIN (Table 08-10). -/
def Dict.loopGain : Ob := { name := "GAIN", idx := 0x2320, sub := 0x05, ty := .u16, accD := .rw, accT := .rw, membersD := 2, membersT := 2, initD := 256, initT := 256 }
/-- OD 232x.06 FLAGS (Table 08-10). -/
def Dict.loopFlags : Ob := { name := "FLAGS", idx := 0x2320, sub := 0x06, ty := .u32, membersD := 2, membersT := 2 }
/-- OD 232x.07 VALUES (Table 08-10). -/
def Dict.loopValues : Ob := { name := "VALUES", idx := 0x2320, sub := 0x07, ty := .u64, membersD := 2, membersT := 2 }
/-- OD 2322.00 TARGET (Table 08-10). -/
def Dict.target : Ob := { name := "TARGET", idx := 0x2322, sub := 0x00, ty := .u32, accD := .rw, accT := .rw, initD := 4295, initT := 4295 }
/-- OD 2324.00 VERDICT_SLOT (Table 08-10). -/
def Dict.verdictSlot : Ob := { name := "VERDICT_SLOT", idx := 0x2324, sub := 0x00, ty := .u8, accD := .rw, accT := .rw, initD := 255, initT := 255 }
/-- OD 2325.00 ROUTE_LIMIT (Table 08-10). -/
def Dict.routeLimit : Ob := { name := "ROUTE_LIMIT", idx := 0x2325, sub := 0x00, ty := .u16, accD := .rw, accT := .rw, initD := 16, initT := 16 }
/-- OD 2330.00 VERDICT (Table 08-10). -/
def Dict.verdict : Ob := { name := "VERDICT", idx := 0x2330, sub := 0x00, ty := .u8 }
/-- OD 2331.00 RECENT (Table 08-10). -/
def Dict.recent : Ob := { name := "RECENT", idx := 0x2331, sub := 0x00, ty := .u8 }
/-- OD 2332.00 SUSPECT_ANOM (Table 08-10). -/
def Dict.suspectAnom : Ob := { name := "SUSPECT_ANOM", idx := 0x2332, sub := 0x00, ty := .u8, accD := .rw, accT := .rw, initD := 4, initT := 4, lo := 1, hi := 64 }
/-- OD 2333.00 CALM_WATCH (Table 08-10). -/
def Dict.calmWatch : Ob := { name := "CALM_WATCH", idx := 0x2333, sub := 0x00, ty := .u32, accD := .rw, accT := .rw, initD := 1000, initT := 1000 }
/-- OD 2334.00 CALM_SUSPECT (Table 08-10). -/
def Dict.calmSuspect : Ob := { name := "CALM_SUSPECT", idx := 0x2334, sub := 0x00, ty := .u32, accD := .rw, accT := .rw, initD := 0x186a0, initT := 0x186a0 }
/-- OD 2335.00 VERDICT_CLEAR (Table 08-10). -/
def Dict.verdictClear : Ob := { name := "VERDICT_CLEAR", idx := 0x2335, sub := 0x00, ty := .cmd, accD := .cmd, accT := .cmd }
/-- OD 2336.00 MISMATCHES (Table 08-10). -/
def Dict.mismatches : Ob := { name := "MISMATCHES", idx := 0x2336, sub := 0x00, ty := .u32 }
/-- OD 2340.00 COND_SELECT (Table 08-10). -/
def Dict.condSelect : Ob := { name := "COND_SELECT", idx := 0x2340, sub := 0x00, ty := .u8, accD := .rw, accT := .rw }
/-- OD 2341.00 COND_MIN (Table 08-10). -/
def Dict.condMin : Ob := { name := "COND_MIN", idx := 0x2341, sub := 0x00, ty := .u16, accD := .rw, accT := .rw, initD := 8, initT := 8 }
/-- OD 2342.00 COND_RATIO (Table 08-10). -/
def Dict.condRatio : Ob := { name := "COND_RATIO", idx := 0x2342, sub := 0x00, ty := .u8, accD := .rw, accT := .rw, initD := 8, initT := 8, lo := 1, hi := 255 }
/-- OD 2343.00 COND_CELLS (Table 08-10). -/
def Dict.condCells : Ob := { name := "COND_CELLS", idx := 0x2343, sub := 0x00, ty := .domain, len := 768 }
/-- OD 2344.00 COND_UNBINNED (Table 08-10). -/
def Dict.condUnbinned : Ob := { name := "COND_UNBINNED", idx := 0x2344, sub := 0x00, ty := .u32 }
/-- OD 2350.00 LIVE_LAG (Table 08-10). -/
def Dict.liveLag : Ob := { name := "LIVE_LAG", idx := 0x2350, sub := 0x00, ty := .u8, accD := .rw, accT := .rw, membersD := 0, initD := 2, initT := 2, lo := 1, hi := 15 }
/-- OD 2351.00 QUIET_FRAMES (Table 08-10). -/
def Dict.quietFrames : Ob := { name := "QUIET_FRAMES", idx := 0x2351, sub := 0x00, ty := .u32, accD := .rw, accT := .rw, membersD := 0, initD := 3, initT := 3 }
/-- OD 2352.00 LOST_FRAMES (Table 08-10). -/
def Dict.lostFrames : Ob := { name := "LOST_FRAMES", idx := 0x2352, sub := 0x00, ty := .u32, accD := .rw, accT := .rw, membersD := 0, initD := 10000, initT := 10000 }
/-- OD 2353.00 STALL_NS (Table 08-10). -/
def Dict.stallNs : Ob := { name := "STALL_NS", idx := 0x2353, sub := 0x00, ty := .u32, accD := .rw, accT := .rw, membersD := 0, roles := [.tray], initD := 0x2faf080, initT := 0x2faf080 }
/-- OD 2354.00 LIVENESS_TABLE (Table 08-10). -/
def Dict.livenessTable : Ob := { name := "LIVENESS_TABLE", idx := 0x2354, sub := 0x00, ty := .domain, membersD := 0 }
/-- OD 2360.00 ENGINE_SLOT (Table 08-10). -/
def Dict.engineSlot : Ob := { name := "ENGINE_SLOT", idx := 0x2360, sub := 0x00, ty := .u8, accD := .rw, accT := .rw, membersD := 0, roles := [.tray], initD := 255, initT := 255 }
/-- OD 2361.00 ENGINE_THR (Table 08-10). -/
def Dict.engineThr : Ob := { name := "ENGINE_THR", idx := 0x2361, sub := 0x00, ty := .u16, accD := .rw, accT := .rw, membersD := 0, roles := [.tray], initD := 63488, initT := 63488 }
/-- OD 2362.00 ENGINE_FLAGS (Table 08-10). -/
def Dict.engineFlags : Ob := { name := "ENGINE_FLAGS", idx := 0x2362, sub := 0x00, ty := .u32, membersD := 0, roles := [.tray] }
/-- OD 2400.00 MEMBER_EPOCH (Table 09-11). -/
def Dict.memberEpoch : Ob := { name := "MEMBER_EPOCH", idx := 0x2400, sub := 0x00, ty := .u32 }
/-- OD 2401.00 MY_JOB (Table 09-11). -/
def Dict.myJob : Ob := { name := "MY_JOB", idx := 0x2401, sub := 0x00, ty := .u16, membersT := 0, initD := 65535, initT := 65535 }
/-- OD 2402.00 MY_MEMBER (Table 09-11). -/
def Dict.myMember : Ob := { name := "MY_MEMBER", idx := 0x2402, sub := 0x00, ty := .bool, membersT := 0 }
/-- OD 2403.00 JOB_SIZE (Table 09-11). -/
def Dict.jobSize : Ob := { name := "JOB_SIZE", idx := 0x2403, sub := 0x00, ty := .u32, membersT := 0 }
/-- OD 2404.00 MEMBER_TABLE (Table 09-11). -/
def Dict.memberTable : Ob := { name := "MEMBER_TABLE", idx := 0x2404, sub := 0x00, ty := .domain, membersD := 0 }
/-- OD 2405.00 JOB_STATE (Table 09-11). -/
def Dict.jobState : Ob := { name := "JOB_STATE", idx := 0x2405, sub := 0x00, ty := .u8, membersT := 0 }
/-- OD 2408.00 EPOCH_STAGE (Table 09-11). -/
def Dict.epochStage : Ob := { name := "EPOCH_STAGE", idx := 0x2408, sub := 0x00, ty := .domain, accD := .rw, accT := .rw, membersD := 0, roles := [.root] }
/-- OD 2409.00 EPOCH_FIRST_FRAME (Table 09-11). -/
def Dict.epochFirstFrame : Ob := { name := "EPOCH_FIRST_FRAME", idx := 0x2409, sub := 0x00, ty := .u32, accD := .rw, accT := .rw, membersD := 0, roles := [.root] }
/-- OD 240A.00 EPOCH_ISSUE (Table 09-11). -/
def Dict.epochIssue : Ob := { name := "EPOCH_ISSUE", idx := 0x240A, sub := 0x00, ty := .cmd, accD := .cmd, accT := .cmd, membersD := 0, roles := [.root] }
/-- OD 240B.00 EPOCH_BACKLOG (Table 09-11). -/
def Dict.epochBacklog : Ob := { name := "EPOCH_BACKLOG", idx := 0x240B, sub := 0x00, ty := .u32, membersD := 0 }
/-- OD 240C.00 EPOCH_LAST_ISSUED (Table 09-11). -/
def Dict.epochLastIssued : Ob := { name := "EPOCH_LAST_ISSUED", idx := 0x240C, sub := 0x00, ty := .u32, membersD := 0, roles := [.root] }
/-- OD 2410.00 RELEASE_MARGIN (Table 09-11). -/
def Dict.releaseMargin : Ob := { name := "RELEASE_MARGIN", idx := 0x2410, sub := 0x00, ty := .u32, accD := .rw, accT := .rw, membersD := 0, roles := [.root], initD := 8000, initT := 8000 }
/-- OD 2411.00 ARM_MIN (Table 09-11). -/
def Dict.armMin : Ob := { name := "ARM_MIN", idx := 0x2411, sub := 0x00, ty := .u32, accD := .rw, accT := .rw, membersT := 0, initD := 500, initT := 500 }
/-- OD 2412.00 BARRIER_REPORT (Table 09-11). -/
def Dict.barrierReport : Ob := { name := "BARRIER_REPORT", idx := 0x2412, sub := 0x00, ty := .u32, accD := .rw, accT := .rw, membersD := 0, roles := [.root], initD := 0x5f5e100, initT := 0x5f5e100 }
/-- OD 2413.00 BARRIERS_OPEN (Table 09-11). -/
def Dict.barriersOpen : Ob := { name := "BARRIERS_OPEN", idx := 0x2413, sub := 0x00, ty := .u16, membersD := 0 }
/-- OD 2414.00 LATE_RELEASES (Table 09-11). -/
def Dict.lateReleases : Ob := { name := "LATE_RELEASES", idx := 0x2414, sub := 0x00, ty := .u32, membersT := 0 }
/-- OD 2415.00 LAST_RELEASE (Table 09-11). -/
def Dict.lastRelease : Ob := { name := "LAST_RELEASE", idx := 0x2415, sub := 0x00, ty := .domain, membersT := 0 }
/-- OD 2416.00 NON_MEMBER_ARRIVALS (Table 09-11). -/
def Dict.nonMemberArrivals : Ob := { name := "NON_MEMBER_ARRIVALS", idx := 0x2416, sub := 0x00, ty := .u32, membersD := 0 }
/-- OD 2417.00 BARRIER_SELECT (Table 09-11). -/
def Dict.barrierSelect : Ob := { name := "BARRIER_SELECT", idx := 0x2417, sub := 0x00, ty := .u32, accD := .rw, accT := .rw, membersD := 0, roles := [.root] }
/-- OD 2418.00 BARRIER_MISSING (Table 09-11). -/
def Dict.barrierMissing : Ob := { name := "BARRIER_MISSING", idx := 0x2418, sub := 0x00, ty := .domain, membersD := 0, roles := [.root] }
/-- OD 2420.00 BCAST_TREE (Table 09-11). -/
def Dict.bcastTree : Ob := { name := "BCAST_TREE", idx := 0x2420, sub := 0x00, ty := .u16, accD := .rw, accT := .rw, membersD := 0, roles := [.root], lo := 0, hi := 4094 }
/-- OD 2421.00 BCAST_OP (Table 09-11). -/
def Dict.bcastOp : Ob := { name := "BCAST_OP", idx := 0x2421, sub := 0x00, ty := .u8, accD := .rw, accT := .rw, membersD := 0, roles := [.root] }
/-- OD 2422.00 BCAST_PAYLOAD (Table 09-11). -/
def Dict.bcastPayload : Ob := { name := "BCAST_PAYLOAD", idx := 0x2422, sub := 0x00, ty := .domain, accD := .rw, accT := .rw, membersD := 0, roles := [.root] }
/-- OD 2423.00 BCAST_JOB (Table 09-11). -/
def Dict.bcastJob : Ob := { name := "BCAST_JOB", idx := 0x2423, sub := 0x00, ty := .u16, accD := .rw, accT := .rw, membersD := 0, roles := [.root] }
/-- OD 2424.00 BCAST_ISSUE (Table 09-11). -/
def Dict.bcastIssue : Ob := { name := "BCAST_ISSUE", idx := 0x2424, sub := 0x00, ty := .cmd, accD := .cmd, accT := .cmd, membersD := 0, roles := [.root] }
/-- OD 2425.00 NACK_TIMEOUT (Table 09-11). -/
def Dict.nackTimeout : Ob := { name := "NACK_TIMEOUT", idx := 0x2425, sub := 0x00, ty := .u32, accD := .rw, accT := .rw, membersD := 0, initD := 20000, initT := 20000 }
/-- OD 2426.00 ACK_HOLD (Table 09-11). -/
def Dict.ackHold : Ob := { name := "ACK_HOLD", idx := 0x2426, sub := 0x00, ty := .u32, accD := .rw, accT := .rw, membersD := 0, initD := 5000, initT := 5000 }
/-- OD 2427.00 ACK_REPORT (Table 09-11). -/
def Dict.ackReport : Ob := { name := "ACK_REPORT", idx := 0x2427, sub := 0x00, ty := .u32, accD := .rw, accT := .rw, membersD := 0, roles := [.root], initD := 0xf4240, initT := 0xf4240 }
/-- OD 2428.00 ACK_SELECT (Table 09-11). -/
def Dict.ackSelect : Ob := { name := "ACK_SELECT", idx := 0x2428, sub := 0x00, ty := .u16, accD := .rw, accT := .rw, membersD := 0, roles := [.root] }
/-- OD 2429.00 ACK_MISSING (Table 09-11). -/
def Dict.ackMissing : Ob := { name := "ACK_MISSING", idx := 0x2429, sub := 0x00, ty := .domain, membersD := 0, roles := [.root] }
/-- OD 242A.00 TREES_ACTIVE (Table 09-11). -/
def Dict.treesActive : Ob := { name := "TREES_ACTIVE", idx := 0x242A, sub := 0x00, ty := .u16, membersD := 0, initD := 1, initT := 1 }
/-- OD 242B.00 REISSUES (Table 09-11). -/
def Dict.reissues : Ob := { name := "REISSUES", idx := 0x242B, sub := 0x00, ty := .u32, membersD := 0 }
/-- OD 242C.00 DUPLICATES (Table 09-11). -/
def Dict.duplicates : Ob := { name := "DUPLICATES", idx := 0x242C, sub := 0x00, ty := .u32 }
/-- OD 2500.00 LOUPE_COUNT (Table 10-12). -/
def Dict.loupeCount : Ob := { name := "LOUPE_COUNT", idx := 0x2500, sub := 0x00, ty := .u8, accD := .rw, accT := .rw, membersT := 0, initD := 32, initT := 32, lo := 0, hi := 32 }
/-- OD 2501.00 UNOPENED_LINES (Table 10-12). -/
def Dict.unopenedLines : Ob := { name := "UNOPENED_LINES", idx := 0x2501, sub := 0x00, ty := .u64, membersT := 0 }
/-- OD 2502.00 DIGESTS_EMITTED (Table 10-12). -/
def Dict.digestsEmitted : Ob := { name := "DIGESTS_EMITTED", idx := 0x2502, sub := 0x00, ty := .u32, membersT := 0 }
/-- OD 2503.00 TAGS_OPEN (Table 10-12). -/
def Dict.tagsOpen : Ob := { name := "TAGS_OPEN", idx := 0x2503, sub := 0x00, ty := .u16, membersT := 0 }
/-- OD 2504.00 DIGEST_RING (Table 10-12). -/
def Dict.digestRing : Ob := { name := "DIGEST_RING", idx := 0x2504, sub := 0x00, ty := .domain, membersT := 0 }
/-- OD 2510.00 BRACKET_CLASSES (Table 10-12). -/
def Dict.bracketClasses : Ob := { name := "BRACKET_CLASSES", idx := 0x2510, sub := 0x00, ty := .u16, accD := .rw, accT := .rw, membersT := 0 }
/-- OD 2511.00 SEED (Table 10-12). -/
def Dict.seed : Ob := { name := "SEED", idx := 0x2511, sub := 0x00, ty := .u32, accD := .rw, accT := .rw, membersT := 0 }
/-- OD 2512.00 F_NORMAL (Table 10-12). -/
def Dict.fNormal : Ob := { name := "F_NORMAL", idx := 0x2512, sub := 0x00, ty := .u16, accD := .rw, accT := .rw, membersT := 0, initD := 1, initT := 1, lo := 1, hi := 1024 }
/-- OD 2513.00 F_WATCH (Table 10-12). -/
def Dict.fWatch : Ob := { name := "F_WATCH", idx := 0x2513, sub := 0x00, ty := .u16, accD := .rw, accT := .rw, membersT := 0, initD := 16, initT := 16, lo := 1, hi := 1024 }
/-- OD 2514.00 F_SUSPECT (Table 10-12). -/
def Dict.fSuspect : Ob := { name := "F_SUSPECT", idx := 0x2514, sub := 0x00, ty := .u16, accD := .rw, accT := .rw, membersT := 0, initD := 256, initT := 256, lo := 1, hi := 1024 }
/-- OD 2515.00 F_ENGINE (Table 10-12). -/
def Dict.fEngine : Ob := { name := "F_ENGINE", idx := 0x2515, sub := 0x00, ty := .domain, membersT := 0 }
/-- OD 2516.00 BRACKET_WAIT (Table 10-12). -/
def Dict.bracketWait : Ob := { name := "BRACKET_WAIT", idx := 0x2516, sub := 0x00, ty := .u32, accD := .rw, accT := .rw, membersT := 0, initD := 0x5f5e100, initT := 0x5f5e100 }
/-- OD 2517.00 BRACKET_SELECTED (Table 10-12). -/
def Dict.bracketSelected : Ob := { name := "BRACKET_SELECTED", idx := 0x2517, sub := 0x00, ty := .u64, membersT := 0 }
/-- OD 2518.00 BRACKET_COMPARED (Table 10-12). -/
def Dict.bracketCompared : Ob := { name := "BRACKET_COMPARED", idx := 0x2518, sub := 0x00, ty := .u64, membersT := 0 }
/-- OD 2519.00 BRACKET_MISMATCHED (Table 10-12). -/
def Dict.bracketMismatched : Ob := { name := "BRACKET_MISMATCHED", idx := 0x2519, sub := 0x00, ty := .u32, membersT := 0 }
/-- OD 251A.00 BRACKET_NO_SLOT (Table 10-12). -/
def Dict.bracketNoSlot : Ob := { name := "BRACKET_NO_SLOT", idx := 0x251A, sub := 0x00, ty := .u32, membersT := 0 }
/-- OD 251B.00 BRACKET_DECLINED (Table 10-12). -/
def Dict.bracketDeclined : Ob := { name := "BRACKET_DECLINED", idx := 0x251B, sub := 0x00, ty := .u32, membersT := 0 }
/-- OD 251C.00 BRACKET_TIMEOUTS (Table 10-12). -/
def Dict.bracketTimeouts : Ob := { name := "BRACKET_TIMEOUTS", idx := 0x251C, sub := 0x00, ty := .u32, membersT := 0 }
/-- OD 251D.00 BRACKET_OPEN (Table 10-12). -/
def Dict.bracketOpen : Ob := { name := "BRACKET_OPEN", idx := 0x251D, sub := 0x00, ty := .u8, membersT := 0 }
/-- OD 2520.00 OVERLAY_ARM (Table 10-12). -/
def Dict.overlayArm : Ob := { name := "OVERLAY_ARM", idx := 0x2520, sub := 0x00, ty := .cmd, accD := .cmd, accT := .cmd, membersT := 0 }
/-- OD 2521.00 OVERLAY_ORDINAL (Table 10-12). -/
def Dict.overlayOrdinal : Ob := { name := "OVERLAY_ORDINAL", idx := 0x2521, sub := 0x00, ty := .u32, membersT := 0 }
/-- OD 2522.00 OVERLAY_PAIRS (Table 10-12). -/
def Dict.overlayPairs : Ob := { name := "OVERLAY_PAIRS", idx := 0x2522, sub := 0x00, ty := .domain, accD := .rw, accT := .rw, membersD := 0, len := 128, fill := 255 }
/-- OD 2523.00 OVERLAY_WAIT (Table 10-12). -/
def Dict.overlayWait : Ob := { name := "OVERLAY_WAIT", idx := 0x2523, sub := 0x00, ty := .u32, accD := .rw, accT := .rw, membersD := 0, initD := 0x3b9aca00, initT := 0x3b9aca00 }
/-- OD 2524.00 OVERLAY_COMPARED (Table 10-12). -/
def Dict.overlayCompared : Ob := { name := "OVERLAY_COMPARED", idx := 0x2524, sub := 0x00, ty := .u64, membersD := 0 }
/-- OD 2525.00 OVERLAY_MISMATCHED (Table 10-12). -/
def Dict.overlayMismatched : Ob := { name := "OVERLAY_MISMATCHED", idx := 0x2525, sub := 0x00, ty := .u32, membersD := 0 }
/-- OD 2526.00 OVERLAY_TIMEOUTS (Table 10-12). -/
def Dict.overlayTimeouts : Ob := { name := "OVERLAY_TIMEOUTS", idx := 0x2526, sub := 0x00, ty := .u32, membersD := 0 }
/-- OD 2527.00 OVERLAY_UNCLAIMED (Table 10-12). -/
def Dict.overlayUnclaimed : Ob := { name := "OVERLAY_UNCLAIMED", idx := 0x2527, sub := 0x00, ty := .u32, membersD := 0, roles := [.root] }
/-- OD 2530.00 BOUND (Table 10-12). -/
def Dict.bound : Ob := { name := "BOUND", idx := 0x2530, sub := 0x00, ty := .u32, membersT := 0, initD := 0x7f800000, initT := 0x7f800000 }
/-- OD 2531.00 BOUND_TARGET (Table 10-12). -/
def Dict.boundTarget : Ob := { name := "BOUND_TARGET", idx := 0x2531, sub := 0x00, ty := .u32, accD := .rw, accT := .rw, membersT := 0, initD := 0x358637bd, initT := 0x358637bd }
/-- OD 2532.00 BOUND_ENFORCE (Table 10-12). -/
def Dict.boundEnforce : Ob := { name := "BOUND_ENFORCE", idx := 0x2532, sub := 0x00, ty := .bool, accD := .rw, accT := .rw, membersT := 0 }
/-- OD 2533.00 BOUND_PERIOD (Table 10-12). -/
def Dict.boundPeriod : Ob := { name := "BOUND_PERIOD", idx := 0x2533, sub := 0x00, ty := .u32, accD := .rw, accT := .rw, membersT := 0, initD := 60, initT := 60, lo := 1, hi := 86400 }
/-- OD 2534.00 PRIOR_N (Table 10-12). -/
def Dict.priorN : Ob := { name := "PRIOR_N", idx := 0x2534, sub := 0x00, ty := .u64, accD := .rw, accT := .rw, membersT := 0 }
/-- OD 2535.00 PRIOR_K (Table 10-12). -/
def Dict.priorK : Ob := { name := "PRIOR_K", idx := 0x2535, sub := 0x00, ty := .u32, accD := .rw, accT := .rw, membersT := 0 }
/-- OD 2536.00 BOUND_TERMS (Table 10-12). -/
def Dict.boundTerms : Ob := { name := "BOUND_TERMS", idx := 0x2536, sub := 0x00, ty := .domain, membersT := 0, len := 40 }
/-- OD 2537.00 BOUND_RESET (Table 10-12). -/
def Dict.boundReset : Ob := { name := "BOUND_RESET", idx := 0x2537, sub := 0x00, ty := .cmd, accD := .cmd, accT := .cmd, membersT := 0 }
/-- OD 2538.00 F_BOUND (Table 10-12). -/
def Dict.fBound : Ob := { name := "F_BOUND", idx := 0x2538, sub := 0x00, ty := .u16, membersT := 0, initD := 1, initT := 1 }
/-- OD 2540.00 TEST_REQUEST (Table 10-12). -/
def Dict.testRequest : Ob := { name := "TEST_REQUEST", idx := 0x2540, sub := 0x00, ty := .cmd, accD := .cmd, accT := .cmd, membersT := 0 }
/-- OD 2541.00 TEST_DEADLINE (Table 10-12). -/
def Dict.testDeadline : Ob := { name := "TEST_DEADLINE", idx := 0x2541, sub := 0x00, ty := .u32, accD := .rw, accT := .rw, membersT := 0, initD := 30000, initT := 30000 }
/-- OD 2542.00 TEST_TABLE (Table 10-12). -/
def Dict.testTable : Ob := { name := "TEST_TABLE", idx := 0x2542, sub := 0x00, ty := .domain, membersT := 0 }
/-- OD 2543.00 TEST_CANCEL (Table 10-12). -/
def Dict.testCancel : Ob := { name := "TEST_CANCEL", idx := 0x2543, sub := 0x00, ty := .cmd, accD := .cmd, accT := .cmd, membersT := 0 }
/-- OD 2544.00 TESTS_OVERDUE (Table 10-12). -/
def Dict.testsOverdue : Ob := { name := "TESTS_OVERDUE", idx := 0x2544, sub := 0x00, ty := .u32, membersT := 0 }
/-- OD 2545.00 TESTS_FAILED (Table 10-12). -/
def Dict.testsFailed : Ob := { name := "TESTS_FAILED", idx := 0x2545, sub := 0x00, ty := .u32, membersT := 0 }
/-- OD 2546.00 TESTS_PASSED (Table 10-12). -/
def Dict.testsPassed : Ob := { name := "TESTS_PASSED", idx := 0x2546, sub := 0x00, ty := .u32, membersT := 0 }
/-- OD 2550.00 SHARDS_OPEN (Table 10-12). -/
def Dict.shardsOpen : Ob := { name := "SHARDS_OPEN", idx := 0x2550, sub := 0x00, ty := .u8, membersT := 0 }
/-- OD 2551.00 SHARD_DIGESTS (Table 10-12). -/
def Dict.shardDigests : Ob := { name := "SHARD_DIGESTS", idx := 0x2551, sub := 0x00, ty := .u32, membersT := 0 }
/-- OD 2552.00 OVERTAKEN_LINES (Table 10-12). -/
def Dict.overtakenLines : Ob := { name := "OVERTAKEN_LINES", idx := 0x2552, sub := 0x00, ty := .u64, membersT := 0 }
/-- OD 2600.00 TRACE_ENABLE (Table 11-10). -/
def Dict.traceEnable : Ob := { name := "TRACE_ENABLE", idx := 0x2600, sub := 0x00, ty := .u16, accD := .rw, accT := .rw }
/-- OD 2601.00 SINK_BASE (Table 11-10). -/
def Dict.sinkBase : Ob := { name := "SINK_BASE", idx := 0x2601, sub := 0x00, ty := .u64, accD := .rw, accT := .rw, membersT := 0 }
/-- OD 2602.00 SINK_SIZE (Table 11-10). -/
def Dict.sinkSize : Ob := { name := "SINK_SIZE", idx := 0x2602, sub := 0x00, ty := .u16, accD := .rw, accT := .rw, membersT := 0, initD := 64, initT := 64, lo := 64, hi := 4096 }
/-- OD 2603.00 SINK_WRITE_PTR (Table 11-10). -/
def Dict.sinkWritePtr : Ob := { name := "SINK_WRITE_PTR", idx := 0x2603, sub := 0x00, ty := .u64, membersT := 0 }
/-- OD 2604.00 SINK_READ_PTR (Table 11-10). -/
def Dict.sinkReadPtr : Ob := { name := "SINK_READ_PTR", idx := 0x2604, sub := 0x00, ty := .u64, accD := .rw, accT := .rw, membersT := 0 }
/-- OD 2605.00 SINK_MODE (Table 11-10). -/
def Dict.sinkMode : Ob := { name := "SINK_MODE", idx := 0x2605, sub := 0x00, ty := .u8, accD := .rw, accT := .rw, membersT := 0, lo := 0, hi := 1 }
/-- OD 2606.00 SYNC_PERIOD (Table 11-10). -/
def Dict.syncPeriod : Ob := { name := "SYNC_PERIOD", idx := 0x2606, sub := 0x00, ty := .u32, accD := .rw, accT := .rw, initD := 0xf4240, initT := 0xf4240, lo := 10000, hi := 1000000000 }
/-- OD 2607.00 CMD_CLASS_MASK (Table 11-10). -/
def Dict.cmdClassMask : Ob := { name := "CMD_CLASS_MASK", idx := 0x2607, sub := 0x00, ty := .u16, accD := .rw, accT := .rw, initD := 65535, initT := 65535 }
/-- OD 2608.00 OFFLOAD_SOURCES (Table 11-10). -/
def Dict.offloadSources : Ob := { name := "OFFLOAD_SOURCES", idx := 0x2608, sub := 0x00, ty := .u16, accD := .rw, accT := .rw }
/-- OD 2609.00 OFFLOAD_FLUSH (Table 11-10). -/
def Dict.offloadFlush : Ob := { name := "OFFLOAD_FLUSH", idx := 0x2609, sub := 0x00, ty := .u32, accD := .rw, accT := .rw, initD := 0xf4240, initT := 0xf4240 }
/-- OD 260A.00 TRACE_STORE_BASE (Table 11-10). -/
def Dict.traceStoreBase : Ob := { name := "TRACE_STORE_BASE", idx := 0x260A, sub := 0x00, ty := .u64, accD := .rw, accT := .rwp, membersD := 0, initD := 0x3f00000000, initT := 0x3f00000000 }
/-- OD 260B.00 TRACE_STORE_SIZE (Table 11-10). -/
def Dict.traceStoreSize : Ob := { name := "TRACE_STORE_SIZE", idx := 0x260B, sub := 0x00, ty := .u64, accD := .rw, accT := .rwp, membersD := 0, initD := 0xc0000000, initT := 0xc0000000 }
/-- OD 260C.00 STORE_CURSOR (Table 11-10). -/
def Dict.storeCursor : Ob := { name := "STORE_CURSOR", idx := 0x260C, sub := 0x00, ty := .u64, accD := .rw, accT := .rw, membersD := 0, roles := [.tray] }
/-- OD 260D.00 STORE_READ (Table 11-10). -/
def Dict.storeRead : Ob := { name := "STORE_READ", idx := 0x260D, sub := 0x00, ty := .domain, membersD := 0, roles := [.tray] }
/-- OD 260E.00 STORE_LOST (Table 11-10). -/
def Dict.storeLost : Ob := { name := "STORE_LOST", idx := 0x260E, sub := 0x00, ty := .u32, membersD := 0, roles := [.tray] }
/-- OD 260F.00 SINK_WRAPS (Table 11-10). -/
def Dict.sinkWraps : Ob := { name := "SINK_WRAPS", idx := 0x260F, sub := 0x00, ty := .u32, membersT := 0 }
/-- OD 2610+s.01 FULL_POLICY (Table 11-10). -/
def Dict.srcFullPolicy : Ob := { name := "FULL_POLICY", idx := 0x2610, sub := 0x01, ty := .u8, accD := .rw, accT := .rw, membersD := 10, membersT := 2, fromT := 1, lo := 0, hi := 1 }
/-- OD 2610+s.02 ALIGN (Table 11-10). -/
def Dict.srcAlign : Ob := { name := "ALIGN", idx := 0x2610, sub := 0x02, ty := .u8, accD := .rw, accT := .rw, membersD := 10, membersT := 2, fromD := 1, fromT := 1, initD := 2, initT := 2, lo := 0, hi := 3 }
/-- OD 2610+s.03 START_INIT (Table 11-10). -/
def Dict.srcStartInit : Ob := { name := "START_INIT", idx := 0x2610, sub := 0x03, ty := .bool, accD := .rw, accT := .rw, membersD := 10, membersT := 2, fromD := 1, fromT := 1, initD := 1, initT := 1 }
/-- OD 2610+s.04 SRC_STATE (Table 11-10). -/
def Dict.srcSrcState : Ob := { name := "SRC_STATE", idx := 0x2610, sub := 0x04, ty := .u8, membersD := 10, membersT := 2, fromT := 1 }
/-- OD 2610+s.05 DROPPED_PACKETS (Table 11-10). -/
def Dict.srcDroppedPackets : Ob := { name := "DROPPED_PACKETS", idx := 0x2610, sub := 0x05, ty := .u32, membersD := 10, membersT := 2, fromT := 1 }
/-- OD 2610+s.06 DROPPED_BYTES (Table 11-10). -/
def Dict.srcDroppedBytes : Ob := { name := "DROPPED_BYTES", idx := 0x2610, sub := 0x06, ty := .u64, membersD := 10, membersT := 2, fromT := 1 }
/-- OD 2610+s.07 STALL_NS (Table 11-10). -/
def Dict.srcStallNs : Ob := { name := "STALL_NS", idx := 0x2610, sub := 0x07, ty := .u64, membersD := 10, membersT := 2, fromT := 1 }
/-- OD 2610+s.08 LINES (Table 11-10). -/
def Dict.srcLines : Ob := { name := "LINES", idx := 0x2610, sub := 0x08, ty := .u64, membersD := 10, membersT := 2, fromT := 1 }
/-- OD 2610+s.09 NEXT_LSEQ (Table 11-10). -/
def Dict.srcNextLseq : Ob := { name := "NEXT_LSEQ", idx := 0x2610, sub := 0x09, ty := .u16, membersD := 10, membersT := 2, fromT := 1 }
/-- OD 2610+s.10–17 CMP_ADDR (Table 11-10). -/
def Dict.srcCmpAddr : Ob := { name := "CMP_ADDR", idx := 0x2610, sub := 0x10, ty := .u64, accD := .rw, accT := .rw, membersD := 10, membersT := 2, fromD := 1, fromT := 1, subs := (List.range 8) }
/-- OD 2610+s.18–1F CMP_ACTION (Table 11-10). -/
def Dict.srcCmpAction : Ob := { name := "CMP_ACTION", idx := 0x2610, sub := 0x18, ty := .u8, accD := .rw, accT := .rw, membersD := 10, membersT := 2, fromD := 1, fromT := 1, subs := (List.range 8), lo := 0, hi := 2 }
/-- OD 2610+s.20–23 RANGE_LOW (Table 11-10). -/
def Dict.srcRangeLow : Ob := { name := "RANGE_LOW", idx := 0x2610, sub := 0x20, ty := .u64, accD := .rw, accT := .rw, membersD := 10, membersT := 2, fromD := 1, fromT := 1, subs := (List.range 4) }
/-- OD 2610+s.24–27 RANGE_HIGH (Table 11-10). -/
def Dict.srcRangeHigh : Ob := { name := "RANGE_HIGH", idx := 0x2610, sub := 0x24, ty := .u64, accD := .rw, accT := .rw, membersD := 10, membersT := 2, fromD := 1, fromT := 1, subs := (List.range 4) }
/-- OD 2610+s.28–2B RANGE_MODE (Table 11-10). -/
def Dict.srcRangeMode : Ob := { name := "RANGE_MODE", idx := 0x2610, sub := 0x28, ty := .u8, accD := .rw, accT := .rw, membersD := 10, membersT := 2, fromD := 1, fromT := 1, subs := (List.range 4), lo := 0, hi := 2 }
/-- OD 2700.00 BR_SEARCH (Table 12-7). -/
def Dict.brSearch : Ob := { name := "BR_SEARCH", idx := 0x2700, sub := 0x00, ty := .u8, accD := .rw, accT := .rw, initD := 16, initT := 16 }
/-- OD 2701.00 JOB_CHANNELS (Table 12-7). -/
def Dict.jobChannels : Ob := { name := "JOB_CHANNELS", idx := 0x2701, sub := 0x00, ty := .u8, initD := 0, initT := 4 }
/-- OD 2710+c.01 OP (Table 12-7). -/
def Dict.prcOp : Ob := { name := "OP", idx := 0x2710, sub := 0x01, ty := .u8, accD := .rw, accT := .rw, membersD := 0, membersT := 4, initD := 1, initT := 1, lo := 1, hi := 2 }
/-- OD 2710+c.02 IN_ADDR (Table 12-7). -/
def Dict.prcInAddr : Ob := { name := "IN_ADDR", idx := 0x2710, sub := 0x02, ty := .u64, accD := .rw, accT := .rw, membersD := 0, membersT := 4 }
/-- OD 2710+c.03 IN_LEN (Table 12-7). -/
def Dict.prcInLen : Ob := { name := "IN_LEN", idx := 0x2710, sub := 0x03, ty := .u64, accD := .rw, accT := .rw, membersD := 0, membersT := 4 }
/-- OD 2710+c.04 OUT_ADDR (Table 12-7). -/
def Dict.prcOutAddr : Ob := { name := "OUT_ADDR", idx := 0x2710, sub := 0x04, ty := .u64, accD := .rw, accT := .rw, membersD := 0, membersT := 4 }
/-- OD 2710+c.05 OUT_LEN (Table 12-7). -/
def Dict.prcOutLen : Ob := { name := "OUT_LEN", idx := 0x2710, sub := 0x05, ty := .u64, accD := .rw, accT := .rw, membersD := 0, membersT := 4 }
/-- OD 2710+c.06 WIDTH (Table 12-7). -/
def Dict.prcWidth : Ob := { name := "WIDTH", idx := 0x2710, sub := 0x06, ty := .u8, accD := .rw, accT := .rw, membersD := 0, membersT := 4 }
/-- OD 2710+c.07 VLEN (Table 12-7). -/
def Dict.prcVlen : Ob := { name := "VLEN", idx := 0x2710, sub := 0x07, ty := .u16, accD := .rw, accT := .rw, membersD := 0, membersT := 4, initD := 1, initT := 1, lo := 1, hi := 4096 }
/-- OD 2710+c.08 K0 (Table 12-7). -/
def Dict.prcK0 : Ob := { name := "K0", idx := 0x2710, sub := 0x08, ty := .u8, accD := .rw, accT := .rw, membersD := 0, membersT := 4, initD := 3, initT := 3 }
/-- OD 2710+c.09 START (Table 12-7). -/
def Dict.prcStart : Ob := { name := "START", idx := 0x2710, sub := 0x09, ty := .cmd, accD := .cmd, accT := .cmd, membersD := 0, membersT := 4 }
/-- OD 2710+c.0A RESUME (Table 12-7). -/
def Dict.prcResume : Ob := { name := "RESUME", idx := 0x2710, sub := 0x0A, ty := .cmd, accD := .cmd, accT := .cmd, membersD := 0, membersT := 4 }
/-- OD 2710+c.0B ABORT (Table 12-7). -/
def Dict.prcAbort : Ob := { name := "ABORT", idx := 0x2710, sub := 0x0B, ty := .cmd, accD := .cmd, accT := .cmd, membersD := 0, membersT := 4 }
/-- OD 2710+c.0C STATUS (Table 12-7). -/
def Dict.prcStatus : Ob := { name := "STATUS", idx := 0x2710, sub := 0x0C, ty := .u8, membersD := 0, membersT := 4 }
/-- OD 2710+c.0D IN_CONSUMED (Table 12-7). -/
def Dict.prcInConsumed : Ob := { name := "IN_CONSUMED", idx := 0x2710, sub := 0x0D, ty := .u64, membersD := 0, membersT := 4 }
/-- OD 2710+c.0E OUT_PRODUCED (Table 12-7). -/
def Dict.prcOutProduced : Ob := { name := "OUT_PRODUCED", idx := 0x2710, sub := 0x0E, ty := .u64, membersD := 0, membersT := 4 }
/-- OD 2710+c.0F FAULT_OFFSET (Table 12-7). -/
def Dict.prcFaultOffset : Ob := { name := "FAULT_OFFSET", idx := 0x2710, sub := 0x0F, ty := .u64, membersD := 0, membersT := 4 }
/-- OD 2800.00 DOWN_SPLIT (Table 13-10). -/
def Dict.downSplit : Ob := { name := "DOWN_SPLIT", idx := 0x2800, sub := 0x00, ty := .u8, accD := .rw, accT := .rwp, membersD := 0 }
/-- OD 2801.00 UP_USE (Table 13-10). -/
def Dict.upUse : Ob := { name := "UP_USE", idx := 0x2801, sub := 0x00, ty := .u32, accD := .rw, accT := .rwp, membersD := 0, initD := 513, initT := 513 }
/-- OD 2802.00 ROUTE (Table 13-10). -/
def Dict.route : Ob := { name := "ROUTE", idx := 0x2802, sub := 0x00, ty := .u8, roles := [.leaf, .tray, .rack, .spine] }
/-- OD 2803.00 ROUTE_FROM (Table 13-10). -/
def Dict.routeFrom : Ob := { name := "ROUTE_FROM", idx := 0x2803, sub := 0x00, ty := .u32 }
/-- OD 2804.00 ROUTE_HOME (Table 13-10). -/
def Dict.routeHome : Ob := { name := "ROUTE_HOME", idx := 0x2804, sub := 0x00, ty := .bool, accD := .rw, accT := .rw, initD := 1, initT := 1 }
/-- OD 2805.00 HOME_HOLD (Table 13-10). -/
def Dict.homeHold : Ob := { name := "HOME_HOLD", idx := 0x2805, sub := 0x00, ty := .u32, accD := .rw, accT := .rw, initD := 1000, initT := 1000 }
/-- OD 2806.00 ROUTE_LEAD (Table 13-10). -/
def Dict.routeLead : Ob := { name := "ROUTE_LEAD", idx := 0x2806, sub := 0x00, ty := .u32, accD := .rw, accT := .rw, initD := 8000, initT := 8000, lo := 4000, hi := 1000000 }
/-- OD 2807.00 ROUTE_MOVE (Table 13-10). -/
def Dict.routeMove : Ob := { name := "ROUTE_MOVE", idx := 0x2807, sub := 0x00, ty := .cmd, accD := .cmd, accT := .cmd, roles := [.leaf, .tray, .rack, .spine] }
/-- OD 2808.00 ROUTE_MOVES (Table 13-10). -/
def Dict.routeMoves : Ob := { name := "ROUTE_MOVES", idx := 0x2808, sub := 0x00, ty := .u32 }
/-- OD 2809.00 RELAYED (Table 13-10). -/
def Dict.relayed : Ob := { name := "RELAYED", idx := 0x2809, sub := 0x00, ty := .u32 }
/-- OD 280A.00 RELAY_DISCARDS (Table 13-10). -/
def Dict.relayDiscards : Ob := { name := "RELAY_DISCARDS", idx := 0x280A, sub := 0x00, ty := .u32 }
/-- OD 280B.00 VECTORS_LOST (Table 13-10). -/
def Dict.vectorsLost : Ob := { name := "VECTORS_LOST", idx := 0x280B, sub := 0x00, ty := .u32, membersT := 0 }
/-- OD 280C.00 ROUTE_TABLE (Table 13-10). -/
def Dict.routeTable : Ob := { name := "ROUTE_TABLE", idx := 0x280C, sub := 0x00, ty := .domain, membersD := 0, fill := 255 }
/-- OD 2810.00 REPLAY_TIMEOUT (Table 13-10). -/
def Dict.replayTimeout : Ob := { name := "REPLAY_TIMEOUT", idx := 0x2810, sub := 0x00, ty := .u32, accD := .rw, accT := .rw, initD := 4000, initT := 4000 }
/-- OD 2811.00 RETRY_LIMIT (Table 13-10). -/
def Dict.retryLimit : Ob := { name := "RETRY_LIMIT", idx := 0x2811, sub := 0x00, ty := .u8, accD := .rw, accT := .rw, initD := 16, initT := 16, lo := 2, hi := 255 }
/-- OD 2812.00 TRAIN_LIMIT (Table 13-10). -/
def Dict.trainLimit : Ob := { name := "TRAIN_LIMIT", idx := 0x2812, sub := 0x00, ty := .u32, accD := .rw, accT := .rw, initD := 50, initT := 50 }
/-- OD 2813.00 FAIL_HOLD (Table 13-10). -/
def Dict.failHold : Ob := { name := "FAIL_HOLD", idx := 0x2813, sub := 0x00, ty := .u32, accD := .rw, accT := .rw, initD := 10, initT := 10 }
/-- OD 2814.00 LANES_UP (Table 13-10). -/
def Dict.lanesUp : Ob := { name := "LANES_UP", idx := 0x2814, sub := 0x00, ty := .u64 }
/-- OD 2900.00 ALARM_BUF_SIZE (Table 14-9). -/
def Dict.alarmBufSize : Ob := { name := "ALARM_BUF_SIZE", idx := 0x2900, sub := 0x00, ty := .u32, initD := 0x40000, initT := 0x400000 }
/-- OD 2901.00 ALARM_BUF_USED (Table 14-9). -/
def Dict.alarmBufUsed : Ob := { name := "ALARM_BUF_USED", idx := 0x2901, sub := 0x00, ty := .u32 }
/-- OD 2902.00 ALARM_HELD (Table 14-9). -/
def Dict.alarmHeld : Ob := { name := "ALARM_HELD", idx := 0x2902, sub := 0x00, ty := .u32 }
/-- OD 2903.00 DECIM_LIMIT (Table 14-9). -/
def Dict.decimLimit : Ob := { name := "DECIM_LIMIT", idx := 0x2903, sub := 0x00, ty := .u32, accD := .rw, accT := .rw, membersT := 0, initD := 0x40000, initT := 0x40000, lo := 65536, hi := 1048576 }
/-- OD 2904.00 DECIM_SETS (Table 14-9). -/
def Dict.decimSets : Ob := { name := "DECIM_SETS", idx := 0x2904, sub := 0x00, ty := .u32, membersT := 0 }
/-- OD 2905.00 RETRY_AFTER (Table 14-9). -/
def Dict.retryAfter : Ob := { name := "RETRY_AFTER", idx := 0x2905, sub := 0x00, ty := .u32, accD := .rw, accT := .rw, initD := 200, initT := 200, lo := 1, hi := 1000000 }
/-- OD 2906.00 REFUSED (Table 14-9). -/
def Dict.refusedCount : Ob := { name := "REFUSED", idx := 0x2906, sub := 0x00, ty := .u32 }
/-- OD 2A00.00 REC_SIZE (Table 16-5). -/
def Dict.recSize : Ob := { name := "REC_SIZE", idx := 0x2A00, sub := 0x00, ty := .u32, initD := 65536, initT := 0x40000000 }
/-- OD 2A01.00 REC_BASE (Table 16-5). -/
def Dict.recBase : Ob := { name := "REC_BASE", idx := 0x2A01, sub := 0x00, ty := .u64, membersD := 0, initD := 0x3fc0000000, initT := 0x3fc0000000 }
/-- OD 2A02.00 F_CURSOR (Table 16-5). -/
def Dict.fCursor : Ob := { name := "F_CURSOR", idx := 0x2A02, sub := 0x00, ty := .u32, accD := .rw, accT := .rw }
/-- OD 2A03.00 F_WINDOW (Table 16-5). -/
def Dict.fWindow : Ob := { name := "F_WINDOW", idx := 0x2A03, sub := 0x00, ty := .domain }
/-- OD 2A04.00 O_SELECT (Table 16-5). -/
def Dict.oSelect : Ob := { name := "O_SELECT", idx := 0x2A04, sub := 0x00, ty := .u32, accD := .rw, accT := .rw }
/-- OD 2A05.00 O_WINDOW (Table 16-5). -/
def Dict.oWindow : Ob := { name := "O_WINDOW", idx := 0x2A05, sub := 0x00, ty := .domain }
/-- OD 2A06.00 F_NEXT (Table 16-5). -/
def Dict.fNext : Ob := { name := "F_NEXT", idx := 0x2A06, sub := 0x00, ty := .u32 }
/-- OD 2A07.00 O_NEXT (Table 16-5). -/
def Dict.oNext : Ob := { name := "O_NEXT", idx := 0x2A07, sub := 0x00, ty := .u32 }
/-- OD 2A08.00 CLEAR (Table 16-5). -/
def Dict.recClear : Ob := { name := "CLEAR", idx := 0x2A08, sub := 0x00, ty := .cmd, accD := .cmd, accT := .cmd }
/-- OD 2A09.00 F_OVERWRITTEN (Table 16-5). -/
def Dict.fOverwritten : Ob := { name := "F_OVERWRITTEN", idx := 0x2A09, sub := 0x00, ty := .u32 }
/-- OD 2A0A.00 REPEATS_FOLDED (Table 16-5). -/
def Dict.repeatsFolded : Ob := { name := "REPEATS_FOLDED", idx := 0x2A0A, sub := 0x00, ty := .u32 }
/-- OD 2A0B.00 MIRROR (Table 16-5). -/
def Dict.mirror : Ob := { name := "MIRROR", idx := 0x2A0B, sub := 0x00, ty := .bool, accD := .rw, accT := .rw, membersT := 0, initD := 1, initT := 1 }
/-- OD 2A0C.00 MIRROR_BEHIND (Table 16-5). -/
def Dict.mirrorBehind : Ob := { name := "MIRROR_BEHIND", idx := 0x2A0C, sub := 0x00, ty := .u32, membersT := 0 }
/-- OD 2A20.00 NEG_TAKE (Table 16-5). -/
def Dict.negTake : Ob := { name := "NEG_TAKE", idx := 0x2A20, sub := 0x00, ty := .cmd, accD := .cmd, accT := .cmd, membersD := 0 }
/-- OD 2A21.00 NEG_PERIOD (Table 16-5). -/
def Dict.negPeriod : Ob := { name := "NEG_PERIOD", idx := 0x2A21, sub := 0x00, ty := .u32, accD := .rw, accT := .rw, membersD := 0, initD := 60, initT := 60 }
/-- OD 2A22.00 NEG_SEQ (Table 16-5). -/
def Dict.negSeq : Ob := { name := "NEG_SEQ", idx := 0x2A22, sub := 0x00, ty := .u32, membersD := 0 }
/-- OD 2A23.00 NEG_SLOT (Table 16-5). -/
def Dict.negSlot : Ob := { name := "NEG_SLOT", idx := 0x2A23, sub := 0x00, ty := .u8, membersD := 0, initD := 255, initT := 255 }
/-- OD 2A24.00 NEG_RESTORED (Table 16-5). -/
def Dict.negRestored : Ob := { name := "NEG_RESTORED", idx := 0x2A24, sub := 0x00, ty := .u8, membersD := 0, initD := 255, initT := 255 }
/-- OD 2A25.00 NEG_IMAGE (Table 16-5). -/
def Dict.negImage : Ob := { name := "NEG_IMAGE", idx := 0x2A25, sub := 0x00, ty := .domain, membersD := 0 }
/-- OD 2B00.00 MB_LEVELS (Table 16-6). -/
def Dict.mbLevels : Ob := { name := "MB_LEVELS", idx := 0x2B00, sub := 0x00, ty := .u16, membersT := 0 }
/-- OD 2B01.00 MB_MASK (Table 16-6). -/
def Dict.mbMask : Ob := { name := "MB_MASK", idx := 0x2B01, sub := 0x00, ty := .u32, accD := .rw, accT := .rw, membersT := 0 }
/-- OD 2B02.00 MB_TIMEOUT (Table 16-6). -/
def Dict.mbTimeout : Ob := { name := "MB_TIMEOUT", idx := 0x2B02, sub := 0x00, ty := .u32, accD := .rw, accT := .rw, membersT := 0, initD := 0xf4240, initT := 0xf4240 }
/-- OD 2B03.00 MB_TIMEOUTS (Table 16-6). -/
def Dict.mbTimeouts : Ob := { name := "MB_TIMEOUTS", idx := 0x2B03, sub := 0x00, ty := .u32, membersT := 0 }
/-- OD 2B04.00 MB_BUS_ERRORS (Table 16-6). -/
def Dict.mbBusErrors : Ob := { name := "MB_BUS_ERRORS", idx := 0x2B04, sub := 0x00, ty := .u32, membersT := 0 }
/-- OD 2B05.00 MB_LAST_ACK (Table 16-6). -/
def Dict.mbLastAck : Ob := { name := "MB_LAST_ACK", idx := 0x2B05, sub := 0x00, ty := .u32, membersT := 0 }
/-- OD 2B06.00 MB_PENDING (Table 16-6). -/
def Dict.mbPending : Ob := { name := "MB_PENDING", idx := 0x2B06, sub := 0x00, ty := .u32, membersT := 0 }
/-- OD 2C00.00 POWER_STATE (Table 16-7). -/
def Dict.powerState : Ob := { name := "POWER_STATE", idx := 0x2C00, sub := 0x00, ty := .u8 }
/-- OD 2C01.00 DIM_IDLE (Table 16-7). -/
def Dict.dimIdle : Ob := { name := "DIM_IDLE", idx := 0x2C01, sub := 0x00, ty := .u32, accD := .rw, accT := .rw, initD := 100, initT := 100 }
/-- OD 2C02.00 SAFELIGHT_IDLE (Table 16-7). -/
def Dict.safelightIdle : Ob := { name := "SAFELIGHT_IDLE", idx := 0x2C02, sub := 0x00, ty := .u32, accD := .rw, accT := .rw, initD := 100, initT := 100 }
/-- OD 2C03.00 LAST_WAKE (Table 16-7). -/
def Dict.lastWake : Ob := { name := "LAST_WAKE", idx := 0x2C03, sub := 0x00, ty := .domain, len := 16 }
/-- OD 2C04.00 WAKES (Table 16-7). -/
def Dict.wakes : Ob := { name := "WAKES", idx := 0x2C04, sub := 0x00, ty := .u32 }
/-- OD 2C08.00 DVFS_ENABLE (Table 16-7). -/
def Dict.dvfsEnable : Ob := { name := "DVFS_ENABLE", idx := 0x2C08, sub := 0x00, ty := .bool, accD := .rw, accT := .rw, membersD := 0, initD := 1, initT := 1 }
/-- OD 2C09.00 DVFS_MIN (Table 16-7). -/
def Dict.dvfsMin : Ob := { name := "DVFS_MIN", idx := 0x2C09, sub := 0x00, ty := .u16, accD := .rw, accT := .rw, membersD := 0, initD := 900, initT := 900 }
/-- OD 2C10.00 RESET (Table 16-7). -/
def Dict.resetCmd : Ob := { name := "RESET", idx := 0x2C10, sub := 0x00, ty := .cmd, accD := .cmd, accT := .cmd }
/-- OD 2C11.00 RESET_CAUSE (Table 16-7). -/
def Dict.resetCause : Ob := { name := "RESET_CAUSE", idx := 0x2C11, sub := 0x00, ty := .u8 }
/-- OD 2C12.00 ISLAND_RESETS (Table 16-7). -/
def Dict.islandResets : Ob := { name := "ISLAND_RESETS", idx := 0x2C12, sub := 0x00, ty := .u32 }
/-- OD 2C18.00 STRAPS (Table 16-7). -/
def Dict.straps : Ob := { name := "STRAPS", idx := 0x2C18, sub := 0x00, ty := .u32, membersD := 0 }
/-- OD 2C19.00 BOOT_RESULT (Table 16-7). -/
def Dict.bootResult : Ob := { name := "BOOT_RESULT", idx := 0x2C19, sub := 0x00, ty := .u8, membersD := 0 }
/-- OD 2C20.00 KEEPER_IMAGE (Table 16-7). -/
def Dict.keeperImage : Ob := { name := "KEEPER_IMAGE", idx := 0x2C20, sub := 0x00, ty := .domain, accD := .wo, accT := .wo }
/-- OD 2C21.00 KEEPER_UPDATE (Table 16-7). -/
def Dict.keeperUpdate : Ob := { name := "KEEPER_UPDATE", idx := 0x2C21, sub := 0x00, ty := .cmd, accD := .cmd, accT := .cmd }
/-- OD 2C22.00 KEEPER_STATE (Table 16-7). -/
def Dict.keeperState : Ob := { name := "KEEPER_STATE", idx := 0x2C22, sub := 0x00, ty := .u8 }
/-- OD 2D00.00 JOURNAL_ENABLE (Table 16-8). -/
def Dict.journalEnable : Ob := { name := "JOURNAL_ENABLE", idx := 0x2D00, sub := 0x00, ty := .bool, accD := .rw, accT := .rw, membersD := 0, initD := 1, initT := 1 }
/-- OD 2D01.00 JOURNAL_BASE (Table 16-8). -/
def Dict.journalBase : Ob := { name := "JOURNAL_BASE", idx := 0x2D01, sub := 0x00, ty := .u64, accD := .rw, accT := .rwp, membersD := 0, initD := 0x1d00000000, initT := 0x1d00000000 }
/-- OD 2D02.00 JOURNAL_SIZE (Table 16-8). -/
def Dict.journalSize : Ob := { name := "JOURNAL_SIZE", idx := 0x2D02, sub := 0x00, ty := .u64, accD := .rw, accT := .rwp, membersD := 0, initD := 0x2200000000, initT := 0x2200000000 }
/-- OD 2D03.00 HISTORY_BASE (Table 16-8). -/
def Dict.historyBase : Ob := { name := "HISTORY_BASE", idx := 0x2D03, sub := 0x00, ty := .u64, accD := .rw, accT := .rwp, membersD := 0, roles := [.tray], initD := 0x500000000, initT := 0x500000000 }
/-- OD 2D04.00 HISTORY_SIZE (Table 16-8). -/
def Dict.historySize : Ob := { name := "HISTORY_SIZE", idx := 0x2D04, sub := 0x00, ty := .u64, accD := .rw, accT := .rwp, membersD := 0, roles := [.tray], initD := 0x1800000000, initT := 0x1800000000 }
/-- OD 2D05.00 JOURNAL_OLDEST (Table 16-8). -/
def Dict.journalOldest : Ob := { name := "JOURNAL_OLDEST", idx := 0x2D05, sub := 0x00, ty := .u32, membersD := 0 }
/-- OD 2D06.00 HISTORY_OLDEST (Table 16-8). -/
def Dict.historyOldest : Ob := { name := "HISTORY_OLDEST", idx := 0x2D06, sub := 0x00, ty := .u32, membersD := 0, roles := [.tray] }
/-- OD 2D07.00 JOURNAL_LOST (Table 16-8). -/
def Dict.journalLost : Ob := { name := "JOURNAL_LOST", idx := 0x2D07, sub := 0x00, ty := .u32, membersD := 0 }
/-- OD 2D08.00 EXPORT_FIRST (Table 16-8). -/
def Dict.exportFirst : Ob := { name := "EXPORT_FIRST", idx := 0x2D08, sub := 0x00, ty := .u32, accD := .rw, accT := .rw, membersD := 0 }
/-- OD 2D09.00 EXPORT_LAST (Table 16-8). -/
def Dict.exportLast : Ob := { name := "EXPORT_LAST", idx := 0x2D09, sub := 0x00, ty := .u32, accD := .rw, accT := .rw, membersD := 0 }
/-- OD 2D0A.00 EXPORT (Table 16-8). -/
def Dict.exportCmd : Ob := { name := "EXPORT", idx := 0x2D0A, sub := 0x00, ty := .cmd, accD := .cmd, accT := .cmd, membersD := 0 }
/-- OD 2D0B.00 EXPORT_DATA (Table 16-8). -/
def Dict.exportData : Ob := { name := "EXPORT_DATA", idx := 0x2D0B, sub := 0x00, ty := .domain, membersD := 0 }
/-- OD 3000+p.01 LANE_ENABLE (Table 13-11). -/
def Dict.laneEnable : Ob := { name := "LANE_ENABLE", idx := 0x3000, sub := 0x01, ty := .bool, accD := .rw, accT := .rwp, membersD := 2, membersT := 48, initD := 1, initT := 1 }
/-- OD 3000+p.02 LANE_STATE (Table 13-11). -/
def Dict.laneState : Ob := { name := "LANE_STATE", idx := 0x3000, sub := 0x02, ty := .u8, membersD := 2, membersT := 48, initD := 1, initT := 1 }
/-- OD 3000+p.03 TRAIN_STEP (Table 13-11). -/
def Dict.laneTrainStep : Ob := { name := "TRAIN_STEP", idx := 0x3000, sub := 0x03, ty := .u8, membersD := 2, membersT := 48, initD := 255, initT := 255 }
/-- OD 3000+p.04 RETRAIN (Table 13-11). -/
def Dict.laneRetrain : Ob := { name := "RETRAIN", idx := 0x3000, sub := 0x04, ty := .cmd, accD := .cmd, accT := .cmd, membersD := 2, membersT := 48 }
/-- OD 3000+p.05 GROUP (Table 13-11). -/
def Dict.laneGroup : Ob := { name := "GROUP", idx := 0x3000, sub := 0x05, ty := .u8, membersD := 2, membersT := 48, initBy := .ident }
/-- OD 3000+p.06 NEIGHBOUR (Table 13-11). -/
def Dict.laneNeighbour : Ob := { name := "NEIGHBOUR", idx := 0x3000, sub := 0x06, ty := .domain, membersD := 2, membersT := 48, len := 16 }
/-- OD 3000+p.07 FRAMES_TX (Table 13-11). -/
def Dict.laneFramesTx : Ob := { name := "FRAMES_TX", idx := 0x3000, sub := 0x07, ty := .u64, membersD := 2, membersT := 48 }
/-- OD 3000+p.08 FRAMES_RX (Table 13-11). -/
def Dict.laneFramesRx : Ob := { name := "FRAMES_RX", idx := 0x3000, sub := 0x08, ty := .u64, membersD := 2, membersT := 48 }
/-- OD 3000+p.09 CRC_ERRORS (Table 13-11). -/
def Dict.laneCrcErrors : Ob := { name := "CRC_ERRORS", idx := 0x3000, sub := 0x09, ty := .u32, membersD := 2, membersT := 48 }
/-- OD 3000+p.0A RESENDS (Table 13-11). -/
def Dict.laneResends : Ob := { name := "RESENDS", idx := 0x3000, sub := 0x0A, ty := .u32, membersD := 2, membersT := 48 }
/-- OD 3000+p.0B DOWN_EVENTS (Table 13-11). -/
def Dict.laneDownEvents : Ob := { name := "DOWN_EVENTS", idx := 0x3000, sub := 0x0B, ty := .u32, membersD := 2, membersT := 48 }
/-- OD 3000+p.0C TRAIN_FAILS (Table 13-11). -/
def Dict.laneTrainFails : Ob := { name := "TRAIN_FAILS", idx := 0x3000, sub := 0x0C, ty := .u32, membersD := 2, membersT := 48 }
/-- OD 3000+p.0D BER_EST (Table 13-11). -/
def Dict.laneBerEst : Ob := { name := "BER_EST", idx := 0x3000, sub := 0x0D, ty := .u32, membersD := 2, membersT := 48 }
/-- OD 3000+p.0E EYE_MARGIN (Table 13-11). -/
def Dict.laneEyeMargin : Ob := { name := "EYE_MARGIN", idx := 0x3000, sub := 0x0E, ty := .u16, membersD := 2, membersT := 48 }
/-- OD 3000+p.0F TX_FFE (Table 13-11). -/
def Dict.laneTxFfe : Ob := { name := "TX_FFE", idx := 0x3000, sub := 0x0F, ty := .u32, membersD := 2, membersT := 48 }
/-- OD 3000+p.10 RX_CTLE (Table 13-11). -/
def Dict.laneRxCtle : Ob := { name := "RX_CTLE", idx := 0x3000, sub := 0x10, ty := .u8, membersD := 2, membersT := 48 }
/-- OD 3000+p.11 RX_DFE (Table 13-11). -/
def Dict.laneRxDfe : Ob := { name := "RX_DFE", idx := 0x3000, sub := 0x11, ty := .u32, membersD := 2, membersT := 48 }
/-- OD 3000+p.12 WAVELENGTH (Table 13-11). -/
def Dict.laneWavelength : Ob := { name := "WAVELENGTH", idx := 0x3000, sub := 0x12, ty := .u8, membersD := 2, membersT := 48, initBy := .mod4 }
/-- OD 3000+p.13 LASER_BIAS (Table 13-11). -/
def Dict.laneLaserBias : Ob := { name := "LASER_BIAS", idx := 0x3000, sub := 0x13, ty := .u16, membersD := 0, membersT := 48 }
/-- OD 3000+p.14 LASER_TARGET (Table 13-11). -/
def Dict.laneLaserTarget : Ob := { name := "LASER_TARGET", idx := 0x3000, sub := 0x14, ty := .u16, accD := .rw, accT := .rw, membersD := 0, membersT := 48, initD := 1000, initT := 1000 }
/-- OD 3000+p.15 LASER_WARN (Table 13-11). -/
def Dict.laneLaserWarn : Ob := { name := "LASER_WARN", idx := 0x3000, sub := 0x15, ty := .u16, accD := .rw, accT := .rw, membersD := 0, membersT := 48, initD := 800, initT := 800 }
/-- OD 3000+p.16 RX_POWER (Table 13-11). -/
def Dict.laneRxPower : Ob := { name := "RX_POWER", idx := 0x3000, sub := 0x16, ty := .u16, membersD := 0, membersT := 48 }
/-- OD 3000+p.40 EGRESS_CORR (Table 02-9). -/
def Dict.laneEgressCorr : Ob := { name := "EGRESS_CORR", idx := 0x3000, sub := 0x40, ty := .u32, membersD := 2, membersT := 48, initD := 3200, initT := 3200 }
/-- OD 3000+p.41 INGRESS_CORR (Table 02-9). -/
def Dict.laneIngressCorr : Ob := { name := "INGRESS_CORR", idx := 0x3000, sub := 0x41, ty := .u32, membersD := 2, membersT := 48, initD := 5100, initT := 5100 }
/-- OD 3000+p.42 ASYMMETRY (Table 02-9). -/
def Dict.laneAsymmetry : Ob := { name := "ASYMMETRY", idx := 0x3000, sub := 0x42, ty := .s32, accD := .rw, accT := .rw, membersD := 2, membersT := 48 }
/-- OD 3000+p.43 DELAY_MECH (Table 02-9). -/
def Dict.laneDelayMech : Ob := { name := "DELAY_MECH", idx := 0x3000, sub := 0x43, ty := .u8, accD := .rw, accT := .rw, membersD := 2, membersT := 48, initD := 1, initT := 1, lo := 0, hi := 1 }
/-- OD 3000+p.44 PORT_STATE (Table 02-9). -/
def Dict.lanePortState : Ob := { name := "PORT_STATE", idx := 0x3000, sub := 0x44, ty := .u8, membersD := 2, membersT := 48, initD := 3, initT := 3 }
/-- OD 3000+p.45 PEER_DELAY (Table 02-9). -/
def Dict.lanePeerDelay : Ob := { name := "PEER_DELAY", idx := 0x3000, sub := 0x45, ty := .u32, membersD := 2, membersT := 48 }
/-- OD 3000+p.50 CHILD_LATE (Table 07-12). -/
def Dict.childLate : Ob := { name := "CHILD_LATE", idx := 0x3000, sub := 0x50, ty := .u32, membersD := 2, membersT := 48 }
/-- OD 3000+p.51 CHILD_LAST_FRAME (Table 07-12). -/
def Dict.childLastFrame : Ob := { name := "CHILD_LAST_FRAME", idx := 0x3000, sub := 0x51, ty := .u32, membersD := 2, membersT := 48 }
/-- OD 3000+p.60 QUANTA (Table 14-10). -/
def Dict.grpQuanta : Ob := { name := "QUANTA", idx := 0x3000, sub := 0x60, ty := .domain, accD := .rw, accT := .rw, membersD := 2, membersT := 48, initBy := (.words [4096, 2048, 16384, 4096, 4096, 4096, 2048] [4096, 2048, 16384, 4096, 4096, 4096, 2048]), len := 28 }
/-- OD 3000+p.61 QLIMIT (Table 14-10). -/
def Dict.grpQlimit : Ob := { name := "QLIMIT", idx := 0x3000, sub := 0x61, ty := .domain, accD := .rw, accT := .rw, membersD := 2, membersT := 48, initBy := (.words (List.replicate 7 65536) (List.replicate 7 1048576)), len := 28 }
/-- OD 3000+p.62 POLICE_ENABLE (Table 14-10). -/
def Dict.grpPoliceEnable : Ob := { name := "POLICE_ENABLE", idx := 0x3000, sub := 0x62, ty := .u8, accD := .rw, accT := .rw, membersD := 2, membersT := 48 }
/-- OD 3000+p.63 POLICE_AWARE (Table 14-10). -/
def Dict.grpPoliceAware : Ob := { name := "POLICE_AWARE", idx := 0x3000, sub := 0x63, ty := .u8, accD := .rw, accT := .rw, membersD := 2, membersT := 48 }
/-- OD 3000+p.64 GATE_ENABLE (Table 14-10). -/
def Dict.grpGateEnable : Ob := { name := "GATE_ENABLE", idx := 0x3000, sub := 0x64, ty := .bool, accD := .rw, accT := .rw, membersD := 2, membersT := 48 }
/-- OD 3000+p.65 GATE_STAGE (Table 14-10). -/
def Dict.grpGateStage : Ob := { name := "GATE_STAGE", idx := 0x3000, sub := 0x65, ty := .domain, accD := .rw, accT := .rw, membersD := 2, membersT := 48 }
/-- OD 3000+p.66 GATE_STAGE_N (Table 14-10). -/
def Dict.grpGateStageN : Ob := { name := "GATE_STAGE_N", idx := 0x3000, sub := 0x66, ty := .u8, accD := .rw, accT := .rw, membersD := 2, membersT := 48, lo := 1, hi := 64 }
/-- OD 3000+p.67 GATE_BASE (Table 14-10). -/
def Dict.grpGateBase : Ob := { name := "GATE_BASE", idx := 0x3000, sub := 0x67, ty := .time80, accD := .rw, accT := .rw, membersD := 2, membersT := 48 }
/-- OD 3000+p.68 GATE_CYCLE (Table 14-10). -/
def Dict.grpGateCycle : Ob := { name := "GATE_CYCLE", idx := 0x3000, sub := 0x68, ty := .u32, accD := .rw, accT := .rw, membersD := 2, membersT := 48, initD := 0xf4240, initT := 0xf4240, lo := 200, hi := 4294967295 }
/-- OD 3000+p.69 GATE_APPLY (Table 14-10). -/
def Dict.grpGateApply : Ob := { name := "GATE_APPLY", idx := 0x3000, sub := 0x69, ty := .cmd, accD := .cmd, accT := .cmd, membersD := 2, membersT := 48 }
/-- OD 3000+p.6A GATE_CURRENT (Table 14-10). -/
def Dict.grpGateCurrent : Ob := { name := "GATE_CURRENT", idx := 0x3000, sub := 0x6A, ty := .domain, membersD := 2, membersT := 48 }
/-- OD 3000+p.6B GATE_STATE (Table 14-10). -/
def Dict.grpGateState : Ob := { name := "GATE_STATE", idx := 0x3000, sub := 0x6B, ty := .u8, membersD := 2, membersT := 48, initD := 255, initT := 255 }
/-- OD 3000+p.70+c POLICER (Table 14-10). -/
def Dict.grpPolicer : Ob := { name := "POLICER", idx := 0x3000, sub := 0x70, ty := .domain, accD := .rw, accT := .rw, membersD := 2, membersT := 48, subs := [2, 3, 5, 7], len := 24 }
/-- OD 3000+p.78+c COLOURS (Table 14-10). -/
def Dict.grpColours : Ob := { name := "COLOURS", idx := 0x3000, sub := 0x78, ty := .domain, membersD := 2, membersT := 48, subs := [2, 3, 5, 7], len := 24 }
/-- OD 3000+p.80+c CLASS_BYTES (Table 14-10). -/
def Dict.grpClassBytes : Ob := { name := "CLASS_BYTES", idx := 0x3000, sub := 0x80, ty := .u64, membersD := 2, membersT := 48, subs := (List.range 8) }
/-- OD 3000+p.88+c DROPS (Table 14-10). -/
def Dict.grpDrops : Ob := { name := "DROPS", idx := 0x3000, sub := 0x88, ty := .u32, membersD := 2, membersT := 48, subs := [5, 6, 7] }
/-- Rows 0 to 39 of the dictionary, in ascending number. -/
def Dict.part0 : List Ob := [Dict.deviceName, Dict.hwVersion, Dict.role, Dict.generation, Dict.keeperVersion, Dict.dictVersion, Dict.roleActive, Dict.dieId, Dict.dapUdpPort, Dict.mgmtMac, Dict.mgmtAddr, Dict.mgmtPrefix, Dict.mgmtGateway, Dict.conductorAddr, Dict.conductorPort, Dict.pendTimeout, Dict.segTimeout, Dict.mgmtDiscards, Dict.pushDrops, Dict.dapPending, Dict.orphanResponses, Dict.served, Dict.routeLosts, Dict.clockState, Dict.ptpDomain, Dict.timeNow, Dict.clockOffset, Dict.pathDelay, Dict.logSyncInterval, Dict.stepThreshold, Dict.lockThreshold, Dict.gmSource, Dict.utcOffset, Dict.anchors, Dict.steps, Dict.slaveLane, Dict.shutterMode, Dict.shutterStart, Dict.shutterPeriod, Dict.shutterBase]
/-- Rows 40 to 79 of the dictionary, in ascending number. -/
def Dict.part1 : List Ob := [Dict.shutterWidth, Dict.shutterFired, Dict.shutterMissed, Dict.shutterNext, Dict.stageStart, Dict.stagePeriod, Dict.stageBase, Dict.shutterApply, Dict.frameNow, Dict.engineStride, Dict.engineCount, Dict.memLevels, Dict.channels, Dict.hostLinks, Dict.autoClear, Dict.diePolicy, Dict.enginePolicy, Dict.dieHeld, Dict.dieEmpty, Dict.dieTorn, Dict.engineHeld, Dict.engineSkipped, Dict.engineTorn, Dict.satCount, Dict.clearEvents, Dict.cmdOpen, Dict.orphanEnds, Dict.dupBegins, Dict.cmdTableClear, Dict.healthKind, Dict.lastDieSnapshot, Dict.lastEngineSnapshot, Dict.descApply, Dict.hostMask, Dict.engineMask, Dict.peerLag, Dict.tempInput, Dict.tempBase, Dict.tempStep, Dict.voltInput]
/-- Rows 80 to 119 of the dictionary, in ascending number. -/
def Dict.part2 : List Ob := [Dict.voltBase, Dict.voltStep, Dict.freqInput, Dict.dieDesc, Dict.engineDesc, Dict.binTables, Dict.centreList, Dict.peerLateCount, Dict.devPipes, Dict.devStages, Dict.devClock, Dict.nodeCapacity, Dict.nodesUsed, Dict.devEvals, Dict.unscoredAll, Dict.linkTable, Dict.slotState, Dict.slotVkind, Dict.slotGenMask, Dict.slotPipeFirst, Dict.slotPipeCount, Dict.slotLink, Dict.slotTrees, Dict.slotDepth, Dict.slotNodes, Dict.slotModelId, Dict.slotQueueDepth, Dict.slotQueued, Dict.slotVectors, Dict.slotUnscored, Dict.slotDefaultRoutes, Dict.slotLastScore, Dict.slotImage, Dict.slotSwapFrame, Dict.slotActivate, Dict.slotStackAddr, Dict.slotLoadStack, Dict.slotUnload, Dict.slotLoadResult, Dict.slotResident]
/-- Rows 120 to 159 of the dictionary, in ascending number. -/
def Dict.part3 : List Ob := [Dict.modelKey, Dict.sigPolicy, Dict.swapHold, Dict.devPhase, Dict.stackWriteAddr, Dict.stackWrite, Dict.libraryBase, Dict.librarySize, Dict.streamRefused, Dict.fields, Dict.fieldCount, Dict.programId, Dict.redMode, Dict.applyFrame, Dict.programApply, Dict.curProgramId, Dict.curMode, Dict.curFields, Dict.deadline, Dict.scoreLag, Dict.redPending, Dict.lastRecord, Dict.lateRecords, Dict.unexpected, Dict.forcedCloses, Dict.gapCloses, Dict.deadlineCloses, Dict.sheetSelect, Dict.sheet, Dict.sheetPush, Dict.lastCount, Dict.lateEwma, Dict.lateShift, Dict.suspectMode, Dict.suspectFixed, Dict.autoK, Dict.autoFloor, Dict.suspectThr, Dict.barriersSeen, Dict.driftShift]
/-- Rows 160 to 199 of the dictionary, in ascending number. -/
def Dict.part4 : List Ob := [Dict.driftMask, Dict.driftScore, Dict.driftArg, Dict.baselines, Dict.baselineReset, Dict.loopThreshold, Dict.loopThrInit, Dict.loopThrMin, Dict.loopThrMax, Dict.loopGain, Dict.loopFlags, Dict.loopValues, Dict.target, Dict.verdictSlot, Dict.routeLimit, Dict.verdict, Dict.recent, Dict.suspectAnom, Dict.calmWatch, Dict.calmSuspect, Dict.verdictClear, Dict.mismatches, Dict.condSelect, Dict.condMin, Dict.condRatio, Dict.condCells, Dict.condUnbinned, Dict.liveLag, Dict.quietFrames, Dict.lostFrames, Dict.stallNs, Dict.livenessTable, Dict.engineSlot, Dict.engineThr, Dict.engineFlags, Dict.memberEpoch, Dict.myJob, Dict.myMember, Dict.jobSize, Dict.memberTable]
/-- Rows 200 to 239 of the dictionary, in ascending number. -/
def Dict.part5 : List Ob := [Dict.jobState, Dict.epochStage, Dict.epochFirstFrame, Dict.epochIssue, Dict.epochBacklog, Dict.epochLastIssued, Dict.releaseMargin, Dict.armMin, Dict.barrierReport, Dict.barriersOpen, Dict.lateReleases, Dict.lastRelease, Dict.nonMemberArrivals, Dict.barrierSelect, Dict.barrierMissing, Dict.bcastTree, Dict.bcastOp, Dict.bcastPayload, Dict.bcastJob, Dict.bcastIssue, Dict.nackTimeout, Dict.ackHold, Dict.ackReport, Dict.ackSelect, Dict.ackMissing, Dict.treesActive, Dict.reissues, Dict.duplicates, Dict.loupeCount, Dict.unopenedLines, Dict.digestsEmitted, Dict.tagsOpen, Dict.digestRing, Dict.bracketClasses, Dict.seed, Dict.fNormal, Dict.fWatch, Dict.fSuspect, Dict.fEngine, Dict.bracketWait]
/-- Rows 240 to 279 of the dictionary, in ascending number. -/
def Dict.part6 : List Ob := [Dict.bracketSelected, Dict.bracketCompared, Dict.bracketMismatched, Dict.bracketNoSlot, Dict.bracketDeclined, Dict.bracketTimeouts, Dict.bracketOpen, Dict.overlayArm, Dict.overlayOrdinal, Dict.overlayPairs, Dict.overlayWait, Dict.overlayCompared, Dict.overlayMismatched, Dict.overlayTimeouts, Dict.overlayUnclaimed, Dict.bound, Dict.boundTarget, Dict.boundEnforce, Dict.boundPeriod, Dict.priorN, Dict.priorK, Dict.boundTerms, Dict.boundReset, Dict.fBound, Dict.testRequest, Dict.testDeadline, Dict.testTable, Dict.testCancel, Dict.testsOverdue, Dict.testsFailed, Dict.testsPassed, Dict.shardsOpen, Dict.shardDigests, Dict.overtakenLines, Dict.traceEnable, Dict.sinkBase, Dict.sinkSize, Dict.sinkWritePtr, Dict.sinkReadPtr, Dict.sinkMode]
/-- Rows 280 to 319 of the dictionary, in ascending number. -/
def Dict.part7 : List Ob := [Dict.syncPeriod, Dict.cmdClassMask, Dict.offloadSources, Dict.offloadFlush, Dict.traceStoreBase, Dict.traceStoreSize, Dict.storeCursor, Dict.storeRead, Dict.storeLost, Dict.sinkWraps, Dict.srcFullPolicy, Dict.srcAlign, Dict.srcStartInit, Dict.srcSrcState, Dict.srcDroppedPackets, Dict.srcDroppedBytes, Dict.srcStallNs, Dict.srcLines, Dict.srcNextLseq, Dict.srcCmpAddr, Dict.srcCmpAction, Dict.srcRangeLow, Dict.srcRangeHigh, Dict.srcRangeMode, Dict.brSearch, Dict.jobChannels, Dict.prcOp, Dict.prcInAddr, Dict.prcInLen, Dict.prcOutAddr, Dict.prcOutLen, Dict.prcWidth, Dict.prcVlen, Dict.prcK0, Dict.prcStart, Dict.prcResume, Dict.prcAbort, Dict.prcStatus, Dict.prcInConsumed, Dict.prcOutProduced]
/-- Rows 320 to 359 of the dictionary, in ascending number. -/
def Dict.part8 : List Ob := [Dict.prcFaultOffset, Dict.downSplit, Dict.upUse, Dict.route, Dict.routeFrom, Dict.routeHome, Dict.homeHold, Dict.routeLead, Dict.routeMove, Dict.routeMoves, Dict.relayed, Dict.relayDiscards, Dict.vectorsLost, Dict.routeTable, Dict.replayTimeout, Dict.retryLimit, Dict.trainLimit, Dict.failHold, Dict.lanesUp, Dict.alarmBufSize, Dict.alarmBufUsed, Dict.alarmHeld, Dict.decimLimit, Dict.decimSets, Dict.retryAfter, Dict.refusedCount, Dict.recSize, Dict.recBase, Dict.fCursor, Dict.fWindow, Dict.oSelect, Dict.oWindow, Dict.fNext, Dict.oNext, Dict.recClear, Dict.fOverwritten, Dict.repeatsFolded, Dict.mirror, Dict.mirrorBehind, Dict.negTake]
/-- Rows 360 to 399 of the dictionary, in ascending number. -/
def Dict.part9 : List Ob := [Dict.negPeriod, Dict.negSeq, Dict.negSlot, Dict.negRestored, Dict.negImage, Dict.mbLevels, Dict.mbMask, Dict.mbTimeout, Dict.mbTimeouts, Dict.mbBusErrors, Dict.mbLastAck, Dict.mbPending, Dict.powerState, Dict.dimIdle, Dict.safelightIdle, Dict.lastWake, Dict.wakes, Dict.dvfsEnable, Dict.dvfsMin, Dict.resetCmd, Dict.resetCause, Dict.islandResets, Dict.straps, Dict.bootResult, Dict.keeperImage, Dict.keeperUpdate, Dict.keeperState, Dict.journalEnable, Dict.journalBase, Dict.journalSize, Dict.historyBase, Dict.historySize, Dict.journalOldest, Dict.historyOldest, Dict.journalLost, Dict.exportFirst, Dict.exportLast, Dict.exportCmd, Dict.exportData, Dict.laneEnable]
/-- Rows 400 to 439 of the dictionary, in ascending number. -/
def Dict.part10 : List Ob := [Dict.laneState, Dict.laneTrainStep, Dict.laneRetrain, Dict.laneGroup, Dict.laneNeighbour, Dict.laneFramesTx, Dict.laneFramesRx, Dict.laneCrcErrors, Dict.laneResends, Dict.laneDownEvents, Dict.laneTrainFails, Dict.laneBerEst, Dict.laneEyeMargin, Dict.laneTxFfe, Dict.laneRxCtle, Dict.laneRxDfe, Dict.laneWavelength, Dict.laneLaserBias, Dict.laneLaserTarget, Dict.laneLaserWarn, Dict.laneRxPower, Dict.laneEgressCorr, Dict.laneIngressCorr, Dict.laneAsymmetry, Dict.laneDelayMech, Dict.lanePortState, Dict.lanePeerDelay, Dict.childLate, Dict.childLastFrame, Dict.grpQuanta, Dict.grpQlimit, Dict.grpPoliceEnable, Dict.grpPoliceAware, Dict.grpGateEnable, Dict.grpGateStage, Dict.grpGateStageN, Dict.grpGateBase, Dict.grpGateCycle, Dict.grpGateApply, Dict.grpGateCurrent]
/-- Rows 440 to 444 of the dictionary, in ascending number. -/
def Dict.part11 : List Ob := [Dict.grpGateState, Dict.grpPolicer, Dict.grpColours, Dict.grpClassBytes, Dict.grpDrops]
/-- Every object of the manual, in ascending index and subindex (16 R335, R341). -/
def Dict.all : List Ob := Dict.part0 ++ Dict.part1 ++ Dict.part2 ++ Dict.part3 ++ Dict.part4 ++ Dict.part5 ++ Dict.part6 ++ Dict.part7 ++ Dict.part8 ++ Dict.part9 ++ Dict.part10 ++ Dict.part11
/-- The member and offset at which a row answers to an index and subindex. -/
def Ob.locate? (o : Ob) (b : Build) (r : Role) (idx sub : Nat) : Option (Nat × Nat) :=
  if o.idx ≤ idx && o.sub ≤ sub && o.existsAt b r (idx - o.idx) (sub - o.sub)
  then some (idx - o.idx, sub - o.sub) else none

/-- The row that holds index.subindex in this build and role, with its member and offset (16 R336). -/
def Dict.find? (b : Build) (r : Role) (idx sub : Nat) : Option (Ob × Nat × Nat) :=
  Dict.all.findSome? (fun o => (o.locate? b r idx sub).map (fun p => (o, p.1, p.2)))

/-- Families whose subindex 00 reads the highest subindex that exists at the index (16 R337). -/
def Dict.hasSub0 (idx : Nat) : Bool :=
  (0x1120 ≤ idx && idx ≤ 0x1127) || idx == 0x1240 || (0x2110 ≤ idx && idx ≤ 0x211F) ||
  idx == 0x2320 || idx == 0x2321 || (0x2610 ≤ idx && idx ≤ 0x2619) ||
  (0x2710 ≤ idx && idx ≤ 0x2713) || (0x3000 ≤ idx && idx ≤ 0x302F)

/-- The highest subindex that exists at an index (16 R337); none where nothing exists. -/
def Dict.highestSub? (b : Build) (r : Role) (idx : Nat) : Option Nat :=
  let here := Dict.all.flatMap (fun o =>
    if o.idx ≤ idx then (o.subs.filter (fun j => o.existsAt b r (idx - o.idx) j)).map (o.sub + ·) else [])
  here.foldl (fun m s => some (max (m.getD 0) s)) none

end Sys2Proof.Machine
end

