-- ==== Sys2Proof/Machine/Crc.lean ====
section
/-! DEFINITION. The cyclic redundancy checks the spec names: CRC-32C (13 R278), CRC-64/ECMA-182 (10 R206), CRC-16/IBM-3740 (04 R91). -/

namespace Sys2Proof.Machine

open Sys2Proof

/-- Eight steps of a reflected CRC with the given polynomial. -/
def crcReflStep (poly : Nat) : Nat → Nat → Nat
  | 0, c => c
  | n + 1, c => crcReflStep poly n (if c % 2 = 1 then (c / 2) ^^^ poly else c / 2)

/-- CRC-32C of a byte string: Castagnoli, reflected, initial value and final XOR all ones (13 R278). -/
def crc32c (bs : Bytes) : Nat :=
  bs.foldl (fun c b => crcReflStep 0x82F63B78 8 (c ^^^ b.toNat)) 0xFFFFFFFF ^^^ 0xFFFFFFFF

/-- Eight steps of an unreflected CRC of the given width and polynomial. -/
def crcFwdStep (width poly : Nat) : Nat → Nat → Nat
  | 0, c => c
  | n + 1, c =>
    let c2 := c * 2 % 2 ^ width
    crcFwdStep width poly n (if c.testBit (width - 1) then c2 ^^^ poly else c2)

/-- An unreflected CRC, each byte taken most significant bit first, no final XOR. -/
def crcFwd (width poly init : Nat) (bs : Bytes) : Nat :=
  bs.foldl (fun c b => crcFwdStep width poly 8 (c ^^^ (b.toNat * 2 ^ (width - 8)))) init

/-- CRC-64/ECMA-182 with initial value 0 (10 R206). -/
def crc64Ecma (bs : Bytes) : Nat := crcFwd 64 0x42F0E1EBA9EA3693 0 bs

/-- CRC-16/IBM-3740: polynomial 0x1021, initial value 0xFFFF (04 R91). -/
def crc16 (bs : Bytes) : Nat := crcFwd 16 0x1021 0xFFFF bs

end Sys2Proof.Machine
end

