-- ==== Sys2Proof/Machine/SoftFloat.lean ====
section
/-! DEFINITION. IEEE 754 binary32 and binary64 with round-half-even, exactly, in integer arithmetic (00 R11; 04 R80 to R83, 07, 10 R222). -/

namespace Sys2Proof.Machine

open Sys2Proof

/-- A float: not-a-number, an infinity, or the exact value (-1)^neg * m * 2^e. -/
inductive Fl where
  | nan
  | inf (neg : Bool)
  | fin (neg : Bool) (m : Nat) (e : Int)
deriving DecidableEq, Repr

/-- A format: precision in bits, least exponent of the last place, and the exponent at which values overflow. -/
structure FlFormat where
  prec : Nat
  qMin : Int
  ovf : Int
  expBits : Nat

/-- binary64. -/
def f64 : FlFormat := { prec := 53, qMin := -1074, ovf := 1024, expBits := 11 }

/-- binary32. -/
def f32 : FlFormat := { prec := 24, qMin := -149, ovf := 128, expBits := 8 }

/-- The value of an encoding. -/
def flDecode (f : FlFormat) (bits : Nat) : Fl :=
  let fb := f.prec - 1
  let frac := bits % 2 ^ fb
  let ex := bits / 2 ^ fb % 2 ^ f.expBits
  let neg := (bits / 2 ^ (fb + f.expBits)) % 2 == 1
  if ex = 2 ^ f.expBits - 1 then (if frac = 0 then .inf neg else .nan)
  else if ex = 0 then .fin neg frac f.qMin
  else .fin neg (frac + 2 ^ fb) (f.qMin + (ex - 1 : Nat))

/-- The value num / den * 2^e rounded half to even into a format (00 R11). -/
def flRound (f : FlFormat) (neg : Bool) (num den : Nat) (e : Int) : Fl :=
  if num = 0 then .fin neg 0 f.qMin
  else
    let guess : Int := (bitLen num : Int) - bitLen den
    let atLeast (l : Int) : Bool :=
      if 0 ≤ l then decide (den * 2 ^ l.toNat ≤ num) else decide (den ≤ num * 2 ^ (-l).toNat)
    let top := if atLeast guess then guess else guess - 1
    let q := max (e + top - (f.prec - 1 : Nat)) f.qMin
    let m := if q ≤ e then divRhe (num * 2 ^ (e - q).toNat) den else divRhe num (den * 2 ^ (q - e).toNat)
    if f.ovf < (bitLen m : Int) + q then .inf neg else .fin neg m q

/-- The encoding of a value already representable in the format; NaN encodes as the quiet NaN. -/
def flEncode (f : FlFormat) : Fl → Nat
  | .nan => (2 ^ f.expBits - 1) * 2 ^ (f.prec - 1) + 2 ^ (f.prec - 2)
  | .inf neg => bit neg * 2 ^ (f.prec - 1 + f.expBits) + (2 ^ f.expBits - 1) * 2 ^ (f.prec - 1)
  | .fin neg m e =>
    let sgn := bit neg * 2 ^ (f.prec - 1 + f.expBits)
    if m = 0 then sgn
    else
      let up := f.prec - bitLen m
      let down := bitLen m - f.prec
      let normE : Int := e - up + down
      let q := max normE f.qMin
      let mm := if q ≤ e then m * 2 ^ (e - q).toNat else m / 2 ^ (q - e).toNat
      if mm < 2 ^ (f.prec - 1) then sgn + mm
      else sgn + ((q - f.qMin).toNat + 1) * 2 ^ (f.prec - 1) + (mm - 2 ^ (f.prec - 1))

/-- A value rounded into a format. -/
def flTo (f : FlFormat) : Fl → Fl
  | .nan => .nan
  | .inf n => .inf n
  | .fin n m e => flRound f n m 1 e

/-- An integer as an exact value. -/
def flOfInt (i : Int) : Fl := .fin (decide (i < 0)) i.natAbs 0

/-- Negation. -/
def flNeg : Fl → Fl
  | .nan => .nan
  | .inf n => .inf (!n)
  | .fin n m e => .fin (!n) m e

/-- The signed integer m at a common exponent. -/
def flScaled (n : Bool) (m : Nat) (e q : Int) : Int :=
  let v : Int := (m * 2 ^ (e - q).toNat : Nat)
  if n then -v else v

/-- Sum, rounded once. -/
def flAdd (f : FlFormat) : Fl → Fl → Fl
  | .nan, _ => .nan
  | _, .nan => .nan
  | .inf a, .inf b => if a = b then .inf a else .nan
  | .inf a, .fin _ _ _ => .inf a
  | .fin _ _ _, .inf b => .inf b
  | .fin a m e, .fin b n g =>
    let q := min e g
    let s := flScaled a m e q + flScaled b n g q
    if s = 0 then .fin (a && b) 0 f.qMin else flRound f (decide (s < 0)) s.natAbs 1 q

/-- Difference, rounded once. -/
def flSub (f : FlFormat) (x y : Fl) : Fl := flAdd f x (flNeg y)

/-- Product, rounded once. -/
def flMul (f : FlFormat) : Fl → Fl → Fl
  | .nan, _ => .nan
  | _, .nan => .nan
  | .inf a, .inf b => .inf (a != b)
  | .inf a, .fin b m _ => if m = 0 then .nan else .inf (a != b)
  | .fin a m _, .inf b => if m = 0 then .nan else .inf (a != b)
  | .fin a m e, .fin b n g => flRound f (a != b) (m * n) 1 (e + g)

/-- Quotient, rounded once. -/
def flDiv (f : FlFormat) : Fl → Fl → Fl
  | .nan, _ => .nan
  | _, .nan => .nan
  | .inf _, .inf _ => .nan
  | .inf a, .fin b _ _ => .inf (a != b)
  | .fin a _ _, .inf b => .fin (a != b) 0 f.qMin
  | .fin a m e, .fin b n g =>
    if n = 0 then (if m = 0 then .nan else .inf (a != b))
    else flRound f (a != b) m n (e - g)

/-- The greatest integer at or below a finite value. -/
def flFloor (n : Bool) (m : Nat) (e : Int) : Int :=
  let v : Int := if n then -(m : Int) else m
  if 0 ≤ e then v * (2 ^ e.toNat : Nat) else v / ((2 ^ (-e).toNat : Nat) : Int)

/-- Strictly less, as numbers; false when either is NaN. -/
def flLt : Fl → Fl → Bool
  | .nan, _ => false
  | _, .nan => false
  | .inf a, .inf b => a && !b
  | .inf a, .fin _ _ _ => a
  | .fin _ _ _, .inf b => !b
  | .fin a m e, .fin b n g =>
    let q := min e g
    decide (flScaled a m e q < flScaled b n g q)

/-- At most, as numbers; false when either is NaN. -/
def flLe : Fl → Fl → Bool
  | .nan, _ => false
  | _, .nan => false
  | x, y => !flLt y x

/-- Is the value NaN? -/
def flIsNan : Fl → Bool
  | .nan => true
  | _ => false

/-- Order for minima and maxima: as numbers, with -0 below +0 (03 R57). -/
def flBelow (x y : Fl) : Bool :=
  match x, y with
  | .fin a 0 _, .fin b 0 _ => a && !b
  | x, y => flLt x y

end Sys2Proof.Machine
end

