-- ==== Sys2Proof/Machine/FrontCode.lean ====
section
/-! DEFINITION. From a counter to a code: descriptors, sources, binning and condition fields (04 R75 to R92). -/

namespace Sys2Proof.Machine

open Sys2Proof

/-- The missing code (04 R75). -/
def missingCode : Nat := 0xFFFF

/-- A source's value: missing, an integer, a float, or a host mistake whose outcome is open (00 R7). -/
inductive SrcVal where
  | missing
  | int (v : Int)
  | flt (x : Fl)
  | mistake
deriving DecidableEq, Repr

/-- What the sources of one vector are read from. -/
structure SrcContext where
  /-- an engine record rather than the die snapshot with its header -/
  engine : Bool
  body : Nat
  ref : Option Nat
  /-- the E counter at an offset has been cleared, or its health slot has started, since its reference was read: the reference is 0
  (03 R57, R68) -/
  zeroE : Nat → Bool
  span : Nat
  levels : Nat
  channels : Nat
  links : Nat
  /-- HEALTH_KIND in force, by input -/
  health : Nat → Nat
  /-- values of the CONDITION selectors; none where the field reads missing -/
  conds : List (Option Nat)
  /-- bin tables, 64 entries of 8 bytes each -/
  tables : Bytes

/-- `w` bits of a body at a byte offset. -/
def SrcContext.bitsAt (_ : SrcContext) (b off w : Nat) : Nat := b / 2 ^ (8 * off) % 2 ^ w

/-- Offset of the command record that holds a byte offset, if one does. -/
def SrcContext.recordOf? (c : SrcContext) (off : Nat) : Option Nat :=
  if c.engine then (if off < 32 then some 0 else none)
  else if 0x660 ≤ off ∧ off < 0x860 then some (0x660 + (off - 0x660) / 32 * 32) else none

/-- Health input whose slot holds a byte offset, if one does. -/
def SrcContext.inputOf? (c : SrcContext) (off : Nat) : Option Nat :=
  if !c.engine && decide (0x860 ≤ off) && decide (off < 0xC60) then some ((off - 0x860) / 16) else none

/-- Does a 64-bit W counter stand at the offset (Tables 03-5 to 03-7)? -/
def SrcContext.isW (c : SrcContext) (off : Nat) : Bool :=
  (if c.engine then decide (32 ≤ off) && decide (off < 96) && off % 8 == 0
   else decide (0x20 ≤ off) && decide (off < 0x660) && off % 8 == 0) ||
  (match c.recordOf? off with
   | some r => off == r + 16
   | none => false)

/-- Is the offset beyond the configured levels, channels or links, or in a slot that is off (04 R79)? -/
def SrcContext.beyond (c : SrcContext) (off : Nat) : Bool :=
  if c.engine then decide (32 ≤ off) && decide (off < 96) && decide (2 * c.levels ≤ (off - 32) / 8)
  else if off < 0x20 then false
  else if off < 0x60 then decide (2 * c.levels ≤ (off - 0x20) / 8)
  else if off < 0x260 then decide (c.channels ≤ (off - 0x60) / 16)
  else if off < 0x660 then decide (c.links ≤ (off - 0x260) / 16)
  else match c.inputOf? off with
    | some i => c.health i == 0
    | none => false

/-- Position of the SAT bit of the E counter at an offset (Tables 03-6, 03-8); none where no E counter stands. -/
def SrcContext.satPos? (c : SrcContext) (off : Nat) : Option Nat :=
  match c.recordOf? off with
  | some r => if off = r then some (8 * r + 210) else if off = r + 4 then some (8 * r + 211)
    else if off = r + 8 then some (8 * r + 212) else none
  | none => match c.inputOf? off with
    | some i => if off % 16 = 0 ∧ c.health i = 1 then some (8 * off + 32) else none
    | none => none

/-- Does a binary32 gauge's LAST, MIN or MAX stand at the offset (Table 03-8)? -/
def SrcContext.isFloat (c : SrcContext) (off : Nat) : Bool :=
  match c.inputOf? off with
  | some i => c.health i == 3 && off % 4 == 0 && off % 16 != 12
  | none => false

/-- Bytes of what the sources are read from. -/
def SrcContext.size (c : SrcContext) : Nat := if c.engine then 128 else 4096

/-- The value of a kind at an offset as it stands in the record (04 R78): counters beyond the configured ones read 0 there (03 R62).
`fresh` says that the feature has no reference. A reserved kind, and bits past the record, are host mistakes. -/
def SrcContext.raw (c : SrcContext) (kind off width : Nat) (fresh : Bool) : SrcVal :=
  match kind with
  | 1 =>
    if !c.isW off then .mistake
    else match c.ref with
      | none => .missing
      | some r => if fresh then .missing
        else .int (((c.bitsAt c.body off 64 + 2 ^ 64 - c.bitsAt r off 64) % 2 ^ 64 : Nat) : Int)
  | 2 =>
    match c.satPos? off with
    | none => .mistake
    | some sp =>
      if c.body.testBit sp then .missing
      else match c.ref with
        | none => .missing
        | some r => if fresh then .missing
          else .int ((c.bitsAt c.body off 32 : Int) - (if c.zeroE off then 0 else c.bitsAt r off 32))
  | 3 =>
    let w := if width = 0 then 64 else width
    if 8 * off + w ≤ 8 * c.size then .int (c.bitsAt c.body off w) else .mistake
  | 4 => if c.isFloat off then .flt (flDecode f32 (c.bitsAt c.body off 32)) else .mistake
  | 5 =>
    match c.recordOf? off with
    | none => .mistake
    | some r0 =>
      if off ≠ r0 then .mistake
      else match c.ref with
        | none => .missing
        | some r =>
          let dp : Int := (c.bitsAt c.body (r0 + 8) 32 : Int) - (if c.zeroE (r0 + 8) then 0 else c.bitsAt r (r0 + 8) 32)
          let ds := (((c.bitsAt c.body (r0 + 16) 64 + 2 ^ 64 - c.bitsAt r (r0 + 16) 64) % 2 ^ 64 : Nat) : Int)
          if fresh || c.body.testBit (8 * r0 + 211) || c.body.testBit (8 * r0 + 212) || decide (dp ≤ 0) then .missing
          else .int (ds / dp)
  | _ => .mistake

/-- The source of a feature at an offset (04 R78, R79), before NORM: of every kind that is not reserved, an offset beyond the configured
ones is missing whatever stands there (DEDUCED, log entry 50). -/
def SrcContext.source (c : SrcContext) (kind off width : Nat) (fresh : Bool) : SrcVal :=
  if kind = 0 ∨ 5 < kind then .mistake
  else if c.beyond off then .missing
  else c.raw kind off width fresh

/-- NORM: the value scaled to a 10 µs span (04 R80). -/
def SrcContext.norm (c : SrcContext) (on : Bool) : SrcVal → SrcVal
  | .int v => if !on then .int v else if c.span = 0 then .missing else .int (v * 10000 / c.span)
  | .flt x =>
    if !on then .flt x else if c.span = 0 then .missing
    else .flt (flDiv f64 (flMul f64 x (flOfInt 10000)) (flOfInt c.span))
  | v => v

/-- Log index of a positive integer, 64 steps per octave (04 R83). -/
def lamInt (t : Nat) : Nat :=
  let p := bitLen t - 1
  64 * p + (if 6 ≤ p then t / 2 ^ (p - 6) % 64 else t * 2 ^ (6 - p) % 64)

/-- Log index of a binary32 encoding (04 R83). -/
def lamF32 (bits : Nat) : Nat := bits / 2 ^ 17 % 2 ^ 14

/-- A code held between 0 and 0xFFFE. -/
def clampCode (v : Int) : Nat := (max 0 (min v 0xFFFE)).toNat

/-- λ of a source under RATIO or PRODUCT: none for a value at or below 0 (04 R81); missing for NaN. -/
def crossIndex : SrcVal → Option (Option Nat)
  | .int v => if v ≤ 0 then some none else some (some (lamInt v.toNat))
  | .flt x =>
    match flTo f32 x with
    | .nan => none
    | .inf true => some none
    | .inf false => some (some 16320)
    | .fin n m e => if n || m == 0 then some none else some (some (lamF32 (flEncode f32 (.fin n m e))))
  | _ => none

/-- RATIO (04 R81). -/
def codeRatio (a b : SrcVal) : Nat :=
  match crossIndex a with
  | none => missingCode
  | some none => (match crossIndex b with
    | none => missingCode
    | some _ => 0)
  | some (some la) => match crossIndex b with
    | some (some lb) => clampCode (0x8000 + la - lb)
    | _ => missingCode

/-- PRODUCT (04 R81). -/
def codeProduct (a b : SrcVal) : Nat :=
  match crossIndex a, crossIndex b with
  | none, _ => missingCode
  | _, none => missingCode
  | some (some la), some (some lb) => clampCode (1 + la + lb)
  | _, _ => 0

/-- DIFF (04 R81). -/
def srcDiff : SrcVal → SrcVal → SrcVal
  | .int a, .int b => .int (a - b)
  | .flt a, .flt b => .flt (flSub f64 a b)
  | .missing, _ => .missing
  | _, .missing => .missing
  | _, _ => .mistake

/-- The entries of a bin table, `n` of them from an offset (04 R84). -/
def tableEntries (tables : Bytes) (no : Nat) (n : Nat) : List Nat :=
  (List.range n).map (fun i => leAt tables (512 * no + 8 * i) 8)

/-- Edges in ascending order (04 R84): each, compared by `le`, at or below the next. -/
def ascending {α : Type} (le : α → α → Bool) : List α → Bool
  | a :: b :: t => le a b && ascending le (b :: t)
  | _ => true

/-- Binning of an integer (04 R82); none is a host mistake: edges that do not ascend (04 R84). -/
def binInt (tables : Bytes) (desc : Nat) (v : Int) : Option Nat :=
  let t := v - toSigned 32 (fieldOf desc 63 32)
  let sh := fieldOf desc 85 80
  let edges := if fieldOf desc 79 74 = 0 then 64 else fieldOf desc 79 74
  match fieldOf desc 93 92 with
  | 0 => some (clampCode (t / (2 ^ sh : Nat)))
  | 1 => some (if t ≤ 0 then 0 else clampCode (1 + lamInt t.toNat))
  | 2 =>
    let es := (tableEntries tables sh edges).map (toSigned 64)
    if ascending (fun a b => decide (a ≤ b)) es then some ((es.filter (fun e => decide (e ≤ v))).length) else none
  | _ => some (if 0 ≤ t ∧ t ≤ 0xFFFE then t.toNat else missingCode)

/-- Binning of a binary32 source (04 R82); none is a host mistake. -/
def binFlt (tables : Bytes) (desc : Nat) (v : Fl) : Option Nat :=
  let base := flDecode f32 (fieldOf desc 63 32)
  let gain := flDecode f32 (fieldOf desc 31 0)
  let t := flSub f64 v base
  let edges := if fieldOf desc 79 74 = 0 then 64 else fieldOf desc 79 74
  match fieldOf desc 93 92 with
  | 0 => match flMul f64 t gain with
    | .nan => some missingCode
    | .inf n => some (if n then 0 else 0xFFFE)
    | .fin n m e => some (clampCode (flFloor n m e))
  | 1 => match flTo f32 t with
    | .nan => some missingCode
    | .inf n => some (if n then 0 else 0xFFFE)
    | .fin n m e => if n || m == 0 then some 0
      else some (clampCode (1 + lamF32 (flEncode f32 (.fin n m e))))
  | 2 =>
    let es := (tableEntries tables (fieldOf desc 85 80) edges).map (flDecode f64)
    match v with
    | .nan => some missingCode
    | .inf n => some (if n then 0 else edges)
    | x => if ascending flLe es then some (es.filter (fun e => flLe e x)).length else none
  | _ => none

/-- The code of a feature that is not of a peer kind (04 R78 to R82). `open_` is the open value of a host mistake. -/
def SrcContext.code (c : SrcContext) (desc : Nat) (masked fresh : Bool) (open_ : Nat) : Nat :=
  let kind := fieldOf desc 103 100
  let srcA := fieldOf desc 127 116
  let srcB := fieldOf desc 115 104
  let width := fieldOf desc 99 94
  let mistake := open_ % 65536
  if masked || desc.testBit 86 || kind == 0 || (desc.testBit 87 && c.span == 0) then missingCode
  else if kind = 6 then
    (match c.conds[srcA]? with
     | none => mistake
     | some none => missingCode
     | some (some v) => v)
  else
    let a := c.norm (desc.testBit 87) (c.source kind srcA width fresh)
    let cross := fieldOf desc 91 90
    let b := if cross = 0 then .missing else c.norm (desc.testBit 87) (c.source kind srcB width fresh)
    if a = .mistake ∨ (cross ≠ 0 ∧ b = .mistake) then mistake
    else if a = .missing ∨ (cross ≠ 0 ∧ b = .missing) then missingCode
    else if cross = 2 then codeRatio a b
    else if cross = 3 then codeProduct a b
    else match (if cross = 1 then srcDiff a b else a) with
      | .int v => (binInt c.tables desc v).getD mistake
      | .flt x => (binFlt c.tables desc x).getD mistake
      | .missing => missingCode
      | .mistake => mistake

/-- Lower median of the codes that are not missing, and how many there are (04 R85). -/
def lowerMedian (codes : List Nat) : Nat × Nat :=
  let sorted := sortNat (codes.filter (· != missingCode))
  (sorted.length, if sorted.length = 0 then missingCode else sorted.getD ((sorted.length - 1) / 2) missingCode)

/-- The code of a peer feature against its centre (04 R85). -/
def peerCode (base centre : Nat) : Nat :=
  if base = missingCode ∨ centre = missingCode then missingCode
  else clampCode (0x8000 + base - centre)

/-- Temperature or voltage bin of a slot's LAST (04 R90): kind of the slot, whether it has had a sample, LAST, BASE, STEP. -/
def conditionBin (kind : Nat) (sampled : Bool) (last base step open_ : Nat) : Nat :=
  if kind = 0 ∨ !sampled then 15
  else if step % 2 ^ (if kind = 3 then 31 else 32) = 0 then open_ % 16
  else if kind = 3 then
    match flDecode f32 last with
    | .nan => 15
    | x => match flDiv f64 (flSub f64 x (flDecode f32 base)) (flDecode f32 step) with
      | .nan => 15
      | .inf n => if n then 0 else 14
      | .fin n m e => (max 0 (min (flFloor n m e) 14)).toNat
  else (max 0 (min (((last : Int) - base) / step) 14)).toNat

/-- Level of one class's BEGINS delta (04 R91). -/
def loadLevel (b total : Nat) : Nat :=
  if b = 0 then 0 else if 8 * b < total then 1 else if 2 * b < total then 2 else 3

/-- LOAD_SIG of the 16 BEGINS deltas (04 R91). -/
def loadSig (deltas : List Nat) : Nat :=
  let total := deltas.sum
  crc16 (leBytes 4 (ofLe ((List.range 4).map (fun i =>
    BitVec.ofNat 8 (loadLevel (deltas.getD (4 * i) 0) total + 4 * loadLevel (deltas.getD (4 * i + 1) 0) total +
      16 * loadLevel (deltas.getD (4 * i + 2) 0) total + 64 * loadLevel (deltas.getD (4 * i + 3) 0) total)))))

end Sys2Proof.Machine
end

