-- ==== Sys2Proof/Machine/RedRec.lean ====
section
/-! DEFINITION. Field programs, reduction records, merging and record vectors (07 R129 to R146, R155). -/

namespace Sys2Proof.Machine

open Sys2Proof

/-- A field descriptor (Table 07-1). -/
structure FieldDesc where
  op : Nat
  srcKind : Nat
  srcIndex : Nat
  codeMode : Nat
  hshift : Nat
  hbase : Int
deriving DecidableEq, Repr

/-- A field program (07 R129): PROGRAM_ID, closing mode (LIVE), fields. -/
structure FieldProgram where
  id : Nat
  live : Bool
  fields : List FieldDesc
deriving DecidableEq, Repr

/-- The descriptor held in 16 bytes (Table 07-1). -/
def FieldDesc.decode (bs : Bytes) : FieldDesc :=
  let v := ofLe (bs.take 16)
  { op := fieldOf v 127 124, srcKind := fieldOf v 123 120, srcIndex := fieldOf v 119 108
    codeMode := fieldOf v 107 106, hshift := fieldOf v 105 100, hbase := toSigned 64 v }

/-- The fields of a staged FIELDS value (07 R129). -/
def decodeFields (bs : Bytes) (count : Nat) : List FieldDesc :=
  (List.range count).map (fun f => FieldDesc.decode ((fitBytes 4096 bs).drop (16 * f)))

/-- Payload size of an operator (Table 07-2); none for a reserved one. -/
def opSize? : Nat → Option Nat
  | 0 => some 0
  | 1 => some 16
  | 2 => some 32
  | 3 => some 16
  | 4 => some 16
  | 5 => some 256
  | 6 => some 96
  | 7 => some 3104
  | 8 => some 8
  | _ => none

/-- The operator's result may depend on arrival order (Table 07-2). -/
def opOrderVariable (op : Nat) : Bool := op == 7 || op == 8

/-- A field payload (Table 07-6). -/
inductive Payload where
  /-- no result: OFF, or a field that FIXED carries with every byte 0 (07 R134) -/
  | void
  | sum (n : Nat) (sum : Int)
  | sumsq (n : Nat) (sum : Int) (sq : Nat)
  /-- MIN and MAX -/
  | ext (n : Nat) (v : Int) (arg : Nat)
  | hist (bins : List Nat)
  | top (entries : List (Int × Nat))
  /-- N, TOGGLE, entries of levels 0 to 23 -/
  | sketch (n toggle : Nat) (levels : List (List Int))
  /-- N, and MEAN as its binary32 encoding -/
  | fmean (n mean : Nat)
deriving DecidableEq, Repr

/-- A field of a record: its status (07 R137) and payload. -/
structure RecField where
  valid : Bool
  clamped : Bool
  short : Bool
  payload : Payload
deriving DecidableEq, Repr

/-- A reduction record (07 R135 to R138). `wild` numbers the open value of a record that the spec calls unpredictable. -/
structure RedRec where
  frame : Nat
  epoch : Nat
  programId : Nat
  present : Nat := 0
  emptyN : Nat := 0
  missingN : Nat := 0
  notLocked : Nat := 0
  held : Nat := 0
  torn : Nat := 0
  level : Nat
  live : Bool
  deadline : Bool := false
  short : Bool := false
  forced : Bool := false
  gap : Bool := false
  /-- missing section: dies in ascending order -/
  missing : List Nat := []
  fields : List RecField := []
  wild : Option Nat := none
deriving DecidableEq, Repr

/-! ### Values (07 R131, R133) -/

/-- The payload that no value has entered. -/
def emptyPayload : Nat → Payload
  | 1 => .sum 0 0
  | 2 => .sumsq 0 0 0
  | 3 => .ext 0 0 0xFFFFFFFF
  | 4 => .ext 0 0 0xFFFFFFFF
  | 5 => .hist (List.replicate 64 0)
  | 6 => .top []
  | 7 => .sketch 0 0 (List.replicate 24 [])
  | 8 => .fmean 0 0
  | _ => .void

/-- The bin of a value (Table 07-2). -/
def histBin (d : FieldDesc) (x : Int) : Nat := (max 0 (min ((x - d.hbase) / (2 ^ d.hshift : Nat)) 63)).toNat

/-- A SUMSQ value held within 48 bits of magnitude, and whether it was clamped (07 R133). -/
def clampSq (x : Int) : Int × Bool :=
  let m : Int := (2 ^ 48 : Nat) - 1
  if m < x then (m, true) else if x < -m then (-m, true) else (x, false)

/-- The payload of one value x from die d, and whether it was clamped (Table 07-2, 07 R133, R144, R145). -/
def onePayload (d : FieldDesc) (x : Int) (die : Nat) : Payload × Bool :=
  match d.op with
  | 1 => (.sum 1 x, false)
  | 2 => let c := clampSq x
         (.sumsq 1 c.1 (c.1 * c.1).toNat, c.2)
  | 3 => (.ext 1 x die, false)
  | 4 => (.ext 1 x die, false)
  | 5 => (.hist (modAt (List.replicate 64 0) (histBin d x) (· + 1)), false)
  | 6 => (.top [(x, die)], false)
  | 7 => (.sketch 1 0 ([x] :: List.replicate 23 []), false)
  | 8 => (.fmean 1 (flEncode f32 (flTo f32 (flOfInt x))), false)
  | _ => (.void, false)

/-! ### Merging (07 R143 to R145) -/

/-- Order of TOP8: value descending, die ascending. -/
def topBefore (a b : Int × Nat) : Bool := decide (b.1 < a.1) || (decide (a.1 = b.1) && decide (a.2 ≤ b.2))

/-- Entries at the positions p, p + 2, … of a list. -/
def everyOther {α : Type} : Nat → List α → List α
  | _, [] => []
  | 0, x :: t => x :: everyOther 1 t
  | _ + 1, _ :: t => everyOther 0 t

/-- Level 23 is compacted in place until at most 16 entries are left (07 R144). -/
def compactLast : Nat → Nat → List Int → Nat × List Int
  | 0, tog, l => (tog, l)
  | f + 1, tog, l =>
    if l.length ≤ 16 then (tog, l)
    else compactLast f (1 - tog) (everyOther tog (sortBy (fun a b => decide (a ≤ b)) l))

/-- Levels from one up to 23 are compacted in turn; `up` enters the first of them (07 R144). -/
def compactFrom (tog : Nat) (up : List Int) : List (List Int) → Nat × List (List Int)
  | [] => (tog, [])
  | [l] => let r := compactLast (l ++ up).length tog (l ++ up)
           (r.1, [r.2])
  | l :: rest =>
    let all := l ++ up
    if all.length ≤ 16 then
      let r := compactFrom tog [] rest
      (r.1, all :: r.2)
    else
      let r := compactFrom (1 - tog) (everyOther tog (sortBy (fun a b => decide (a ≤ b)) all)) rest
      (r.1, [] :: r.2)

/-- binary32 running mean: b merged into a (07 R145). -/
def fmeanMerge (an am bn bm : Nat) : Nat :=
  if bn = 0 then am
  else
    let a := flDecode f32 am
    let q := flDiv f32 (flTo f32 (flOfInt bn)) (flTo f32 (flOfInt (an + bn)))
    flEncode f32 (flAdd f32 a (flMul f32 (flSub f32 (flDecode f32 bm) a) q))

/-- Payload b merged into a under an operator; none if their shapes are not the operator's. -/
def mergePayload (op : Nat) : Payload → Payload → Option Payload
  | .void, .void => some .void
  | .sum n s, .sum m t => some (.sum (n + m) (s + t))
  | .sumsq n s q, .sumsq m t r => some (.sumsq (n + m) (s + t) (q + r))
  | .ext n v d, .ext m w e =>
    let better := if op = 3 then decide (w < v) else decide (v < w)
    if m ≠ 0 ∧ (n = 0 ∨ better ∨ (w = v ∧ e < d)) then some (.ext (n + m) w e) else some (.ext (n + m) v d)
  | .hist a, .hist b => some (.hist (List.zipWith (· + ·) a b))
  | .top a, .top b => some (.top ((sortBy topBefore (a ++ b)).take 8))
  | .sketch n tog a, .sketch m _ b =>
    let r := compactFrom tog [] (List.zipWith (· ++ ·) a b)
    some (.sketch (n + m) r.1 r.2)
  | .fmean n a, .fmean m b => some (.fmean (n + m) (fmeanMerge n a m b))
  | _, _ => none

/-- Fields b merged into a; none where a payload has another shape. -/
def mergeFields : List FieldDesc → List RecField → List RecField → Option (List RecField)
  | [], [], [] => some []
  | d :: ds, a :: as_, b :: bs =>
    match mergePayload d.op a.payload b.payload, mergeFields ds as_ bs with
    | some p, some r => some ({ valid := a.valid && b.valid, clamped := a.clamped || b.clamped
                                short := a.short || b.short, payload := p } :: r)
    | _, _ => none
  | _, _, _ => none

/-- Union of two missing sections, ascending. -/
def unionDies (a b : List Nat) : List Nat := b.foldl (fun l d => if l.contains d then l else insertBy (fun x y => decide (x ≤ y)) d l) a

/-- Is this field carried without a result under the program (07 R134)? -/
def fieldVoid (p : FieldProgram) (d : FieldDesc) : Bool :=
  !p.live && (opOrderVariable d.op || d.srcKind == 9)

/-- A field before any value: void under R134, empty otherwise. -/
def freshField (p : FieldProgram) (d : FieldDesc) : RecField :=
  if fieldVoid p d then { valid := false, clamped := false, short := false, payload := .void }
  else { valid := true, clamped := false, short := false, payload := emptyPayload d.op }

/-- One value enters a field (07 R139, R142). -/
def RecField.enter (r : RecField) (d : FieldDesc) (x : Int) (die : Nat) : RecField :=
  if !r.valid then r
  else
    let o := onePayload d x die
    match mergePayload d.op r.payload o.1 with
    | some p => { r with payload := p, clamped := r.clamped || o.2 }
    | none => r

/-- An empty accumulator (07 R143). -/
def RedRec.start (p : FieldProgram) (frame epoch level : Nat) : RedRec :=
  { frame := frame, epoch := epoch, programId := p.id % 65536, level := level, live := p.live
    fields := p.fields.map (freshField p) }

/-- Every operator of the program has a payload size (Table 07-2): no record of a program is laid out otherwise (07 R131). -/
def FieldProgram.sized (p : FieldProgram) : Bool := p.fields.all (fun d => (opSize? d.op).isSome)

/-- Record b merged into accumulator a (07 R143). A record of another program (its PROGRAM_ID or MODE is not the one in force) or of a
program with a reserved operator makes the result unpredictable (07 R129, R131): open value number `seed`. -/
def RedRec.merge (p : FieldProgram) (seed : Nat) (a b : RedRec) : RedRec :=
  let m := { a with
    epoch := max a.epoch b.epoch, present := a.present + b.present, emptyN := a.emptyN + b.emptyN
    missingN := a.missingN + b.missingN, notLocked := a.notLocked + b.notLocked, held := a.held + b.held
    torn := a.torn + b.torn, live := a.live || b.live, deadline := a.deadline || b.deadline
    short := a.short || b.short, forced := a.forced || b.forced, gap := a.gap || b.gap
    missing := unionDies a.missing b.missing }
  if !p.sized || a.wild.isSome || b.wild.isSome || b.programId != p.id % 65536 || b.live != p.live || b.frame != a.frame then { m with wild := some seed }
  else match mergeFields p.fields a.fields b.fields with
    | some fs => { m with fields := fs }
    | none => { m with wild := some seed }

/-! ### The bytes of a record (07 R135 to R138) -/

/-- Missing chunks, ascending: (CHUNK, bits). -/
def missChunks (dies : List Nat) : List (Nat × Nat) :=
  dies.foldl (fun t d => Tbl.set t (d / 128) (setBit (Tbl.getD t (d / 128) 0) (d % 128))) []

/-- The bytes of a payload under an operator (Table 07-6). -/
def payloadBytes (op : Nat) : Payload → Bytes
  | .void => zeros ((opSize? op).getD 0)
  | .sum n s => leBytes 16 (packBits [(96, ofSigned 96 s), (32, n)])
  | .sumsq n s q => leBytes 32 (packBits [(128, q), (96, ofSigned 96 s), (32, n)])
  | .ext n v d => leBytes 16 (packBits [(64, ofSigned 64 v), (32, d), (32, n)])
  | .hist bins => (bins.map (leBytes 4)).flatten
  | .top es => fitBytes 96 ((es.map (fun e => leBytes 12 (packBits [(64, ofSigned 64 e.1), (32, e.2)]))).flatten ++
      (List.replicate (8 - es.length) (leBytes 12 0xFFFFFFFF)).flatten)
  | .sketch n tog levels =>
    leBytes 8 (packBits [(24, 0), (8, tog), (32, n)]) ++ levels.map (fun l => BitVec.ofNat 8 l.length) ++
      (levels.map (fun l => fitBytes 128 ((l.map (fun x => leBytes 8 (ofSigned 64 x))).flatten))).flatten
  | .fmean n m => leBytes 8 (packBits [(32, m), (32, n)])

/-- Bytes in a record (LEN, Table 07-5); of an unpredictable record the length too is open, within the 32 bits of LEN. -/
def RedRec.len (p : FieldProgram) (r : RedRec) : Nat :=
  match r.wild with
  | some seed => Config.freeNat seed % 2 ^ 32
  | none => 32 + ceilDiv p.fields.length 8 * 8 + 24 * (missChunks r.missing).length +
    (p.fields.map (fun d => (opSize? d.op).getD 0)).sum

/-- The record as bytes (Table 07-4, Table 07-5). -/
def RedRec.bytes (p : FieldProgram) (r : RedRec) : Bytes :=
  match r.wild with
  | some seed => (List.range (r.len p)).map (Config.freeByte seed)
  | none =>
    let chunks := missChunks r.missing
    leBytes 32 (packBits [(32, r.frame), (32, r.epoch), (32, r.len p), (16, r.programId), (18, r.present), (18, r.emptyN),
      (18, r.missingN), (18, r.notLocked), (18, r.held), (18, r.torn), (11, chunks.length), (9, p.fields.length),
      (3, r.level), (1, bit r.live), (1, bit r.deadline), (1, bit r.short), (1, bit r.forced), (1, bit r.gap), (8, 0)]) ++
    padTo 8 (r.fields.map (fun f => BitVec.ofNat 8 (bit f.valid + 2 * bit f.clamped + 4 * bit f.short))) ++
    (chunks.map (fun c => leBytes 24 (packBits [(128, c.2), (32, 0), (32, c.1)]))).flatten ++
    (List.zipWith (fun d f => payloadBytes d.op f.payload) p.fields r.fields).flatten

/-! ### Record vectors (07 R155) -/

/-- The coding function of R155; `open_` is the open value of a reserved CODE_MODE. -/
def codRecord (mode open_ : Nat) (x : Int) : Nat :=
  match mode with
  | 0 => clampCode x
  | 1 => if x ≤ 0 then 0 else clampCode (1 + lamInt x.toNat)
  | 2 => if x = 0 then 0x8000 else if 0 < x then 0x8001 + lamInt x.toNat else 0x7FFF - lamInt (-x).toNat
  | _ => open_ % 65536

/-- First entry, ascending, at which the cumulative weight reaches `need`. -/
def weightedAt : List (Int × Nat) → Nat → Int
  | [], _ => 0
  | [e], _ => e.1
  | e :: t, need => if need ≤ e.2 then e.1 else weightedAt t (need - e.2)

/-- The num/den-quantile of a sketch (07 R144). -/
def sketchQuantile (levels : List (List Int)) (num den : Nat) : Int :=
  let es := sortBy (fun a b => decide (a.1 ≤ b.1)) ((levels.zipIdx.map (fun l => l.1.map (fun x => (x, 2 ^ l.2)))).flatten)
  let w := (es.map (·.2)).sum
  weightedAt es (ceilDiv (num * w) den)

/-- Lowest index with the given property, or `d`. -/
def firstIndex (l : List Nat) (p : Nat → Bool) (d : Nat) : Nat := (l.findIdx? p).getD d

/-- Running sums of a list. -/
def runningSums (l : List Nat) : List Nat := (l.foldl (fun acc x => (acc.1 + x, acc.2 ++ [acc.1 + x])) (0, ([] : List Nat))).2

/-- k1 of FMEAN (Table 07-8). -/
def codMean (mode open_ mean : Nat) : Nat :=
  match flDecode f32 mean with
  | .nan => missingCode
  | .inf neg =>
    if mode = 0 then (if neg then 0 else 0xFFFE)
    else if mode = 3 then open_ % 65536
    else if neg then 0 else clampCode (1 + lamF32 mean)
  | .fin neg m e =>
    if mode = 0 then clampCode (flFloor neg m e)
    else if mode = 3 then open_ % 65536
    else if neg || m == 0 then 0 else clampCode (1 + lamF32 mean)

/-- The four codes of a field (Table 07-8); all four are open, each by itself, under a reserved CODE_MODE (07 R131). -/
def fieldCodes (d : FieldDesc) (open_ : Nat) (f : RecField) : List Nat :=
  let mis := missingCode
  let cap (n : Nat) := min n 0xFFFE
  let cod := codRecord d.codeMode open_
  let none_ := [mis, mis, mis, mis]
  let zero_ := [0, mis, mis, mis]
  if d.codeMode = 3 then
    [open_ % 65536, open_ / 2 ^ 16 % 65536, open_ / 2 ^ 32 % 65536, open_ / 2 ^ 48 % 65536]
  else if !f.valid then none_
  else match f.payload with
  | .void => none_
  | .sum n s => if n = 0 then zero_ else [cap n, cod (s / (n : Int)), mis, mis]
  | .sumsq n s q => if n = 0 then zero_
    else [cap n, cod (s / (n : Int)), codRecord 1 0 (((n : Int) * q - s * s) / ((n : Int) * n)), mis]
  | .ext n v _ => if n = 0 then zero_ else [cap n, cod v, mis, mis]
  | .hist bins =>
    let n := bins.sum
    if n = 0 then zero_
    else [cap n, firstIndex bins (fun b => b == bins.foldl max 0) 0, (bins.filter (· != 0)).length,
      firstIndex (runningSums bins) (fun c => decide (ceilDiv n 2 ≤ c)) 0]
  | .top es =>
    match es with
    | [] => zero_
    | e0 :: _ => match es[7]? with
      | some e7 => [8, cod e0.1, cod e7.1, codRecord 1 0 (e0.1 - e7.1)]
      | none => [es.length, cod e0.1, mis, mis]
  | .sketch n _ levels => if n = 0 then zero_
    else [cap n, cod (sketchQuantile levels 1 2), cod (sketchQuantile levels 99 100), mis]
  | .fmean n m => if n = 0 then zero_ else [cap n, codMean d.codeMode open_ m, mis, mis]

/-- The codes of a record vector (07 R155); unpredictable for an unpredictable record. `n` numbers the first of the open values of
fields with a reserved CODE_MODE, one for each field. -/
def RedRec.vectorCodes (p : FieldProgram) (n : Nat) (r : RedRec) : List Nat :=
  match r.wild with
  | some seed => (List.range (4 * p.fields.length)).map (fun k => (Config.freeByte seed (2 ^ 40 + 2 * k)).toNat + 256 * (Config.freeByte seed (2 ^ 40 + 2 * k + 1)).toNat)
  | none => (List.zipWith (fun (d : FieldDesc × Nat) f => fieldCodes d.1 (Config.freeNat (n + d.2)) f) p.fields.zipIdx r.fields).flatten

end Sys2Proof.Machine
end

