-- ==== Sys2Proof/Machine/Types.lean ====
section
/-! DEFINITION. The plain data that State is made of, by chapter of the spec. -/

namespace Sys2Proof.Machine

open Sys2Proof

/-! ### Messages and the class queues (chapter 14) -/

/-- What a message on a class queue is (Tables 09-1, 13-4, 14-1). -/
inductive MsgKind where
  /-- class 0: an event record sent as an alarm, or the ORIGIN record behind one -/
  | alarm
  /-- class 1 (chapter 09) -/
  | arrival | release | bcast | bcastAck | hopAck | epoch
  /-- class 2 (chapter 15) -/
  | dapRequest | dapResponse
  /-- class 3 (chapters 07, 04, 14) -/
  | record | centres | dieVector | engineVectors
  /-- class 4 (chapter 10) -/
  | digest | mismatch
  /-- class 5 (chapter 11), class 6 (chapters 17 and 20), class 7 -/
  | offload | mirror | leafJournal | bulk
deriving DecidableEq, Repr

/-- One DATA frame's worth of a message waiting in a class queue (14 R297, R311). -/
structure QFrame where
  kind : MsgKind
  /-- payload bytes of the frame -/
  bytes : Bytes
  /-- frame the payload's record belongs to, for what chapter 13 decides by frame number -/
  frame : Nat := 0
  /-- first frame of its message -/
  first : Bool := true
  /-- RELAY bit of the frame (13 R290) -/
  relay : Bool := false
  /-- precedence within the class: Table 09-3, the tiers of 14 R298 -/
  prec : Nat := 0
  /-- own message of class 5 to 7: its CSEQ -/
  cseq : Option Nat := none
deriving DecidableEq, Repr

/-- A policer's buckets (14 R303), in units of 10^-9 x 2^-16 byte, and the local time of their last refill. -/
structure Policer where
  tc : Nat
  tp : Nat
  at_ : Nat
deriving DecidableEq, Repr

/-- A gate list (14 R305, R306): base and cycle in ns, entries (GATES, DURATION). -/
structure GateList where
  base : Nat
  cycle : Nat
  entries : List (Nat × Nat)
deriving DecidableEq, Repr

/-- The queues and the scheduler of one egress group (14 R297 to R307). -/
structure GroupQ where
  /-- class queues 1 to 7, oldest frame first -/
  q : Tbl (List QFrame) := []
  /-- DRR active list, head first -/
  active : List Nat := []
  deficit : Tbl Nat := []
  /-- set of the classes marked fresh -/
  fresh : Nat := 0
  policers : Tbl Policer := []
  /-- gate lists adopted, latest first: the first whose base has come is in force (14 R306) -/
  gates : List GateList := []
  /-- by class, the frames of messages that their producers hold back until QLIMIT has room for them (14 R313) -/
  held : Tbl (List QFrame) := []
  /-- the DATA frame sent last: its kind, the local time at which it started, and its payload bytes (14 R308) -/
  sending : Option (MsgKind × Nat × Nat) := none
deriving DecidableEq, Repr

/-- An alarm in the reserved buffer (14 R299); `own` is the number of the instance's own class F record. -/
structure AlarmEntry where
  bytes : Bytes
  own : Option Nat
deriving DecidableEq, Repr

/-- A run of class 5 to 7 drops not yet written as CLASS_DROP (14 R312). -/
structure DropRun where
  cls : Nat
  srcLevel : Nat
  srcDie : Nat
  first : Nat
  count : Nat
  reason : Nat
  port : Nat
  since : Nat
deriving DecidableEq, Repr

/-- Uplink scheduling of the instance (chapter 14). -/
structure Sched where
  groups : Tbl GroupQ := []
  /-- the reserved alarm buffer, oldest first -/
  alarms : List AlarmEntry := []
  /-- alarms of children, and alarms that a lost group gave back, that wait outside the buffer for room in it (14 R299) -/
  waiting : List AlarmEntry := []
  /-- values that stay in force until the next DATA decision, by the key of an object written since the last one (14 R314) -/
  old : Tbl Nat := []
  oldDoms : Tbl Bytes := []
  /-- next CSEQ of classes 5, 6 and 7 -/
  cseq : Tbl Nat := []
  /-- SRC_DIE that a tray chip last wrote in a prefix, by class -/
  srcDie : Tbl Nat := []
  decimTotal : Nat := 0
  runs : List DropRun := []
  /-- decisions on engine vector sets (14 R308), latest first: frame, decimated, colour, bytes not yet queued -/
  engineSets : List (Nat × Bool × Nat × Nat) := []
deriving DecidableEq, Repr

/-! ### The event recorder and the negative (chapter 17) -/

/-- An event record (Table 17-1). -/
structure EventRec where
  crc : Nat
  payload : Nat
  rep : Nat
  frame : Nat
  time : Nat
  classF : Bool
  source : Nat
  typ : Nat
deriving DecidableEq, Repr

/-- A record held in the ring (17 R351 to R353, R358). -/
structure Stored where
  /-- place in the ring -/
  slot : Nat
  /-- number within its class -/
  num : Nat
  event : EventRec
  /-- waits for space in the reserved alarm buffer (14 R299) -/
  unsent : Bool
  /-- has left the instance, as an alarm or in a mirror message -/
  gone : Bool
  /-- is still to be mirrored (17 R358) -/
  toMirror : Bool
  /-- was marked unsent and no longer is: its place is free for a tally (17 R353) -/
  freed : Bool := false
  /-- received from a child -/
  child : Bool
  alarm : Bool
  /-- local time at which it was written, 2^-16 ns -/
  written : Nat
deriving DecidableEq, Repr

/-- A tally kept while no slot of the ring is free (17 R353). -/
structure Tally where
  firstRec : EventRec
  later : Nat
  alarm : Bool
  child : Bool
deriving DecidableEq, Repr

/-- The event recorder (chapter 17). -/
structure Recorder where
  /-- held records, oldest first -/
  ring : List Stored := []
  /-- tallies in order of first event -/
  tallies : List Tally := []
  /-- local time of the first record waiting to be mirrored -/
  mirrorSince : Option Nat := none
deriving DecidableEq, Repr

/-- States of the negative machine (Table 17-6). -/
inductive NegState where
  | idle | armed | writing
deriving DecidableEq, Repr

/-- The negative (17 R359 to R365). -/
structure Negative where
  state : NegState := .idle
  /-- image captured at the pulse, being written -/
  image : Bytes := []
  /-- SEQ and target slot of the negative being written -/
  seq : Nat := 0
  target : Nat := 0
  /-- local time of the previous capture pulse -/
  lastCapture : Nat := 0
deriving DecidableEq, Repr

/-! ### The journal (chapter 20) -/

/-- A chunk being gathered: entry length, time of its first entry, entries and their frames, oldest first (20 R412). -/
structure Gather where
  entryLen : Nat
  since : Nat
  entries : List (Nat × Bytes)
deriving DecidableEq, Repr

/-- A chunk held in a ring (Table 20-1). -/
structure Chunk where
  addr : Nat
  len : Nat
  cseq : Nat
  first : Nat
  last : Nat
  kind : Nat
  /-- die of a LEAF_STATE entry -/
  die : Nat
  frozen : Bool
deriving DecidableEq, Repr

/-- A run of discarded chunks (20 R419). -/
structure DiscardRun where
  first : Nat
  count : Nat
  since : Nat
deriving DecidableEq, Repr

/-- One ring of chunks (20 R410). -/
structure ChunkRing where
  /-- offset in the ring at which the next chunk is written -/
  pos : Nat := 0
  cseq : Nat := 0
  /-- held chunks, oldest first -/
  chunks : List Chunk := []
  /-- CSEQ at which the journal was last started afresh: earlier chunks are not exported (20 R418) -/
  afresh : Nat := 0
  /-- OLDEST starts at the next frame that is opened -/
  startDue : Bool := true
  run : Option DiscardRun := none
deriving DecidableEq, Repr

/-- Journal and history of a tray chip, and the leaf's journal messages (chapter 20). -/
structure Journal where
  /-- chunks being gathered, by KIND -/
  gathering : Tbl Gather := []
  journal : ChunkRing := {}
  history : ChunkRing := {}
  /-- frames frozen for export (20 R420) -/
  freeze : Option (Nat × Nat) := none
  /-- entries of the leaf's message being gathered: (KIND, body), oldest first (20 R415) -/
  leaf : List (Nat × Bytes) := []
  leafSince : Nat := 0
deriving DecidableEq, Repr

/-! ### Trace (chapter 11) -/

/-- Lines of a source gathered for offload (11 R249). -/
structure OffloadUnit where
  lines : List Bytes := []
  since : Nat := 0
  firstLseq : Nat := 0
  /-- UNIT_SEQ of the next unit -/
  seq : Nat := 0
deriving DecidableEq, Repr

/-- One trace source (11 R233 to R247). Times are local times in 2^-16 ns unless said otherwise. -/
structure TraceSource where
  enabled : Bool := false
  /-- payload of the line being filled -/
  line : Bytes := []
  /-- FIRST of that line; 63 while no packet starts in it -/
  first : Nat := 63
  lseq : Nat := 0
  started : Bool := false
  active : Bool := false
  /-- pending atoms, oldest first -/
  atoms : List Bool := []
  /-- address reference (11 R244) -/
  ref : Nat := 0
  /-- time reference in whole ns (11 R240) -/
  timeRef : Nat := 0
  lastSync : Nat := 0
  lastPacket : Nat := 0
  /-- SYNC is due before the next packet -/
  syncDue : Bool := false
  /-- packets and bytes discarded since the last DROP, and whether a DROP is due -/
  dropPackets : Nat := 0
  dropBytes : Nat := 0
  /-- local time since which the core is stalled -/
  stallSince : Option Nat := none
  asleep : Bool := false
  /-- address of the next instruction to retire, for SYNC; none while it is not known -/
  nextAddr : Option Nat := none
  /-- CAUSE that the next TRACE_ON carries where no comparator starts it (Table 11-6): 0 ENABLE, 2 RANGE_IN, 3 RESUME -/
  onCause : Nat := 0
  unit : OffloadUnit := {}
deriving DecidableEq, Repr

/-- Trace of the instance (chapter 11). -/
structure Trace where
  sources : Tbl TraceSource := []
  /-- completed lines waiting for the sink, oldest first: (source, line) -/
  lines : List (Nat × Bytes) := []
  /-- entries of the trace store, oldest first: (offset of the entry counted without wrap, length) -/
  store : List (Nat × Nat) := []
  /-- offset, counted without wrap, at which the next entry goes -/
  storePos : Nat := 0
  /-- the offset, counted without wrap, that STORE_CURSOR stands for; none where it names no entry (log entry 19) -/
  cursorAt : Option Nat := some 0
  /-- SINK_BASE, SINK_SIZE and SINK_MODE in force (11 R235) -/
  sinkBase : Nat := 0
  sinkSize : Nat := 64
  sinkMode : Nat := 0
deriving DecidableEq, Repr

/-! ### Codec jobs (chapter 12) -/

/-- The parameters a job channel took at START, and the output space used since START or RESUME (12 R263, R264, R267). -/
structure PrcJob where
  op : Nat
  inAddr : Nat
  inLen : Nat
  width : Nat
  vlen : Nat
  k0 : Nat
  outAddr : Nat
  outLen : Nat
  used : Nat
deriving DecidableEq, Repr

/-! ### DAP (chapter 15) -/

/-- Where a DAP request came in: the mailbox, a lane's port, or the management port's peer. -/
inductive DapSource where
  | mailbox
  | lane (p : Nat)
  | mgmt (addr port : Nat)
deriving DecidableEq, Repr

/-- A DAP request (Table 15-1): OP 1 READ, 2 WRITE, 3 ABORT. -/
structure DapReq where
  op : Nat
  reqId : Nat
  idx : Nat
  sub : Nat
  tlevel : Nat := 7
  tdie : Nat := 0
  path : List Nat := []
  offset : Nat := 0
  total : Nat := 0
  data : Bytes := []
deriving DecidableEq, Repr

/-- A DAP response (Table 15-1). -/
structure DapResp where
  op : Nat
  reqId : Nat
  idx : Nat
  sub : Nat
  status : Nat := 0
  completion : Nat := 0
  tlevel : Nat := 0
  tdie : Nat := 0
  offset : Nat := 0
  total : Nat := 0
  retry : Nat := 0
  data : Bytes := []
deriving DecidableEq, Repr

/-- Who wrote a command object: where the request came in, and its REQ_ID. -/
structure Requester where
  src : DapSource
  reqId : Nat
deriving DecidableEq, Repr

/-- How a request came to the management port (15 R317): its destination address and UDP port, whether it carries extension headers or
is a fragment, and whether it fails the FCS or the UDP checksum. It says nothing of a request from another source. -/
structure Datagram where
  dest : Bytes := []
  port : Nat := 0
  plain : Bool := true
  bad : Bool := false
deriving DecidableEq, Repr

/-- A write to an object or a host register that has no command of its own (15 R322, 18 R368): a DAP request, a management
frame that fails its FCS or UDP checksum (15 R317), or a host access to a register of Table 18-2 that has no row: a write, or a read of
another register than B2H_DATA. -/
inductive ObjWrite where
  | dap (src : DapSource) (req : DapReq) (via : Datagram)
  | damaged
  | register (offset value : Nat)
  | readRegister (offset : Nat)
deriving DecidableEq, Repr

/-- A pending entry of a forwarding chip (15 R321). -/
structure DapPending where
  /-- REQ_ID the chip put in the request it forwarded -/
  id : Nat
  source : DapSource
  reqId : Nat
  /-- port on which the request was forwarded -/
  port : Nat
  idx : Nat
  sub : Nat
  op : Nat
  /-- local time at which PEND_TIMEOUT, as it stood when the request came, has passed -/
  due : Nat
deriving DecidableEq, Repr

/-- A read session (15 R325): the copy, and the local time at which SEG_TIMEOUT has passed since the last READ. -/
structure ReadSession where
  key : Nat
  data : Bytes
  due : Nat
deriving DecidableEq, Repr

/-- A write session (15 R326). -/
structure WriteSession where
  key : Nat
  total : Nat
  data : Bytes
  taken : Nat
  /-- local time at which SEG_TIMEOUT has passed since the last segment -/
  due : Nat
  source : DapSource
  reqId : Nat
deriving DecidableEq, Repr

/-- A CMD action that takes time (15 R323). -/
structure CmdAction where
  key : Nat
  idx : Nat
  sub : Nat
  /-- requester whose response waits for the action; none once IN_PROGRESS was answered -/
  waiting : Option (DapSource × Nat)
  since : Nat
  /-- code the action will complete with, once the model knows it -/
  code : Option Nat := none
deriving DecidableEq, Repr

/-- A datagram waiting for the management port: its wire bytes, what it carries, and the number of the instance's own
class F record that it pushes. -/
structure MgmtFrame where
  wire : Nat
  bytes : Bytes
  addr : Nat
  port : Nat
  own : Option Nat := none
deriving DecidableEq, Repr

/-- DAP service, forwarding and the management port (chapter 15). -/
structure Dap where
  pending : List DapPending := []
  nextId : Nat := 0
  /-- local times at which the requests that this target has queued will have been served, in order (15 R329, R333) -/
  queue : List Nat := []
  /-- read sessions, in the order opened -/
  reads : List ReadSession := []
  writes : List WriteSession := []
  actions : List CmdAction := []
  /-- second writes that wait for an action in progress: (key, value, requester) -/
  held : List (Nat × Nat × DapSource × Nat) := []
  /-- number of the ROOT's next push (15 R331) -/
  push : Nat := 0
  responses : List MgmtFrame := []
  alarmPushes : List MgmtFrame := []
  sheetPushes : List MgmtFrame := []
  /-- alarm and shard pushes that did not fit their queue -/
  waitingPushes : List MgmtFrame := []
  /-- local time until which the management port is transmitting -/
  busyUntil : Nat := 0
  /-- OD 1020.00 to OD 1024.00 as they stood at the last chip-scope reset (15 R334) -/
  udpPort : Nat := 49300
  mac : Bytes := []
  addr : Bytes := []
  /-- MGMT_PREFIX -/
  pfx : Nat := 64
  gateway : Bytes := []
deriving DecidableEq, Repr

/-! ### Lanes, links and routes (chapter 13) -/

/-- What a lane keeps beside its objects (13 R284, R444). LANE_STATE and TRAIN_STEP are its objects. -/
structure Lane where
  /-- local time at which the lane entered its state -/
  entered : Nat := 0
  /-- CAUSE with which it left UP, 0 if it was not UP -/
  cause : Nat := 0
  /-- its end is looped back in CALIBRATE -/
  looped : Bool := false
  /-- LASER_AGEING has been written since chip-scope reset -/
  aged : Bool := false
  /-- it has trained: an upstream lane belongs to its port's group (13 R273) -/
  inGroup : Bool := false
  /-- this training: local time of the last IDENT sent; an IDENT has been received; the one after it has been sent (13 R285) -/
  identAt : Option Nat := none
  identSeen : Bool := false
  identDone : Bool := false
  /-- local times of the last TRAIN frame sent, receiver step taken, and laser step taken (13 R279, R286) -/
  trainAt : Option Nat := none
  stepAt : Option Nat := none
  biasAt : Option Nat := none
deriving DecidableEq, Repr

/-- A sequenced frame in the replay buffer (13 R280): its TYPE is 0 DATA, 7 ROUTE or 8 PARENT_LOST. -/
structure SentFrame where
  seq : Nat
  typ : Nat
  cls : Nat
  frame : QFrame
deriving DecidableEq, Repr

/-- The link of one group, both directions (13 R280 to R283). -/
structure Link where
  nextSeq : Nat := 0
  expect : Nat := 0
  /-- sent and not acknowledged, oldest first -/
  replay : List SentFrame := []
  /-- acknowledged first frames of messages that still have frames to send or to be acknowledged (13 R290, R291) -/
  acked : List SentFrame := []
  /-- ROUTE and PARENT_LOST frames that wait for room in the replay buffer: (TYPE, payload) -/
  waiting : List (Nat × Bytes) := []
  /-- local time of the last advance of ACK_SEQ, or of the last resend -/
  advanced : Nat := 0
  /-- times the oldest unacknowledged frame has been resent in a row -/
  resent : Nat := 0
  /-- local time of the NAK that is outstanding -/
  nakSince : Option Nat := none
  /-- cumulative credit received and units sent, per class, modulo 2^16 -/
  credit : Tbl Nat := []
  spent : Tbl Nat := []
  /-- units received, and units of them withheld from the credit given back -/
  taken : Tbl Nat := []
  withheld : Tbl Nat := []
  lastCredit : Nat := 0
deriving DecidableEq, Repr

/-- An entry of the upward route (13 R287); `start` none covers every frame. -/
structure RouteEntry where
  buddy : Bool
  start : Option Nat
  /-- A pulse of FROM_FRAME or later has come: triggers that waited for it have been decided. -/
  met : Bool := false
deriving DecidableEq, Repr

/-- A trigger taken at the pulse of the pending move (13 R288): TRIGGER code and target. -/
structure MoveTrigger where
  code : Nat
  buddy : Bool
  /-- the group has reached UP while a move was pending, and is owed a MOVE (19 R408) -/
  arrived : Bool := false
deriving DecidableEq, Repr

/-- A die's entry in the route table (13 R289): its port, and at most one pending change. -/
structure DieRoute where
  port : Option Nat
  next : Option (Option Nat × Nat)
  /-- every port through which the table has routed the die (09 R190) -/
  ever : List Nat := []
deriving DecidableEq, Repr

/-- A leg of a MOVE that the chip has applied (13 R289, R290). -/
structure AppliedLeg where
  leg : Nat
  start : Nat
  /-- arrival port of LEG 0 and LEG 1; port from which LEG 2 removed the dies -/
  port : Nat
  /-- LEG 1: port the dies were on -/
  old : Option Nat
  dies : List Nat
deriving DecidableEq, Repr

/-- Upward route and route table (13 R287 to R290). -/
structure Routes where
  /-- entries, latest decided first -/
  entries : List RouteEntry := [{ buddy := false, start := none }]
  triggers : List MoveTrigger := []
  /-- local time at which the primary group last reached UP, while its return is still owed -/
  homeSince : Option Nat := none
  /-- the primary group has reached UP since chip-scope reset -/
  joined : Bool := false
  table : Tbl DieRoute := []
  legs : List AppliedLeg := []
deriving DecidableEq, Repr

/-- Lanes and groups of the instance (chapter 13). -/
structure Links where
  /-- DOWN_SPLIT as it stood at the last chip-scope reset (13 R273) -/
  split : Nat := 0
  lanes : Tbl Lane := []
  groups : Tbl Link := []
deriving DecidableEq, Repr

/-! ### Host ports and the mailbox (chapter 18) -/

/-- A host-to-block message of the command-event port (Table 18-4). -/
inductive CeMsg where
  | begin_ (cmd engine cls tag tile : Nat) (dup : Bool)
  | end_ (cmd engine cls : Nat)
  | bytes (engine level dir count : Nat)
  | linkBytes (link dir count : Nat)
  | arrive (barrier : Nat)
  | tagOpen (tag base : Nat)
  | tagClose (tag : Nat)
  | bktOpen (slot side base : Nat)
  | bktClose (slot side engine : Nat)
  | dupDecline (slot : Nat)
  | shardOpen (slot dir shardId : Nat)
  | shardRange (slot length base : Nat)
  | shardClose (slot : Nat) (copyDone : Bool)
  | ckptBoundary
deriving DecidableEq, Repr

/-- A block-to-host message of the command-event port (Table 18-4). -/
inductive CeOut where
  | select (cmd : Nat) (selected : Bool) (slot : Nat)
  | dupReq (cmd origEngine slot : Nat)
  | releaseArmed (barrier job : Nat) (late : Bool) (tRel : Nat)
deriving DecidableEq, Repr

/-- The two queues of the command-event port (18 R370); incoming messages keep their arrival time (2^-16 ns). -/
structure CePort where
  /-- messages that the host offers and the port has not transferred -/
  offered : List CeMsg := []
  inQ : List (CeMsg × Nat) := []
  outQ : List CeOut := []
deriving DecidableEq, Repr

/-- State of a doorbell (Table 18-7). -/
inductive BellState where
  | idle | rung | late
deriving DecidableEq, Repr

/-- A doorbell of one direction: its state, the time of its ring and the kind of the message rung. -/
structure Bell where
  state : BellState := .idle
  since : Nat := 0
  kind : Nat := 0
deriving DecidableEq, Repr

/-- A block-to-host message, waiting or rung (18 R380, R383). -/
structure MbMsg where
  door : Nat
  kind : Nat
  bytes : Bytes
deriving DecidableEq, Repr

/-- A host-to-block message that has been rung (18 R379 to R382): its doorbell, how many words it claims until the block has read them,
the local times at which the block has read it and acknowledges it, and the acknowledge word. -/
structure H2bClaim where
  door : Nat
  words : Nat
  readAt : Nat
  ackAt : Nat
  word : Nat
deriving DecidableEq, Repr

/-- The mailbox and the host register port (18 R367 to R385). Words are oldest first. -/
structure Mailbox where
  h2b : List Nat := []
  /-- host-to-block messages rung and not yet acknowledged by the block, oldest first -/
  claims : List H2bClaim := []
  b2h : List Nat := []
  /-- rung and not yet acknowledged by the host, oldest first -/
  rung : List MbMsg := []
  /-- formed and waiting for room or for their doorbell -/
  waiting : List MbMsg := []
  /-- doorbells: d host to block, 32 + d block to host -/
  bells : Tbl Bell := []
  irqStatus : Nat := 0x20
  irqEnable : Nat := 0
  h2bAck : Nat := 0
deriving DecidableEq, Repr

/-! ### Power, reset, boot and the keeper (chapter 19) -/

/-- What woke the block (Table 19-4). -/
structure WakeSource where
  source : Nat
  detail : Nat
  cls : Nat
  t32 : Nat
deriving DecidableEq, Repr

/-- What the health-input crossing gathers while the core is not ACTIVE (19 R391). -/
structure HealthCrossing where
  pulses : Nat := 0
  ovf : Bool := false
  last : Nat := 0
  min : Nat := 0
  max : Nat := 0
  samples : Nat := 0
deriving DecidableEq, Repr

/-- The power machine (Table 19-2); POWER_STATE is its object. -/
structure Power where
  /-- local time since which the instance has been idle -/
  idleSince : Nat := 0
  /-- state being entered while trace drains: 1 DIM, 2 SAFELIGHT -/
  entering : Option Nat := none
  /-- a wake source that arrived while entry was under way -/
  heldWake : Option WakeSource := none
  /-- the wake under way: its source, the state it left, the steps' durations so far (100 ns) -/
  waking : Option WakeSource := none
  wakeFrom : Nat := 0
  steps : List Nat := []
  stepSince : Nat := 0
  crossing : Tbl HealthCrossing := []
  /-- DVFS: consecutive low periods, an UNSCORED record in the period, the clock of a change in progress -/
  lowPeriods : Nat := 0
  unscoredSeen : Bool := false
  /-- Q has reached 1/64 in the period -/
  queueSeen : Bool := false
  dvfsTarget : Option Nat := none
  dvfsLast : Nat := 0
deriving DecidableEq, Repr

/-- A keeper-, block- or chip-scope reset that takes effect 100 us after its response has left the instance (19 R396): its scope, the
response, and the local time at which that left. -/
structure ResetRequest where
  scope : Nat
  response : Bytes
  left : Option Nat := none
deriving DecidableEq, Repr

/-- Resets (19 R396 to R399). -/
structure Resets where
  requested : List ResetRequest := []
  /-- block (1) or chip (2) scope in progress, and its CAUSE -/
  busy : Option (Nat × Nat) := none
  /-- keeper-scope reset in progress: its CAUSE and the actions abandoned -/
  keeper : Option (Nat × Nat) := none
  /-- island scope in progress: the islands -/
  islands : List Nat := []
  /-- lanes that were UP when a block-scope reset took effect: (port, t32, frame) -/
  lanesDown : List (Nat × Nat × Nat) := []
  /-- pending DAP entries of the lanes that a link island reset took down: answered when those are UP again (Table 19-10) -/
  owed : List DapPending := []
deriving DecidableEq, Repr

/-- Phases of a keeper update (19 R406). -/
inductive UpdatePhase where
  | verifying | persisting | quiescing | paused | restarting
deriving DecidableEq, Repr

/-- A keeper update under way. -/
structure KeeperUpdate where
  live : Bool
  persist : Bool
  phase : UpdatePhase
  since : Nat
deriving DecidableEq, Repr

/-- The keeper (19 R388, R400 to R406). KEEPER_STATE and KEEPER_VERSION are its objects. -/
structure Keeper where
  /-- a keeper image runs -/
  running : Bool := false
  /-- STATE_FORMAT of the image that runs -/
  stateFormat : Nat := 0
  /-- staged image (KEEPER_IMAGE) -/
  staged : Bytes := []
  update : Option KeeperUpdate := none
  /-- the settings copy being written, and when the write began -/
  persisting : Option (Nat × Nat) := none
  /-- a value to be persisted has been stored since that write began -/
  persistDue : Bool := false
deriving DecidableEq, Repr

/-- What boot takes from the flash's SFDP tables (19 R400): the instruction of the 1-1-4 fast read where they advertise it, that of the
1-1-1 read, the bytes of an address, and the size in bytes. -/
structure Sfdp where
  quad : Option Nat := none
  single : Nat := 0
  addrBytes : Nat := 4
  size : Nat := 0x2000000
deriving DecidableEq, Repr

/-- How the flash is read: on four data lines (1-1-4) or on one (1-1-1), by which instruction, with how many address bytes, and how
large it is. -/
structure FlashMode where
  quad : Bool
  op : Nat
  addrBytes : Nat
  size : Nat
deriving DecidableEq, Repr

/-- The boot flash of the tray chip (Table 19-7). -/
structure Flash where
  slotA : Bytes := []
  slotB : Bytes := []
  settings0 : Bytes := []
  settings1 : Bytes := []
  /-- its SFDP tables; none where they cannot be read -/
  sfdp : Option Sfdp := some {}
  /-- how the chip reads it since its last boot -/
  mode : Option FlashMode := none
deriving DecidableEq, Repr

/-! ### Time base and shutter (chapter 02) -/

/-- A record raised by the time or link island while the core is not ACTIVE (19 R391, R392). -/
structure HeldRecord where
  classF : Bool
  alarm : Bool
  typ : Nat
  payload : Nat
  time : Nat
  frame : Nat
deriving DecidableEq, Repr

/-- An external clock that the management port has heard (02 R27, R29): its data set as one number, best (least) first, its UTC
offset, the run time of its last Announce and its announce interval, log2 s. -/
structure ForeignMaster where
  data : Nat
  utc : Nat
  seen : Nat
  log : Int
deriving DecidableEq, Repr

/-- Local time and servo (02 R32, R33). Times are counts of 2^-16 ns. -/
structure TimeBase where
  now : Nat := 0
  /-- run time: what local time would be had it never been stepped; the intervals of PTP are counted in it -/
  run : Nat := 0
  /-- frequency correction in parts per 10^12 -/
  freq : Int := 0
  /-- consecutive Sync intervals with the offset within LOCK_THRESHOLD -/
  lockRun : Nat := 0
  lastSync : Option Nat := none
  /-- Sync interval and Delay_Req interval of the management port, as received (Table 02-1), log2 s -/
  mgmtSyncLog : Int := -7
  mgmtDelayLog : Int := 0
  lastMgmtReq : Nat := 0
  holdSince : Option Nat := none
  /-- external clocks that have announced themselves, by identity (02 R27, R29) -/
  masters : Tbl ForeignMaster := []
  /-- identity of the grandmaster that BMCA has chosen among them -/
  gm : Option Nat := none
  /-- next whole second to be anchored (02 R39) -/
  anchorNext : Nat := 0
  held : List HeldRecord := []
  /-- run time at which the periodic PTP messages were last sent -/
  lastTick : Nat := 0
deriving DecidableEq, Repr

/-- PTP of one lane (02 R27, R36); port 48 stands for the ROOT's management port. Stamps, delays and origins are counts of
2^-16 ns. -/
structure PtpLane where
  /-- delay mechanism in force: DELAY_MECH at the lane's last training (Table 02-9) -/
  mech : Nat := 1
  /-- sequence number and corrected egress stamp of the delay request outstanding -/
  request : Option (Nat × Int) := none
  seq : Nat := 0
  syncSeq : Nat := 0
  /-- mean link delay measured by P2P since the lane trained -/
  p2p : Option Int := none
  /-- mean path delay measured by E2E since the lane became SLAVE -/
  e2e : Option Int := none
  /-- last Sync: corrected ingress stamp, and origin time with its corrections -/
  sync : Option (Int × Int) := none
  /-- a two-step Sync of the management port that waits for its Follow_Up: sequence number, ingress stamp, correction -/
  twoStep : Option (Nat × Int × Int) := none
deriving DecidableEq, Repr

/-- What an external grandmaster sends to the ROOT's management port (02 R27, R29): origin times and corrections are counts
of 2^-16 ns, `gm` is the sender's identity, `data` its clock data set as one number, best (least) first. -/
inductive MgmtPtp where
  | announce (gm data utc : Nat) (logInterval : Int)
  | sync (gm seq : Nat) (origin : Int) (twoStep : Bool) (corr : Int) (logInterval : Int)
  | followUp (gm seq : Nat) (origin corr : Int)
  | delayResp (gm seq : Nat) (receipt corr : Int) (logMinDelayReq : Int)
deriving DecidableEq, Repr

/-- A schedule (02 R41): T in ns, P in ns, B. -/
structure Schedule where
  t : Nat
  p : Nat
  b : Nat
deriving DecidableEq, Repr

/-- What a shutter channel keeps beside its objects (02 R41 to R48). -/
structure ShutterChannel where
  /-- number k of the next slot of the schedule in force -/
  next : Nat := 0
  /-- schedule adopted and not yet in force -/
  waiting : Option Schedule := none
  /-- releases that have armed channel 1 since chip-scope reset -/
  armed : Nat := 0
  /-- job and barrier of the release that arms channel 1 now -/
  release : Option (Nat × Nat) := none
deriving DecidableEq, Repr

/-! ### Counters and snapshots (chapter 03) -/

/-- A command record's counters (Table 03-6, without the gauges). -/
structure CmdRecord where
  begins : Nat := 0
  ends : Nat := 0
  paired : Nat := 0
  satBegins : Bool := false
  satEnds : Bool := false
  satPaired : Bool := false
  lifeSum : Nat := 0
  lifeMax : Nat := 0
deriving DecidableEq, Repr

/-- An engine's counters (Table 03-7). -/
structure EngineRecord where
  cmd : CmdRecord := {}
  /-- level bytes, counter j = 2 x level + direction -/
  levels : Tbl Nat := []
deriving DecidableEq, Repr

/-- A health slot (Table 03-8): the kind in force, whether a sample has been taken since reset (04 R90), and its counter or
gauge. -/
structure HealthSlot where
  kind : Nat := 0
  ever : Bool := false
  count : Nat := 0
  sat : Bool := false
  last : Nat := 0
  min : Nat := 0
  max : Nat := 0
  samples : Nat := 0
deriving DecidableEq, Repr

/-- An open entry of the command table (03 R70): begin time (40 bits, ns), full begin time for OLDEST_AGE, engine, class. -/
structure OpenCmd where
  begun : Nat
  full : Nat
  engine : Nat
  cls : Nat
deriving DecidableEq, Repr

/-- Counters of the instance (03 R52 to R72). -/
structure Counters where
  /-- die memory-level bytes, j = 2 x level + direction -/
  level : Tbl Nat := []
  /-- channel bytes, 2 x channel + direction -/
  chan : Tbl Nat := []
  /-- host-link bytes (port bytes on a tray chip), 2 x link + direction -/
  link : Tbl Nat := []
  cls : Tbl CmdRecord := []
  eng : Tbl EngineRecord := []
  health : Tbl HealthSlot := []
  /-- command table, by command ID -/
  cmds : Tbl OpenCmd := []
  /-- CLEAR_EVENTS waits for the next channel 0 pulse (03 R55) -/
  clearDue : Bool := false
  /-- frame whose capture the clear follows, once its pulse has come -/
  clearAfter : Option Nat := none
  /-- clears done so far (03 R55, R68) -/
  clears : Nat := 0
deriving DecidableEq, Repr

/-- The snapshot header (Table 03-4), field by field. -/
structure SnapHeader where
  frame : Nat := 0
  latchT32 : Nat := 0
  spanNs : Nat := 0
  holdDieNs : Nat := 0
  dieId : Nat := 0
  clock : Nat := 0
  engine : Bool := false
  empty : Bool := false
  heldDie : Bool := false
  heldEng : Bool := false
  tornDie : Bool := false
  tornEng : Bool := false
  satAny : Bool := false
  engineSpan : Nat := 0
  openCmds : Nat := 0
  holdEngNs : Nat := 0
deriving DecidableEq, Repr

/-- A snapshot: its header, its body after the header as one little-endian number, and the configuration it was captured
under. -/
structure Snapshot where
  hdr : SnapHeader
  body : Nat := 0
  /-- no data: the header of a frame whose die capture was left out -/
  blank : Bool := false
  /-- frames it spans, and nanoseconds since the previous capture of its kind -/
  span : Nat := 1
  spanNs : Nat := 0
  levels : Nat := 0
  channels : Nat := 0
  links : Nat := 0
  engines : Nat := 0
  /-- HEALTH_KIND in force, by input, and the set of inputs that had been sampled -/
  kinds : List Nat := []
  sampled : Nat := 0
  /-- clears of the E counters before the capture (03 R68) -/
  clears : Nat := 0
  /-- torn: the byte offset in the body from which the newer capture's values stand, and the clears before that capture -/
  torn : Option (Nat × Nat) := none
  /-- local time (ns) of the capture, and the number of the set of descriptors in force at it (04 R88, R93) -/
  at_ : Nat := 0
  setNo : Nat := 0
deriving DecidableEq, Repr

/-- A capture that waits under HOLD (03 R67): header so far and the due time of its pulse in ns. -/
structure HeldCapture where
  hdr : SnapHeader
  due : Nat
  span : Nat
deriving DecidableEq, Repr

/-- The two buffers of one snapshot kind (03 R67 to R69). -/
structure SnapKind where
  /-- pending snapshots in capture order, at most two -/
  pending : List Snapshot := []
  held : Option HeldCapture := none
  /-- local time (ns) of the previous capture; the end of the chip-scope reset before the first -/
  lastNs : Nat := 0
  /-- channel 0 pulses since the previous capture -/
  pulses : Nat := 0
  /-- drained (or EMPTY) and not yet made into vectors, oldest first -/
  drained : List Snapshot := []
  /-- copy that LAST_DIE_SNAPSHOT or LAST_ENGINE_SNAPSHOT returns -/
  last : Option Snapshot := none
deriving DecidableEq, Repr

/-- Snapshots of the instance. -/
structure Snaps where
  die : SnapKind := {}
  eng : SnapKind := {}
deriving DecidableEq, Repr

/-! ### Front stage (chapter 04) -/

/-- A set of descriptors and bin tables (04 R77, R84, R93): descriptors that are not 0, by feature. -/
structure DescSet where
  die : Tbl Nat := []
  eng : Tbl Nat := []
  tables : Bytes := []
deriving DecidableEq, Repr

/-- A centre record received (Table 04-4): entries (feature, N, centre), and its local time of arrival. -/
structure CentreRecord where
  frame : Nat
  level : Nat
  entries : List (Nat × Nat × Nat)
  arrived : Nat
deriving DecidableEq, Repr

/-- A feature vector (Table 04-1): header as one number, and its codes. -/
structure FVector where
  hdr : Nat
  codes : List Nat
deriving DecidableEq, Repr

/-- A centre record as a message (Table 04-4): entries (feature, N, centre). -/
structure CentreMsg where
  frame : Nat
  level : Nat
  buddy : Bool
  entries : List (Nat × Nat × Nat)
deriving DecidableEq, Repr

/-- A feature frame (14 R309, Table 14-4) and its vectors. -/
structure FeatFrame where
  frame : Nat
  dieId : Nat
  engine : Bool
  decimated : Bool
  decimTotal : Nat
  firstEngine : Nat
  colour : Nat
  vecs : List FVector
deriving DecidableEq, Repr

/-- What was last read of an engine's record (03 R68): its 1,024 bits, the clears before they were captured, the offset from which a
newer capture's values stand and the clears before that, and the set of descriptors in force at the capture. -/
structure EngineRef where
  body : Nat
  clears : Nat
  torn : Option (Nat × Nat)
  setNo : Nat
deriving DecidableEq, Repr

/-- The front stage (chapter 04). -/
structure FrontStage where
  /-- number of the set in force, and the sets by number: 0 is the set before any APPLY -/
  setNo : Nat := 0
  sets : Tbl DescSet := []
  /-- the staged set becomes current at the next channel 0 pulse -/
  applyDue : Bool := false
  /-- snapshots last read: the references of the W and E counters (03 R68) -/
  refDie : Option Snapshot := none
  refEng : Tbl EngineRef := []
  /-- headers of the die vectors whose frame has an engine snapshot in hand, latest first: engine vectors carry their condition fields and flags (Table 04-1) -/
  headers : List (Nat × Nat) := []
  /-- centre records received, latest first -/
  centres : List CentreRecord := []
  /-- codes of the previous engine vector set, by engine (04 R86) -/
  prevEng : List (List Nat) := []
  /-- engine vectors of the set being completed -/
  engSet : List FVector := []
deriving DecidableEq, Repr

/-! ### The developer and model images (chapters 05 and 06) -/

/-- A vector in a slot's queue: the fields of its header that its score record carries, its codes, the slot's VKIND when it
entered (05 R107), and whether it met a full queue (05 R109). -/
structure DevVec where
  frame : Nat
  dieId : Nat := 0
  engine : Nat := 0
  gen : Nat := 0
  empty : Bool := false
  held : Bool := false
  torn : Bool := false
  satAny : Bool := false
  peerLate : Bool := false
  codes : List Nat := []
  vkind : Nat
  full : Bool := false
deriving DecidableEq, Repr

/-- The image of a slot (06 R113, R114). A non-resident image stays in the stacks: `base` is the address of its body. -/
structure SlotImage where
  link : Nat
  trees : Nat
  depth : Nat
  nodes : Nat
  modelId : Nat
  stages : List Nat
  body : Bytes
  base : Option Nat
  /-- IMAGE_LEN: bytes of the whole image -/
  len : Nat
  /-- SHA-384 digest of the header and the body (Table 06-1) -/
  digest : Bytes
deriving DecidableEq, Repr

/-- A load in progress (06 R115 to R117): the stack address or the TOTAL of the transfer, the bytes so far, whether the
header has been tested, and the result of a header test that has failed. -/
structure SlotLoad where
  stack : Option Nat
  total : Nat
  bytes : Bytes := []
  tested : Bool := false
  early : Option Nat := none
  /-- the write session of the load's own transfer is open -/
  session : Bool := false
deriving DecidableEq, Repr

/-- A model slot beside its objects (05 R104 to R109, 06 R119 to R122). -/
structure DevSlot where
  image : Option SlotImage := none
  load : Option SlotLoad := none
  /-- oldest first -/
  queue : List DevVec := []
  /-- STREAMED: entries at the head of `queue` that the batch under evaluation has taken (06 R126) -/
  batch : Nat := 0
  /-- QUEUE_DEPTH in force, once one has been applied -/
  depth : Option Nat := none
  /-- ACTIVATE that completed OK: switch frame and predecessor; `began` once the switch frame has been reached -/
  swap : Option (Nat × Option Nat) := none
  began : Bool := false
  /-- a successor has begun: the switch frame and the successor -/
  successor : Option (Nat × Nat) := none
  /-- retired as a predecessor: the switch frame and the successor (06 R122) -/
  retired : Option (Nat × Nat) := none
  unloading : Bool := false
  last : Option Nat := none
  /-- last score record of a vector of VKIND 0 (07 Table 07-3): frame, LINK, SCORE, SUM -/
  lastDie : Option (Nat × Nat × Nat × Int) := none
deriving DecidableEq, Repr

/-- The developer (chapters 05 and 06). -/
structure Developer where
  slots : Tbl DevSlot := []
deriving DecidableEq, Repr

/-! ### Reduction (chapter 07) -/

/-- A closing machine that is OPEN or MERGING (07 R147); a frame that is SENT has none. -/
structure RedFrame where
  frame : Nat
  /-- expected dies below each child port, ports in ascending order of their lowest die; removed members are gone -/
  expected : List (Nat × List Nat)
  /-- the expected set was empty when the frame was opened or became empty -/
  nothing : Bool := false
  /-- stored records in arrival order -/
  stored : List (Nat × RedRec) := []
  /-- ports marked missing, and ports whose set has become empty -/
  missing : List Nat := []
  emptied : List Nat := []
  /-- deadline under LIVE, ns -/
  deadline : Option Nat := none
  byDeadline : Bool := false
  gap : Bool := false
  forced : Bool := false
  /-- a ROUTE frame for this frame came after it had been opened: its record is open value number `spoiled` (13 R293) -/
  spoiled : Option Nat := none
  /-- the merged record: the machine is MERGING -/
  merged : Option RedRec := none
  /-- score records of frame N - SCORE_LAG complete at the close, by slot (Table 20-2) -/
  tsDone : List Nat := []
  /-- centre records that leave with the merged record (04 R86): the record's bytes, the ports below, and whether it goes up -/
  centres : List (Bytes × List Nat × Bool) := []
  /-- ROOT: slots that the record vector entered, and the score records of them complete so far (07 R154) -/
  scoring : Nat := 0
  scored : List Bytes := []
deriving DecidableEq, Repr

/-- A score record kept for TSCORE (07 R146). -/
structure TScore where
  frame : Nat
  slot : Nat
  die : Nat
  engine : Nat
  link : Nat
  score : Nat
  unscored : Bool
deriving DecidableEq, Repr

/-- A die vector that a TRAY holds for its centres (04 R86): frame, port, die, codes. -/
structure TrayVec where
  frame : Nat
  port : Nat
  die : Nat
  codes : List Nat
deriving DecidableEq, Repr

/-- Reduction of the instance (chapter 07). -/
structure Reduction where
  /-- adopted programs, latest first: (APPLY_FRAME, program); the base is FIELD_COUNT 0, LIVE -/
  programs : List (Nat × FieldProgram) := []
  /-- adopted programs whose first frame has not been reached: their PROGRAM entries are due (Table 20-2) -/
  programDue : List (Nat × FieldProgram) := []
  /-- machines of the frames that are OPEN or MERGING, earliest frame first -/
  frames : List RedFrame := []
  /-- latest frame that is SENT -/
  lastSent : Option Nat := none
  /-- frame of the first channel 0 pulse since a block- or chip-scope reset (07 R153) -/
  firstPulse : Option Nat := none
  /-- last contact sheets of the ROOT, latest first -/
  sheets : List (Nat × Bytes) := []
  scores : List TScore := []
  /-- die vectors held for the tray centres, and at a RACK the tray centres received: (port, record) -/
  vecs : List TrayVec := []
  trayCentres : List (Nat × CentreRecord) := []
  /-- ROOT: score records still owed to sheets that have been queued: (frame, number) -/
  sheetOwed : List (Nat × Nat) := []
deriving DecidableEq, Repr

/-! ### Verdict stage and liveness (chapter 08) -/

/-- A condition cell (08 R165). -/
structure CondCell where
  frames : Nat := 0
  anom : Nat := 0
  mismatch : Nat := 0
  hot : Bool := false
deriving DecidableEq, Repr

/-- A die vector that waits for its verdict (08 R169): it entered the slots of `slots`. -/
structure VerdictWait where
  frame : Nat
  codes : List Nat
  skip : Bool
  /-- condition fields: TEMP_BIN, VOLT_BIN, FREQ_STEP, LOAD_SIG (none: SIG_MISSING) -/
  temp : Nat
  volt : Nat
  freq : Nat
  sig : Option Nat
  slots : List Nat
  /-- the vector was decimated and sent on class 6 (20 R415) -/
  onClass6 : Bool := false
deriving DecidableEq, Repr

/-- The verdict stage (08 R158 to R170). -/
structure VerdictStage where
  /-- last-arrival window, newest bit 0 -/
  window : Nat := 0
  /-- lateness average, ns with 16 fraction bits; none until the first arrival after a window restart -/
  lateAvg : Option Nat := none
  /-- (b, w) by feature -/
  base : Tbl (Nat × Nat) := []
  /-- θ of the drift loop (0) and the score loop (1), 40 fraction bits; unlisted: THR_INIT -/
  theta : Tbl Int := []
  /-- flags of 64 frames by number: bit i is that of frame `flagFrame` - i (08 R167) -/
  flags : Nat := 0
  flagFrame : Nat := 0
  cells : Tbl CondCell := []
  /-- a mismatch has been counted since the last VERDICT_CLEAR -/
  mismatched : Bool := false
  /-- frames in which a mismatch has reached the stage and whose verdict is still to be formed -/
  mismatchWait : List Nat := []
  /-- the frame whose verdict was formed last, and its cell (08 R166) -/
  lastCell : Option (Nat × Option Nat) := none
  calm : Nat := 0
  waiting : List VerdictWait := []
  /-- score records of die vectors that wait for their verdict: (slot, frame, record) -/
  scores : List (Nat × Nat × Nat) := []
  /-- since the previous verdict (Table 20-3): releases, those that named this die, lateness of the last arrival -/
  releases : Nat := 0
  latest : Nat := 0
  lateness : Option Nat := none
  /-- mismatches since the previous verdict (Table 20-3) -/
  mism : Nat := 0
  /-- a LEAF_STATE entry is due with the next verdict (20 R417) -/
  stateDue : Bool := true
  /-- loops whose THR_INIT has been written since the last channel 0 pulse (08 R163, R179) -/
  initDue : Nat := 0
  /-- TRAY: greatest compared engine score by die: frame, compared value, engine, SCORE as emitted (08 R172) -/
  engMax : Tbl (Nat × Nat × Nat × Nat) := []
  /-- TRAY: the last engine frame of a die whose greatest score is settled (08 R172; log entry 26) -/
  engDone : Tbl Nat := []
deriving DecidableEq, Repr

/-- A liveness machine (08 R173 to R176): 0 ALIVE, 1 QUIET, 2 STALLED, 3 LOST, 4 FENCED. -/
structure LiveMachine where
  state : Nat := 4
  silence : Nat := 0
  /-- frames of which a record has been received, latest first -/
  heard : List Nat := []
  /-- STALLED: (job, barrier) that the die waits at (08 R176) -/
  stall : Option (Nat × Nat) := none
deriving DecidableEq, Repr

/-! ### Class 1: membership, broadcasts, barriers (chapter 09) -/

/-- An epoch entry (Table 09-4). -/
inductive EpochEntry where
  | die (id job : Nat) (member : Bool)
  | size (job count : Nat)
deriving DecidableEq, Repr

/-- Body of a downward message (Table 09-2). -/
inductive DownBody where
  | release (tRel latestDie : Nat)
  | bcast (op : Nat) (payload : Bytes)
  | epoch (firstFrame seg segs : Nat) (resync : Bool) (entries : List EpochEntry)
deriving DecidableEq, Repr

/-- A downward message of class 1 (Tables 09-1, 09-2). -/
structure DownMsg where
  job : Nat
  id : Nat
  seq : Nat
  epoch : Nat
  level : Nat
  reissue : Bool
  body : DownBody
deriving DecidableEq, Repr

/-- A broadcast tree at a chip (09 R190 to R194). -/
structure Tree where
  job : Nat
  /-- SEQ of the last broadcast seen (at the ROOT: written), none before the first -/
  seq : Option Nat := none
  op : Nat := 0
  /-- port set: the groups that have qualified since the entry was created -/
  ports : List Nat := []
  /-- ROOT: the broadcast has left the hold of R189, its acknowledgement set, and the local time at which ACK_REPORT, as it stood then,
  falls due (09 R194, R204) -/
  issued : Bool := false
  ackSet : List Nat := []
  reportAt : Nat := 0
  complete : Bool := false
  reported : Bool := false
  /-- ROOT: start barrier named by the JOB_START, and whether that broadcast is complete -/
  startBarrier : Nat := 0
  started : Bool := false
deriving DecidableEq, Repr

/-- Acknowledgements of one broadcast (09 R193): the union received, the union sent on, and the local time at which ACK_HOLD,
as it stood at the first acknowledgement not yet sent, falls due (09 R204). -/
structure AckUnion where
  tree : Nat
  seq : Nat
  job : Nat
  union : List Nat := []
  sent : List Nat := []
  due : Option Nat := none
deriving DecidableEq, Repr

/-- A chip's broadcast machine that is not idle (09 R195). -/
structure Forward where
  msg : DownMsg
  /-- ports whose HOP_ACK is outstanding, and the local time at which NACK_TIMEOUT, as it stood at sending, falls due (09 R204) -/
  waits : List (Nat × Nat) := []
  /-- ports that have acknowledged the hop -/
  acked : List Nat := []
  collecting : Bool := false
deriving DecidableEq, Repr

/-- An open barrier at a chip (09 R200, R201). -/
structure OpenBarrier where
  job : Nat
  barrier : Nat
  latest : Option (Nat × Nat) := none
  arrived : List Nat := []
  sent : List Nat := []
  /-- local time of the first arrival, from which R175 counts -/
  first : Nat
  /-- local time at which BARRIER_REPORT, as it stood at the first arrival, falls due (09 R201, R204) -/
  reportAt : Nat
  reported : Bool := false
  /-- its release has reached the chip, which holds it behind an epoch (09 R189, 08 R175) -/
  relSeen : Bool := false
deriving DecidableEq, Repr

/-- An arrival of the leaf (09 R199): its barrier, full time, lateness, frame it is registered in, and whether its release
is still awaited. -/
structure LeafArrival where
  barrier : Nat
  time : Nat
  late : Option Nat
  frame : Nat
  awaiting : Bool
  /-- job of the barrier -/
  job : Nat
deriving DecidableEq, Repr

/-- The leaf's side of chapter 09. JOB_STATE is its object. -/
structure LeafJob where
  tree : Option Nat := none
  job : Nat := 0xFFFF
  heldStart : Option DownMsg := none
  /-- deliveries that the host has not acknowledged, oldest first: (kind, tree, SEQ, job, payload) -/
  delivering : List (Nat × Nat × Nat × Nat × Bytes) := []
  /-- last SEQ seen by tree, and whether it has been acknowledged -/
  lastSeq : Tbl (Nat × Bool) := []
  /-- teardown in progress: (job, tree, SEQ) -/
  teardown : Option (Nat × Nat × Nat) := none
  startBarrier : Option Nat := none
  /-- T_REL of the last release received since the current JOB_START was delivered -/
  reference : Option Nat := none
  /-- a release has been received since that JOB_START -/
  released : Bool := false
  /-- releases counted for STEP (10 R212) -/
  step : Nat := 0
  arrivals : List LeafArrival := []
deriving DecidableEq, Repr

/-- Membership, broadcasts and barriers (chapter 09). -/
structure Barriers where
  /-- membership table: (MEMBER, JOB) by die; unlisted: not a member, 0xFFFF; a leaf holds its own entry in its objects -/
  member : Tbl (Bool × Nat) := []
  /-- changes of MEMBER, latest first: (FIRST_FRAME, die, MEMBER before) -/
  changes : List (Nat × Nat × Bool) := []
  /-- segments held or being applied, in order of arrival -/
  segs : List DownMsg := []
  /-- epoch whose segments are being applied: its number and the segments of it applied -/
  applying : Option (Nat × Nat) := none
  /-- entries of the segments applied so far -/
  gathered : List EpochEntry := []
  /-- size entries of the last epochs, latest first -/
  sizes : List (Nat × List (Nat × Nat)) := []
  trees : Tbl Tree := []
  unions : List AckUnion := []
  /-- messages held until their epoch is applied, in order of arrival -/
  held : List DownMsg := []
  /-- keys of the re-issued messages taken from above (09 R196), latest first -/
  reissued : List (Nat × Nat × Nat × Nat) := []
  /-- ROOT: broadcasts written and held behind epochs being applied; their EPOCH is the epoch they wait for -/
  heldIssues : List DownMsg := []
  /-- ROOT: SEQ of the next broadcast on the pod tree -/
  podSeq : Nat := 0
  fwd : List Forward := []
  /-- releases acted on for each job, latest first: (barrier, T_REL); 1,024 of a job are remembered (log entry 38) -/
  lastRel : Tbl (List (Nat × Nat)) := []
  openBars : List OpenBarrier := []
  leaf : LeafJob := {}
deriving DecidableEq, Repr

/-! ### Silent-error evidence (chapter 10) -/

/-- An accumulator of one loupe (10 R207): ACC and LINES, and whether LINES has saturated. -/
structure Accum where
  acc : Nat := 0
  lines : Nat := 0
  sat : Bool := false
deriving DecidableEq, Repr

/-- A tag slot that is open (10 R208): its tag, base, and accumulators by loupe. -/
structure TagSlot where
  tag : Nat
  base : Nat
  taps : Tbl Accum := []
  incomplete : Bool := false
deriving DecidableEq, Repr

/-- One side of a bracket slot (10 R216). -/
structure BracketSide where
  base : Nat := 0
  taps : Tbl Accum := []
  closed : Bool := false
deriving DecidableEq, Repr

/-- A bracket slot that is ARMED (Table 10-5). -/
structure BracketSlot where
  cmd : Nat
  tag : Nat
  tile : Nat
  step : Nat
  origEngine : Nat
  dupEngine : Nat := 0
  orig : BracketSide := {}
  dup : BracketSide := {}
  since : Nat
deriving DecidableEq, Repr

/-- A shard slot that is open (10 R227, R228). -/
structure ShardSlot where
  id : Nat
  write : Bool
  base : Nat
  length : Nat
  taps : Tbl Accum := []
  /-- marks by loupe; unlisted: BASE -/
  marks : Tbl Nat := []
  overtaken : Bool := false
  incomplete : Bool := false
deriving DecidableEq, Repr

/-- A digest record (Table 10-3). -/
structure DigestRec where
  digest : Nat
  lines : Nat
  frame : Nat
  name : Nat
  ordinal : Nat
  die : Nat
  kind : Nat
  incomplete : Bool
  overtaken : Bool
  sat : Bool
  overlay : Bool
  copyDone : Bool
  job : Nat
deriving DecidableEq, Repr

/-- A test entry that is not FREE (Table 10-10); times are full ns. -/
structure TestEntry where
  issued : Bool
  overdue : Bool := false
  engine : Nat
  test : Nat
  deadline : Nat
  requested : Nat
deriving DecidableEq, Repr

/-- Evidence of the instance (chapter 10). -/
structure Evidence where
  tags : Tbl TagSlot := []
  bracket : Tbl BracketSlot := []
  /-- shard ID and DIR staged by SHARD_OPEN -/
  staged : Tbl (Nat × Bool) := []
  shards : Tbl ShardSlot := []
  /-- last 64 digest records, oldest first -/
  ring : List DigestRec := []
  armed : Bool := false
  /-- unmatched records of pair i: side 2i the suspect's, side 2i + 1 the spare's, oldest first, with their arrival -/
  unmatched : Tbl (List (DigestRec × Nat)) := []
  /-- bound terms (10 R221) -/
  eligible : Nat := 0
  compared : Nat := 0
  mismatched : Nat := 0
  runningNs : Nat := 0
  /-- running time of the last bound period (10 R222) -/
  boundLast : Nat := 0
  /-- BOUND_UNMET has been written since BOUND_RESET or the last re-arming (10 R223) -/
  unmetWritten : Bool := false
  tests : Tbl TestEntry := []
deriving DecidableEq, Repr

end Sys2Proof.Machine
end

