-- ==== Sys2Proof/Syntax.lean ====
section
/-! DEFINITION. The commands of the block: one constructor per row of spec/opcode_table.json.
Every constructor's first operand `dt` is the local time, in ns, that has passed since the command before it. -/

namespace Sys2Proof

open Sys2Proof.Machine

/-- The commands. -/
inductive Instr where
  /-- CHIP_SCOPE_RESET (R396): Power-on, the reset pin (RESET_N or UR_RESET_N) or a delayed RESET command resets everything, after which the boot follows. -/
  | chipScopeReset (dt : Nat) (powerOn : Bool)
  /-- BLOCK_SCOPE_RESET (R397): A block-scope reset, from the host's block-reset input or a delayed RESET command, keeps the listed state and loses the rest. -/
  | blockScopeReset (dt : Nat)
  /-- RESET_END (R396): A block-scope or chip-scope reset ends: lanes leave DOWN and train, LANE_DOWN or RESET_DONE records are written, and pending deliveries are rung again. -/
  | resetEnd (dt : Nat)
  /-- KEEPER_SCOPE_RESET (R398): The keeper is reset and restarts from the image it holds; its action in progress is abandoned and a negative being written is abandoned. -/
  | keeperScopeReset (dt : Nat)
  /-- KEEPER_WATCHDOG (R398): The keeper fails to signal the watchdog within 100 ms, causing a keeper-scope reset and a class F KEEPER_RESET alarm. -/
  | keeperWatchdog (dt : Nat)
  /-- RESET_ISLAND_LINK (R396): The RESET command with island scope on the link island resets the link layer at once, and every lane leaves UP and retrains. -/
  | resetIslandLink (dt : Nat) (rq : Requester)
  /-- RESET_ISLAND_LOUPE (R396): The RESET command with island scope on loupe island t loses that tap's accumulators at once. -/
  | resetIslandLoupe (dt : Nat) (rq : Requester) (t : Nat)
  /-- RESET_KEEPER (R396): The RESET command with keeper scope answers, then schedules a keeper-scope reset 100 µs after the response leaves. -/
  | resetKeeper (dt : Nat) (rq : Requester)
  /-- RESET_BLOCK (R396): The RESET command with block scope answers, then schedules a block-scope reset 100 µs after the response leaves. -/
  | resetBlock (dt : Nat) (rq : Requester)
  /-- RESET_CHIP (R396): The RESET command with chip scope answers, then schedules a chip-scope reset 100 µs after the response leaves. -/
  | resetChip (dt : Nat) (rq : Requester)
  /-- RESET_DELAY_EXPIRY (R396): The 100 µs after the response to a keeper, block or chip RESET pass, and the requested reset takes effect. -/
  | resetDelayExpiry (dt : Nat)
  /-- OBJECT_WRITE (R322): A DAP WRITE, or a host register write, to an object or register with no row of its own stores the value under its access kind, including segmented sessions. -/
  | objectWrite (dt : Nat) (w : ObjWrite)
  /-- DAP_READ (R325): A DAP READ is routed to its target and returns value bytes, opening or using a read session for long values. -/
  | dapRead (dt : Nat) (src : DapSource) (r : DapReq) (via : Datagram)
  /-- DAP_ABORT (R326): A DAP ABORT request ends the object's write session and is answered OK. -/
  | dapAbort (dt : Nat) (src : DapSource) (r : DapReq) (via : Datagram)
  /-- DAP_RESPONSE (R321): A response arriving at a forwarding chip is matched to its pending entry, gets its REQ_ID restored and is passed back, or is discarded as an orphan. -/
  | dapResponse (dt : Nat) (p : Nat) (r : DapResp)
  /-- PEND_TIMEOUT (R321): A pending entry's timeout passes, and the holder answers ROUTE_LOST with reason 0x03. -/
  | pendTimeout (dt : Nat)
  /-- SEG_TIMEOUT (R325): SEG_TIMEOUT passes without a segment, ending a read session or ending a write session with SEGMENT_ABORT. -/
  | segTimeout (dt : Nat)
  /-- CMD_IN_PROGRESS (R323): A CMD action not complete within 1 ms gets its response sent with COMPLETION IN_PROGRESS. -/
  | cmdInProgress (dt : Nat)
  /-- CMD_COMPLETE (R323): A CMD action that took time completes, and its final completion code becomes readable. -/
  | cmdComplete (dt : Nat)
  /-- NEIGHBOR_SOLICITATION (R317): The management port answers an ICMPv6 Neighbor Solicitation. -/
  | neighborSolicitation (dt : Nat) (peer target : Bytes) (bad : Bool)
  /-- ECHO_REQUEST (R317): The management port answers an ICMPv6 Echo Request. -/
  | echoRequest (dt : Nat) (peer addr body : Bytes) (bad : Bool)
  /-- PTP_SYNC (R32): A Sync message received on the SLAVE lane feeds the servo, which slews or steps the clock and advances the clock state machine. -/
  | ptpSync (dt : Nat) (p domain gm utc : Nat) (origin corr : Int)
  /-- PTP_PDELAY_REQ (R27): A Pdelay_Req received on a lane is answered by a one-step Pdelay_Resp. -/
  | ptpPdelayReq (dt : Nat) (p domain gm utc clock port seq : Nat) (corr : Int)
  /-- PTP_PDELAY_RESP (R27): A Pdelay_Resp received updates the lane's peer delay. -/
  | ptpPdelayResp (dt : Nat) (p domain gm utc seq : Nat) (corr : Int)
  /-- PTP_DELAY_REQ (R27): A Delay_Req received on an E2E master lane is answered by a Delay_Resp. -/
  | ptpDelayReq (dt : Nat) (p domain gm utc clock port seq : Nat) (corr : Int)
  /-- PTP_DELAY_RESP (R27): A Delay_Resp received on an E2E slave lane updates its mean path delay. -/
  | ptpDelayResp (dt : Nat) (p domain gm utc seq : Nat) (receipt corr : Int)
  /-- PTP_MGMT_MESSAGE (R29): A PTP message from an external grandmaster on the ROOT's management port drives BMCA and the ROOT's servo. -/
  | ptpMgmtMessage (dt : Nat) (domain : Nat) (m : MgmtPtp)
  /-- PTP_INTERVAL_TICK (R27): The Sync interval elapses, and the instance sends its periodic Sync and Pdelay or Delay_Req messages on its lanes. -/
  | ptpIntervalTick (dt : Nat)
  /-- SYNC_LOSS_TIMEOUT (R33): No Sync arrives for 4 Sync intervals, and the clock moves to FREERUN or HOLDOVER. -/
  | syncLossTimeout (dt : Nat)
  /-- HOLDOVER_TIMEOUT (R33): After 60 s in HOLDOVER the clock moves to FREERUN and writes CLOCK_FREERUN. -/
  | holdoverTimeout (dt : Nat)
  /-- TIME_ANCHOR (R39): Local time reaches a whole second, and a TIME_ANCHOR record is written, or queued by the time island. -/
  | timeAnchor (dt : Nat)
  /-- TIME_NOW_WRITE (R51): A write to TIME_NOW on a ROOT with its own source sets local time and thereby steps the whole pod. -/
  | timeNowWrite (dt : Nat) (rq : Requester) (value : Nat)
  /-- SHUTTER_FIRE (R41): A slot of a shutter channel comes due: it fires its pulse, and on channel 0 it starts a frame with everything that occurs at that pulse. -/
  | shutterFire (dt : Nat) (c : Nat)
  /-- SHUTTER_APPLY (R44): The APPLY command of a shutter channel adopts the staged schedule, or completes LATE. -/
  | shutterApply (dt : Nat) (rq : Requester) (c : Nat)
  /-- CLEAR_EVENTS (R55): The CLEAR_EVENTS command clears every E counter and SAT bit after the next channel 0 capture. -/
  | clearEvents (dt : Nat) (rq : Requester)
  /-- HELD_CAPTURE (R67): Under HOLD, a capture that waited takes place once its buffer is drained, or is abandoned when the next capture falls due. -/
  | heldCapture (dt : Nat) (engine : Bool)
  /-- SNAPSHOT_DRAINED (R67): The front stage reads the last word of a snapshot, which frees its buffer. -/
  | snapshotDrained (dt : Nat) (engine : Bool)
  /-- DIE_VECTOR_COMPLETE (R76): A die vector is complete and goes to the developer and the uplink, and the leaf builds its reduction record. -/
  | dieVectorComplete (dt : Nat)
  /-- ENGINE_VECTOR_COMPLETE (R76): An engine vector is complete after its engine record drains, and enters the slots and the uplink. -/
  | engineVectorComplete (dt : Nat)
  /-- DESC_APPLY (R93): The front-stage APPLY command makes the staged descriptors and bin tables current at the next channel 0 pulse. -/
  | descApply (dt : Nat) (rq : Requester)
  /-- CMD_TABLE_CLEAR (R71): The CMD_TABLE_CLEAR command closes every entry of the command table. -/
  | cmdTableClear (dt : Nat) (rq : Requester)
  /-- BEGIN (R70): A BEGIN message opens its command-table entry, counts, and may be selected for bracket. -/
  | begin_ (dt : Nat) (cmd engine cls tag tile : Nat) (dup : Bool)
  /-- END (R70): An END message counts, and pairs with its open BEGIN or is counted as an orphan. -/
  | end_ (dt : Nat) (cmd engine cls : Nat)
  /-- BYTES (R372): A BYTES message adds COUNT to an engine's level counters and to the die totals. -/
  | bytes (dt : Nat) (engine level dir count : Nat)
  /-- LINK_BYTES (R372): A LINK_BYTES message adds COUNT to a host link's counter. -/
  | linkBytes (dt : Nat) (link dir count : Nat)
  /-- ARRIVE (R199): The host arrives at a barrier, and the leaf times the arrival, computes its lateness and sends an ARRIVAL. -/
  | arrive (dt : Nat) (barrier : Nat)
  /-- TAG_OPEN (R208): A TAG_OPEN message opens a tag's slots in every loupe with its base. -/
  | tagOpen (dt : Nat) (tag base : Nat)
  /-- TAG_CLOSE (R209): A TAG_CLOSE message sums the tag's accumulators into a LAYER digest record and frees the slots. -/
  | tagClose (dt : Nat) (tag : Nat)
  /-- BKT_OPEN (R213): A BKT_OPEN message sets the base of one side of a bracket slot. -/
  | bktOpen (dt : Nat) (slot side base : Nat)
  /-- BKT_CLOSE (R216): A BKT_CLOSE message freezes one side, and when both sides are closed the slot is compared and freed. -/
  | bktClose (dt : Nat) (slot side engine : Nat)
  /-- DUP_DECLINE (R216): A DUP_DECLINE message frees an ARMED bracket slot. -/
  | dupDecline (dt : Nat) (slot : Nat)
  /-- BRACKET_WAIT (R216): BRACKET_WAIT expires on an ARMED slot, which frees it and writes BRACKET_TIMEOUT. -/
  | bracketWait (dt : Nat)
  /-- SHARD_OPEN (R372): A SHARD_OPEN message stages a shard slot's ID and direction. -/
  | shardOpen (dt : Nat) (slot dir shardId : Nat)
  /-- SHARD_RANGE (R227): A SHARD_RANGE message clears and opens the staged shard slot with its base and length. -/
  | shardRange (dt : Nat) (slot length base : Nat)
  /-- SHARD_CLOSE (R227): A SHARD_CLOSE message emits a SHARD digest record and frees the slot. -/
  | shardClose (dt : Nat) (slot : Nat) (copyDone : Bool)
  /-- CKPT_BOUNDARY (R224): A CKPT_BOUNDARY message is a test boundary, and it issues every PENDING test entry. -/
  | ckptBoundary (dt : Nat)
  /-- LOUPE_LINE (R207): A line presented at a loupe tap is hashed into its accumulators, counted as bytes and checked for overtaking. -/
  | loupeLine (dt : Nat) (t addr : Nat) (data : Bytes) (write : Bool) (tag bkt shd : Nat)
  /-- HEALTH_STROBE (R377): A health input strobe adds an event pulse or takes a gauge sample. -/
  | healthStrobe (dt : Nat) (input value : Nat)
  /-- SCORE_RECORD_COMPLETE (R110): The developer completes a vector's score record, which goes to the verdict stage, the reduction and the journal. -/
  | scoreRecordComplete (dt : Nat) (k : Nat)
  /-- IMAGE_SEGMENT (R116): A segment written to IMAGE moves an EMPTY slot to LOADING and feeds the digest and the header tests. -/
  | imageSegment (dt : Nat) (rq : Requester) (k offset total : Nat) (data : Bytes)
  /-- STACK_WRITE (R118): A STACK_WRITE segment stores bytes into the model library and advances the write address. -/
  | stackWrite (dt : Nat) (rq : Requester) (offset total : Nat) (data : Bytes)
  /-- LOAD_STACK (R117): The LOAD_STACK command starts loading an image from the stacks into an EMPTY slot. -/
  | loadStack (dt : Nat) (rq : Requester) (k : Nat)
  /-- LOAD_END (R115): A model load ends with its result, moving the slot to READY or back to EMPTY. -/
  | loadEnd (dt : Nat) (k : Nat)
  /-- ACTIVATE (R120): The ACTIVATE command schedules a READY slot to begin at SWAP_FRAME, optionally naming a predecessor. -/
  | activate (dt : Nat) (rq : Requester) (k v : Nat)
  /-- UNLOAD (R119): The UNLOAD command empties a READY or LOADING slot, or stops an active one from admitting vectors. -/
  | unload (dt : Nat) (rq : Requester) (k : Nat)
  /-- UNLOAD_DRAINED (R119): An unloaded ACTIVE or STREAMED slot's queue empties, and the slot goes to EMPTY and frees its nodes. -/
  | unloadDrained (dt : Nat) (k : Nat)
  /-- RETIRE (R122): A predecessor retires once SWAP_FRAME + SWAP_HOLD has pulsed and its queue is empty. -/
  | retire (dt : Nat) (k : Nat)
  /-- DEV_PHASE_WRITE (R124): A write to DEV_PHASE changes the phase, writes a DEV_PHASE record and gates STREAMED slots. -/
  | devPhaseWrite (dt : Nat) (rq : Requester) (value : Nat)
  /-- PROGRAM_APPLY (R130): The reduction APPLY command makes the staged program current from APPLY_FRAME, or completes LATE. -/
  | programApply (dt : Nat) (rq : Requester)
  /-- REDUCTION_RECORD (R147): A reduction record from a child is stored, discarded or used to close earlier frames with GAP under the frame-closing machine. -/
  | reductionRecord (dt : Nat) (p : Nat) (r : RedRec)
  /-- DEADLINE (R149): Under LIVE, a frame's deadline passes, and ports without a record are marked missing. -/
  | deadline (dt : Nat)
  /-- MERGE_COMPLETE (R151): A merged frame becomes SENT once every earlier frame is SENT, and is sent upward or issued as the contact sheet. -/
  | mergeComplete (dt : Nat)
  /-- CENTRE_RECORD (R87): A class 3 centre record is received and relayed downward, or stored by the leaf for later peer features. -/
  | centreRecord (dt : Nat) (p : Nat) (c : CentreMsg)
  /-- FEATURE_FRAME (R309): A class 3 feature frame of die or engine vectors arrives at a TRAY and is journalled, stored in history and queued to slots. -/
  | featureFrame (dt : Nat) (p : Nat) (f : FeatFrame)
  /-- VERDICT_FORMED (R169): Once the die vector and its score record are complete, the verdict stage runs drift, the loops, the cells and the verdict machine. -/
  | verdictFormed (dt : Nat)
  /-- VERDICT_CLEAR (R168): The VERDICT_CLEAR command returns the verdict to NORMAL and clears the window, RECENT, the cells and the mismatch flag. -/
  | verdictClear (dt : Nat) (rq : Requester)
  /-- BASELINE_RESET (R161): The BASELINE_RESET command sets every warm-up count to 0 and resets the drift threshold. -/
  | baselineReset (dt : Nat) (rq : Requester)
  /-- STALL_TIMEOUT (R175): A barrier stays open at a TRAY beyond STALL_NS while a die has not arrived, and its liveness goes STALLED. -/
  | stallTimeout (dt : Nat)
  /-- ARRIVAL (R200): An ARRIVAL message is merged by union into an open barrier and sent on upward, or completes the barrier at the ROOT. -/
  | arrival (dt : Nat) (p job barrier time latestDie : Nat) (dies : List Nat)
  /-- RELEASE (R202): A RELEASE is forwarded down, or at a leaf arms channel 1, updates the straggler window and sends RELEASE_ARMED. -/
  | release (dt : Nat) (p job barrier epoch level : Nat) (reissue : Bool) (tRel latestDie : Nat)
  /-- BCAST (R195): A BCAST is hop-acknowledged and forwarded to the tree's port set, or at a leaf drives the job machine and delivery. -/
  | bcast (dt : Nat) (p job tree seq epoch level : Nat) (reissue : Bool) (op : Nat) (payload : Bytes)
  /-- BCAST_ACK (R193): A BCAST_ACK union is merged and forwarded, and at the ROOT it may complete the broadcast or free a torn-down tree. -/
  | bcastAck (dt : Nat) (p job tree seq : Nat) (dies : List Nat)
  /-- HOP_ACK (R183): A HOP_ACK from a port ends that port's NACK timer for a downward message. -/
  | hopAck (dt : Nat) (p typ job id seq : Nat)
  /-- NACK_TIMEOUT (R196): A downward message lacks its HOP_ACK after NACK_TIMEOUT, and the chip re-issues it through the buddy. -/
  | nackTimeout (dt : Nat)
  /-- ACK_HOLD (R193): ACK_HOLD passes after the first unsent acknowledgement, and the chip sends its union upward. -/
  | ackHold (dt : Nat)
  /-- ACK_REPORT (R194): A broadcast is incomplete ACK_REPORT after issue, and the ROOT writes a BCAST_INCOMPLETE alarm. -/
  | ackReport (dt : Nat)
  /-- BARRIER_REPORT (R201): A barrier is still open BARRIER_REPORT after its first arrival at the ROOT, and the ROOT writes a BARRIER_WAIT alarm. -/
  | barrierReport (dt : Nat)
  /-- EPOCH_SEGMENT (R186): An EPOCH segment is received, held until its turn, and queued for application; a RESYNC replaces the table. -/
  | epochSegment (dt : Nat) (p epoch level : Nat) (reissue : Bool) (firstFrame seg segs : Nat) (resync : Bool) (entries : List EpochEntry)
  /-- EPOCH_APPLIED (R187): A chip finishes applying an epoch segment, forwards it, releases held broadcasts and sends leaf segments. -/
  | epochApplied (dt : Nat)
  /-- EPOCH_ISSUE (R185): The EPOCH_ISSUE command assigns the next epoch number at the ROOT and queues the epoch for application and sending. -/
  | epochIssue (dt : Nat) (rq : Requester)
  /-- BCAST_ISSUE_JOB_START (R191): BCAST_ISSUE with OP JOB_START issues a start on a free tree, or completes IN_USE. -/
  | bcastIssueJobStart (dt : Nat) (rq : Requester)
  /-- BCAST_ISSUE_JOB_TEARDOWN (R191): BCAST_ISSUE with OP JOB_TEARDOWN issues a teardown on the job's tree. -/
  | bcastIssueJobTeardown (dt : Nat) (rq : Requester)
  /-- BCAST_ISSUE_HOST_MESSAGE (R191): BCAST_ISSUE with OP HOST_MESSAGE issues a host message on the job's tree. -/
  | bcastIssueHostMessage (dt : Nat) (rq : Requester)
  /-- TEARDOWN_DONE (R192): The host reports teardown done, and the leaf acknowledges the teardown and takes any held start. -/
  | teardownDone (dt : Nat) (job : Nat)
  /-- OVERLAY_ARM (R218): Writing 0x01 to OVERLAY_ARM resets ORDINAL and marks later LAYER records with OVERLAY. -/
  | overlayArm (dt : Nat) (rq : Requester)
  /-- OVERLAY_DISARM (R218): Writing 0x00 to OVERLAY_ARM clears the mark and resets ORDINAL. -/
  | overlayDisarm (dt : Nat) (rq : Requester)
  /-- DIGEST_RECORD (R219): A class 4 digest record is journalled, forwarded, matched by overlay pair, or delivered to the conductor. -/
  | digestRecord (dt : Nat) (p : Nat) (d : DigestRec)
  /-- OVERLAY_WAIT (R219): An unmatched overlay record waits beyond OVERLAY_WAIT and ends with outcome TIMEOUT. -/
  | overlayWait (dt : Nat)
  /-- MISMATCH_NOTICE (R220): A class 4 mismatch notice arriving at the suspect leaf is counted as a mismatch. -/
  | mismatchNotice (dt : Nat) (p suspect : Nat)
  /-- BOUND_PERIOD (R222): At each BOUND_PERIOD the keeper computes B and may double F_BOUND or write BOUND_UNMET. -/
  | boundPeriod (dt : Nat)
  /-- BOUND_RESET (R221): The BOUND_RESET command clears the bound terms and sets F_BOUND to 1. -/
  | boundReset (dt : Nat) (rq : Requester)
  /-- BOUND_ENFORCE_WRITE (R223): Writing BOUND_ENFORCE false returns F_BOUND to 1 and re-arms BOUND_UNMET. -/
  | boundEnforceWrite (dt : Nat) (rq : Requester) (value : Nat)
  /-- TEST_REQUEST (R224): The TEST_REQUEST command creates a test entry that is ISSUED or PENDING, or completes FULL. -/
  | testRequest (dt : Nat) (rq : Requester) (value : Nat)
  /-- TEST_CANCEL (R225): The TEST_CANCEL command frees a PENDING or ISSUED test entry. -/
  | testCancel (dt : Nat) (rq : Requester) (entry : Nat)
  /-- TEST_DEADLINE (R225): A PENDING test's deadline passes, which sets OVERDUE and writes a TEST_OVERDUE alarm. -/
  | testDeadline (dt : Nat)
  /-- TEST_DONE (R225): A TEST_DONE mailbox message frees an ISSUED entry and records a pass or a failure. -/
  | testDone (dt : Nat) (engine test result : Nat)
  /-- TRACE_ENABLE_WRITE (R245): A write to TRACE_ENABLE starts or stops sources, emitting SYNC or TRACE_OFF and completing lines. -/
  | traceEnableWrite (dt : Nat) (rq : Requester) (value : Nat)
  /-- SQ_GROUP (R376): A sequencer retirement group is traced instruction by instruction through comparators, ranges, atoms and INDIRECT packets. -/
  | sqGroup (dt : Nat) (k pc last kind : Nat) (taken : Bool) (target ret : Nat)
  /-- SQ_SLEEP (R247): A sequencer core enters or leaves sleep, and its source emits POWER and, on leaving, SYNC. -/
  | sqSleep (dt : Nat) (k : Nat) (asleep : Bool)
  /-- TRACE_LINE_TIMEOUT (R237): 1 µs passes since a source's last packet, and its partial line is completed. -/
  | traceLineTimeout (dt : Nat)
  /-- SYNC_PERIOD (R240): SYNC_PERIOD passes since a source's last SYNC, and it emits SYNC before its next packet. -/
  | syncPeriod (dt : Nat)
  /-- SINK_LINE_WRITTEN (R235): The host port accepts a trace line, which advances SINK_WRITE_PTR and frees buffer space. -/
  | sinkLineWritten (dt : Nat)
  /-- OFFLOAD_FLUSH (R249): OFFLOAD_FLUSH passes after a unit's first line, and the unit is coded and sent on class 5. -/
  | offloadFlush (dt : Nat)
  /-- OFFLOAD_UNIT (R249): A class 5 offload unit arriving at a TRAY is appended to the trace store. -/
  | offloadUnit (dt : Nat) (p : Nat) (bytes : Bytes)
  /-- STORE_READ (R249): A read of STORE_READ returns the entry at STORE_CURSOR and advances the cursor. -/
  | storeRead (dt : Nat) (rq : Requester)
  /-- PRC_START (R263): The START command of a codec channel starts a compress or decompress job, or completes BUSY. -/
  | prcStart (dt : Nat) (rq : Requester) (c : Nat)
  /-- PRC_RESUME (R264): The RESUME command continues a job stopped in OUT_FULL with new output space. -/
  | prcResume (dt : Nat) (rq : Requester) (c : Nat)
  /-- PRC_ABORT (R263): The ABORT command stops a running or OUT_FULL job. -/
  | prcAbort (dt : Nat) (rq : Requester) (c : Nat)
  /-- PRC_JOB_STOP (R263): A running codec job reaches DONE, NOT_SMALLER, OUT_FULL or a fault. -/
  | prcJobStop (dt : Nat) (c : Nat)
  /-- LANE_ENABLE_WRITE (R284): Writing LANE_ENABLE disables a lane, leaving UP, or enables it into DOWN. -/
  | laneEnableWrite (dt : Nat) (rq : Requester) (p value : Nat)
  /-- LANE_LOCK (R284): Signal and block lock are gained on a DOWN lane, which begins training. -/
  | laneLock (dt : Nat) (p : Nat)
  /-- TRAINING_COMPLETE (R284): Training completes and the lane goes UP, which restarts SEQ and credits and may send JOIN, MOVE or a RESYNC epoch. -/
  | trainingComplete (dt : Nat) (p : Nat)
  /-- LOCK_LOST (R284): An UP lane loses signal or lock for 64 block times and goes FAILED, which writes LANE_DOWN and may decide a move. -/
  | lockLost (dt : Nat) (p : Nat)
  /-- TRAIN_LIMIT (R284): TRAIN_LIMIT passes in TRAINING, and the lane goes FAILED. -/
  | trainLimit (dt : Nat)
  /-- FAIL_HOLD (R284): FAIL_HOLD passes in FAILED, and the lane returns to DOWN. -/
  | failHold (dt : Nat)
  /-- RETRAIN (R284): The RETRAIN command takes an UP lane back into TRAINING without an alarm. -/
  | retrain (dt : Nat) (rq : Requester) (p : Nat)
  /-- TRAIN (R444): A TRAIN frame adjusts equalisation, or, with STATE TRAINING or FAILED, makes an UP lane leave UP with the received cause. -/
  | train (dt : Nat) (p tap step st cause : Nat)
  /-- IDENT (R285): An IDENT frame received during training is stored as NEIGHBOUR. -/
  | ident (dt : Nat) (p payload : Nat)
  /-- DATA_FRAME (R280): A DATA frame is accepted in sequence and delivered, or discarded and NAKed. -/
  | dataFrame (dt : Nat) (p : Nat) (good : Bool) (seq cls n : Nat) (ack : Option Nat) (relay : Option (Nat × RedRec))
  /-- ACK (R280): An advance of ACK_SEQ frees acknowledged frames from the replay buffer. -/
  | ack (dt : Nat) (p ackSeq : Nat)
  /-- NAK (R281): A NAK makes the sender resend every unacknowledged frame from the named SEQ. -/
  | nak (dt : Nat) (p ackSeq : Nat)
  /-- REPLAY_TIMEOUT (R281): ACK_SEQ does not advance for REPLAY_TIMEOUT, and the sender resends from the oldest unacknowledged frame. -/
  | replayTimeout (dt : Nat)
  /-- CREDIT (R283): A CREDIT frame updates the sender's cumulative credit per class. -/
  | credit (dt : Nat) (p : Nat) (credits : List Nat)
  /-- CREDIT_REFRESH (R283): 10 µs pass, and the receiver sends a CREDIT frame. -/
  | creditRefresh (dt : Nat)
  /-- ROUTE_JOIN (R289): A ROUTE frame of KIND JOIN sets the mover's dies to the arrival port from FROM_FRAME and is forwarded up. -/
  | routeJoin (dt : Nat) (p seq fromFrame : Nat) (dies : List Nat)
  /-- ROUTE_MOVE_LEG (R289): A ROUTE frame of KIND MOVE applies its LEG 0, 1 or 2 to the route table and is forwarded on. -/
  | routeMoveLeg (dt : Nat) (p seq fromFrame leg : Nat) (dies : List Nat)
  /-- PARENT_LOST (R288): A PARENT_LOST frame on the current route's group triggers a move. -/
  | parentLost (dt : Nat) (p seq : Nat)
  /-- ROUTE_MOVE (R288): The ROUTE_MOVE command decides a move, or completes NOT_UP, PENDING or NO_CHANGE. -/
  | routeMove (dt : Nat) (rq : Requester) (value : Nat)
  /-- HOME_HOLD (R288): HOME_HOLD passes after the primary group reaches UP, and a buddy route moves home. -/
  | homeHold (dt : Nat)
  /-- EQUALISER_ADAPT (R286): An adaptation period passes, and the CTLE, DFE or far-end FFE of an UP lane steps. -/
  | equaliserAdapt (dt : Nat) (p : Nat)
  /-- LASER_LOOP (R286): The laser loop adjusts bias once per millisecond and may write LASER_AGEING. -/
  | laserLoop (dt : Nat) (p : Nat)
  /-- DATA_DECISION (R300): The link is free for a DATA frame, and the scheduler sends class 0 or the next DRR class. -/
  | dataDecision (dt : Nat) (g : Nat)
  /-- GATE_APPLY (R306): The GATE_APPLY command adopts the staged gate list from GATE_BASE, or completes LATE. -/
  | gateApply (dt : Nat) (rq : Requester) (p : Nat)
  /-- GATE_ENTRY_CHANGE (R306): A gate list entry or cycle boundary is reached, which opens or closes class gates. -/
  | gateEntryChange (dt : Nat) (g : Nat)
  /-- CLASS_DROP_FLUSH (R312): A run of drops ends, or 1 ms passes since its first drop, and a CLASS_DROP record is written. -/
  | classDropFlush (dt : Nat)
  /-- ALARM_RECORD (R26): A class 0 alarm received from a child is recorded with its ORIGIN and forwarded, or delivered to the conductor at the ROOT. -/
  | alarmRecord (dt : Nat) (p : Nat) (r : EventRec)
  /-- ALARM_SPACE_FREED (R299): Space frees in the reserved alarm buffer, and held alarms and ring tallies are written and queued. -/
  | alarmSpaceFreed (dt : Nat)
  /-- MIRROR_FLUSH (R358): 1 ms passes after a mirror message's first record, and it is sent on class 6. -/
  | mirrorFlush (dt : Nat)
  /-- MIRROR_MESSAGE (R358): A mirror message arriving at a TRAY stores its records under R357. -/
  | mirrorMessage (dt : Nat) (p : Nat) (recs : List EventRec)
  /-- CLEAR_F (R356): CLEAR with value 0x00 discards held class F records. -/
  | clearF (dt : Nat) (rq : Requester)
  /-- CLEAR_O (R356): CLEAR with value 0x01 discards held class O records. -/
  | clearO (dt : Nat) (rq : Requester)
  /-- CLEAR_BOTH (R356): CLEAR with value 0x02 discards held records of both classes. -/
  | clearBoth (dt : Nat) (rq : Requester)
  /-- F_WINDOW (R354): A read of F_WINDOW returns class F records from F_CURSOR and advances the cursor. -/
  | fWindow (dt : Nat) (rq : Requester)
  /-- O_WINDOW (R355): A read of O_WINDOW returns class O records from O_SELECT, moving it only if stale. -/
  | oWindow (dt : Nat) (rq : Requester)
  /-- NEG_TAKE (R360): The NEG_TAKE command arms a negative, or completes BUSY. -/
  | negTake (dt : Nat) (rq : Requester)
  /-- NEG_PERIOD (R360): NEG_PERIOD seconds pass since the last capture, which arms a negative. -/
  | negPeriod (dt : Nat)
  /-- NEG_FIXED (R360): A negative finishes writing, its fix is written and a NEG_FIXED record follows. -/
  | negFixed (dt : Nat)
  /-- PERSIST_DONE (R324): A persisted settings copy finishes writing to flash. -/
  | persistDone (dt : Nat)
  /-- H2B_DATA (R379): A host write to H2B_DATA appends a word, or is rejected with HR_RSP_ERR when the queue is full. -/
  | h2bData (dt : Nat) (value : Nat)
  /-- H2B_RING (R380): A host ring claims queued words as a message on a doorbell, which the block reads, acts on and acknowledges. -/
  | h2bRing (dt : Nat) (word : Nat)
  /-- B2H_DATA (R368): A host read of B2H_DATA removes and returns the oldest block-to-host word. -/
  | b2hData (dt : Nat)
  /-- B2H_ACK (R381): A host write to B2H_ACK acknowledges a block-to-host message and completes its delivery. -/
  | b2hAck (dt : Nat) (word : Nat)
  /-- IRQ_STATUS_WRITE (R369): A host write of 1s to IRQ_STATUS clears sticky bits. -/
  | irqStatusWrite (dt : Nat) (value : Nat)
  /-- B2H_RING (R383): A waiting block-to-host message is rung in doorbell order once the queue has room for its words. -/
  | b2hRing (dt : Nat)
  /-- MB_TIMEOUT (R382): A rung doorbell is not acknowledged within MB_TIMEOUT and goes LATE, which flags the sender. -/
  | mbTimeout (dt : Nat)
  /-- DIM_IDLE (R390): Idleness lasts DIM_IDLE, and the instance enters DIM. -/
  | dimIdle (dt : Nat)
  /-- SAFELIGHT_IDLE (R390): Idleness lasts SAFELIGHT_IDLE, and the instance begins entry to SAFELIGHT with trace drain. -/
  | safelightIdle (dt : Nat)
  /-- POWER_ENTRY_DONE (R247): Trace buffers have drained, and entry to SAFELIGHT completes with rails off. -/
  | powerEntryDone (dt : Nat)
  /-- WAKE_SOURCE (R390): A wake source arrives in DIM or SAFELIGHT, which returns the instance to ACTIVE or begins the wake order. -/
  | wakeSource (dt : Nat) (source detail cls : Nat)
  /-- REG_GOOD (R393): The switched rails are good, and the wake proceeds to the oscillator step. -/
  | regGood (dt : Nat)
  /-- PLL_LOCK (R393): The core PLL locks, and the wake proceeds to the memory step. -/
  | pllLock (dt : Nat)
  /-- MEM_READY (R393): Retention SRAM and the stacks are ready, and the wake proceeds to the logic step. -/
  | memReady (dt : Nat)
  /-- LOGIC_READY (R393): Logic is restored, and the instance becomes ACTIVE, writes LAST_WAKE, WAKE and queued time records. -/
  | logicReady (dt : Nat)
  /-- DVFS_PERIOD (R395): Every 100 µs the DVFS loop raises, lowers or holds the tree-array clock. -/
  | dvfsPeriod (dt : Nat)
  /-- KEEPER_UPDATE_LIVE (R406): KEEPER_UPDATE in LIVE mode verifies, optionally persists and swaps the keeper image, keeping its state. -/
  | keeperUpdateLive (dt : Nat) (rq : Requester) (persist : Bool)
  /-- KEEPER_UPDATE_RESTART (R406): KEEPER_UPDATE in RESTART mode verifies, optionally persists and restarts the keeper from the new image. -/
  | keeperUpdateRestart (dt : Nat) (rq : Requester) (persist : Bool)
  /-- KEEPER_VERIFIED (R406): Verification of the staged keeper image ends with a pass or a failure code. -/
  | keeperVerified (dt : Nat)
  /-- KEEPER_PERSISTED (R406): Writing the new keeper image into the unbooted flash slot completes or fails. -/
  | keeperPersisted (dt : Nat) (ok : Bool)
  /-- KEEPER_QUIESCENT (R406): In a LIVE update an instant with no keeper action occurs, or 100 ms pass, and the keeper pauses or the update fails. -/
  | keeperQuiescent (dt : Nat)
  /-- KEEPER_READY (R406): The new keeper image reports ready, or fails to within 2 ms, and KEEPER_UPDATED is written. -/
  | keeperReady (dt : Nat) (ok : Bool)
  /-- DIE_ID_WRITE (R289): A write of a leaf's DIE_ID stores it and sends a JOIN up the route. -/
  | dieIdWrite (dt : Nat) (rq : Requester) (value : Nat)
  /-- JOURNAL_ENABLE_WRITE (R418): Writing JOURNAL_ENABLE true starts the journal afresh. -/
  | journalEnableWrite (dt : Nat) (rq : Requester) (value : Nat)
  /-- CHUNK_TIMEOUT (R412): 100 µs pass after a gathered chunk's first entry, and the chunk is coded and written, or discarded. -/
  | chunkTimeout (dt : Nat)
  /-- JOURNAL_LOST (R419): A run of chunk discards ends, or 1 ms passes, and a JOURNAL_LOST record is written. -/
  | journalLost (dt : Nat)
  /-- LEAF_JOURNAL_FLUSH (R415): A leaf's class 6 journal message is sent when full or 100 µs after its first entry. -/
  | leafJournalFlush (dt : Nat)
  /-- LEAF_JOURNAL_MESSAGE (R415): A leaf journal message arriving at a TRAY has its entries journalled unchanged. -/
  | leafJournalMessage (dt : Nat) (p : Nat) (entries : List (Nat × Bytes))
  /-- EXPORT_FREEZE (R420): EXPORT with value 0x01 freezes the chunks of the exported frames, or fails. -/
  | exportFreeze (dt : Nat) (rq : Requester)
  /-- EXPORT_RELEASE (R420): EXPORT with value 0x00 releases the freeze. -/
  | exportRelease (dt : Nat) (rq : Requester)
  /-- TRAIN_FRAME_INTERVAL (R444): A lane in TRAINING or FAILED sends its TRAIN frame with its STATE and CAUSE at least once per microsecond, and in IDENTIFY its IDENT every 10 µs. -/
  | trainFrameInterval (dt : Nat) (p : Nat)
  /-- TRAINING_SIGNAL_LOST (R284): A lane in TRAINING loses signal and goes to FAILED, incrementing TRAIN_FAILS. -/
  | trainingSignalLost (dt : Nat) (p : Nat)
  /-- CE_B2H_TRANSFER (R370): The host takes a block-to-host message off the command-event port, which frees queue space and lets the block resume processing host-to-block messages. -/
  | ceB2hTransfer (dt : Nat)
  /-- ISLAND_RESET_DONE (R399): An island-scope reset of the link or a loupe island completes, incrementing ISLAND_RESETS and writing a class O RESET_DONE record. -/
  | islandResetDone (dt : Nat)
  /-- KEEPER_RESET_DONE (R398): The keeper restarts from its image after a keeper-scope reset: it resumes its duties and DAP service, restarts an interrupted persistence, and trace emits SYNC and TRACE_ON with CAUSE 3. -/
  | keeperResetDone (dt : Nat)
  /-- DVFS_CHANGE_DONE (R395): A tree-array voltage and frequency change completes, and DEV_CLOCK and every rate take the new clock. -/
  | dvfsChangeDone (dt : Nat)
deriving DecidableEq, Repr

end Sys2Proof
end

