-- ==== Sys2Proof/Decode.lean ====
section
/-! DEFINITION. The command that a word of the opcode table spells. The table gives no row any bits: its commands are events,
messages and register accesses whose operands are their own fields, so no word spells one. -/

namespace Sys2Proof

/-- The command that `nbits` bits of value `w` spell by the opcode table: none, as no row of it has bits. -/
def decodeTableWord (_nbits _w : Nat) : Option Instr := none

end Sys2Proof
end

