-- ==== Sys2Proof/Machine/State.lean ====
section
/-! DEFINITION. The state of one instance of the block, its state after reset, and the reasons a step can stop. -/

namespace Sys2Proof.Machine

open Sys2Proof

/-- A region of the stacks whose bytes are unpredictable (00 R6): each byte is the open value of its seed and address. -/
structure OpenRegion where
  lo : Nat
  hi : Nat
  seed : Nat
deriving DecidableEq, Repr

/-- The stacks (21 R431): listed cells in canonical form, and open regions. -/
structure Memory where
  cells : List Host.Cell := []
  regions : List OpenRegion := []
deriving DecidableEq, Repr

/-- What leaves the instance (the model's own log, log entry 6). -/
inductive Output where
  /-- a link frame on a lane (chapter 13) -/
  | frame (port : Nat) (bytes : Bytes)
  /-- a PTP message on a lane; port 48 is the management port (chapter 02) -/
  | ptp (port : Nat) (bytes : Bytes)
  /-- a DAP datagram from the management port, by the router where `via` holds one (15 R317) -/
  | datagram (addr port : Nat) (via : Option Bytes) (bytes : Bytes)
  /-- an ICMPv6 answer of the management port (15 R317) -/
  | icmp (bytes : Bytes)
  /-- a shutter pulse: channel, its width in ns, its programmed or actual time in ns (02 R41) -/
  | pulse (channel width time : Nat)
  /-- a response on the host register port: HR_RSP_DATA, HR_RSP_ERR (18 R367) -/
  | hostResponse (value : Nat) (err : Bool)
  /-- a 128-bit message the host takes from the command-event port (18 R370) -/
  | hostMessage (m : BitVec 128)
  /-- bytes the block writes into host memory: the trace sink (11 R235) -/
  | hostWrite (addr : Nat) (bytes : Bytes)
  /-- a level or event on a named pin or signal -/
  | pin (name : String) (level : Nat)
  /-- bytes written to the boot flash (19 R400) -/
  | flash (what : String) (bytes : Bytes)
deriving DecidableEq, Repr

/-- Reasons a step stops the machine. -/
inductive Fault where
  /-- For a rule (its number) whose breach leaves nothing that the machine could go on with. No meaning raises it: 00 R6 bounds
  every unpredictable outcome to named objects and outputs, which are free values here (log entry 4). Safe: no claim about the
  state after it could be proved. -/
  | unpredictable (rule : Nat)
deriving DecidableEq, Repr

/-- Reasons a command has no meaning in the model. -/
inductive Refusal where
  /-- For exec's arm of a command without a meaning. No arm answers with it now. Safe: the machine stops. -/
  | notModelled (mnemonic : String)
deriving DecidableEq, Repr

/-- The instance (INVENTORY.md, State). -/
structure State where
  /-- commands waiting, first in first out -/
  pending : List Instr
  /-- commands that came while the core could not take them and that their port or island holds for it, first in first out (19 R391, 18 R367,
  R370) -/
  parked : List Instr
  build : Build
  role : Role
  /-- the strap pins as they stand outside (21 R434) -/
  strapPins : Nat
  /-- scalar objects that have been written or counted, by their number; the others hold their Default column -/
  regs : Tbl Nat
  /-- DOMAIN objects that are stored whole -/
  doms : Tbl Bytes
  /-- last completion codes of CMD objects -/
  cmdCodes : Tbl Nat
  /-- the objects as they stood at the last channel 0 pulse -/
  latchedRegs : Tbl Nat
  latchedDoms : Tbl Bytes
  time : TimeBase
  ptp : Tbl PtpLane
  shutter : Tbl ShutterChannel
  cnt : Counters
  snap : Snaps
  fs : FrontStage
  dev : Developer
  red : Reduction
  ver : VerdictStage
  live : Tbl LiveMachine
  bar : Barriers
  ev : Evidence
  tr : Trace
  prc : Tbl PrcJob
  lnk : Links
  rt : Routes
  sch : Sched
  dap : Dap
  recd : Recorder
  neg : Negative
  mb : Mailbox
  ce : CePort
  pw : Power
  rst : Resets
  kp : Keeper
  flash : Flash
  jn : Journal
  stack : Memory
  /-- everything that has left the instance, newest first (the model's own field, log entry 6) -/
  out : List Output
  /-- open values drawn so far (the model's own field, log entry 4) -/
  free : Nat
deriving DecidableEq, Repr

/-- An instance of a build in a role, right after chip-scope reset: every object at its Default column, every machine in
its reset state, nothing queued. -/
def State.resetOf (build : Build) (role : Role) (straps : Nat) : State :=
  { pending := [], parked := [], build := build, role := role, strapPins := straps
    regs := [], doms := [], cmdCodes := [], latchedRegs := [], latchedDoms := []
    time := {}, ptp := [], shutter := [], cnt := {}, snap := {}, fs := {}, dev := {}, red := {}, ver := {}, live := []
    bar := {}, ev := {}, tr := {}, prc := [], lnk := {}, rt := {}, sch := {}, dap := {}, recd := {}, neg := {}, mb := {}
    ce := {}, pw := {}, rst := {}, kp := {}, flash := {}, jn := {}, stack := {}, out := [], free := 0 }

/-- The machine right after reset: an Uhlyr-D leaf after its chip-scope reset (DESIGN CHOICE, log entry 3: the spec has
two builds and five roles; `State.resetOf` gives the others). -/
def State.reset : State := State.resetOf .die .leaf 0

end Sys2Proof.Machine
end

