-- ==== Sys2Proof/Machine/Ops.lean ====
section
/-! DEFINITION. The named operations over State: objects, local time, free values, the stacks' memory, what leaves. -/

namespace Sys2Proof.Machine

open Sys2Proof

/-! ### What leaves, and free values -/

/-- Something leaves the block (log entry 6). -/
def State.emit (s : State) (o : Output) : State := { s with out := o :: s.out }

/-- The next open value; nothing constrains it (log entry 4). -/
def State.freeVal (s : State) : Nat := Config.freeNat s.free

/-- The next open integer (log entry 4). -/
def State.freeInt (s : State) : Int := Config.freeInt s.free

/-- One open value has been drawn. -/
def State.drawn (s : State) : State := { s with free := s.free + 1 }

/-! ### Responses on their way (19 R396) -/

/-- A response leaves the instance: a reset that waits for it counts its 100 us from then. -/
def State.responseLeft (s : State) (bytes : Bytes) (at_ : Nat) : State :=
  { s with rst := { s.rst with requested := s.rst.requested.map (fun r =>
    if r.left.isNone && r.response == bytes then { r with left := some at_ } else r) } }

/-! ### Build and role -/

/-- Is this Uhlyr-D? -/
def State.isDie (s : State) : Bool := s.build == .die

/-- Is this a tray chip (any role)? -/
def State.isTrayChip (s : State) : Bool := s.build == .trayChip

/-- The instance's level: SOURCE of its records and SRC_LEVEL of its prefixes (Tables 17-1, 14-5). -/
def State.level (s : State) : Nat := s.role.code

/-! ### Objects (16 R335 to R340) -/

/-- The value of a scalar object: what is stored, or its Default column. -/
def State.rd (s : State) (o : Ob) (m : Nat := 0) (j : Nat := 0) : Nat :=
  Tbl.getD s.regs (o.key m j) (o.init s.build s.role m)

/-- A BOOL object as a Bool. -/
def State.flag (s : State) (o : Ob) (m : Nat := 0) : Bool := s.rd o m != 0

/-- A scalar object takes a value, cut to its type's size (Table 00-5). -/
def State.wr (s : State) (o : Ob) (v : Nat) (m : Nat := 0) (j : Nat := 0) : State :=
  { s with regs := Tbl.set s.regs (o.key m j) (v % 2 ^ (8 * o.ty.bytes)) }

/-- A counting object advances and wraps at its size. -/
def State.bump (s : State) (o : Ob) (m : Nat := 0) (j : Nat := 0) (by_ : Nat := 1) : State :=
  s.wr o (s.rd o m j + by_) m j

/-- A counting object advances and saturates at its size. -/
def State.bumpSat (s : State) (o : Ob) (m : Nat := 0) (j : Nat := 0) (by_ : Nat := 1) : State :=
  s.wr o (satTo (8 * o.ty.bytes) (s.rd o m j + by_)) m j

/-- The value of a DOMAIN object that is stored whole. -/
def State.rdBytes (s : State) (o : Ob) (m : Nat := 0) (j : Nat := 0) : Bytes :=
  Tbl.getD s.doms (o.key m j) (o.initBytes s.build)

/-- A DOMAIN object takes a value. -/
def State.wrBytes (s : State) (o : Ob) (bs : Bytes) (m : Nat := 0) (j : Nat := 0) : State :=
  { s with doms := Tbl.set s.doms (o.key m j) bs }

/-- A scalar object as it stood at the last channel 0 pulse: for writes that take effect there (04 R93, 08 R179, 22 R443). -/
def State.rdAtPulse (s : State) (o : Ob) (m : Nat := 0) (j : Nat := 0) : Nat :=
  Tbl.getD s.latchedRegs (o.key m j) (o.init s.build s.role m)

/-- A DOMAIN object as it stood at the last channel 0 pulse. -/
def State.bytesAtPulse (s : State) (o : Ob) (m : Nat := 0) (j : Nat := 0) : Bytes :=
  Tbl.getD s.latchedDoms (o.key m j) (o.initBytes s.build)

/-- The objects as they stand become those of the last channel 0 pulse. -/
def State.latchObjects (s : State) : State := { s with latchedRegs := s.regs, latchedDoms := s.doms }

/-- The last completion code of a CMD object: 0xFE while it has not been written (15 R323). -/
def State.cmdCode (s : State) (o : Ob) (m : Nat := 0) : Nat := Tbl.getD s.cmdCodes (o.key m 0) 0xFE

/-- A CMD object's completion code. -/
def State.setCode (s : State) (o : Ob) (code : Nat) (m : Nat := 0) : State :=
  { s with cmdCodes := Tbl.set s.cmdCodes (o.key m 0) code }

/-! ### Local time (02 R32) -/

/-- Units of local time in one nanosecond. -/
def nsUnits : Nat := 65536

/-- Units of local time in one second. -/
def secUnits : Nat := 65536 * 1000000000

/-- Local time in whole nanoseconds. -/
def State.nowNs (s : State) : Nat := s.time.now / nsUnits

/-- Local time in whole seconds. -/
def State.nowSec (s : State) : Nat := s.time.now / secUnits

/-- A time in ns as TIME80: the seconds in the low 48 bits, the ns in the upper 32 (Table 00-5). -/
def time80OfNs (ns : Nat) : Nat := ns / 1000000000 % 2 ^ 48 + ns % 1000000000 * 2 ^ 48

/-- The ns that a TIME80 value stands for. -/
def nsOfTime80 (v : Nat) : Nat := v % 2 ^ 48 * 1000000000 + v / 2 ^ 48 % 2 ^ 32

/-- Ten bytes of a TIME80 value (Table 00-5). -/
def time80Bytes (ns : Nat) : Bytes := leBytes 10 (time80OfNs ns)

/-- The 32-bit time of records: whole ns modulo 2^32 (02 R38). -/
def State.t32 (s : State) : Nat := s.nowNs % 2 ^ 32

/-- At least `ns` nanoseconds of local time have passed since `since` (2^-16 ns). -/
def State.passed (s : State) (since ns : Nat) : Bool := decide (since + ns * nsUnits ≤ s.time.now)

/-- FRAME_NOW (OD 1200.00). -/
def State.frameNow (s : State) : Nat := s.rd Dict.frameNow

/-! ### The stacks' memory (21 R431) -/

/-- First address past the stacks: 256 GB (21 R431). -/
def stackEnd : Nat := 0x4000000000

/-- What an unlisted address reads as (DESIGN CHOICE, log entry 5: the spec gives no contents at power-on). -/
def stackDefault : Byte := 0

/-- The listed value of an address in a cell list. -/
def cellAt : List Host.Cell → Nat → Byte
  | [], _ => stackDefault
  | (a, b) :: t, addr => if a = addr then b else cellAt t addr

/-- Cells of a byte string from an address, without those that equal the unlisted value. -/
def cellsOf : Nat → Bytes → List Host.Cell
  | _, [] => []
  | a, b :: bs => if b = stackDefault then cellsOf (a + 1) bs else (a, b) :: cellsOf (a + 1) bs

/-- The cells outside [a, a + n). -/
def cellsOutside (cells : List Host.Cell) (a n : Nat) : List Host.Cell :=
  cells.filter (fun c => decide (c.1 < a) || decide (a + n ≤ c.1))

/-- The canonical list after bytes have been written from an address. -/
def writeCells (cells : List Host.Cell) (a : Nat) (bs : Bytes) : List Host.Cell :=
  cells.filter (fun c => decide (c.1 < a)) ++ cellsOf a bs ++
    cells.filter (fun c => decide (a + bs.length ≤ c.1))

/-- Open regions after a write to [a, a + n): what the write covers is open no more. -/
def carveOpen (regions : List OpenRegion) (a n : Nat) : List OpenRegion :=
  regions.flatMap (fun r =>
    if r.hi ≤ a || a + n ≤ r.lo then [r]
    else (if r.lo < a then [{ r with hi := a }] else []) ++
         (if a + n < r.hi then [{ r with lo := a + n }] else []))

/-- Canonical form: addresses strictly rising from `lo`, no entry equal to the unlisted value. -/
def cellsFrom : Nat → List Host.Cell → Bool
  | _, [] => true
  | lo, (a, b) :: t => decide (lo ≤ a) && b != stackDefault && cellsFrom (a + 1) t

/-- The stacks' memory holds its canonical form. -/
abbrev Memory.wf (m : Memory) : Bool := cellsFrom 0 m.cells

/-- One byte of the stacks: a free value in a region the spec calls unpredictable. -/
def Memory.read (m : Memory) (a : Nat) : Byte :=
  match m.regions.find? (fun r => decide (r.lo ≤ a) && decide (a < r.hi)) with
  | some r => Config.freeByte r.seed a
  | none => cellAt m.cells a

/-- `n` bytes of the stacks from an address. -/
def Memory.readBytes (m : Memory) : Nat → Nat → Bytes
  | _, 0 => []
  | a, n + 1 => m.read a :: m.readBytes (a + 1) n

/-- Bytes written into the stacks from an address. -/
def Memory.write (m : Memory) (a : Nat) (bs : Bytes) : Memory :=
  { cells := writeCells m.cells a bs, regions := carveOpen m.regions a bs.length }

/-- The bytes of [lo, hi) become unpredictable (00 R6). -/
def Memory.openUp (m : Memory) (lo hi seed : Nat) : Memory :=
  if hi ≤ lo then m
  else { cells := cellsOutside m.cells lo (hi - lo)
         regions := { lo := lo, hi := hi, seed := seed } :: carveOpen m.regions lo (hi - lo) }

/-- Bytes of the stacks; the part past their end does not exist. -/
def State.stackRead (s : State) (a n : Nat) : Bytes := s.stack.readBytes a n

/-- Bytes of [0, x) that lie in stack 0: 4 KB pages alternate (21 R431). -/
def stackZero (x : Nat) : Nat := x / 8192 * 4096 + min (x % 8192) 4096

/-- A W counter of the die's memory levels advances (03 R66). -/
def State.countLevel (s : State) (j n : Nat) : State :=
  { s with cnt := { s.cnt with level := Tbl.set s.cnt.level j ((Tbl.getD s.cnt.level j 0 + n) % 2 ^ 64) } }

/-- The bytes of an access count in the level of their stack, by direction (21 R431). -/
def State.countStack (s : State) (a n : Nat) (write : Bool) : State :=
  let n0 := stackZero (a + n) - stackZero a
  (s.countLevel (bit write) n0).countLevel (2 + bit write) (n - n0)

/-- Bytes written into the stacks. -/
def State.stackWrite (s : State) (a : Nat) (bs : Bytes) : State :=
  if bs.isEmpty then s else State.countStack { s with stack := s.stack.write a bs } a bs.length true

/-- A range lies inside the stacks (21 R431). -/
def inStacks (a n : Nat) : Bool := decide (a + n ≤ stackEnd)

end Sys2Proof.Machine
end

