-- ==== Sys2Proof/Machine/Groups.lean ====
section
/-! DEFINITION. Lanes, groups and routes as the other chapters read them (13 R271 to R274, R287, R289). -/

namespace Sys2Proof.Machine

open Sys2Proof

/-- Number of lanes of the build (Table 13-1). -/
def State.ports (s : State) : Nat := if s.isDie then 2 else 48

/-- A lane. -/
def State.lane (s : State) (p : Nat) : Lane := Tbl.getD s.lnk.lanes p {}

/-- A lane takes a value. -/
def State.setLane (s : State) (p : Nat) (l : Lane) : State := { s with lnk := { s.lnk with lanes := Tbl.set s.lnk.lanes p l } }

/-- The lanes of upstream port Uu. -/
def upPorts (u : Nat) : List Nat := (List.range 4).map (fun l => 32 + 4 * u + l)

/-- The name of the group of upstream port Uu: the lowest of its lanes that have trained; the port's lowest while none has (13 R273;
log entry 12). -/
def State.portGroup (s : State) (u : Nat) : Nat := ((upPorts u).filter (fun p => (s.lane p).inGroup)).headD (32 + 4 * u)

/-- The group of a lane, named by the port of its lowest lane (13 R273); an upstream lane that has not trained stands alone. -/
def State.groupOf (s : State) (p : Nat) : Nat :=
  if s.isDie then p
  else if 32 ≤ p then (if (s.lane p).inGroup then s.portGroup ((p - 32) / 4) else p)
  else match s.lnk.split with
    | 0 => p
    | 1 => p / 2 * 2
    | 2 => p / 4 * 4
    | 3 => if p < 16 then p else 16 + (p - 16) / 2 * 2
    | v => Config.freeGroup v p % 32

/-- The lanes of a group. -/
def State.lanesOf (s : State) (g : Nat) : List Nat := (List.range s.ports).filter (fun p => s.groupOf p == g)

/-- The groups of the instance, ascending. -/
def State.groupList (s : State) : List Nat := (List.range s.ports).filter (fun p => s.groupOf p == p)

/-- Is a lane UP (Table 13-5)? -/
def State.laneUp (s : State) (p : Nat) : Bool := s.rd Dict.laneState p == 3

/-- Is a group UP (13 R274)? -/
def State.groupUp (s : State) (g : Nat) : Bool := (s.lanesOf g).any s.laneUp

/-- The UP lanes of a group. -/
def State.upLanes (s : State) (g : Nat) : List Nat := (s.lanesOf g).filter s.laneUp

/-- Does a port face a child? -/
def State.isDown (s : State) (p : Nat) : Bool := s.isTrayChip && decide (p < 32)

/-- The downstream groups of a tray chip. -/
def State.downGroups (s : State) : List Nat := s.groupList.filter s.isDown

/-- The upstream port Uu that UP_USE gives a use (OD 2801.00). -/
def State.upPort? (s : State) (use : Nat) : Option Nat :=
  (List.range 4).find? (fun u => s.rd Dict.upUse / 256 ^ u % 256 == use)

/-- The primary (false) or buddy (true) group of the upward route (13 R287, R295). -/
def State.upGroup (s : State) (buddy : Bool) : Option Nat :=
  if s.isDie then some (if buddy then 1 else 0)
  else if s.role == .root then none
  else (s.upPort? (if buddy then 2 else 1)).map s.portGroup

/-- Is the primary or buddy group UP? -/
def State.upGroupUp (s : State) (buddy : Bool) : Bool :=
  match s.upGroup buddy with
  | some g => s.groupUp g
  | none => false

/-- Some upward group is UP (13 R292). -/
def State.anyUp (s : State) : Bool := s.upGroupUp false || s.upGroupUp true

/-- The route entry for a frame: the latest decided whose FROM_FRAME is not after it (13 R287). -/
def State.routeBuddy (s : State) (frame : Nat) : Bool :=
  match s.rt.entries.find? (fun e => match e.start with
    | none => true
    | some f => frameGe frame f) with
  | some e => e.buddy
  | none => false

/-- The group that carries the records of a frame; none on the ROOT. -/
def State.routeGroup (s : State) (frame : Nat) : Option Nat := s.upGroup (s.routeBuddy frame)

/-- The group of the current frame's route. -/
def State.routeNow (s : State) : Option Nat := s.routeGroup s.frameNow

/-- Where the traffic of an upward group goes once the group has left UP and a move away from it has been decided (13 R290, R291). -/
def State.movedTo (s : State) (g : Nat) : Option Nat :=
  match s.rt.entries.head? with
  | none => none
  | some e => match s.upGroup e.buddy with
    | some t => if t != g && !s.groupUp g then some t else none
    | none => none

/-- The group on which upward traffic of a frame leaves now. -/
def State.outGroup (s : State) (frame : Nat) : Option Nat := (s.routeGroup frame).map (fun g => (s.movedTo g).getD g)

/-- The group on which upward traffic of the current frame leaves now. -/
def State.outNow (s : State) : Option Nat := s.outGroup s.frameNow

/-- The port below which a die's route passes for a frame (13 R289). -/
def DieRoute.at_ (d : DieRoute) (frame : Nat) : Option Nat :=
  match d.next with
  | some (p, f) => if frameGe frame f then p else d.port
  | none => d.port

/-- The port a die is routed through for a frame. -/
def State.portOf (s : State) (die frame : Nat) : Option Nat :=
  (Tbl.get? s.rt.table die).bind (fun d => d.at_ frame)

/-- The dies routed through the chip for a frame, ascending. -/
def State.routedDies (s : State) (frame : Nat) : List Nat :=
  (s.rt.table.filter (fun e => (e.2.at_ frame).isSome)).map (·.1)

/-- The dies routed through a port for a frame, ascending. -/
def State.diesBelow (s : State) (port frame : Nat) : List Nat :=
  (s.rt.table.filter (fun e => e.2.at_ frame == some port)).map (·.1)

/-- The 17-bit die-ID field that a leaf writes: 0 while unassigned (15 R446). -/
def State.dieField (s : State) : Nat := if s.rd Dict.dieId = 0xFFFFFFFF then 0 else s.rd Dict.dieId % 2 ^ 17

/-- DIE_VALID and DIE_ID of the last IDENT received on a port (Table 13-6). -/
def State.neighbourDie (s : State) (p : Nat) : Option Nat :=
  let v := ofLe (s.rdBytes Dict.laneNeighbour p)
  if v.testBit 103 then some (fieldOf v 102 86) else none

/-- PORT of the last IDENT received on a port (Table 13-6). -/
def State.neighbourPort (s : State) (p : Nat) : Nat := fieldOf (ofLe (s.rdBytes Dict.laneNeighbour p)) 119 112

/-- The lowest die routed through the chip for the current frame; 0 where there is none. -/
def State.lowestDie (s : State) : Nat := (s.routedDies s.frameNow).headD 0

/-- The PTP SLAVE lane: the lowest UP lane of the group that the route names, or of the target of a move as soon as it has
been decided (13 R287, 02 R30). The ROOT has none. -/
def State.slaveLane (s : State) : Option Nat :=
  if s.role == .root then none
  else match s.rt.entries.head? with
    | none => none
    | some e => (s.upGroup e.buddy).bind (fun g => (s.upLanes g).head?)

/-- PORT_STATE of a lane (02 R30, Table 02-9). -/
def State.ptpPortState (s : State) (p : Nat) : Nat :=
  if !s.laneUp p then 3 else if s.isDown p then 6 else if s.slaveLane == some p then 9 else 7

end Sys2Proof.Machine
end

