-- ==== Sys2Proof/Machine/Members.lean ====
section
/-! DEFINITION. The membership in force and expected sets (07 R141, 09 R184, R187). -/

namespace Sys2Proof.Machine

open Sys2Proof

/-- (MEMBER, JOB) of a die in the membership applied here (09 R184). -/
def State.memberEntry (s : State) (die : Nat) : Bool × Nat := Tbl.getD s.bar.member die (false, 0xFFFF)

/-- Is a die a member in the membership applied here, whatever FIRST_FRAME says? -/
def State.isMember (s : State) (die : Nat) : Bool := (s.memberEntry die).1

/-- Is a die a member in the membership in force for a frame: changes whose FIRST_FRAME lies after it are taken back (09 R187)? -/
def State.memberAt (s : State) (die frame : Nat) : Bool :=
  s.bar.changes.foldl (fun m c => if c.2.1 == die && frameGt c.1 frame then c.2.2 else m) (s.isMember die)

/-- Dies that the applied membership assigns to a job, ascending. -/
def State.jobDies (s : State) (job : Nat) : List Nat :=
  (s.bar.member.filter (fun e => e.2.1 && e.2.2 == job)).map (·.1)

/-- Dies of a job routed through the chip for the current frame. -/
def State.jobRouted (s : State) (job : Nat) : List Nat :=
  (s.jobDies job).filter (fun d => (s.portOf d s.frameNow).isSome)

/-- A list of dies put below its ports: ports in ascending order of their lowest die (07 R142). -/
def byPort (dies : List (Nat × Nat)) : List (Nat × List Nat) :=
  dies.foldl (fun acc e =>
    if acc.any (fun x => x.1 == e.2) then acc.map (fun x => if x.1 == e.2 then (x.1, x.2 ++ [e.1]) else x) else acc ++ [(e.2, [e.1])]) []

/-- The expected set of a frame by child port (07 R141). -/
def State.expectedSet (s : State) (frame : Nat) : List (Nat × List Nat) :=
  byPort (s.rt.table.filterMap (fun e => match e.2.at_ frame with
    | some p => if s.memberAt e.1 frame then some (e.1, p) else none
    | none => none))

end Sys2Proof.Machine
end

