-- ==== Sys2Proof/Machine/Score.lean ====
section
/-! DEFINITION. Nodes, routes through trees, sums, link functions and score records (05 R96 to R103, R110). -/

namespace Sys2Proof.Machine

open Sys2Proof

/-! ### Link functions (05 R102, R103) -/

/-- One in the fixed-point numbers from which the exponential is read. -/
def expOne : Nat := 2 ^ 256

/-- Terms of the series of e^(1/256), from the k-th on. -/
def expTerms : Nat → Nat → Nat → Nat
  | 0, _, _ => 0
  | n + 1, k, t => t + expTerms n (k + 1) (t / (256 * k))

/-- e^(1/256). -/
def expStep : Nat := expTerms 24 1 expOne

/-- e^(n/256) for n of at most `bits` bits. -/
def expFix (n : Nat) : Nat → Nat
  | 0 => expOne
  | bits + 1 =>
    let r := expFix (n / 2) bits
    let d := r * r / expOne
    if n % 2 = 1 then d * expStep / expOne else d

/-- The logistic score of index i (Table 05-3); its ends are those that R102 states. -/
def logistic (i : Int) : Nat :=
  if 3017 ≤ i then 65535
  else if i ≤ -3017 then 0
  else
    let e := expFix i.natAbs 12
    if 0 ≤ i then divRhe (65535 * e) (e + expOne) else divRhe (65535 * expOne) (e + expOne)

/-- The exp score of index i (Table 05-3). -/
def expScore (i : Int) : Nat :=
  if 1420 ≤ i then 65535
  else if i ≤ -3017 then 0
  else
    let e := expFix i.natAbs 12
    if 0 ≤ i then min 65535 (divRhe (256 * e) expOne) else divRhe (256 * expOne) e

/-- The table index of a sum (05 R102): sum / 2^16 rounded half to even, held within 16 bits. -/
def linkIndex (sum : Int) : Int :=
  let q := sum / 65536
  let r := sum % 65536
  let q1 := if 0x8000 < r ∨ (r = 0x8000 ∧ q % 2 = 1) then q + 1 else q
  max (-32768) (min q1 32767)

/-- The score of a sum under a link function; none under the reserved one (Table 05-3). -/
def linkScore (link : Nat) (sum : Int) : Option Nat :=
  let i := linkIndex sum
  match link with
  | 0 => some (ofSigned 16 i)
  | 1 => some (logistic i)
  | 2 => some (expScore i)
  | _ => none

/-! ### Trees (05 R96 to R100) -/

/-- Does a pair go right at a split node, and by default (05 R98, R99)? -/
def splitRight (node c : Nat) : Bool × Bool :=
  let dflt := node.testBit 157
  if fieldOf node 159 158 = 0 then
    (if c = 0xFFFF then (dflt, true) else (decide (fieldOf node 79 64 ≤ c), false))
  else if c = 0xFFFF ∨ 63 < c then (dflt, true)
  else (!node.testBit (64 + c), false)

/-- A pair's way from a node on: the leaf value, and the default routes; none where the image breaks R96. `node k i` is node i of
stage k. -/
def walkTree (node : Nat → Nat → Option Nat) (codes : List Nat) : Nat → Nat → Nat → Nat → Option (Int × Nat)
  | 0, _, _, _ => none
  | fuel + 1, k, i, d =>
    match node k i with
    | none => none
    | some n =>
      match fieldOf n 159 158 with
      | 2 => some (toSigned 32 (fieldOf n 31 0), d)
      | 3 => none
      | _ =>
        let r := splitRight n (codes.getD (fieldOf n 156 147) 0xFFFF)
        walkTree node codes fuel (k + 1) (fieldOf n 55 32 + bit r.1) (if r.2 then d + 1 else d)

/-- Sum and default routes of a vector over the trees from t on (05 R100, R101). -/
def walkTrees (node : Nat → Nat → Option Nat) (codes : List Nat) : Nat → Nat → Int → Nat → Option (Int × Nat)
  | 0, _, sum, d => some (sum, d)
  | n + 1, t, sum, d =>
    match walkTree node codes 17 0 t 0 with
    | none => none
    | some (v, e) => walkTrees node codes n (t + 1) (sum + v) (d + e)

/-- Offset in the body of node i of stage k, if the stage has one (06 R113). -/
def nodeOffset (stages : List Nat) (k i : Nat) : Option Nat :=
  if i < stages.getD k 0 then some (20 * ((stages.take k).sum + i)) else none

/-- Node i of stage k of an image: in tree SRAM, or in place in the stacks (06 R126). -/
def SlotImage.node (img : SlotImage) (mem : Memory) (k i : Nat) : Option Nat :=
  (nodeOffset img.stages k i).map (fun o => match img.base with
    | none => leAt img.body o 20
    | some b => ofLe (mem.readBytes (b + o) 20))

/-! ### The score record (05 R110) -/

/-- A score record (Table 05-6). -/
structure ScoreRec where
  slot : Nat
  vec : DevVec
  link : Nat
  unscored : Bool
  routes : Nat
  sum : Int
  score : Nat
  modelId : Nat

/-- The 192 bits of a score record. -/
def ScoreRec.bits (r : ScoreRec) : Nat :=
  let v := r.vec
  let rv := v.vkind % 4 == 2
  packBits [(32, v.frame), (17, v.dieId), (11, v.engine), (4, r.slot), (2, v.vkind), (4, v.gen), (2, r.link), (1, bit r.unscored),
    (1, bit (v.empty && !rv)), (1, bit (v.held && !rv)), (1, bit (v.torn && !rv)), (1, bit (v.satAny && !rv)),
    (1, bit (v.peerLate && !rv)), (2, 0), (16, min r.routes 65535), (48, ofSigned 48 r.sum), (16, r.score), (32, r.modelId)]

/-- The 24 bytes of a score record. -/
def ScoreRec.bytes (r : ScoreRec) : Bytes := leBytes 24 r.bits

/-- The value that a loop or the TRAY compares: the SCORE, offset by 0x8000 under the identity link (08 R162, R172). -/
def comparedScore (link score : Nat) : Nat := if link = 0 then (toSigned 16 score + 0x8000).toNat else score

/-- The value that a reduction field takes from a score (Table 07-3). -/
def scoreValue (link score : Nat) : Int := if link = 0 then toSigned 16 score else score

end Sys2Proof.Machine
end

