-- ==== Sys2Proof/Machine/Codec.lean ====
section
/-! DEFINITION. The predictive residue codec (chapter 12): the encoder of R251 to R259 and the decoder of R260. -/

namespace Sys2Proof.Machine

open Sys2Proof

/-- Decompressor faults (Table 12-3). -/
inductive PrcFault where
  | illegalCode | distanceBeyondHistory | lengthOverrun
deriving DecidableEq, Repr

/-- Element width in bits of a WIDTH code (Table 12-2). -/
def prcWidthBits (code : Nat) : Nat := 8 * 2 ^ (code % 4)

/-- Elements of W bits, little-endian (12 R251). -/
def prcElements (wbytes : Nat) : Nat → Bytes → List Nat
  | 0, _ => []
  | n + 1, bs => ofLe (bs.take wbytes) :: prcElements wbytes n (bs.drop wbytes)

/-- The prediction of a whole vector from the earlier vectors of its block, newest first (Table 12-1).
`vec` is the vector itself, from which LEFT takes its neighbours. -/
def prcPredictions (w sel d : Nat) (hist : List (List Nat)) (vec : List Nat) : List Nat :=
  let zeroVec := List.replicate vec.length 0
  match sel with
  | 0 => hist.headD zeroVec
  | 1 => match hist with
    | a :: b :: _ => List.zipWith (fun x y => (2 * x + 2 ^ w - y) % 2 ^ w) a b
    | [a] => a
    | [] => zeroVec
  | 2 => 0 :: vec.dropLast
  | _ => hist.getD (d - 1) zeroVec

/-- Zigzag of the residue of x against p, W bits (12 R253). -/
def prcZigzag (w x p : Nat) : Nat :=
  let r := (x + 2 ^ w - p % 2 ^ w) % 2 ^ w
  if 2 * r < 2 ^ w then 2 * r else 2 * (2 ^ w - r) - 1

/-- Reversal of the zigzag: the residue modulo 2^W (12 R253). -/
def prcUnzigzag (w u : Nat) : Nat := if u % 2 = 0 then u / 2 else (2 ^ w - (u + 1) / 2) % 2 ^ w

/-- The next Rice parameter after a codeword (12 R255). -/
def prcNextK (w k q u : Nat) : Nat :=
  if 1 < q then min (k + 1) (w - 1)
  else if q = 0 ∧ 0 < k ∧ u / 2 ^ (k - 1) = 0 then k - 1
  else k

/-- Bits, least significant first, as a value and a count. -/
structure BitRun where
  val : Nat
  len : Nat
deriving DecidableEq, Repr

/-- Bits appended after a run (12 R257). -/
def BitRun.push (r : BitRun) (len val : Nat) : BitRun :=
  { val := r.val + val % 2 ^ len * 2 ^ r.len, len := r.len + len }

/-- One codeword of u under k (12 R254). -/
def prcCodeword (w k : Nat) (r : BitRun) (u : Nat) : BitRun :=
  let q := u / 2 ^ k
  if q < 16 then (r.push (q + 1) (2 ^ q - 1)).push k u
  else (r.push 16 0xFFFF).push w u

/-- The codewords of a vector's elements, with k carried along (12 R254, R255). -/
def prcCodeElements (w : Nat) : Nat → BitRun → List (Nat × Nat) → BitRun × Nat
  | k, r, [] => (r, k)
  | k, r, (x, p) :: rest =>
    let u := prcZigzag w x p
    let q := min (u / 2 ^ k) 16
    prcCodeElements w (prcNextK w k q u) (prcCodeword w k r u) rest

/-- One vector under one candidate predictor: selector, distance, codewords (12 R257). -/
def prcCodeVector (w k : Nat) (r : BitRun) (hist : List (List Nat)) (vec : List Nat) (cand : Nat × Nat) :
    BitRun × Nat :=
  let r1 := r.push 2 cand.1
  let r2 := if cand.1 = 3 then r1.push 8 cand.2 else r1
  prcCodeElements w k r2 (vec.zip (prcPredictions w cand.1 cand.2 hist vec))

/-- The candidates in the order they are considered (12 R259): (selector, distance). -/
def prcCandidates (brSearch n : Nat) : List (Nat × Nat) :=
  [(0, 0), (1, 0), (2, 0)] ++ (List.range (min brSearch n)).map (fun i => (3, i + 1))

/-- The cheapest candidate, the first listed on a tie (12 R259), appended to the stream. -/
def prcBest (w k : Nat) (r : BitRun) (hist : List (List Nat)) (vec : List Nat) (brSearch : Nat) : BitRun × Nat :=
  let costed := (prcCandidates brSearch hist.length).map (prcCodeVector w k r hist vec)
  costed.foldl (fun best c => if c.1.len < best.1.len then c else best)
    (prcCodeVector w k r hist vec (0, 0))

/-- All vectors of a block in turn (12 R257, R259). -/
def prcCodeVectors (w brSearch : Nat) : Nat → BitRun → List (List Nat) → List (List Nat) → BitRun
  | _, r, _, [] => r
  | k, r, hist, v :: rest =>
    let c := prcBest w k r hist v brSearch
    prcCodeVectors w brSearch c.2 c.1 (v :: hist) rest

/-- Cut a list of elements into vectors of `vlen`; `n` of them. -/
def prcCut (vlen : Nat) : Nat → List Nat → List (List Nat)
  | 0, _ => []
  | n + 1, xs => xs.take vlen :: prcCut vlen n (xs.drop vlen)

/-- The block header (Table 12-2). -/
def prcHeader (raw : Bool) (widthCode k0 vlen rawLen codedLen : Nat) : Bytes :=
  leBytes 8 (packBits [(4, 1), (1, bit raw), (2, widthCode), (6, k0), (12, vlen - 1), (13, rawLen), (13, codedLen), (13, 0)])

/-- One block of input bytes, a whole number of vectors (12 R256 to R259). -/
def prcEncode (widthCode vlen k0 brSearch : Nat) (inp : Bytes) : Bytes :=
  let w := prcWidthBits widthCode
  let vbytes := vlen * (w / 8)
  let n := inp.length / vbytes
  let vecs := prcCut vlen n (prcElements (w / 8) (n * vlen) inp)
  let r := prcCodeVectors w brSearch k0 { val := 0, len := 0 } [] vecs
  let clen := (r.len + 7) / 8
  if inp.length ≤ clen then prcHeader true widthCode 0 vlen inp.length inp.length ++ inp
  else prcHeader false widthCode k0 vlen inp.length clen ++ leBytes clen r.val

/-- A bit stream being read: its value, its length in bits, the position. -/
structure BitRead where
  val : Nat
  len : Nat
  pos : Nat
deriving DecidableEq, Repr

/-- The next m bits, least significant first; none beyond the payload (12 R260). -/
def BitRead.get? (b : BitRead) (m : Nat) : Option (Nat × BitRead) :=
  if b.len < b.pos + m then none
  else some (b.val / 2 ^ b.pos % 2 ^ m, { b with pos := b.pos + m })

/-- The unary part: ones up to sixteen, a zero ends it (12 R254). -/
def prcUnary : Nat → Nat → BitRead → Option (Nat × BitRead)
  | 0, q, b => some (q, b)
  | n + 1, q, b =>
    match b.get? 1 with
    | none => none
    | some (1, b') => prcUnary n (q + 1) b'
    | some (_, b') => some (q, b')

/-- One codeword: u, q and the stream after it (12 R260). -/
def prcReadCodeword (w k : Nat) (b : BitRead) : Except PrcFault (Nat × Nat × BitRead) :=
  match prcUnary 16 0 b with
  | none => .error .lengthOverrun
  | some (q, b1) =>
    if q < 16 then
      match b1.get? k with
      | none => .error .lengthOverrun
      | some (v, b2) =>
        let u := (q * 2 ^ k + v) % 2 ^ 64
        if w < 64 ∧ 2 ^ w ≤ u then .error .illegalCode else .ok (u, q, b2)
    else
      match b1.get? w with
      | none => .error .lengthOverrun
      | some (u, b2) => .ok (u, q, b2)

/-- The elements of one vector: predictions given, LEFT taking the element just made (12 R260). -/
def prcReadElements (w : Nat) (left : Bool) :
    List Nat → Nat → Nat → BitRead → Except PrcFault (List Nat × Nat × BitRead)
  | [], _, k, b => .ok ([], k, b)
  | p :: ps, prev, k, b =>
    match prcReadCodeword w k b with
    | .error f => .error f
    | .ok (u, q, b1) =>
      let x := ((if left then prev else p) + prcUnzigzag w u) % 2 ^ w
      match prcReadElements w left ps x (prcNextK w k q u) b1 with
      | .error f => .error f
      | .ok (xs, k', b2) => .ok (x :: xs, k', b2)

/-- The selector and distance of vector n (12 R260). -/
def prcReadSelector (n : Nat) (b : BitRead) : Except PrcFault (Nat × Nat × BitRead) :=
  match b.get? 2 with
  | none => .error .lengthOverrun
  | some (3, b1) =>
    match b1.get? 8 with
    | none => .error .lengthOverrun
    | some (d, b2) =>
      if d = 0 then .error .illegalCode
      else if n < d then .error .distanceBeyondHistory
      else .ok (3, d, b2)
  | some (sel, b1) => .ok (sel, 0, b1)

/-- The vectors of a block, history newest first; the result is newest first too (12 R260). -/
def prcReadVectors (w vlen : Nat) : Nat → List (List Nat) → Nat → BitRead → Except PrcFault (List (List Nat) × BitRead)
  | 0, hist, _, b => .ok (hist, b)
  | n + 1, hist, k, b =>
    match prcReadSelector hist.length b with
    | .error f => .error f
    | .ok (sel, d, b1) =>
      match prcReadElements w (sel == 2) (prcPredictions w sel d hist (List.replicate vlen 0)) 0 k b1 with
      | .error f => .error f
      | .ok (xs, k', b2) => prcReadVectors w vlen n (xs :: hist) k' b2

/-- Decoding one block from the input available: the output and the bytes used (12 R260). -/
def prcDecode (inp : Bytes) : Except PrcFault (Bytes × Nat) :=
  if inp.length < 8 then .error .lengthOverrun
  else
    let h := leAt inp 0 8
    let w := prcWidthBits (fieldOf h 58 57)
    let k := fieldOf h 56 51
    let vlen := fieldOf h 50 39 + 1
    let rawLen := fieldOf h 38 26
    let clen := fieldOf h 25 13
    let vbytes := vlen * (w / 8)
    if fieldOf h 63 60 ≠ 1 ∨ rawLen = 0 ∨ 4096 < rawLen ∨ 4096 < vbytes ∨ rawLen % vbytes ≠ 0 ∨ 4096 < clen then
      .error .illegalCode
    else if inp.length < 8 + clen then .error .lengthOverrun
    else if h.testBit 59 then
      if clen ≠ rawLen then .error .illegalCode else .ok ((inp.drop 8).take rawLen, 8 + clen)
    else if w - 1 < k then .error .illegalCode
    else
      match prcReadVectors w vlen (rawLen / vbytes) [] k
          { val := ofLe ((inp.drop 8).take clen), len := 8 * clen, pos := 0 } with
      | .error f => .error f
      | .ok (vs, b) =>
        if (b.pos + 7) / 8 ≠ clen then .error .lengthOverrun
        else .ok (vs.reverse.flatten.flatMap (leBytes (w / 8)), 8 + clen)

end Sys2Proof.Machine
end

