-- ==== Sys2Proof/Machine/Flags.lean ====
section
/-! DEFINITION. Flags that one rule sets and another reads: IRQ_STATUS, HB_IRQ, sticky bits (18 R369). -/

namespace Sys2Proof.Machine

open Sys2Proof

/-- Sticky bits of IRQ_STATUS (Table 18-3). -/
def irqBlockReset : Nat := 5
/-- The block has sent an alarm. -/
def irqAlarm : Nat := 4
/-- A write was rejected under R379. -/
def irqBusError : Nat := 3
/-- A host-to-block message was not acknowledged in time. -/
def irqH2bTimeout : Nat := 2
/-- The block has acknowledged a host-to-block message. -/
def irqH2bAcked : Nat := 1

/-- A sticky bit of IRQ_STATUS is set. -/
def State.setIrq (s : State) (b : Nat) : State := { s with mb := { s.mb with irqStatus := setBit s.mb.irqStatus b } }

/-- Doorbell masks: DB_MASK shares its storage with MB_MASK (18 R368). -/
def State.dbMask (s : State) : Nat := s.rd Dict.mbMask

/-- B2H_MSG: the block-to-host queue holds a message whose doorbell is not masked (Table 18-3). -/
def State.b2hMsg (s : State) : Bool := s.mb.rung.any (fun m => !(s.dbMask.testBit m.door))

/-- IRQ_STATUS as the host reads it. -/
def State.irqStatus (s : State) : Nat := s.mb.irqStatus + bit s.b2hMsg

/-- HB_IRQ is high while (IRQ_STATUS & IRQ_ENABLE) is not 0 (18 R369). -/
def State.hbIrq (s : State) : Bool := s.irqStatus &&& s.mb.irqEnable != 0

/-- IRQ_STATUS after the host writes 1s: sticky bits clear, the others stay (18 R369). -/
def irqCleared (status written : Nat) : Nat := (List.range 5).foldl (fun v i => if written.testBit (i + 1) then clrBit v (i + 1) else v) status

end Sys2Proof.Machine
end

