-- ==== Sys2Proof/Machine/Operands.lean ====
section
/-! DEFINITION. The bytes of messages and records: DAP frames, class 1 messages, prefixes, digests, chunks, frames. -/

namespace Sys2Proof.Machine

open Sys2Proof

/-! ### DAP (15 R315) -/

/-- The 32-byte header of Table 15-1. -/
def dapHeader (kind op reqId idx sub status completion tlevel tdie : Nat) (path : List Nat)
    (len offset total retry : Nat) : Bytes :=
  leBytes 32 (packBits [(8, 1), (2, kind), (6, op), (16, reqId), (16, idx), (8, sub), (8, status), (8, completion),
    (3, tlevel), (17, tdie), (4, path.length), (48, ofLe ((path.take 6).map (BitVec.ofNat 8))), (16, len), (32, offset),
    (32, total), (32, retry)])

/-- A request as bytes. -/
def DapReq.bytes (r : DapReq) : Bytes :=
  dapHeader 0 r.op r.reqId r.idx r.sub 0 0 r.tlevel r.tdie r.path r.data.length r.offset r.total 0 ++ r.data

/-- A response as bytes. -/
def DapResp.bytes (r : DapResp) : Bytes :=
  dapHeader 1 r.op r.reqId r.idx r.sub r.status r.completion r.tlevel r.tdie [] r.data.length r.offset r.total r.retry ++
    r.data

/-- An unsolicited frame of the ROOT as bytes (15 R331). -/
def pushBytes (op number offset total : Nat) (data : Bytes) : Bytes :=
  dapHeader 2 op number 0 0 0 0 5 0 [] data.length offset total 0 ++ data

/-! ### Chunks (07 R137) -/

/-- Chunks of a set of dies, ascending CHUNK. -/
def chunkBytes (dies : List Nat) : Bytes :=
  ((missChunks dies).map (fun c => leBytes 24 (packBits [(128, c.2), (32, 0), (32, c.1)]))).flatten

/-! ### Class 1 (09 R180, R181) -/

/-- The 16-byte header of Table 09-1. -/
def class1Header (typ job id seq epoch level : Nat) (reissue : Bool) (len : Nat) : Bytes :=
  leBytes 16 (packBits [(8, typ), (16, job), (12, id), (16, seq), (32, epoch), (3, level), (1, bit reissue), (16, len), (24, 0)])

/-- A class 1 message: header and body. -/
def class1Bytes (typ job id seq epoch level : Nat) (reissue : Bool) (body : Bytes) : Bytes :=
  class1Header typ job id seq epoch level reissue body.length ++ body

/-- An epoch entry (Table 09-4). -/
def EpochEntry.bytes : EpochEntry → Bytes
  | .die id job member => leBytes 8 (packBits [(1, 0), (17, id), (16, job), (1, bit member), (29, 0)])
  | .size job count => leBytes 8 (packBits [(1, 1), (16, job), (18, count), (29, 0)])

/-- TYPE of a downward message (Table 09-2). -/
def DownBody.typ : DownBody → Nat
  | .release _ _ => 2
  | .bcast _ _ => 3
  | .epoch _ _ _ _ _ => 6

/-- Body of a downward message (Table 09-2). -/
def DownBody.bytes : DownBody → Bytes
  | .release t d => leBytes 8 t ++ leBytes 4 d ++ zeros 4
  | .bcast op payload => leBytes 1 op ++ zeros 3 ++ leBytes 4 payload.length ++ payload
  | .epoch ff seg segs resync es => leBytes 4 ff ++ leBytes 2 seg ++ leBytes 2 segs ++ leBytes 2 es.length ++
      leBytes 1 (bit resync) ++ zeros 5 ++ (es.map EpochEntry.bytes).flatten

/-- A downward message as bytes. -/
def DownMsg.bytes (m : DownMsg) : Bytes :=
  class1Bytes m.body.typ m.job m.id m.seq m.epoch m.level m.reissue m.body.bytes

/-- Kind of a downward message on its queue. -/
def DownBody.kind : DownBody → MsgKind
  | .release _ _ => .release
  | .bcast _ _ => .bcast
  | .epoch _ _ _ _ _ => .epoch

/-! ### Link frames (13 R276 to R278) -/

/-- A frame: header, payload in whole words, CRC block. -/
def linkFrame (typ cls : Nat) (relay : Bool) (seq ackSeq : Nat) (ackValid : Bool) (payload : Bytes) : Bytes :=
  let pay := padTo 8 payload
  let hp := leBytes 8 (packBits [(4, typ), (3, cls), (1, bit relay), (12, seq), (12, ackSeq), (1, bit ackValid),
    (9, pay.length / 8), (22, 0)]) ++ pay
  hp ++ leBytes 4 (crc32c hp) ++ zeros 4

/-! ### Class 5 to 7 prefix (Table 14-5) -/

/-- The 8-byte prefix. -/
def prefixBytes (cseq level die colour : Nat) (restart : Bool) : Bytes :=
  leBytes 8 (packBits [(32, cseq), (3, level), (17, die), (2, colour), (1, bit restart), (9, 0)])

/-! ### Event records (Table 17-1) -/

/-- Bytes 0 to 27 of a record. -/
def EventRec.low (r : EventRec) : Nat :=
  packBits [(128, r.payload), (16, r.rep), (32, r.frame), (32, r.time), (1, bit r.classF), (3, r.source), (12, r.typ)]

/-- The CRC that the record's fields give (17 R348). -/
def EventRec.goodCrc (r : EventRec) : Nat := crc32c (leBytes 28 r.low)

/-- The record with its CRC. -/
def EventRec.sealed (r : EventRec) : EventRec := { r with crc := r.goodCrc }

/-- The 32 bytes of a record. -/
def EventRec.bytes (r : EventRec) : Bytes := leBytes 28 r.low ++ leBytes 4 r.crc

/-! ### Digest records (Table 10-3) -/

/-- The 32 bytes of a digest record. -/
def DigestRec.bytes (d : DigestRec) : Bytes :=
  leBytes 32 (packBits [(64, d.digest), (32, d.lines), (32, d.frame), (32, d.name), (32, d.ordinal), (17, d.die), (3, d.kind),
    (1, bit d.incomplete), (1, bit d.overtaken), (1, bit d.sat), (1, bit d.overlay), (1, bit d.copyDone), (16, d.job), (23, 0)])

end Sys2Proof.Machine
end

