-- ==== Sys2Proof/Machine/Records.lean ====
section
/-! DEFINITION. Event records: raising, folding, the ring, tallies, the reserved alarm buffer (chapter 17, 14 R299). -/

namespace Sys2Proof.Machine

open Sys2Proof

/-! ### Record types (Table 17-2 and the chapters it names) -/

/-- TIME_STEP. -/
def recTimeStep : Nat := 0x010
/-- TIME_ANCHOR. -/
def recTimeAnchor : Nat := 0x011
/-- CLOCK_LOCKED. -/
def recClockLocked : Nat := 0x012
/-- CLOCK_UNLOCK. -/
def recClockUnlock : Nat := 0x013
/-- CLOCK_HOLDOVER. -/
def recClockHoldover : Nat := 0x014
/-- CLOCK_FREERUN. -/
def recClockFreerun : Nat := 0x015
/-- SHUTTER_MISSED. -/
def recShutterMissed : Nat := 0x016
/-- COUNTER_SAT. -/
def recCounterSat : Nat := 0x020
/-- DEV_PHASE. -/
def recDevPhase : Nat := 0x030
/-- FRAME_FORCED. -/
def recFrameForced : Nat := 0x040
/-- VERDICT. -/
def recVerdict : Nat := 0x050
/-- LIVENESS. -/
def recLiveness : Nat := 0x051
/-- ENGINE_ANOMALY. -/
def recEngineAnomaly : Nat := 0x052
/-- BCAST_INCOMPLETE. -/
def recBcastIncomplete : Nat := 0x060
/-- BARRIER_WAIT. -/
def recBarrierWait : Nat := 0x061
/-- RELEASE_LATE. -/
def recReleaseLate : Nat := 0x062
/-- BRACKET_TIMEOUT. -/
def recBracketTimeout : Nat := 0x070
/-- BRACKET_MISMATCH. -/
def recBracketMismatch : Nat := 0x071
/-- OVERLAY_MISMATCH. -/
def recOverlayMismatch : Nat := 0x072
/-- BOUND_UNMET. -/
def recBoundUnmet : Nat := 0x073
/-- TEST_OVERDUE. -/
def recTestOverdue : Nat := 0x074
/-- TEST_DONE. -/
def recTestDone : Nat := 0x075
/-- TEST_FAILED. -/
def recTestFailed : Nat := 0x076
/-- PRC_FAULT. -/
def recPrcFault : Nat := 0x080
/-- LANE_UP. -/
def recLaneUp : Nat := 0x090
/-- LANE_DOWN. -/
def recLaneDown : Nat := 0x091
/-- LASER_AGEING. -/
def recLaserAgeing : Nat := 0x092
/-- ROUTE_MOVED. -/
def recRouteMoved : Nat := 0x093
/-- CLASS_DROP. -/
def recClassDrop : Nat := 0x0A0
/-- ORIGIN. -/
def recOrigin : Nat := 0x0B0
/-- NEG_FIXED. -/
def recNegFixed : Nat := 0x0B1
/-- NEG_RESTORED. -/
def recNegRestored : Nat := 0x0B2
/-- MB_TIMEOUT (18 R386). -/
def recMbTimeout : Nat := 0x0C0
/-- MB_RETCODE (18 R386). -/
def recMbRetcode : Nat := 0x0C1
/-- JOURNAL_LOST (20 R419). -/
def recJournalLost : Nat := 0x0E0
/-- EXPORT (20 R420). -/
def recExport : Nat := 0x0E1
/-- WAKE (19 R409). -/
def recWake : Nat := 0x0D0
/-- POWER_ENTER. -/
def recPowerEnter : Nat := 0x0D1
/-- RESET_DONE. -/
def recResetDone : Nat := 0x0D2
/-- KEEPER_RESET. -/
def recKeeperReset : Nat := 0x0D3
/-- KEEPER_UPDATED. -/
def recKeeperUpdated : Nat := 0x0D4

/-! ### The management port's pushes (15 R331) -/

/-- Bytes on the wire of a datagram with `n` DAP bytes: preamble, Ethernet, IPv6, UDP, FCS, gap. -/
def wireBytes (n : Nat) : Nat := n + 86

/-- Bytes queued in a push queue. -/
def pushQueued (q : List MgmtFrame) : Nat := (q.map (fun f => f.bytes.length)).sum

/-- An ALARM or SHARD push of the ROOT (15 R331): queued, or waiting until it fits its 256 KB; none without a conductor. -/
def State.push (s : State) (op : Nat) (data : Bytes) (own : Option Nat) : State :=
  let addr := s.rdBytes Dict.conductorAddr
  if addr.all (· == 0) then s
  else
    let b := pushBytes op (s.dap.push % 65536) 0 data.length data
    let f : MgmtFrame := { wire := wireBytes b.length, bytes := b, addr := ofLe addr, port := s.rd Dict.conductorPort, own := own }
    if s.dap.waitingPushes.isEmpty && decide (pushQueued s.dap.alarmPushes + b.length ≤ 262144) then
      { s with dap := { s.dap with push := s.dap.push + 1, alarmPushes := s.dap.alarmPushes ++ [f] } }
    else { s with dap := { s.dap with push := s.dap.push + 1, waitingPushes := s.dap.waitingPushes ++ [f] } }

/-! ### The reserved alarm buffer (14 R299) -/

/-- ALARM_BUF_USED follows the buffer. -/
def State.syncAlarms (s : State) : State := s.wr Dict.alarmBufUsed (32 * s.sch.alarms.length)

/-- Does the buffer have room for one more record? -/
def State.alarmRoom (s : State) : Bool := decide (32 * (s.sch.alarms.length + 1) ≤ s.rd Dict.alarmBufSize)

/-- An alarm enters the buffer. -/
def State.bufferAlarm (s : State) (bytes : Bytes) (own : Option Nat) : State :=
  State.syncAlarms { s with sch := { s.sch with alarms := s.sch.alarms ++ [{ bytes := bytes, own := own }] } }

/-- An alarm of a child enters the buffer, or waits for room in it: no alarm is dropped (14 R299; log entry 43). -/
def State.forwardIn (s : State) (bytes : Bytes) : State :=
  if s.sch.waiting.isEmpty && s.alarmRoom then s.bufferAlarm bytes none
  else { s with sch := { s.sch with waiting := s.sch.waiting ++ [{ bytes := bytes, own := none }] } }

/-- Alarms fill the buffer; those beyond its size wait outside it. -/
def State.fitAlarms (s : State) (alarms : List AlarmEntry) : State :=
  let n := s.rd Dict.alarmBufSize / 32
  State.syncAlarms { s with sch := { s.sch with alarms := alarms.take n, waiting := alarms.drop n } }

/-! ### The ring (17 R352, R353) -/

/-- Records the ring holds at most. -/
def State.ringSize (s : State) : Nat := s.rd Dict.recSize / 32

/-- The number object of a class. -/
def nextOf (f : Bool) : Ob := if f then Dict.fNext else Dict.oNext

/-- MIRROR_BEHIND follows the ring (17 R358). -/
def State.syncMirror (s : State) : State := s.wr Dict.mirrorBehind (s.recd.ring.filter (·.toMirror)).length

/-- Lowest place that no held record takes. -/
def freeSlot (ring : List Stored) : Nat :=
  ((List.range (ring.length + 1)).find? (fun i => !(ring.any (fun e => e.slot == i)))).getD 0

/-- The place a new record takes, once the oldest record that is not unsent has given way where the ring is full; none
while every record is unsent (17 R352, R353). -/
def State.takeSlot (s : State) : Option (Nat × State) :=
  let ring := s.recd.ring
  if ring.length < s.ringSize then some (freeSlot ring, s)
  else match ring.find? (fun e => !e.unsent) with
    | none => none
    | some old =>
      let s1 := { s with recd := { s.recd with ring := ring.filter (fun e => e.slot != old.slot) } }
      some (old.slot, if old.event.classF && frameGe old.num (s.rd Dict.fCursor) then s1.bumpSat Dict.fOverwritten else s1)

/-- The bytes of a held record stand in the tray chip's event store (17 R352). -/
def State.recToStack (s : State) (slot : Nat) (r : EventRec) : State :=
  if s.isTrayChip then s.stackWrite (s.rd Dict.recBase + 32 * slot) r.bytes else s

/-- A record is written into a place of the ring under the next number of its class. -/
def State.writeRecord (s : State) (slot : Nat) (r : EventRec) (alarm unsent child : Bool) : State :=
  let mir := s.isDie && s.flag Dict.mirror && !alarm
  let e : Stored := { slot := slot, num := s.rd (nextOf r.classF), event := r, unsent := unsent, gone := false,
                      toMirror := mir, child := child, alarm := alarm, written := s.time.now }
  let since := if mir && s.recd.mirrorSince.isNone then some s.time.now else s.recd.mirrorSince
  State.syncMirror (((({ s with recd := { s.recd with ring := s.recd.ring ++ [e], mirrorSince := since } }).recToStack slot r).bump
    (nextOf r.classF)))

/-- A record that finds no free place is tallied (17 R353). -/
def State.tally (s : State) (r : EventRec) (alarm child : Bool) : State :=
  let same (t : Tally) : Bool := t.firstRec.typ == r.typ && t.firstRec.classF == r.classF && t.firstRec.source == r.source && t.child == child
  let ts := s.recd.tallies
  let new : List Tally :=
    if ts.any same then ts.map (fun t => if same t then { t with later := t.later + 1, alarm := t.alarm || alarm } else t)
    else ts ++ [{ firstRec := r, later := 0, alarm := alarm, child := child }]
  { s with recd := { s.recd with tallies := new } }

/-- An alarm of the instance's own, record number `num`, takes its way to the conductor (01 R26, 14 R299). -/
def State.sendOwnAlarm (s : State) (r : EventRec) (num : Nat) : State :=
  if s.role == .root then s.push 0x10 r.bytes (some num) else s.bufferAlarm r.bytes (some num)

/-- A record of the instance's own is written, and queued if it is an alarm; an alarm that finds the reserved buffer full
stays unsent (14 R299). -/
def State.storeOwn (s : State) (r : EventRec) (alarm : Bool) : State :=
  match s.takeSlot with
  | none => s.tally r alarm false
  | some (slot, s1) =>
    let waits := alarm && s.role != .root && (!s.alarmRoom || s.recd.ring.any (·.unsent))
    let num := s1.rd (nextOf r.classF)
    let s2 := s1.writeRecord slot r alarm waits false
    if !alarm then s2 else if waits then s2.bumpSat Dict.alarmHeld else s2.sendOwnAlarm r num

/-- A record of a child is written unchanged, or tallied (17 R353, R357). -/
def State.storeChild (s : State) (r : EventRec) : State :=
  match s.takeSlot with
  | none => s.tally r false true
  | some (slot, s1) => s1.writeRecord slot r false false true

/-- The newest held record of a class. -/
def newestOf (ring : List Stored) (f : Bool) : Option Stored := (ring.filter (fun e => e.event.classF == f)).getLast?

/-- The record that an event folds into (17 R351). -/
def State.foldInto (s : State) (r : EventRec) : Option Stored :=
  match newestOf s.recd.ring r.classF with
  | none => none
  | some e =>
    if e.event.source == r.source && e.event.typ == r.typ && e.event.payload == r.payload && !e.child && !e.gone &&
        decide (s.time.now < e.written + secUnits) && decide (e.event.rep < 65535) && r.typ != recTimeAnchor
    then some e else none

/-- An event folds into a record: REPEAT and CRC of the record, and of its copy in the alarm buffer or push queue. -/
def State.fold (s : State) (e : Stored) : State :=
  let r := ({ e.event with rep := e.event.rep + 1 } : EventRec).sealed
  let ring := s.recd.ring.map (fun x => if x.slot == e.slot then { x with event := r } else x)
  let mine (o : Option Nat) : Bool := e.event.classF && o == some e.num
  let alarms := s.sch.alarms.map (fun a => if mine a.own then { a with bytes := r.bytes } else a)
  let fix (f : MgmtFrame) : MgmtFrame := if mine f.own then { f with bytes := f.bytes.take 32 ++ r.bytes } else f
  let s1 := { s with recd := { s.recd with ring := ring }, sch := { s.sch with alarms := alarms }
                     dap := { s.dap with alarmPushes := s.dap.alarmPushes.map fix, waitingPushes := s.dap.waitingPushes.map fix } }
  (s1.recToStack e.slot r).bumpSat Dict.repeatsFolded

/-- An event of the instance (17 R348, R351): it is folded, or written as a new record. `payload` is 128 bits. -/
def State.raiseAt (s : State) (classF alarm : Bool) (typ payload time frame : Nat) : State :=
  let r : EventRec := EventRec.sealed { crc := 0, payload := payload % 2 ^ 128, rep := 0, frame := frame, time := time % 2 ^ 32
                                        classF := classF, source := s.level, typ := typ }
  match s.foldInto r with
  | some e => s.fold e
  | none => s.storeOwn r alarm

/-- An event now: TIME and FRAME as they stand. -/
def State.raise (s : State) (classF alarm : Bool) (typ payload : Nat) : State :=
  s.raiseAt classF alarm typ payload s.t32 s.frameNow

/-- A class O record. -/
def State.raiseO (s : State) (typ payload : Nat) : State := s.raise false false typ payload

/-- A class F record sent as an alarm. -/
def State.raiseAlarm (s : State) (typ payload : Nat) : State := s.raise true true typ payload

/-! ### Records of children (17 R357) -/

/-- The ORIGIN record that names a child's record. -/
def State.originRec (s : State) (port childLevel : Nat) (r : EventRec) : EventRec :=
  let die : Option Nat := if childLevel = 0 then s.neighbourDie port else (s.diesBelow (s.groupOf port) s.frameNow).head?
  let payload := packBits [(17, die.getD 0), (1, bit die.isSome), (3, childLevel), (6, port), (3, s.level), (32, r.crc),
    (1, bit (r.crc != r.goodCrc)), (65, 0)]
  EventRec.sealed { crc := 0, payload := payload, rep := 0, frame := s.frameNow, time := s.t32, classF := true
                    source := s.level, typ := recOrigin }

/-- The level of the child below a port: the ROLE of its last IDENT (Table 13-6). -/
def State.childLevel (s : State) (port : Nat) : Nat := fieldOf (ofLe (s.rdBytes Dict.laneNeighbour port)) 127 120

/-- A record received from a child enters the store, followed by its ORIGIN record where R357 calls for one. -/
def State.takeChildRecord (s : State) (port : Nat) (r : EventRec) : State :=
  let lvl := s.childLevel port
  let s1 := s.storeChild r
  if r.source = lvl ∧ r.typ ≠ recOrigin then s1.storeChild (s.originRec port lvl r) else s1

/-- An alarm, with the ORIGIN record behind it, is forwarded: into class 0, or at the ROOT to the conductor (01 R26, 17 R357). -/
def State.forwardAlarm (s : State) (port : Nat) (r : EventRec) : State :=
  let lvl := s.childLevel port
  let send (t : State) (b : Bytes) : State := if s.role == .root then t.push 0x10 b none else t.forwardIn b
  let s1 := send s r.bytes
  if r.source = lvl ∧ r.typ ≠ recOrigin then send s1 (s.originRec port lvl r).bytes else s1

/-! ### Space frees (14 R299, 17 R353) -/

/-- Unsent alarms are queued in the order raised while the reserved buffer has room. -/
def State.queueHeld : Nat → State → State
  | 0, s => s
  | n + 1, s =>
    match s.recd.ring.find? (·.unsent) with
    | none => s
    | some e =>
      if !s.alarmRoom then s
      else
        let s1 := { s with recd := { s.recd with ring := s.recd.ring.map (fun (x : Stored) =>
          if x.slot == e.slot then { x with unsent := false, freed := true } else x) } }
        State.queueHeld n (s1.bufferAlarm e.event.bytes (some e.num))

/-- Free places: places no record takes, and places of records that are not unsent once they were. -/
def State.placesFree (s : State) : Bool := decide (s.recd.ring.length < s.ringSize) || s.recd.ring.any (·.freed)

/-- Tallies are written into free places: class F first, then in order of first event (17 R353). -/
def State.writeTallies : Nat → State → State
  | 0, s => s
  | n + 1, s =>
    let ts := s.recd.tallies
    match (ts.find? (fun t => t.firstRec.classF)).or ts.head? with
    | none => s
    | some t =>
      if !s.placesFree then s
      else
        let r := ({ t.firstRec with rep := min t.later 65535 } : EventRec).sealed
        let s1 := { s with recd := { s.recd with tallies := ts.erase t } }
        State.writeTallies n (if t.child then s1.storeChild r else s1.storeOwn r (t.alarm && t.firstRec.classF))

end Sys2Proof.Machine
end

