-- ==== Sys2Proof/Machine/Transmit.lean ====
section
/-! DEFINITION. Sending on a group: sequence numbers, replay buffer, credits, control frames (13 R275 to R283). -/

namespace Sys2Proof.Machine

open Sys2Proof

/-- The link of a group. -/
def State.link (s : State) (g : Nat) : Link := Tbl.getD s.lnk.groups g {}

/-- The link of a group takes a value. -/
def State.setLink (s : State) (g : Nat) (l : Link) : State :=
  { s with lnk := { s.lnk with groups := Tbl.set s.lnk.groups g l } }

/-- Full grant of a class in units of 64 B (13 R283). -/
def fullGrant (c : Nat) : Nat := if c = 0 then 1024 else 512

/-- Unspent credit of a class, in units of 64 B (13 R283). -/
def Link.creditLeft (l : Link) (c : Nat) : Nat :=
  (Tbl.getD l.credit c (fullGrant c) + 65536 - Tbl.getD l.spent c 0 % 65536) % 65536

/-- Units of 64 B that a payload takes. -/
def creditUnits (n : Nat) : Nat := ceilDiv n 64

/-- Payload bytes held in the replay buffer. -/
def Link.replayBytes (l : Link) : Nat := (l.replay.map (fun f => f.frame.bytes.length)).sum

/-- Replay buffer of a group (13 R280): 64 KB per lane on Uhlyr-D, 256 KB per group on the tray chip. -/
def State.replayRoom (s : State) (g n : Nat) : Bool :=
  let l := s.link g
  decide (l.replay.length < 2047) &&
    decide (l.replayBytes + n ≤ (if s.isDie then 65536 * (s.lanesOf g).length else 262144))

/-- Bytes sent (0) or received (1) on a port of a tray chip (03 R66; the bytes of link frames, log entry 22). -/
def State.countPort (s : State) (p dir n : Nat) : State :=
  if s.isDie then s
  else { s with cnt := { s.cnt with link := Tbl.set s.cnt.link (2 * p + dir) ((Tbl.getD s.cnt.link (2 * p + dir) 0 + n) % 2 ^ 64) } }

/-- The start block: a control block of type 0x78 with seven octets of 0 (13 R275). -/
def startBlock : Bytes := leBytes 8 0x78

/-- A frame leaves on a lane, behind its start block. -/
def State.txOn (s : State) (p : Nat) (bytes : Bytes) : State :=
  ((s.emit (.frame p (startBlock ++ bytes))).bump Dict.laneFramesTx p).countPort p 0 bytes.length

/-- Bytes of a link frame with a payload of n bytes (13 R276 to R278). -/
def frameBytes (n : Nat) : Nat := ceilDiv n 8 * 8 + 16

/-- A frame with a payload of n bytes has been received on a lane and accepted (Table 13-14). -/
def State.rxOn (s : State) (p n : Nat) : State := (s.bump Dict.laneFramesRx p).countPort p 1 (frameBytes n)

/-- The lane of a group that carries frame number `seq` (DESIGN CHOICE, log entry 12). -/
def State.laneFor (s : State) (g seq : Nat) : Nat :=
  let ls := s.upLanes g
  ls.getD (seq % ls.length) g

/-- The frame of a sequenced entry as it leaves now, acknowledging what has been accepted (13 R276, R280). -/
def State.seqBytes (s : State) (g : Nat) (f : SentFrame) : Bytes :=
  linkFrame f.typ f.cls f.frame.relay f.seq (s.link g).expect true f.frame.bytes

/-- A sequenced frame is numbered, kept for replay and sent (13 R280). -/
def State.sendSeq (s : State) (g typ cls : Nat) (q : QFrame) : State :=
  let l := s.link g
  let f : SentFrame := { seq := l.nextSeq, typ := typ, cls := cls, frame := q }
  let l1 := { l with
    nextSeq := (l.nextSeq + 1) % 4096, replay := l.replay ++ [f]
    advanced := if l.replay.isEmpty then s.time.now else l.advanced
    spent := if typ = 0 then Tbl.set l.spent cls ((Tbl.getD l.spent cls 0 + creditUnits q.bytes.length) % 65536) else l.spent }
  (s.setLink g l1).txOn (s.laneFor g f.seq) (s.seqBytes g f)

/-- An unsequenced frame of a group: ACK 1, NAK 2, CREDIT 3 (Table 13-4). -/
def State.sendCtl (s : State) (g typ : Nat) (payload : Bytes) : State :=
  if s.groupUp g then
    s.txOn (s.laneFor g 0) (linkFrame typ 0 false 0 (s.link g).expect true payload)
  else s

/-- Cumulative credit given back for a class: the full grant and what has been taken and not withheld (13 R283). -/
def Link.granted (l : Link) (c : Nat) : Nat :=
  (fullGrant c + 65536 + Tbl.getD l.taken c 0 - Tbl.getD l.withheld c 0) % 65536

/-- The payload of a CREDIT frame (Table 13-4). -/
def Link.creditPayload (l : Link) : Bytes := ((List.range 8).map (fun c => leBytes 2 (l.granted c))).flatten

/-- A CREDIT frame leaves (13 R283). -/
def State.sendCredit (s : State) (g : Nat) : State :=
  (s.setLink g { s.link g with lastCredit := s.time.now }).sendCtl g 3 (s.link g).creditPayload

/-- ROUTE and PARENT_LOST frames that wait leave while the replay buffer has room (13 R280). -/
def State.sendWaiting : Nat → State → Nat → State
  | 0, s, _ => s
  | n + 1, s, g =>
    match (s.link g).waiting with
    | [] => s
    | w :: rest =>
      if s.replayRoom g w.2.length then
        State.sendWaiting n ((s.setLink g { s.link g with waiting := rest }).sendSeq g w.1 0 { kind := .alarm, bytes := w.2 }) g
      else s

/-- A ROUTE or PARENT_LOST frame leaves, ahead of all DATA, or waits for room in the replay buffer (13 R279, R280, R289). -/
def State.sendRoute (s : State) (g typ : Nat) (payload : Bytes) : State :=
  if !s.groupUp g then s
  else if (s.link g).waiting.isEmpty && s.replayRoom g payload.length then s.sendSeq g typ 0 { kind := .alarm, bytes := payload }
  else s.setLink g { s.link g with waiting := (s.link g).waiting ++ [(typ, payload)] }

end Sys2Proof.Machine
end

