-- ==== Sys2Proof/Machine/Sched.lean ====
section
/-! DEFINITION. Class queues, gates, policers, deficit round robin, drops (chapter 14). -/

namespace Sys2Proof.Machine

open Sys2Proof

/-- Queues of a group. -/
def State.gq (s : State) (g : Nat) : GroupQ := Tbl.getD s.sch.groups g {}

/-- Queues of a group take a value. -/
def State.setGq (s : State) (g : Nat) (q : GroupQ) : State :=
  { s with sch := { s.sch with groups := Tbl.set s.sch.groups g q } }

/-- The queue of a class. -/
def GroupQ.of (q : GroupQ) (c : Nat) : List QFrame := Tbl.getD q.q c []

/-- Payload bytes in a queue. -/
def queuedBytes (fs : List QFrame) : Nat := (fs.map (fun f => f.bytes.length)).sum

/-! ### Values that take effect at the next DATA decision (14 R314) -/

/-- The objects of Tables 14-9 and 14-10 whose value between DATA decisions is the one of the last decision. -/
def decidedObs : List Ob := [Dict.decimLimit, Dict.retryAfter, Dict.grpQlimit, Dict.grpPoliceEnable, Dict.grpPoliceAware]

/-- An object is about to be written: the value in force stays so until the next DATA decision. -/
def State.keepOld (s : State) (o : Ob) (m : Nat) : State :=
  let k := o.key m 0
  if !decidedObs.any (fun x => x.key 0 0 == o.key 0 0) then s
  else if o.ty == .domain then
    (if (Tbl.get? s.sch.oldDoms k).isSome then s else { s with sch := { s.sch with oldDoms := Tbl.set s.sch.oldDoms k (s.rdBytes o m) } })
  else if (Tbl.get? s.sch.old k).isSome then s
  else { s with sch := { s.sch with old := Tbl.set s.sch.old k (s.rd o m) } }

/-- A scalar as it stood at the last DATA decision. -/
def State.rdAt (s : State) (o : Ob) (m : Nat := 0) : Nat := (Tbl.get? s.sch.old (o.key m 0)).getD (s.rd o m)

/-- A DATA decision on a group: what has been written to its objects and to the instance's is in force. -/
def State.latch (s : State) (g : Nat) : State :=
  let keep (k : Nat) : Bool := k / 256 != 0x3000 + g && k / 256 != Dict.decimLimit.idx && k / 256 != Dict.retryAfter.idx
  { s with sch := { s.sch with old := s.sch.old.filter (fun e => keep e.1), oldDoms := s.sch.oldDoms.filter (fun e => keep e.1) } }

/-- Quantum of a class (OD 3000+p.60). -/
def State.quantum (s : State) (g c : Nat) : Nat := leAt (s.rdBytes Dict.grpQuanta g) (4 * (c - 1)) 4

/-- Queue limit of a class (OD 3000+p.61). -/
def State.qlimit (s : State) (g c : Nat) : Nat :=
  leAt ((Tbl.get? s.sch.oldDoms (Dict.grpQlimit.key g 0)).getD (s.rdBytes Dict.grpQlimit g)) (4 * (c - 1)) 4

/-! ### Gate lists (14 R305 to R307). Times are counts of 2^-16 ns. -/

/-- The segments of one cycle: (start, end, gates), cut at the cycle's end; the last runs to it. -/
def gateSegs (cycle : Nat) : Nat → List (Nat × Nat) → List (Nat × Nat × Nat)
  | _, [] => []
  | at_, [(g, _)] => if cycle ≤ at_ then [] else [(at_, cycle, g)]
  | at_, (g, d) :: t => if cycle ≤ at_ then [] else (at_, min (at_ + d * nsUnits) cycle, g) :: gateSegs cycle (at_ + d * nsUnits) t

/-- Gates of a list at an instant not before its base. -/
def GateList.at_ (l : GateList) (now : Nat) : Nat :=
  let cyc := l.cycle * nsUnits
  let off := (now - l.base * nsUnits) % cyc
  match (gateSegs cyc 0 l.entries).find? (fun e => decide (e.1 ≤ off) && decide (off < e.2.1)) with
  | some e => e.2.2
  | none => 0xFF

/-- The next instant, not before `now`, at which the gate of a class is closed by the list; none if it never is. -/
def GateList.nextClose (l : GateList) (now c : Nat) : Option Nat :=
  let cyc := l.cycle * nsUnits
  let off := (now - l.base * nsUnits) % cyc
  let start := now - off
  let segs := gateSegs cyc 0 l.entries
  match segs.find? (fun e => decide (off < e.2.1) && !(e.2.2.testBit c)) with
  | some e => some (start + max e.1 off)
  | none => (segs.find? (fun e => !(e.2.2.testBit c))).map (fun e => start + cyc + e.1)

/-- The list in force at an instant: the latest adopted whose base has come; until then the one before it (14 R306). A servo step
back over a base brings the previous list back, since gates follow local time (14 R307). -/
def GroupQ.gatesAt (q : GroupQ) (now : Nat) : Option GateList := q.gates.find? (fun l => decide (l.base * nsUnits ≤ now))

/-- The list adopted last, while its base has not come. -/
def GroupQ.gatesNext (q : GroupQ) (now : Nat) : Option GateList := q.gates.head?.filter (fun l => decide (now < l.base * nsUnits))

/-- GATE_STATE: the gates open now (14 R306, R307). -/
def State.gatesOpen (s : State) (g : Nat) : Nat :=
  if !s.flag Dict.grpGateEnable g then 0xFF
  else match (s.gq g).gatesAt s.time.now with
    | none => 0xFF
    | some l => setBit (l.at_ s.time.now % 256) 0

/-- The next instant at which the gate of a class closes (14 R307). -/
def State.nextClose (s : State) (g c : Nat) : Option Nat :=
  if !s.flag Dict.grpGateEnable g then none
  else
    let q := s.gq g
    let cur := (q.gatesAt s.time.now).bind (fun l => l.nextClose s.time.now c)
    match q.gatesNext s.time.now with
    | some l =>
      (match cur with
       | some t => if t < l.base * nsUnits then some t else l.nextClose (l.base * nsUnits) c
       | none => l.nextClose (l.base * nsUnits) c)
    | none => cur

/-- Would a frame with this payload end by the next closing of its gate, which is open now (14 R307)? -/
def State.gateFits (s : State) (g c n : Nat) : Bool :=
  (s.gatesOpen g).testBit c &&
  match s.nextClose g c with
  | none => true
  | some t => decide (s.time.now * 112 + (ceilDiv n 8 + 3) * 66 * nsUnits ≤ t * 112)

/-! ### Eligibility and the active list (14 R300, R301) -/

/-- Is a class of 1 to 7 eligible on a group? -/
def State.eligible (s : State) (g c : Nat) : Bool :=
  match ((s.gq g).of c).head? with
  | none => false
  | some f => s.groupUp g && decide (creditUnits f.bytes.length ≤ (s.link g).creditLeft c) && s.gateFits g c f.bytes.length

/-- Classes that are no longer eligible leave the active list with their deficit; newly eligible ones join its tail in
ascending class order with deficit 0 and fresh set. -/
def State.refresh (s : State) (g : Nat) : State :=
  let q := s.gq g
  let keep := q.active.filter (s.eligible g)
  let join := ([1, 2, 3, 4, 5, 6, 7] : List Nat).filter (fun c => !q.active.contains c && s.eligible g c)
  let gone := q.active.filter (fun c => !s.eligible g c)
  s.setGq g { q with
    active := keep ++ join
    deficit := (gone ++ join).foldl (fun t c => Tbl.set t c 0) q.deficit
    fresh := join.foldl setBit q.fresh }

/-! ### Entering a queue -/

/-- The frames of a message: 2,048 bytes each (14 R311, Table 13-4). -/
def cutFrames (f : QFrame) : Nat → Bytes → Bool → List QFrame
  | 0, _, _ => []
  | n + 1, bs, first =>
    if bs.length ≤ 2048 then [{ f with bytes := bs, first := first }]
    else { f with bytes := bs.take 2048, first := first } :: cutFrames f n (bs.drop 2048) false

/-- A message takes its place: behind every message of its precedence or an earlier one (Table 09-3, 14 R298). -/
def insertMsg (q : List QFrame) (fs : List QFrame) (prec : Nat) : List QFrame :=
  let early := q.takeWhile (fun f => !f.first || decide (f.prec ≤ prec))
  early ++ fs ++ q.drop early.length

/-- The frames of a queue by message, in order. -/
def messages (q : List QFrame) : List (List QFrame) :=
  let r := q.foldr (fun f (acc : List QFrame × List (List QFrame)) =>
    if f.first then ([], (f :: acc.1) :: acc.2) else (f :: acc.1, acc.2)) ([], [])
  if r.1.isEmpty then r.2 else r.1 :: r.2

/-- A message as one piece. -/
def joinMsg (fs : List QFrame) : Option QFrame := fs.head?.map (fun f => { f with bytes := (fs.map (·.bytes)).flatten, first := true })

/-- Messages in order of precedence, each precedence in the order given (Table 09-3, 14 R298). -/
def inOrder (q : List QFrame) : List QFrame :=
  let ms := messages q
  ((List.range 8).flatMap (fun p => ms.filter (fun m => m.head?.any (fun f => f.prec == p)))).flatten

/-- Frames of a class that their producers hold back. -/
def GroupQ.heldOf (q : GroupQ) (c : Nat) : List QFrame := Tbl.getD q.held c []

/-- QLIMIT delays a message, instead of dropping, decimating or refusing it (Table 14-7). -/
def QFrame.delayed (f : QFrame) (c : Nat) : Bool :=
  c == 1 || c == 4 || c == 6 || (c == 2 && f.kind == .dapResponse) || (c == 3 && f.prec == 0)

/-- Bytes of a class that its QLIMIT bounds: of class 3 the records and centres (Table 14-1). -/
def State.limited (s : State) (g c : Nat) : Nat :=
  queuedBytes (if c = 3 then ((s.gq g).of 3).filter (fun f => f.prec == 0) else (s.gq g).of c)

/-- Messages that producers hold back enter the class queue while its limit has room; one that exceeds the whole limit enters when
the queue is empty (14 R313; log entry 43). -/
def State.enterQueue : Nat → State → Nat → Nat → State
  | 0, s, _, _ => s
  | n + 1, s, g, c =>
    let q := s.gq g
    match q.heldOf c with
    | [] => s
    | f :: rest =>
      let msg := f :: rest.takeWhile (fun x => !x.first)
      let have_ := s.limited g c
      if have_ = 0 ∨ have_ + queuedBytes msg ≤ s.qlimit g c then
        State.enterQueue n (s.setGq g { q with held := Tbl.set q.held c (rest.drop (msg.length - 1)), q := Tbl.set q.q c (insertMsg (q.of c) msg f.prec) }) g c
      else s

/-- What producers hold back for a group's classes enters their queues as far as it fits. -/
def State.admitAll (s : State) (g : Nat) : State :=
  ([1, 2, 3, 4, 6] : List Nat).foldl (fun t c => State.enterQueue ((t.gq g).heldOf c).length t g c) s

/-- A message enters a class queue of a group; one of a delayed class behind what its producers hold back already. -/
def State.enqueue (s : State) (g c : Nat) (f : QFrame) : State :=
  let q := s.gq g
  let fs := cutFrames f (f.bytes.length / 2048 + 1) f.bytes true
  (if f.delayed c then
     let held := insertMsg (q.heldOf c) fs f.prec
     State.enterQueue held.length (s.setGq g { q with held := Tbl.set q.held c held }) g c
   else s.setGq g { q with q := Tbl.set q.q c (insertMsg (q.of c) fs f.prec) }).refresh g

/-! ### Policers (14 R303, R304) -/

/-- Parameters of a policer: CIR, CBS, PIR, PBS (OD 3000+p.70+c). -/
def State.policerParams (s : State) (g c : Nat) : Nat × Nat × Nat × Nat :=
  let b := s.rdBytes Dict.grpPolicer g c
  (leAt b 0 8, leAt b 8 4, leAt b 12 8, leAt b 20 4)

/-- One byte in the policer's units. -/
def tokenUnit : Nat := 1000000000 * nsUnits

/-- The buckets of a policer, refilled up to now; full where nothing has been marked since they started. -/
def State.policerNow (s : State) (g c : Nat) : Policer :=
  let pr := s.policerParams g c
  match Tbl.get? (s.gq g).policers c with
  | none => { tc := pr.2.1 * tokenUnit, tp := pr.2.2.2 * tokenUnit, at_ := s.time.now }
  | some p =>
    let dt := s.time.now - p.at_
    { tc := min (pr.2.1 * tokenUnit) (p.tc + pr.1 * dt), tp := min (pr.2.2.2 * tokenUnit) (p.tp + pr.2.2.1 * dt), at_ := s.time.now }

/-- Colour of a message of size b (0 green, 1 yellow, 2 red) and the buckets after it (RFC 2698 as 14 R303 states it). -/
def Policer.mark (p : Policer) (aware : Bool) (pre b : Nat) : Nat × Policer :=
  let n := b * tokenUnit
  if aware && pre == 2 then (2, p)
  else if aware && pre == 1 then (if p.tp < n then (2, p) else (1, { p with tp := p.tp - n }))
  else if p.tp < n then (2, p)
  else if p.tc < n then (1, { p with tp := p.tp - n })
  else (0, { p with tp := p.tp - n, tc := p.tc - n })

/-- A colour is counted in COLOURS (OD 3000+p.78+c). -/
def State.countColour (s : State) (g c colour : Nat) : State :=
  let b := fitBytes 24 (s.rdBytes Dict.grpColours g c)
  s.wrBytes Dict.grpColours (b.take (8 * colour) ++ leBytes 8 (leAt b (8 * colour) 8 + 1) ++ b.drop (8 * colour + 8)) g c

/-- The policer of a class marks a message; green where the policer is not enabled. -/
def State.police (s : State) (g c pre b : Nat) : Nat × State :=
  if !(s.rdAt Dict.grpPoliceEnable g).testBit c then (0, s)
  else
    let r := (s.policerNow g c).mark ((s.rdAt Dict.grpPoliceAware g).testBit c) pre b
    let q := s.gq g
    (r.1, (s.setGq g { q with policers := Tbl.set q.policers c r.2 }).countColour g c r.1)

/-- Whole µs until Tp of class 2 holds b bytes, at least 1 (14 R310); open where it never will. -/
def State.redRetry (s : State) (g b : Nat) : Nat :=
  let p := s.policerNow g 2
  let pir := (s.policerParams g 2).2.2.1
  let need := b * tokenUnit - p.tp
  if pir = 0 ∨ (s.policerParams g 2).2.2.2 < b then s.freeVal % 2 ^ 32 else max 1 (ceilDiv need (pir * nsUnits * 1000))

/-- A DAP request on its way into class 2: the retry-after of a refusal, or none where it enters (14 R310). -/
def State.offerRequest (s : State) (g : Nat) (bytes : Bytes) : Option Nat × State :=
  if s.qlimit g 2 ≤ queuedBytes ((s.gq g).of 2) then (some (s.rdAt Dict.retryAfter), s.bumpSat Dict.refusedCount)
  else
    let r := s.police g 2 0 bytes.length
    if r.1 = 2 then (some (r.2.redRetry g bytes.length), r.2.drawn.bumpSat Dict.refusedCount)
    else (none, r.2.enqueue g 2 { kind := .dapRequest, bytes := bytes })

/-! ### Drops (14 R311, R312) -/

/-- A finished run of drops as its CLASS_DROP record (Table 14-6). -/
def State.writeRun (s : State) (r : DropRun) : State :=
  s.raiseO recClassDrop (packBits [(3, r.cls), (3, r.srcLevel), (17, r.srcDie), (32, r.first), (16, min r.count 65535),
    (2, r.reason), (6, r.port), (49, 0)])

/-- The runs of a (source, class) end. -/
def State.endRuns (s : State) (c level die : Nat) : State :=
  let mine (r : DropRun) : Bool := r.cls == c && r.srcLevel == level && r.srcDie == die
  (s.sch.runs.filter mine).foldl State.writeRun { s with sch := { s.sch with runs := s.sch.runs.filter (fun r => !mine r) } }

/-- A message of class 5 to 7 is dropped (14 R312). -/
def State.drop (s : State) (g c level die cseq reason : Nat) : State :=
  let joins (r : DropRun) : Bool := r.cls == c && r.srcLevel == level && r.srcDie == die && r.reason == reason &&
    (r.first + r.count) % 2 ^ 32 == cseq
  let s1 := s.bumpSat Dict.grpDrops g c
  if s1.sch.runs.any joins then
    { s1 with sch := { s1.sch with runs := s1.sch.runs.map (fun r => if joins r then { r with count := r.count + 1 } else r) } }
  else
    let s2 := s1.endRuns c level die
    { s2 with sch := { s2.sch with runs := s2.sch.runs ++ [{ cls := c, srcLevel := level, srcDie := die, first := cseq, count := 1, reason := reason, port := g, since := s.time.now }] } }

/-! ### Upward traffic (13 R287, R290, R291) -/

/-- Pieces of a relayed record, each with room for the prefix. -/
def relayPieces : Nat → Bytes → List Bytes
  | 0, _ => []
  | n + 1, bs => if bs.length ≤ 2040 then [bs] else bs.take 2040 :: relayPieces n (bs.drop 2040)

/-- A record of a frame before FROM_FRAME is sent on the target group as relayed frames (13 R290): ORIG_PORT stands first. -/
def State.sendRelay (s : State) (g t : Nat) (f : QFrame) : State :=
  let pre := leBytes 8 (packBits [(8, s.neighbourPort g), (56, 0)])
  (relayPieces (f.bytes.length / 2040 + 1) f.bytes).foldl (fun u b => u.enqueue t 3 { f with bytes := pre ++ b, relay := true })
    (s.bumpSat Dict.relayed)

/-- Vectors in a feature frame: COUNT of its header (Table 14-4). -/
def vectorsIn (bytes : Bytes) : Nat := fieldOf (leAt bytes 0 16) 49 44

/-- A message of class 5 to 7 is discarded on a forced move (13 R291). -/
def State.dropMoved (s : State) (g c : Nat) (f : QFrame) : State :=
  let p := leAt f.bytes 0 8
  s.drop g c (fieldOf p 31 29) (fieldOf p 28 12) (fieldOf p 63 32) 2

/-- A whole message of the upward traffic of group g, which is not UP, after a move to group t (Table 13-8). -/
def State.redirect (s : State) (g t c : Nat) (f : QFrame) : State :=
  match f.kind with
  | .record => if f.relay then s.enqueue t c f else s.sendRelay g t f
  | .dieVector => s.bumpSat Dict.vectorsLost 0 0 (vectorsIn f.bytes)
  | .engineVectors => s.bumpSat Dict.vectorsLost 0 0 (vectorsIn f.bytes)
  | .centres => s
  | .dapRequest => s
  | .dapResponse => s
  | .hopAck => s
  | .offload => s.dropMoved g c f
  | .mirror => s.dropMoved g c f
  | .leafJournal => s.dropMoved g c f
  | .bulk => s.dropMoved g c f
  | .alarm => s.enqueue t c f
  | .arrival => s.enqueue t c f
  | .release => s.enqueue t c f
  | .bcast => s.enqueue t c f
  | .bcastAck => s.enqueue t c f
  | .epoch => s.enqueue t c f
  | .digest => s.enqueue t c f
  | .mismatch => s.enqueue t c f

/-- A message enters a class queue of the group that the route for a frame names; the ROOT has none. -/
def State.enqueueUp (s : State) (frame c : Nat) (f : QFrame) : State :=
  match s.routeGroup frame with
  | none => s
  | some g => match s.movedTo g with
    | none => s.enqueue g c f
    | some t => s.redirect g t c f

/-- SRC_DIE of the instance's prefixes (Table 14-5). -/
def State.srcDie (s : State) : Nat := if s.isDie then s.dieField else s.lowestDie

/-- A message of class 5, 6 or 7 of the instance's own: numbered, prefixed, and queued on the current route or dropped. -/
def State.offer (s : State) (c : Nat) (kind : MsgKind) (body : Bytes) : State :=
  match s.routeNow with
  | none => s
  | some g =>
    let die := s.srcDie
    let restart := (Tbl.get? s.sch.cseq c).isNone || (s.isTrayChip && Tbl.get? s.sch.srcDie c != some die)
    let cseq := if restart then 0 else Tbl.getD s.sch.cseq c 0
    let s1 := { s with sch := { s.sch with cseq := Tbl.set s.sch.cseq c ((cseq + 1) % 2 ^ 32), srcDie := Tbl.set s.sch.srcDie c die } }
    let size := body.length + 8
    let send (t : State) (colour : Nat) : State :=
      (t.endRuns c t.level die).enqueue g c { kind := kind, bytes := prefixBytes cseq t.level die colour restart ++ body, frame := t.frameNow, cseq := some cseq }
    if (s1.movedTo g).isSome then s1.drop g c s1.level die cseq 2
    else if c = 6 then send s1 0
    else if s1.qlimit g c < queuedBytes ((s1.gq g).of c) + size then s1.drop g c s1.level die cseq 1
    else
      let r := s1.police g c 0 size
      if r.1 = 2 then r.2.drop g c s1.level die cseq 0 else send r.2 r.1

/-! ### The DATA decision (14 R299, R300) -/

/-- The alarms that fill the next class 0 frame. -/
def State.alarmFrame (s : State) : List AlarmEntry := s.sch.alarms.take 64

/-- Is class 0 eligible on a group: the group of the current upward route, with alarms that its credit covers? -/
def State.class0Ready (s : State) (g : Nat) : Bool :=
  s.outNow == some g && !s.sch.alarms.isEmpty &&
    decide (creditUnits (32 * s.alarmFrame.length) ≤ (s.link g).creditLeft 0)

/-- Class 0 sends up to 64 records in one frame. -/
def State.sendAlarms (s : State) (g : Nat) : State :=
  let out := s.alarmFrame
  let bytes := (out.map (·.bytes)).flatten
  let nums := out.filterMap (·.own)
  let ring := s.recd.ring.map (fun e => if e.event.classF && nums.contains e.num then { e with gone := true } else e)
  let s1 := State.fitAlarms { s with recd := { s.recd with ring := ring } } (s.sch.alarms.drop 64 ++ s.sch.waiting)
  let s2 := (s1.bump Dict.grpClassBytes g 0 bytes.length).sendSeq g 0 0 { kind := .alarm, bytes := bytes, frame := s.frameNow }
  if s.isDie then s2.setIrq irqAlarm else s2

/-- Class c sends the frame at the head of its queue, and loses its deficit if it is eligible no more. -/
def State.sendClass (s : State) (g c : Nat) (f : QFrame) : State :=
  let q := s.gq g
  let s1 := s.setGq g { q with q := Tbl.set q.q c ((q.of c).drop 1), deficit := Tbl.set q.deficit c (Tbl.getD q.deficit c 0 - f.bytes.length)
                               sending := some (f.kind, s.time.now, f.bytes.length) }
  let s2 := (((s1.bump Dict.grpClassBytes g c f.bytes.length).sendSeq g 0 c f).admitAll g).responseLeft f.bytes s.time.now
  let q2 := s2.gq g
  if s2.eligible g c then s2
  else s2.setGq g { q2 with active := q2.active.erase c, deficit := Tbl.set q2.deficit c 0 }

/-- Deficit round robin: one frame is sent, or none while no listed class can be (14 R300). -/
def State.serveDrr : Nat → State → Nat → State
  | 0, s, _ => s
  | n + 1, s, g =>
    let q := s.gq g
    match q.active with
    | [] => s
    | c :: rest =>
      let d := if q.fresh.testBit c then Tbl.getD q.deficit c 0 + s.quantum g c else Tbl.getD q.deficit c 0
      let q1 := { q with deficit := Tbl.set q.deficit c d, fresh := clrBit q.fresh c }
      match (q.of c).head? with
      | none => s
      | some f =>
        if f.bytes.length ≤ d then (s.setGq g q1).sendClass g c f
        else State.serveDrr n (s.setGq g { q1 with active := rest ++ [c], fresh := setBit q1.fresh c }) g

/-- Bytes of the frame in transmission, of a kind, that have not left the sender: its blocks leave one after the other, the start
block and the header first (13 R275, 14 R308; log entry 43). -/
def State.unsentBytes (s : State) (g : Nat) (k : MsgKind) : Nat :=
  match (s.gq g).sending with
  | some (kind, since, n) => if kind == k then n - 8 * ((s.time.now - since) * 112 / (66 * nsUnits) - 2) else 0
  | none => 0

/-! ### Back-pressure (13 R283, 14 R299, R313, 15 R331) -/

/-- A class queue has reached its limit, or a producer of it is held back. -/
def State.classFull (s : State) (g c : Nat) : Bool := !((s.gq g).heldOf c).isEmpty || decide (s.qlimit g c ≤ s.limited g c)

/-- Back-pressure of a class towards the sender on a group: its credit is withheld. Towards a child while the alarm buffer is full,
while the class it would be sent on in has no room, or while no upward group is UP (13 R292); at the ROOT while a push waits; towards
the parent while a group below has no room. -/
def State.withholds (s : State) (g c : Nat) : Bool :=
  if s.isDown g then
    (if s.role == Role.root then (c == 0 || c == 4) && !s.dap.waitingPushes.isEmpty
     else if c = 0 then !s.alarmRoom || !s.sch.waiting.isEmpty
     else decide (c ≤ 4) && (!s.anyUp || s.outNow.any (fun u => s.classFull u c)))
  else s.isTrayChip && (c == 1 || c == 3) && (s.downGroups.filter s.groupUp).any (fun d => s.classFull d c)

/-- Credit that is withheld no longer is given back. -/
def State.freeCredit (s : State) (g : Nat) : State :=
  let l := s.link g
  s.setLink g { l with withheld := l.withheld.filter (fun e => s.withholds g e.1) }

/-- Credit whose back-pressure has ended is given back at once, by a CREDIT frame (13 R283). -/
def State.releaseCredits (s : State) : State :=
  (s.groupList.filter (fun g => s.groupUp g && (s.link g).withheld.any (fun e => !s.withholds g e.1))).foldl
    (fun (t : State) g => (t.freeCredit g).sendCredit g) s

/-- The link is free for a DATA frame (14 R299, R300). -/
def State.dataDecision (s : State) (g : Nat) : State :=
  if !s.groupUp g || !s.replayRoom g 2048 then s
  else
    let s1 := (s.admitAll g).refresh g
    if s1.class0Ready g then s1.sendAlarms g else s1.serveDrr 64 g

end Sys2Proof.Machine
end

