-- ==== Sys2Proof/Machine/Journal.lean ====
section
/-! DEFINITION. The journal and the history ring, and the leaf's journal messages (chapter 20). -/

namespace Sys2Proof.Machine

open Sys2Proof

/-! ### Entry kinds (Table 20-2) -/

/-- VECTOR. -/
def jnVector : Nat := 0x0001
/-- RECORD. -/
def jnRecord : Nat := 0x0002
/-- MISSING. -/
def jnMissing : Nat := 0x0003
/-- CLOSE. -/
def jnClose : Nat := 0x0004
/-- UNSCORED. -/
def jnUnscored : Nat := 0x0005
/-- SLOT_EVENT. -/
def jnSlotEvent : Nat := 0x0006
/-- PROGRAM. -/
def jnProgram : Nat := 0x0007
/-- DIGEST. -/
def jnDigest : Nat := 0x0008
/-- LEAF. -/
def jnLeaf : Nat := 0x0009
/-- LEAF_STATE. -/
def jnLeafState : Nat := 0x000A
/-- ENGINE, in the history ring. -/
def jnEngine : Nat := 0x0010

/-! ### Rings (20 R410, R411, R418, R419) -/

/-- A ring of the instance: false the journal, true the history ring. -/
def State.ring (s : State) (hist : Bool) : ChunkRing := if hist then s.jn.history else s.jn.journal

/-- A ring takes a value. -/
def State.setRing (s : State) (hist : Bool) (r : ChunkRing) : State :=
  if hist then { s with jn := { s.jn with history := r } } else { s with jn := { s.jn with journal := r } }

/-- Base address of a ring. -/
def State.ringBase (s : State) (hist : Bool) : Nat := s.rd (if hist then Dict.historyBase else Dict.journalBase)

/-- Size of a ring in bytes. -/
def State.ringBytes (s : State) (hist : Bool) : Nat := s.rd (if hist then Dict.historySize else Dict.journalSize)

/-- JOURNAL_OLDEST or HISTORY_OLDEST. -/
def oldestOf (hist : Bool) : Ob := if hist then Dict.historyOldest else Dict.journalOldest

/-- Frames up to `last` are no longer all held (20 R418). -/
def State.lostUpTo (s : State) (hist : Bool) (last : Nat) : State :=
  if frameGe last (s.rd (oldestOf hist)) then s.wr (oldestOf hist) ((last + 1) % 2 ^ 32) else s

/-- OLDEST starts at the first frame that the chip opens (20 R418). -/
def State.startOldest (s : State) (frame : Nat) : State :=
  let one (t : State) (hist : Bool) : State :=
    let r := t.ring hist
    if r.startDue then (t.setRing hist { r with startDue := false }).wr (oldestOf hist) frame else t
  if s.isTrayChip then one (one s false) true else s

/-- The run of discards of a ring ends: its JOURNAL_LOST record (20 R419). -/
def State.endDiscards (s : State) (hist : Bool) : State :=
  match (s.ring hist).run with
  | none => s
  | some r => (s.setRing hist { s.ring hist with run := none }).raise true false recJournalLost
      (packBits [(32, r.first), (32, r.count), (8, bit hist), (56, 0)])

/-- The bytes of a chunk: header (Table 20-1) and block. -/
def chunkOf (hist : Bool) (cseq first last kind entryLen entries : Nat) (block : Bytes) : Bytes :=
  let h := leBytes 28 (packBits [(32, if hist then 0x48495331 else 0x4A4E4C31), (32, cseq), (32, first), (32, last), (16, kind),
    (16, entryLen), (16, entries), (16, 0), (32, block.length)])
  leBytes 4 (crc32c (h ++ block)) ++ h ++ block

/-- Least of frame numbers in frame order. -/
def firstFrame (fs : List Nat) : Nat := match fs with
  | [] => 0
  | f :: t => t.foldl (fun a b => if frameGt a b then b else a) f

/-- Greatest of frame numbers in frame order. -/
def lastFrame (fs : List Nat) : Nat := match fs with
  | [] => 0
  | f :: t => t.foldl (fun a b => if frameGt b a then b else a) f

/-- Two byte ranges have a byte in common. -/
def overlaps (a n b m : Nat) : Bool := decide (0 < n) && decide (0 < m) && decide (a < b + m) && decide (b < a + n)

/-- The regions of the stacks that a ring must stay clear of (20 R410): the other ring, the model library, the negative slots, the trace
store and the event-recorder store. -/
def State.otherRegions (s : State) (hist : Bool) : List (Nat × Nat) :=
  [(s.rd Dict.libraryBase, s.rd Dict.librarySize), (0x480000000, 0x80000000), (s.rd Dict.traceStoreBase, s.rd Dict.traceStoreSize),
    (s.rd Dict.recBase, s.rd Dict.recSize)] ++ (if s.role == .tray then [(s.ringBase (!hist), s.ringBytes (!hist))] else [])

/-- The bytes of a chunk are written; what stands in a ring that overlaps another region is open (20 R410, 00 R7). -/
def State.writeRing (s : State) (hist : Bool) (addr : Nat) (bytes : Bytes) : State :=
  let s1 := s.stackWrite addr bytes
  if (s.otherRegions hist).any (fun r => overlaps (s.ringBase hist) (s.ringBytes hist) r.1 r.2) then
    State.drawn { s1 with stack := s1.stack.openUp addr (addr + bytes.length) s1.free }
  else s1

/-- A gathered chunk is coded and written over the oldest chunks it covers, or discarded where it would cover a frozen one. -/
def State.writeChunk (s : State) (kind : Nat) (g : Gather) : State :=
  let hist := kind == jnEngine
  let r := s.ring hist
  let frames := g.entries.map (·.1)
  let fst := firstFrame frames
  let lst := lastFrame frames
  let block := prcEncode 1 (g.entryLen / 2) 3 (s.rd Dict.brSearch) ((g.entries.map (·.2)).flatten)
  let bytes := chunkOf hist r.cseq fst lst kind g.entryLen g.entries.length block
  let size := s.ringBytes hist
  let pos := if r.pos + bytes.length ≤ size then r.pos else 0
  let base := s.ringBase hist
  let covers (c : Chunk) : Bool := decide (c.addr < base + pos + bytes.length) && decide (base + pos < c.addr + c.len)
  let next := (r.cseq + 1) % 2 ^ 32
  if r.chunks.any (fun c => c.frozen && covers c) then
    let run : DiscardRun := match r.run with
      | some d => { d with count := d.count + 1 }
      | none => { first := r.cseq, count := 1, since := s.time.now }
    ((s.setRing hist { r with cseq := next, run := some run }).bumpSat Dict.journalLost).lostUpTo hist lst
  else
    let gone := r.chunks.filter covers
    let s0 := s.endDiscards hist
    let s1 := gone.foldl (fun t c => t.lostUpTo hist c.last) s0
    let die := match g.entries.head? with
      | some e => leAt e.2 4 4
      | none => 0
    let c : Chunk := { addr := base + pos, len := bytes.length, cseq := r.cseq, first := fst, last := lst, kind := kind
                       die := if kind = jnLeafState then die else 0, frozen := false }
    (s1.setRing hist { s1.ring hist with pos := ceilDiv (pos + bytes.length) 64 * 64, cseq := next
                                         chunks := r.chunks.filter (fun c => !covers c) ++ [c] }).writeRing hist (base + pos) bytes

/-- The chunk gathered for a kind is written. -/
def State.closeGather (s : State) (kind : Nat) : State :=
  match Tbl.get? s.jn.gathering kind with
  | none => s
  | some g => State.writeChunk { s with jn := { s.jn with gathering := Tbl.del s.jn.gathering kind } } kind g

/-- Die and frame of an engine vector record: a chunk of ENGINE entries holds those of one die and one frame (Table 20-2). -/
def engineKey (body : Bytes) : Nat × Nat :=
  let h := ofLe (body.take 16)
  (fieldOf h 127 96, fieldOf h 95 79)

/-- Does an entry fit the chunk gathered for its kind (20 R412)? -/
def Gather.takes (g : Gather) (kind : Nat) (body : Bytes) : Bool :=
  g.entryLen == body.length && decide ((g.entries.length + 1) * g.entryLen ≤ 4096) && decide (g.entries.length < 512) &&
  (kind != jnEngine || match g.entries.head? with
    | some e => engineKey e.2 == engineKey body
    | none => true)

/-- The pieces of an entry body, of at most the 4,096 bytes that an entry of a chunk can have (20 R411; log entry 16). -/
def entryPieces : Nat → Bytes → List Bytes
  | 0, _ => []
  | n + 1, bs => if bs.length ≤ 4096 then [bs] else bs.take 4096 :: entryPieces n (bs.drop 4096)

/-- A piece of an entry is gathered (20 R412, R413). -/
def State.gatherEntry (kind frame : Nat) (s : State) (body : Bytes) : State :=
    let s1 := match Tbl.get? s.jn.gathering kind with
      | some g => if g.takes kind body then s else s.closeGather kind
      | none => s
    let g : Gather := match Tbl.get? s1.jn.gathering kind with
      | some g => { g with entries := g.entries ++ [(frame, body)] }
      | none => { entryLen := body.length, since := s1.time.now, entries := [(frame, body)] }
    { s1 with jn := { s1.jn with gathering := Tbl.set s1.jn.gathering kind g } }

/-- An entry of the journal or the history ring (20 R411 to R413). -/
def State.journalEntry (s : State) (kind frame : Nat) (body : Bytes) : State :=
  if !s.isTrayChip || !s.flag Dict.journalEnable then s
  else (entryPieces (body.length / 4096 + 1) body).foldl (State.gatherEntry kind frame) s

/-! ### The leaf's messages (20 R415) -/

/-- Bytes of the entries gathered for the leaf's next message. -/
def leafBytes (es : List (Nat × Bytes)) : Bytes :=
  (es.map (fun e => leBytes 2 e.1 ++ leBytes 2 e.2.length ++ zeros 4 ++ e.2)).flatten

/-- The leaf's message is sent on class 6. -/
def State.sendLeafJournal (s : State) : State :=
  if s.jn.leaf.isEmpty then s
  else State.offer { s with jn := { s.jn with leaf := [] } } 6 .leafJournal (leafBytes s.jn.leaf)

/-- An entry of the leaf: sent with those gathered when 4,096 bytes have gathered. -/
def State.leafEntry (s : State) (kind : Nat) (body : Bytes) : State :=
  if !s.isDie then s
  else
    let es := s.jn.leaf ++ [(kind, body)]
    let s1 := { s with jn := { s.jn with leaf := es, leafSince := if s.jn.leaf.isEmpty then s.time.now else s.jn.leafSince } }
    if 4096 ≤ (leafBytes es).length then s1.sendLeafJournal else s1

/-- An entry of the instance: on the tray chip into the journal, on Uhlyr-D into its message to the TRAY. -/
def State.ownEntry (s : State) (kind frame : Nat) (body : Bytes) : State :=
  if s.isDie then s.leafEntry kind body else s.journalEntry kind frame body

/-- DEV_PHASE has been written: a change writes a record and a SLOT_EVENT entry (06 R124, Table 20-2). -/
def State.phaseChanged (s : State) (old : Nat) : State :=
  let v := s.rd Dict.devPhase
  if v = old then s
  else (s.raiseO recDevPhase (packBits [(8, old), (8, v), (112, 0)])).journalEntry jnSlotEvent s.frameNow
    (leBytes 4 s.frameNow ++ leBytes 1 0 ++ leBytes 1 4 ++ leBytes 1 0xFF ++ leBytes 1 v ++ zeros 12 ++ leBytes 4 0xFFFFFFFF ++ zeros 48)

end Sys2Proof.Machine
end

