-- ==== Sys2Proof/Machine/Respond.lean ====
section
/-! DEFINITION. Answers to DAP requests, messages to the host, the management port (chapter 15, 18 R383). -/

namespace Sys2Proof.Machine

open Sys2Proof

/-- A block-to-host message waits to be rung (18 R383). -/
def State.mbSend (s : State) (door kind : Nat) (bytes : Bytes) : State :=
  { s with mb := { s.mb with waiting := s.mb.waiting ++ [{ door := door, kind := kind, bytes := bytes }] } }

/-- A message to the host on the command-event port (18 R370). -/
def State.ceSend (s : State) (m : CeOut) : State := { s with ce := { s.ce with outQ := s.ce.outQ ++ [m] } }

/-- Some child is a SPINE: the SPINE is an upper one (15 R320). -/
def State.upperSpine (s : State) : Bool :=
  s.role == .spine && s.downGroups.any (fun g => s.childLevel g == 3)

/-- The instance's level as a target level (Table 15-3). -/
def State.dapLevel (s : State) : Nat :=
  match s.role with
  | .leaf => 0
  | .tray => 1
  | .rack => 2
  | .spine => if s.upperSpine then 4 else 3
  | .root => 5

/-- Sends a response to where its request came in (15 R317 to R319). -/
def State.respond (s : State) (src : DapSource) (bytes : Bytes) : State :=
  match src with
  | .mailbox => s.mbSend 0 0 bytes
  | .lane p => s.enqueue (s.groupOf p) 2 { kind := .dapResponse, bytes := bytes }
  | .mgmt addr port => { s with dap := { s.dap with responses := s.dap.responses ++
      [{ wire := wireBytes bytes.length, bytes := bytes, addr := addr, port := port }] } }

/-- The bytes of a response of this instance (15 R322, R328, R330): TLEVEL and TDIE name it. -/
def State.answerBytes (s : State) (r : DapReq) (status completion total : Nat) (data : Bytes) (retry : Nat) : Bytes :=
  DapResp.bytes
    { op := r.op, reqId := r.reqId, idx := r.idx, sub := r.sub, status := status, completion := completion
      tlevel := s.dapLevel, tdie := if s.isDie then s.dieField else 0
      offset := r.offset, total := total, retry := retry, data := data }

/-- A response of this instance goes to where its request came in. -/
def State.answer (s : State) (src : DapSource) (r : DapReq) (status completion total : Nat) (data : Bytes) (retry : Nat) : State :=
  s.respond src (s.answerBytes r status completion total data retry)

/-- ROUTE_LOST with its reason (15 R320, R330). -/
def State.answerLost (s : State) (src : DapSource) (r : DapReq) (reason : Nat) : State :=
  (s.bumpSat Dict.routeLosts).answer src r 5 reason 0 [] 0

/-- BUSY with its retry-after (15 R329, 14 R310). -/
def State.answerBusy (s : State) (src : DapSource) (r : DapReq) (retry : Nat) : State :=
  s.answer src r 1 0 0 [] retry

/-! ### The management port (15 R317, R331) -/

/-- Pushes that waited enter their 256 KB queue as they fit. -/
def refill : Nat → Dap → Dap
  | 0, d => d
  | n + 1, d =>
    match d.waitingPushes with
    | [] => d
    | f :: t =>
      if pushQueued d.alarmPushes + f.bytes.length ≤ 262144 then
        refill n { d with alarmPushes := d.alarmPushes ++ [f], waitingPushes := t }
      else d

/-- The datagram that leaves next: responses, then ALARM and SHARD pushes, then sheets (15 R331). -/
def Dap.nextOut (d : Dap) : Option (MgmtFrame × Dap) :=
  match d.responses with
  | f :: t => some (f, { d with responses := t })
  | [] => match d.alarmPushes with
    | f :: t => some (f, refill d.waitingPushes.length { d with alarmPushes := t })
    | [] => match d.sheetPushes with
      | f :: t => some (f, { d with sheetPushes := t })
      | [] => none

/-- The link-local address formed from a MAC address by the modified EUI-64 of RFC 4291. -/
def linkLocal (mac : Bytes) : Bytes :=
  [0xFE, 0x80, 0, 0, 0, 0, 0, 0] ++ (mac.take 1).map (· ^^^ 2) ++ (mac.drop 1).take 2 ++ [0xFF, 0xFE] ++ mac.drop 3

/-- An IPv6 address as one number, its first byte on top. -/
def addrNat (a : Bytes) : Nat := ofLe a.reverse

/-- A destination is on the port's own link: a link-local one, or one under MGMT_ADDR's prefix. -/
def Dap.onLink (d : Dap) (a : Bytes) : Bool :=
  addrNat a / 2 ^ 118 == 0x3FA || (!d.addr.all (· == 0) && addrNat a / 2 ^ (128 - d.pfx) == addrNat d.addr / 2 ^ (128 - d.pfx))

/-- The router that a datagram for an address goes by: MGMT_GATEWAY is the only one; none for a destination on the link, or while it is
all 0 (15 R317; log entry 13). -/
def Dap.router (d : Dap) (a : Bytes) : Option Bytes :=
  if d.onLink a || d.gateway.all (· == 0) then none else some d.gateway

/-- Datagrams leave at 1 Gb/s (log entry 13) from `start` until local time has been used up. -/
def State.drainMgmt : Nat → Nat → State → State
  | 0, _, s => s
  | n + 1, start, s =>
    if s.dap.mac.all (· == 0) then s
    else if s.time.now < max start s.dap.busyUntil then s
    else match s.dap.nextOut with
      | none => s
      | some (f, d) =>
        let ring := match f.own with
          | none => s.recd.ring
          | some k => s.recd.ring.map (fun e => if e.event.classF && e.num == k then { e with gone := true } else e)
        let until_ := max start s.dap.busyUntil + f.wire * 8 * nsUnits
        let s1 := { s with dap := { d with busyUntil := until_ }, recd := { s.recd with ring := ring } }
        State.drainMgmt n start ((s1.responseLeft f.bytes until_).emit (.datagram f.addr f.port (s.dap.router (leBytes 16 f.addr)) f.bytes))

/-- Datagrams queued. -/
def Dap.queuedOut (d : Dap) : Nat :=
  d.responses.length + d.alarmPushes.length + d.waitingPushes.length + d.sheetPushes.length

end Sys2Proof.Machine
end

