-- ==== Sys2Proof/Machine/Clock.lean ====
section
/-! DEFINITION. The passing of time, idleness, power and reset guards, shutter schedules, time-island records
(02 R32, R39 to R48, 19 R389 to R392). -/

namespace Sys2Proof.Machine

open Sys2Proof

/-! ### Who runs (19 R389 to R397) -/

/-- The core island is ACTIVE, and no block- or chip-scope reset is in progress. -/
def State.coreActive (s : State) : Bool := s.rd Dict.powerState == 0 && s.rst.busy.isNone

/-- The core island takes what comes to it: it is ACTIVE, and no entry to another power state is under way, during which what
arrives is held (Table 19-2). -/
def State.coreOn (s : State) : Bool := s.coreActive && s.pw.entering.isNone

/-- A chip-scope reset is in progress. -/
def State.inChipReset (s : State) : Bool := match s.rst.busy with
  | some (2, _) => true
  | _ => false

/-- A block- or chip-scope reset is in progress. -/
def State.inReset (s : State) : Bool := s.rst.busy.isSome

/-- A reset of any scope is in progress (Table 19-5). -/
def State.anyReset (s : State) : Bool := s.inReset || s.rst.keeper.isSome || !s.rst.islands.isEmpty

/-- The keeper serves its duties (19 R388, R398, R403, R406): it is RUNNING, VERIFYING or PERSISTING and not in reset. -/
def State.keeperOn (s : State) : Bool :=
  s.coreOn && s.kp.running && s.rst.keeper.isNone && [1, 2, 3].contains (s.rd Dict.keeperState)

/-! ### Idleness (19 R389) -/

/-- The level conditions of idleness; arrivals restart the timers by `touch`. -/
def State.levelIdle (s : State) : Bool :=
  s.rd Dict.shutterMode 0 == 0 &&
  s.sch.groups.all (fun g => g.2.q.all (fun e => e.2.isEmpty) && g.2.held.all (fun e => e.2.isEmpty)) && s.sch.alarms.isEmpty &&
  s.dev.slots.all (fun e => e.2.queue.isEmpty && e.2.load.isNone) &&
  s.tr.lines.isEmpty && s.tr.sources.all (fun e => e.2.line.isEmpty && e.2.unit.lines.isEmpty) &&
  s.mb.h2b.isEmpty && s.mb.claims.isEmpty && s.mb.b2h.isEmpty && s.mb.waiting.isEmpty &&
  s.dap.reads.isEmpty && s.dap.writes.isEmpty && s.dap.actions.isEmpty && s.dap.held.isEmpty &&
  s.prc.all (fun e => s.rd Dict.prcStatus e.1 != 1) && s.neg.state == .idle &&
  s.ev.tags.isEmpty && s.ev.shards.isEmpty && s.ev.bracket.isEmpty && s.ev.tests.isEmpty

/-- An arrival that ends idleness: both idle timers restart. -/
def State.touch (s : State) : State := { s with pw := { s.pw with idleSince := s.time.now } }

/-! ### Wake sources (19 R390 to R394) -/

/-- A wake source arrives (Table 19-2): held while entry is under way, and of no effect while the core is ACTIVE or already
waking. -/
def State.wake (s : State) (source detail cls : Nat) : State :=
  let w : WakeSource := { source := source, detail := detail, cls := cls, t32 := s.t32 }
  if s.pw.entering.isSome then
    (if s.pw.heldWake.isNone then { s with pw := { s.pw with heldWake := some w } } else s)
  else if s.rd Dict.powerState == 0 || s.pw.waking.isSome then s
  else { s with pw := { s.pw with waking := some w, wakeFrom := s.rd Dict.powerState, steps := [], stepSince := s.time.now } }

/-- A record of the time or link island: written at once while the core runs, held in order until the wake otherwise
(19 R392); a class F one, or the 48th held, wakes the core. -/
def State.raiseIsland (s : State) (classF alarm : Bool) (typ payload time frame : Nat) : State :=
  if s.coreActive then s.raiseAt classF alarm typ payload time frame
  else
    let s1 := { s with time := { s.time with held := s.time.held ++
      [{ classF := classF, alarm := alarm, typ := typ, payload := payload, time := time, frame := frame }] } }
    if classF || decide (48 ≤ s1.time.held.length) then s1.wake 8 0 0 else s1

/-- A record of the time or link island now. -/
def State.raiseIslandNow (s : State) (classF alarm : Bool) (typ payload : Nat) : State :=
  s.raiseIsland classF alarm typ payload s.t32 s.frameNow

/-! ### Shutter schedules (02 R41 to R47) -/

/-- A shutter channel. -/
def State.chan (s : State) (c : Nat) : ShutterChannel := Tbl.getD s.shutter c {}

/-- A shutter channel takes a value. -/
def State.setChan (s : State) (c : Nat) (ch : ShutterChannel) : State := { s with shutter := Tbl.set s.shutter c ch }

/-- The schedule in force: T in ns, P, B (Table 02-5). -/
def State.schedule (s : State) (c : Nat) : Schedule :=
  { t := nsOfTime80 (s.rd Dict.shutterStart c), p := s.rd Dict.shutterPeriod c, b := s.rd Dict.shutterBase c }

/-- Due time of slot k in ns (02 R41). -/
def Schedule.due (sc : Schedule) (k : Nat) : Nat := sc.t + k * sc.p

/-- The channel has a slot k: a one-shot channel has slot 0 only; a channel that is off has none. -/
def State.hasSlot (s : State) (c k : Nat) : Bool :=
  match s.rd Dict.shutterMode c with
  | 1 => k == 0
  | 2 => true
  | _ => false

/-- A period that 02 R42 permits on channel c in its mode. -/
def State.periodOk (s : State) (c p : Nat) : Bool :=
  if c = 0 then decide (2000 ≤ p) && decide (p ≤ 1000000000) && decide (p % 1000 = 0)
  else if c = 1 || s.rd Dict.shutterMode c != 2 then true
  else decide (100 ≤ p)

/-- The schedule that slot `next` fires under, once the waiting one has come into force: a waiting schedule does so at its T,
when every slot of the old one due before T has been dealt with (02 R44). A period that 02 R42 does not permit in the channel's mode
is an open value (00 R7, log entry 27). -/
def State.adoptOne (s : State) (c : Nat) : State :=
  let ch := s.chan c
  match ch.waiting with
  | none => s
  | some w =>
    let old := s.schedule c
    if w.t * nsUnits ≤ s.time.now && (!s.hasSlot c ch.next || decide (w.t ≤ old.due ch.next)) then
      let p := if s.periodOk c w.p then (w.p, s) else (s.freeVal, s.drawn)
      (((p.2.setChan c { ch with next := 0, waiting := none }).wr Dict.shutterStart (time80OfNs w.t) c).wr Dict.shutterPeriod
        p.1 c).wr Dict.shutterBase w.b c
    else s

/-- Schedules whose T has come are in force. -/
def State.adoptSchedules (s : State) : State := (List.range 8).foldl State.adoptOne s

/-- Number k of the first slot due at or after an instant (2^-16 ns) under a schedule; slot 0 where P is 0. -/
def Schedule.slotFrom (sc : Schedule) (at_ : Nat) : Nat :=
  if at_ ≤ sc.t * nsUnits then 0
  else if sc.p = 0 then 1
  else ceilDiv (at_ - sc.t * nsUnits) (sc.p * nsUnits)

/-- Slots of the schedule in force that are due before an instant are skipped (02 R46): the first skipped number and how many. -/
def State.skipBefore (s : State) (c limit : Nat) : State × Option (Nat × Nat) :=
  let ch := s.chan c
  if !s.hasSlot c ch.next then (s, none)
  else
    let sc := s.schedule c
    let k := if s.rd Dict.shutterMode c = 1 then (if sc.t * nsUnits < limit then 1 else 0) else sc.slotFrom limit
    if k ≤ ch.next then (s, none)
    else ((s.setChan c { ch with next := k }).bumpSat Dict.shutterMissed c 0 (k - ch.next),
          some ((sc.b + ch.next) % 2 ^ 32, k - ch.next))

/-- A channel after a forward step of local time: the skipped slots of the schedule in force, and of one that came into
force within the step, are counted and reported in one record (02 R46). -/
def State.skipChannel (s : State) (c : Nat) : State :=
  let limit := s.time.now
  let cut := match (s.chan c).waiting with
    | some w => min limit (w.t * nsUnits)
    | none => limit
  let r1 := s.skipBefore c cut
  let s2 := r1.1.adoptOne c
  let r2 := s2.skipBefore c limit
  let rep := match r1.2, r2.2 with
    | some (f, n), some (_, m) => some (f, n + m)
    | some x, none => some x
    | none, x => x
  match rep with
  | none => r2.1
  | some (f, n) => r2.1.raiseIslandNow true false recShutterMissed (packBits [(8, c), (32, f), (32, n), (56, 0)])

/-- Local time steps to a new value (02 R32, R39, R46, R47); every trace source owes a SYNC (11 R240). -/
def State.stepTime (s : State) (new : Nat) : State :=
  let fwd := decide (s.time.now < new)
  let s1 := { s with
    time := { s.time with now := new, anchorNext := ceilDiv new secUnits }
    tr := { s.tr with sources := s.tr.sources.map (fun e => (e.1, { e.2 with syncDue := true })) } }
  if fwd then (List.range 8).foldl State.skipChannel s1 else s1

/-- Slot number of a frame under a schedule, counted from the slot `near` (02 R41, 06 R121): negative for a frame before slot 0. -/
def Schedule.slotOf (sc : Schedule) (near frame : Nat) : Int := near + toSigned 32 (frame + 2 ^ 32 - (sc.b + near) % 2 ^ 32)

/-- Programmed time in ns of a frame under a schedule, whatever the channel's MODE (02 R41, R44); 0 for a frame before slot 0. -/
def Schedule.frameAt (sc : Schedule) (near frame : Nat) : Nat :=
  let k := sc.slotOf near frame
  if k < 0 then 0 else sc.due k.toNat

/-- Programmed time in ns of channel 0 slot `frame` (02 R41): under the schedule in force, or under the waiting one from its T on. -/
def State.frameDue (s : State) (frame : Nat) : Nat :=
  let ch := s.chan 0
  let t := (s.schedule 0).frameAt ch.next frame
  match ch.waiting with
  | some w => if t < w.t then t else w.frameAt 0 frame
  | none => t

/-- Does a write now come less than 100 us before the programmed time of a frame (06 R120, 07 R130)? -/
def State.tooLate (s : State) (frame : Nat) : Bool := decide (s.frameDue frame * nsUnits < s.time.now + 100000 * nsUnits)

/-! ### The host-to-block side of the mailbox (18 R379 to R382) -/

/-- The mailbox takes a value. -/
def State.setMb (s : State) (m : Mailbox) : State := { s with mb := m }

/-- A doorbell: d host to block, 32 + d block to host. -/
def State.bell (s : State) (k : Nat) : Bell := Tbl.getD s.mb.bells k {}

/-- A doorbell takes a value. -/
def State.setBell (s : State) (k : Nat) (b : Bell) : State := s.setMb { s.mb with bells := Tbl.set s.mb.bells k b }

/-- A doorbell goes LATE (Table 18-7). -/
def State.bellLate (s : State) (e : Nat × Bell) : State :=
  let s1 := ((s.setBell e.1 { e.2 with state := .late }).bumpSat Dict.mbTimeouts).raiseO recMbTimeout
    (packBits [(1, bit (decide (32 ≤ e.1))), (5, e.1 % 32), (8, e.2.kind), (114, 0)])
  if e.1 < 32 then s1.setIrq irqH2bTimeout else s1

/-- The block acknowledges a message: its doorbell is IDLE, the acknowledge word is stored and H2B_ACKED set; a message whose MB_TIMEOUT
passed before that was LATE. -/
def State.acknowledge (s : State) (c : H2bClaim) : State :=
  let b := s.bell c.door
  let s1 := if b.state == .rung && decide (b.since + s.rd Dict.mbTimeout * nsUnits < c.ackAt) then s.bellLate (c.door, b) else s
  (((s1.setMb { s1.mb with h2bAck := c.word }).wr Dict.mbLastAck c.word).setBell c.door {}).setIrq irqH2bAcked

/-- Messages that the block has read by now leave the queue, and those that it has acknowledged leave their doorbells. -/
def State.serveClaims (s : State) : State :=
  if s.mb.claims.isEmpty then s
  else
    let read (c : H2bClaim) : Bool := decide (c.readAt ≤ s.time.now)
    let done (c : H2bClaim) : Bool := decide (c.ackAt ≤ s.time.now)
    let gone := ((s.mb.claims.filter read).map (·.words)).sum
    let rest := (s.mb.claims.filter (fun c => !done c)).map (fun c => if read c then { c with words := 0 } else c)
    (s.mb.claims.filter done).foldl State.acknowledge (s.setMb { s.mb with h2b := s.mb.h2b.drop gone, claims := rest })

/-! ### Time passes -/

/-- Local time after `dt` ns of the reference clock (02 R32): the servo's frequency correction is within 100 ppm. -/
def advanceTime (now dt : Nat) (freq : Int) : Nat :=
  now + (((dt * nsUnits : Nat) : Int) * (1000000000000 + freq) / 1000000000000).toNat

/-- `dt` ns pass before a command (log entry 1): local time, the idle timers, H of the bound, the management port, the mailbox, schedules
whose T has come. -/
def State.elapse (s : State) (dt : Nat) : State :=
  let start := s.time.now
  let now := advanceTime start dt s.time.freq
  let h := if s.rd Dict.jobState = 2 then s.ev.runningNs + (now / nsUnits - start / nsUnits) else s.ev.runningNs
  let s1 := { s with time := { s.time with now := now, run := s.time.run + (now - start) }, ev := { s.ev with runningNs := h }
                     pw := { s.pw with idleSince := if s.levelIdle then s.pw.idleSince else now } }
  (State.drainMgmt s1.dap.queuedOut start s1).serveClaims.adoptSchedules

/-- What no command's effect reaches is as it was in `s`: the queue, which `step` alone serves, the build (00 R1), and the role
in force, which changes only as a chip-scope reset ends (00 R3, 16 R336). -/
def State.within (t s : State) : State := { t with pending := s.pending, build := s.build, role := s.role }

/-- Time passes, then something acts. -/
def State.after (s : State) (dt : Nat) (f : State → State) : State := (f (s.elapse dt)).within s

/-- Time passes, then a core function acts if the core runs; else the command finds nobody to take it and nothing but time
changes (log entry 10). -/
def State.core (s : State) (dt : Nat) (f : State → State) : State := s.after dt (fun s => if s.coreOn then f s else s)

/-! ### Commands that find the core away (18 R367, R370, 19 R391, R407) -/

/-- A datagram of the management port. -/
def ofMgmt : Instr → Bool
  | .objectWrite _ (.dap (.mgmt _ _) _ _) | .dapRead _ (.mgmt _ _) _ _ | .dapAbort _ (.mgmt _ _) _ _ => true
  | .neighborSolicitation _ _ _ _ | .echoRequest _ _ _ _ _ => true
  | _ => false

/-- A command of the host of Uhlyr-D on its register port, which a port that is not ready leaves with the host. -/
def ofHost : Instr → Bool
  | .objectWrite _ (.dap .mailbox _ _) | .dapRead _ .mailbox _ _ | .dapAbort _ .mailbox _ _ | .objectWrite _ (.register _ _)
  | .objectWrite _ (.readRegister _) => true
  | .h2bData _ _ | .h2bRing _ _ | .b2hData _ | .b2hAck _ _ | .irqStatusWrite _ _ | .teardownDone _ _ | .testDone _ _ _ _ => true
  | _ => false

/-- A command is held, with no time of its own, until the core takes it. -/
def State.park (s : State) (i : Instr) : State := { s with parked := s.parked ++ [i] }

/-- Datagrams held at the management port. -/
def State.mgmtHeld (s : State) : Nat := (s.parked.filter ofMgmt).length

/-- The host offers something: while the core does not run, or a reset is in progress, it waits outside the port; a sleeping core is
woken. -/
def State.fromHost (s : State) (dt source : Nat) (i : Instr) (f : State → State) : State :=
  s.after dt (fun s => if s.coreOn then f s else if s.inReset then s.park i else (s.park i).wake source 0 0)

/-- A message whose DATA frames have arrived on lane p, of class `cls`: the link island holds it for a sleeping core; a reset has
squelched the lane. -/
def State.fromLane (s : State) (dt p cls : Nat) (i : Instr) (f : State → State) : State :=
  s.after dt (fun s => if s.coreOn then f s else if s.inReset || !s.laneUp p then s else (s.park i).wake 1 p cls)

/-- A datagram arrives at the management port, which holds 16 for a sleeping core; one that fails a check, and a seventeenth, are
discarded and counted. -/
def State.fromMgmt (s : State) (dt : Nat) (bad : Bool) (i : Instr) (f : State → State) : State :=
  s.after dt (fun s =>
    if s.coreOn then f s
    else if s.inReset || !s.isTrayChip then s
    else if bad || decide (16 ≤ s.mgmtHeld) then s.bumpSat Dict.mgmtDiscards
    else (s.park i).wake 2 0 0)

/-- A DAP request comes from its source. -/
def State.fromSource (s : State) (dt : Nat) (src : DapSource) (bad : Bool) (i : Instr) (f : State → State) : State :=
  match src with
  | .mailbox => s.fromHost dt 3 i f
  | .lane p => s.fromLane dt p 2 i f
  | .mgmt _ _ => s.fromMgmt dt bad i f

/-- The READ of an object. -/
def Requester.read (rq : Requester) (o : Ob) (m : Nat) : DapReq :=
  { op := 1, reqId := rq.reqId, idx := o.idx + m, sub := o.sub, tlevel := 7 }

/-- The write of an object as the requester sent it: what its response copies. -/
def Requester.write (rq : Requester) (o : Ob) (m : Nat) : DapReq :=
  { op := 2, reqId := rq.reqId, idx := o.idx + m, sub := o.sub, tlevel := 7 }

/-- The write of a value that is a number; the value of a command has up to 8 bytes (15 R323). -/
def Requester.put (rq : Requester) (o : Ob) (m v : Nat) : DapReq :=
  let n := if o.ty == .cmd then 8 else o.ty.bytes
  { rq.write o m with data := leBytes n v, total := n }

/-- A request for an object of this instance reaches it: `f` serves it, at once or after the wake. -/
def State.asked (s : State) (dt : Nat) (rq : Requester) (r : DapReq) (f : State → State) : State :=
  let via : Datagram := { dest := linkLocal s.dap.mac, port := s.dap.udpPort }
  s.fromSource dt rq.src false (if r.op = 1 then .dapRead 0 rq.src r via else .objectWrite 0 (.dap rq.src r via)) f

/-- Time passes, then a function of the time or link island acts, unless a chip-scope reset is in progress. -/
def State.island (s : State) (dt : Nat) (f : State → State) : State := s.after dt (fun s => if s.inChipReset then s else f s)

end Sys2Proof.Machine
end

