-- ==== Sys2Proof/Machine/Target.lean ====
section
/-! DEFINITION. What a DAP target tests before it serves, and the shape of every command object's write (15 R322, R323,
R328, 19 R403, R407). -/

namespace Sys2Proof.Machine

open Sys2Proof

/-- The boot set (19 R403). -/
def inBootSet (idx sub : Nat) : Bool :=
  sub == 0 && ((0x1000 ≤ idx && idx ≤ 0x1006) || idx == 0x1010 || (0x1020 ≤ idx && idx ≤ 0x1026) ||
    idx == 0x2C11 || idx == 0x2C18 || idx == 0x2C19 || (0x2C20 ≤ idx && idx ≤ 0x2C22))

/-- Does index.subindex exist in this build and role (16 R336, R337)? -/
def State.objectExists (s : State) (idx sub : Nat) : Bool :=
  (Dict.find? s.build s.role idx sub).isSome ||
    (sub == 0 && Dict.hasSub0 idx && (Dict.highestSub? s.build s.role idx).isSome)

/-- The keeper does not serve: it is being reset or restarts (19 R407). -/
def State.keeperDown (s : State) : Bool := s.rst.keeper.isSome || s.rd Dict.keeperState == 5

/-- TARGET_RESET, UPDATING or NO_OBJECT at the target, in the order of Table 15-4; 0 where none of them holds. -/
def State.targetStatus (s : State) (idx sub : Nat) : Nat :=
  if s.keeperDown || (!s.kp.running && !inBootSet idx sub) then 2
  else if s.rd Dict.keeperState == 4 then 4
  else if s.objectExists idx sub then 0
  else 3

/-- A response to the write of an object. -/
def State.answerWrite (s : State) (rq : Requester) (o : Ob) (m status completion : Nat) : State :=
  s.answer rq.src (rq.write o m) status completion 0 [] 0

/-- Requests that a target queues (15 R329). -/
def State.queueCap (s : State) : Nat := if s.isDie then 64 else 1024

/-- Requests still in the target's queue. -/
def State.queuedRequests (s : State) : List Nat := s.dap.queue.filter (fun t => decide (s.time.now < t))

/-- The target's queue is full (15 R329). -/
def State.queueFull (s : State) : Bool := decide (s.queueCap ≤ s.queuedRequests.length)

/-- A request takes its place in the queue; requests are served one at a time, each within 4 us of its turn (15 R322, R333; log entry
30). -/
def State.queueRequest (s : State) : State :=
  let q := s.queuedRequests
  let t := max s.time.now (q.getLastD 0) + Config.serviceTime s.time.now q.length % (4000 * nsUnits + 1)
  { s with dap := { s.dap with queue := q ++ [t] } }

/-- A request reaches its target (15 R328, in the order of Table 15-4): TARGET_RESET and UPDATING have no effect; NO_OBJECT is answered
as such; unless its own rule answers SEGMENT_ABORT, it is BUSY where `busy` says so or the queue is full, with no effect; otherwise the
object's own rule acts. -/
def State.serveAny (src : DapSource) (r : DapReq) (aborts busy : State → Bool) (act : State → State) (s : State) : State :=
  let s0 := s.touch
  match s0.targetStatus r.idx r.sub with
  | 0 =>
    if !aborts s0 && (s0.queueFull || busy s0) then s0.answerBusy src r (s0.rdAt Dict.retryAfter)
    else act (s0.queueRequest.bump Dict.served)
  | 3 => (s0.bump Dict.served).answer src r 3 0 0 [] 0
  | st => s0.answer src r st 0 0 [] 0

/-- A READ, or a WRITE that no session delays, reaches its target. -/
def State.serveRead (src : DapSource) (r : DapReq) (act : State → State) (s : State) : State :=
  s.serveAny src r (fun _ => false) (fun _ => false) act

/-- A write of an object with a rule of its own reaches its target. -/
def State.serveWrite (rq : Requester) (o : Ob) (m : Nat) (act : State → State) (s : State) : State :=
  s.serveRead rq.src (rq.write o m) act

/-- A write of a command object whose action completes within the write (15 R323): the action gives the state and the
completion code, and the response carries STATUS OK and that code. -/
def State.serveCmd (rq : Requester) (o : Ob) (m : Nat) (act : State → State × Nat) (s : State) : State :=
  s.serveWrite rq o m (fun s1 =>
    let r := act s1
    (r.1.setCode o r.2 m).answerWrite rq o m 0 r.2)

/-! ### Command actions that take time (15 R323) -/

/-- The action in progress for a command object. -/
def State.actionOf (s : State) (key : Nat) : Option CmdAction := s.dap.actions.find? (fun a => a.key == key)

/-- An action that takes time begins: the object reads IN_PROGRESS until it completes. -/
def State.beginAction (s : State) (src : DapSource) (reqId : Nat) (o : Ob) (m : Nat) : State :=
  let a : CmdAction := { key := o.key m 0, idx := o.idx + m, sub := o.sub, waiting := some (src, reqId), since := s.time.now }
  { s with dap := { s.dap with actions := s.dap.actions ++ [a] } }.setCode o 0xFF m

/-- The action of a command object is done with a code; CMD_COMPLETE makes the code readable. -/
def State.actionDone (s : State) (o : Ob) (m code : Nat) : State :=
  { s with dap := { s.dap with actions := s.dap.actions.map (fun (a : CmdAction) =>
    if a.key == o.key m 0 then { a with code := some code } else a) } }

/-- A write of a command object whose action takes time: a second write waits for the first (15 R323). -/
def State.serveLong (rq : Requester) (o : Ob) (m value : Nat) (start : State → State) (s : State) : State :=
  s.serveWrite rq o m (fun s1 =>
    if (s1.actionOf (o.key m 0)).isSome then
      { s1 with dap := { s1.dap with held := s1.dap.held ++ [(o.key m 0, value, rq.src, rq.reqId)] } }
    else start (s1.beginAction rq.src rq.reqId o m))

end Sys2Proof.Machine
end

