-- ==== Sys2Proof/Machine/Uplink.lean ====
section
/-! DEFINITION. The commands of the scheduler and of the event recorder (chapters 14 and 17). -/

namespace Sys2Proof.Machine

open Sys2Proof

/-! ### Serving a READ (15 R322, R325, R328) -/

/-- Bytes of payload that a response to this source holds (15 R315, R319). -/
def readCap (src : DapSource) : Nat := if src == .mailbox then 32 else 1024

/-- Local time at which SEG_TIMEOUT will have passed since now (15 R334). -/
def State.segDue (s : State) : Nat := s.time.now + s.rd Dict.segTimeout * nsUnits

/-- A read session is opened for an object: it replaces the object's session, or the oldest one where none is free (15 R325). -/
def State.openRead (s : State) (key : Nat) (data : Bytes) : State :=
  let others := s.dap.reads.filter (fun e => e.key != key)
  let cap := if s.isDie then 2 else 16
  let kept := others.drop (others.length + 1 - cap)
  { s with dap := { s.dap with reads := kept ++ [{ key := key, data := data, due := s.segDue }] } }

/-! ### The scheduler -/

/-- A tray chip that stays in its boot ROM sends no DATA frame but its DAP responses (19 R403). -/
def State.bootTray (s : State) : Bool := s.isTrayChip && !s.kp.running

/-- The DATA decision of a group. -/
def State.decide_ (s : State) (g : Nat) : State :=
  if !s.groupList.contains g then s
  else
    let s1 := s.latch g
    if s1.bootTray then
      (match ((s1.gq g).of 2).head? with
       | some f => if s1.replayRoom g 2048 && s1.eligible g 2 && f.kind == .dapResponse then s1.sendClass g 2 f else s1
       | none => s1)
    else (s1.dataDecision g).releaseCredits

/-- DATA_DECISION (14 R300): the link of group g is free for a DATA frame. -/
def execDataDecision (dt g : Nat) (s : State) : Host.Outcome State Fault Refusal :=
  .next (s.core dt (fun s => s.decide_ g))

/-- The entries of the staged gate list (Table 14-3). -/
def State.stagedGates (s : State) (p : Nat) : List (Nat × Nat) :=
  let b := s.rdBytes Dict.grpGateStage p
  (List.range (s.rd Dict.grpGateStageN p)).map (fun i => (leAt b (8 * i + 7) 1, leAt b (8 * i) 4))

/-- The staged list lies within the limits of 14 R305 and Table 14-10. -/
def State.gatesValid (s : State) (p : Nat) : Bool :=
  let n := s.rd Dict.grpGateStageN p
  decide (1 ≤ n) && decide (n ≤ 64) && decide (200 ≤ s.rd Dict.grpGateCycle p) &&
    decide (8 * n ≤ (s.rdBytes Dict.grpGateStage p).length) && (s.stagedGates p).all (fun e => decide (200 ≤ e.2))

/-- A list that misuse makes unpredictable (00 R7): its cycle and entries are open values. -/
def openGates (free base : Nat) : GateList :=
  { base := base, cycle := Config.freeNat free % 2 ^ 32 + 1
    entries := (List.range 64).map (fun i => (Config.freeNat (free + 1 + 2 * i) % 256, Config.freeNat (free + 2 + 2 * i) % 2 ^ 32)) }

/-- A write of GATE_APPLY reaches its target: the staged list is adopted from its base time on, or completes LATE. At a port
that holds no group's objects a write has no effect (14 R314). -/
def State.serveGateApply (rq : Requester) (p : Nat) (s : State) : State :=
  s.serveWrite rq Dict.grpGateApply p (fun s =>
    if s.groupOf p != p then s.answerWrite rq Dict.grpGateApply p 0 0
    else
      let base := nsOfTime80 (s.rd Dict.grpGateBase p)
      if base * nsUnits < s.time.now + 100000 * nsUnits then
        (s.setCode Dict.grpGateApply 1 p).answerWrite rq Dict.grpGateApply p 0 1
      else
        let r : GateList × State :=
          if s.gatesValid p then ({ base := base, cycle := s.rd Dict.grpGateCycle p, entries := s.stagedGates p }, s)
          else (openGates s.free base, { s with free := s.free + 129 })
        let q := r.2.gq p
        let s1 := r.2.setGq p { q with gates := r.1 :: q.gates.filter (fun l => decide (l.base * nsUnits ≤ s.time.now)) }
        ((s1.refresh p).setCode Dict.grpGateApply 0 p).answerWrite rq Dict.grpGateApply p 0 0)

/-- GATE_APPLY (14 R306). -/
def execGateApply (dt : Nat) (rq : Requester) (p : Nat) (s : State) : Host.Outcome State Fault Refusal :=
  .next (s.asked dt rq (rq.put Dict.grpGateApply p 0) (State.serveGateApply rq p))

/-- GATE_ENTRY_CHANGE (14 R306, R307): a list's base or an entry's time has come, and eligibility follows the gates. -/
def execGateEntryChange (dt g : Nat) (s : State) : Host.Outcome State Fault Refusal :=
  .next (s.core dt (fun s => if !s.groupList.contains g then s else s.refresh g))

/-- CLASS_DROP_FLUSH (14 R312): runs of drops whose first drop is 1 ms old are written. -/
def execClassDropFlush (dt : Nat) (s : State) : Host.Outcome State Fault Refusal :=
  .next (s.core dt (fun s =>
    let due (r : DropRun) : Bool := s.passed r.since 1000000
    (s.sch.runs.filter due).foldl State.writeRun { s with sch := { s.sch with runs := s.sch.runs.filter (fun r => !due r) } }))

/-! ### Alarms and tallies -/

/-- ALARM_RECORD (01 R26, 17 R357): an alarm received from a child on port p is forwarded and taken into the store. -/
def execAlarmRecord (dt p : Nat) (r : EventRec) (s : State) : Host.Outcome State Fault Refusal :=
  .next (s.fromLane dt p 0 (.alarmRecord 0 p r) (fun s =>
    if !s.isDown p || !s.laneUp p then s else ((s.touch).forwardAlarm p r).takeChildRecord p r))

/-- Space has freed in the alarm buffer: alarms that wait outside it enter it, then held ones in the order raised, then tallies are
written into the places that this frees, and credit that was withheld is given back. -/
def State.spaceFreed (s : State) : State :=
  let s1 := s.fitAlarms (s.sch.alarms ++ s.sch.waiting)
  let s2 := State.queueHeld s1.recd.ring.length s1
  (State.writeTallies s2.recd.tallies.length s2).releaseCredits

/-- ALARM_SPACE_FREED (14 R299, 17 R353): held alarms are queued in the order raised, then tallies are written. -/
def execAlarmSpaceFreed (dt : Nat) (s : State) : Host.Outcome State Fault Refusal :=
  .next (s.core dt State.spaceFreed)

/-! ### Mirror (17 R358) -/

/-- Records that wait to be mirrored, in ring order. -/
def State.mirrorQueue (s : State) : List Stored := s.recd.ring.filter (·.toMirror)

/-- The mirror header (Table 17-5). -/
def State.mirrorHeader (s : State) (m : List Stored) : Bytes :=
  let first (f : Bool) : Nat := match m.find? (fun e => e.event.classF == f) with
    | some e => e.num
    | none => s.rd (nextOf f)
  leBytes 16 (packBits [(32, first false), (32, first true), (8, m.length), (56, 0)])

/-- One mirror message of up to 64 records is sent on class 6. -/
def State.sendMirror (s : State) : State :=
  let m := s.mirrorQueue.take 64
  let slots := m.map (·.slot)
  let ring := s.recd.ring.map (fun (e : Stored) => if slots.contains e.slot then { e with toMirror := false, gone := true } else e)
  let body := s.mirrorHeader m ++ (m.map (fun e => e.event.bytes)).flatten
  let s1 := { s with recd := { s.recd with ring := ring, mirrorSince := (s.mirrorQueue.drop 64).head?.map (·.written) } }
  (State.syncMirror s1).offer 6 .mirror body

/-- While MIRROR is true, a mirror message is due: 64 records have gathered, or 1 ms has passed since the first was written. -/
def State.mirrorDue (s : State) : Bool :=
  s.flag Dict.mirror && s.mirrorQueue.head?.any (fun e => decide (64 ≤ s.mirrorQueue.length) || s.passed e.written 1000000)

/-- MIRROR_FLUSH (17 R358): 64 records have gathered, or 1 ms has passed since the first of them was written. -/
def execMirrorFlush (dt : Nat) (s : State) : Host.Outcome State Fault Refusal :=
  .next (s.core dt (fun s => if s.mirrorDue then s.sendMirror else s))

/-- MIRROR_MESSAGE (17 R358): a mirror message that arrives at a TRAY on port p: its records are stored, none is forwarded. -/
def execMirrorMessage (dt p : Nat) (recs : List EventRec) (s : State) : Host.Outcome State Fault Refusal :=
  .next (s.fromLane dt p 6 (.mirrorMessage 0 p recs) (fun s =>
    if !s.isDown p || !s.laneUp p then s else recs.foldl (fun t r => t.takeChildRecord p r) s.touch))

/-! ### Windows and CLEAR (17 R354 to R356) -/

/-- Held records of a class, in number order from the oldest. -/
def State.heldOf (s : State) (f : Bool) : List Stored := s.recd.ring.filter (fun e => e.event.classF == f)

/-- Discards the held records of a class that are not marked unsent; the cursor moves to the next number. -/
def State.clearClass (s : State) (f : Bool) : State :=
  let ring := s.recd.ring.filter (fun e => e.event.classF != f || e.unsent)
  State.syncMirror ({ s with recd := { s.recd with ring := ring } }.wr (if f then Dict.fCursor else Dict.oSelect) (s.rd (nextOf f)))

/-- Tallies are written into the places that a CLEAR has freed (17 R353). -/
def State.fillFreed (s : State) : State := s.writeTallies s.recd.tallies.length

/-- CLEAR of CLEAR_F reaches its target. -/
def State.serveClearF (rq : Requester) (s : State) : State := s.serveCmd rq Dict.recClear 0 (fun s => ((s.clearClass true).fillFreed, 0))

/-- CLEAR_F (17 R356). -/
def execClearF (dt : Nat) (rq : Requester) (s : State) : Host.Outcome State Fault Refusal :=
  .next (s.asked dt rq (rq.put Dict.recClear 0 0) (State.serveClearF rq))

/-- CLEAR of CLEAR_O reaches its target. -/
def State.serveClearO (rq : Requester) (s : State) : State := s.serveCmd rq Dict.recClear 0 (fun s => ((s.clearClass false).fillFreed, 0))

/-- CLEAR_O (17 R356). -/
def execClearO (dt : Nat) (rq : Requester) (s : State) : Host.Outcome State Fault Refusal :=
  .next (s.asked dt rq (rq.put Dict.recClear 0 1) (State.serveClearO rq))

/-- CLEAR of CLEAR_BOTH reaches its target. -/
def State.serveClearBoth (rq : Requester) (s : State) : State := s.serveCmd rq Dict.recClear 0 (fun s => (((s.clearClass true).clearClass false).fillFreed, 0))

/-- CLEAR_BOTH (17 R356). -/
def execClearBoth (dt : Nat) (rq : Requester) (s : State) : Host.Outcome State Fault Refusal :=
  .next (s.asked dt rq (rq.put Dict.recClear 0 2) (State.serveClearBoth rq))

/-- The window of a class that starts at a cursor: the cursor once it has left a record no longer held, and the records. -/
def State.windowFrom (s : State) (f : Bool) (cursor : Nat) : Nat × List Stored :=
  let held := s.heldOf f
  if held.any (fun e => e.num == cursor) then (cursor, held.filter (fun e => frameGe e.num cursor))
  else if frameGe cursor (s.rd (nextOf f)) then (cursor, [])
  else match held.head? with
    | none => (cursor, [])
    | some e => (e.num, held.filter (fun x => frameGe x.num e.num))

/-- The READ of a window: records in number order, as many as the response holds, at most 32. -/
def State.readWindow (s : State) (src : DapSource) (r : DapReq) (f : Bool) : State :=
  let ob := if f then Dict.fCursor else Dict.oSelect
  let w := s.windowFrom f (s.rd ob)
  let out := w.2.take (readCap src / 32)
  let next := if f then (match out.getLast? with
      | some e => (e.num + 1) % 2 ^ 32
      | none => w.1) else w.1
  let bytes := (out.map (fun e => e.event.bytes)).flatten
  (s.wr ob next).answer src r 0 0 bytes.length bytes 0

/-- A READ of a window reaches its target. -/
def State.serveWindow (rq : Requester) (f : Bool) (s : State) : State :=
  let r := rq.read (if f then Dict.fWindow else Dict.oWindow) 0
  s.serveRead rq.src r (fun s => s.readWindow rq.src r f)

/-- F_WINDOW (17 R354): a READ of F_WINDOW advances F_CURSOR past the records returned. -/
def execFWindow (dt : Nat) (rq : Requester) (s : State) : Host.Outcome State Fault Refusal :=
  .next (s.asked dt rq (rq.read Dict.fWindow 0) (State.serveWindow rq true))

/-- O_WINDOW (17 R355): a READ of O_WINDOW moves O_SELECT only where it names a record no longer held. -/
def execOWindow (dt : Nat) (rq : Requester) (s : State) : Host.Outcome State Fault Refusal :=
  .next (s.asked dt rq (rq.read Dict.oWindow 0) (State.serveWindow rq false))

end Sys2Proof.Machine
end

