-- ==== Sys2Proof/Machine/Session.lean ====
section
/-! DEFINITION. Writes that come in segments (15 R326, R327). -/

namespace Sys2Proof.Machine

open Sys2Proof

/-- What becomes of one WRITE of an object (15 R326): answered SEGMENT_ABORT; or taken as the first, a middle or the last segment, with
the bytes of the value so far. `ended` says that it ended a session by SEGMENT_ABORT. -/
inductive SegAnswer where
  | abort (ended : Bool)
  | taken (ended first last : Bool) (whole : Bytes)

/-- The write session of an object ends. -/
def State.dropWrite (s : State) (key : Nat) : State :=
  { s with dap := { s.dap with writes := s.dap.writes.filter (fun w => w.key != key) } }

/-- Write sessions that the build holds (15 R326). -/
def State.writeCap (s : State) : Nat := if s.isDie then 4 else 64

/-- A WRITE of OFFSET 0 that wants a session of its own finds none free (15 R326). -/
def State.segBusy (s : State) (key offset total len : Nat) : Bool :=
  offset == 0 && decide (len < total) && decide (s.writeCap ≤ (s.dap.writes.filter (fun w => w.key != key)).length)

/-- A later segment that finds no session, or not the one that it continues, is answered SEGMENT_ABORT (15 R326). -/
def State.segAborts (s : State) (key offset total : Nat) : Bool :=
  offset != 0 && match s.dap.writes.find? (fun w => w.key == key) with
  | none => true
  | some w => total != w.total || offset != w.taken

/-- A WRITE that is not BUSY at an object's session (15 R326, R333): a plain WRITE leaves a session alone. -/
def State.segment (s : State) (rq : Requester) (key offset total : Nat) (data : Bytes) : SegAnswer × State :=
  let cur := s.dap.writes.find? (fun w => w.key == key)
  let others := s.dap.writes.filter (fun w => w.key != key)
  if offset = 0 then
    if total ≤ data.length then (.taken false true true data, s)
    else
      let w : WriteSession := { key := key, total := total, data := data, taken := data.length, due := s.segDue, source := rq.src, reqId := rq.reqId }
      (.taken cur.isSome true false data, { s with dap := { s.dap with writes := others ++ [w] } })
  else match cur with
    | none => (.abort false, s)
    | some w =>
      if total ≠ w.total ∨ offset ≠ w.taken then (.abort true, s.dropWrite key)
      else
        let whole := w.data ++ data
        if w.total ≤ w.taken + data.length then (.taken false false true (whole.take w.total), s.dropWrite key)
        else
          let w1 := { w with data := whole, taken := w.taken + data.length, due := s.segDue }
          (.taken false false false whole, { s with dap := { s.dap with writes := others ++ [w1] } })

/-- A WRITE that may be a segment reaches its target: `ended` acts where it ends a session by SEGMENT_ABORT, `take` where it
is accepted (first, last, bytes so far). -/
def State.serveSegment (rq : Requester) (o : Ob) (m offset total : Nat) (data : Bytes) (ended : State → State)
    (take : Bool → Bool → Bytes → State → State) (s : State) : State :=
  let r := { rq.write o m with offset := offset }
  s.serveAny rq.src r (fun t => t.segAborts (o.key m 0) offset total) (fun t => t.segBusy (o.key m 0) offset total data.length) (fun s1 =>
    match s1.segment rq (o.key m 0) offset total data with
    | (.abort e, s2) => (if e then ended s2 else s2).answer rq.src r 6 0 0 [] 0
    | (.taken e first last whole, s2) => (take first last whole (if e then ended s2 else s2)).answer rq.src r 0 0 0 [] 0)

end Sys2Proof.Machine
end

