-- ==== Sys2Proof/Machine/Developer.lean ====
section
/-! DEFINITION. The developer and model images (chapters 05 and 06). -/

namespace Sys2Proof.Machine

open Sys2Proof

/-! ### Slots -/

/-- Model slots of the build (Table 05-1). -/
def State.slotCount (s : State) : Nat := if s.isDie then 4 else 16

/-- A slot. -/
def State.dslot (s : State) (k : Nat) : DevSlot := Tbl.getD s.dev.slots k {}

/-- A slot takes a value. -/
def State.setDslot (s : State) (k : Nat) (d : DevSlot) : State := { s with dev := { s.dev with slots := Tbl.set s.dev.slots k d } }

/-- STATE of a slot: 0 EMPTY, 1 LOADING, 2 READY, 3 ACTIVE, 4 STREAMED. -/
def State.slotSt (s : State) (k : Nat) : Nat := s.rd Dict.slotState k

/-- Vectors now queued in a slot: those that met a full queue are not among them (05 R109), nor those that a batch has taken (06 R126). -/
def DevSlot.queued (d : DevSlot) : Nat := ((d.queue.drop d.batch).filter (fun v => !v.full)).length

/-- QUEUE_DEPTH in force (05 R109, R112). -/
def State.depthOf (s : State) (k : Nat) : Nat := (s.dslot k).depth.getD (Dict.slotQueueDepth.init s.build s.role k)

/-- QUEUED follows the queue, and a kept QUEUE_DEPTH takes effect while the queue holds no vector (05 R112). -/
def State.syncQueue (s : State) (k : Nat) : State :=
  let d := s.dslot k
  let s1 := s.wr Dict.slotQueued d.queued k
  if d.queued = 0 then s1.setDslot k { d with depth := some (s.rd Dict.slotQueueDepth k) } else s1

/-- A SLOT_EVENT entry (Table 20-2): 0 switch, 1 retire, 2 unload, 3 configuration, 4 phase. -/
def State.slotEvent (s : State) (k event pred frame : Nat) (digest : Bytes) : State :=
  let die := if s.isDie then s.rd Dict.dieId else 0xFFFFFFFF
  s.ownEntry jnSlotEvent frame (leBytes 4 frame ++ leBytes 1 k ++ leBytes 1 event ++ leBytes 1 pred ++
    leBytes 1 (if s.isDie then 0 else s.rd Dict.devPhase) ++ leBytes 4 (s.rd Dict.slotModelId k) ++
    leBytes 1 (s.rd Dict.slotVkind k) ++ zeros 1 ++ leBytes 2 (s.rd Dict.slotGenMask k) ++ leBytes 2 (s.rd Dict.slotPipeFirst k) ++
    leBytes 2 (s.rd Dict.slotPipeCount k) ++ leBytes 4 die ++ fitBytes 48 digest)

/-- The digest of the image in a slot. -/
def DevSlot.digest (d : DevSlot) : Bytes := match d.image with
  | some i => i.digest
  | none => []

/-- A slot goes to EMPTY: its nodes are freed and the objects that describe the image read 0 (06 R119, 05 R112). -/
def State.slotEmpty (s : State) (k : Nat) : State :=
  let d := s.dslot k
  let used := match d.image with
    | some i => if i.base.isNone then i.nodes else 0
    | none => 0
  let s1 := (s.wr Dict.nodesUsed (s.rd Dict.nodesUsed - used)).wr Dict.slotState 0 k
  let s2 := (((((s1.wr Dict.slotLink 0 k).wr Dict.slotTrees 0 k).wr Dict.slotDepth 0 k).wr Dict.slotNodes 0 k).wr Dict.slotModelId
    0 k).wr Dict.slotResident 0 k
  s2.setDslot k { d with image := none, load := none, swap := none, began := false, successor := none, retired := none, unloading := false }

/-! ### Switches (06 R120, R121) -/

/-- Is the ACTIVATE of a slot not yet done with (Table 06-5, SWAP_PENDING)? -/
def State.swapOpen (s : State) (k : Nat) : Bool :=
  let d := s.dslot k
  match d.swap with
  | none => false
  | some (_, none) => !d.began
  | some (_, some q) => !d.began || (match (s.dslot q).successor with
    | some (_, b) => b == k
    | none => false)

/-- Is a slot named by an ACTIVATE that is not yet done with? -/
def State.scheduled (s : State) (k : Nat) : Bool :=
  s.swapOpen k || (List.range s.slotCount).any (fun a => s.swapOpen a && (match (s.dslot a).swap with
    | some (_, some q) => q == k
    | _ => false))

/-- A slot reaches its switch frame: it takes its predecessor's configuration and begins (06 R121). -/
def State.switchSlot (s : State) (k : Nat) : State :=
  let d := s.dslot k
  match d.swap with
  | none => s
  | some (f, pred) =>
    let s1 := match pred with
      | none => s
      | some q =>
        let c := (((s.wr Dict.slotVkind (s.rd Dict.slotVkind q) k).wr Dict.slotGenMask (s.rd Dict.slotGenMask q) k).wr Dict.slotPipeFirst
          (s.rd Dict.slotPipeFirst q) k).wr Dict.slotPipeCount (s.rd Dict.slotPipeCount q) k
        if s.slotSt q = 3 ∨ s.slotSt q = 4 then c.setDslot q { c.dslot q with successor := some (f, k) } else c
    let s2 := (s1.setDslot k { d with began := true, retired := none }).wr Dict.slotState (if s.flag Dict.slotResident k then 3 else 4) k
    s2.slotEvent k 0 (pred.getD 0xFF) f d.digest

/-- Switch frames up to a frame are reached. -/
def State.reachFrame (s : State) (frame : Nat) : State :=
  (List.range s.slotCount).foldl (fun t k =>
    match (t.dslot k).swap with
    | some (f, _) => if t.slotSt k == 2 && !(t.dslot k).began && frameGe frame f then t.switchSlot k else t
    | none => t) s

/-! ### Entry (05 R104, R107 to R109, 06 R121, R122, R125) -/

/-- Does a vector's frame lie where a slot admits frames: not before its own switch, and before its successor's? -/
def DevSlot.frameIn (d : DevSlot) (frame : Nat) : Bool :=
  (match d.swap with
   | some (f, _) => !d.began || frameGe frame f
   | none => true) &&
  (match d.successor with
   | some (f, _) => !(frameGe frame f)
   | none => true)

/-- Does a vector's kind and generation match a slot's configuration? -/
def State.matches_ (s : State) (k kind gen : Nat) : Bool :=
  s.rd Dict.slotVkind k == kind && (s.rd Dict.slotGenMask k).testBit gen

/-- Does a slot let a vector in, but for R125? -/
def State.admits (s : State) (k kind gen frame : Nat) : Bool :=
  let d := s.dslot k
  (s.slotSt k == 3 || s.slotSt k == 4) && !d.unloading && s.rd Dict.slotPipeCount k != 0 && s.matches_ k kind gen && d.frameIn frame

/-- R125 refuses vectors to a slot: it is STREAMED and the phase is LIVE. -/
def State.streamShut (s : State) (k : Nat) : Bool := s.slotSt k == 4 && s.rd Dict.devPhase == 0

/-- The slots that a vector enters (05 R104). -/
def State.entered (s : State) (kind gen frame : Nat) : List Nat :=
  (List.range s.slotCount).filter (fun k => s.admits k kind gen frame && !s.streamShut k)

/-- An UNSCORED entry of the journal (Table 20-2): 0 queue full, 1 streamed refusal, 2 after retirement. -/
def State.unscoredEntry (s : State) (v : DevVec) (k reason : Nat) : State :=
  s.journalEntry jnUnscored v.frame (leBytes 4 v.frame ++ leBytes 4 v.dieId ++ leBytes 2 v.engine ++ leBytes 1 k ++ leBytes 1 reason ++ zeros 4)

/-- The predecessor of a slot still has vectors queued: its pairs are issued first, so its records leave first (06 R122). -/
def State.predBusy (s : State) (k : Nat) : Bool :=
  match (s.dslot k).swap with
  | some (_, some q) => (s.dslot k).began && (match (s.dslot q).successor with
    | some (_, b) => b == k
    | none => false) && !(s.dslot q).queue.isEmpty
  | _ => false

/-- Entries at the head of a queue that hold up to n vectors: those that met a full queue stand among them (06 R126). -/
def batchLen : Nat → List DevVec → Nat
  | _, [] => 0
  | n, v :: t => if v.full then 1 + batchLen n t else match n with
    | 0 => 0
    | m + 1 => 1 + batchLen m t

/-- The pipelines of a STREAMED slot are idle and its queue holds vectors: a batch of up to 1,024 of them starts, and reads each tree
once, in place (06 R126, 21 R431). -/
def State.startBatch (s : State) (k : Nat) : State :=
  let d := s.dslot k
  if s.slotSt k != 4 || d.batch != 0 || d.queue.isEmpty || s.predBusy k then s
  else
    let s1 := (s.setDslot k { d with batch := batchLen 1024 d.queue }).syncQueue k
    match d.image with
    | some i => (match i.base with
      | some b => s1.countStack b (20 * i.nodes) false
      | none => s1)
    | none => s1

/-- A vector takes its place in a slot's queue; on a tray chip one that finds the queue full stands there unscored (05 R109). -/
def State.enqueueVec (s : State) (k : Nat) (v : DevVec) : State :=
  let d := s.dslot k
  let full := s.isTrayChip && decide (s.depthOf k ≤ d.queued)
  let s0 := (s.setDslot k { d with queue := d.queue ++ [{ v with full := full }] }).syncQueue k
  let seen := decide (s0.depthOf k ≤ 64 * (s0.dslot k).queued)
  let s1 := State.startBatch { s0 with pw := { s0.pw with queueSeen := s0.pw.queueSeen || seen } } k
  if full then s1.unscoredEntry v k 0 else s1

/-- A vector that arrives after a predecessor has retired, of a frame before the switch, is emitted by it unscored (06 R122). -/
def State.afterRetire (s : State) (kind gen : Nat) (v : DevVec) (k : Nat) : State :=
  let d := s.dslot k
  match d.retired with
  | some (f, _) =>
    if s.isTrayChip && s.slotSt k == 2 && s.matches_ k kind gen && !(frameGe v.frame f) && d.frameIn v.frame then
      (s.setDslot k { d with queue := d.queue ++ [{ v with full := true }] }).unscoredEntry v k 2
    else s
  | none => s

/-- A vector meets one slot. -/
def State.enterSlot (kind : Nat) (v : DevVec) (s : State) (k : Nat) : State :=
  if s.admits k kind v.gen v.frame then
    (if s.streamShut k then (s.bumpSat Dict.streamRefused).unscoredEntry v k 1 else s.enqueueVec k v)
  else s.afterRetire kind v.gen v k

/-- A vector of a kind reaches the developer: switch frames up to its frame are reached, and it enters every slot that admits it. -/
def State.enterSlots (s : State) (kind : Nat) (v : DevVec) : State :=
  (List.range s.slotCount).foldl (State.enterSlot kind { v with vkind := kind }) (s.reachFrame v.frame)

/-- Some slot that the vector is due to enter has a full queue: on Uhlyr-D the front stage waits (05 R108). -/
def State.backPressed (s : State) (kind gen frame : Nat) : Bool :=
  s.isDie && ((s.reachFrame frame).entered kind gen frame).any (fun k => decide (256 ≤ (s.dslot k).queued))

/-- What the developer reads from a vector record (Table 04-1). -/
def FVector.devVec (v : FVector) (kind : Nat) : DevVec :=
  { frame := fieldOf v.hdr 127 96, dieId := fieldOf v.hdr 95 79, engine := fieldOf v.hdr 78 68, gen := fieldOf v.hdr 66 63
    empty := v.hdr.testBit 29, held := v.hdr.testBit 28, torn := v.hdr.testBit 27, satAny := v.hdr.testBit 26
    peerLate := v.hdr.testBit 25, codes := v.codes, vkind := kind }

/-! ### Score records (05 R110, R111) -/

/-- Two slots share one pipeline range: a predecessor that has not retired and its successor (06 R122). -/
def State.sharing (s : State) (k j : Nat) : Bool :=
  (match (s.dslot k).successor with
   | some (_, b) => b == j
   | none => false) ||
  (match (s.dslot j).successor with
   | some (_, b) => b == k
   | none => false)

/-- The pipeline range of a slot runs past the last pipeline or overlaps another slot's, which falls under 00 R7 (05 R105). -/
def State.pipesBad (s : State) (k : Nat) : Bool :=
  let lo (j : Nat) : Nat := s.rd Dict.slotPipeFirst j
  let n (j : Nat) : Nat := s.rd Dict.slotPipeCount j
  n k != 0 && (decide (s.rd Dict.devPipes < lo k + n k) ||
    (List.range s.slotCount).any (fun j => j != k && n j != 0 && decide (lo k < lo j + n j) && decide (lo j < lo k + n k) && !s.sharing k j))

/-- The codes that a node can reach: the vector's feature count is 256, 32 for an engine vector, and the record's own for a record
vector (05 R97). -/
def DevVec.features (v : DevVec) : List Nat := if v.vkind = 1 then v.codes.take 32 else if v.vkind = 2 then v.codes else v.codes.take 256

/-- Evaluation of a vector: the score record of the slot; what an image that breaks R96, a reserved LINK or a pipeline range outside
R105 yields is open (log entry 27). -/
def State.scoreVec (s : State) (k : Nat) (v : DevVec) : ScoreRec × State :=
  let blank : ScoreRec := { slot := k, vec := v, link := s.rd Dict.slotLink k, unscored := true, routes := 0, sum := 0, score := 0xFFFF, modelId := s.rd Dict.slotModelId k }
  if v.full then (blank, s)
  else match (s.dslot k).image with
    | none => (blank, s)
    | some img =>
      match (if s.pipesBad k then none else walkTrees (img.node s.stack) v.features img.trees 0 0 0) with
      | none => ({ blank with unscored := false, routes := s.freeVal % 65536, sum := s.freeInt, score := Config.freeNat (s.free + 1) % 65536 }, s.drawn.drawn)
      | some (sum, d) => match linkScore img.link sum with
        | some sc => ({ blank with unscored := false, routes := d, sum := sum, score := sc }, s)
        | none => ({ blank with unscored := false, routes := d, sum := sum, score := s.freeVal % 65536 }, s.drawn)

/-- The greatest engine score of a die's engine frame is settled: its ENGINE_ANOMALY record (08 R172, Table 17-4). -/
def State.screenDie (s : State) (die : Nat) : State :=
  match Tbl.get? s.ver.engMax die with
  | none => s
  | some (frame, v, engine, score) =>
    let s1 := { s with ver := { s.ver with engMax := Tbl.del s.ver.engMax die, engDone := Tbl.set s.ver.engDone die frame } }
    if s.rdAtPulse Dict.engineThr < v then
      (s1.raiseO recEngineAnomaly (packBits [(17, die), (11, engine), (16, score), (32, frame), (52, 0)])).bumpSat Dict.engineFlags
    else s1

/-- The slot that ENGINE_SLOT names; 0x0F names none (08 R172), and no slot is numbered above it. -/
def State.engineSlot? (s : State) : Option Nat :=
  let k := s.rdAtPulse Dict.engineSlot
  if k < 15 then some k else none

/-- The engine frame of a die is settled: it is not after the last one of which a record has been decided (08 R172). -/
def State.engSettled (s : State) (die frame : Nat) : Bool :=
  match Tbl.get? s.ver.engDone die with
  | some f => frameGe f frame
  | none => false

/-- A TRAY compares the score of an engine vector (08 R172): a score of a later frame of the die settles the earlier frame, of which no
other record is written. -/
def State.screenScore (s : State) (r : ScoreRec) : State :=
  if s.role != .tray || s.engineSlot? != some r.slot || r.vec.vkind != 1 then s
  else
    let die := r.vec.dieId
    let s1 := match Tbl.get? s.ver.engMax die with
      | some (f, _) => if f != r.vec.frame then s.screenDie die else s
      | none => s
    if r.unscored || r.vec.empty || r.vec.torn || s1.engSettled die r.vec.frame then s1
    else
      let v := comparedScore r.link r.score
      let new := (r.vec.frame, v, r.vec.engine, r.score)
      let put (t : State) : State := { t with ver := { t.ver with engMax := Tbl.set t.ver.engMax die new } }
      match Tbl.get? s1.ver.engMax die with
      | none => put s1
      | some (_, w, e, _) => if w < v ∨ (v = w ∧ r.vec.engine < e) then put s1 else s1

/-- A score record of a VKIND 0x02 slot of the ROOT follows its sheet to the conductor (07 R154, 15 R331): kept with the frame
until the sheet has been queued. -/
def State.sheetScore (s : State) (r : ScoreRec) : State :=
  if s.role != .root || r.vec.vkind != 2 then s
  else
    let frames := s.red.frames.map (fun (f : RedFrame) => if f.frame == r.vec.frame then { f with scored := f.scored ++ [r.bytes] } else f)
    let s1 := { s with red := { s.red with frames := frames } }
    if s.red.frames.any (fun f => f.frame == r.vec.frame) then s1
    else match s.red.sheetOwed.find? (fun e => e.1 == r.vec.frame) with
      | none => s
      | some (f, n) =>
        let owed := if n ≤ 1 then s.red.sheetOwed.filter (fun e => e.1 != f) else s.red.sheetOwed.map (fun e => if e.1 == f then (f, n - 1) else e)
        let b := pushBytes 0x12 (s.dap.push % 65536) 0 24 r.bytes
        let m : MgmtFrame := { wire := wireBytes b.length, bytes := b, addr := ofLe (s.rdBytes Dict.conductorAddr), port := s.rd Dict.conductorPort }
        { s with red := { s.red with sheetOwed := owed }
                 dap := { s.dap with push := s.dap.push + 1, sheetPushes := s.dap.sheetPushes ++ [m] } }

/-- A score record goes to the verdict stage and the reduction (05 R111). -/
def State.deliverScore (s : State) (r : ScoreRec) : State :=
  let own := if s.isDie then 0 else 3
  let waits := r.vec.vkind == own && s.ver.waiting.any (fun w => w.frame == r.vec.frame && w.slots.contains r.slot)
  let s1 := if waits then { s with ver := { s.ver with scores := s.ver.scores ++ [(r.slot, r.vec.frame, r.bits)] } } else s
  let s2 := if s.isDie && r.vec.vkind == 0 then
      s1.setDslot r.slot { s1.dslot r.slot with lastDie := some (r.vec.frame, r.link, r.score, r.sum) } else s1
  let t : TScore := { frame := r.vec.frame, slot := r.slot, die := r.vec.dieId, engine := r.vec.engine, link := r.link, score := r.score, unscored := r.unscored }
  let s3 := if s.role == .tray then { s2 with red := { s2.red with scores := s2.red.scores ++ [t] } } else s2
  (s3.screenScore r).sheetScore r

/-- The oldest vector of a slot's queue is scored: of a STREAMED slot, the next of its batch, and after the last the next batch
starts. -/
def State.scoreDone (s : State) (k : Nat) : State :=
  let d := s.dslot k
  match d.queue with
  | [] => s
  | v :: rest =>
    if s.predBusy k then s
    else
      let r := s.scoreVec k v
      let rd := r.1
      let s1 := ((r.2.setDslot k { d with queue := rest, batch := d.batch - 1 }).syncQueue k).startBatch k
      let s2 := ((s1.bump Dict.slotVectors k).bump Dict.slotDefaultRoutes k 0 rd.routes).wrBytes Dict.slotLastScore rd.bytes k
      let s3 := if rd.unscored then
          { (s2.bumpSat Dict.slotUnscored k).bumpSat Dict.unscoredAll with pw := { s2.pw with unscoredSeen := true } }
        else s2.bump Dict.devEvals 0 0 (s.rd Dict.slotTrees k)
      s3.deliverScore rd

/-- SCORE_RECORD_COMPLETE (05 R110): slot k completes the score record of its oldest vector. -/
def execScoreRecordComplete (dt k : Nat) (s : State) : Host.Outcome State Fault Refusal :=
  .next (s.core dt (fun s => if k < s.slotCount then s.scoreDone k else s))

/-! ### Images (06 R113 to R118) -/

/-- The header of an image (Table 06-2). -/
structure ImageHeader where
  magic : Nat
  format : Nat
  target : Nat
  link : Nat
  depth : Nat
  isSigned : Bool
  modelId : Nat
  trees : Nat
  nodes : Nat
  len : Nat
  stages : List Nat

/-- The header held in 128 bytes. -/
def ImageHeader.read (bs : Bytes) : ImageHeader :=
  let v := ofLe (bs.take 128)
  { magic := fieldOf v 31 0, format := fieldOf v 47 32, target := fieldOf v 55 48, link := fieldOf v 63 56, depth := fieldOf v 71 64
    isSigned := v.testBit 80, modelId := fieldOf v 127 96, trees := fieldOf v 159 128, nodes := fieldOf v 191 160
    len := fieldOf v 223 192, stages := (List.range 17).map (fun k => fieldOf v (32 * k + 287) (32 * k + 256)) }

/-- Stages, greatest depth, and trees of the build (Table 05-1). -/
def State.devLimits (s : State) : Nat × Nat × Nat := if s.isDie then (13, 12, 1024) else (17, 16, 65536)

/-- Trees of the other slots (Table 06-3): of the images that they hold, and of those that they load, once the header has passed. -/
def State.treesHeld (s : State) (k : Nat) : Nat :=
  (((List.range s.slotCount).filter (· != k)).map (fun j => match (s.dslot j).load with
    | some l => if l.tested && l.early.isNone then (ImageHeader.read l.bytes).trees else 0
    | none => s.rd Dict.slotTrees j)).sum

/-- Tests 0x01 to 0x04 of Table 06-3; none where all pass. `viaStack`: a LOAD_STACK. -/
def State.headerTest (s : State) (k : Nat) (h : ImageHeader) (delivered : Nat) (viaStack : Bool) : Option Nat :=
  let lim := s.devLimits
  if h.magic ≠ 0x54444C4D ∨ h.format ≠ 1 then some 1
  else if h.target ≠ (if s.isDie then 0 else 1) ∨ lim.2.1 < h.depth ∨ (h.stages.drop lim.1).any (· != 0) then some 2
  else if h.trees ≠ h.stages.headD 0 ∨ h.nodes ≠ h.stages.sum ∨ h.len ≠ 176 + 20 * h.nodes + 96 * bit h.isSigned ∨
      (!viaStack && delivered != h.len) then some 3
  else if lim.2.2 < s.treesHeld k + h.trees ∨ (!viaStack && decide (s.rd Dict.nodeCapacity < s.rd Dict.nodesUsed + h.nodes)) then some 4
  else none

/-- Tests 0x05 and 0x06 of Table 06-3, over the whole image. -/
def State.bodyTest (s : State) (h : ImageHeader) (img : Bytes) : Nat :=
  let n := 128 + 20 * h.nodes
  let digest := sha384 (img.take n)
  let signature := (img.drop (n + 48)).take 96
  if digest ≠ (img.drop n).take 48 then 5
  else if s.rd Dict.sigPolicy = 1 ∧ (!h.isSigned || !(ecdsaVerify (s.rdBytes Dict.modelKey) digest signature)) then 6
  else 0

/-- Bytes of the stacks; what lies past their end is open (DESIGN CHOICE, log entry 4). -/
def State.stackBytes (s : State) (a n : Nat) : Bytes :=
  if inStacks a n then s.stackRead a n
  else s.stackRead a (stackEnd - a) ++ (List.range (n - (stackEnd - a))).map (fun i => Config.freeByte s.free (a + i))

/-- A load ends with a result other than OK (Table 06-4). -/
def State.loadFails (s : State) (k code : Nat) : State :=
  let s1 := (s.wr Dict.slotLoadResult code k).wr Dict.slotState 0 k
  let s2 := s1.setDslot k { s1.dslot k with load := none }
  match (s.dslot k).load with
  | some l => if l.stack.isSome then s2.actionDone Dict.slotLoadStack k code else s2
  | none => s2

/-- A load ends with OK: the slot becomes READY (06 R117, Table 06-4). -/
def State.loadOk (s : State) (k : Nat) (h : ImageHeader) (img : Bytes) (l : SlotLoad) : State :=
  let resident := l.stack.isNone || decide (s.rd Dict.nodesUsed + h.nodes ≤ s.rd Dict.nodeCapacity)
  let image : SlotImage := { link := h.link, trees := h.trees, depth := h.depth, nodes := h.nodes, modelId := h.modelId, stages := h.stages
                             body := if resident then (img.drop 128).take (20 * h.nodes) else []
                             base := if resident then none else l.stack.map (· + 128), len := h.len
                             digest := (img.drop (128 + 20 * h.nodes)).take 48 }
  let s1 := (s.wr Dict.slotLoadResult 0 k).wr Dict.slotState 2 k
  let s2 := if resident then (s1.wr Dict.nodesUsed (s1.rd Dict.nodesUsed + h.nodes)).wr Dict.slotResident 1 k else s1.wr Dict.slotResident 0 k
  let s3 := ((((s2.wr Dict.slotLink h.link k).wr Dict.slotTrees h.trees k).wr Dict.slotDepth h.depth k).wr Dict.slotNodes h.nodes k).wr
    Dict.slotModelId h.modelId k
  let d := s3.dslot k
  let s4 := s3.setDslot k { d with load := none, image := some image, swap := none, began := false, successor := none, retired := none, unloading := false }
  if l.stack.isSome then s4.actionDone Dict.slotLoadStack k 0 else s4

/-- Header bytes as delivered; those not delivered are open. -/
def headerBytes (bs : Bytes) (seed : Nat) : Bytes := bs.take 128 ++ (List.range (128 - bs.length)).map (Config.freeByte seed)

/-- A load that has all its bytes, or that has failed a header test, ends (06 R115). -/
def State.loadEnd (s : State) (k : Nat) : State :=
  match (s.dslot k).load with
  | none => s
  | some l => match l.early, l.stack with
    | some c, _ => s.loadFails k c
    | none, none =>
      if l.bytes.length < l.total then s
      else
        let h := ImageHeader.read (headerBytes l.bytes s.free)
        let s1 := if l.bytes.length < 128 then s.drawn else s
        (match s.headerTest k h l.total false with
         | some c => s1.loadFails k c
         | none => match s.bodyTest h l.bytes with
           | 0 => s1.loadOk k h l.bytes l
           | c => s1.loadFails k c)
    | none, some a =>
      let h := ImageHeader.read l.bytes
      let img := s.stackBytes a h.len
      let s1 := if inStacks a h.len then s.countStack a h.len false else s.drawn
      (match s.bodyTest h img with
       | 0 => s1.loadOk k h img l
       | c => s1.loadFails k c)

/-- LOAD_END (06 R115): the load of slot k ends with its result. -/
def execLoadEnd (dt k : Nat) (s : State) : Host.Outcome State Fault Refusal :=
  .next (s.core dt (fun s => if k < s.slotCount then s.loadEnd k else s))

/-- The header of a transfer is tested as soon as its 128 bytes have arrived (06 R115). -/
def State.testTransfer (s : State) (k : Nat) : State :=
  match (s.dslot k).load with
  | none => s
  | some l =>
    if l.tested || decide (l.bytes.length < 128) then s
    else s.setDslot k { s.dslot k with load := some { l with tested := true, early := s.headerTest k (ImageHeader.read l.bytes) l.total false } }

/-- A load is aimed at a slot that is not EMPTY: LOAD_RESULT 0x07, but 0xFF while the slot is LOADING (06 R115, R119). -/
def State.notEmpty (s : State) (k : Nat) : State := if s.slotSt k = 1 then s else s.wr Dict.slotLoadResult 7 k

/-- A slot begins to load. -/
def State.loadBegins (s : State) (k : Nat) (l : SlotLoad) : State :=
  ((s.setDslot k { s.dslot k with load := some l }).wr Dict.slotState 1 k).wr Dict.slotLoadResult 0xFF k

/-- A segment to IMAGE is accepted (06 R116): bytes of a transfer that has failed, or that met a slot not EMPTY, are discarded. -/
def State.takeImage (k total : Nat) (data : Bytes) (first last : Bool) (s : State) : State :=
  if first then
    (if s.slotSt k = 0 then (s.loadBegins k { stack := none, total := total, bytes := data, session := !last }).testTransfer k
     else s.notEmpty k)
  else match (s.dslot k).load with
    | some l =>
      if !l.session then s
      else if l.early.isSome then s.setDslot k { s.dslot k with load := some { l with session := !last } }
      else State.testTransfer (s.setDslot k { s.dslot k with load := some { l with bytes := l.bytes ++ data, session := !last } }) k
    | none => s

/-- An IMAGE session has ended by SEGMENT_ABORT: the load whose transfer it was ends with ABORTED (15 R327). -/
def State.imageAborted (s : State) (k : Nat) : State :=
  match (s.dslot k).load with
  | some l => if l.session then s.loadFails k (l.early.getD 8) else s
  | none => s

/-- A WRITE of IMAGE at its target. -/
def State.serveImage (rq : Requester) (k offset total : Nat) (data : Bytes) (s : State) : State :=
  s.serveSegment rq Dict.slotImage k offset total data (fun s => s.imageAborted k) (fun first last _ s => s.takeImage k (max total data.length) data first last)

/-- IMAGE_SEGMENT (06 R116): a segment of TOTAL bytes is written to IMAGE of slot k at an offset. -/
def execImageSegment (dt : Nat) (rq : Requester) (k offset total : Nat) (data : Bytes) (s : State) : Host.Outcome State Fault Refusal :=
  .next (s.asked dt rq { rq.write Dict.slotImage k with offset := offset, total := total, data := data } (State.serveImage rq k offset total data))

/-- A range of the stacks that STACK_WRITE must not touch: an image being loaded or held non-resident (06 R118). -/
def State.imageMeets (s : State) (a n : Nat) : Bool :=
  (List.range s.slotCount).any (fun k =>
    let d := s.dslot k
    (match d.image with
     | some i => (match i.base with
       | some b => decide (a < b - 128 + i.len) && decide (b - 128 < a + n)
       | none => false)
     | none => false) ||
    (match d.load with
     | some l => (match l.stack with
       | some b => decide (a < b + (ImageHeader.read l.bytes).len) && decide (b < a + n)
       | none => false)
     | none => false))

/-- A segment of STACK_WRITE is stored at the write address, which advances (06 R118, 15 R327); bytes that R118 puts under R7
become open. -/
def State.takeStack (data : Bytes) (s : State) : State :=
  let a := s.rd Dict.stackWriteAddr
  let lib := s.rd Dict.libraryBase
  let ok := decide (lib ≤ a) && decide (a + data.length ≤ lib + s.rd Dict.librarySize) && inStacks a data.length && !s.imageMeets a data.length
  let s1 := if ok then s.stackWrite a data
    else { s with stack := s.stack.openUp (min a stackEnd) (min (a + data.length) stackEnd) s.free }.drawn
  s1.wr Dict.stackWriteAddr (a + data.length)

/-- A WRITE of STACK_WRITE at its target. -/
def State.serveStackWrite (rq : Requester) (offset total : Nat) (data : Bytes) (s : State) : State :=
  s.serveSegment rq Dict.stackWrite 0 offset total data id (fun _ _ _ s => s.takeStack data)

/-- STACK_WRITE (06 R118): a segment is written into the model library. -/
def execStackWrite (dt : Nat) (rq : Requester) (offset total : Nat) (data : Bytes) (s : State) : Host.Outcome State Fault Refusal :=
  .next (s.asked dt rq { rq.write Dict.stackWrite 0 with offset := offset, total := total, data := data } (State.serveStackWrite rq offset total data))

/-- LOAD_STACK starts: the header is read and tested (06 R115, R117). -/
def State.loadStack (k : Nat) (s : State) : State :=
  if s.slotSt k ≠ 0 then (s.notEmpty k).actionDone Dict.slotLoadStack k 7
  else
    let a := s.rd Dict.slotStackAddr k
    let bs := s.stackBytes a 128
    let s1 := if inStacks a 128 then s.countStack a 128 false else s.drawn
    s1.loadBegins k { stack := some a, total := (ImageHeader.read bs).len, bytes := bs, tested := true
                      early := s1.headerTest k (ImageHeader.read bs) 0 true }

/-- A write of LOAD_STACK at its target. -/
def State.serveLoadStack (rq : Requester) (k : Nat) (s : State) : State :=
  s.serveLong rq Dict.slotLoadStack k 0 (State.loadStack k)

/-- LOAD_STACK (06 R117): slot k loads the image at STACK_ADDR. -/
def execLoadStack (dt : Nat) (rq : Requester) (k : Nat) (s : State) : Host.Outcome State Fault Refusal :=
  .next (s.asked dt rq (rq.put Dict.slotLoadStack k 0) (State.serveLoadStack rq k))

/-! ### Activation, unloading, retirement (06 R119 to R122) -/

/-- ACTIVATE with a predecessor or 0xFF: the state after it and its completion code (Table 06-5). -/
def State.activate (k v : Nat) (s : State) : State × Nat :=
  let f := s.rd Dict.slotSwapFrame k
  let pred : Option Nat := if v = 0xFF then none else some v
  let predBad : Bool := match pred with
    | none => false
    | some q => !(decide (q < s.slotCount) && (s.slotSt q == 3 || s.slotSt q == 4))
  let predSched : Bool := match pred with
    | none => false
    | some q => s.scheduled q
  if s.slotSt k ≠ 2 ∨ predBad then (s, 2)
  else if s.scheduled k ∨ predSched then (s, 4)
  else if s.flag Dict.slotResident k = false ∧ s.rd Dict.devPhase = 0 then (s, 3)
  else if s.tooLate f then (s, 1)
  else (s.setDslot k { s.dslot k with swap := some (f, pred), began := false }, 0)

/-- A write of ACTIVATE at its target. -/
def State.serveActivate (rq : Requester) (k v : Nat) (s : State) : State := s.serveCmd rq Dict.slotActivate k (State.activate k v)

/-- ACTIVATE (06 R120): slot k is to begin at SWAP_FRAME. -/
def execActivate (dt : Nat) (rq : Requester) (k v : Nat) (s : State) : Host.Outcome State Fault Refusal :=
  .next (s.asked dt rq (rq.put Dict.slotActivate k v) (State.serveActivate rq k v))

/-- UNLOAD of a slot: the state after it and its completion code (Tables 06-4, 06-5). -/
def State.unload (k : Nat) (s : State) : State × Nat :=
  match s.slotSt k with
  | 0 => (s, 0)
  | 1 => ((s.loadFails k 8).dropWrite (Dict.slotImage.key k 0), 0)
  | 2 => if s.scheduled k then (s, 4) else ((s.slotEvent k 2 0xFF s.frameNow (s.dslot k).digest).slotEmpty k, 0)
  | _ => if s.scheduled k then (s, 4)
    else ((s.setDslot k { s.dslot k with unloading := true }).slotEvent k 2 0xFF s.frameNow (s.dslot k).digest, 0)

/-- A write of UNLOAD at its target. -/
def State.serveUnload (rq : Requester) (k : Nat) (s : State) : State := s.serveCmd rq Dict.slotUnload k (State.unload k)

/-- UNLOAD (06 R119): slot k is emptied, or admits nothing further. -/
def execUnload (dt : Nat) (rq : Requester) (k : Nat) (s : State) : Host.Outcome State Fault Refusal :=
  .next (s.asked dt rq (rq.put Dict.slotUnload k 0) (State.serveUnload rq k))

/-- UNLOAD_DRAINED (06 R119): the queue of an unloaded slot is empty, and the slot goes to EMPTY. -/
def execUnloadDrained (dt k : Nat) (s : State) : Host.Outcome State Fault Refusal :=
  .next (s.core dt (fun s => if (s.dslot k).unloading && (s.dslot k).queue.isEmpty then s.slotEmpty k else s))

/-- A predecessor, ACTIVE or STREAMED, retires once the pulse SWAP_FRAME + SWAP_HOLD has occurred and its queue is empty (06 R119,
R122); one that is being unloaded goes to EMPTY instead. -/
def State.retireSlot (s : State) (k : Nat) : State :=
  let d := s.dslot k
  match d.successor with
  | none => s
  | some (f, b) =>
    if (s.slotSt k == 3 || s.slotSt k == 4) && !d.unloading && frameGe s.frameNow ((f + s.rd Dict.swapHold) % 2 ^ 32) && d.queue.isEmpty then
      ((((s.wr Dict.slotState 2 k).wr Dict.slotPipeCount 0 k).setDslot k { d with successor := none, retired := some (f, b) }).slotEvent
        k 1 0xFF s.frameNow d.digest)
    else s

/-- RETIRE (06 R122): slot k, a predecessor, retires. -/
def execRetire (dt k : Nat) (s : State) : Host.Outcome State Fault Refusal :=
  .next (s.core dt (fun s => s.retireSlot k))

/-- A write of DEV_PHASE at its target: each change writes a record and a SLOT_EVENT entry (06 R124, Table 20-2). -/
def State.serveDevPhase (rq : Requester) (value : Nat) (s : State) : State :=
  s.serveWrite rq Dict.devPhase 0 (fun s0 =>
    let old := s0.rd Dict.devPhase
    let v := if value ≤ 3 then value else s0.freeVal % 256
    let s1 := (if value ≤ 3 then s0 else s0.drawn).wr Dict.devPhase v
    (s1.phaseChanged old).answerWrite rq Dict.devPhase 0 0 0)

/-- DEV_PHASE_WRITE (06 R124): the conductor writes the phase. -/
def execDevPhaseWrite (dt : Nat) (rq : Requester) (value : Nat) (s : State) : Host.Outcome State Fault Refusal :=
  .next (s.asked dt rq (rq.put Dict.devPhase 0 value) (State.serveDevPhase rq value))

end Sys2Proof.Machine
end

