-- ==== Sys2Proof/Machine/Evidence.lean ====
section
/-! DEFINITION. Silent-error evidence: loupes, tags, brackets, shards, overlay, the bound, in-field tests (chapter 10). -/

namespace Sys2Proof.Machine

open Sys2Proof

/-- Evidence takes a value. -/
def State.setEv (s : State) (e : Evidence) : State := { s with ev := e }

/-- Mismatches enter the cell of a frame, or COND_UNBINNED where the frame falls in none (08 R166). -/
def State.binMismatch (s : State) (n : Nat) (cell : Option Nat) : State :=
  match cell with
  | none => s.bumpSat Dict.condUnbinned 0 0 n
  | some c =>
    let x : CondCell := Tbl.getD s.ver.cells c {}
    { s with ver := { s.ver with cells := Tbl.set s.ver.cells c { x with mismatch := satTo 16 (x.mismatch + n) } } }

/-- A mismatch attributed to the instance is counted; it falls in the cell of the current frame, whose verdict may have been formed
or still be to come (08 R166, R167). -/
def State.countMismatch (s : State) : State :=
  let s1 := ({ s with ver := { s.ver with mismatched := true, mism := s.ver.mism + 1 } }).bumpSat Dict.mismatches
  match s1.ver.lastCell with
  | some (f, cell) => if f = s1.frameNow then s1.binMismatch 1 cell else { s1 with ver := { s1.ver with mismatchWait := s1.ver.mismatchWait ++ [s1.frameNow] } }
  | none => { s1 with ver := { s1.ver with mismatchWait := s1.ver.mismatchWait ++ [s1.frameNow] } }

/-! ### Lines and accumulators (10 R206, R207) -/

/-- The hash of a line: the relative address folded into its first 8 bytes (10 R206). -/
def lineHash (data : Bytes) (addr base : Nat) : Nat :=
  let rel := leBytes 8 ((addr + 2 ^ 64 - base % 2 ^ 64) % 2 ^ 64)
  crc64Ecma (List.zipWith (fun a b => a ^^^ b) data (rel ++ zeros (data.length - 8)))

/-- A line enters an accumulator (10 R207). -/
def Accum.enter (a : Accum) (h : Nat) : Accum := 
  { acc := (a.acc + h) % 2 ^ 64, lines := satTo 32 (a.lines + 1), sat := a.sat || a.lines == 2 ^ 32 - 1 }

/-- A line enters the accumulator of a tap. -/
def enterTap (taps : Tbl Accum) (t h : Nat) : Tbl Accum := Tbl.set taps t ((Tbl.getD taps t {}).enter h)

/-- Sums over all loupes: DIGEST modulo 2^64 and LINES, saturating (10 R209). -/
def sumTaps (taps : Tbl Accum) : Nat × Nat :=
  ((taps.map (fun e => e.2.acc)).sum % 2 ^ 64, satTo 32 (taps.map (fun e => e.2.lines)).sum)

/-- LINES of a record has saturated (Table 10-3). -/
def satTaps (taps : Tbl Accum) : Bool :=
  taps.any (fun e => e.2.sat) || decide (2 ^ 32 - 1 < (taps.map (fun e => e.2.lines)).sum)

/-- Accumulators that misuse makes unpredictable (00 R7). -/
def openTaps (free : Nat) : Tbl Accum :=
  [(0, { acc := Config.freeNat free % 2 ^ 64, lines := Config.freeNat (free + 1) % 2 ^ 32 })]

/-! ### Digest records (10 R211, R212) -/

/-- A digest record leaves the leaf: into DIGEST_RING, counted, and on class 4 of the current route. -/
def State.emitDigest (s : State) (d : DigestRec) : State :=
  let ring := s.ev.ring ++ [d]
  (((s.setEv { s.ev with ring := ring.drop (ring.length - 64) }).bumpSat Dict.digestsEmitted).enqueueUp s.frameNow 4
    { kind := .digest, bytes := d.bytes, frame := s.frameNow })

/-- A digest record closed now. -/
def State.digestNow (s : State) (kind : Nat) (taps : Tbl Accum) (name ordinal : Nat) (incomplete : Bool) : DigestRec :=
  { digest := (sumTaps taps).1, lines := (sumTaps taps).2, frame := s.frameNow, name := name, ordinal := ordinal, die := s.dieField, kind := kind
    incomplete := incomplete, overtaken := false, sat := satTaps taps, overlay := false, copyDone := false
    job := s.rd Dict.myJob }

/-! ### Layer digests (10 R208, R209) -/

/-- A reset of a loupe island is in progress: it loses lines of every slot that is open meanwhile (10 R231). -/
def State.loupeReset (s : State) : Bool := s.rst.islands.any (fun i => decide (0x10 ≤ i) && decide (i < 0x30))

/-- TAG_OPEN acts: the slot opens cleared; a slot already held is a host mistake and leaves open accumulators (00 R7). -/
def State.tagOpen (s : State) (tag base : Nat) : State :=
  let k := tag % 4096
  let held := (Tbl.get? s.ev.tags k).isSome
  let slot : TagSlot := { tag := tag, base := base, taps := if held then openTaps s.free else [], incomplete := s.loupeReset }
  let s1 := s.setEv { s.ev with tags := Tbl.set s.ev.tags k slot }
  if held then { s1 with free := s1.free + 2 } else s1

/-- TAG_CLOSE acts: the LAYER record, ORDINAL, the slot freed. -/
def State.tagClose (s : State) (tag : Nat) : State :=
  let k := tag % 4096
  let found := (Tbl.get? s.ev.tags k).filter (fun t => t.tag == tag)
  let taps : Tbl Accum := match found with
    | some t => t.taps
    | none => []
  let inc := match found with
    | some t => t.incomplete
    | none => true
  let ord := s.rd Dict.overlayOrdinal
  let d := { s.digestNow 0 taps (tag * 65536) ord inc with overlay := s.ev.armed }
  let s1 := if found.isSome then s.setEv { s.ev with tags := Tbl.del s.ev.tags k } else s
  (s1.bump Dict.overlayOrdinal).emitDigest d

/-! ### Bracket (10 R214 to R217) -/

/-- F_VERDICT: the fraction that the verdict asks for (10 R215). -/
def State.fVerdict (s : State) : Nat :=
  match s.rd Dict.verdict with
  | 0 => s.rd Dict.fNormal
  | 1 => s.rd Dict.fWatch
  | 2 => s.rd Dict.fSuspect
  | _ => 1024

/-- TEST_FLOOR of an engine (10 R215). -/
def State.testFloor (s : State) (e : Nat) : Nat :=
  if s.ev.tests.any (fun t => !t.2.issued && t.2.engine == e) then 1024 else 1

/-- F_e in force (10 R215). -/
def State.fraction (s : State) (e : Nat) : Nat := max (max s.fVerdict (s.rd Dict.fBound)) (s.testFloor e)

/-- The hash that selects a tile (10 R214). -/
def State.tileHash (s : State) (tag tile : Nat) : Nat :=
  crc64Ecma (leBytes 4 (s.rd Dict.seed) ++ leBytes 2 tag ++ zeros 2 ++ leBytes 4 tile ++ leBytes 4 s.bar.leaf.step)

/-- Lowest free bracket slot of the 64. -/
def State.freeBracket (s : State) : Option Nat := (List.range 64).find? (fun i => (Tbl.get? s.ev.bracket i).isNone)

/-- An eligible BEGIN is hashed and answered; a selected tile arms a slot (10 R214, Table 10-5). -/
def State.bracketSelect (s : State) (cmd engine cls tag tile : Nat) (dup : Bool) : State :=
  if dup || !(s.rd Dict.bracketClasses).testBit cls then s
  else
    let s1 := s.setEv { s.ev with eligible := (s.ev.eligible + 1) % 2 ^ 64 }
    if s1.tileHash tag tile / 2 ^ 52 < s1.fraction engine then
      match s1.freeBracket with
      | none => (s1.bumpSat Dict.bracketNoSlot).ceSend (.select cmd false 0)
      | some i =>
        let b : BracketSlot := { cmd := cmd, tag := tag, tile := tile, step := s1.bar.leaf.step, origEngine := engine, since := s1.time.now }
        (((s1.setEv { s1.ev with bracket := Tbl.set s1.ev.bracket i b }).bump Dict.bracketSelected).ceSend
          (.select cmd true i)).ceSend (.dupReq cmd engine i)
    else s1.ceSend (.select cmd false 0)

/-- A bracket slot goes back to FREE. -/
def State.freeSlotB (s : State) (i : Nat) : State := s.setEv { s.ev with bracket := Tbl.del s.ev.bracket i }

/-- Payload of Table 10-6. -/
def State.bracketPayload (s : State) (b : BracketSlot) (dupEngine : Nat) (linesDiffer : Bool) : Nat :=
  packBits [(17, s.dieField), (11, b.origEngine), (11, dupEngine), (16, b.tag), (32, b.tile), (32, b.step), (1, bit linesDiffer), (8, 0)]

/-- Both sides are closed: they are compared and the slot is freed (10 R217). -/
def State.bracketCompare (s : State) (i : Nat) (b : BracketSlot) : State :=
  let o := sumTaps b.orig.taps
  let d := sumTaps b.dup.taps
  let s1 := (s.freeSlotB i).bump Dict.bracketCompared
  let s2 := s1.setEv { s1.ev with compared := (s1.ev.compared + 1) % 2 ^ 64 }
  if o = d then s2
  else
    let s3 := (s2.setEv { s2.ev with mismatched := (s2.ev.mismatched + 1) % 2 ^ 32 }).bumpSat Dict.bracketMismatched
    (s3.raiseAlarm recBracketMismatch (s3.bracketPayload b b.dupEngine (o.2 != d.2))).countMismatch

/-- BKT_OPEN acts: the base of one side. -/
def State.bktOpen (s : State) (slot side base : Nat) : State :=
  match Tbl.get? s.ev.bracket slot with
  | none => s
  | some b =>
    let b1 := if side = 0 then { b with orig := { b.orig with base := base } } else { b with dup := { b.dup with base := base } }
    s.setEv { s.ev with bracket := Tbl.set s.ev.bracket slot b1 }

/-- BKT_CLOSE acts: the side is frozen; with both closed the slot is compared and freed. -/
def State.bktClose (s : State) (slot side engine : Nat) : State :=
  match Tbl.get? s.ev.bracket slot with
  | none => s
  | some b =>
    let b1 := if side = 0 then { b with orig := { b.orig with closed := true } }
      else if b.dup.closed then b else { b with dup := { b.dup with closed := true }, dupEngine := engine }
    if b1.orig.closed && b1.dup.closed then s.bracketCompare slot b1
    else s.setEv { s.ev with bracket := Tbl.set s.ev.bracket slot b1 }

/-- DUP_DECLINE acts. -/
def State.dupDecline (s : State) (slot : Nat) : State :=
  if (Tbl.get? s.ev.bracket slot).isSome then (s.freeSlotB slot).bumpSat Dict.bracketDeclined else s

/-- A slot whose BRACKET_WAIT has passed is freed and reported. -/
def State.bracketTimeout (s : State) (e : Nat × BracketSlot) : State :=
  ((s.freeSlotB e.1).bumpSat Dict.bracketTimeouts).raiseO recBracketTimeout (s.bracketPayload e.2 0x7FF false)

/-- BRACKET_WAIT (Table 10-5): ARMED slots whose wait has passed. -/
def execBracketWait (dt : Nat) (s : State) : Host.Outcome State Fault Refusal :=
  .next (s.core dt (fun s =>
    (s.ev.bracket.filter (fun e => s.passed e.2.since (s.rd Dict.bracketWait))).foldl State.bracketTimeout s))

/-! ### Checkpoint shards (10 R227, R228) -/

/-- SHARD_OPEN acts: it stages the slot's ID and DIR (18 R372). -/
def State.shardOpen (s : State) (slot dir shardId : Nat) : State :=
  s.setEv { s.ev with staged := Tbl.set s.ev.staged slot (shardId, dir == 1) }

/-- SHARD_RANGE acts: the slot is cleared and opened; without a staged SHARD_OPEN its ID and DIR are open values (18 R372). -/
def State.shardRange (s : State) (slot length base : Nat) : State :=
  let st := Tbl.get? s.ev.staged slot
  let p : Nat × Bool := match st with
    | some x => x
    | none => (Config.freeNat s.free % 2 ^ 32, Config.freeNat (s.free + 1) % 2 == 1)
  let sh : ShardSlot := { id := p.1, write := p.2, base := base, length := length, incomplete := s.loupeReset }
  let s1 := s.setEv { s.ev with staged := Tbl.del s.ev.staged slot, shards := Tbl.set s.ev.shards slot sh }
  if st.isNone then { s1 with free := s1.free + 2 } else s1

/-- SHARD_CLOSE acts: the record and the slot freed. Of a slot that is not open the spec states DIGEST, LINES and
INCOMPLETE; its KIND and NAME are open values. -/
def State.shardClose (s : State) (slot : Nat) (copyDone : Bool) : State :=
  match Tbl.get? s.ev.shards slot with
  | some sh =>
    let d := { s.digestNow (if sh.write then 2 else 1) sh.taps sh.id 0 sh.incomplete with
      overtaken := sh.overtaken && !sh.write, copyDone := copyDone }
    ((s.setEv { s.ev with shards := Tbl.del s.ev.shards slot }).bumpSat Dict.shardDigests).emitDigest d
  | none =>
    let d := { s.digestNow (1 + Config.freeNat s.free % 2) [] (Config.freeNat (s.free + 1) % 2 ^ 32) 0 true with copyDone := copyDone }
    ({ (s.bumpSat Dict.shardDigests) with free := s.free + 2 }).emitDigest d

/-! ### A line at a tap (10 R207, R228, 18 R374) -/

/-- A line of Table 10-1 as the tap presents it. -/
structure TapLine where
  /-- byte address -/
  addr : Nat
  data : Bytes
  write : Bool
  tag : Nat
  bkt : Nat
  shd : Nat
deriving DecidableEq, Repr

/-- BKT or SHD is valid. -/
def TapLine.bktValid (l : TapLine) : Bool := l.bkt.testBit 7
/-- SHD is valid. -/
def TapLine.shdValid (l : TapLine) : Bool := l.shd.testBit 4
/-- The bracket slot named. -/
def TapLine.bktSlot (l : TapLine) : Nat := l.bkt % 64
/-- The duplicate side is named. -/
def TapLine.isDup (l : TapLine) : Bool := l.bkt.testBit 6

/-- A write line enters the tag slot of its TAG, or is counted in UNOPENED_LINES. -/
def State.lineToTag (s : State) (t : Nat) (l : TapLine) : State :=
  match (Tbl.get? s.ev.tags (l.tag % 4096)).filter (fun x => x.tag == l.tag) with
  | some x =>
    let y := { x with taps := enterTap x.taps t (lineHash l.data l.addr x.base) }
    s.setEv { s.ev with tags := Tbl.set s.ev.tags (l.tag % 4096) y }
  | none => s.bump Dict.unopenedLines

/-- A line enters one side of a bracket slot that is not frozen. -/
def BracketSide.line (b : BracketSide) (t : Nat) (l : TapLine) : BracketSide :=
  if b.closed then b else { b with taps := enterTap b.taps t (lineHash l.data l.addr b.base) }

/-- A write line enters the bracket side it names. -/
def State.lineToBracket (s : State) (t : Nat) (l : TapLine) : State :=
  match Tbl.get? s.ev.bracket l.bktSlot with
  | none => s
  | some b =>
    let b1 := if l.isDup then { b with dup := b.dup.line t l } else { b with orig := b.orig.line t l }
    s.setEv { s.ev with bracket := Tbl.set s.ev.bracket l.bktSlot b1 }

/-- A line of the copy engine enters its shard slot where that is open in the line's direction; a read moves the tap's mark,
and one below the mark makes OVERTAKEN unpredictable (10 R228). -/
def State.lineToShard (s : State) (t : Nat) (l : TapLine) : State :=
  match Tbl.get? s.ev.shards (l.shd % 16) with
  | none => s
  | some sh =>
    if sh.write != l.write then s
    else
      let mark := Tbl.getD sh.marks t sh.base
      let sh1 := { sh with taps := enterTap sh.taps t (lineHash l.data l.addr sh.base) }
      if l.write then s.setEv { s.ev with shards := Tbl.set s.ev.shards (l.shd % 16) sh1 }
      else if mark ≤ l.addr then
        s.setEv { s.ev with shards := Tbl.set s.ev.shards (l.shd % 16) { sh1 with marks := Tbl.set sh.marks t (l.addr + 64) } }
      else (s.setEv { s.ev with shards := Tbl.set s.ev.shards (l.shd % 16) { sh1 with overtaken := s.freeVal % 2 == 1 } }).drawn

/-- A write line without SHD is checked against every open READ shard (10 R228). -/
def State.overtakeCheck (s : State) (t : Nat) (l : TapLine) : State :=
  let hit (sh : ShardSlot) : Bool := !sh.write && decide (sh.base ≤ l.addr) && decide (l.addr < sh.base + sh.length) &&
    decide (Tbl.getD sh.marks t sh.base ≤ l.addr)
  let n := (s.ev.shards.filter (fun e => hit e.2)).length
  (s.setEv { s.ev with shards := s.ev.shards.map (fun e => if hit e.2 then (e.1, { e.2 with overtaken := true }) else e) }).bump
    Dict.overtakenLines 0 0 n

/-- A line with both BKT and SHD valid is a host mistake (10 R207): the accumulators it names hold open values. -/
def State.spoilLine (s : State) (l : TapLine) : State :=
  let fixB (b : BracketSlot) : BracketSlot :=
    if l.isDup then { b with dup := { b.dup with taps := openTaps s.free } } else { b with orig := { b.orig with taps := openTaps s.free } }
  let fixT (x : TagSlot) : TagSlot := if x.tag == l.tag then { x with taps := openTaps (s.free + 2) } else x
  let fixS (x : ShardSlot) : ShardSlot := { x with taps := openTaps (s.free + 4), overtaken := Config.freeNat (s.free + 6) % 2 == 1 }
  { s with
    free := s.free + 7
    ev := { s.ev with
      bracket := s.ev.bracket.map (fun e => if e.1 == l.bktSlot then (e.1, fixB e.2) else e)
      tags := s.ev.tags.map (fun e => (e.1, fixT e.2))
      shards := s.ev.shards.map (fun e => if e.1 == l.shd % 16 then (e.1, fixS e.2) else e) } }

/-- Where a line enters (Table 10-2). -/
def State.lineEnters (s : State) (t : Nat) (l : TapLine) : State :=
  if l.bktValid && l.shdValid then s.spoilLine l
  else if l.shdValid then s.lineToShard t l
  else if !l.write then s
  else
    let s1 := if l.bktValid then (if l.isDup then s.lineToBracket t l else (s.lineToTag t l).lineToBracket t l) else s.lineToTag t l
    s1.overtakeCheck t l

/-- A line counts 64 B of its channel and direction (03 R56, 18 R374). -/
def State.countLine (s : State) (t : Nat) (write : Bool) : State :=
  let k := 2 * t + bit write
  { s with cnt := { s.cnt with chan := Tbl.set s.cnt.chan k ((Tbl.getD s.cnt.chan k 0 + 64) % 2 ^ 64) } }

/-- Does loupe t take lines: it runs in ACTIVE and DIM (19 R391), outside resets? -/
def State.loupeOn (s : State) (t : Nat) : Bool :=
  s.isDie && decide (s.rd Dict.powerState ≤ 1) && s.rst.busy.isNone && !s.rst.islands.contains (0x10 + t) &&
    decide (t < s.rd Dict.loupeCount)

/-- LOUPE_LINE (10 R207, 19 R391): a line presented at tap t, which wakes a core that sleeps. `addr` is LP_ADDR, the byte address
without its six low bits, which are 0 (Table 10-1, Table 18-9). -/
def execLoupeLine (dt t : Nat) (addr : Nat) (data : Bytes) (write : Bool) (tag bkt shd : Nat) (s : State) :
    Host.Outcome State Fault Refusal :=
  let l : TapLine := { addr := 64 * addr, data := fitBytes 64 data, write := write, tag := tag, bkt := bkt, shd := shd }
  .next (s.after dt (fun s => if s.inReset || !s.isDie || decide (s.rd Dict.loupeCount ≤ t) then s
    else
      let s1 := s.wake 5 t 0
      if s1.loupeOn t then (s1.touch.countLine t write).lineEnters t l else s1))

/-- A loupe island's reset loses tap t's accumulators; open slots are INCOMPLETE (10 R231). -/
def State.resetLoupe (s : State) (t : Nat) : State :=
  let side (b : BracketSide) : BracketSide := { b with taps := Tbl.del b.taps t }
  s.setEv { s.ev with
    tags := s.ev.tags.map (fun e => (e.1, { e.2 with taps := Tbl.del e.2.taps t, incomplete := true }))
    shards := s.ev.shards.map (fun e => (e.1, { e.2 with taps := Tbl.del e.2.taps t, incomplete := true }))
    bracket := s.ev.bracket.map (fun e => (e.1, { e.2 with orig := side e.2.orig, dup := side e.2.dup })) }

/-! ### Overlay (10 R218 to R220) -/

/-- A write of OVERLAY_ARM 0x01 reaches its target. -/
def State.serveOverlayArm (rq : Requester) (s : State) : State :=
  s.serveCmd rq Dict.overlayArm 0 (fun s => ((s.setEv { s.ev with armed := true }).wr Dict.overlayOrdinal 0, 0))

/-- OVERLAY_ARM (10 R218). -/
def execOverlayArm (dt : Nat) (rq : Requester) (s : State) : Host.Outcome State Fault Refusal :=
  .next (s.asked dt rq (rq.put Dict.overlayArm 0 1) (State.serveOverlayArm rq))

/-- A write of OVERLAY_ARM 0x00 reaches its target. -/
def State.serveOverlayDisarm (rq : Requester) (s : State) : State :=
  s.serveCmd rq Dict.overlayArm 0 (fun s => ((s.setEv { s.ev with armed := false }).wr Dict.overlayOrdinal 0, 0))

/-- OVERLAY_DISARM (10 R218). -/
def execOverlayDisarm (dt : Nat) (rq : Requester) (s : State) : Host.Outcome State Fault Refusal :=
  .next (s.asked dt rq (rq.put Dict.overlayArm 0 0) (State.serveOverlayDisarm rq))

/-- Pair i of OVERLAY_PAIRS: suspect and spare. -/
def State.overlayPair (s : State) (i : Nat) : Nat × Nat :=
  let b := s.rdBytes Dict.overlayPairs
  (leAt b (8 * i) 4, leAt b (8 * i + 4) 4)

/-- The first pair that names a die, and whether as its spare. -/
def State.pairOf (s : State) (die : Nat) : Option (Nat × Bool) :=
  ((List.range 16).find? (fun i => (s.overlayPair i).1 == die || (s.overlayPair i).2 == die)).map
    (fun i => (i, (s.overlayPair i).1 != die))

/-- The outcome of a match (Table 10-7, in table order). -/
def overlayCause (sus spa : DigestRec) : Nat :=
  if sus.incomplete || spa.incomplete then 5
  else if sus.name / 65536 != spa.name / 65536 then 3
  else if sus.lines != spa.lines then 2
  else if sus.digest != spa.digest then 1
  else 0

/-- A mismatch notice leaves towards the SUSPECT leaf; its bytes are stated nowhere (log entry 21). -/
def State.sendNotice (s : State) (suspect : Nat) : State :=
  match s.portOf suspect s.frameNow with
  | none => s
  | some p => (s.drawn).enqueue (s.groupOf p) 4 { kind := .mismatch, bytes := leBytes 8 s.freeVal, frame := s.frameNow }

/-- An outcome of pair i is counted and reported (10 R219, R220). -/
def State.overlayOutcome (s : State) (i cause : Nat) (sus spa : Option DigestRec) : State :=
  if cause = 0 then s.bump Dict.overlayCompared
  else
    let tag (d : Option DigestRec) : Nat := match d with
      | some x => x.name / 65536
      | none => 0
    let ord := match sus.or spa with
      | some x => x.ordinal
      | none => 0
    let pr := s.overlayPair i
    let s1 := if cause = 4 then s.bumpSat Dict.overlayTimeouts else s.bumpSat Dict.overlayMismatched
    let s2 := s1.raiseAlarm recOverlayMismatch
      (packBits [(17, pr.1), (17, pr.2), (32, ord), (16, tag sus), (16, tag spa), (3, cause), (27, 0)])
    if cause = 1 || cause = 2 || cause = 3 then s2.sendNotice pr.1 else s2

/-- Unmatched records of one side of a pair. -/
def State.unmatchedOf (s : State) (k : Nat) : List (DigestRec × Nat) := Tbl.getD s.ev.unmatched k []

/-- Unmatched records of one side take a value. -/
def State.setUnmatched (s : State) (k : Nat) (l : List (DigestRec × Nat)) : State :=
  s.setEv { s.ev with unmatched := Tbl.set s.ev.unmatched k l }

/-- A record of one side ends as TIMEOUT. -/
def State.overlayTimeout (s : State) (i : Nat) (spare : Bool) (d : DigestRec) : State :=
  s.overlayOutcome i 4 (if spare then none else some d) (if spare then some d else none)

/-- A record of pair i is matched by ORDINAL, or waits; a side past 1,024 gives up its oldest (10 R219). -/
def State.overlayMatch (s : State) (i : Nat) (spare : Bool) (d : DigestRec) : State :=
  let mine := 2 * i + bit spare
  let other := 2 * i + bit (!spare)
  match (s.unmatchedOf other).find? (fun e => e.1.ordinal == d.ordinal) with
  | some (o, at_) =>
    let s1 := s.setUnmatched other ((s.unmatchedOf other).erase (o, at_))
    let pr := if spare then (o, d) else (d, o)
    s1.overlayOutcome i (overlayCause pr.1 pr.2) (some pr.1) (some pr.2)
  | none =>
    let l := s.unmatchedOf mine ++ [(d, s.time.now)]
    if 1024 < l.length then
      match l with
      | (old, _) :: t => (s.setUnmatched mine t).overlayTimeout i spare old
      | [] => s
    else s.setUnmatched mine l

/-- A digest record at a tray chip (10 R212, R219). -/
def State.digestArrives (s : State) (p : Nat) (d : DigestRec) : State :=
  let up (t : State) : State := t.enqueueUp t.frameNow 4 { kind := .digest, bytes := d.bytes, frame := t.frameNow }
  if d.kind = 0 then
    let s1 := s.journalEntry jnDigest d.frame (leBytes 1 p ++ zeros 7 ++ d.bytes)
    if !d.overlay then s1
    else match s1.pairOf d.die with
      | some (i, spare) => s1.overlayMatch i spare d
      | none => if s1.role == .root then s1.bumpSat Dict.overlayUnclaimed else up s1
  else if d.kind = 1 || d.kind = 2 then
    (if s.role == .root then s.push 0x13 d.bytes none else up s)
  else s

/-- DIGEST_RECORD (10 R219): a digest record arrives from a child on port p. -/
def execDigestRecord (dt p : Nat) (d : DigestRec) (s : State) : Host.Outcome State Fault Refusal :=
  .next (s.fromLane dt p 4 (.digestRecord 0 p d) (fun s => if !s.isDown p || !s.laneUp p then s else s.touch.digestArrives p d))

/-- Records of one side that have waited OVERLAY_WAIT end as TIMEOUT. -/
def State.overlayExpire (s : State) (k : Nat) : State :=
  let late (e : DigestRec × Nat) : Bool := s.passed e.2 (s.rd Dict.overlayWait)
  let l := s.unmatchedOf k
  (l.filter late).foldl (fun t e => t.overlayTimeout (k / 2) (k % 2 == 1) e.1) (s.setUnmatched k (l.filter (fun e => !late e)))

/-- OVERLAY_WAIT (Table 10-7). -/
def execOverlayWait (dt : Nat) (s : State) : Host.Outcome State Fault Refusal :=
  .next (s.core dt (fun s => (List.range 32).foldl State.overlayExpire s))

/-- MISMATCH_NOTICE (10 R220): a notice for a suspect arrives from above on port p; the leaf counts it, a chip sends it on. -/
def execMismatchNotice (dt p suspect : Nat) (s : State) : Host.Outcome State Fault Refusal :=
  .next (s.fromLane dt p 4 (.mismatchNotice 0 p suspect) (fun s =>
    if s.isDown p || !s.laneUp p then s
    else if s.isDie then s.touch.countMismatch
    else s.touch.sendNotice suspect))

/-! ### The bound (10 R221 to R223) -/

/-- lambda(m) for m up to 15, in thousandths (Table 10-9). -/
def lambdaTable : List Nat :=
  [2996, 4744, 6296, 7754, 9154, 10513, 11842, 13148, 14435, 15705, 16962, 18208, 19443, 20669, 21886, 23097]

/-- Integer square root: `r` is the root so far, bits from `b` down. -/
def isqrtBits (n : Nat) : Nat → Nat → Nat
  | 0, r => r
  | b + 1, r => isqrtBits n b (if (r + 2 ^ b) * (r + 2 ^ b) ≤ n then r + 2 ^ b else r)

/-- lambda(m) in binary64 (10 R222). -/
def lambdaOf (m : Nat) : Fl :=
  if m ≤ 15 then flRound f64 false (lambdaTable.getD m 0) 1000 0
  else flRound f64 false (m + 2 * isqrtBits m 20 0 + 3) 1 0

/-- U = E - n; where more brackets were compared than tiles were eligible since BOUND_RESET the spec states no value. -/
def State.uncheckedTiles (s : State) : Nat :=
  if s.ev.compared ≤ s.ev.eligible then s.ev.eligible - s.ev.compared else s.freeVal % 2 ^ 64

/-- B in binary64, evaluated as R222 writes it. -/
def State.boundNow (s : State) : Fl :=
  let n := s.ev.compared + s.rd Dict.priorN
  if n = 0 || s.ev.runningNs = 0 then .inf false
  else
    let int (k : Nat) : Fl := flRound f64 false k 1 0
    flDiv f64 (flMul f64 (lambdaOf (s.ev.mismatched + s.rd Dict.priorK)) (int s.uncheckedTiles))
      (flDiv f64 (flMul f64 (int n) (int s.ev.runningNs)) (int 3600000000000))

/-- The keeper's period: BOUND, and under BOUND_ENFORCE F_BOUND or BOUND_UNMET (10 R222, R223). -/
def State.boundPeriod (s : State) : State :=
  let b := s.boundNow
  let enc := flEncode f32 (flTo f32 b)
  let s1 := s.wr Dict.bound enc
  let s1 := if s.ev.compared ≤ s.ev.eligible then s1 else s1.drawn
  if !s1.flag Dict.boundEnforce || !flLt (flDecode f32 (s1.rd Dict.boundTarget)) b then s1
  else
    let fb := s1.rd Dict.fBound
    if fb < 1024 then s1.wr Dict.fBound (min 1024 (2 * fb))
    else if s1.ev.unmetWritten then s1
    else (s1.setEv { s1.ev with unmetWritten := true }).raiseAlarm recBoundUnmet (packBits [(32, enc), (16, fb), (80, 0)])

/-- BOUND_PERIOD has passed since the last period (10 R222). -/
def State.boundDue (s : State) : Bool := decide (s.ev.boundLast + s.rd Dict.boundPeriod * secUnits ≤ s.time.run)

/-- The period that has passed is the last: the instants of the next ones follow from it. -/
def State.boundTick (s : State) : State :=
  s.setEv { s.ev with boundLast := s.time.run - (s.time.run - s.ev.boundLast) % (s.rd Dict.boundPeriod * secUnits) }

/-- BOUND_PERIOD (10 R222): B is computed at each period; one that falls while the keeper is paused or reset is skipped and not made up
(10 R231). -/
def execBoundPeriod (dt : Nat) (s : State) : Host.Outcome State Fault Refusal :=
  .next (s.core dt (fun s =>
    if !s.isDie || !s.boundDue then s else if s.keeperOn then s.boundTick.boundPeriod else s.boundTick))

/-- A write of BOUND_RESET reaches its target. -/
def State.serveBoundReset (rq : Requester) (s : State) : State :=
  s.serveCmd rq Dict.boundReset 0 (fun s =>
    ((s.setEv { s.ev with eligible := 0, compared := 0, mismatched := 0, runningNs := 0, unmetWritten := false }).wr Dict.fBound 1, 0))

/-- BOUND_RESET (10 R221, R223). -/
def execBoundReset (dt : Nat) (rq : Requester) (s : State) : Host.Outcome State Fault Refusal :=
  .next (s.asked dt rq (rq.put Dict.boundReset 0 0) (State.serveBoundReset rq))

/-- A write of BOUND_ENFORCE reaches its target: false returns F_BOUND to 1 and re-arms BOUND_UNMET; a value that is no BOOL
leaves an open value (00 R7). -/
def State.serveBoundEnforce (rq : Requester) (value : Nat) (s : State) : State :=
  s.serveWrite rq Dict.boundEnforce 0 (fun s =>
    let v := if value ≤ 1 then value else s.freeVal % 256
    let s1 := (if value ≤ 1 then s else s.drawn).wr Dict.boundEnforce v
    let s2 := if v = 0 then (s1.setEv { s1.ev with unmetWritten := false }).wr Dict.fBound 1 else s1
    s2.answerWrite rq Dict.boundEnforce 0 0 0)

/-- BOUND_ENFORCE_WRITE (10 R223). -/
def execBoundEnforceWrite (dt : Nat) (rq : Requester) (value : Nat) (s : State) : Host.Outcome State Fault Refusal :=
  .next (s.asked dt rq (rq.put Dict.boundEnforce 0 value) (State.serveBoundEnforce rq value))

/-! ### In-field tests (10 R224 to R226) -/

/-- A test entry takes a value. -/
def State.setTest (s : State) (i : Nat) (t : TestEntry) : State := s.setEv { s.ev with tests := Tbl.set s.ev.tests i t }

/-- A test entry is FREE again. -/
def State.freeTest (s : State) (i : Nat) : State := s.setEv { s.ev with tests := Tbl.del s.ev.tests i }

/-- The value of TEST_REQUEST that names an entry's engine and test (Table 18-8). -/
def TestEntry.value (t : TestEntry) : Nat := t.engine * 65536 + t.test

/-- An entry is issued: TEST_RUN on doorbell 2 (Table 10-10). -/
def State.issueTest (s : State) (e : Nat × TestEntry) : State :=
  (s.setTest e.1 { e.2 with issued := true }).mbSend 2 0x10 (leBytes 4 e.2.value)

/-- A boundary, or JOB_STATE becoming IDLE: every PENDING entry is issued, in entry order (10 R225). -/
def State.testBoundary (s : State) : State := (s.ev.tests.filter (fun e => !e.2.issued)).foldl State.issueTest s

/-- The payload of the test records. -/
def State.testPayload (s : State) (i : Nat) (t : TestEntry) (result : Nat) : Nat :=
  packBits [(17, s.dieField), (11, t.engine), (16, t.test), (16, result), (6, i), (62, 0)]

/-- A write of TEST_REQUEST reaches its target: the lowest free entry is ISSUED or PENDING, or the write completes FULL. -/
def State.serveTestRequest (rq : Requester) (value : Nat) (s : State) : State :=
  s.serveCmd rq Dict.testRequest 0 (fun s =>
    match (List.range 64).find? (fun i => (Tbl.get? s.ev.tests i).isNone) with
    | none => (s, 1)
    | some i =>
      let t : TestEntry := { issued := false, engine := fieldOf value 26 16, test := value % 65536
                             deadline := s.nowNs + s.rd Dict.testDeadline * 1000000, requested := s.nowNs }
      let s1 := s.setTest i t
      (if s1.rd Dict.jobState = 0 then s1.issueTest (i, t) else s1, 0))

/-- TEST_REQUEST (10 R224). -/
def execTestRequest (dt : Nat) (rq : Requester) (value : Nat) (s : State) : Host.Outcome State Fault Refusal :=
  .next (s.asked dt rq (rq.put Dict.testRequest 0 value) (State.serveTestRequest rq value))

/-- A write of TEST_CANCEL reaches its target; an entry number above 63 has an open completion code (00 R7). -/
def State.serveTestCancel (rq : Requester) (entry : Nat) (s : State) : State :=
  s.serveCmd rq Dict.testCancel 0 (fun s =>
    if 64 ≤ entry then (s.drawn, s.freeVal % 256)
    else if (Tbl.get? s.ev.tests entry).isSome then (s.freeTest entry, 0) else (s, 1))

/-- TEST_CANCEL (10 R225, R226). -/
def execTestCancel (dt : Nat) (rq : Requester) (entry : Nat) (s : State) : Host.Outcome State Fault Refusal :=
  .next (s.asked dt rq (rq.put Dict.testCancel 0 entry) (State.serveTestCancel rq entry))

/-- A PENDING entry's deadline has passed. -/
def State.testOverdue (s : State) (e : Nat × TestEntry) : State :=
  ((s.setTest e.1 { e.2 with overdue := true }).bumpSat Dict.testsOverdue).raiseAlarm recTestOverdue (s.testPayload e.1 e.2 0)

/-- TEST_DEADLINE (Table 10-10). -/
def execTestDeadline (dt : Nat) (s : State) : Host.Outcome State Fault Refusal :=
  .next (s.core dt (fun s =>
    (s.ev.tests.filter (fun e => !e.2.issued && !e.2.overdue && decide (e.2.deadline ≤ s.nowNs))).foldl State.testOverdue s))

/-- TEST_DONE acts on the first ISSUED entry that it names (Table 10-10). -/
def State.testDone (s : State) (engine test result : Nat) : State :=
  match s.ev.tests.find? (fun e => e.2.issued && e.2.engine == engine && e.2.test == test) with
  | none => s
  | some (i, t) =>
    let s1 := s.freeTest i
    if result = 0 then (s1.bumpSat Dict.testsPassed).raiseO recTestDone (s.testPayload i t result)
    else ((s1.bumpSat Dict.testsFailed).raiseAlarm recTestFailed (s.testPayload i t result)).countMismatch

/-- TEST_DONE (10 R225): the host's report. -/
def execTestDone (dt engine test result : Nat) (s : State) : Host.Outcome State Fault Refusal :=
  .next (s.fromHost dt 3 (.testDone 0 engine test result) (fun s => if s.isDie then s.touch.testDone engine test (result % 65536) else s))

end Sys2Proof.Machine
end

