-- ==== Sys2Proof/Machine/Verdict.lean ====
section
/-! DEFINITION. The verdict stage: stragglers, drift, threshold loops, condition cells, the verdict (08 R158 to R171, 20 R416, R417). -/

namespace Sys2Proof.Machine

open Sys2Proof

/-- The verdict stage takes a value. -/
def State.setVer (s : State) (v : VerdictStage) : State := { s with ver := v }

/-! ### Last arrivals and lateness (08 R158 to R160) -/

/-- Ones in the window's last min(1,024, n) bits. -/
def windowCount (window n : Nat) : Nat := popCount 1024 (window % 2 ^ min 1024 n)

/-- The window, BARRIERS_SEEN and the lateness average restart (08 R158, R159). -/
def State.restartWindow (s : State) : State :=
  ((s.setVer { s.ver with window := 0, lateAvg := none }).wr Dict.barriersSeen 0).wr Dict.lastCount 0

/-- A release of the die's job shifts one bit in (08 R158). -/
def State.shiftWindow (s : State) (mine : Bool) : State :=
  let w := (2 * s.ver.window + bit mine) % 2 ^ 1024
  let s1 := (s.setVer { s.ver with window := w, releases := s.ver.releases + 1, latest := s.ver.latest + bit mine }).bumpSat Dict.barriersSeen
  s1.wr Dict.lastCount (windowCount w (s1.rd Dict.barriersSeen))

/-- The lateness average after an arrival of lateness l (08 R159). -/
def lateUpdate (e l k : Nat) : Nat := (((e : Int) + (((l * 65536 : Nat) : Int) - e) / (2 ^ k : Nat)) % (2 ^ 48 : Nat)).toNat

/-- An arrival's lateness feeds the average and the next LEAF entry. -/
def State.takeLateness (s : State) (l : Option Nat) : State :=
  match l with
  | none => s.setVer { s.ver with lateness := none }
  | some v =>
    let e := match s.ver.lateAvg with
      | none => v * 65536
      | some e => lateUpdate e v (s.rdAtPulse Dict.lateShift)
    (s.setVer { s.ver with lateAvg := some e, lateness := some v }).wr Dict.lateEwma (satTo 32 (e / 65536))

/-- The straggler threshold; 0xFFFF where it disables the evidence (08 R160). -/
def State.straggler (s : State) : Nat :=
  let n := s.rd Dict.jobSize
  let mu := ceilDiv 1024 n
  let t := if s.rdAtPulse Dict.suspectMode = 0 then s.rdAtPulse Dict.suspectFixed
    else mu + s.rdAtPulse Dict.autoK * isqrtBits mu 6 0 + s.rdAtPulse Dict.autoFloor
  if s.rdAtPulse Dict.suspectMode ≠ 0 ∧ n = 0 then 0xFFFF else if 1024 < t then 0xFFFF else t

/-! ### Drift (08 R161) -/

/-- Drift of one feature: best distance so far with its feature, and the baselines. -/
def driftStep (k : Nat) (frozen : Bool) (acc : Option (Nat × Nat) × Tbl (Nat × Nat)) (jc : Nat × Nat) : Option (Nat × Nat) × Tbl (Nat × Nat) :=
  let j := jc.1
  let c := jc.2
  let bw := Tbl.getD acc.2 j (0, 0)
  let r := (bw.1 + 0x8000) / 65536
  let d := if r < c then c - r else r - c
  let best := if 2 ^ k ≤ bw.2 then (match acc.1 with
    | none => some (d, j)
    | some (b, a) => if b < d then some (d, j) else some (b, a)) else acc.1
  let b1 := if bw.2 = 0 then c * 65536 else (((bw.1 : Int) + (((c * 65536 : Nat) : Int) - bw.1) / (2 ^ k : Nat)) % (2 ^ 32 : Nat)).toNat
  (best, if frozen then acc.2 else Tbl.set acc.2 j (b1, min (bw.2 + 1) (2 ^ 32 - 1)))

/-- D with its feature, and the baselines after the frame. -/
def State.drift (s : State) (w : VerdictWait) (frozen : Bool) : Option (Nat × Nat) × Tbl (Nat × Nat) :=
  let mask := ofLe (s.bytesAtPulse Dict.driftMask)
  if w.skip then (none, s.ver.base)
  else
    let present := (w.codes.zipIdx.map (fun e => (e.2, e.1))).filter (fun e => mask.testBit e.1 && e.2 != missingCode)
    present.foldl (driftStep (s.rdAtPulse Dict.driftShift) frozen) (none, s.ver.base)

/-! ### The loops (08 R162, R163) -/

/-- θ of a loop. -/
def State.theta (s : State) (m : Nat) : Int :=
  match Tbl.get? s.ver.theta m with
  | some t => t
  | none => ((Dict.loopThrInit.init s.build s.role m * 2 ^ 40 : Nat) : Int)

/-- θ of a loop takes a value; THRESHOLD follows. -/
def State.setTheta (s : State) (m : Nat) (t : Int) : State :=
  (s.setVer { s.ver with theta := Tbl.set s.ver.theta m t }).wr Dict.loopThreshold (ofSigned 16 (t / (2 ^ 40 : Nat))) m

/-- One frame of a loop (08 R163); a clamp to THR_MIN above THR_MAX is open. -/
def State.loopStep (s : State) (m : Nat) (v : Option Nat) (frozen : Bool) : Bool × State :=
  match v with
  | none => (false, s)
  | some x =>
    let t := s.theta m
    let flag := decide (t / ((2 ^ 40 : Nat) : Int) < (x : Int))
    let gain : Int := s.rdAtPulse Dict.loopGain m
    let target : Int := s.rdAtPulse Dict.target
    let t1 := if flag then t + gain * ((2 ^ 32 : Nat) - target) else t - gain * target
    let lo : Int := s.rdAtPulse Dict.loopThrMin m * (2 ^ 40 : Nat)
    let hi : Int := s.rdAtPulse Dict.loopThrMax m * (2 ^ 40 : Nat)
    let s1 := s.bump Dict.loopValues m
    let s2 := if flag then s1.bumpSat Dict.loopFlags m else s1
    (flag, if frozen then s2 else if hi < lo then (s2.setTheta m ((s2.freeVal % 2 ^ 56 : Nat) : Int)).drawn else s2.setTheta m (max lo (min t1 hi)))

/-- The score record of VERDICT_SLOT for a waiting vector. -/
def State.verdictScore (s : State) (w : VerdictWait) : Option Nat :=
  let k := s.rdAtPulse Dict.verdictSlot
  (s.ver.scores.find? (fun e => e.1 == k && e.2.1 == w.frame)).map (fun e => e.2.2)

/-- The value of the score loop (08 R162). -/
def State.scoreLoopValue (s : State) (score : Option Nat) : Option Nat :=
  match score with
  | none => none
  | some r =>
    if r.testBit 119 || r.testBit 118 || r.testBit 116 || decide (s.rdAtPulse Dict.routeLimit < fieldOf r 111 96) then none
    else some (comparedScore (fieldOf r 121 120) (fieldOf r 47 32))

/-! ### Condition cells (08 R164 to R166) -/

/-- The cell of a frame; none where the selected field reads missing. A reserved COND_SELECT names an open cell. -/
def State.cellOf (s : State) (w : VerdictWait) : Option Nat :=
  match s.rdAtPulse Dict.condSelect with
  | 0 => if w.temp = 15 then none else some w.temp
  | 1 => if w.volt = 15 then none else some w.volt
  | 2 => if w.freq = 63 then none else some w.freq
  | 3 => w.sig.map (· % 64)
  | 4 => if w.temp = 15 then none else w.sig.map (fun g => w.temp / 2 * 8 + g % 8)
  | _ => some (s.freeVal % 64)

/-- A condition cell. -/
def VerdictStage.cell (v : VerdictStage) (c : Nat) : CondCell := Tbl.getD v.cells c {}

/-- Cells with FRAMES and ANOM halved. -/
def halveCells (cells : Tbl CondCell) : Tbl CondCell :=
  cells.map (fun e => (e.1, { e.2 with frames := e.2.frames / 2, anom := e.2.anom / 2 }))

/-- A frame falls in a cell (08 R165). -/
def State.visitCell (s : State) (c : Nat) (flagged : Bool) : State :=
  let x := s.ver.cell c
  let cells0 := Tbl.set s.ver.cells c { x with frames := x.frames + 1, anom := x.anom + bit flagged }
  let cells1 := if 2 ^ 24 ≤ x.frames + 1 then halveCells cells0 else cells0
  let y := Tbl.getD cells1 c {}
  let allF := (cells1.map (fun e => e.2.frames)).sum
  let allA := (cells1.map (fun e => e.2.anom)).sum
  let hot := decide (s.rdAtPulse Dict.condMin ≤ y.anom) && decide (s.rdAtPulse Dict.condRatio * allA * y.frames ≤ y.anom * allF)
  s.setVer { s.ver with cells := Tbl.set cells1 c { y with hot := hot } }

/-- Mismatches that reached the stage in this frame are binned; those of an earlier frame, for which no verdict was formed, fall in no
cell (08 R166). -/
def State.binMismatches (s : State) (frame : Nat) (cell : Option Nat) : State :=
  let due := s.ver.mismatchWait.filter (fun f => frameGe frame f)
  let mine := (due.filter (· == frame)).length
  let s1 := s.setVer { s.ver with mismatchWait := s.ver.mismatchWait.filter (fun f => !(frameGe frame f)), lastCell := some (frame, cell) }
  let s2 := if due.length = mine then s1 else s1.binMismatch (due.length - mine) none
  if mine = 0 then s2 else s2.binMismatch mine cell

/-- The flags of the 64 frames before one: those that lie further back are forgotten (08 R167). -/
def State.flagsBefore (s : State) (frame : Nat) : Nat :=
  s.ver.flags * 2 ^ min 64 ((frame + 2 ^ 32 - 1 - s.ver.flagFrame) % 2 ^ 32) % 2 ^ 64

/-! ### The verdict (08 R167 to R171) -/

/-- CAUSE bits (Table 08-3). -/
def State.evidenceCause (s : State) : Nat :=
  let th := s.rd Dict.suspectThr
  let on := s.isDie && th != 0xFFFF
  let lc := s.rd Dict.lastCount
  let recent := popCount 64 s.ver.flags
  bit (on && decide (ceilDiv th 2 ≤ lc)) + 2 * bit (on && decide (th ≤ lc)) + 4 * bit (decide (1 ≤ recent)) +
    8 * bit (decide (s.rdAtPulse Dict.suspectAnom ≤ recent)) + 16 * bit (s.ver.cells.any (fun e => e.2.hot)) + 32 * bit s.ver.mismatched

/-- The evidence level of a cause (Table 08-3). -/
def evidenceLevel (cause : Nat) : Nat :=
  if cause.testBit 5 then 3 else if cause.testBit 1 || cause.testBit 3 || cause.testBit 4 then 2 else if cause.testBit 0 || cause.testBit 2 then 1 else 0

/-- The VERDICT payload (Table 08-5). -/
def verdictPayload (die old new cause : Nat) (cell : Option Nat) (lastCount drift arg score recent : Nat) : Nat :=
  packBits [(17, die), (2, old), (2, new), (6, cause), (6, cell.getD 0), (1, bit cell.isSome), (11, lastCount), (16, drift),
    (8, arg), (16, score), (7, recent), (36, 0)]

/-- The verdict moves (Table 08-4): the next verdict, whether its record is an alarm, and the calm count. -/
def State.moveVerdict (s : State) (evid : Nat) : Nat × Bool × Nat :=
  let v := s.rd Dict.verdict
  let calm := if evid < v then satTo 32 (s.ver.calm + 1) else 0
  if v < 3 ∧ evid = 3 then (3, true, 0)
  else if v < 2 ∧ evid = 2 then (2, true, 0)
  else if v = 0 ∧ evid = 1 then (1, false, 0)
  else if v = 1 ∧ evid < 1 ∧ s.rdAtPulse Dict.calmWatch ≤ calm then (0, false, 0)
  else if v = 2 ∧ evid < 2 ∧ s.rdAtPulse Dict.calmSuspect ≤ calm then (if evid = 1 then 1 else 0, false, 0)
  else (v, false, calm)

/-- A verdict record is written. -/
def State.verdictRecord (s : State) (alarm : Bool) (payload : Nat) : State :=
  if alarm then s.raiseAlarm recVerdict payload else s.raiseO recVerdict payload

/-! ### The journal's entries (20 R416, R417) -/

/-- BASELINES (OD 2314.00). -/
def State.baselineBytes (s : State) : Bytes :=
  ((List.range 256).map (fun j => let e := Tbl.getD s.ver.base j (0, 0)
                                  leBytes 4 e.1 ++ leBytes 4 e.2)).flatten

/-- COND_CELLS (OD 2343.00). -/
def State.cellBytes (s : State) : Bytes :=
  ((List.range 64).map (fun c => let e := s.ver.cell c
                                 leBytes 4 e.frames ++ leBytes 4 e.anom ++ leBytes 2 e.mismatch ++ leBytes 1 (bit e.hot) ++ zeros 1)).flatten

/-- The RW objects of Table 08-10 in order; DRIFT_MASK stands apart. -/
def verdictObjects : List (Ob × Nat) :=
  [(Dict.lateShift, 0), (Dict.suspectMode, 0), (Dict.suspectFixed, 0), (Dict.autoK, 0), (Dict.autoFloor, 0), (Dict.driftShift, 0)]

/-- The RW objects of Table 08-10 behind DRIFT_MASK. -/
def verdictObjects2 : List (Ob × Nat) :=
  [(Dict.loopThrInit, 0), (Dict.loopThrMin, 0), (Dict.loopThrMax, 0), (Dict.loopGain, 0), (Dict.loopThrInit, 1), (Dict.loopThrMin, 1),
   (Dict.loopThrMax, 1), (Dict.loopGain, 1), (Dict.target, 0), (Dict.verdictSlot, 0), (Dict.routeLimit, 0), (Dict.suspectAnom, 0),
   (Dict.calmWatch, 0), (Dict.calmSuspect, 0), (Dict.condSelect, 0), (Dict.condMin, 0), (Dict.condRatio, 0), (Dict.liveLag, 0),
   (Dict.quietFrames, 0), (Dict.lostFrames, 0), (Dict.stallNs, 0), (Dict.engineSlot, 0), (Dict.engineThr, 0)]

/-- An object as a U64 value; 0 where the build or role lacks it. -/
def State.asU64 (s : State) (e : Ob × Nat) : Bytes :=
  leBytes 8 (if (Dict.find? s.build s.role (e.1.idx + e.2) e.1.sub).isSome then s.rdAtPulse e.1 e.2 else 0)

/-- DIE_ID of the journal's own entries: the die ID, 0 for the chip's own (Table 20-3). -/
def State.journalDie (s : State) : Nat := if s.isDie then s.rd Dict.dieId else 0

/-- A LEAF_STATE entry of a frame (Table 20-4). -/
def State.leafState (s : State) (frame : Nat) : Bytes :=
  leBytes 4 frame ++ leBytes 4 s.journalDie ++ zeros 8 ++ leBytes 128 s.ver.window ++ leBytes 4 (s.rd Dict.barriersSeen) ++
    leBytes 2 (s.rd Dict.suspectThr) ++ zeros 2 ++ leBytes 8 (s.ver.lateAvg.getD 0) ++ s.baselineBytes ++ leBytes 8 (ofSigned 64 (s.theta 0)) ++
    leBytes 8 (ofSigned 64 (s.theta 1)) ++ leBytes 8 (s.flagsBefore frame) ++ leBytes 1 (s.rd Dict.verdict) ++ leBytes 1 (bit s.ver.mismatched) ++ zeros 2 ++
    leBytes 4 s.ver.calm ++ s.cellBytes ++
    fitBytes 272 ((verdictObjects.map s.asU64).flatten ++ fitBytes 32 (s.bytesAtPulse Dict.driftMask) ++ (verdictObjects2.map s.asU64).flatten)

/-- A LEAF entry (Table 20-3). -/
def State.leafEntryBytes (s : State) (w : VerdictWait) (score : Option Nat) (verdict : Nat) (stateSent : Bool) : Bytes :=
  let r := score.getD 0
  let sc := if score.isSome then fieldOf r 47 32 else 0xFFFF
  leBytes 32 (packBits [(32, fieldOf r 31 0), (16, sc), (16, fieldOf r 111 96),
    (8, bit score.isSome + 2 * bit (r.testBit 118) + 4 * bit (r.testBit 116)), (8, s.rdAtPulse Dict.verdictSlot), (16, 0),
    (8, bit w.onClass6 + 2 * bit stateSent), (8, verdict), (32, s.ver.lateness.getD 0xFFFFFFFF), (16, satTo 16 s.ver.mism),
    (8, satTo 8 s.ver.releases), (8, satTo 8 s.ver.latest), (16, 0), (32, s.journalDie), (32, w.frame)])

/-! ### Forming a verdict (08 R169) -/

/-- Is the verdict of a waiting vector due: its slot's score record is complete, or it entered no slot of that number? -/
def State.verdictReady (s : State) (w : VerdictWait) : Bool :=
  !(w.slots.contains (s.rdAtPulse Dict.verdictSlot)) || (s.verdictScore w).isSome

/-- The verdict of a frame is formed: drift, loops, cells, evidence, verdict, journal entries. -/
def State.formVerdict (s : State) (w : VerdictWait) : State :=
  let stateSent := s.ver.stateDue || w.frame % 65536 == 0
  let s0 := if stateSent then s.ownEntry jnLeafState w.frame (s.leafState w.frame) else s
  let old := s0.rd Dict.verdict
  let frozen := decide (2 ≤ old)
  let score := s0.verdictScore w
  let d := s0.drift w frozen
  let dv := match d.1 with
    | some (v, _) => v
    | none => 0xFFFF
  let arg := match d.1 with
    | some (_, a) => a
    | none => 0
  let s1 := ((s0.setVer { s0.ver with base := d.2 }).wr Dict.driftScore dv).wr Dict.driftArg arg
  let l0 := s1.loopStep 0 (d.1.map (·.1)) frozen
  let sv := s1.scoreLoopValue score
  let l1 := l0.2.loopStep 1 sv frozen
  let flagged := l0.1 || l1.1
  let cell := l1.2.cellOf w
  let s2 := if l1.2.rdAtPulse Dict.condSelect ≤ 4 then l1.2 else l1.2.drawn
  let s3 := match cell with
    | some c => s2.visitCell c flagged
    | none => s2.bumpSat Dict.condUnbinned
  let s4 := s3.binMismatches w.frame cell
  let flags := (2 * s4.flagsBefore w.frame + bit flagged) % 2 ^ 64
  let recent := popCount 64 flags
  let s5 := (s4.setVer { s4.ver with flags := flags, flagFrame := w.frame }).wr Dict.recent recent
  let cause := s5.evidenceCause
  let mv := s5.moveVerdict (evidenceLevel cause)
  let s6 := (s5.setVer { s5.ver with calm := mv.2.2 }).wr Dict.verdict mv.1
  let hot := ((s6.ver.cells.filter (fun e => e.2.hot)).map (·.1)).head?
  let s7 := if mv.1 = old then s6
    else s6.verdictRecord mv.2.1 (verdictPayload (if s6.isDie then s6.dieField else 0) old mv.1 cause (hot.or cell)
      (if s6.isDie then s6.rd Dict.lastCount else 0) dv arg (sv.getD 0xFFFF) recent)
  let s8 := s7.ownEntry jnLeaf w.frame (s7.leafEntryBytes w score mv.1 stateSent)
  s8.setVer { s8.ver with
    waiting := s8.ver.waiting.drop 1, scores := s8.ver.scores.filter (fun e => e.2.1 != w.frame), stateDue := false
    releases := 0, latest := 0, lateness := none, mism := 0 }

/-- VERDICT_FORMED (08 R169): the verdict of the oldest waiting die vector is formed. -/
def execVerdictFormed (dt : Nat) (s : State) : Host.Outcome State Fault Refusal :=
  .next (s.core dt (fun s => match s.ver.waiting with
    | w :: _ => if s.verdictReady w then s.formVerdict w else s
    | [] => s))

/-- VERDICT_CLEAR acts (Table 08-4, R158, R171). -/
def State.verdictClear (s : State) : State :=
  let old := s.rd Dict.verdict
  let s1 := s.restartWindow
  let s2 := ((s1.setVer { s1.ver with flags := 0, cells := [], mismatched := false, mismatchWait := [], mism := 0, calm := 0, stateDue := true }).wr
    Dict.recent 0).wr Dict.verdict 0
  s2.raiseO recVerdict (verdictPayload (if s.isDie then s.dieField else 0) old 0 0 none 0 0xFFFF 0 0xFFFF 0)

/-- A write of VERDICT_CLEAR at its target. -/
def State.serveVerdictClear (rq : Requester) (s : State) : State := s.serveCmd rq Dict.verdictClear 0 (fun s => (s.verdictClear, 0))

/-- VERDICT_CLEAR (08 R168). -/
def execVerdictClear (dt : Nat) (rq : Requester) (s : State) : Host.Outcome State Fault Refusal :=
  .next (s.asked dt rq (rq.put Dict.verdictClear 0 0) (State.serveVerdictClear rq))

/-- BASELINE_RESET acts (08 R161, R163). -/
def State.baselineReset (s : State) : State :=
  (s.setVer { s.ver with base := s.ver.base.map (fun e => (e.1, (e.2.1, 0))), stateDue := true }).setTheta 0
    ((s.rdAtPulse Dict.loopThrInit 0 * 2 ^ 40 : Nat) : Int)

/-- A write of BASELINE_RESET at its target. -/
def State.serveBaselineReset (rq : Requester) (s : State) : State := s.serveCmd rq Dict.baselineReset 0 (fun s => (s.baselineReset, 0))

/-- BASELINE_RESET (08 R161). -/
def execBaselineReset (dt : Nat) (rq : Requester) (s : State) : Host.Outcome State Fault Refusal :=
  .next (s.asked dt rq (rq.put Dict.baselineReset 0 0) (State.serveBaselineReset rq))

/-- What the channel 0 pulse makes of writes to Table 08-10: θ where THR_INIT was written, and SUSPECT_THR (08 R160, R163, R179). -/
def State.verdictPulse (s : State) : State :=
  let due := s.ver.initDue
  let s1 := s.setVer { s.ver with initDue := 0 }
  let s2 := (bitList 2 due).foldl (fun t m => t.setTheta m ((t.rdAtPulse Dict.loopThrInit m * 2 ^ 40 : Nat) : Int)) s1
  if s2.isDie then s2.wr Dict.suspectThr s2.straggler else s2

/-- The warm-up counts of features whose descriptor has changed restart (08 R161). -/
def State.restartBaselines (s : State) (features : Nat) : State :=
  s.setVer { s.ver with base := s.ver.base.map (fun e => if features.testBit e.1 then (e.1, (e.2.1, 0)) else e) }

end Sys2Proof.Machine
end

