-- ==== Sys2Proof/Machine/Reduction.lean ====
section
/-! DEFINITION. Field programs, frame closing, merging, centres, the contact sheet (chapter 07, 04 R86). -/

namespace Sys2Proof.Machine

open Sys2Proof

/-- The reduction takes a value. -/
def State.setRed (s : State) (r : Reduction) : State := { s with red := r }

/-! ### The program in force (07 R129, R130) -/

/-- The program before any APPLY. -/
def baseProgram : FieldProgram := { id := 0, live := true, fields := [] }

/-- The program in force for a frame. -/
def State.programAt (s : State) (frame : Nat) : FieldProgram :=
  match s.red.programs.find? (fun e => frameGe frame e.1) with
  | some e => e.2
  | none => baseProgram

/-- The staged program. -/
def State.stagedProgram (s : State) : FieldProgram :=
  { id := s.rd Dict.programId, live := s.flag Dict.redMode, fields := decodeFields (s.rdBytes Dict.fields) (s.rd Dict.fieldCount) }

/-- APPLY of the staged program: the state after it and its completion code. -/
def State.applyProgram (s : State) : State × Nat :=
  let f := s.rd Dict.applyFrame
  if s.tooLate f then (s, 1)
  else (s.setRed { s.red with programs := (f, s.stagedProgram) :: s.red.programs, programDue := s.red.programDue ++ [(f, s.stagedProgram)] }, 0)

/-- A write of APPLY (OD 2215.00) at its target. -/
def State.serveProgramApply (rq : Requester) (s : State) : State := s.serveCmd rq Dict.programApply 0 State.applyProgram

/-- PROGRAM_APPLY (07 R130). -/
def execProgramApply (dt : Nat) (rq : Requester) (s : State) : Host.Outcome State Fault Refusal :=
  .next (s.asked dt rq (rq.put Dict.programApply 0 0) (State.serveProgramApply rq))

/-- The 16 bytes of a field descriptor (Table 07-1). -/
def FieldDesc.bytes (d : FieldDesc) : Bytes :=
  leBytes 16 (packBits [(4, d.op), (4, d.srcKind), (12, d.srcIndex), (2, d.codeMode), (6, d.hshift), (36, 0), (64, ofSigned 64 d.hbase)])

/-- One PROGRAM entry (Table 20-2). -/
def programEntry (f : Nat) (p : FieldProgram) (part : Nat) : Bytes :=
  leBytes 4 f ++ leBytes 2 p.id ++ leBytes 1 (bit p.live) ++ leBytes 1 part ++ leBytes 2 p.fields.length ++ zeros 6 ++
    fitBytes 2048 ((((p.fields.drop (128 * part)).take 128).map FieldDesc.bytes).flatten)

/-- PROGRAM entries of the programs that come into force with a frame (Table 20-2). -/
def State.journalPrograms (s : State) (frame : Nat) : State :=
  let due := s.red.programDue.filter (fun e => frameGe frame e.1)
  due.foldl (fun t e => (t.journalEntry jnProgram frame (programEntry e.1 e.2 0)).journalEntry jnProgram frame (programEntry e.1 e.2 1))
    (s.setRed { s.red with programDue := s.red.programDue.filter (fun e => !(frameGe frame e.1)) })

/-! ### The closing machines (Table 07-7) -/

/-- PENDING follows the machines. -/
def State.syncPending (s : State) : State := s.wr Dict.redPending s.red.frames.length

/-- The machine of a frame. -/
def State.machine (s : State) (frame : Nat) : Option RedFrame := s.red.frames.find? (fun f => f.frame == frame)

/-- A machine takes a value. -/
def State.setMachine (s : State) (f : RedFrame) : State :=
  s.setRed { s.red with frames := s.red.frames.map (fun g => if g.frame == f.frame then f else g) }

/-- Does a frame count as SENT (07 R151, R153)? -/
def State.isSent (s : State) (frame : Nat) : Bool :=
  (match s.red.lastSent with
   | some l => frameGe l frame
   | none => false) ||
  (match s.red.firstPulse with
   | some p => frameGt p frame
   | none => false)

/-- Every expected port has a stored record or is marked missing. -/
def RedFrame.complete (f : RedFrame) : Bool :=
  f.expected.all (fun e => f.stored.any (fun r => r.1 == e.1) || f.missing.contains e.1)

/-- Ports expected without a record and not marked missing. -/
def RedFrame.open_ (f : RedFrame) : List Nat :=
  (f.expected.filter (fun e => !(f.stored.any (fun r => r.1 == e.1)) && !f.missing.contains e.1)).map (·.1)

/-- Dies marked missing: the sets of the ports marked (07 R149). -/
def RedFrame.missingDies (f : RedFrame) : List Nat :=
  ((f.expected.filter (fun e => f.missing.contains e.1)).map (·.2)).flatten

/-! ### Merging (07 R142, R146) -/

/-- TSCORE values of a field: (die, engine, value), ascending die, then engine. -/
def State.tscores (s : State) (frame slot : Nat) : List (Nat × Nat × Int) :=
  sortBy (fun a b => decide (a.1 < b.1) || (a.1 == b.1 && decide (a.2.1 ≤ b.2.1)))
    ((s.red.scores.filter (fun t => t.frame == frame && t.slot == slot && !t.unscored)).map (fun t => (t.die, t.engine, scoreValue t.link t.score)))

/-- A vector of a frame still waits for its score in a slot (07 R146). -/
def State.outstanding (s : State) (frame slot : Nat) : Bool := (s.dslot slot).queue.any (fun v => v.frame == frame)

/-- The TRAY's own TSCORE values enter a merged record (07 R142, R146). -/
def State.enterTscores (s : State) (p : FieldProgram) (scored : Nat) (r : RedRec) : RedRec :=
  if s.role != .tray || !p.live then r
  else
    let ts (d : FieldDesc) (f : RecField) : RecField :=
      if d.srcKind ≠ 9 then f
      else
        let f1 := (s.tscores scored d.srcIndex).foldl (fun (f : RecField) e => f.enter d e.2.2 e.1) f
        if s.outstanding scored d.srcIndex then { f1 with short := true } else f1
    let isShort := p.fields.any (fun d => d.srcKind == 9 && s.outstanding scored d.srcIndex)
    { r with fields := List.zipWith ts p.fields r.fields, short := r.short || isShort }

/-- A record of exact fields with the order-variable fields of another. -/
def withVariable (p : FieldProgram) (a b : RedRec) : RedRec :=
  { a with fields := List.zipWith (fun d (ab : RecField × RecField) => if opOrderVariable d.op then ab.2 else ab.1) p.fields (a.fields.zip b.fields) }

/-- The merged record of a frame (07 R142, R143, R149). -/
def State.mergeFrame (s : State) (f : RedFrame) : RedRec :=
  let p := s.programAt f.frame
  let start := RedRec.start p f.frame (s.rd Dict.memberEpoch) s.level
  let inOrder := f.expected.filterMap (fun e => (f.stored.find? (fun r => r.1 == e.1)).map (·.2))
  let exact := inOrder.foldl (RedRec.merge p s.free) start
  let arrival := (f.stored.map (·.2)).foldl (RedRec.merge p s.free) start
  let r := s.enterTscores p ((f.frame + 2 ^ 32 - s.rd Dict.scoreLag) % 2 ^ 32) (withVariable p exact arrival)
  let dies := f.missingDies
  { r with missing := unionDies r.missing dies, missingN := r.missingN + dies.length
           deadline := r.deadline || f.byDeadline, gap := r.gap || f.gap, forced := r.forced || f.forced
           wild := if f.spoiled.isSome then f.spoiled else if p.sized then r.wild else some s.free }

/-! ### Centres (04 R86, R87) -/

/-- A centre record's bytes (Table 04-4). -/
def centreBytes (frame level : Nat) (buddy : Bool) (es : List (Nat × Nat × Nat)) : Bytes :=
  leBytes 8 (packBits [(32, frame), (2, level), (1, bit buddy), (23, 0), (6, es.length)]) ++
    (es.map (fun e => leBytes 4 (packBits [(8, e.1), (8, e.2.1), (16, e.2.2)]))).flatten

/-- The die features listed in CENTRE_LIST, each once (04 R86, R93). -/
def State.centreFeatures (s : State) : List Nat :=
  ((((s.bytesAtPulse Dict.centreList).take 32).map (·.toNat)).filter (· != 0xFF)).foldl (fun l f => if l.contains f then l else l ++ [f]) []

/-- One set of tray centres: over the vectors of primary children or of buddy-carried leaves. -/
def State.traySet (s : State) (frame : Nat) (buddy : Bool) : List (Bytes × List Nat × Bool) :=
  let vs := s.red.vecs.filter (fun v => v.frame == frame && ((s.neighbourPort v.port != 0) == buddy))
  let fs := s.centreFeatures
  if vs.isEmpty || fs.isEmpty then []
  else
    let es := fs.map (fun f => let m := lowerMedian (vs.map (fun v => v.codes.getD f missingCode))
                               (f, m.1, m.2))
    [(centreBytes frame 0 buddy es, vs.map (·.port), !buddy)]

/-- The rack centres of a frame: over the tray centres with N > 0 received for it. -/
def State.rackSet (s : State) (f : RedFrame) : List (Bytes × List Nat × Bool) :=
  let rs := s.red.trayCentres.filter (fun c => c.2.frame == f.frame)
  let fs := (rs.flatMap (fun c => c.2.entries.map (·.1))).foldl (fun l x => if l.contains x then l else l ++ [x]) []
  if rs.isEmpty || fs.isEmpty then []
  else
    let es := (fs.take 32).map (fun x =>
      let m := lowerMedian ((rs.flatMap (fun c => c.2.entries.filter (fun e => e.1 == x && e.2.1 != 0))).map (fun e => e.2.2))
      (x, m.1, m.2))
    [(centreBytes f.frame 1 false es, f.expected.map (·.1), false)]

/-- Centres formed as a frame enters MERGING. -/
def State.formCentres (s : State) (f : RedFrame) : List (Bytes × List Nat × Bool) :=
  match s.role with
  | .tray => s.traySet f.frame false ++ s.traySet f.frame true
  | .rack => s.rackSet f
  | _ => []

/-- A centre record goes down a port (class 3); for a port that is not UP it is discarded (13 R294). -/
def State.sendCentres (s : State) (frame : Nat) (bytes : Bytes) (g : Nat) : State :=
  if !s.groupUp g then s else s.enqueue g 3 { kind := .centres, bytes := bytes, frame := frame }

/-! ### Entering MERGING -/

/-- RECORD and MISSING entries of a frame that enters MERGING (Table 20-2). -/
def State.journalMerge (s : State) (f : RedFrame) : State :=
  let p := s.programAt f.frame
  let recs := f.expected.filterMap (fun e => f.stored.find? (fun r => r.1 == e.1))
  let s1 := recs.foldl (fun t r => t.journalEntry jnRecord f.frame (leBytes 1 r.1 ++ zeros 7 ++ padTo 8 (r.2.bytes p))) s
  (f.expected.filter (fun e => f.missing.contains e.1)).foldl (fun t e =>
    t.journalEntry jnMissing f.frame (leBytes 4 f.frame ++ leBytes 1 e.1 ++ zeros 3 ++ leBytes 4 e.2.length ++
      leBytes 4 (missChunks e.2).length ++ chunkBytes e.2)) s1

/-- A frame enters MERGING: it is merged, its centres are formed, and its record vector reaches the slots (07 R142, R155). -/
def State.enterMerging (s : State) (f : RedFrame) : State :=
  let p := s.programAt f.frame
  let lagged := (f.frame + 2 ^ 32 - s.rd Dict.scoreLag) % 2 ^ 32
  let r := s.mergeFrame f
  let done := (List.range 16).map (fun k => (s.red.scores.filter (fun t => t.frame == lagged && t.slot == k)).length)
  let v : DevVec := { frame := f.frame, codes := r.vectorCodes p (s.free + 1), vkind := 2 }
  let n := ((s.reachFrame f.frame).entered 2 0 f.frame).length
  let s1 := s.setMachine { f with merged := some r, tsDone := done, centres := s.formCentres f, scoring := n }
  let s2 := { s1 with free := s1.free + p.fields.length + 1 }
  ((s2.setRed { s2.red with vecs := s2.red.vecs.filter (fun v => v.frame != f.frame)
                            trayCentres := s2.red.trayCentres.filter (fun c => c.2.frame != f.frame) }).journalMerge f).enterSlots 2 v

/-- A frame that is OPEN and complete enters MERGING. -/
def State.checkFrame (s : State) (frame : Nat) : State :=
  match s.machine frame with
  | none => s
  | some f => if f.merged.isNone && f.complete then s.enterMerging f else s

/-- A frame that is OPEN closes with every port without a record marked missing. -/
def State.closeMissing (s : State) (f : RedFrame) : State := s.enterMerging { f with missing := f.missing ++ f.open_ }

/-- A frame still OPEN 4,096 frames later closes as FORCED (07 R152); its record gives the dies of every port that this chip marks
missing (17 R350). -/
def State.forceOne (s : State) (f : RedFrame) : State :=
  let added := ({ f with missing := f.missing ++ f.open_ } : RedFrame).missingDies.length
  ((s.closeMissing { f with forced := true }).bumpSat Dict.forcedCloses).raise true false recFrameForced
    (packBits [(32, f.frame), (18, added), (78, 0)])

/-- The window's oldest frames give way to a frame that is opened (07 R152). -/
def State.forceOld (s : State) (frame : Nat) : State :=
  (s.red.frames.filter (fun f => f.merged.isNone && frameGe ((frame + 2 ^ 32 - 4096) % 2 ^ 32) f.frame)).foldl State.forceOne s

/-- A frame is opened: its expected set is fixed, and its deadline starts under LIVE (07 R141, R147, R149). -/
def State.openFrame (s : State) (frame : Nat) (due : Option Nat) : State :=
  if s.isDie || (s.machine frame).isSome || s.isSent frame then s
  else
    let es := s.expectedSet frame
    let p := s.programAt frame
    let f : RedFrame := { frame := frame, expected := es, nothing := es.isEmpty
                          deadline := if p.live then due.map (· + s.rd Dict.deadline) else none }
    let s1 := (s.forceOld frame).startOldest frame
    ((s1.setRed { s1.red with frames := insertBy (fun a b => frameGe b.frame a.frame) f s1.red.frames }).checkFrame frame).syncPending

/-! ### Records of children (Table 07-7, R150) -/

/-- A record that is discarded as late is counted (Table 07-7). -/
def State.lateRecord (s : State) (g : Nat) : State := (s.bumpSat Dict.lateRecords).bumpSat Dict.childLate g

/-- A record for a later frame shows that none will come from the port for an earlier frame (07 R150). -/
def State.gapOne (g : Nat) (s : State) (f : RedFrame) : State :=
  (s.setMachine { f with missing := f.missing ++ [g], gap := true }).bumpSat Dict.gapCloses |>.checkFrame f.frame

/-- Frames before one that still wait for a record of a port. -/
def State.gapFrames (s : State) (g frame : Nat) : List RedFrame :=
  s.red.frames.filter (fun f => f.merged.isNone && frameGt frame f.frame && f.open_.contains g)

/-- A record of an OPEN frame from a port (Table 07-7, R141, R148). -/
def State.storeRecord (s : State) (g : Nat) (f : RedFrame) (r : RedRec) : State :=
  if f.expected.any (fun e => e.1 == g) then
    (if f.stored.any (fun x => x.1 == g) || f.missing.contains g then s
     else (s.setMachine { f with stored := f.stored ++ [(g, r)] }).checkFrame f.frame)
  else if f.emptied.contains g && !(s.programAt f.frame).live then s
  else s.bumpSat Dict.unexpected

/-- A record is heard by its subject's liveness machine (08 R174). -/
def State.hearRecord (s : State) (g frame : Nat) : State :=
  let m := Tbl.getD s.live g {}
  { s with live := Tbl.set s.live g { m with heard := (frame :: m.heard).take 64 } }

/-- A record of frame N from a child port (Table 07-7). Before the chip's first channel 0 pulse since a block- or chip-scope
reset no record opens a frame (07 R153). -/
def State.takeRecord (s : State) (g : Nat) (r : RedRec) : State :=
  let s1 := (s.hearRecord g r.frame).wr Dict.childLastFrame r.frame g
  if s1.isSent r.frame then s1.lateRecord g
  else
    let s2 := (s1.gapFrames g r.frame).foldl (State.gapOne g) s1
    let s3 := if (s2.machine r.frame).isNone && s2.red.firstPulse.isSome then s2.openFrame r.frame (some (s2.frameDue r.frame)) else s2
    match s3.machine r.frame with
    | none => s3
    | some f => if f.merged.isSome then s3.lateRecord g else s3.storeRecord g f r

/-- REDUCTION_RECORD (07 R147): a reduction record arrives on port p. -/
def execReductionRecord (dt p : Nat) (r : RedRec) (s : State) : Host.Outcome State Fault Refusal :=
  .next (s.fromLane dt p 3 (.reductionRecord 0 p r) (fun s => if s.isDown p && s.laneUp p then s.touch.takeRecord (s.groupOf p) r else s))

/-- DEADLINE (07 R149): frames whose deadline has passed close. -/
def State.deadlineOne (s : State) (f : RedFrame) : State := (s.closeMissing { f with byDeadline := true }).bumpSat Dict.deadlineCloses

/-- DEADLINE (07 R149): the deadline of frames has passed under LIVE. -/
def execDeadline (dt : Nat) (s : State) : Host.Outcome State Fault Refusal :=
  .next (s.core dt (fun s =>
    (s.red.frames.filter (fun f => f.merged.isNone && (match f.deadline with
      | some t => decide (t * nsUnits ≤ s.time.now)
      | none => false))).foldl State.deadlineOne s))

/-! ### Members removed (07 R148, 09 R187) -/

/-- Members leave one OPEN frame: their ports shrink, and a port whose set becomes empty drops its record; the ports stay in ascending
order of their lowest die (07 R142). -/
def State.removeFrom (dies : List Nat) (s : State) (f : RedFrame) : State :=
  let es : List (Nat × List Nat) := f.expected.map (fun e => (e.1, e.2.filter (fun d => !dies.contains d)))
  let gone := (es.filter (fun e => e.2.isEmpty)).map (·.1)
  let es1 := es.filter (fun e => !e.2.isEmpty)
  (s.setMachine { f with
    expected := sortBy (fun (a b : Nat × List Nat) => decide (a.2.headD 0 ≤ b.2.headD 0)) es1, emptied := f.emptied ++ gone, stored := f.stored.filter (fun (r : Nat × RedRec) => !gone.contains r.1),
    missing := f.missing.filter (fun p => !gone.contains p), nothing := f.nothing || es1.isEmpty }).checkFrame f.frame

/-- Members leave the expected set of every OPEN frame not before a first frame. -/
def State.removeDies (s : State) (dies : List Nat) (first : Nat) : State :=
  if dies.isEmpty then s
  else (s.red.frames.filter (fun f => f.merged.isNone && frameGe f.frame first)).foldl (State.removeFrom dies) s

/-! ### SENT (07 R151, R154) -/

/-- HOW of a CLOSE entry (Table 20-2). -/
def RedFrame.how (f : RedFrame) : Nat := if f.forced then 3 else if f.byDeadline then 1 else if f.gap then 2 else 0

/-- The CLOSE entry of a frame (Table 20-2). -/
def State.closeEntry (s : State) (f : RedFrame) (epoch : Nat) (sent : Bytes) : State :=
  s.journalEntry jnClose f.frame (leBytes 4 f.frame ++ leBytes 4 epoch ++ leBytes 1 f.how ++ zeros 7 ++
    leBytes 8 (f.missing.foldl setBit 0) ++ ((f.stored.map (fun (r : Nat × RedRec) => leBytes 1 r.1)).flatten ++ List.replicate 48 0xFF).take 48 ++
    ((List.range 16).map (fun k => leBytes 4 (f.tsDone.getD k 0))).flatten ++ leBytes 4 (crc32c sent) ++ zeros 4)

/-- Bytes that a sheet and its score records take in their queue, and what is owed to sheets already queued. -/
def State.sheetQueued (s : State) : Nat := pushQueued s.dap.sheetPushes + 56 * (s.red.sheetOwed.map (·.2)).sum

/-- Segments of a sheet as pushes (15 R331): 1,024 bytes each, one push number. -/
def sheetSegs (number total : Nat) : Nat → Nat → Bytes → List Bytes
  | 0, _, _ => []
  | n + 1, off, bs =>
    if bs.length ≤ 1024 then [pushBytes 0x11 number off total bs]
    else pushBytes 0x11 number off total (bs.take 1024) :: sheetSegs number total n (off + 1024) (bs.drop 1024)

/-- A push of the sheet queue. -/
def State.sheetFrame (s : State) (b : Bytes) : MgmtFrame :=
  { wire := wireBytes b.length, bytes := b, addr := ofLe (s.rdBytes Dict.conductorAddr), port := s.rd Dict.conductorPort }

/-- The ROOT issues a sheet: kept, and pushed with its score records or dropped whole; a dropped sheet leaves a gap in REQ_ID
(07 R154, 15 R331). -/
def State.issueSheet (s : State) (f : RedFrame) (bytes : Bytes) : State :=
  let s1 := s.setRed { s.red with sheets := ((f.frame, bytes) :: s.red.sheets).take 4096 }
  if !s1.flag Dict.sheetPush || (s1.rdBytes Dict.conductorAddr).all (· == 0) then s1
  else
    let segs := sheetSegs (s1.dap.push % 65536) bytes.length (bytes.length / 1024 + 1) 0 bytes
    let need := (segs.map (·.length)).sum + 56 * f.scoring
    if 1048576 < s1.sheetQueued + need then { s1.bumpSat Dict.pushDrops with dap := { s1.dap with push := s1.dap.push + 1 } }
    else
      let n := s1.dap.push
      let sc := f.scored.zipIdx.map (fun e => pushBytes 0x12 ((n + 1 + e.2) % 65536) 0 24 e.1)
      let owed := f.scoring - f.scored.length
      { s1 with
        dap := { s1.dap with push := n + 1 + sc.length, sheetPushes := s1.dap.sheetPushes ++ (segs ++ sc).map s1.sheetFrame }
        red := { s1.red with sheetOwed := if owed = 0 then s1.red.sheetOwed else s1.red.sheetOwed ++ [(f.frame, owed)] } }

/-- The centres of a frame leave with its merged record (04 R86). -/
def State.centresLeave (s : State) (frame : Nat) (c : Bytes × List Nat × Bool) : State :=
  let s1 := c.2.1.foldl (fun t g => t.sendCentres frame c.1 g) s
  if c.2.2 then s1.enqueueUp frame 3 { kind := .centres, bytes := c.1, frame := frame } else s1

/-- The earliest frame, once merged, is SENT: its record goes up, or the sheet is issued. -/
def State.sendFrame (s : State) (f : RedFrame) (r : RedRec) : State :=
  let bytes := r.bytes (s.programAt f.frame)
  let up := s.role != .root
  let quiet := up && f.nothing
  let s1 := f.centres.foldl (fun t c => t.centresLeave f.frame c) s
  let s2 := if quiet then s1
    else if up then (s1.wrBytes Dict.lastRecord bytes).enqueueUp f.frame 3 { kind := .record, bytes := bytes, frame := f.frame }
    else (s1.wrBytes Dict.lastRecord bytes).issueSheet f bytes
  let s3 := s2.closeEntry f r.epoch (if quiet then [] else bytes)
  State.syncPending (s3.setRed { s3.red with
    frames := s3.red.frames.filter (fun g => g.frame != f.frame), lastSent := some f.frame
    scores := s3.red.scores.filter (fun t => frameGe ((t.frame + 255) % 2 ^ 32) f.frame) })

/-- MERGE_COMPLETE (07 R151): the merge of the earliest frame not SENT is complete. -/
def execMergeComplete (dt : Nat) (s : State) : Host.Outcome State Fault Refusal :=
  .next (s.core dt (fun s => match s.red.frames with
    | f :: _ => (match f.merged with
      | some r => s.sendFrame f r
      | none => s)
    | [] => s))

end Sys2Proof.Machine
end

