-- ==== Sys2Proof/Machine/Barrier.lean ====
section
/-! DEFINITION. Class 1 at a chip: hop acknowledgements, port sets, re-issue, acknowledgement unions, barriers (09 R180 to R202). -/

namespace Sys2Proof.Machine

open Sys2Proof

/-- Chapter 09's part of the state takes a value. -/
def State.setBar (s : State) (b : Barriers) : State := { s with bar := b }

/-- BARRIERS_OPEN, TREES_ACTIVE and EPOCH_BACKLOG follow what the chip holds (Table 09-11). -/
def State.syncBar (s : State) : State :=
  if s.isDie then s
  else
    let segEntries (m : DownMsg) : Nat := match m.body with
      | .epoch _ _ _ _ es => es.length
      | _ => 0
    ((s.wr Dict.barriersOpen s.bar.openBars.length).wr Dict.treesActive (1 + (s.bar.trees.filter (fun e => e.1 != 0xFFF)).length)).wr
      Dict.epochBacklog ((s.bar.segs.map segEntries).sum)

/-- A class 1 message goes into a group's queue. -/
def State.sendClass1 (s : State) (g prec : Nat) (kind : MsgKind) (bytes : Bytes) : State :=
  s.enqueue g 1 { kind := kind, bytes := bytes, frame := s.frameNow, prec := prec }

/-- Precedence of a downward message (Table 09-3). -/
def DownBody.prec : DownBody → Nat
  | .release _ _ => 0
  | .bcast op _ => if op = 2 then 1 else if op = 4 then 2 else 3
  | .epoch _ _ _ _ _ => 2

/-- A downward message goes into a group's queue. -/
def State.sendDown (s : State) (m : DownMsg) (g : Nat) : State := s.sendClass1 g m.body.prec m.body.kind m.bytes

/-- HOP_ACK to the sending port (09 R183). -/
def State.hopAck (s : State) (p typ job id seq : Nat) : State :=
  s.sendClass1 (s.groupOf p) 0 .hopAck (class1Bytes 5 job id seq (s.rd Dict.memberEpoch) s.level false (leBytes 1 typ ++ zeros 7))

/-- HOP_ACK of a downward message. -/
def State.hopAckOf (s : State) (p : Nat) (m : DownMsg) : State := s.hopAck p m.body.typ m.job m.id m.seq

/-! ### Ports (09 R190, Table 13-6) -/

/-- The last IDENT received on a group's lowest lane. -/
def State.identOf (s : State) (g : Nat) : Nat := ofLe (s.rdBytes Dict.laneNeighbour g)

/-- A child has trained on the group. -/
def State.portKnown (s : State) (g : Nat) : Bool := s.identOf g != 0

/-- The group is a child's buddy lane: its IDENT's USE. -/
def State.buddyPort (s : State) (g : Nat) : Bool := fieldOf (s.identOf g) 105 104 == 2

/-- The group's child is a leaf. -/
def State.leafPort (s : State) (g : Nat) : Bool := s.portKnown g && fieldOf (s.identOf g) 127 120 == 0

/-- The groups with a child. -/
def State.childPorts (s : State) : List Nat := s.downGroups.filter s.portKnown

/-- The group of the pair of the child on a group, under the reference wiring (Table 01-3): children 2k and 2k + 1. -/
def State.pairGroup (s : State) (g : Nat) : Option Nat :=
  let gs := s.downGroups
  match gs.findIdx? (fun x => x == g) with
  | some i => gs[if i % 2 = 0 then i + 1 else i - 1]?
  | none => none

/-- Does a port qualify for a job's tree (09 R190)? A primary port: the route table has routed a die of the job through it, or, for a
leaf port, IDENT names one. A buddy port: it leads to a chip, or IDENT names one. -/
def State.qualifies (s : State) (dies : List Nat) (g : Nat) : Bool :=
  let named := s.leafPort g && (match s.neighbourDie g with
    | some d => dies.contains d
    | none => false)
  let routed := dies.any (fun d => match Tbl.get? s.rt.table d with
    | some e => e.ever.contains g
    | none => false)
  if s.buddyPort g then !s.leafPort g || named else named || routed

/-- The port sets grow (09 R190). -/
def State.growTrees (s : State) : State :=
  if s.isDie then s
  else
    let ports := s.childPorts
    let grow (t : Tree) : Tree :=
      let dies := s.jobDies t.job
      { t with ports := t.ports ++ ports.filter (fun g => !t.ports.contains g && s.qualifies dies g) }
    s.setBar { s.bar with trees := s.bar.trees.map (fun e => (e.1, grow e.2)) }

/-- The tree of a job. -/
def State.treeOf (s : State) (job : Nat) : Option (Nat × Tree) := s.bar.trees.find? (fun e => e.1 != 0xFFF && e.2.job == job)

/-- A message's port set, and the dies whose routes open its buddy ports. -/
def State.portSet (s : State) (m : DownMsg) : List Nat × List Nat :=
  let pod := (s.childPorts, s.routedDies s.frameNow)
  match m.body with
  | .release _ _ => (match s.treeOf m.job with
    | some t => (t.2.ports, s.jobDies m.job)
    | none => ([], []))
  | .bcast _ _ => if m.id = 0xFFF then pod else (match Tbl.get? s.bar.trees m.id with
    | some t => (t.ports, s.jobDies t.job)
    | none => ([], []))
  | .epoch _ _ _ _ _ => pod

/-- The ports that carry a message: the primary ports of the set and the buddy ports routed through; a re-issue, the buddy ports. -/
def State.portsFor (s : State) (m : DownMsg) (buddy : Bool) : List Nat :=
  let ps := s.portSet m
  let routed := ps.2.filterMap (fun d => s.portOf d s.frameNow)
  ps.1.filter (fun g => if buddy then s.buddyPort g else !s.buddyPort g || routed.contains g)

/-! ### The chip's machine (Table 09-8, R196) -/

/-- Is an acknowledgement union of a broadcast held? -/
def State.unionOf (s : State) (tree seq : Nat) : Option AckUnion := s.bar.unions.find? (fun u => u.tree == tree && u.seq == seq)

/-- A union takes a value. -/
def State.setUnion (s : State) (u : AckUnion) : State :=
  s.setBar { s.bar with unions := u :: s.bar.unions.filter (fun v => !(v.tree == u.tree && v.seq == u.seq)) }

/-- Acknowledgements sent on (at the ROOT: held) cover the dies of the job routed through the chip. -/
def State.covered (s : State) (m : DownMsg) : Bool :=
  let got := match s.unionOf m.id m.seq with
    | some u => if s.role == Role.root then u.union else u.sent
    | none => []
  (s.jobRouted m.job).all got.contains

/-- What becomes of a machine without outstanding HOP_ACKs: BCAST collects, anything else goes to idle. -/
def State.settleOne (s : State) (f : Forward) : Option Forward :=
  if !f.waits.isEmpty then some f
  else match f.msg.body with
    | .bcast op _ => if f.msg.reissue || op == 4 || s.covered f.msg then none else some { f with collecting := true }
    | _ => none

/-- The machines move on. -/
def State.settle (s : State) : State := s.setBar { s.bar with fwd := s.bar.fwd.filterMap s.settleOne }

/-- A machine enters FORWARDING. -/
def State.addForward (s : State) (f : Forward) : State := s.setBar { s.bar with fwd := s.bar.fwd ++ [f] }

/-- Local time at which the NACK timeout of a message sent now falls due (09 R183, R204). -/
def State.nackDue (s : State) : Nat := s.time.now + s.rd Dict.nackTimeout * nsUnits

/-- A message is re-issued for a port (09 R196): to the pair of its child, or, for a leaf, up the route. A RESYNC belongs to
its link and is not re-issued (DEDUCED, 09 R188). -/
def State.reissueFor (s : State) (m : DownMsg) (g : Nat) : State :=
  let resync := match m.body with
    | .epoch _ _ _ r _ => r
    | _ => false
  let target := if s.leafPort g then s.outNow else s.pairGroup g
  match target with
  | none => s
  | some t =>
    if resync || !s.groupUp t then s
    else
      let mr := { m with reissue := true, level := s.level }
      (s.sendDown mr t).addForward { msg := mr, waits := [(t, s.nackDue)] }

/-- A port has had a NACK timeout, or its link is down: the message is re-issued for it and counted. -/
def State.nack (s : State) (m : DownMsg) (g : Nat) : State := (s.bumpSat Dict.reissues).reissueFor m g

/-- A message goes to ports, each awaiting its HOP_ACK; a port that is not UP counts as timed out at once (09 R183). -/
def State.sendPorts (s : State) (m : DownMsg) (ports : List Nat) : State :=
  let mm := { m with level := s.level, reissue := false }
  let up := ports.filter s.groupUp
  let s1 := (up.foldl (fun t g => t.sendDown mm g) s).addForward { msg := mm, waits := up.map (fun g => (g, s.nackDue)) }
  State.settle ((ports.filter (fun g => !s.groupUp g)).foldl (fun t g => t.nack mm g) s1)

/-- The copy of an epoch for a leaf port (09 R186): its die's entry, and its job's size where the epoch carries one. -/
def State.leafCopy (s : State) (m : DownMsg) (g : Nat) : Option DownMsg :=
  match m.body, s.neighbourDie g with
  | .epoch ff _ _ resync _, some d =>
    let e := s.memberEntry d
    let size := if resync then (if e.2 = 0xFFFF then none else some (s.jobDies e.2).length)
      else ((s.bar.sizes.find? (fun x => x.1 == m.epoch)).bind (fun x => x.2.find? (fun y => y.1 == e.2))).map (·.2)
    some { m with body := .epoch ff 0 1 resync (.die d e.2 e.1 :: (match size with
      | some n => [.size e.2 n]
      | none => [])) }
  | _, _ => none

/-- An epoch's segment for the leaf ports among some ports. -/
def State.sendLeaves (s : State) (m : DownMsg) (ports : List Nat) : State :=
  (ports.filter s.leafPort).foldl (fun t g => match t.leafCopy m g with
    | some c => t.sendPorts c [g]
    | none => t) s

/-- A broadcast is forwarded to its port set; a re-issue to the set's buddy ports, REISSUE clear. -/
def State.fan (s : State) (m : DownMsg) (buddy : Bool) : State :=
  let s1 := s.growTrees
  let ports := s1.portsFor m buddy
  match m.body with
  | .epoch _ _ _ _ _ =>
    let s2 := s1.sendPorts m (ports.filter (fun g => !s1.leafPort g))
    if buddy then s2.sendLeaves m ports else s2
  | _ => s1.sendPorts m ports

/-- A HOP_ACK finds the oldest machine that waits for it. -/
def ackFirst (g typ job id seq : Nat) : List Forward → List Forward
  | [] => []
  | f :: t =>
    if f.msg.body.typ == typ && f.msg.job == job && f.msg.id == id && f.msg.seq == seq && f.waits.any (fun w => w.1 == g) then
      { f with waits := f.waits.filter (fun w => w.1 != g), acked := f.acked ++ [g] } :: t
    else f :: ackFirst g typ job id seq t

/-- Ports of a machine are given up: their waits end, and what was not itself a re-issue is re-issued for them; a machine that is
COLLECTING counts none of it (Table 09-8). -/
def State.giveUp (s : State) (gone : Forward → List Nat) : State :=
  let work := s.bar.fwd.flatMap (fun f => if f.msg.reissue then [] else (gone f).map (fun g => (f, g)))
  let left := s.bar.fwd.map (fun f => { f with waits := f.waits.filter (fun w => !(gone f).contains w.1), acked := f.acked.filter (fun g => !(gone f).contains g) })
  State.settle (work.foldl (fun t e => if e.1.waits.isEmpty then t.reissueFor e.1.msg e.2 else t.nack e.1.msg e.2) (s.setBar { s.bar with fwd := left }))

/-- A group's link is down (09 R183, Table 09-8). -/
def State.linkLost (s : State) (g : Nat) : State :=
  s.giveUp (fun f => if f.waits.any (fun w => w.1 == g) || f.acked.contains g then [g] else [])

/-- NACK_TIMEOUT has passed for some ports. -/
def State.nackTimeouts (s : State) : State :=
  s.giveUp (fun f => (f.waits.filter (fun w => decide (w.2 ≤ s.time.now))).map (·.1))

/-! ### Acknowledgement unions (09 R193) -/

/-- A union goes upward. -/
def State.sendUnion (s : State) (u : AckUnion) : State :=
  let body := leBytes 4 (missChunks u.union).length ++ zeros 4 ++ chunkBytes u.union
  let bytes := class1Bytes 4 u.job u.tree u.seq (s.rd Dict.memberEpoch) s.level false body
  let s1 := s.enqueueUp s.frameNow 1 { kind := .bcastAck, bytes := bytes, frame := s.frameNow, prec := 4 }
  (s1.setUnion { u with sent := u.union, due := none }).settle

/-- ACK_HOLD has passed after the first acknowledgement not yet sent. -/
def State.flushUnions (s : State) : State :=
  (s.bar.unions.filter (fun u => match u.due with
    | some t => decide (t ≤ s.time.now)
    | none => false)).foldl State.sendUnion s

/-- Unions that cover every die of their job now routed through the chip go upward without waiting out ACK_HOLD. -/
def State.sendCovered (s : State) : State :=
  if s.isDie || s.role == Role.root then s
  else (s.bar.unions.filter (fun u => u.due.isSome && (s.jobRouted u.job).all u.union.contains)).foldl State.sendUnion s

/-! ### Liveness (08 R173 to R177) -/

/-- Subject of a machine: its die at a TRAY. -/
def State.subjectDie (s : State) (g : Nat) : Option Nat :=
  match s.neighbourDie g with
  | some d => some d
  | none => (s.diesBelow g s.frameNow).head?

/-- Groups that have a machine. -/
def State.liveSubjects (s : State) : List Nat :=
  s.downGroups.filter (fun g => if s.role == .tray then (s.subjectDie g).isSome else s.portKnown g)

/-- Does the membership in force include a machine's subject? -/
def State.subjectMember (s : State) (g : Nat) : Bool :=
  if s.role == .tray then (match s.subjectDie g with
    | some d => s.isMember d
    | none => false)
  else (s.diesBelow g s.frameNow).any s.isMember

/-- A machine follows its subject in the frames whose upward route passes through this TRAY at its port; in the others it holds
its state and its silence count (08 R173). A chip child is always followed. -/
def State.liveHere (s : State) (g frame : Nat) : Bool :=
  s.role != .tray || (match s.subjectDie g with
    | some d => s.portOf d frame == some g
    | none => false)

/-- The barrier that a subject is waiting at: open here, so no release of it has reached the chip (08 R175). -/
def State.waitingAt (s : State) (g : Nat) : Option Nat :=
  if s.role != .tray then none
  else match s.subjectDie g with
    | none => none
    | some d => (s.bar.openBars.find? (fun b => b.job == (s.memberEntry d).2 && s.isMember d && decide (b.first + s.rdAtPulse Dict.stallNs * nsUnits < s.time.now) &&
        !b.relSeen && !b.arrived.contains d)).map (·.barrier)

/-- A LIVENESS payload (Table 08-8). -/
def State.livePayload (s : State) (g old new : Nat) : Nat :=
  let m := Tbl.getD s.live g {}
  let chip := s.role != .tray
  let die := (s.subjectDie g).getD 0
  let w := s.waitingAt g
  packBits [(17, if chip then 0 else die), (1, bit chip), (6, g), (3, old), (3, new), (32, m.silence),
    (16, if chip then Config.freeNat s.free % 65536 else (s.memberEntry die).2), (12, w.getD 0), (1, bit w.isSome), (32, s.rd Dict.memberEpoch), (5, 0)]

/-- A machine moves to a state and writes its record. -/
def State.liveMove (s : State) (g new : Nat) : State :=
  let m := Tbl.getD s.live g {}
  let silence := if m.state = 4 ∧ new = 0 then 0 else m.silence
  let stall := if new = 2 then (s.waitingAt g).map (fun b => ((s.memberEntry ((s.subjectDie g).getD 0)).2, b)) else none
  let s1 := { s with live := Tbl.set s.live g { m with state := new, silence := silence, stall := stall } }
  let alarm := new == 2 || new == 3 || (m.state == 3 && new == 0)
  let payload := s1.livePayload g m.state new
  let s2 := if s1.role == .tray then s1 else s1.drawn
  if alarm then s2.raiseAlarm recLiveness payload else s2.raiseO recLiveness payload

/-- The next state of a machine by Table 08-7, if an event of a row holds; STALLED is left by `liveUnstall` for ALIVE. -/
def State.liveNext (s : State) (g : Nat) : Option Nat :=
  let m := Tbl.getD s.live g {}
  let inMember := s.subjectMember g
  let waits := (s.waitingAt g).isSome
  let quiet := decide (s.rdAtPulse Dict.quietFrames ≤ m.silence)
  match m.state with
  | 4 => if inMember then some 0 else none
  | st =>
    if !inMember then some 4
    else if (st = 0 ∨ st = 2) ∧ quiet then some 1
    else if st = 0 ∧ waits ∧ m.silence = 0 then some 2
    else if st = 1 ∧ s.rdAtPulse Dict.lostFrames ≤ m.silence then some 3
    else if st = 1 ∧ m.silence = 0 then some 0
    else if st = 3 ∧ m.silence = 0 then some 0
    else none

/-- A machine follows Table 08-7 until no row applies; three moves are the most that one instant brings. -/
def State.liveSettle : Nat → State → Nat → State
  | 0, s, _ => s
  | n + 1, s, g => match s.liveNext g with
    | some st => State.liveSettle n (s.liveMove g st) g
    | none => s

/-- Machines that only membership moves: FENCED is left and entered as the membership says. -/
def State.liveMembers (s : State) : State :=
  if s.isDie then s
  else s.liveSubjects.foldl (fun t g =>
    let fenced := (Tbl.getD t.live g {}).state == 4
    if !t.liveHere g t.frameNow then t
    else if fenced && t.subjectMember g then t.liveMove g 0 else if !fenced && !t.subjectMember g then t.liveMove g 4 else t) s

/-- Dies (all, where none are named) have arrived at a barrier, or its release has: the machines that wait there leave STALLED, and
follow Table 08-7 from ALIVE (08 R176). -/
def State.liveUnstall (s : State) (job barrier : Nat) (dies : Option (List Nat)) : State :=
  if s.isDie then s
  else s.liveSubjects.foldl (fun t g =>
    let m := Tbl.getD t.live g {}
    let mine := match dies, t.subjectDie g with
      | some ds, some d => ds.contains d
      | none, _ => true
      | some _, none => false
    if m.state == 2 && m.stall == some (job, barrier) && mine && t.liveHere g t.frameNow then State.liveSettle 3 (t.liveMove g 0) g else t) s

/-- The check of a channel 0 pulse for frame N: M = N - LIVE_LAG (08 R174). -/
def State.livePulse (s : State) (n : Nat) : State :=
  if s.isDie then s
  else
    let frame := (n + 2 ^ 32 - s.rdAtPulse Dict.liveLag) % 2 ^ 32
    let check (t : State) (g : Nat) : State :=
      let m := Tbl.getD t.live g {}
      if !t.liveHere g frame then t
      else State.liveSettle 3 { t with live := Tbl.set t.live g { m with silence := if m.heard.contains frame then 0 else satTo 32 (m.silence + 1) } } g
    s.liveSubjects.foldl check s

/-- STALL_TIMEOUT (08 R175): a barrier stays open beyond STALL_NS while a die has not arrived. -/
def execStallTimeout (dt : Nat) (s : State) : Host.Outcome State Fault Refusal :=
  .next (s.core dt (fun s => if s.role != .tray then s else s.liveSubjects.foldl (fun t g =>
    let m := Tbl.getD t.live g {}
    if m.state == 0 && m.silence == 0 && (t.waitingAt g).isSome && t.subjectMember g && t.liveHere g t.frameNow then t.liveMove g 2 else t) s))

/-! ### Broadcasts and releases pass (09 R189, R194, R195, R200) -/

/-- The key by which a message is known again. -/
def DownMsg.key (m : DownMsg) : Nat × Nat × Nat × Nat :=
  match m.body with
  | .release t _ => (2, m.job, m.id, t)
  | .bcast _ _ => (3, m.id, m.seq, 0)
  | .epoch _ seg _ _ _ => (6, m.epoch, seg, 0)

/-- Has the chip seen a message (Table 09-8)? -/
def State.seenDown (s : State) (m : DownMsg) : Bool :=
  s.bar.held.any (fun h => h.key == m.key && !h.reissue) ||
  (match m.body with
   | .release t _ => (Tbl.getD s.bar.lastRel m.job []).contains (m.id, t)
   | .bcast _ _ => (match Tbl.get? s.bar.trees m.id with
     | some t => t.seq == some m.seq
     | none => false)
   | .epoch _ seg _ _ _ => frameGe (s.rd Dict.memberEpoch) m.epoch || s.bar.segs.any (fun h => h.key == m.key) ||
     (match s.bar.applying with
      | some (e, n) => e == m.epoch && decide (seg < n)
      | none => false))

/-- A tree's entry, its unions and its machines are freed (09 R194). -/
def State.freeTree (s : State) (tree : Nat) : State :=
  s.setBar { s.bar with
    trees := Tbl.del s.bar.trees tree, unions := s.bar.unions.filter (fun u => u.tree != tree)
    fwd := s.bar.fwd.filter (fun f => !(f.msg.body.typ == 3 && f.msg.id == tree)), reissued := s.bar.reissued.filter (fun k => !(k.1 == 3 && k.2.1 == tree)) }

/-- The tree of a broadcast takes its SEQ; a JOB_START creates the entry. -/
def State.noteBcast (s : State) (m : DownMsg) (op : Nat) : State :=
  let put (t : Tree) : State := s.setBar { s.bar with
    trees := Tbl.set s.bar.trees m.id { t with seq := some m.seq, op := op }, unions := s.bar.unions.filter (fun u => u.tree != m.id || u.seq == m.seq) }
  match Tbl.get? s.bar.trees m.id with
  | some t => put t
  | none => if op = 1 ∨ m.id = 0xFFF then put { job := m.job } else s

/-- A downward message that R189 no longer holds is acted on and forwarded. -/
def State.actDown (s : State) (m : DownMsg) : State :=
  match m.body with
  | .release t _ =>
    let s1 := s.setBar { s.bar with
      openBars := s.bar.openBars.filter (fun b => !(b.job == m.job && b.barrier == m.id)), lastRel := Tbl.set s.bar.lastRel m.job (((m.id, t) :: Tbl.getD s.bar.lastRel m.job []).take 1024) }
    ((s1.liveUnstall m.job m.id none).fan m false).syncBar
  | .bcast op payload =>
    let s1 := s.noteBcast m op
    let s2 := if op = 4 then s1.freeTree (leAt payload 0 2) else s1
    (s2.fan m false).syncBar
  | .epoch _ _ _ _ _ => s

/-- A message with REISSUE set from above goes to the buddy ports of the chip's own port set (09 R196). A JOB_START creates the tree's
entry, whose SEQ stays open for the broadcast itself; TREE_FREED frees the entry. -/
def State.actReissue (s : State) (m : DownMsg) : State :=
  match m.body with
  | .bcast op payload =>
    let new := op == 1 && (Tbl.get? s.bar.trees m.id).isNone
    let s1 := if new then s.setBar { s.bar with trees := Tbl.set s.bar.trees m.id { job := m.job, op := op } } else s
    let s2 := if op = 4 then s1.freeTree (leAt payload 0 2) else s1
    (s2.fan m true).syncBar
  | _ => s.fan m true

/-- Is a message held until its epoch is applied (09 R189)? A re-issued EPOCH segment waits for the chip's own. -/
def State.heldBack (s : State) (m : DownMsg) : Bool := frameGt m.epoch (s.rd Dict.memberEpoch)

/-- Messages whose epoch has been applied leave the hold. -/
def State.releaseHeld (s : State) : State :=
  let go := s.bar.held.filter (fun m => !s.heldBack m)
  go.foldl (fun t m => if m.reissue then t.actReissue m else t.actDown m) (s.setBar { s.bar with held := s.bar.held.filter s.heldBack })

/-! ### The ROOT (09 R191, R194, R201) -/

/-- A broadcast leaves the ROOT: its acknowledgement set is fixed (09 R194). -/
def State.issueNow (s : State) (m : DownMsg) : State :=
  let mm := { m with epoch := s.rd Dict.memberEpoch, level := s.level }
  let s1 := match Tbl.get? s.bar.trees m.id with
    | some t => s.setBar { s.bar with trees := Tbl.set s.bar.trees m.id { t with issued := true, ackSet := s.jobDies m.job, reportAt := s.time.now + s.rd Dict.ackReport * nsUnits } }
    | none => s
  s1.actDown mm

/-- A tree's broadcast is acknowledged by every die of its set. -/
def State.bcastDone (s : State) (tree : Nat) (t : Tree) : Bool :=
  t.issued && !t.complete && (match t.seq with
    | some q => t.ackSet.all (fun d => match s.unionOf tree q with
      | some u => u.union.contains d
      | none => false)
    | none => false)

/-- TREE_FREED goes out on the pod tree (09 R194). -/
def State.issueFreed (s : State) (tree : Nat) : State :=
  let m : DownMsg := { job := 0xFFFF, id := 0xFFF, seq := s.bar.podSeq, epoch := s.rd Dict.memberEpoch, level := s.level, reissue := false
                       body := .bcast 4 (leBytes 2 tree) }
  (s.setBar { s.bar with podSeq := (s.bar.podSeq + 1) % 65536 }).actDown m

/-- Trees whose broadcast is complete: a start may release its barrier, a teardown frees the tree. -/
def State.completeBcasts (s : State) : State :=
  if s.role != Role.root then s
  else (s.bar.trees.filter (fun e => s.bcastDone e.1 e.2)).foldl (fun t e =>
    if e.2.op = 2 then (t.freeTree e.1).issueFreed e.1
    else t.setBar { t.bar with trees := Tbl.set t.bar.trees e.1 { e.2 with complete := true, started := e.2.started || e.2.op == 1 } }) s

/-- Does the start broadcast of a job still hold a barrier back (09 R201)? -/
def State.startHolds (s : State) (b : OpenBarrier) : Bool :=
  match s.treeOf b.job with
  | some (_, t) => t.startBarrier == b.barrier && !t.started
  | none => false

/-- The ROOT releases a barrier (09 R201). -/
def State.releaseBarrier (s : State) (b : OpenBarrier) : State :=
  let die := match b.latest with
    | some (_, d) => d
    | none => s.freeVal % 2 ^ 17
  let s1 := if b.latest.isSome then s else s.drawn
  s1.actDown { job := b.job, id := b.barrier, seq := 0, epoch := s.rd Dict.memberEpoch, level := s.level, reissue := false
               body := .release (s.nowNs + s.rd Dict.releaseMargin) die }

/-- A chip sends its union of a barrier upward (09 R200). -/
def State.sendBarrier (s : State) (b : OpenBarrier) : State :=
  let l := b.latest.getD (0, 0)
  let body := leBytes 8 l.1 ++ leBytes 4 l.2 ++ leBytes 4 (missChunks b.arrived).length ++ chunkBytes b.arrived
  let bytes := class1Bytes 1 b.job b.barrier 0 (s.rd Dict.memberEpoch) s.level false body
  let s1 := s.enqueueUp s.frameNow 1 { kind := .arrival, bytes := bytes, frame := s.frameNow, prec := 4 }
  s1.setBar { s1.bar with openBars := s1.bar.openBars.map (fun x => if x.job == b.job && x.barrier == b.barrier then { x with sent := b.arrived } else x) }

/-- An open barrier is released at the ROOT, or its union goes upward, if its conditions hold. -/
def State.checkBarrier (s : State) (b : OpenBarrier) : State :=
  if s.role == Role.root then
    (if (s.jobDies b.job).all b.arrived.contains && !s.startHolds b then s.releaseBarrier b else s)
  else if b.arrived.any (fun d => !b.sent.contains d) && (!b.sent.isEmpty || (s.jobRouted b.job).all b.arrived.contains) then s.sendBarrier b
  else s

/-- Every open barrier is checked. -/
def State.checkBarriers (s : State) : State := (s.bar.openBars.foldl State.checkBarrier s).syncBar

/-- Routes or membership have changed: the unions of a chip may cover every die now routed through it (09 R193, R195, R200). -/
def State.coverAgain (s : State) : State := if s.isDie then s else s.sendCovered.settle.checkBarriers

/-- An ARRIVAL is merged (09 R200). -/
def State.takeArrival (s : State) (job barrier time latestDie : Nat) (dies : List Nat) : State :=
  let mine (d : Nat) : Bool := s.memberEntry d == (true, job)
  let keep := dies.filter mine
  let s1 := s.bumpSat Dict.nonMemberArrivals 0 0 (dies.filter (fun d => !mine d)).length
  if keep.isEmpty then s1
  else
    let b0 : OpenBarrier := (s1.bar.openBars.find? (fun b => b.job == job && b.barrier == barrier)).getD
      { job := job, barrier := barrier, first := s1.time.now, reportAt := s1.time.now + s1.rd Dict.barrierReport * nsUnits }
    let wins := mine latestDie && (match b0.latest with
      | none => true
      | some (t, d) => decide (t < time) || (decide (t = time) && decide (latestDie < d)))
    let b1 := { b0 with arrived := unionDies b0.arrived keep, latest := if wins then some (time, latestDie) else b0.latest }
    let others := s1.bar.openBars.filter (fun b => !(b.job == job && b.barrier == barrier))
    (((s1.setBar { s1.bar with openBars := others ++ [b1] }).liveUnstall job barrier (some keep)).checkBarrier b1).syncBar

/-! ### Commands of a chip -/

/-- A downward message arrives at a chip on port p (09 R183, R189, R195, R196). -/
def State.takeDown (s : State) (p : Nat) (m : DownMsg) (act : State → State) : State :=
  let s1 := s.hopAckOf p m
  if s1.isDown p then (if m.reissue then s1.nack m (s1.groupOf p) else s1)
  else if m.reissue then
    (if s1.bar.reissued.contains m.key then s1.bumpSat Dict.duplicates
     else
       let s2 := s1.setBar { s1.bar with reissued := (m.key :: s1.bar.reissued).take 1024 }
       if s2.heldBack m then s2.setBar { s2.bar with held := s2.bar.held ++ [m] } else s2.actReissue m)
  else if s1.seenDown m then s1.bumpSat Dict.duplicates
  else act s1

/-- A release that is held has reached the chip: its barrier is open no more for liveness (08 R175). -/
def State.noteRelease (s : State) (m : DownMsg) : State :=
  match m.body with
  | .release _ _ =>
    State.liveUnstall (s.setBar { s.bar with openBars := s.bar.openBars.map (fun b => if b.job == m.job && b.barrier == m.id then { b with relSeen := true } else b) })
      m.job m.id none
  | _ => s

/-- A RELEASE or BCAST of a chip is acted on, or held (09 R189). -/
def State.holdOrAct (m : DownMsg) (s : State) : State :=
  if s.heldBack m then State.noteRelease (s.setBar { s.bar with held := s.bar.held ++ [m] }) m else s.actDown m

/-- A class 1 message on port p: the lane is UP, and it is activity. -/
def State.onLane (s : State) (p : Nat) (f : State → State) : State := if s.laneUp p then f s.touch else s

/-- ARRIVAL (09 R200): an ARRIVAL message arrives from a child on port p. -/
def execArrival (dt p job barrier time latestDie : Nat) (dies : List Nat) (s : State) : Host.Outcome State Fault Refusal :=
  .next (s.fromLane dt p 1 (.arrival 0 p job barrier time latestDie dies) (fun s => s.onLane p (fun s => if s.isDown p then s.takeArrival job barrier time latestDie dies else s)))

/-- BCAST_ACK (09 R193): an acknowledgement arrives from a child on port p. -/
def State.takeAck (s : State) (job tree seq : Nat) (dies : List Nat) : State :=
  let u0 : AckUnion := (s.unionOf tree seq).getD { tree := tree, seq := seq, job := job }
  let u1 := { u0 with union := unionDies u0.union dies }
  if s.role == Role.root then ((s.setUnion u1).completeBcasts.settle).checkBarriers
  else if !(u1.union.any (fun d => !u1.sent.contains d)) then s.setUnion u1
  else if (s.jobRouted job).all u1.union.contains then s.sendUnion u1
  else s.setUnion { u1 with due := some (u1.due.getD (s.time.now + s.rd Dict.ackHold * nsUnits)) }

/-- BCAST_ACK (09 R193). -/
def execBcastAck (dt p job tree seq : Nat) (dies : List Nat) (s : State) : Host.Outcome State Fault Refusal :=
  .next (s.fromLane dt p 1 (.bcastAck 0 p job tree seq dies) (fun s => s.onLane p (fun s => if s.isDown p then s.takeAck job tree seq dies else s)))

/-- HOP_ACK (09 R183): a HOP_ACK arrives on port p. -/
def execHopAck (dt p typ job id seq : Nat) (s : State) : Host.Outcome State Fault Refusal :=
  .next (s.fromLane dt p 1 (.hopAck 0 p typ job id seq) (fun s => s.onLane p (fun s =>
    State.settle (s.setBar { s.bar with fwd := ackFirst (s.groupOf p) typ job id seq s.bar.fwd }))))

/-- NACK_TIMEOUT (09 R196): HOP_ACKs are overdue. -/
def execNackTimeout (dt : Nat) (s : State) : Host.Outcome State Fault Refusal := .next (s.core dt State.nackTimeouts)

/-- ACK_HOLD (09 R193): unions have waited ACK_HOLD. -/
def execAckHold (dt : Nat) (s : State) : Host.Outcome State Fault Refusal :=
  .next (s.core dt (fun s => if s.isDie || s.role == Role.root then s else s.flushUnions))

/-- Dies of a tree's broadcast that have not acknowledged it (09 R194). -/
def State.ackMissing (s : State) (tree : Nat) : List Nat :=
  match Tbl.get? s.bar.trees tree with
  | some t => (match t.issued, t.seq with
    | true, some q => t.ackSet.filter (fun d => match s.unionOf tree q with
      | some u => !u.union.contains d
      | none => true)
    | _, _ => [])
  | none => []

/-- ACK_REPORT (09 R194): a broadcast is incomplete ACK_REPORT after its issue. -/
def execAckReport (dt : Nat) (s : State) : Host.Outcome State Fault Refusal :=
  .next (s.core dt (fun s => if s.role != Role.root then s
    else (s.bar.trees.filter (fun e => e.2.issued && !e.2.complete && !e.2.reported && decide (e.2.reportAt ≤ s.time.now))).foldl
      (fun t e => (t.setBar { t.bar with trees := Tbl.set t.bar.trees e.1 { e.2 with reported := true } }).raiseAlarm recBcastIncomplete
        (packBits [(12, e.1), (16, e.2.seq.getD 0), (18, (t.ackMissing e.1).length), (82, 0)])) s))

/-- Dies that a barrier open at the ROOT still waits for (09 R201). -/
def State.barrierMissing (s : State) (b : OpenBarrier) : List Nat := (s.jobDies b.job).filter (fun d => !b.arrived.contains d)

/-- BARRIER_REPORT (09 R201): a barrier is open BARRIER_REPORT after its first arrival at the ROOT. -/
def execBarrierReport (dt : Nat) (s : State) : Host.Outcome State Fault Refusal :=
  .next (s.core dt (fun s => if s.role != Role.root then s
    else
      let due (b : OpenBarrier) : Bool := !b.reported && decide (b.reportAt ≤ s.time.now)
      (s.bar.openBars.filter due).foldl (fun t b => t.raiseAlarm recBarrierWait
        (packBits [(16, b.job), (12, b.barrier), (18, (t.barrierMissing b).length), (82, 0)]))
        (s.setBar { s.bar with openBars := s.bar.openBars.map (fun b => if due b then { b with reported := true } else b) })))

end Sys2Proof.Machine
end

