-- ==== Sys2Proof/Machine/Counters.lean ====
section
/-! DEFINITION. Counters, frames and snapshots (chapter 03): what is counted, captures and their policies. -/

namespace Sys2Proof.Machine

open Sys2Proof

/-- Counters take a value. -/
def State.setCnt (s : State) (c : Counters) : State := { s with cnt := c }

/-! ### E counters (03 R54) -/

/-- An E counter takes one event: its value, its SAT bit, and whether it has just saturated. -/
def eventInc (count : Nat) (sat : Bool) : Nat × Bool × Bool :=
  if count < 2 ^ 32 - 1 then (count + 1, sat, false) else (count, true, !sat)

/-- COUNTER_SAT is written and raised as an alarm (Table 03-2). -/
def State.counterSat (s : State) (engine : Option Nat) (offset : Nat) : State :=
  s.raiseAlarm recCounterSat (packBits [(88, 0), (8, bit engine.isSome), (16, engine.getD 0xFFFF), (16, offset)])

/-- Reports of the counters that have just saturated. -/
def State.reportSat (s : State) (l : List (Bool × Option Nat × Nat)) : State :=
  l.foldl (fun t e => if e.1 then t.counterSat e.2.1 e.2.2 else t) s

/-! ### Commands (03 R70, R71) -/

/-- The record of a class. -/
def State.clsRec (s : State) (k : Nat) : CmdRecord := Tbl.getD s.cnt.cls k {}

/-- The record of an engine. -/
def State.engRec (s : State) (e : Nat) : EngineRecord := Tbl.getD s.cnt.eng e {}

/-- BEGINS of a record advances. -/
def CmdRecord.begin_ (r : CmdRecord) : CmdRecord × Bool :=
  let e := eventInc r.begins r.satBegins
  ({ r with begins := e.1, satBegins := e.2.1 }, e.2.2)

/-- ENDS of a record advances. -/
def CmdRecord.end_ (r : CmdRecord) : CmdRecord × Bool :=
  let e := eventInc r.ends r.satEnds
  ({ r with ends := e.1, satEnds := e.2.1 }, e.2.2)

/-- A paired end of lifetime `life` is attributed to a record. -/
def CmdRecord.pair (r : CmdRecord) (life : Nat) : CmdRecord × Bool :=
  let e := eventInc r.paired r.satPaired
  ({ r with paired := e.1, satPaired := e.2.1, lifeSum := (r.lifeSum + life) % 2 ^ 64, lifeMax := max r.lifeMax (satTo 32 life) }, e.2.2)

/-- A change of the records of a class and an engine; a counter at byte `off` of the record that saturates is reported. -/
def State.onRecords (s : State) (cls engine off : Nat) (f : CmdRecord → CmdRecord × Bool) : State :=
  let c := f (s.clsRec cls)
  let er := s.engRec engine
  let e := f er.cmd
  (s.setCnt { s.cnt with cls := Tbl.set s.cnt.cls cls c.1, eng := Tbl.set s.cnt.eng engine { er with cmd := e.1 } }).reportSat
    [(c.2, none, 0x660 + 32 * cls + off), (e.2, some engine, off)]

/-- BEGIN counts and opens its entry (03 R70, R71); `arrival` in 2^-16 ns. -/
def State.countBegin (s : State) (cmd engine cls arrival : Nat) : State :=
  let s1 := if (Tbl.get? s.cnt.cmds cmd).isSome then s.bumpSat Dict.dupBegins else s
  let ns := arrival / nsUnits
  let s2 := s1.setCnt { s1.cnt with cmds := Tbl.set s1.cnt.cmds cmd { begun := ns % 2 ^ 40, full := ns, engine := engine, cls := cls } }
  s2.onRecords cls engine 0 CmdRecord.begin_

/-- END counts and pairs with its open BEGIN, or is an orphan (03 R70, R71). -/
def State.countEnd (s : State) (cmd engine cls arrival : Nat) : State :=
  let s1 := s.onRecords cls engine 4 CmdRecord.end_
  match Tbl.get? s1.cnt.cmds cmd with
  | none => s1.bumpSat Dict.orphanEnds
  | some o =>
    let life := (arrival / nsUnits % 2 ^ 40 + 2 ^ 40 - o.begun) % 2 ^ 40
    (s1.setCnt { s1.cnt with cmds := Tbl.del s1.cnt.cmds cmd }).onRecords o.cls o.engine 8 (fun r => r.pair life)

/-- BYTES adds COUNT to an engine's level counter and to the die total (18 R372). -/
def State.countBytes (s : State) (engine level dir count : Nat) : State :=
  let j := 2 * level + dir
  let er := s.engRec engine
  let lv := Tbl.set er.levels j ((Tbl.getD er.levels j 0 + count) % 2 ^ 64)
  (s.setCnt { s.cnt with eng := Tbl.set s.cnt.eng engine { er with levels := lv } }).countLevel j count

/-- LINK_BYTES adds COUNT to a host link's counter (18 R372). -/
def State.countLink (s : State) (link dir count : Nat) : State :=
  let k := 2 * link + dir
  s.setCnt { s.cnt with link := Tbl.set s.cnt.link k ((Tbl.getD s.cnt.link k 0 + count) % 2 ^ 64) }

/-- A write of CMD_TABLE_CLEAR reaches its target. -/
def State.serveCmdTableClear (rq : Requester) (s : State) : State :=
  s.serveCmd rq Dict.cmdTableClear 0 (fun s => (s.setCnt { s.cnt with cmds := [] }, 0))

/-- CMD_TABLE_CLEAR (03 R71). -/
def execCmdTableClear (dt : Nat) (rq : Requester) (s : State) : Host.Outcome State Fault Refusal :=
  .next (s.asked dt rq (rq.put Dict.cmdTableClear 0 0) (State.serveCmdTableClear rq))

/-! ### Health inputs (03 R57, R65, 19 R391) -/

/-- A health slot. -/
def State.hslot (s : State) (i : Nat) : HealthSlot := Tbl.getD s.cnt.health i {}

/-- A health slot takes a value. -/
def State.setHslot (s : State) (i : Nat) (h : HealthSlot) : State := s.setCnt { s.cnt with health := Tbl.set s.cnt.health i h }

/-- MIN and MAX of a period with no sample (03 R57). -/
def emptyExtreme (kind : Nat) : Nat := if kind = 3 then 0x7FC00000 else 0xFFFF

/-- The lesser and greater of a sample and an extreme, `none` while there is none. -/
def extreme (kind : Nat) (least : Bool) (cur : Option Nat) (v : Nat) : Nat :=
  match cur with
  | none => v
  | some c =>
    let below : Bool := if kind = 3 then flBelow (flDecode f32 v) (flDecode f32 c) else decide (v < c)
    let above : Bool := if kind = 3 then flBelow (flDecode f32 c) (flDecode f32 v) else decide (c < v)
    if (if least then below else above) then v else c

/-- A gauge slot takes a sample (03 R57, 18 R377): a U16 gauge takes bits [15:0]; NaN counts in SAMPLES and LAST only. -/
def HealthSlot.sample (h : HealthSlot) (data : Nat) : HealthSlot :=
  let v := data % 2 ^ (if h.kind = 2 then 16 else 32)
  let base := { h with ever := true, last := v, samples := satTo 16 (h.samples + 1) }
  if h.kind = 3 && flIsNan (flDecode f32 v) then base
  else
    let cur (x : Nat) : Option Nat :=
      if h.samples = 0 || (h.kind == 3 && flIsNan (flDecode f32 x)) then none else some x
    { base with min := extreme h.kind true (cur h.min) v, max := extreme h.kind false (cur h.max) v }

/-- The kind that a health input of a tray chip must have to be used (Table 21-3). -/
def trayHealthKind (i : Nat) : Nat := if i < 4 then 3 else if i < 7 then 2 else if i < 10 then 1 else 0

/-- A kind that 03 R57 does not list, or on a tray chip one that its sensor does not have (21 R433): the slot is open (00 R7). -/
def State.healthOpen (s : State) (i kind : Nat) : Bool :=
  if s.isDie then decide (3 < kind) else kind != 0 && kind != trayHealthKind i

/-- What input i presents: on a tray chip, input 6 presents the clock step of its own tree array (Table 21-3). -/
def State.healthData (s : State) (i v : Nat) : Nat :=
  if !s.isDie && i == 6 then (s.rd Dict.devClock - 900) / 100 else v

/-- A strobe of health input i at the counters. -/
def State.strobe (s : State) (i v : Nat) : State :=
  let h := s.hslot i
  if s.healthOpen i h.kind then s
  else match h.kind with
  | 0 => s
  | 1 =>
    let e := eventInc h.count h.sat
    (s.setHslot i { h with count := e.1, sat := e.2.1 }).reportSat [(e.2.2, none, 0x860 + 16 * i)]
  | k => if k = 2 || k = 3 then s.setHslot i (h.sample v) else s

/-- A strobe that the health-input crossing gathers while the core is not ACTIVE (19 R391). -/
def State.crossStrobe (s : State) (i v : Nat) : State :=
  let h := s.hslot i
  let x := Tbl.getD s.pw.crossing i {}
  let set (y : HealthCrossing) : State := { s with pw := { s.pw with crossing := Tbl.set s.pw.crossing i y } }
  if s.healthOpen i h.kind then s
  else match h.kind with
  | 0 => s
  | 1 => if x.pulses < 65535 then set { x with pulses := x.pulses + 1 } else set { x with ovf := true }
  | k =>
    if k = 2 || k = 3 then
      let none_ := x.samples == 0
      let g := HealthSlot.sample { kind := k, last := x.last, min := if none_ then emptyExtreme k else x.min
                                   max := if none_ then emptyExtreme k else x.max, samples := x.samples } v
      set { x with last := g.last, min := g.min, max := g.max, samples := g.samples }
    else s

/-- HEALTH_STROBE (03 R56, R57): health input i presents a pulse or a sample. -/
def execHealthStrobe (dt i value : Nat) (s : State) : Host.Outcome State Fault Refusal :=
  .next (s.after dt (fun s =>
    if 64 ≤ i || s.inReset then s
    else if s.coreActive then s.strobe i (s.healthData i value)
    else s.crossStrobe i (s.healthData i value)))

/-! ### Snapshot bodies (03 R62 to R66) -/

/-- A body from values at byte offsets after the header. -/
def bodyOf (base : Nat) (l : List (Nat × Nat)) : Nat := l.foldl (fun a e => a + e.2 * 2 ^ (8 * (e.1 - base))) 0

/-- Commands open and OLDEST_AGE over open entries that satisfy a test (Table 03-6). -/
def State.openOf (s : State) (f : OpenCmd → Bool) : Nat × Nat :=
  let o := s.cnt.cmds.filter (fun e => f e.2)
  match (o.map (fun e => e.2.full)) with
  | [] => (0, 0)
  | t :: ts => (o.length, satTo 32 (s.nowNs - ts.foldl min t))

/-- A command record as its 256 bits (Table 03-6). -/
def CmdRecord.bits (r : CmdRecord) (o : Nat × Nat) : Nat :=
  packBits [(32, o.2), (11, 0), (1, bit r.satPaired), (1, bit r.satEnds), (1, bit r.satBegins), (18, o.1), (64, r.lifeSum),
    (32, r.lifeMax), (32, r.paired), (32, r.ends), (32, r.begins)]

/-- A SAT bit of a command record is set. -/
def CmdRecord.anySat (r : CmdRecord) : Bool := r.satBegins || r.satEnds || r.satPaired

/-- A health slot as its 128 bits (Table 03-8). A period whose samples are all NaN has no MIN and no MAX, and reports them as a period
without a sample does (DEDUCED, log entry 49). -/
def HealthSlot.bits (h : HealthSlot) : Nat :=
  let nan := h.kind == 3 && flIsNan (flDecode f32 h.min)
  let lo := if h.samples = 0 || nan then emptyExtreme h.kind else h.min
  let hi := if h.samples = 0 || nan then emptyExtreme h.kind else h.max
  match h.kind with
  | 0 => 0
  | 1 => packBits [(1, bit h.sat), (32, h.count)]
  | 2 => packBits [(16, h.samples), (16, hi), (16, lo), (16, h.last)]
  | 3 => packBits [(16, h.samples), (32, hi), (32, lo), (32, h.last)]
  | _ => 0

/-- MEM_LEVELS in use: the two stacks' levels on a tray chip (03 R66). -/
def State.levelsNow (s : State) : Nat := min 4 (s.rd Dict.memLevels)

/-- CHANNELS in use. -/
def State.channelsNow (s : State) : Nat := if s.isDie then min 32 (s.rd Dict.channels) else 0

/-- HOST_LINKS in use; the ports on a tray chip. -/
def State.linksNow (s : State) : Nat := if s.isDie then min 64 (s.rd Dict.hostLinks) else 48

/-- The die snapshot's body (Table 03-5). -/
def State.dieBody (s : State) : Nat :=
  bodyOf 32 (
    ((s.cnt.level.filter (fun e => decide (e.1 < 2 * s.levelsNow))).map (fun e => (0x20 + 8 * e.1, e.2))) ++
    ((s.cnt.chan.filter (fun e => decide (e.1 < 2 * s.channelsNow))).map (fun e => (0x60 + 8 * e.1, e.2))) ++
    ((s.cnt.link.filter (fun e => decide (e.1 < 2 * s.linksNow))).map (fun e => (0x260 + 8 * e.1, e.2))) ++
    (if s.isDie then (List.range 16).map (fun k => (0x660 + 32 * k, (s.clsRec k).bits (s.openOf (fun o => o.cls == k)))) else []) ++
    (s.cnt.health.map (fun e =>
      (0x860 + 16 * e.1, if s.healthOpen e.1 e.2.kind then s.freeVal / 2 ^ (128 * e.1) % 2 ^ 128 else e.2.bits))))

/-- A SAT bit is set in the die snapshot. -/
def State.dieSat (s : State) : Bool :=
  (s.isDie && s.cnt.cls.any (fun e => e.2.anySat)) || s.cnt.health.any (fun e => e.2.kind == 1 && e.2.sat)

/-- ENGINE_COUNT in use. -/
def State.enginesNow (s : State) : Nat := min 2048 (s.rd Dict.engineCount)

/-- The engine snapshot's body: a 128-byte record for each engine (Table 03-7). -/
def State.engBody (s : State) : Nat :=
  bodyOf 0 ((s.cnt.eng.filter (fun e => decide (e.1 < s.enginesNow))).map (fun e =>
    (128 * e.1, e.2.cmd.bits (s.openOf (fun o => o.engine == e.1)) +
      2 ^ 256 * bodyOf 0 ((e.2.levels.filter (fun l => decide (l.1 < 2 * s.levelsNow))).map (fun l => (8 * l.1, l.2))))))

/-- A SAT bit is set in the engine snapshot. -/
def State.engSat (s : State) : Bool := s.cnt.eng.any (fun e => decide (e.1 < s.enginesNow) && e.2.cmd.anySat)

/-- E counters with SAT set: SAT_COUNT. -/
def State.satCount (s : State) : Nat :=
  let n (r : CmdRecord) : Nat := bit r.satBegins + bit r.satEnds + bit r.satPaired
  (s.cnt.cls.map (fun e => n e.2)).sum + (s.cnt.eng.map (fun e => n e.2.cmd)).sum +
    (s.cnt.health.filter (fun e => e.2.kind == 1 && e.2.sat)).length

/-- The snapshot header as its 256 bits (Table 03-4). -/
def SnapHeader.bits (h : SnapHeader) : Nat :=
  packBits [(32, h.frame), (32, h.latchT32), (32, h.spanNs), (32, h.holdDieNs), (17, h.dieId), (2, h.clock), (1, bit h.engine),
    (1, bit h.empty), (1, bit h.heldDie), (1, bit h.heldEng), (1, bit h.tornDie), (1, bit h.tornEng), (1, bit h.satAny),
    (8, h.engineSpan), (18, h.openCmds), (32, h.holdEngNs), (44, 0)]

/-- A die snapshot as its 4,096 bytes. -/
def Snapshot.dieBytes (p : Snapshot) : Bytes := leBytes 32 p.hdr.bits ++ leBytes 4064 p.body

/-- An engine snapshot as bytes. -/
def Snapshot.engBytes (p : Snapshot) : Bytes := leBytes 32 p.hdr.bits ++ leBytes (128 * p.engines) p.body

/-! ### Clears (03 R55) -/

/-- The E counters of a record and their SAT bits are cleared. -/
def CmdRecord.clear (r : CmdRecord) : CmdRecord :=
  { r with begins := 0, ends := 0, paired := 0, satBegins := false, satEnds := false, satPaired := false }

/-- Every E counter and every SAT bit is cleared. -/
def State.clearEvents (s : State) : State :=
  s.setCnt { s.cnt with
    cls := s.cnt.cls.map (fun e => (e.1, e.2.clear))
    eng := s.cnt.eng.map (fun e => (e.1, { e.2 with cmd := e.2.cmd.clear }))
    health := s.cnt.health.map (fun e => (e.1, if e.2.kind = 1 then { e.2 with count := 0, sat := false } else e.2))
    clears := s.cnt.clears + 1 }

/-- What follows the die capture of a frame: the clears of R55. `captured` is false where the frame has none. -/
def State.afterDie (s : State) (frame : Nat) (captured : Bool) : State :=
  if s.cnt.clearAfter = some frame then
    ((s.setCnt { s.cnt with clearAfter := none }).clearEvents).actionDone Dict.clearEvents 0 0
  else if captured && s.flag Dict.autoClear then s.clearEvents
  else s

/-- A write of CLEAR_EVENTS reaches its target; it completes once applied. -/
def State.serveClearEvents (rq : Requester) (s : State) : State :=
  s.serveLong rq Dict.clearEvents 0 0 (fun s => s.setCnt { s.cnt with clearDue := true })

/-- CLEAR_EVENTS (03 R55). -/
def execClearEvents (dt : Nat) (rq : Requester) (s : State) : Host.Outcome State Fault Refusal :=
  .next (s.asked dt rq (rq.put Dict.clearEvents 0 0) (State.serveClearEvents rq))

/-! ### Captures (03 R58 to R61, R67) -/

/-- The buffers of a kind: false die, true engine. -/
def State.kindOf (s : State) (eng : Bool) : SnapKind := if eng then s.snap.eng else s.snap.die

/-- The buffers of a kind take a value. -/
def State.setKind (s : State) (eng : Bool) (k : SnapKind) : State :=
  if eng then { s with snap := { s.snap with eng := k } } else { s with snap := { s.snap with die := k } }

/-- The stored headers of a frame change: pending snapshots and held captures of both kinds. -/
def State.onHeaders (s : State) (frame : Nat) (f : SnapHeader → SnapHeader) : State :=
  let fixP (p : Snapshot) : Snapshot := if p.hdr.frame == frame then { p with hdr := f p.hdr } else p
  let fixH (h : HeldCapture) : HeldCapture := if h.hdr.frame == frame then { h with hdr := f h.hdr } else h
  let fix (k : SnapKind) : SnapKind := { k with pending := k.pending.map fixP, held := k.held.map fixH }
  { s with snap := { die := fix s.snap.die, eng := fix s.snap.eng } }

/-- EMPTY headers at the head of the queue need no reading (03 R61). -/
def SnapKind.settle (k : SnapKind) : SnapKind :=
  let e := k.pending.takeWhile (·.blank)
  { k with pending := k.pending.drop e.length, drained := k.drained ++ e }

/-- Are both buffers pending (03 R67)? -/
def SnapKind.full (k : SnapKind) : Bool := decide (2 ≤ (k.pending.filter (fun p => !p.blank)).length)

/-- P values are emptied after a capture of their snapshot, and HEALTH_KIND changes take effect (03 R52, R57). -/
def State.afterCapture (s : State) (eng : Bool) : State :=
  if eng then s.setCnt { s.cnt with eng := s.cnt.eng.map (fun e => (e.1, { e.2 with cmd := { e.2.cmd with lifeMax := 0 } })) }
  else
    let slot (i : Nat) : HealthSlot :=
      let h := s.hslot i
      let k := s.rd Dict.healthKind i
      if k = h.kind then { h with samples := 0, min := emptyExtreme k, max := emptyExtreme k }
      else { kind := k, min := emptyExtreme k, max := emptyExtreme k }
    s.setCnt { s.cnt with
      cls := s.cnt.cls.map (fun e => (e.1, { e.2 with lifeMax := 0 }))
      health := ((List.range 64).filter (fun i => (slot i).kind != 0)).map (fun i => (i, slot i)) }

/-- The word of 8 bytes from which an OVERWRITE replaces the oldest pending body: an open value where its drain may be under way, the
first word of one whose drain cannot have begun (03 R67; log entry 23). -/
def tearAt (first : Bool) (words open_ : Nat) : Nat := if first then open_ % (words + 1) else 0

/-- The pending snapshot whose buffer an OVERWRITE takes is torn. -/
def SnapKind.tear (k : SnapKind) (new : Snapshot) (eng : Bool) (open_ : Nat) : SnapKind :=
  let idx := k.pending.findIdx? (fun p => !p.blank && p.torn.isNone)
  match idx with
  | none => k
  | some i =>
    let words := if eng then 16 * new.engines else 508
    let first := (k.pending.take i).all (·.blank)
    let w := 8 * tearAt first words open_
    { k with pending := modAt k.pending i (fun (p : Snapshot) =>
      { p with body := p.body % 2 ^ (8 * w) + new.body / 2 ^ (8 * w) * 2 ^ (8 * w), torn := some (w, new.clears) }) }

/-- The capture of a kind takes place now, for the header `h` of its frame whose pulse was due at `due` ns. -/
def State.capture (s : State) (eng : Bool) (h : SnapHeader) (due span : Nat) (held overwrite : Bool) : State :=
  let k := s.kindOf eng
  let ns := s.nowNs - k.lastNs
  let delay := satTo 32 (s.nowNs - due)
  let upd (x : SnapHeader) : SnapHeader :=
    let y := if eng then { x with engine := true, engineSpan := satTo 8 span, satAny := x.satAny || s.engSat }
      else { x with spanNs := satTo 32 ns, openCmds := s.cnt.cmds.length, satAny := x.satAny || s.dieSat }
    if !held then y
    else if eng then { y with heldEng := true, holdEngNs := delay } else { y with heldDie := true, holdDieNs := delay }
  let new : Snapshot :=
    { hdr := upd h, body := if eng then s.engBody else s.dieBody, span := span, spanNs := ns, levels := s.levelsNow
      channels := if s.isDie then s.channelsNow else 32, links := if s.isDie then s.linksNow else 64, engines := if eng then s.enginesNow else 0
      kinds := (List.range 64).map (fun i => (s.hslot i).kind)
      sampled := s.cnt.health.foldl (fun v e => if e.2.ever then setBit v e.1 else v) 0, clears := s.cnt.clears
      at_ := s.nowNs, setNo := s.fs.setNo }
  let k1 := if overwrite then k.tear new eng s.freeVal else k
  let tornFrame := ((List.zip k.pending k1.pending).find? (fun e => e.1.torn != e.2.torn)).map (fun e => e.2.hdr.frame)
  let s1 := (s.setKind eng { k1 with pending := k1.pending ++ [new], lastNs := s.nowNs, pulses := k.pulses - span }).onHeaders h.frame upd
  let s2 := match tornFrame with
    | none => s1
    | some f => s1.onHeaders f (fun (x : SnapHeader) => if eng then { x with tornEng := true } else { x with tornDie := true })
  let s3 := s2.drawn.afterCapture eng
  if eng then s3 else s3.afterDie h.frame true

/-- The die capture of a frame is left out: its header goes on with EMPTY, as does the engine snapshot's copy of it (03 R61, R64,
Table 03-9). OPEN, which tells of the die capture, is stated nowhere then: an open value (log entry 49). -/
def State.emptyFrame (s : State) (h : SnapHeader) (span : Nat) : State :=
  let upd (x : SnapHeader) : SnapHeader := { x with empty := true, spanNs := 0, openCmds := s.freeVal % 131073 }
  let s1 := s.onHeaders h.frame upd
  let k := s1.snap.die
  let p : Snapshot := { hdr := upd h, blank := true, span := span, clears := s.cnt.clears }
  (((s1.setKind false ({ k with pending := k.pending ++ [p] }).settle).bumpSat Dict.dieEmpty).drawn).afterDie h.frame false

/-- The engine capture of a frame is left out: ENGINE = 0. -/
def State.noEngine (s : State) (frame : Nat) : State :=
  (s.onHeaders frame (fun (x : SnapHeader) => { x with engine := false, engineSpan := 0 })).bumpSat Dict.engineSkipped

/-- A held capture is abandoned as the next capture of its kind falls due at `due` ns (Table 03-9). -/
def State.abandon (s : State) (eng : Bool) (due : Nat) : State :=
  let k := s.kindOf eng
  match k.held with
  | none => s
  | some h =>
    let delay := satTo 32 (due - h.due)
    let upd (x : SnapHeader) : SnapHeader :=
      if eng then { x with heldEng := true, holdEngNs := delay } else { x with heldDie := true, holdDieNs := delay }
    let s1 := (s.setKind eng { k with held := none }).onHeaders h.hdr.frame upd
    if eng then s1.noEngine h.hdr.frame else s1.emptyFrame (upd h.hdr) h.span

/-- Policies (Table 03-9); a value outside them is a host mistake, taken as an open one of the three (00 R7). -/
def State.policyOf (s : State) (eng : Bool) : Nat :=
  let p := if eng then s.rdAtPulse Dict.enginePolicy else s.rdAtPulse Dict.diePolicy
  if p ≤ 2 then p else s.freeVal % 3

/-- A capture of a kind falls due with the frame's header: it takes place, or its policy acts. -/
def State.captureDue (s : State) (eng : Bool) (h : SnapHeader) (due : Nat) : State :=
  let s0 := s.abandon eng due
  let k := s0.kindOf eng
  let span := k.pulses
  if !k.full then s0.capture eng h due span false false
  else match s0.policyOf eng with
    | 0 => ((s0.setKind eng { k with held := some { hdr := if eng then { h with heldEng := true, engine := false } else { h with heldDie := true }, due := due, span := span } }).onHeaders
        h.frame (fun (x : SnapHeader) => if eng then { x with heldEng := true } else { x with heldDie := true })).bumpSat
          (if eng then Dict.engineHeld else Dict.dieHeld)
    | 1 => if eng then s0.noEngine h.frame else s0.emptyFrame h span
    | _ => (s0.capture eng h due span false true).bumpSat (if eng then Dict.engineTorn else Dict.dieTorn)

/-- The captures of a channel 0 pulse of frame n, due at `due` ns (03 R58): the engine kind on its stride, and the die kind. A
CLEAR_EVENTS that waits for the pulse follows this frame's die capture (03 R55). -/
def State.capturePulse (s : State) (n due : Nat) : State :=
  let tick (k : SnapKind) : SnapKind := { k with pulses := k.pulses + 1 }
  let sc := if s.cnt.clearDue then s.setCnt { s.cnt with clearDue := false, clearAfter := some n } else s
  let s0 := { sc with snap := { die := tick s.snap.die, eng := tick s.snap.eng } }
  let stride := s0.rdAtPulse Dict.engineStride
  let isEng := s0.isDie && (if stride = 0 then s0.freeVal % 2 == 1 else n % stride == 0)
  let h : SnapHeader := { frame := n, latchT32 := due % 2 ^ 32, dieId := if s0.isDie then s0.dieField else 0
                          clock := s0.rd Dict.clockState % 4 }
  let s1 := if stride = 0 then s0.drawn else s0
  if !isEng then s1.captureDue false h due
  else
    let before := s1.snap.eng
    let s2 := s1.captureDue true h due
    let h1 : SnapHeader := match (s2.snap.eng.pending.getLast?).filter (fun p => p.hdr.frame == n) with
      | some p => p.hdr
      | none => match s2.snap.eng.held.filter (fun x => x.hdr.frame == n) with
        | some x => x.hdr
        | none => h
    s2.captureDue false (if before == s2.snap.eng then h else h1) due

/-- HELD_CAPTURE (03 R67): a capture that waited takes place, its buffer having been drained. -/
def State.takeHeld (s : State) (eng : Bool) : State :=
  let k := s.kindOf eng
  match k.held with
  | none => s
  | some h => if k.full then s else (s.setKind eng { k with held := none }).capture eng h.hdr h.due h.span true false

/-- HELD_CAPTURE (Table 03-9). -/
def execHeldCapture (dt : Nat) (engine : Bool) (s : State) : Host.Outcome State Fault Refusal :=
  .next (s.core dt (fun s => s.takeHeld engine))

/-- The front stage has read the last word of the oldest pending snapshot of a kind: it is drained, and its copy is what
LAST_DIE_SNAPSHOT or LAST_ENGINE_SNAPSHOT returns (03 R67, R73). -/
def State.drainOne (s : State) (eng : Bool) : State :=
  let k := s.kindOf eng
  match k.pending with
  | [] => s
  | p :: t => s.setKind eng ({ k with pending := t, drained := k.drained ++ [p], last := some p }).settle

/-- SNAPSHOT_DRAINED (03 R67). -/
def execSnapshotDrained (dt : Nat) (engine : Bool) (s : State) : Host.Outcome State Fault Refusal :=
  .next (s.core dt (fun s => s.drainOne engine))

end Sys2Proof.Machine
end

