-- ==== Sys2Proof/Machine/Epoch.lean ====
section
/-! DEFINITION. Membership epochs, the ROOT's broadcasts, and the leaf's side of class 1 (09 R184 to R202). -/

namespace Sys2Proof.Machine

open Sys2Proof

/-! ### Epoch entries (Table 09-4, R185) -/

/-- The entry held in 8 bytes (Table 09-4). -/
def EpochEntry.decode (bs : Bytes) : EpochEntry :=
  let v := ofLe (bs.take 8)
  if v.testBit 63 then .size (fieldOf v 62 47) (fieldOf v 46 29) else .die (fieldOf v 62 46) (fieldOf v 45 30) (v.testBit 29)

/-- The entries of an EPOCH_STAGE value. -/
def decodeEntries (bs : Bytes) : List EpochEntry := (List.range (bs.length / 8)).map (fun i => EpochEntry.decode (bs.drop (8 * i)))

/-- An entry enters a membership table; unlisted dies are no members and have no job. -/
def enterMember (t : Tbl (Bool × Nat)) : EpochEntry → Tbl (Bool × Nat)
  | .die id job member => if !member && job == 0xFFFF then Tbl.del t id else Tbl.set t id (member, job)
  | .size _ _ => t

/-- Members of a job in a table. -/
def jobCount (t : Tbl (Bool × Nat)) (job : Nat) : Nat := (t.filter (fun e => e.2.1 && e.2.2 == job)).length

/-- Jobs named in two tables, ascending, each once. -/
def jobsOf (a b : Tbl (Bool × Nat)) : List Nat :=
  sortNat (((a ++ b).map (fun e => e.2.2)).foldl (fun l j => if l.contains j || j == 0xFFFF then l else j :: l) [])

/-- The entries of a segment. -/
def DownMsg.entries (m : DownMsg) : List EpochEntry :=
  match m.body with
  | .epoch _ _ _ _ es => es
  | _ => []

/-- The segments of an epoch: up to 128 entries each (09 R185). -/
def epochSegs (epoch level ff : Nat) (resync : Bool) (es : List EpochEntry) : List DownMsg :=
  let n := max 1 (ceilDiv es.length 128)
  (List.range n).map (fun k =>
    { job := 0xFFFF, id := 0xFFF, seq := 0, epoch := epoch, level := level, reissue := false
      body := .epoch ff k n resync ((es.drop (128 * k)).take 128) })

/-- The ROOT's table once everything issued so far has been applied. -/
def State.memberAhead (s : State) : Tbl (Bool × Nat) :=
  (s.bar.gathered ++ s.bar.segs.flatMap DownMsg.entries).foldl enterMember s.bar.member

/-- EPOCH_ISSUE acts (09 R185). -/
def State.issueEpoch (s : State) : State :=
  let n := (s.rd Dict.epochLastIssued + 1) % 2 ^ 32
  let es := decodeEntries (s.rdBytes Dict.epochStage)
  let old := s.memberAhead
  let new := es.foldl enterMember old
  let sizes := ((jobsOf old new).filter (fun j => jobCount old j != jobCount new j)).map (fun j => EpochEntry.size j (jobCount new j))
  let segs := epochSegs n s.level (s.rd Dict.epochFirstFrame) false (es ++ sizes)
  ((s.setBar { s.bar with segs := s.bar.segs ++ segs }).wr Dict.epochLastIssued n).syncBar

/-- A write of EPOCH_ISSUE at its target. -/
def State.serveEpochIssue (rq : Requester) (s : State) : State := s.serveCmd rq Dict.epochIssue 0 (fun s => (s.issueEpoch, 0))

/-- EPOCH_ISSUE (09 R185). -/
def execEpochIssue (dt : Nat) (rq : Requester) (s : State) : Host.Outcome State Fault Refusal :=
  .next (s.asked dt rq (rq.put Dict.epochIssue 0 0) (State.serveEpochIssue rq))

/-! ### An epoch is applied at a chip (09 R186 to R188) -/

/-- The segment that a chip applies next: a RESYNC in order of arrival, else the next of the epoch numbered one more. -/
def State.nextSeg (s : State) : Option DownMsg :=
  let isResync (m : DownMsg) : Bool := match m.body with
    | .epoch _ _ _ r _ => r
    | _ => false
  let want := s.bar.applying.getD ((s.rd Dict.memberEpoch + 1) % 2 ^ 32, 0)
  (s.bar.segs.find? isResync).or (s.bar.segs.find? (fun m => m.key == (6, want.1, want.2, 0)))

/-- The membership of an epoch comes into force (09 R187, R188). -/
def State.applyEpoch (s : State) (epoch first : Nat) (resync : Bool) : State :=
  let old := s.bar.member
  let new := s.bar.gathered.foldl enterMember (if resync then [] else old)
  let was (d : Nat) : Bool := (Tbl.getD old d (false, 0xFFFF)).1
  let is_ (d : Nat) : Bool := (Tbl.getD new d (false, 0xFFFF)).1
  let dies := unionDies (old.map (·.1)) (new.map (·.1))
  let flips := dies.filter (fun d => was d != is_ d)
  let changes := if resync then [] else flips.map (fun d => (first, d, was d)) ++
    s.bar.changes.filter (fun c => frameGe (c.1 + 8192) s.frameNow)
  let sizes := s.bar.gathered.filterMap (fun e => match e with
    | .size j n => some (j, n)
    | _ => none)
  let s1 := (s.setBar { s.bar with member := new, changes := changes, gathered := [], applying := none
                                   sizes := ((epoch, sizes) :: s.bar.sizes).take 8 }).wr Dict.memberEpoch epoch
  if resync then s1 else s1.removeDies (flips.filter was) first

/-- The ROOT's broadcasts that waited for epochs leave (09 R189). -/
def State.releaseIssues (s : State) : State :=
  let ready (m : DownMsg) : Bool := frameGe (s.rd Dict.memberEpoch) m.epoch
  (s.bar.heldIssues.filter ready).foldl State.issueNow (s.setBar { s.bar with heldIssues := s.bar.heldIssues.filter (fun m => !ready m) })

/-- A die that is no member leaves every acknowledgement set (09 R194). -/
def State.shrinkAckSets (s : State) : State :=
  s.setBar { s.bar with trees := s.bar.trees.map (fun e => (e.1, { e.2 with ackSet := e.2.ackSet.filter s.isMember })) }

/-- What a new membership makes possible: larger port sets, held messages, broadcasts and barriers that are complete. -/
def State.afterEpoch (s : State) : State :=
  let s1 := s.growTrees.shrinkAckSets.releaseHeld.releaseIssues
  (s1.completeBcasts.coverAgain.liveMembers).syncBar

/-- A chip has applied its next segment (09 R186). -/
def State.segApplied (s : State) (m : DownMsg) : State :=
  match m.body with
  | .epoch ff seg segs resync es =>
    let before := if seg = 0 then [] else s.bar.gathered
    let s1 := s.setBar { s.bar with segs := s.bar.segs.erase m, gathered := before ++ es, applying := if resync then none else some (m.epoch, seg + 1) }
    if seg + 1 < segs then (s1.fan m false).syncBar
    else
      let s2 := s1.applyEpoch m.epoch ff resync
      let s3 := s2.setBar { s2.bar with segs := s2.bar.segs.filter (fun x => match x.body with
        | .epoch _ _ _ r _ => r || frameGt x.epoch m.epoch
        | _ => true) }
      let s4 := s3.fan m false
      (s4.sendLeaves m (s4.portsFor m false)).afterEpoch
  | _ => s

/-- RESYNC: the whole table goes down a group that has trained, or to a leaf its own entry (09 R188). -/
def State.sendResync (s : State) (g : Nat) : State :=
  if s.isDie then s
  else if s.leafPort g then
    s.sendLeaves { job := 0xFFFF, id := 0xFFF, seq := 0, epoch := s.rd Dict.memberEpoch, level := s.level, reissue := false, body := .epoch 0 0 1 true [] } [g]
  else
    let es := (List.range 131072).map (fun d => let e := s.memberEntry d
                                                EpochEntry.die d e.2 e.1)
    (epochSegs (s.rd Dict.memberEpoch) s.level 0 true es).foldl (fun t m => t.sendPorts m [g]) s

/-! ### BCAST_ISSUE (09 R191) -/

/-- A broadcast of an operation is written at the ROOT: the state after it and its completion code (Table 09-6). Tree 0xFFF
falls under 00 R7: the code is open. -/
def State.issueBcast (op : Nat) (s : State) : State × Nat :=
  let tree := s.rd Dict.bcastTree
  let job := s.rd Dict.bcastJob
  let payload := if op = 2 then [] else s.rdBytes Dict.bcastPayload
  let entry := Tbl.get? s.bar.trees tree
  let ok (t : Tree) (seq : Nat) : State × Nat :=
    let need := s.rd Dict.epochLastIssued
    let m : DownMsg := { job := job, id := tree, seq := seq, epoch := need, level := s.level, reissue := false, body := .bcast op payload }
    let t1 : Tree := { t with seq := some seq, op := op, issued := false, ackSet := [], complete := false, reported := false }
    let s1 := s.setBar { s.bar with trees := Tbl.set s.bar.trees tree t1 }
    let s2 := if frameGt need (s.rd Dict.memberEpoch) then s1.setBar { s1.bar with heldIssues := s1.bar.heldIssues ++ [m] }
      else s1.issueNow m
    ((s2.completeBcasts.settle.checkBarriers).syncBar, 0)
  if 0xFFF ≤ tree then (s.drawn, s.freeVal % 256)
  else match entry with
    | some t =>
      if op = 1 then (s, 2) else if t.job ≠ job then (s, 3) else if !t.complete then (s, 1) else ok t (((t.seq.getD 0) + 1) % 65536)
    | none => if op = 1 then ok { job := job, startBarrier := leAt payload 0 2 % 4096 } 0 else (s, 3)

/-- A write of BCAST_ISSUE at its target; a reserved operation falls under 00 R7: the code is open. -/
def State.serveBcastIssue (rq : Requester) (s : State) : State :=
  s.serveCmd rq Dict.bcastIssue 0 (fun s =>
    let op := s.rd Dict.bcastOp
    if op = 1 ∨ op = 2 ∨ op = 3 then s.issueBcast op else (s.drawn, s.freeVal % 256))

/-- A write of BCAST_ISSUE while BCAST_OP names an operation. -/
def State.serveBcastOp (op : Nat) (rq : Requester) (s : State) : State := if s.rd Dict.bcastOp = op then s.serveBcastIssue rq else s

/-- BCAST_ISSUE_JOB_START (09 R191). -/
def execBcastIssueJobStart (dt : Nat) (rq : Requester) (s : State) : Host.Outcome State Fault Refusal :=
  .next (s.asked dt rq (rq.put Dict.bcastIssue 0 0) (State.serveBcastOp 1 rq))

/-- BCAST_ISSUE_JOB_TEARDOWN (09 R191). -/
def execBcastIssueJobTeardown (dt : Nat) (rq : Requester) (s : State) : Host.Outcome State Fault Refusal :=
  .next (s.asked dt rq (rq.put Dict.bcastIssue 0 0) (State.serveBcastOp 2 rq))

/-- BCAST_ISSUE_HOST_MESSAGE (09 R191). -/
def execBcastIssueHostMessage (dt : Nat) (rq : Requester) (s : State) : Host.Outcome State Fault Refusal :=
  .next (s.asked dt rq (rq.put Dict.bcastIssue 0 0) (State.serveBcastOp 3 rq))

/-! ### Shutter channel 1 (02 R45) -/

/-- A slot of a channel fires: its pulse leaves on SH_OUT[1] to [7] of Uhlyr-D or TP_OUT[2] to [7] of a tray chip, whose pins stay low
during any reset, FIRED counts, and a one-shot channel goes off (02 R41, R45, 18 R378, 21 R429). -/
def State.fireSlot (s : State) (c time : Nat) : State :=
  let ch := s.chan c
  let width := if c = 1 then 20 else s.rd Dict.shutterWidth c
  let s1 := if c = 0 ∨ (!s.isDie ∧ (c = 1 ∨ s.anyReset)) then s else s.emit (.pulse c width time)
  let s2 := (s1.setChan c { ch with next := ch.next + 1 }).bump Dict.shutterFired c
  if s.rd Dict.shutterMode c = 1 then s2.wr Dict.shutterMode 0 c else s2

/-- Channel 1 has fired for a release of the job: it is a test boundary (10 R225). -/
def State.firedRelease (s : State) : State :=
  match (s.chan 1).release with
  | some _ => (s.setChan 1 { s.chan 1 with release := none }).testBoundary
  | none => s

/-- A release arms channel 1 (02 R45). -/
def State.armChannel (s : State) (job barrier tRel : Nat) : State :=
  let ch := s.chan 1
  ((((s.setChan 1 { ch with next := 0, armed := ch.armed + 1, release := some (job, barrier) }).wr Dict.shutterStart
    (time80OfNs tRel) 1).wr Dict.shutterPeriod 0 1).wr Dict.shutterBase (ch.armed % 2 ^ 32) 1).wr Dict.shutterMode 1 1

/-! ### The leaf (09 R192, R199, R202) -/

/-- The leaf's part of chapter 09 takes a value. -/
def State.setLeaf (s : State) (l : LeafJob) : State := s.setBar { s.bar with leaf := l }

/-- BCAST_ACK of the leaf goes up (09 R193). -/
def State.sendLeafAck (s : State) (job tree seq : Nat) : State :=
  let dies := [s.dieField]
  let bytes := class1Bytes 4 job tree seq (s.rd Dict.memberEpoch) 0 false (leBytes 4 1 ++ zeros 4 ++ chunkBytes dies)
  s.enqueueUp s.frameNow 1 { kind := .bcastAck, bytes := bytes, frame := s.frameNow, prec := 4 }

/-- The leaf acknowledges a broadcast. -/
def State.ackBcast (s : State) (job tree seq : Nat) : State :=
  (s.setLeaf { s.bar.leaf with lastSeq := Tbl.set s.bar.leaf.lastSeq tree (seq, true) }).sendLeafAck job tree seq

/-- A message of Table 09-7 is delivered to the host by doorbell 1 (18 R384). -/
def State.deliver (s : State) (kind tree seq job : Nat) (payload : Bytes) : State :=
  (s.setLeaf { s.bar.leaf with delivering := s.bar.leaf.delivering ++ [(kind, tree, seq, job, payload)] }).mbSend 1 kind payload

/-- The host has acknowledged a delivery (18 R384): a start or a host message is acknowledged upward. -/
def State.delivered (s : State) (kind : Nat) : State :=
  match s.bar.leaf.delivering.find? (fun d => d.1 == kind) with
  | none => s
  | some d =>
    let s1 := s.setLeaf { s.bar.leaf with delivering := s.bar.leaf.delivering.erase d }
    if kind = 2 then s1 else s1.ackBcast d.2.2.2.1 d.2.1 d.2.2.1

/-- START_BARRIER of a JOB_START's payload (Table 09-5). -/
def startBarrierOf (m : DownMsg) : Nat :=
  match m.body with
  | .bcast _ payload => leAt payload 0 2
  | _ => 0

/-- The leaf takes a start: RUNNING, recorded and delivered (Table 09-7); the lateness reference is cleared (09 R199). -/
def State.runStart (s : State) (m : DownMsg) : State :=
  let b := startBarrierOf m
  let s1 := s.setLeaf { s.bar.leaf with tree := some m.id, job := m.job, heldStart := none, startBarrier := some (b % 4096)
                                        reference := none, released := false, step := 0 }
  (s1.wr Dict.jobState 2).deliver 1 m.id m.seq m.job (leBytes 2 m.job ++ leBytes 2 m.id ++ leBytes 2 b ++ zeros 2)

/-- A start in IDLE: taken if the own entry names its job, else held (Table 09-7). -/
def State.takeStart (s : State) (m : DownMsg) : State :=
  if s.rd Dict.myJob = m.job then s.runStart m
  else (s.setLeaf { s.bar.leaf with heldStart := some m }).wr Dict.jobState 1

/-- A broadcast's event in the leaf job machine (Table 09-7); an event without a row does nothing. -/
def State.leafEvent (s : State) (m : DownMsg) (op : Nat) (payload : Bytes) : State :=
  let st := s.rd Dict.jobState
  let onT := s.bar.leaf.tree == some m.id
  if op = 1 ∧ st = 0 then s.takeStart m
  else if op = 1 ∧ st = 3 then s.setLeaf { s.bar.leaf with heldStart := some m }
  else if op = 3 ∧ st = 2 ∧ onT then s.deliver 3 m.id m.seq m.job payload
  else if op = 2 ∧ st = 2 ∧ onT then
    (s.setLeaf { s.bar.leaf with teardown := some (m.job, m.id, m.seq) } |>.wr Dict.jobState 3).deliver 2 m.id m.seq m.job (leBytes 2 m.job ++ leBytes 2 m.id)
  else if op = 4 then s.setLeaf { s.bar.leaf with lastSeq := Tbl.del s.bar.leaf.lastSeq (leAt payload 0 2) }
  else s

/-- A BCAST at the leaf that R189 does not hold (09 R192). -/
def State.leafBcast (s : State) (m : DownMsg) (op : Nat) (payload : Bytes) : State :=
  match Tbl.get? s.bar.leaf.lastSeq m.id with
  | some (q, acked) =>
    if q = m.seq then (let s1 := s.bumpSat Dict.duplicates
                       if acked then s1.sendLeafAck m.job m.id m.seq else s1)
    else (s.setLeaf { s.bar.leaf with lastSeq := Tbl.set s.bar.leaf.lastSeq m.id (m.seq, false) }).leafEvent m op payload
  | none => (s.setLeaf { s.bar.leaf with lastSeq := Tbl.set s.bar.leaf.lastSeq m.id (m.seq, false) }).leafEvent m op payload

/-- A RELEASE at the leaf that R189 does not hold (09 R192, R202, 18 R373). -/
def State.leafRelease (s : State) (m : DownMsg) (tRel latestDie : Nat) : State :=
  let l := s.bar.leaf
  if m.job ≠ s.rd Dict.myJob then s
  else if !(l.arrivals.any (fun a => a.awaiting && a.job == m.job && a.barrier == m.id)) then s.bumpSat Dict.duplicates
  else
    let armMin := s.rd Dict.armMin
    let now := ceilDiv s.time.now nsUnits
    let late := decide (tRel < now + armMin)
    let short := satTo 32 (now + armMin - tRel)
    let arrivals := l.arrivals.map (fun (a : LeafArrival) => if a.job == m.job && a.barrier == m.id then { a with awaiting := false } else a)
    let s1 := s.setLeaf { l with
      arrivals := arrivals, reference := some tRel, released := true, step := (l.step + 1) % 2 ^ 32 }
    let s2 := ((s1.wrBytes Dict.lastRelease m.bytes).shiftWindow (latestDie == s.rd Dict.dieId)).ceSend (.releaseArmed m.id m.job late tRel)
    let s3 := s2.armChannel m.job m.id tRel
    if !late then s3
    else ((s3.bumpSat Dict.lateReleases).raise true false recReleaseLate (packBits [(16, m.job), (12, m.id), (32, short), (68, 0)])).fireSlot 1 s.nowNs |>.firedRelease

/-- A message that the leaf acts on. -/
def State.leafAct (s : State) (m : DownMsg) : State :=
  match m.body with
  | .release t d => s.leafRelease m t d
  | .bcast op payload => s.leafBcast m op payload
  | .epoch _ _ _ _ _ => s

/-- A RELEASE or BCAST at the leaf: acknowledged by hop, held or acted on (09 R183, R189). -/
def State.leafTake (s : State) (p : Nat) (m : DownMsg) : State :=
  let s1 := s.hopAckOf p m
  if s1.heldBack m then s1.setBar { s1.bar with held := s1.bar.held ++ [m] } else s1.leafAct m

/-- MY_JOB has changed and the segment carries no size of the new job, since its member count stayed: JOB_SIZE is open (09 R186). -/
def State.unsized (s : State) (m : DownMsg) (oldJob : Nat) : State :=
  let job := s.rd Dict.myJob
  let told := m.entries.any (fun e => match e with
    | .size j _ => j == job
    | .die _ _ _ => false)
  if job = oldJob ∨ job = 0xFFFF ∨ told then s else (s.wr Dict.jobSize (s.freeVal % 131073)).drawn

/-- The leaf applies a segment: its own entry and its job's size (09 R184, R186, R199, 08 R158). -/
def State.leafApply (s : State) (m : DownMsg) : State :=
  let oldJob := s.rd Dict.myJob
  let s0 := s.setBar { s.bar with segs := s.bar.segs.erase m }
  let own (t : State) (e : EpochEntry) : State := match e with
    | .die id job member => if id = s.rd Dict.dieId then (t.wr Dict.myJob job).wr Dict.myMember (bit member) else t
    | .size _ _ => t
  let size (t : State) (e : EpochEntry) : State := match e with
    | .size job n => if job = t.rd Dict.myJob ∧ job ≠ 0xFFFF then t.wr Dict.jobSize n else t
    | .die _ _ _ => t
  let s1 := m.entries.foldl own s0
  let s2 := m.entries.foldl size (s1.unsized m oldJob)
  let s3 := (if s2.rd Dict.myJob = 0xFFFF then s2.wr Dict.jobSize 0 else s2).wr Dict.memberEpoch m.epoch
  let s4 := if s3.rd Dict.myJob = oldJob then s3
    else (s3.setLeaf { s3.bar.leaf with reference := none }).setVer { s3.ver with stateDue := true } |>.restartWindow
  let go := s4.bar.held.filter (fun x => !s4.heldBack x)
  let s5 := go.foldl State.leafAct (s4.setBar { s4.bar with held := s4.bar.held.filter s4.heldBack })
  match s5.bar.leaf.heldStart with
  | some x => if s5.rd Dict.jobState = 1 ∧ s5.rd Dict.myJob = x.job then s5.runStart x else s5
  | none => s5

/-- The segment that a leaf applies next. -/
def State.nextLeafSeg (s : State) : Option DownMsg :=
  s.bar.segs.find? (fun m => match m.body with
    | .epoch _ _ _ resync _ => resync || m.epoch == (s.rd Dict.memberEpoch + 1) % 2 ^ 32
    | _ => false)

/-- EPOCH_APPLIED (09 R186, R187): the next segment has been applied. -/
def execEpochApplied (dt : Nat) (s : State) : Host.Outcome State Fault Refusal :=
  .next (s.core dt (fun s =>
    if s.isDie then (match s.nextLeafSeg with
      | some m => s.leafApply m
      | none => s)
    else match s.nextSeg with
      | some m => s.segApplied m
      | none => s))

/-- A segment at the leaf: a duplicate, or kept to be applied (09 R192). -/
def State.leafSegment (s : State) (p : Nat) (m : DownMsg) (resync : Bool) : State :=
  let s1 := s.hopAckOf p m
  if !resync && (frameGe (s1.rd Dict.memberEpoch) m.epoch || s1.bar.segs.any (fun x => x.key == m.key)) then s1.bumpSat Dict.duplicates
  else s1.setBar { s1.bar with segs := s1.bar.segs ++ [m] }

/-- EPOCH_SEGMENT (09 R186, R188): an EPOCH segment arrives on port p. -/
def execEpochSegment (dt p epoch level : Nat) (reissue : Bool) (firstFrame seg segs : Nat) (resync : Bool) (entries : List EpochEntry)
    (s : State) : Host.Outcome State Fault Refusal :=
  let m : DownMsg := { job := 0xFFFF, id := 0xFFF, seq := 0, epoch := epoch, level := level, reissue := reissue
                       body := .epoch firstFrame seg segs resync entries }
  .next (s.fromLane dt p 1 (.epochSegment 0 p epoch level reissue firstFrame seg segs resync entries) (fun s => s.onLane p (fun s =>
    let keep (s : State) : State := s.setBar { s.bar with segs := s.bar.segs ++ [m] } |>.syncBar
    if s.isDie then s.leafSegment p m resync
    else if resync && !reissue && !s.isDown p then keep (s.hopAckOf p m)
    else s.takeDown p m keep)))

/-- RELEASE (09 R202): a RELEASE arrives on port p. -/
def execRelease (dt p job barrier epoch level : Nat) (reissue : Bool) (tRel latestDie : Nat) (s : State) : Host.Outcome State Fault Refusal :=
  let m : DownMsg := { job := job, id := barrier, seq := 0, epoch := epoch, level := level, reissue := reissue, body := .release tRel latestDie }
  .next (s.fromLane dt p 1 (.release 0 p job barrier epoch level reissue tRel latestDie) (fun s => s.onLane p (fun s => if s.isDie then s.leafTake p m else s.takeDown p m (State.holdOrAct m))))

/-- BCAST (09 R195): a BCAST arrives on port p. -/
def execBcast (dt p job tree seq epoch level : Nat) (reissue : Bool) (op : Nat) (payload : Bytes) (s : State) : Host.Outcome State Fault Refusal :=
  let m : DownMsg := { job := job, id := tree, seq := seq, epoch := epoch, level := level, reissue := reissue, body := .bcast op payload }
  .next (s.fromLane dt p 1 (.bcast 0 p job tree seq epoch level reissue op payload) (fun s => s.onLane p (fun s => if s.isDie then s.leafTake p m else s.takeDown p m (State.holdOrAct m))))

/-- The host reports teardown done (Table 09-7, 18 R384); JOB_STATE becoming IDLE issues the waiting tests (10 R225). In another state it falls under 00 R7, and JOB_STATE is open. -/
def State.teardownDone (s : State) : State :=
  match s.bar.leaf.teardown with
  | none => (s.wr Dict.jobState (s.freeVal % 4)).drawn
  | some (job, tree, seq) =>
    let s1 := s.ackBcast job tree seq
    let held := s1.bar.leaf.heldStart
    let s2 := (s1.setLeaf { s1.bar.leaf with teardown := none, tree := none, job := 0xFFFF, heldStart := none }).wr Dict.jobState 0
    match held with
    | some m => s2.takeStart m
    | none => s2.testBoundary

/-- TEARDOWN_DONE (09 R192): the host reports that the teardown of a job is done. -/
def execTeardownDone (dt job : Nat) (s : State) : Host.Outcome State Fault Refusal :=
  .next (s.fromHost dt 3 (.teardownDone 0 job) (fun s => if !s.isDie then s
    else if s.bar.leaf.teardown.any (fun t => t.1 == job) then s.touch.teardownDone
    else (s.wr Dict.jobState (s.freeVal % 4)).drawn))

/-! ### Arrivals of the leaf (09 R198, R199) -/

/-- An ARRIVAL of the leaf goes up. -/
def State.sendArrival (s : State) (a : LeafArrival) : State :=
  let d := s.dieField
  let body := leBytes 8 a.time ++ leBytes 4 d ++ leBytes 4 1 ++ chunkBytes [d]
  let bytes := class1Bytes 1 a.job a.barrier 0 (s.rd Dict.memberEpoch) 0 false body
  s.enqueueUp s.frameNow 1 { kind := .arrival, bytes := bytes, frame := s.frameNow, prec := 4 }

/-- The frame in which an instant (ns) is registered (03 R59): that of the first channel 0 slot after it. -/
def State.frameOf (s : State) (ns : Nat) : Nat :=
  let sc := s.schedule 0
  let n := (s.chan 0).next
  if 0 < n ∧ ns < sc.due (n - 1) then s.frameNow
  else if s.hasSlot 0 n then (sc.b + n) % 2 ^ 32
  else (s.frameNow + 1) % 2 ^ 32

/-- The host arrives at a barrier at an instant of local time, 2^-16 ns (09 R199). -/
def State.ceArrive (s : State) (barrier arrival : Nat) : State :=
  let l := s.bar.leaf
  let t := arrival / nsUnits
  let late : Option Nat := match l.reference with
    | some r => some (satTo 32 (t - r))
    | none => if l.startBarrier == some barrier && !l.released then some 0 else none
  let a : LeafArrival := { barrier := barrier, time := t, late := late, frame := s.frameOf t, awaiting := true, job := s.rd Dict.myJob }
  ((s.setLeaf { l with arrivals := (l.arrivals ++ [a]).drop (l.arrivals.length - 63) }).takeLateness late).sendArrival a

/-- The upward route has moved: what awaits a release is sent again (09 R198). -/
def State.resendBarriers (s : State) : State :=
  if s.isDie then (s.bar.leaf.arrivals.filter (·.awaiting)).foldl State.sendArrival s
  else s.bar.openBars.foldl State.sendBarrier s

end Sys2Proof.Machine
end

