-- ==== Sys2Proof/Machine/TraceCore.lean ====
section
/-! DEFINITION. Trace: lines, packets, drops, stalls, offload units, the trace store (chapter 11). -/

namespace Sys2Proof.Machine

open Sys2Proof

/-! ### Sources and lines (11 R233 to R237) -/

/-- A trace source. -/
def State.trc (s : State) (n : Nat) : TraceSource := Tbl.getD s.tr.sources n {}

/-- A trace source takes a value. -/
def State.setTrc (s : State) (n : Nat) (t : TraceSource) : State := { s with tr := { s.tr with sources := Tbl.set s.tr.sources n t } }

/-- The sources that a build has (Table 11-1). -/
def State.traceSources (s : State) : List Nat := if s.isDie then List.range 10 else [1]

/-- A branch source (Table 11-1). -/
def isBranch (n : Nat) : Bool := n != 0

/-- A line: header (Table 11-2) and 60 payload bytes. -/
def traceLine (src valid first lseq : Nat) (payload : Bytes) : Bytes :=
  leBytes 4 (packBits [(4, src), (6, valid), (6, first), (16, lseq)]) ++ fitBytes 60 payload

/-- An offload unit header (Table 11-8). -/
def unitHeader (seq die src lines firstLseq blockLen : Nat) : Bytes :=
  leBytes 16 (packBits [(32, seq), (17, die), (4, src), (7, lines), (16, firstLseq), (20, 0), (32, blockLen)])

/-! ### The trace store (11 R249) -/

/-- Bytes written into a ring of the stacks, wrapping at its end. -/
def State.ringWrite (s : State) (base size off : Nat) (bytes : Bytes) : State :=
  if size = 0 then s
  else
    let o := off % size
    let n := size - o
    (s.stackWrite (base + o) (bytes.take n)).stackWrite base (bytes.drop n)

/-- Bytes read from a ring of the stacks. -/
def State.ringRead (s : State) (base size off len : Nat) : Bytes :=
  if size = 0 then []
  else
    let o := off % size
    s.stackRead (base + o) (min len (size - o)) ++ s.stackRead base (len - (size - o))

/-- A read from a ring of the stacks counts (21 R431). -/
def State.countRing (s : State) (base size off len : Nat) : State :=
  if size = 0 then s
  else
    let o := off % size
    (s.countStack (base + o) (min len (size - o)) false).countStack base (len - (size - o)) false

/-- An entry is appended on a 64-byte boundary and overwrites the oldest it covers. -/
def State.storeAppend (s : State) (bytes : Bytes) : State :=
  let size := s.rd Dict.traceStoreSize
  let b := padTo 64 bytes
  let pos := s.tr.storePos
  let s1 := s.ringWrite (s.rd Dict.traceStoreBase) size pos b
  { s1 with tr := { s1.tr with
    store := s1.tr.store.filter (fun e => decide (pos + b.length ≤ e.1 + size)) ++ [(pos, bytes.length)]
    storePos := pos + b.length } }

/-- STORE_CURSOR has been written: it stands for the entry that begins there, or for the write position (log entry 19). -/
def State.seekStore (s : State) : State :=
  let size := s.rd Dict.traceStoreSize
  let c := s.rd Dict.storeCursor % size
  let place := match s.tr.store.find? (fun e => e.1 % size == c) with
    | some e => some e.1
    | none => if s.tr.storePos % size = c then some s.tr.storePos else none
  { s with tr := { s.tr with cursorAt := place } }

/-! ### Offload units (11 R249, 12 R269) -/

/-- The unit gathered for a source is coded and sent: on class 5, or by a tray chip's keeper into its own trace store. -/
def State.sendUnit (s : State) (n : Nat) : State :=
  let t := s.trc n
  if t.unit.lines.isEmpty then s
  else
    let block := prcEncode 0 64 3 (s.rd Dict.brSearch) t.unit.lines.flatten
    let h := unitHeader t.unit.seq (if s.isDie then s.dieField else 0) n t.unit.lines.length t.unit.firstLseq block.length
    let s1 := s.setTrc n { t with unit := { lines := [], since := 0, firstLseq := 0, seq := (t.unit.seq + 1) % 2 ^ 32 } }
    if s.isDie then s1.offer 5 .offload (h ++ block) else s1.storeAppend (h ++ block)

/-- A line joins its source's unit, which is sent when it holds 64. -/
def State.gatherLine (s : State) (n lseq : Nat) (line : Bytes) : State :=
  let t := s.trc n
  let u : OffloadUnit :=
    if t.unit.lines.isEmpty then { t.unit with lines := [line], since := s.time.now, firstLseq := lseq }
    else { t.unit with lines := t.unit.lines ++ [line] }
  let s1 := s.setTrc n { t with unit := u }
  if 64 ≤ u.lines.length then s1.sendUnit n else s1

/-- The line being filled is completed: queued for the sink, and gathered where the source is offloaded (11 R237, R249). -/
def State.completeLine (s : State) (n : Nat) : State :=
  let t := s.trc n
  if t.line.isEmpty then s
  else
    let l := traceLine n t.line.length t.first t.lseq t.line
    let s1 := s.setTrc n { t with line := [], first := 63, lseq := (t.lseq + 1) % 65536 }
    if s.isDie then
      let s2 := { s1 with tr := { s1.tr with lines := s1.tr.lines ++ [(n, l)] } }
      if (s.rd Dict.offloadSources).testBit n then s2.gatherLine n t.lseq l else s2
    else (s1.bump Dict.srcLines n).gatherLine n t.lseq l

/-- Payload bytes run on from line to line; a packet that starts here marks FIRST. -/
def State.pushLine : Nat → State → Nat → Bool → Bytes → State
  | 0, s, _, _, _ => s
  | k + 1, s, n, starts, bs =>
    match bs with
    | [] => s
    | _ =>
      let t := s.trc n
      let room := 60 - t.line.length
      let t1 := { t with line := t.line ++ bs.take room, first := if starts && t.first == 63 then t.line.length else t.first }
      let s1 := s.setTrc n t1
      let s2 := if 60 ≤ t1.line.length then s1.completeLine n else s1
      State.pushLine k s2 n false (bs.drop room)

/-! ### The buffer (11 R238; log entry 18) -/

/-- Bytes of a source's 4 KB buffer in use: its lines that wait for the sink, and the line being filled. -/
def State.traceUsed (s : State) (n : Nat) : Nat :=
  64 * (s.tr.lines.filter (fun e => e.1 == n)).length + (if (s.trc n).line.isEmpty then 0 else 4 + (s.trc n).line.length)

/-- Free bytes of a source's buffer. -/
def State.traceFree (s : State) (n : Nat) : Nat := 4096 - s.traceUsed n

/-- A source stalls its core: STALL on a sequencer source. -/
def State.stalls (s : State) (n : Nat) : Bool := decide (2 ≤ n) && s.rd Dict.srcFullPolicy n == 1

/-- A source's core stalls: SQ_STALL of port k goes out as level 2 k + 1. -/
def State.stallCore (s : State) (n : Nat) : State :=
  if (s.trc n).stallSince.isSome then s
  else (s.setTrc n { s.trc n with stallSince := some s.time.now }).emit (.pin "SQ_STALL" (2 * (n - 2) + 1))

/-- Stall is asserted below 512 free bytes; once the core island is ACTIVE (19 R391) it is released at 2,048, as level 2 k, and
the time stalled is added to STALL_NS. -/
def State.stallCheck (s : State) (n : Nat) : State :=
  let t := s.trc n
  match t.stallSince with
  | none =>
    if s.stalls n && t.enabled && decide (s.traceFree n < 512) then s.stallCore n else s
  | some since =>
    if s.coreActive && decide (2048 ≤ s.traceFree n) then
      ((s.setTrc n { t with stallSince := none }).bump Dict.srcStallNs n 0 (s.time.now / nsUnits - since / nsUnits)).emit
        (.pin "SQ_STALL" (2 * (n - 2)))
    else s

/-! ### Packets (11 R239 to R244) -/

/-- Unsigned LEB128 (11 R239). -/
def varint : Nat → Nat → Bytes
  | 0, v => leBytes 1 v
  | k + 1, v => if v < 128 then leBytes 1 v else leBytes 1 (128 + v % 128) ++ varint k (v / 128)

/-- zz of a signed 64-bit value. -/
def zigzag (d : Int) : Nat := if 0 ≤ d then 2 * d.toNat else 2 * (-d).toNat - 1

/-- A packet goes into the line, or is discarded whole where it does not fit (or where `full` says that nothing does). -/
def State.rawPacket (s : State) (n : Nat) (full : Bool) (bs : Bytes) : State :=
  let t := s.trc n
  if full || decide (s.traceFree n < bs.length) then
    ((s.setTrc n { t with dropPackets := t.dropPackets + 1, dropBytes := t.dropBytes + bs.length
                          atoms := if isBranch n then [] else t.atoms }).bumpSat Dict.srcDroppedPackets n).bump
      Dict.srcDroppedBytes n 0 bs.length
  else
    let s1 := State.pushLine (bs.length + 1) s n true bs
    (s1.setTrc n { s1.trc n with lastPacket := s1.time.now }).stallCheck n

/-- SYNC (11 R240, R241) at a time in ns: it carries the time and, while a branch source is tracing, the next address. -/
def State.syncPacket (s : State) (n : Nat) (full : Bool) (ns : Nat) : State :=
  let t := s.trc n
  let addr := t.nextAddr.getD (s.freeVal % 2 ^ 64)
  let withAddr := isBranch n && t.active
  let s1 := if withAddr && t.nextAddr.isNone then s.drawn else s
  let bs := leBytes 1 0x84 ++ time80Bytes ns ++ leBytes 1 (bit t.active + 2 * bit withAddr) ++
    (if withAddr then leBytes 8 addr else [])
  let s2 := s1.setTrc n { t with timeRef := ns, lastSync := s.time.now, syncDue := false, ref := if withAddr then addr else t.ref }
  s2.rawPacket n full bs

/-- SYNC is due: marked, or SYNC_PERIOD has passed (11 R240). -/
def State.syncIsDue (s : State) (n : Nat) : Bool :=
  (s.trc n).syncDue || s.passed (s.trc n).lastSync (s.rd Dict.syncPeriod)

/-- TIME, where 1,024 ns have passed since the source's time reference (11 R240). -/
def State.timePacket (s : State) (n : Nat) (full : Bool) : State :=
  let t := s.trc n
  let d := s.nowNs - t.timeRef
  if isBranch n && decide (1024 ≤ d) then
    (s.setTrc n { t with timeRef := s.nowNs }).rawPacket n full (leBytes 1 0x85 ++ varint 10 d)
  else s

/-- What precedes the next packet: DROP and SYNC, or SYNC, or nothing (11 R238, R240). -/
def State.packetLead (s : State) (n : Nat) (full : Bool) (ns : Nat) : State :=
  let t := s.trc n
  if 0 < t.dropPackets ∧ 256 ≤ s.traceFree n ∧ !full then
    ((s.setTrc n { t with dropPackets := 0, dropBytes := 0 }).rawPacket n full
      (leBytes 1 0x86 ++ varint 10 t.dropPackets ++ varint 10 t.dropBytes)).syncPacket n full ns
  else if s.syncIsDue n then s.syncPacket n full ns
  else s

/-- What precedes the next packet of a source now: DROP and SYNC, or SYNC, or TIME (11 R238, R240). -/
def State.leadNow (s : State) (n : Nat) (full : Bool) : State := (s.packetLead n full s.nowNs).timePacket n full

/-- Pending atoms leave as one ATOM packet, behind what is due (11 R240, R243; log entry 17). A drop in front of it discards
them (11 R238). -/
def State.flushAtoms (s : State) (n : Nat) (full : Bool) : State :=
  if (s.trc n).atoms.isEmpty then s
  else
    let s1 := s.leadNow n full
    let atoms := (s1.trc n).atoms
    if atoms.isEmpty then s1
    else (s1.setTrc n { s1.trc n with atoms := [] }).rawPacket n full (leBytes 1 (atoms.foldr (fun b acc => bit b + 2 * acc) 1))

/-- A packet of a branch source: atoms first, then what is due, then the packet. -/
def State.branchPacket (s : State) (n : Nat) (full : Bool) (bs : Bytes) : State :=
  ((s.flushAtoms n full).leadNow n full).rawPacket n full bs

/-- A command packet at an arrival time in ns (11 R242); a SYNC in front of it carries that time. -/
def State.commandPacket (s : State) (head ns : Nat) (fields : Bytes) : State :=
  let lead := s.syncIsDue 0 || (decide (0 < (s.trc 0).dropPackets) && decide (256 ≤ s.traceFree 0))
  let at_ := if lead then ns else max ns (s.trc 0).timeRef
  let s1 := s.packetLead 0 false at_
  let t := s1.trc 0
  (s1.setTrc 0 { t with timeRef := at_ }).rawPacket 0 false (leBytes 1 head ++ varint 10 (at_ - t.timeRef) ++ fields)

/-- A BEGIN or END of a traced class yields its packet (Tables 11-4, 11-5). -/
def State.traceCommand (s : State) (isBegin : Bool) (cmd engine cls tag arrival : Nat) : State :=
  if !s.isDie || !(s.trc 0).enabled || !(s.rd Dict.cmdClassMask).testBit cls then s
  else if isBegin then s.commandPacket 0x88 (arrival / nsUnits) (leBytes 6 (packBits [(11, engine), (17, cmd), (4, cls), (16, tag)]))
  else s.commandPacket 0x89 (arrival / nsUnits) (leBytes 4 (packBits [(11, engine), (17, cmd), (4, cls)]))

/-- TRACE_OFF: the packet, and the line completed (11 R237, R245). -/
def State.traceOff (s : State) (n : Nat) (full : Bool) (cause index : Nat) : State :=
  let s1 := s.branchPacket n full (leBytes 1 0x83 ++ leBytes 1 (cause * 16 + index))
  (s1.setTrc n { s1.trc n with active := false }).completeLine n

/-- TRACE_ON with ADDR, which becomes the reference (11 R244, R245). -/
def State.traceOn (s : State) (n : Nat) (full : Bool) (cause index a : Nat) : State :=
  let s1 := s.branchPacket n full (leBytes 1 0x82 ++ leBytes 1 (cause * 16 + index) ++ leBytes 8 a)
  s1.setTrc n { s1.trc n with active := true, ref := a, onCause := 2 }

/-- POWER (Table 11-7): the packet, and the line completed. -/
def State.powerPacket (s : State) (n : Nat) (enter : Bool) (who st : Nat) : State :=
  (s.branchPacket n false (leBytes 1 0x87 ++ leBytes 1 (bit enter * 128 + who * 16 + st))).completeLine n

/-- Every enabled source marks the entry into a power state (11 R247). -/
def State.tracePowerEnter (s : State) (st : Nat) : State :=
  s.traceSources.foldl (fun t n => if (t.trc n).enabled then t.powerPacket n true 0 st else t) s

/-- Every enabled source marks that the block has left a power state, and then SYNC (11 R247). -/
def State.tracePowerLeave (s : State) (st : Nat) : State :=
  s.traceSources.foldl (fun t n =>
    if (t.trc n).enabled then
      let t1 := t.powerPacket n false 0 st
      (t1.syncPacket n false t1.nowNs)
    else t) s

/-- The keeper's source stops tracing before the keeper stops: TRACE_OFF with CAUSE 4 (11 R246). -/
def State.keeperTraceOff (s : State) : State :=
  if (s.trc 1).enabled && (s.trc 1).active then s.traceOff 1 false 4 0 else s

/-! ### Retirement (11 R243 to R245) -/

/-- The lowest comparator of an action that matches an address. -/
def State.cmpHit (s : State) (n action a : Nat) : Option Nat :=
  (List.range 8).find? (fun k => s.rd Dict.srcCmpAction n k == action && s.rd Dict.srcCmpAddr n k == a)

/-- Ranges of a mode, ascending. -/
def State.rangesOf (s : State) (n mode : Nat) : List Nat := (List.range 4).filter (fun r => s.rd Dict.srcRangeMode n r == mode)

/-- A range covers an address. -/
def State.covers (s : State) (n a r : Nat) : Bool :=
  decide (s.rd Dict.srcRangeLow n r ≤ a) && decide (a < s.rd Dict.srcRangeHigh n r)

/-- Is an address in range (11 R245)? -/
def State.inRange (s : State) (n a : Nat) : Bool :=
  ((s.rangesOf n 1).isEmpty || (s.rangesOf n 1).any (s.covers n a)) && !((s.rangesOf n 2).any (s.covers n a))

/-- zz of an address delta, shifted by ALIGN (11 R244). -/
def State.deltaCode (s : State) (n to_ ref : Nat) : Nat :=
  zigzag (toSigned 64 (to_ + 2 ^ 64 - ref % 2 ^ 64) / (2 ^ (s.rd Dict.srcAlign n % 4) : Nat))

/-- INDIRECT: the target's delta, and the target becomes the reference. -/
def State.indirect (s : State) (n : Nat) (full : Bool) (target : Nat) : State :=
  let s2 := (s.flushAtoms n full).leadNow n full
  let s3 := s2.rawPacket n full (leBytes 1 0x80 ++ varint 10 (s2.deltaCode n target (s2.trc n).ref))
  s3.setTrc n { s3.trc n with ref := target, nextAddr := some target }

/-- The address of the next instruction to retire becomes known, or unknown (11 R241). -/
def State.setNextAddr (s : State) (n : Nat) (a : Option Nat) : State := s.setTrc n { s.trc n with nextAddr := a }

/-- An asynchronous entry: EXCEPTION, then INDIRECT (11 R244). What precedes EXCEPTION still goes on at the instruction not
retired, what follows it at the handler. -/
def State.exception (s : State) (n : Nat) (full : Bool) (ret handler : Nat) : State :=
  let s2 := ((s.setNextAddr n (some ret)).flushAtoms n full).leadNow n full
  let s3 := s2.rawPacket n full (leBytes 1 0x81 ++ varint 10 (s2.deltaCode n ret (s2.trc n).ref))
  (s3.setTrc n { s3.trc n with ref := ret, nextAddr := some handler }).indirect n full handler

/-- The flow change of an active source's instruction: an atom, or INDIRECT. -/
def State.traceBranch (s : State) (n : Nat) (full : Bool) (kind : Nat) (taken : Bool) (target : Nat) : State :=
  match kind with
  | 1 =>
    let t := s.trc n
    let s1 := s.setTrc n { t with atoms := t.atoms ++ [taken] }
    if 6 ≤ (s1.trc n).atoms.length then s1.flushAtoms n full else s1
  | 2 => s.indirect n full target
  | _ => s

/-- CAUSE and INDEX of a TRACE_ON at an address (Table 11-6): the first after an enable or a resume says so, then the lowest
matching start comparator, then the lowest including range (log entry 17). -/
def State.onReason (s : State) (n a : Nat) : Nat × Nat :=
  let cause := (s.trc n).onCause
  if cause ≠ 2 then (cause, 0)
  else match s.cmpHit n 1 a with
    | some k => (1, k)
    | none => (2, ((s.rangesOf n 1).find? (s.covers n a)).getD 0)

/-- One retired instruction (11 R245); `next` is the address of the one after it, where the port tells it. -/
def State.retire (s : State) (n : Nat) (full : Bool) (a kind : Nat) (taken : Bool) (target : Nat) (next : Option Nat) : State :=
  let t0 := s.trc n
  let t1 := { t0 with started := t0.started || (s.cmpHit n 1 a).isSome, nextAddr := some a }
  let s1 := s.setTrc n t1
  let act := t1.enabled && t1.started && s1.inRange n a
  let s2 :=
    if act && !t0.active then
      s1.traceOn n full (s1.onReason n a).1 (s1.onReason n a).2 a
    else if !act && t0.active then
      s1.traceOff n full 2 (((s1.rangesOf n 2).find? (s1.covers n a)).getD ((s1.rangesOf n 1).headD 0))
    else s1
  let s3 := (if act then s2.traceBranch n full kind taken target else s2).setNextAddr n next
  match s3.cmpHit n 2 a with
  | none => s3
  | some k =>
    let s5 := s3.setTrc n { s3.trc n with started := false }
    if (s5.trc n).active then s5.traceOff n full 1 k else s5

/-- The address after an instruction, where its port tells it: an indirect branch's target, or the instruction behind a branch
that was not taken. -/
def State.nextOf (s : State) (n a kind : Nat) (taken : Bool) (target : Nat) : Option Nat :=
  if kind = 2 then some target
  else if kind = 1 ∧ !taken then some ((a + 2 ^ (s.rd Dict.srcAlign n % 4)) % 2 ^ 64)
  else none

/-- The instructions of a group in order (18 R376): `k` of them from `a` in steps of 2^ALIGN bytes; the group's kind is that
of the last. -/
def State.retireGroup : Nat → State → Nat → Bool → Nat → Nat → Bool → Nat → State
  | 0, s, _, _, _, _, _, _ => s
  | 1, s, n, full, a, kind, taken, target => s.retire n full a kind taken target (s.nextOf n a kind taken target)
  | k + 2, s, n, full, a, kind, taken, target =>
    let b := a + 2 ^ (s.rd Dict.srcAlign n % 4)
    State.retireGroup (k + 1) (s.retire n full a 0 false 0 (some b)) n full b kind taken target

/-- The keeper runs its next instruction, which changes no flow: its address is free, since the spec gives the keeper no program
(00 R6; log entry 62). -/
def State.keeperRetires (s : State) : State :=
  if (s.trc 1).enabled && s.kp.running then s.drawn.retire 1 false (s.freeVal % 2 ^ 64) 0 false 0 none else s

/-- The keeper resumes: SYNC, and TRACE_ON with CAUSE 3 at its first instruction if the source is active there (11 R246). -/
def State.keeperTraceOn (s : State) : State :=
  if (s.trc 1).enabled then
    let s1 := s.syncPacket 1 false s.nowNs
    (s1.setTrc 1 { s1.trc 1 with onCause := 3, nextAddr := none }).keeperRetires
  else s

/-! ### Enabling (11 R233, R245, R248) -/

/-- Source state as SRC_STATE reads it (Table 11-10). -/
def TraceSource.state (t : TraceSource) : Nat := if !t.enabled then 0 else if !t.started then 1 else if !t.active then 2 else 3

/-- A source's bit is set: what an earlier stream gathered goes out, and the stream starts afresh with SYNC. The command source
traces from then on. The keeper is running while a write is served, so its next instruction follows. -/
def State.enableSource (s : State) (n : Nat) : State :=
  let s0 := s.sendUnit n
  let s1 := s0.setTrc n { enabled := true, started := if isBranch n then s0.flag Dict.srcStartInit n else true
                          lastPacket := s0.time.now, lastSync := s0.time.now, asleep := (s0.trc n).asleep, stallSince := (s0.trc n).stallSince }
  let s2 := s1.syncPacket n false s1.nowNs
  let s3 := s2.setTrc n { s2.trc n with active := !isBranch n }
  if n = 1 then s3.keeperRetires else s3

/-- A source's bit is cleared: TRACE_OFF where it is tracing, and its line is completed. -/
def State.disableSource (s : State) (n : Nat) : State :=
  let s1 := if isBranch n && (s.trc n).active then s.traceOff n false 0 0 else s
  let s2 := s1.completeLine n
  s2.setTrc n { s2.trc n with enabled := false, active := false, atoms := [] }

/-- While TRACE_ENABLE is 0, SINK_BASE, SINK_SIZE and SINK_MODE take effect, and a change sets both pointers to 0 (11 R235). -/
def State.adoptSink (s : State) : State :=
  if s.rd Dict.traceEnable != 0 || !s.isDie then s
  else
    let b := s.rd Dict.sinkBase
    let z := s.rd Dict.sinkSize
    let m := s.rd Dict.sinkMode
    if s.tr.sinkBase = b ∧ s.tr.sinkSize = z ∧ s.tr.sinkMode = m then s
    else (State.wr { s with tr := { s.tr with sinkBase := b, sinkSize := z, sinkMode := m } } Dict.sinkWritePtr 0).wr Dict.sinkReadPtr 0

/-- TRACE_ENABLE takes a value. -/
def State.setTraceEnable (s : State) (v : Nat) : State :=
  let s1 := s.traceSources.foldl (fun t n =>
    if v.testBit n && !(t.trc n).enabled then t.enableSource n
    else if !(v.testBit n) && (t.trc n).enabled then t.disableSource n
    else t) s
  (s1.wr Dict.traceEnable v).adoptSink

end Sys2Proof.Machine
end

