-- ==== Sys2Proof/Machine/Ce.lean ====
section
/-! DEFINITION. The command-event port of Uhlyr-D (18 R370 to R373). -/

namespace Sys2Proof.Machine

open Sys2Proof

/-! ### Messages as bits (Table 18-4) -/

/-- A 128-bit message: its OP, then fields from the top, each of so many bits. -/
def ceBits (op : Nat) (fields : List (Nat × Nat)) : BitVec 128 := BitVec.ofNat 128 (packBits ((8, op) :: fields))

/-- A host-to-block message as bits. -/
def CeMsg.bits : CeMsg → BitVec 128
  | .begin_ cmd engine cls tag tile dup =>
    ceBits 0x01 [(17, cmd), (11, engine), (4, cls), (16, tag), (32, tile), (1, bit dup), (39, 0)]
  | .end_ cmd engine cls => ceBits 0x02 [(17, cmd), (11, engine), (4, cls), (88, 0)]
  | .bytes engine level dir count => ceBits 0x03 [(17, 0), (11, engine), (2, level), (1, dir), (25, 0), (64, count)]
  | .linkBytes link dir count => ceBits 0x04 [(24, 0), (6, link), (1, dir), (25, 0), (64, count)]
  | .arrive barrier => ceBits 0x05 [(12, barrier), (108, 0)]
  | .tagOpen tag base => ceBits 0x06 [(32, 0), (16, tag), (8, 0), (64, base)]
  | .tagClose tag => ceBits 0x07 [(32, 0), (16, tag), (72, 0)]
  | .bktOpen slot side base => ceBits 0x08 [(6, slot), (1, side), (49, 0), (64, base)]
  | .bktClose slot side engine => ceBits 0x09 [(6, slot), (1, side), (10, 0), (11, engine), (92, 0)]
  | .dupDecline slot => ceBits 0x0A [(6, slot), (114, 0)]
  | .shardOpen slot dir shardId => ceBits 0x0B [(4, slot), (1, dir), (3, 0), (32, shardId), (80, 0)]
  | .shardRange slot length base => ceBits 0x0C [(4, slot), (4, 0), (48, length), (64, base)]
  | .shardClose slot copyDone => ceBits 0x0D [(4, slot), (1, bit copyDone), (115, 0)]
  | .ckptBoundary => ceBits 0x0E [(120, 0)]

/-- The host-to-block message that bits spell; none for an OP that Table 18-4 does not give that direction (00 R7). -/
def CeMsg.ofBits? (m : BitVec 128) : Option CeMsg :=
  let f (hi lo : Nat) : Nat := fieldOf m.toNat hi lo
  match f 127 120 with
  | 0x01 => some (.begin_ (f 119 103) (f 102 92) (f 91 88) (f 87 72) (f 71 40) (f 39 39 == 1))
  | 0x02 => some (.end_ (f 119 103) (f 102 92) (f 91 88))
  | 0x03 => some (.bytes (f 102 92) (f 91 90) (f 89 89) (f 63 0))
  | 0x04 => some (.linkBytes (f 95 90) (f 89 89) (f 63 0))
  | 0x05 => some (.arrive (f 119 108))
  | 0x06 => some (.tagOpen (f 87 72) (f 63 0))
  | 0x07 => some (.tagClose (f 87 72))
  | 0x08 => some (.bktOpen (f 119 114) (f 113 113) (f 63 0))
  | 0x09 => some (.bktClose (f 119 114) (f 113 113) (f 102 92))
  | 0x0A => some (.dupDecline (f 119 114))
  | 0x0B => some (.shardOpen (f 119 116) (f 115 115) (f 111 80))
  | 0x0C => some (.shardRange (f 119 116) (f 111 64) (f 63 0))
  | 0x0D => some (.shardClose (f 119 116) (f 115 115 == 1))
  | 0x0E => some .ckptBoundary
  | _ => none

/-- A block-to-host message as bits. -/
def CeOut.bits : CeOut → BitVec 128
  | .select cmd selected slot => ceBits 0x81 [(17, cmd), (1, bit selected), (6, slot), (96, 0)]
  | .dupReq cmd origEngine slot => ceBits 0x82 [(17, cmd), (11, origEngine), (6, slot), (86, 0)]
  | .releaseArmed barrier job late tRel => ceBits 0x83 [(12, barrier), (16, job), (1, bit late), (27, 0), (64, tRel)]

/-! ### The port -/

/-- A host-to-block message acts (18 R372); `at_` is its arrival time in 2^-16 ns. -/
def State.ceProcess (s : State) (m : CeMsg) (at_ : Nat) : State :=
  match m with
  | .begin_ cmd engine cls tag tile dup =>
    ((s.countBegin cmd engine cls at_).traceCommand true cmd engine cls tag at_).bracketSelect cmd engine cls tag tile dup
  | .end_ cmd engine cls => (s.countEnd cmd engine cls at_).traceCommand false cmd engine cls 0 at_
  | .bytes engine level dir count => s.countBytes engine level dir count
  | .linkBytes link dir count => s.countLink link dir count
  | .arrive barrier => s.ceArrive barrier at_
  | .tagOpen tag base => s.tagOpen tag base
  | .tagClose tag => s.tagClose tag
  | .bktOpen slot side base => s.bktOpen slot side base
  | .bktClose slot side engine => s.bktClose slot side engine
  | .dupDecline slot => s.dupDecline slot
  | .shardOpen slot dir shardId => s.shardOpen slot dir shardId
  | .shardRange slot length base => s.shardRange slot length base
  | .shardClose slot copyDone => s.shardClose slot copyDone
  | .ckptBoundary => s.testBoundary

/-- What the host offers is transferred while the 256-message queue has room; a message arrives when it is transferred. -/
def State.ceTransfer (s : State) : State :=
  let room := 256 - s.ce.inQ.length
  { s with ce := { s.ce with inQ := s.ce.inQ ++ (s.ce.offered.take room).map (fun m => (m, s.time.now)), offered := s.ce.offered.drop room } }

/-- Waiting messages are processed in order while the queue towards the host is not full (18 R370). -/
def State.ceResume : Nat → State → State
  | 0, s => s
  | n + 1, s =>
    let s1 := s.ceTransfer
    match s1.ce.inQ with
    | [] => s1
    | (m, t) :: rest =>
      if 64 ≤ s1.ce.outQ.length then s1
      else State.ceResume n (State.ceProcess { s1 with ce := { s1.ce with inQ := rest } } m t)

/-- The port takes and processes what it can. -/
def State.ceServe (s : State) : State := State.ceResume (s.ce.inQ.length + s.ce.offered.length + 1) s

/-- The host offers a message after `dt`: the port takes it while the core runs. Through a reset, and while the core sleeps, the message
stays with the host, and a sleeping core is woken (18 R370, 19 R390, R391). -/
def State.ceTake (s : State) (dt : Nat) (m : CeMsg) : State :=
  s.after dt (fun s =>
    if !s.isDie then s
    else
      let s1 : State := { s with ce := { s.ce with offered := s.ce.offered ++ [m] } }
      if s.coreOn then s1.touch.ceServe else if s.inReset then s1 else s1.wake 4 0 0)

/-- BEGIN (18 R372): it opens its entry, counts, is traced and may be selected. -/
def execBegin (dt cmd engine cls tag tile : Nat) (dup : Bool) (s : State) : Host.Outcome State Fault Refusal :=
  .next (s.ceTake dt (.begin_ cmd engine cls tag tile dup))

/-- END (18 R372). -/
def execEnd (dt cmd engine cls : Nat) (s : State) : Host.Outcome State Fault Refusal := .next (s.ceTake dt (.end_ cmd engine cls))

/-- BYTES (18 R372). -/
def execBytes (dt engine level dir count : Nat) (s : State) : Host.Outcome State Fault Refusal :=
  .next (s.ceTake dt (.bytes engine level dir count))

/-- LINK_BYTES (18 R372). -/
def execLinkBytes (dt link dir count : Nat) (s : State) : Host.Outcome State Fault Refusal :=
  .next (s.ceTake dt (.linkBytes link dir count))

/-- ARRIVE (09 R199). -/
def execArrive (dt barrier : Nat) (s : State) : Host.Outcome State Fault Refusal := .next (s.ceTake dt (.arrive barrier))

/-- TAG_OPEN (Table 10-4). -/
def execTagOpen (dt tag base : Nat) (s : State) : Host.Outcome State Fault Refusal := .next (s.ceTake dt (.tagOpen tag base))

/-- TAG_CLOSE (Table 10-4). -/
def execTagClose (dt tag : Nat) (s : State) : Host.Outcome State Fault Refusal := .next (s.ceTake dt (.tagClose tag))

/-- BKT_OPEN (Table 10-4). -/
def execBktOpen (dt slot side base : Nat) (s : State) : Host.Outcome State Fault Refusal := .next (s.ceTake dt (.bktOpen slot side base))

/-- BKT_CLOSE (Table 10-4). -/
def execBktClose (dt slot side engine : Nat) (s : State) : Host.Outcome State Fault Refusal :=
  .next (s.ceTake dt (.bktClose slot side engine))

/-- DUP_DECLINE (Table 10-4). -/
def execDupDecline (dt slot : Nat) (s : State) : Host.Outcome State Fault Refusal := .next (s.ceTake dt (.dupDecline slot))

/-- SHARD_OPEN (10 R227). -/
def execShardOpen (dt slot dir shardId : Nat) (s : State) : Host.Outcome State Fault Refusal :=
  .next (s.ceTake dt (.shardOpen slot dir shardId))

/-- SHARD_RANGE (10 R227). -/
def execShardRange (dt slot length base : Nat) (s : State) : Host.Outcome State Fault Refusal :=
  .next (s.ceTake dt (.shardRange slot length base))

/-- SHARD_CLOSE (10 R227). -/
def execShardClose (dt slot : Nat) (copyDone : Bool) (s : State) : Host.Outcome State Fault Refusal :=
  .next (s.ceTake dt (.shardClose slot copyDone))

/-- CKPT_BOUNDARY (10 R224): every PENDING test entry is issued. -/
def execCkptBoundary (dt : Nat) (s : State) : Host.Outcome State Fault Refusal := .next (s.ceTake dt .ckptBoundary)

/-- CE_B2H_TRANSFER (18 R370): the host takes the oldest message, and the block goes on with those that waited. -/
def execCeB2hTransfer (dt : Nat) (s : State) : Host.Outcome State Fault Refusal :=
  .next (s.core dt (fun s =>
    match s.ce.outQ with
    | [] => s
    | m :: rest => State.ceServe (State.emit { s with ce := { s.ce with outQ := rest } } (.hostMessage m.bits))))

end Sys2Proof.Machine
end

