-- ==== Sys2Proof/Machine/Front.lean ====
section
/-! DEFINITION. The front stage: vectors, condition fields, the leaf's record, feature frames, centres (chapter 04, 07 R139, 14 R308, R309). -/

namespace Sys2Proof.Machine

open Sys2Proof

/-- The front stage takes a value. -/
def State.setFs (s : State) (f : FrontStage) : State := { s with fs := f }

/-! ### The sets of descriptors (04 R79, R93) -/

/-- The set of a number. -/
def FrontStage.set (f : FrontStage) (no : Nat) : DescSet := Tbl.getD f.sets no {}

/-- The staged set, as the objects hold it. -/
def State.stagedSet (s : State) : DescSet :=
  let read (o : Ob) (n : Nat) : Tbl Nat :=
    let b := fitBytes (16 * n) (s.rdBytes o)
    ((List.range n).map (fun j => (j, leAt b (16 * j) 16))).filter (fun e => e.2 != 0)
  { die := read Dict.dieDesc 256, eng := if s.isDie then read Dict.engineDesc 32 else [], tables := s.rdBytes Dict.binTables }

/-- The channel 0 pulse after APPLY: the staged set becomes current; features whose descriptor changed restart their warm-up
counts (04 R93, 08 R161). -/
def State.descPulse (s : State) : State :=
  if !s.fs.applyDue then s
  else
    let old := s.fs.set s.fs.setNo
    let new := s.stagedSet
    let changed := ((List.range 256).filter (fun j => Tbl.getD old.die j 0 != Tbl.getD new.die j 0)).foldl setBit 0
    (s.setFs { s.fs with setNo := s.fs.setNo + 1, sets := Tbl.set s.fs.sets (s.fs.setNo + 1) new, applyDue := false }).restartBaselines changed

/-- A write of the front stage's APPLY at its target. -/
def State.serveDescApply (rq : Requester) (s : State) : State :=
  s.serveCmd rq Dict.descApply 0 (fun s => (s.setFs { s.fs with applyDue := true }, 0))

/-- DESC_APPLY (04 R93). -/
def execDescApply (dt : Nat) (rq : Requester) (s : State) : Host.Outcome State Fault Refusal :=
  .next (s.asked dt rq (rq.put Dict.descApply 0 0) (State.serveDescApply rq))

/-- Does a descriptor differ between two consecutive sets of a range (04 R79)? -/
def FrontStage.changed (f : FrontStage) (get : DescSet → Nat) (lo hi : Nat) : Bool :=
  (List.range (hi - lo)).any (fun i => get (f.set (lo + i)) != get (f.set (lo + i + 1)))

/-- A feature has no reference for its deltas: nothing read (`ref`: the set in force when the last was captured), or its descriptor
has changed since. -/
def FrontStage.freshFor (f : FrontStage) (ref : Option Nat) (p : Snapshot) (get : DescSet → Nat) : Bool :=
  match ref with
  | none => true
  | some no => f.changed get no p.setNo

/-- Clears done before the value at an offset was captured (03 R68), of what a newer capture has torn from an offset on. -/
def clearsAt (torn : Option (Nat × Nat)) (clears off : Nat) : Nat :=
  match torn with
  | some (w, c) => if w ≤ off then c else clears
  | none => clears

/-- Engine e's part of an engine snapshot, as the reference it leaves once read (03 R68). -/
def Snapshot.engineRef (p : Snapshot) (e : Nat) : EngineRef :=
  { body := p.body / 2 ^ (1024 * e) % 2 ^ 1024, clears := p.clears, torn := p.torn.map (fun x => (x.1 - 128 * e, x.2)), setNo := p.setNo }

/-! ### Condition fields (04 R90 to R92) -/

/-- The condition fields of a vector: TEMP_BIN, VOLT_BIN, FREQ_STEP, LOAD_SIG (none: SIG_MISSING), GEN. -/
structure Conds where
  temp : Nat
  volt : Nat
  freq : Nat
  sig : Option Nat
  gen : Nat

/-- The CONDITION selectors (Table 04-3). -/
def Conds.selectors (c : Conds) : List (Option Nat) :=
  [if c.temp = 15 then none else some c.temp, if c.volt = 15 then none else some c.volt,
   if c.freq = 63 then none else some c.freq, c.sig, some c.gen]

/-- TEMP_BIN or VOLT_BIN of a die snapshot; an input that holds no gauge is a host mistake (00 R7). -/
def State.binOf (s : State) (p : Snapshot) (input base step : Ob) : Nat :=
  let i := s.rdAtPulse input
  let kind := p.kinds.getD i 0
  let slot := p.body / 2 ^ (8 * (0x840 + 16 * i))
  if i = 0xFF then 15
  else if 64 ≤ i ∨ kind = 1 ∨ 3 < kind then s.freeVal % 16
  else conditionBin kind (p.sampled.testBit i) (if kind = 3 then slot % 2 ^ 32 else slot % 2 ^ 16) (s.rdAtPulse base) (s.rdAtPulse step) s.freeVal

/-- FREQ_STEP of a die snapshot. -/
def State.freqOf (s : State) (p : Snapshot) : Nat :=
  let i := s.rdAtPulse Dict.freqInput
  let kind := p.kinds.getD i 0
  if i = 0xFF then 63
  else if 64 ≤ i then s.freeVal % 64
  else if kind = 0 || !p.sampled.testBit i then 63
  else if kind = 2 then min (p.body / 2 ^ (8 * (0x840 + 16 * i)) % 2 ^ 16) 62
  else s.freeVal % 64

/-- LOAD_SIG of a die snapshot. -/
def State.sigOf (s : State) (c : SrcContext) : Option Nat :=
  if !s.isDie then none
  else
    let ds := (List.range 16).map (fun k => c.source 2 (0x660 + 32 * k) 0 false)
    let vals := ds.filterMap (fun v => match v with
      | .int x => some x.toNat
      | _ => none)
    if vals.length = 16 then some (loadSig vals) else none

/-! ### The die vector (04 R74 to R89) -/

/-- What the die features of a snapshot are read from. -/
def State.dieContext (s : State) (p : Snapshot) : SrcContext :=
  { engine := false, body := p.hdr.bits + 2 ^ 256 * p.body, ref := s.fs.refDie.map (fun r => r.hdr.bits + 2 ^ 256 * r.body)
    zeroE := fun off => match s.fs.refDie with
      | some r => decide (clearsAt r.torn r.clears (off - 32) < clearsAt p.torn p.clears (off - 32)) ||
          (decide (0x860 ≤ off) && r.kinds.getD ((off - 0x860) / 16) 0 != 1)
      | none => false
    span := p.hdr.spanNs, levels := p.levels, channels := p.channels, links := p.links, health := fun i => p.kinds.getD i 0
    conds := [], tables := (s.fs.set p.setNo).tables }

/-- The condition fields of a die snapshot; an EMPTY frame's read missing (04 R76). -/
def State.condsOf (s : State) (p : Snapshot) (c : SrcContext) : Conds :=
  let gen := s.rdAtPulse Dict.generation % 16
  if p.hdr.empty then { temp := 15, volt := 15, freq := 63, sig := none, gen := gen }
  else { temp := s.binOf p Dict.tempInput Dict.tempBase Dict.tempStep, volt := s.binOf p Dict.voltInput Dict.voltBase Dict.voltStep
         freq := s.freqOf p, sig := s.sigOf c, gen := gen }

/-- What a peer feature's centre gives (04 R85, R88): not arrived, arrived without use, or (N, centre). -/
inductive Centre where
  | late
  | missing
  | value (n c : Nat)

/-- The centre of a level and feature for the vector of a frame, whose snapshot became available to the front stage at a
local time of 2^-16 ns. -/
def State.centreFor (s : State) (level frame feature avail : Nat) : Centre :=
  let n := (frame + 2 ^ 32 - s.rdAtPulse Dict.peerLag) % 2 ^ 32
  match s.fs.centres.find? (fun c => c.frame == n && c.level == level && decide (c.arrived < avail)) with
  | none => .late
  | some c => match c.entries.find? (fun e => e.1 == feature) with
    | none => .missing
    | some e => if e.2.1 = 0 ∨ e.2.2 = missingCode then .missing else .value e.2.1 e.2.2

/-- A peer feature of a die vector: its code, PEER_LATE, and (level, N) of the centre used. -/
def State.diePeer (s : State) (descs : DescSet) (codes : List Nat) (frame avail kind base : Nat) : Nat × Bool × Option (Nat × Nat) :=
  let bk := fieldOf (Tbl.getD descs.die base 0) 103 100
  if kind = 10 ∨ (8 ≤ bk ∧ bk ≤ 10) then (s.freeVal % 65536, false, none)
  else
    let c := codes.getD base missingCode
    if c = missingCode then (missingCode, false, none)
    else match s.centreFor (kind - 8) frame base avail with
      | .late => (missingCode, true, none)
      | .missing => (missingCode, false, none)
      | .value n m => (peerCode c m, false, some (kind - 8, n))

/-- Least N among the centres of a level that were used. -/
def leastN (level : Nat) (l : List (Option (Nat × Nat))) : Nat :=
  match l.filterMap (fun e => match e with
      | some (k, n) => if k == level then some n else none
      | none => none) with
  | [] => 0
  | n :: t => t.foldl min n

/-- A feature is masked: MASK of its descriptor is tested with its code, the mask objects here (04 R79). -/
def State.maskOf (s : State) (eng : Bool) : Nat :=
  if eng then s.rdAtPulse Dict.engineMask else ofLe (s.bytesAtPulse Dict.hostMask)

/-- The die vector of a drained snapshot. -/
def State.dieVector (s : State) (p : Snapshot) : FVector × Conds :=
  let c0 := s.dieContext p
  let cd := s.condsOf p c0
  let c := { c0 with conds := cd.selectors }
  let descs := s.fs.set p.setNo
  let mask := s.maskOf false
  let desc (j : Nat) : Nat := Tbl.getD descs.die j 0
  let isPeer (j : Nat) : Bool := let k := fieldOf (desc j) 103 100
                                 decide (8 ≤ k) && decide (k ≤ 10)
  let first := (List.range 256).map (fun j =>
    if p.hdr.empty || isPeer j then missingCode
    else c.code (desc j) (mask.testBit j) (s.fs.freshFor (s.fs.refDie.map (·.setNo)) p (fun d => Tbl.getD d.die j 0)) (Config.freeNat (s.free + 1 + j)))
  let avail := (p.at_ + s.freeVal % 401) * nsUnits
  let peers := (List.range 256).filter (fun j => isPeer j && !p.hdr.empty && !mask.testBit j && !(desc j).testBit 86 &&
    !((desc j).testBit 87 && c.span == 0))
  let rs := peers.map (fun j => (j, s.diePeer descs first p.hdr.frame avail (fieldOf (desc j) 103 100) (fieldOf (desc j) 127 116)))
  let codes := rs.foldl (fun l e => modAt l e.1 (fun _ => e.2.1)) first
  let late := rs.any (fun e => e.2.2.1)
  let used := rs.map (fun e => e.2.2.2)
  let h := p.hdr
  ({ hdr := packBits [(32, h.frame), (17, if s.isDie then h.dieId else 0), (11, 0), (1, 0), (4, cd.gen), (4, cd.temp), (4, cd.volt), (6, cd.freq),
      (16, cd.sig.getD 0), (1, bit cd.sig.isNone), (2, h.clock), (1, bit h.empty), (1, bit h.heldDie), (1, bit h.tornDie), (1, bit h.satAny),
      (1, bit late), (5, leastN 0 used), (5, leastN 1 used), (8, satTo 8 p.span), (7, 0)]
     codes := codes }, cd)

/-- A vector as bytes (04 R74). -/
def FVector.bytes (v : FVector) : Bytes := leBytes 16 v.hdr ++ (v.codes.map (leBytes 2)).flatten

/-! ### The leaf's record (07 R139) -/

/-- A source of the leaf (Table 07-3): the outer none is a host mistake (00 R7), the inner none no value. -/
def State.leafValue (s : State) (c : SrcContext) (codes : List Nat) (frame kind idx : Nat) : Option (Option Int) :=
  let prev := (frame + 2 ^ 32 - 1) % 2 ^ 32
  let score := match (s.dslot idx).lastDie with
    | some (f, r) => if f == prev then some r else none
    | none => none
  let counter (k : Nat) : Option (Option Int) := match c.raw k idx 0 false with
    | .int v => some (some v)
    | .missing => some none
    | _ => none
  match kind with
  | 0 => some none
  | 1 => if 256 ≤ idx then none else some (if codes.getD idx missingCode = missingCode then none else some (codes.getD idx 0 : Nat))
  | 2 => if s.slotCount ≤ idx then none else some (score.map (fun r => scoreValue r.1 r.2.1))
  | 3 => if s.slotCount ≤ idx then none else some (score.map (fun r => toSigned 48 (ofSigned 48 r.2.2)))
  | 4 => counter 1
  | 5 => counter 2
  | 6 => some (((s.bar.leaf.arrivals.filter (fun a => a.frame == frame)).getLast?.bind (·.late)).map (fun (n : Nat) => (n : Int)))
  | 7 => some (if s.ver.waiting.any (fun w => w.frame == prev) then none else some (s.rd Dict.verdict : Nat))
  | 8 => some (some 1)
  | 9 => some none
  | _ => none

/-- One field of the leaf's record; false where its source is a host mistake. -/
def State.leafField (s : State) (p : FieldProgram) (c : SrcContext) (codes : List Nat) (frame : Nat) (d : FieldDesc) : RecField × Bool :=
  let f := freshField p d
  match s.leafValue c codes frame d.srcKind d.srcIndex with
  | none => (f, false)
  | some none => (f, true)
  | some (some x) =>
    let big := d.srcKind == 4 && decide ((2 ^ 63 : Nat) ≤ x)
    let r := f.enter d (if big then ((2 ^ 63 - 1 : Nat) : Int) else x) s.dieField
    (if big && f.valid then { r with clamped := true } else r, true)

/-- The leaf's record of the frame of a die vector; of a program that R129 or R131 leaves open, an open one. -/
def State.leafRecord (s : State) (p : Snapshot) (codes : List Nat) : RedRec :=
  let pr := s.programAt p.hdr.frame
  let c := s.dieContext p
  let r0 := RedRec.start pr p.hdr.frame (s.rd Dict.memberEpoch) 0
  let r1 := { r0 with notLocked := bit (p.hdr.clock != 2), held := bit p.hdr.heldDie, torn := bit p.hdr.tornDie }
  let sized := pr.sized
  if p.hdr.empty then { r1 with emptyN := 1, missing := [s.dieField], wild := if sized then none else some s.free }
  else
    let fs := pr.fields.map (s.leafField pr c codes p.hdr.frame)
    let ok := fs.all (·.2) && sized
    { r1 with present := 1, fields := fs.map (·.1), wild := if ok then none else some s.free }

/-! ### Feature frames (14 R308, R309) -/

/-- A set is decimated and counted (14 R308). -/
def State.countDecim (s : State) : State :=
  { (s.bumpSat Dict.decimSets) with sch := { s.sch with decimTotal := (s.sch.decimTotal + 1) % 65536 } }

/-- The header of a feature frame (Table 14-4). -/
def featHeader (frame die : Nat) (engine decimated : Bool) (total first count colour : Nat) : Bytes :=
  leBytes 16 (packBits [(32, frame), (17, die), (1, bit engine), (1, bit decimated), (16, total), (11, first), (6, count), (2, colour), (42, 0)])

/-- Frames of a kind queued in class 3 of a group. -/
def State.tierFrames (s : State) (g : Nat) (k : MsgKind) : List QFrame := ((s.gq g).of 3).filter (fun f => f.kind == k)

/-- Bytes of a tier that have not yet left the sender (14 R308). -/
def State.tierBytes (s : State) (g : Nat) (k : MsgKind) : Nat := queuedBytes (s.tierFrames g k) + s.unsentBytes g k

/-- The die vector's admission: none where it is decimated, else its colour. -/
def State.admitDie (s : State) (frame : Nat) : Option Nat × State :=
  match s.routeGroup frame with
  | none => (none, s)
  | some g =>
    if 16384 < s.tierBytes g .dieVector + 528 then (none, s.countDecim)
    else
      let r := s.police g 3 0 528
      if r.1 = 2 then (none, r.2.countDecim) else (some r.1, r.2)

/-- The die vector leaves as a feature frame, or, decimated, as a VECTOR entry on class 6 (14 R308, 20 R415): whether it was
decimated. -/
def State.sendDieVector (s : State) (v : FVector) : Bool × State :=
  let frame := fieldOf v.hdr 127 96
  let r := s.admitDie frame
  match r.1 with
  | none => (true, r.2.leafEntry jnVector (leBytes 1 0xFF ++ leBytes 1 1 ++ zeros 6 ++ v.bytes))
  | some colour =>
    let dec := r.2.sch.engineSets.any (fun e => e.1 == frame && e.2.1)
    let bytes := featHeader frame (fieldOf v.hdr 95 79) false dec r.2.sch.decimTotal 0 1 colour ++ v.bytes
    (false, r.2.enqueueUp frame 3 { kind := .dieVector, bytes := bytes, frame := frame, prec := 1 })

/-- Bytes of an engine vector set: 16 B per feature frame and 80 B per vector. -/
def setBytes (n : Nat) : Nat := 16 * ceilDiv n 25 + 80 * n

/-- An engine snapshot of a frame is in hand: captured or held, and not yet made into vectors. -/
def State.engineKnown (s : State) (f : Nat) : Bool :=
  let k := s.snap.eng
  k.pending.any (fun p => p.hdr.frame == f) || k.drained.any (fun p => p.hdr.frame == f) ||
    (match k.held with
     | some h => h.hdr.frame == f
     | none => false)

/-- The channel 0 pulse that captures the engine snapshot of a frame admits its vector set or decimates it (14 R308). -/
def State.engineDecision (s : State) (frame : Nat) : State :=
  let s1 := { s with sch := { s.sch with engineSets := s.sch.engineSets.filter (fun e => s.engineKnown e.1) } }
  if !s.isDie || !s.engineKnown frame then s1
  else
    let b := setBytes s1.enginesNow
    let note (t : State) (dec : Bool) (colour : Nat) : State :=
      { t with sch := { t.sch with engineSets := (frame, dec, colour, if dec then 0 else b) :: t.sch.engineSets } }
    match s1.routeGroup frame with
    | none => note s1 true 0
    | some g =>
      let queued := s1.tierBytes g .engineVectors + (s1.sch.engineSets.map (fun e => e.2.2.2)).sum
      if s1.rdAt Dict.decimLimit < queued + b then note s1.countDecim true 0
      else
        let r := s1.police g 3 0 b
        if r.1 = 2 then note r.2.countDecim true 0 else note r.2 false r.1

/-- Engine vectors of an admitted set fill a feature frame (14 R309): 25, or the last of the set. -/
def State.sendEngines (s : State) (frame : Nat) (all : List FVector) : State :=
  match s.sch.engineSets.find? (fun e => e.1 == frame) with
  | none => s
  | some (_, dec, colour, left) =>
    if dec then s
    else
      let first := (all.length - 1) / 25 * 25
      let vs := all.drop first
      let bytes := featHeader frame (fieldOf ((vs.headD { hdr := 0, codes := [] }).hdr) 95 79) true false s.sch.decimTotal first vs.length colour ++
        (vs.map FVector.bytes).flatten
      let s1 := s.enqueueUp frame 3 { kind := .engineVectors, bytes := bytes, frame := frame, prec := 2 }
      { s1 with sch := { s1.sch with engineSets := s1.sch.engineSets.map (fun e => if e.1 == frame then (frame, dec, colour, left - bytes.length) else e) } }

/-! ### DIE_VECTOR_COMPLETE -/

/-- The leaf's record of a frame goes up (07 R139, R140). -/
def State.sendLeafRecord (s : State) (r : RedRec) : State :=
  let bytes := r.bytes (s.programAt r.frame)
  let s1 := s.wrBytes Dict.lastRecord bytes
  (if r.wild.isSome then s1.drawn else s1).enqueueUp r.frame 3 { kind := .record, bytes := bytes, frame := r.frame }

/-- The oldest drained die snapshot becomes a die vector, which goes to the developer, the uplink and the verdict stage. -/
def State.completeDie (s : State) (p : Snapshot) (rest : List Snapshot) : State :=
  let r := s.dieVector p
  let v := r.1
  let frame := p.hdr.frame
  let kind := if s.isDie then 0 else 3
  let skip := p.hdr.empty || p.hdr.tornDie
  let s1 := (List.range 257).foldl (fun t _ => t.drawn) s
  let s2 := s1.setKind false { s1.snap.die with drained := rest }
  let s3 := if v.hdr.testBit 25 then s2.bumpSat Dict.peerLateCount else s2
  let slots := (s3.reachFrame frame).entered kind (fieldOf v.hdr 66 63) frame
  let s4 := s3.enterSlots kind (v.devVec kind)
  let s5 := if s4.isDie then s4.sendLeafRecord (s.leafRecord p v.codes)
    else s4.journalEntry jnVector frame (leBytes 1 0xFF ++ zeros 7 ++ v.bytes)
  let s6 := if s5.isDie then s5.sendDieVector v else (false, s5)
  let w : VerdictWait := { frame := frame, codes := v.codes, skip := skip, temp := r.2.temp, volt := r.2.volt, freq := r.2.freq, sig := r.2.sig
                           slots := slots, onClass6 := s6.1 }
  let s7 := s6.2.setVer { s6.2.ver with waiting := s6.2.ver.waiting ++ [w] }
  s7.setFs { s7.fs with refDie := if p.hdr.empty then s7.fs.refDie else some p, headers := ((frame, v.hdr) :: s7.fs.headers).filter (fun e => s7.engineKnown e.1) }

/-- DIE_VECTOR_COMPLETE (04 R76): on Uhlyr-D the front stage waits while a slot that the vector would enter is full (05 R108). -/
def execDieVectorComplete (dt : Nat) (s : State) : Host.Outcome State Fault Refusal :=
  .next (s.core dt (fun s => match s.snap.die.drained with
    | p :: rest => if s.backPressed 0 (s.rdAtPulse Dict.generation % 16) p.hdr.frame then s else s.completeDie p rest
    | [] => s))

/-! ### ENGINE_VECTOR_COMPLETE -/

/-- What the features of engine e of a snapshot are read from. -/
def State.engContext (s : State) (p : Snapshot) (e : Nat) : SrcContext :=
  { engine := true, body := p.body / 2 ^ (1024 * e) % 2 ^ 1024
    ref := (Tbl.get? s.fs.refEng e).map (·.body)
    zeroE := fun off => match Tbl.get? s.fs.refEng e with
      | some r => decide (clearsAt r.torn r.clears off < clearsAt p.torn p.clears (128 * e + off))
      | none => false
    span := p.spanNs, levels := p.levels, channels := 0, links := 0, health := fun _ => 0
    conds := [], tables := (s.fs.set p.setNo).tables }

/-- The engine vector of engine e, under the header of its frame's die vector (Table 04-1). -/
def State.engVector (s : State) (p : Snapshot) (e die : Nat) : FVector :=
  let cd : Conds := { temp := fieldOf die 62 59, volt := fieldOf die 58 55, freq := fieldOf die 54 49
                      sig := if die.testBit 32 then none else some (fieldOf die 48 33), gen := fieldOf die 66 63 }
  let c := { s.engContext p e with conds := cd.selectors }
  let descs := s.fs.set p.setNo
  let mask := s.maskOf true
  let desc (j : Nat) : Nat := Tbl.getD descs.eng j 0
  let isPeer (j : Nat) : Bool := let k := fieldOf (desc j) 103 100
                                 decide (8 ≤ k) && decide (k ≤ 10)
  let empty := die.testBit 29
  let first := (List.range 32).map (fun j =>
    if empty || isPeer j then missingCode
    else c.code (desc j) (mask.testBit j) (s.fs.freshFor ((Tbl.get? s.fs.refEng e).map (·.setNo)) p (fun d => Tbl.getD d.eng j 0)) (Config.freeNat (s.free + j)))
  let peer (j : Nat) : Nat :=
    let d := desc j
    let b := fieldOf d 127 116
    if fieldOf d 103 100 ≠ 10 ∨ 32 ≤ b ∨ isPeer b then Config.freeNat (s.free + j) % 65536
    else peerCode (first.getD b missingCode) (lowerMedian (s.fs.prevEng.map (fun l => l.getD b missingCode))).2
  let codes := (List.range 32).map (fun j =>
    if isPeer j && !empty && !mask.testBit j && !(desc j).testBit 86 && !((desc j).testBit 87 && c.span == 0) then peer j else first.getD j missingCode)
  { hdr := packBits [(32, p.hdr.frame), (17, fieldOf die 95 79), (11, e), (1, 1), (4, cd.gen), (4, cd.temp), (4, cd.volt), (6, cd.freq),
      (16, fieldOf die 48 33), (1, fieldOf die 32 32), (2, fieldOf die 31 30), (1, bit empty), (1, bit p.hdr.heldEng), (1, bit p.hdr.tornEng),
      (1, fieldOf die 26 26), (1, 0), (5, 0), (5, 0), (8, p.hdr.engineSpan), (7, 0)]
    codes := codes }

/-- The next engine vector of the oldest drained engine snapshot: it enters the slots and, its set admitted, the uplink. -/
def State.completeEngine (s : State) (p : Snapshot) (rest : List Snapshot) (die : Nat) : State :=
  let e := s.fs.engSet.length
  let v := s.engVector p e die
  let s1 := (List.range 32).foldl (fun t _ => t.drawn) (s.setFs { s.fs with refEng := Tbl.set s.fs.refEng e (p.engineRef e) })
  let s2 := s1.enterSlots 1 (v.devVec 1)
  let all := s2.fs.engSet ++ [v]
  let last := decide (p.engines ≤ e + 1)
  let s3 := if last || all.length % 25 == 0 then s2.sendEngines p.hdr.frame all else s2
  if last then
    let s4 := s3.setFs { s3.fs with engSet := [], prevEng := all.map (·.codes) }
    (s4.setKind true { s4.snap.eng with drained := rest })
  else s3.setFs { s3.fs with engSet := all }

/-- ENGINE_VECTOR_COMPLETE (04 R76). -/
def execEngineVectorComplete (dt : Nat) (s : State) : Host.Outcome State Fault Refusal :=
  .next (s.core dt (fun s => match s.snap.eng.drained with
    | p :: rest =>
      if p.engines = 0 then s.setKind true { s.snap.eng with drained := rest }
      else match Tbl.get? s.fs.headers p.hdr.frame with
        | some die => if s.backPressed 1 (fieldOf die 66 63) p.hdr.frame then s else s.completeEngine p rest die
        | none => s
    | [] => s))

/-! ### Centre records (04 R86 to R88) -/

/-- A tray centre record is kept at a RACK until its frame enters MERGING. -/
def State.keepTrayCentres (s : State) (g : Nat) (c : CentreMsg) : State :=
  if s.isSent c.frame || (match s.machine c.frame with
    | some f => f.merged.isSome
    | none => false) then s
  else s.setRed { s.red with trayCentres := s.red.trayCentres ++
    [(g, { frame := c.frame, level := c.level, entries := c.entries, arrived := s.time.now })] }

/-- A centre record arrives on port p: kept by a RACK from below, relayed down from above, stored by the leaf. -/
def State.takeCentres (s : State) (p : Nat) (c : CentreMsg) : State :=
  if s.isDie then
    s.setFs { s.fs with centres := ({ frame := c.frame, level := c.level, entries := c.entries, arrived := s.time.now } :: s.fs.centres).take 64 }
  else if s.isDown p then (if s.role == .rack then s.keepTrayCentres (s.groupOf p) c else s)
  else
    let bytes := centreBytes c.frame c.level c.buddy c.entries
    (s.downGroups.filter s.groupUp).foldl (fun t g => t.sendCentres c.frame bytes g) s

/-- CENTRE_RECORD (04 R87): a centre record arrives on port p. -/
def execCentreRecord (dt p : Nat) (c : CentreMsg) (s : State) : Host.Outcome State Fault Refusal :=
  .next (s.fromLane dt p 3 (.centreRecord 0 p c) (fun s => if s.laneUp p then s.touch.takeCentres p c else s))

/-! ### Feature frames at the TRAY (14 R309, 20 R413) -/

/-- One die vector received from a leaf: journalled, held for the tray centres, and entered in the slots. -/
def State.takeDieVector (g : Nat) (s : State) (v : FVector) : State :=
  let frame := fieldOf v.hdr 127 96
  let s1 := s.journalEntry jnVector frame (leBytes 1 g ++ zeros 7 ++ v.bytes)
  let shut := s1.isSent frame || (match s1.machine frame with
    | some f => f.merged.isSome
    | none => false)
  let s2 := if shut then s1
    else s1.setRed { s1.red with vecs := s1.red.vecs ++ [{ frame := frame, port := g, die := fieldOf v.hdr 95 79, codes := v.codes }] }
  s2.enterSlots 0 (v.devVec 0)

/-- One engine vector received from a leaf: stored in the history and entered in the slots. -/
def State.takeEngineVector (s : State) (v : FVector) : State :=
  (s.journalEntry jnEngine (fieldOf v.hdr 127 96) v.bytes).enterSlots 1 (v.devVec 1)

/-- FEATURE_FRAME (14 R309): a feature frame arrives at a TRAY on port p. -/
def execFeatureFrame (dt p : Nat) (f : FeatFrame) (s : State) : Host.Outcome State Fault Refusal :=
  .next (s.fromLane dt p 3 (.featureFrame 0 p f) (fun s =>
    if !(s.isDown p && s.laneUp p && s.role == .tray) then s
    else f.vecs.foldl (if f.engine then State.takeEngineVector else State.takeDieVector (s.groupOf p)) s.touch))

end Sys2Proof.Machine
end

