-- ==== Sys2Proof/Machine/JournalCmds.lean ====
section
/-! DEFINITION. The commands of the journal and of export (chapter 20). -/

namespace Sys2Proof.Machine

open Sys2Proof

/-- A BOOL as it is stored: a value other than 0x00 and 0x01 is a host mistake and leaves an open value (00 R7, R15). -/
def State.boolWritten (s : State) (v : Nat) : Nat × State := if v ≤ 1 then (v, s) else (s.freeVal % 256, s.drawn)

/-- A write of JOURNAL_ENABLE reaches its target: true starts the journal afresh; what was partly gathered for it is lost. -/
def State.serveJournalEnable (rq : Requester) (value : Nat) (s : State) : State :=
  s.serveWrite rq Dict.journalEnable 0 (fun s =>
    let r := s.boolWritten value
    let s1 := r.2.wr Dict.journalEnable r.1
    let s2 := if r.1 = 0 then s1
      else { s1 with jn := { s1.jn with
        gathering := s1.jn.gathering.filter (fun e => e.1 == jnEngine)
        journal := { s1.jn.journal with afresh := s1.jn.journal.cseq, startDue := true } } }
    s2.answerWrite rq Dict.journalEnable 0 0 0)

/-- JOURNAL_ENABLE_WRITE (20 R418). -/
def execJournalEnableWrite (dt : Nat) (rq : Requester) (value : Nat) (s : State) : Host.Outcome State Fault Refusal :=
  .next (s.asked dt rq (rq.put Dict.journalEnable 0 value) (State.serveJournalEnable rq value))

/-- CHUNK_TIMEOUT (20 R412): chunks whose first entry is 100 µs old are coded and written, or discarded. -/
def execChunkTimeout (dt : Nat) (s : State) : Host.Outcome State Fault Refusal :=
  .next (s.core dt (fun s =>
    ((s.jn.gathering.filter (fun e => s.passed e.2.since 100000)).map (·.1)).foldl State.closeGather s))

/-- JOURNAL_LOST (20 R419): runs of discards whose first discard is 1 ms old are reported. -/
def execJournalLost (dt : Nat) (s : State) : Host.Outcome State Fault Refusal :=
  .next (s.core dt (fun s =>
    ([false, true] : List Bool).foldl (fun t hist => match (t.ring hist).run with
      | some r => if t.passed r.since 1000000 then t.endDiscards hist else t
      | none => t) s))

/-- LEAF_JOURNAL_FLUSH (20 R415): the leaf's message is sent 100 µs after its first entry. -/
def execLeafJournalFlush (dt : Nat) (s : State) : Host.Outcome State Fault Refusal :=
  .next (s.core dt (fun s => if s.passed s.jn.leafSince 100000 then s.sendLeafJournal else s))

/-- The frame of an entry body of Table 20-2 that a leaf sends. -/
def leafEntryFrame (kind : Nat) (body : Bytes) : Nat :=
  if kind = jnVector then leAt body 20 4 else leAt body 0 4

/-- LEAF_JOURNAL_MESSAGE (20 R415): a leaf's message that arrives at a TRAY on port p: every entry is journalled unchanged. -/
def execLeafJournalMessage (dt p : Nat) (entries : List (Nat × Bytes)) (s : State) : Host.Outcome State Fault Refusal :=
  .next (s.fromLane dt p 6 (.leafJournalMessage 0 p entries) (fun s =>
    if !s.isDown p || !s.laneUp p then s
    else entries.foldl (fun t e => t.journalEntry e.1 (leafEntryFrame e.1 e.2) e.2) s.touch))

/-! ### Export (20 R420, R421) -/

/-- Two ranges of frames meet. -/
def rangesMeet (a b c d : Nat) : Bool := frameGe b c && frameGe d a

/-- The newest chunk of a list that satisfies a test. -/
def newestChunk (cs : List Chunk) (f : Chunk → Bool) : List Nat := (((cs.filter f).getLast?).toList).map (·.cseq)

/-- The journal chunks a freeze of [first, last] selects, by CSEQ (20 R421; log entry 16 for PROGRAM). -/
def State.selectJournal (s : State) (first last : Nat) : List Nat :=
  let cs := s.jn.journal.chunks.filter (fun c => frameGe c.cseq s.jn.journal.afresh)
  let before (c : Chunk) : Bool := frameGt first c.last
  let dies := (cs.filter (fun c => c.kind == jnLeafState && before c)).map (·.die)
  let programs := match (cs.filter (fun c => c.kind == jnProgram && before c)).getLast? with
    | none => []
    | some n => (cs.filter (fun c => c.kind == jnProgram && c.last == n.last)).map (·.cseq)
  (cs.filter (fun c => rangesMeet c.first c.last first last)).map (·.cseq) ++ programs ++
    newestChunk cs (fun c => c.kind == jnSlotEvent && before c) ++
    dies.flatMap (fun d => newestChunk cs (fun c => c.kind == jnLeafState && c.die == d && before c))

/-- The history chunks a freeze of [first, last] selects, by CSEQ. -/
def State.selectHistory (s : State) (first last : Nat) : List Nat :=
  if s.role != .tray then []
  else (s.jn.history.chunks.filter (fun c => frameGe c.cseq s.jn.history.afresh && rangesMeet c.first c.last first last &&
    frameGe c.first (s.rd Dict.historyOldest))).map (·.cseq)

/-- Chunks take the frozen mark that a test gives them. -/
def ChunkRing.marked (r : ChunkRing) (f : Chunk → Bool) : ChunkRing := { r with chunks := r.chunks.map (fun c => { c with frozen := f c }) }

/-- Bytes of the export of the selected chunks (20 R421). -/
def State.exportLength (s : State) (j h : List Nat) : Nat :=
  32 + ((s.jn.journal.chunks.filter (fun c => j.contains c.cseq)).map (·.len)).sum +
    ((s.jn.history.chunks.filter (fun c => h.contains c.cseq)).map (·.len)).sum

/-- The record that EXPORT writes. -/
def State.exportRecord (s : State) (value : Nat) : State :=
  s.raiseO recExport (packBits [(32, s.rd Dict.exportFirst), (32, s.rd Dict.exportLast), (8, value), (56, 0)])

/-- EXPORT with value 0x01 reaches its target. -/
def State.serveExportFreeze (rq : Requester) (s : State) : State :=
  s.serveCmd rq Dict.exportCmd 0 (fun s =>
    let first := s.rd Dict.exportFirst
    let last := s.rd Dict.exportLast
    let sent := match s.red.lastSent with
      | some f => frameGe f last
      | none => false
    let j := s.selectJournal first last
    let h := s.selectHistory first last
    let r : State × Nat :=
      if s.jn.freeze.isSome then (s, 2)
      else if frameGt (s.rd Dict.journalOldest) first || !sent then (s, 1)
      else if 4294967295 < s.exportLength j h then (s, 3)
      else ({ s with jn := { s.jn with
        freeze := some (first, last)
        journal := s.jn.journal.marked (fun c => j.contains c.cseq)
        history := s.jn.history.marked (fun c => h.contains c.cseq) } }, 0)
    (r.1.exportRecord 1, r.2))

/-- EXPORT_FREEZE (20 R420). -/
def execExportFreeze (dt : Nat) (rq : Requester) (s : State) : Host.Outcome State Fault Refusal :=
  .next (s.asked dt rq (rq.put Dict.exportCmd 0 1) (State.serveExportFreeze rq))

/-- The freeze is released. -/
def State.thaw (s : State) : State :=
  { s with jn := { s.jn with freeze := none, journal := s.jn.journal.marked (fun _ => false), history := s.jn.history.marked (fun _ => false) } }

/-- EXPORT with value 0x00 reaches its target. -/
def State.serveExportRelease (rq : Requester) (s : State) : State :=
  s.serveCmd rq Dict.exportCmd 0 (fun s => (s.thaw.exportRecord 0, 0))

/-- EXPORT_RELEASE (20 R420). -/
def execExportRelease (dt : Nat) (rq : Requester) (s : State) : Host.Outcome State Fault Refusal :=
  .next (s.asked dt rq (rq.put Dict.exportCmd 0 0) (State.serveExportRelease rq))

end Sys2Proof.Machine
end

