-- ==== Sys2Proof/Machine/Prc.lean ====
section
/-! DEFINITION. Codec job channels (chapter 12). STATUS: 0 IDLE, 1 RUNNING, 2 DONE, 3 NOT_SMALLER, 4 OUT_FULL, 5 ABORTED,
0x10 to 0x12 the decompressor faults. -/

namespace Sys2Proof.Machine

open Sys2Proof

/-- STATUS code of a decompressor fault (Table 12-7). -/
def PrcFault.code : PrcFault → Nat
  | .illegalCode => 0x10
  | .distanceBeyondHistory => 0x11
  | .lengthOverrun => 0x12

/-- The parameters that START takes (12 R267). -/
def State.prcParams (s : State) (c : Nat) : PrcJob :=
  { op := s.rd Dict.prcOp c, inAddr := s.rd Dict.prcInAddr c, inLen := s.rd Dict.prcInLen c, width := s.rd Dict.prcWidth c
    vlen := s.rd Dict.prcVlen c, k0 := s.rd Dict.prcK0 c, outAddr := s.rd Dict.prcOutAddr c, outLen := s.rd Dict.prcOutLen c, used := 0 }

/-- The job's use of the stacks is one that 12 R261 and R262 permit. -/
def State.prcPermitted (s : State) (j : PrcJob) : Bool :=
  let regions : List (Nat × Nat) :=
    [(s.rd Dict.libraryBase, s.rd Dict.librarySize), (s.rd Dict.journalBase, s.rd Dict.journalSize),
     (s.rd Dict.traceStoreBase, s.rd Dict.traceStoreSize)]
  inStacks j.inAddr j.inLen && inStacks j.outAddr j.outLen && !overlaps j.inAddr j.inLen j.outAddr j.outLen &&
  regions.all (fun r => !overlaps j.inAddr j.inLen r.1 r.2 && !overlaps j.outAddr j.outLen r.1 r.2) &&
  (if j.op = 1 then
     decide (j.width < 4) && decide (1 ≤ j.vlen) && decide (j.vlen * (prcWidthBits j.width / 8) ≤ 4096) &&
     decide (j.k0 < prcWidthBits j.width) && decide (0 < j.inLen) && decide (j.inLen % (j.vlen * (prcWidthBits j.width / 8)) = 0)
   else j.op == 2)

/-- A job that 12 R261 or R262 does not permit: its objects and its output region hold open values (00 R6, R7). -/
def State.prcWild (s : State) (c : Nat) (j : PrcJob) : State :=
  let s1 := { s with stack := s.stack.openUp j.outAddr (min stackEnd (j.outAddr + j.outLen)) s.free, free := s.free + 5 }
  (((s1.wr Dict.prcStatus (Config.freeNat (s.free + 1)) c).wr Dict.prcInConsumed (Config.freeNat (s.free + 2)) c).wr
    Dict.prcOutProduced (Config.freeNat (s.free + 3)) c).wr Dict.prcFaultOffset (Config.freeNat (s.free + 4)) c

/-- The next block of a job: its output and the input it takes, or a fault (12 R262). -/
def State.prcBlock (s : State) (j : PrcJob) (consumed : Nat) : Except PrcFault (Bytes × Nat) :=
  let left := j.inLen - consumed
  if j.op = 1 then
    let vb := j.vlen * (prcWidthBits j.width / 8)
    let n := min left (4096 / vb * vb)
    .ok (prcEncode j.width j.vlen j.k0 (s.rd Dict.brSearch) (s.stackRead (j.inAddr + consumed) n), n)
  else prcDecode (s.stackRead (j.inAddr + consumed) (min left 4104))

/-- The block that a decompress job comes to next says that it makes more bytes than the output space left; the row of OUT_FULL
is taken ahead of a fault's (12 R263, R264). A RAW_LEN above 4,096 is no block's output: it is the fault. -/
def State.prcFull (s : State) (j : PrcJob) (consumed : Nat) : Bool :=
  let raw := fieldOf (leAt (s.stackRead (j.inAddr + consumed) 8) 0 8) 38 26
  j.op != 1 && decide (8 ≤ j.inLen - consumed) && decide (raw ≤ 4096) && decide (j.outLen < j.used + raw)

/-- A job goes through up to `n` blocks and moves to its next state (Table 12-6). -/
def State.prcRun : Nat → State → Nat → State
  | 0, s, _ => s
  | n + 1, s, c =>
    match Tbl.get? s.prc c with
    | none => s
    | some j =>
      let consumed := s.rd Dict.prcInConsumed c
      let produced := s.rd Dict.prcOutProduced c
      if consumed = j.inLen then
        s.wr Dict.prcStatus (if j.op = 1 ∧ j.inLen ≤ produced then 3 else 2) c
      else if s.prcFull j consumed then s.wr Dict.prcStatus 4 c
      else match s.prcBlock j consumed with
        | .error f =>
          let s1 := (s.wr Dict.prcStatus f.code c).wr Dict.prcFaultOffset consumed c
          let s2 := { s1 with stack := s1.stack.openUp (j.outAddr + produced) (j.outAddr + j.outLen) s1.free, free := s1.free + 1 }
          s2.raise true false recPrcFault (packBits [(8, c), (8, f.code), (64, consumed), (48, 0)])
        | .ok (out, used) =>
          if j.outLen < j.used + out.length then s.wr Dict.prcStatus 4 c
          else
            let s1 := (s.countStack (j.inAddr + consumed) used false).stackWrite (j.outAddr + j.used) out
            let s2 := { s1 with prc := Tbl.set s1.prc c { j with used := j.used + out.length } }
            State.prcRun n ((s2.wr Dict.prcInConsumed (consumed + used) c).wr Dict.prcOutProduced (produced + out.length) c) c

/-- Blocks that a job has at most, and the step that ends it. -/
def PrcJob.fuel (j : PrcJob) : Nat := j.inLen + 2

/-- A write of START reaches its target. -/
def State.servePrcStart (rq : Requester) (c : Nat) (s : State) : State :=
  s.serveCmd rq Dict.prcStart c (fun s =>
    let st := s.rd Dict.prcStatus c
    if st = 1 ∨ st = 4 then (s, 1)
    else
      let j := s.prcParams c
      let s1 := ((s.wr Dict.prcInConsumed 0 c).wr Dict.prcOutProduced 0 c).wr Dict.prcFaultOffset 0 c
      (State.wr { s1 with prc := Tbl.set s1.prc c j } Dict.prcStatus 1 c, 0))

/-- PRC_START (12 R263). -/
def execPrcStart (dt : Nat) (rq : Requester) (c : Nat) (s : State) : Host.Outcome State Fault Refusal :=
  .next (s.asked dt rq (rq.put Dict.prcStart c 0) (State.servePrcStart rq c))

/-- A write of RESUME reaches its target. -/
def State.servePrcResume (rq : Requester) (c : Nat) (s : State) : State :=
  s.serveCmd rq Dict.prcResume c (fun s =>
    match s.rd Dict.prcStatus c, Tbl.get? s.prc c with
    | 4, some j =>
      let j1 := { j with outAddr := s.rd Dict.prcOutAddr c, outLen := s.rd Dict.prcOutLen c, used := 0 }
      (State.wr { s with prc := Tbl.set s.prc c j1 } Dict.prcStatus 1 c, 0)
    | _, _ => (s, 2))

/-- PRC_RESUME (12 R264). -/
def execPrcResume (dt : Nat) (rq : Requester) (c : Nat) (s : State) : Host.Outcome State Fault Refusal :=
  .next (s.asked dt rq (rq.put Dict.prcResume c 0) (State.servePrcResume rq c))

/-- A write of ABORT reaches its target: how far a running job has come by then is open (log entry 20). -/
def State.servePrcAbort (rq : Requester) (c : Nat) (s : State) : State :=
  s.serveCmd rq Dict.prcAbort c (fun s =>
    let st := s.rd Dict.prcStatus c
    match Tbl.get? s.prc c with
    | none => (s, 2)
    | some j =>
      if st = 1 then
        let s1 := if s.prcPermitted j then s.drawn.prcRun (s.freeVal % j.fuel) c else s.prcWild c j
        if s1.rd Dict.prcStatus c = 1 || s1.rd Dict.prcStatus c = 4 || !s.prcPermitted j then (s1.wr Dict.prcStatus 5 c, 0)
        else (s1, 2)
      else if st = 4 then (s.wr Dict.prcStatus 5 c, 0)
      else (s, 2))

/-- PRC_ABORT (12 R263). -/
def execPrcAbort (dt : Nat) (rq : Requester) (c : Nat) (s : State) : Host.Outcome State Fault Refusal :=
  .next (s.asked dt rq (rq.put Dict.prcAbort c 0) (State.servePrcAbort rq c))

/-- PRC_JOB_STOP (12 R263): the running job of channel c reaches DONE, NOT_SMALLER, OUT_FULL or a fault. -/
def execPrcJobStop (dt c : Nat) (s : State) : Host.Outcome State Fault Refusal :=
  .next (s.core dt (fun s =>
    match s.rd Dict.prcStatus c, Tbl.get? s.prc c with
    | 1, some j => if s.prcPermitted j then s.prcRun j.fuel c else s.prcWild c j
    | _, _ => s))

end Sys2Proof.Machine
end

