-- ==== Sys2Proof/Machine/Flash.lean ====
section
/-! DEFINITION. Objects by access kind, and the settings area of the boot flash (15 R324, 16 R338, R339, 19 R402). -/

namespace Sys2Proof.Machine

open Sys2Proof

/-- The access of an object: GM_SOURCE is RWP on the ROOT and RO elsewhere (16 R336, R339). -/
def State.accessOf (s : State) (o : Ob) : Access :=
  if o.idx = 0x1108 then (if s.role == Role.root then .rwp else .ro)
  else if o.idx = 0x1102 ∨ o.idx = 0x1109 then (if s.role == Role.root && s.rd Dict.gmSource == 0 then .rw else .ro)
  else o.access s.build

/-- The roles whose objects an access kind takes in where values are kept: the persisted set is the same in every role (16 R339, 19 R402);
the RW objects are those of the role in force. -/
def State.rolesOf (s : State) (acc : Access) : List Role := if acc == .rwp then [.tray, .rack, .spine, .root] else [s.role]

/-- Every object that exists in one of the roles: (row, member, offset), in ascending index and subindex. -/
def State.objects (s : State) (roles : List Role) (f : Ob → Bool) : List (Ob × Nat × Nat) :=
  let found := (Dict.all.filter f).flatMap (fun o =>
    (List.range (max o.membersD o.membersT)).flatMap (fun m =>
      (o.subs.filter (fun j => roles.any (fun r => o.existsAt s.build r m j))).map (fun j => (o, m, j))))
  sortBy (fun a b => decide (a.1.key a.2.1 a.2.2 ≤ b.1.key b.2.1 b.2.2)) found

/-- A type whose values have the length that their transfer gives. -/
def Ob.whole (o : Ob) : Bool := o.ty == .domain || o.ty == .vstring

/-- The stored value of an object as bytes; TIME_NOW is local time. -/
def State.stored (s : State) (o : Ob) (m j : Nat) : Bytes :=
  if o.idx = 0x1102 then time80Bytes s.nowNs
  else if o.whole then s.rdBytes o m j else leBytes o.ty.bytes (s.rd o m j)

/-- An object takes a stored value; TIME_NOW sets local time. -/
def State.restore (s : State) (o : Ob) (m j : Nat) (bs : Bytes) : State :=
  if o.idx = 0x1102 then s.stepTime (nsOfTime80 (ofLe bs) * nsUnits)
  else if o.whole then s.wrBytes o bs m j else s.wr o (ofLe bs) m j

/-- An entry of the OBJECTS form (Table 17-8). -/
def objectEntry (idx sub : Nat) (value : Bytes) : Bytes :=
  leBytes 2 idx ++ leBytes 1 sub ++ [0] ++ leBytes 4 value.length ++ padTo 8 value

/-- Entries of the objects that an access kind selects. -/
def State.objectEntries (s : State) (acc : Access) : Bytes :=
  ((s.objects (s.rolesOf acc) (fun o => s.accessOf o == acc)).map (fun e => objectEntry (e.1.idx + e.2.1) (e.1.sub + e.2.2) (s.stored e.1 e.2.1 e.2.2))).flatten

/-- Entries of the OBJECTS form are applied in order to the objects of an access kind. -/
def State.applyEntries (acc : Access) : Nat → State → Bytes → State
  | 0, s, _ => s
  | n + 1, s, bs =>
    if bs.length < 8 then s
    else
      let len := leAt bs 4 4
      let s1 := match (s.rolesOf acc).findSome? (fun r => Dict.find? s.build r (leAt bs 0 2) (leAt bs 2 1)) with
        | some (o, m, j) => if s.accessOf o == acc then s.restore o m j ((bs.drop 8).take len) else s
        | none => s
      State.applyEntries acc n s1 (bs.drop (8 + ceilDiv len 8 * 8))

/-! ### The settings area (19 R402) -/

/-- A settings copy that is valid: its SEQ and its entries. -/
def settingsOf (bs : Bytes) : Option (Nat × Bytes) :=
  let len := leAt bs 8 4
  let body := (bs.drop 32).take len
  if leAt bs 0 4 = 0x53455431 ∧ len ≤ 65504 ∧ body.length = len ∧ crc32c body = leAt bs 12 4 then some (leAt bs 4 4, body) else none

/-- The later valid copy: which, its SEQ, its entries. -/
def Flash.settings (f : Flash) : Option (Nat × Nat × Bytes) :=
  match settingsOf f.settings0, settingsOf f.settings1 with
  | some (a, x), some (b, y) => if frameGe a b then some (0, a, x) else some (1, b, y)
  | some (a, x), none => some (0, a, x)
  | none, some (b, y) => some (1, b, y)
  | none, none => none

/-- A settings copy (header and entries). -/
def settingsBytes (seq : Nat) (entries : Bytes) : Bytes :=
  leBytes 4 0x53455431 ++ leBytes 4 seq ++ leBytes 4 entries.length ++ leBytes 4 (crc32c entries) ++ zeros 16 ++ entries

/-- A settings copy takes bytes. -/
def Flash.setCopy (f : Flash) (copy : Nat) (bs : Bytes) : Flash := if copy = 0 then { f with settings0 := bs } else { f with settings1 := bs }

/-- The write of a settings copy begins: the copy that is not the later valid one is valid no more. -/
def State.persistBegin (s : State) : State :=
  let copy := match s.flash.settings with
    | some (0, _) => 1
    | _ => 0
  { s with flash := s.flash.setCopy copy [], kp := { s.kp with persisting := some (copy, s.time.now), persistDue := false } }

/-- A value of the persisted set has been stored (15 R324). -/
def State.persist (s : State) : State :=
  if !s.isTrayChip then s
  else if s.kp.persisting.isSome || !s.keeperOn then { s with kp := { s.kp with persistDue := true } }
  else s.persistBegin

/-- PERSIST_DONE (15 R324, 19 R402): the copy holds the whole persisted set with the next SEQ; what was stored since the
write began is written in its turn. -/
def execPersistDone (dt : Nat) (s : State) : Host.Outcome State Fault Refusal :=
  .next (s.core dt (fun s =>
    match s.kp.persisting with
    | none => s
    | some (copy, _) =>
      let seq := match s.flash.settings with
        | some (_, n, _) => (n + 1) % 2 ^ 32
        | none => s.freeVal % 2 ^ 32
      let bs := settingsBytes seq (s.objectEntries .rwp)
      let s1 := State.drawn <| State.emit { s with flash := s.flash.setCopy copy bs, kp := { s.kp with persisting := none } } (.flash "settings" bs)
      if s1.kp.persistDue then s1.persistBegin else s1))

end Sys2Proof.Machine
end

