-- ==== Sys2Proof/Machine/Time.lean ====
section
/-! DEFINITION. PTP, the servo, the clock states, anchors, schedules (chapter 02). -/

namespace Sys2Proof.Machine

open Sys2Proof

/-! ### Stamps and messages (02 R27, R35, R36; IEEE 1588-2019) -/

/-- A lane's PTP state. -/
def State.ptpLane (s : State) (p : Nat) : PtpLane := Tbl.getD s.ptp p {}

/-- A lane's PTP state takes a value. -/
def State.setPtp (s : State) (p : Nat) (l : PtpLane) : State := { s with ptp := Tbl.set s.ptp p l }

/-- Picoseconds as 2^-16 ns (DESIGN CHOICE, log entry 14: rounded down). -/
def psUnits (ps : Int) : Int := ps * 8192 / 125

/-- 2^-16 ns as picoseconds (DESIGN CHOICE, log entry 14: rounded down). -/
def unitsPs (u : Int) : Int := u * 125 / 8192

/-- Local time at the stamp point: resolution 2^-4 ns (02 R35). -/
def State.rawStamp (s : State) : Int := ((s.time.now / 4096 * 4096 : Nat) : Int)

/-- Egress stamp at the lane's reference plane (02 R35). -/
def State.egressStamp (s : State) (p : Nat) : Int := s.rawStamp + psUnits (s.rd Dict.laneEgressCorr p : Int)

/-- Ingress stamp at the lane's reference plane (02 R35). -/
def State.ingressStamp (s : State) (p : Nat) : Int := s.rawStamp - psUnits (s.rd Dict.laneIngressCorr p : Int)

/-- ASYMMETRY of a lane (02 R37). -/
def State.asymmetry (s : State) (p : Nat) : Int := psUnits (toSigned 32 (s.rd Dict.laneAsymmetry p))

/-- A PTP message: the common header of IEEE 1588-2019 clause 13.3 and a body. -/
def ptpMessage (typ domain port seq ctrl : Nat) (corr logInterval : Int) (body : Bytes) : Bytes :=
  beBytes 1 typ ++ beBytes 1 0x12 ++ beBytes 2 (34 + body.length) ++ beBytes 1 domain ++ beBytes 1 0 ++ beBytes 2 0 ++
    beBytes 8 (ofSigned 64 corr) ++ beBytes 4 0 ++ beBytes 8 Config.clockIdentity ++ beBytes 2 (port + 1) ++ beBytes 2 seq ++
    beBytes 1 ctrl ++ beBytes 1 (ofSigned 8 logInterval) ++ body

/-- A timestamp of a PTP message (big-endian, 00 R13), and what is left of it below a nanosecond. -/
def ptpTimestamp (t : Int) : Bytes × Int :=
  let ns := (t / nsUnits).toNat
  (beBytes 6 (ns / 1000000000) ++ beBytes 4 (ns % 1000000000), t % nsUnits)

/-- The identity of a requesting port, which a response repeats. -/
def ptpIdentity (clock port : Nat) : Bytes := beBytes 8 clock ++ beBytes 2 port

/-- The link frame that carries a PTP message: GM_SOURCE and UTC_OFFSET are relayed in its header (Table 13-3). -/
def State.ptpFrame (s : State) (msg : Bytes) : Bytes :=
  let pay := padTo 8 msg
  let hp := leBytes 8 (packBits [(4, 4), (8, s.rd Dict.gmSource), (16, s.rd Dict.utcOffset), (5, 0), (9, pay.length / 8), (22, 0)]) ++ pay
  hp ++ leBytes 4 (crc32c hp) ++ zeros 4

/-- A PTP message leaves on a lane. -/
def State.sendPtp (s : State) (p : Nat) (msg : Bytes) : State := s.txOn p (s.ptpFrame msg)

/-- LOG_SYNC_INTERVAL as an integer. -/
def State.logSync (s : State) : Int := toSigned 16 (s.rd Dict.logSyncInterval)

/-- The ROOT takes its time from an external grandmaster (02 R29). -/
def State.external (s : State) : Bool := s.role == .root && s.rd Dict.gmSource == 1

/-- The clock is its own reference: the ROOT with GM_SOURCE 0x00 (Table 02-2). -/
def State.ownReference (s : State) : Bool := s.role == .root && s.rd Dict.gmSource == 0

/-- An interval of 2^log s, in 2^-16 ns. -/
def logUnits (log : Int) : Nat := if 0 ≤ log then secUnits * 2 ^ log.toNat else secUnits / 2 ^ (-log).toNat

/-- The Sync interval in force: that of the SLAVE lane, or as received on the management port. -/
def State.syncUnits (s : State) : Nat := logUnits (if s.external then s.time.mgmtSyncLog else s.logSync)

/-- A PTP frame on the SLAVE lane relays the ROOT's GM_SOURCE and UTC_OFFSET (02 R29). -/
def State.relayed (s : State) (p gm utc : Nat) : State :=
  if s.slaveLane == some p then (s.wr Dict.gmSource gm).wr Dict.utcOffset utc else s

/-! ### Clock states (Table 02-2). CLOCK_STATE: 0 FREERUN, 1 ACQUIRING, 2 LOCKED, 3 HOLDOVER -/

/-- The payload of the clock records: OFFSET and SLAVE_LANE. -/
def State.clockPayload (s : State) : Nat :=
  packBits [(32, s.rd Dict.clockOffset), (16, (s.slaveLane).getD 0xFFFF), (80, 0)]

/-- A clock record. -/
def State.clockRecord (s : State) (classF : Bool) (typ : Nat) : State := s.raiseIslandNow classF false typ s.clockPayload

/-- The clock state takes a value, and the lock count starts again. -/
def State.setClock (s : State) (v : Nat) : State :=
  let s1 := s.wr Dict.clockState v
  { s1 with time := { s1.time with lockRun := 0, holdSince := if v = 3 then some s.time.run else none } }

/-- FREERUN, which the ROOT's own reference leaves at once for LOCKED. -/
def State.toFreerun (s : State) : State := if s.ownReference then s.setClock 2 else s.setClock 0

/-- HOLDOVER with its record. -/
def State.toHoldover (s : State) : State := (s.setClock 3).clockRecord true recClockHoldover

/-- What the clock does once the SLAVE lane has changed from `before` (02 R31, Table 02-2): in LOCKED, a lane that went down
with no PASSIVE P2P lane to take over means HOLDOVER; a role that moved to an E2E lane means ACQUIRING; a P2P lane keeps LOCKED. -/
def State.slaveChanged (s : State) (before : Option Nat) : State :=
  let after := s.slaveLane
  let s1 := match after with
    | some q => if before == after then s else s.setPtp q { s.ptpLane q with e2e := none, sync := none, request := if (s.ptpLane q).mech = 0 then none else (s.ptpLane q).request }
    | none => s
  if before == after || s.rd Dict.clockState != 2 || s.role == .root then s1
  else match before, after with
    | some p, some q => if (s.ptpLane q).mech = 1 then s1 else if s.laneUp p then s1.setClock 1 else s1.toHoldover
    | some _, none => s1.toHoldover
    | none, _ => s1

/-! ### The servo (02 R32) -/

/-- The delay that the servo uses on a port: P2P or E2E. -/
def PtpLane.delay (l : PtpLane) : Option Int := if l.mech = 1 then l.p2p else l.e2e

/-- OFFSET takes an offset; one that S32 cannot hold is stated nowhere and is a free value (log entry 4). -/
def State.storeOffset (s : State) (ps : Int) : State :=
  if -(2 ^ 31 : Nat) ≤ ps ∧ ps < (2 ^ 31 : Nat) then s.wr Dict.clockOffset (ofSigned 32 ps)
  else (s.wr Dict.clockOffset s.freeVal).drawn

/-- A delay in ps is stored; one that U32 cannot hold is stated nowhere and is a free value (log entry 4). -/
def State.storePs (s : State) (o : Ob) (ps : Int) (m : Nat) : State :=
  if 0 ≤ ps ∧ ps < (2 ^ 32 : Nat) then s.wr o ps.toNat m else (s.wr o s.freeVal m).drawn

/-- The clock slews: a frequency correction of at most 100 ppm, otherwise open (log entry 4). -/
def State.slew (s : State) : State :=
  let f := max (-100000000) (min 100000000 s.freeInt)
  State.drawn { s with time := { s.time with freq := f } }

/-- The clock steps by the measured offset (02 R32): one TIME_STEP record, STEPS counts, skipped slots follow 02 R46. -/
def State.stepBy (s : State) (off : Int) : State :=
  let new := ((s.time.now : Int) - off).toNat
  let s1 := (s.stepTime new).bumpSat Dict.steps
  s1.raiseIslandNow false false recTimeStep (packBits [(64, ofSigned 64 (unitsPs (-off))), (64, 0)])

/-- |offset| exceeds STEP_THRESHOLD. -/
def State.beyondStep (s : State) (off : Int) : Bool := decide (off.natAbs > s.rd Dict.stepThreshold * nsUnits)

/-- |offset| lies within LOCK_THRESHOLD. -/
def State.withinLock (s : State) (off : Int) : Bool := decide (off.natAbs * 125 ≤ s.rd Dict.lockThreshold * 8192)

/-- One Sync with a measured offset: the clock state first, then the servo in the state reached (DEDUCED, log entry 15). -/
def State.servo (s : State) (off : Int) : State :=
  let s1 := s.storeOffset (unitsPs off)
  let s2 := match s1.rd Dict.clockState with
    | 0 => s1.setClock 1
    | 3 => s1.setClock 1
    | 2 => if s1.beyondStep off then (s1.setClock 1).clockRecord true recClockUnlock else s1
    | _ =>
      if s1.withinLock off then
        (if 16 ≤ s1.time.lockRun + 1 then (s1.setClock 2).clockRecord false recClockLocked
         else { s1 with time := { s1.time with lockRun := s1.time.lockRun + 1 } })
      else { s1 with time := { s1.time with lockRun := 0 } }
  if s2.rd Dict.clockState = 1 ∧ s2.beyondStep off then s2.stepBy off else s2.slew

/-- A Sync on port p: corrected ingress stamp t2, origin with its corrections t1. With a path delay the servo acts. -/
def State.takeSync (s : State) (p : Nat) (t2 t1 : Int) : State :=
  let l := s.ptpLane p
  let s1 := State.setPtp { s with time := { s.time with lastSync := some s.time.run } } p { l with sync := some (t2, t1) }
  match l.delay with
  | none => s1
  | some d => s1.servo (t2 - t1 - d)

/-- PATH_DELAY (Table 02-9), ps: of the SLAVE lane, so 0 on the ROOT; under P2P it equals PEER_DELAY. -/
def State.pathDelay (s : State) : Nat :=
  match s.slaveLane with
  | none => 0
  | some p =>
    let l := s.ptpLane p
    if l.mech = 1 then s.rd Dict.lanePeerDelay p
    else match l.e2e with
      | none => 0
      | some d => if 0 ≤ unitsPs d then (unitsPs d).toNat else s.freeVal

/-! ### The commands -/

/-- PTP_SYNC (02 R32): a Sync on lane p with its origin time and correction (2^-16 ns); GM_SOURCE and UTC_OFFSET as relayed. -/
def execPtpSync (dt p domain gm utc : Nat) (origin corr : Int) (s : State) : Host.Outcome State Fault Refusal :=
  .next (s.island dt (fun s =>
    if !s.laneUp p then s
    else
      let s1 := (s.rxOn p 44).relayed p gm utc
      if s1.slaveLane != some p || domain != s1.rd Dict.ptpDomain then s1
      else s1.takeSync p (s1.ingressStamp p) (origin + corr + s1.asymmetry p)))

/-- PTP_PDELAY_REQ (02 R27): answered by a one-step Pdelay_Resp whose correction carries the turnaround of the corrected
stamps, where the lane's delay mechanism is P2P. -/
def execPtpPdelayReq (dt p domain gm utc clock port seq : Nat) (corr : Int) (s : State) : Host.Outcome State Fault Refusal :=
  .next (s.island dt (fun s =>
    if !s.laneUp p then s
    else
      let s1 := (s.rxOn p 54).relayed p gm utc
      if domain != s1.rd Dict.ptpDomain || (s1.ptpLane p).mech != 1 then s1
      else
        let turn := s1.egressStamp p - s1.ingressStamp p
        s1.sendPtp p (ptpMessage 3 domain p seq 5 (corr + turn) 127 (zeros 10 ++ ptpIdentity clock port))))

/-- PTP_PDELAY_RESP (02 R27): the mean link delay of a P2P lane; PEER_DELAY holds it in ps. -/
def execPtpPdelayResp (dt p domain gm utc seq : Nat) (corr : Int) (s : State) : Host.Outcome State Fault Refusal :=
  .next (s.island dt (fun s =>
    if !s.laneUp p then s
    else
      let s1 := (s.rxOn p 54).relayed p gm utc
      let l := s1.ptpLane p
      match l.request with
      | none => s1
      | some (n, t1) =>
        if domain != s1.rd Dict.ptpDomain || l.mech != 1 || n != seq then s1
        else
          let d := (s1.ingressStamp p - t1 - corr - s1.asymmetry p) / 2
          (s1.setPtp p { l with request := none, p2p := some d }).storePs Dict.lanePeerDelay (unitsPs d) p))

/-- PTP_DELAY_REQ (02 R27): answered by a Delay_Resp on a MASTER lane whose delay mechanism is E2E. -/
def execPtpDelayReq (dt p domain gm utc clock port seq : Nat) (corr : Int) (s : State) : Host.Outcome State Fault Refusal :=
  .next (s.island dt (fun s =>
    if !s.laneUp p then s
    else
      let s1 := (s.rxOn p 44).relayed p gm utc
      if domain != s1.rd Dict.ptpDomain || (s1.ptpLane p).mech != 0 || s1.ptpPortState p != 6 then s1
      else
        let r := ptpTimestamp (s1.ingressStamp p)
        s1.sendPtp p (ptpMessage 9 domain p seq 3 (corr - r.2) s1.logSync (r.1 ++ ptpIdentity clock port))))

/-- A Delay_Resp completes the E2E measurement of a port. -/
def State.takeDelayResp (s : State) (p seq : Nat) (receipt corr : Int) : State :=
  let l := s.ptpLane p
  match l.request, l.sync with
  | some (n, t3), some (t2, t1) =>
    if n != seq || l.mech != 0 then s
    else s.setPtp p { l with request := none, e2e := some (((t2 - t1) + (receipt - t3 - corr)) / 2) }
  | _, _ => s

/-- PTP_DELAY_RESP (02 R27): the mean path delay of an E2E SLAVE lane. -/
def execPtpDelayResp (dt p domain gm utc seq : Nat) (receipt corr : Int) (s : State) : Host.Outcome State Fault Refusal :=
  .next (s.island dt (fun s =>
    if !s.laneUp p then s
    else
      let s1 := (s.rxOn p 54).relayed p gm utc
      if domain != s1.rd Dict.ptpDomain || s1.slaveLane != some p then s1 else s1.takeDelayResp p seq receipt corr))

/-- The grandmaster that BMCA has chosen sends this message (02 R29). -/
def State.fromGm (s : State) (gm : Nat) : Bool := s.time.gm == some gm

/-- The best of the external clocks whose last Announce is no older than three of its announce intervals (PRESUMED, log entry 71). -/
def State.bestMaster (s : State) : Option (Nat × ForeignMaster) :=
  (s.time.masters.filter (fun e => decide (s.time.run ≤ e.2.seen + 3 * logUnits e.2.log))).foldl (fun b e => match b with
    | none => some e
    | some x => if e.2.data < x.2.data then some e else b) none

/-- BMCA among the external clocks (02 R29): the best is the grandmaster, and UTC_OFFSET is the one it announces; where the
grandmaster changes, what was measured towards the one before holds no more. -/
def State.settleGm (s : State) : State :=
  let best := s.bestMaster
  let s1 := if best.map (·.1) == s.time.gm then s
    else State.setPtp { s with time := { s.time with gm := best.map (·.1) } } 48
      { s.ptpLane 48 with request := none, e2e := none, sync := none, twoStep := none }
  match best with
  | none => s1
  | some b => s1.wr Dict.utcOffset b.2.utc

/-- A PTP message on the ROOT's management port, whose delay mechanism is E2E (Table 02-1). -/
def State.takeMgmtPtp (s : State) (m : MgmtPtp) : State :=
  match m with
  | .announce gm data utc log =>
    let m : ForeignMaster := { data := data, utc := utc % 65536, seen := s.time.run, log := log }
    State.settleGm { s with time := { s.time with masters := Tbl.set s.time.masters gm m } }
  | .sync gm seq origin twoStep corr log =>
    if !s.fromGm gm then s
    else
      let s1 := State.setPtp { s with time := { s.time with mgmtSyncLog := log } } 48 { s.ptpLane 48 with mech := 0 }
      if twoStep then s1.setPtp 48 { s1.ptpLane 48 with twoStep := some (seq, s1.rawStamp, corr) }
      else s1.takeSync 48 s1.rawStamp (origin + corr)
  | .followUp gm seq origin corr =>
    match (s.ptpLane 48).twoStep with
    | some (n, t2, c) =>
      if !s.fromGm gm || n != seq then s
      else (s.setPtp 48 { s.ptpLane 48 with twoStep := none }).takeSync 48 t2 (origin + c + corr)
    | none => s
  | .delayResp gm seq receipt corr log =>
    if !s.fromGm gm then s
    else State.takeDelayResp { s with time := { s.time with mgmtDelayLog := log } } 48 seq receipt corr

/-- PTP_MGMT_MESSAGE (02 R29): taken by the ROOT while GM_SOURCE is 0x01. -/
def execPtpMgmtMessage (dt domain : Nat) (m : MgmtPtp) (s : State) : Host.Outcome State Fault Refusal :=
  .next (s.island dt (fun s =>
    if !s.external || domain != s.rd Dict.ptpDomain then s else s.settleGm.takeMgmtPtp m))

/-- The periodic messages of one lane: a one-step Sync on a MASTER lane, and the request of its delay mechanism. -/
def State.tickLane (s : State) (p : Nat) : State :=
  if !s.laneUp p then s
  else
    let dom := s.rd Dict.ptpDomain
    let l := s.ptpLane p
    let s1 :=
      if s.ptpPortState p = 6 then
        let t := ptpTimestamp (s.egressStamp p)
        (s.setPtp p { l with syncSeq := (l.syncSeq + 1) % 65536 }).sendPtp p
          (ptpMessage 0 dom p l.syncSeq 0 t.2 s.logSync t.1)
      else s
    let l1 := s1.ptpLane p
    if l1.mech = 1 then
      (s1.setPtp p { l1 with request := some (l1.seq, s1.egressStamp p), seq := (l1.seq + 1) % 65536 }).sendPtp p
        (ptpMessage 2 dom p l1.seq 5 (-(s1.asymmetry p)) 127 (zeros 20))
    else if s1.ptpPortState p = 9 then
      (s1.setPtp p { l1 with request := some (l1.seq, s1.egressStamp p), seq := (l1.seq + 1) % 65536 }).sendPtp p
        (ptpMessage 1 dom p l1.seq 1 (-(s1.asymmetry p)) 127 (zeros 10))
    else s1

/-- The Delay_Req of the ROOT's management port, at the interval received (Table 02-1). -/
def State.tickMgmt (s : State) : State :=
  if !s.external || s.time.gm.isNone || s.rdBytes Dict.mgmtMac == zeros 6 then s
  else if s.time.run < s.time.lastMgmtReq + logUnits s.time.mgmtDelayLog then s
  else
    let l := s.ptpLane 48
    State.emit (State.setPtp { s with time := { s.time with lastMgmtReq := s.time.run } } 48
        { l with mech := 0, request := some (l.seq, s.rawStamp), seq := (l.seq + 1) % 65536 })
      (.ptp 48 (ptpMessage 1 (s.rd Dict.ptpDomain) 48 l.seq 1 0 127 (zeros 10)))

/-- The periodic messages of the lanes, once the Sync interval has elapsed (02 R27). -/
def State.tickLanes (s : State) : State :=
  if s.time.run < s.time.lastTick + logUnits s.logSync then s
  else (List.range s.ports).foldl State.tickLane { s with time := { s.time with lastTick := s.time.run } }

/-- The management port's part: BMCA, then its Delay_Req at the interval of its own. -/
def State.tickPort (s : State) : State := if s.external then s.settleGm.tickMgmt else s

/-- PTP_INTERVAL_TICK (02 R27): the lanes and the management port each send what their own interval owes. -/
def execPtpIntervalTick (dt : Nat) (s : State) : Host.Outcome State Fault Refusal :=
  .next (s.island dt (fun s => s.tickLanes.tickPort))

/-- SYNC_LOSS_TIMEOUT (02 R33): no Sync for 4 Sync intervals; where none has come since reset, since then (log entry 47). A clock
that is LOCKED to its own reference needs none. -/
def execSyncLossTimeout (dt : Nat) (s : State) : Host.Outcome State Fault Refusal :=
  .next (s.island dt (fun s =>
    if s.time.run < s.time.lastSync.getD 0 + 4 * s.syncUnits then s
    else match s.rd Dict.clockState with
      | 1 => s.toFreerun
      | 2 => if s.ownReference then s else s.toHoldover
      | _ => s))

/-- HOLDOVER_TIMEOUT (02 R33): 60 s in HOLDOVER. -/
def execHoldoverTimeout (dt : Nat) (s : State) : Host.Outcome State Fault Refusal :=
  .next (s.island dt (fun s =>
    match s.time.holdSince with
    | none => s
    | some t =>
      if s.rd Dict.clockState != 3 || decide (s.time.run < t + 60 * secUnits) then s
      else ((s.setClock 0).clockRecord true recClockFreerun).toFreerun))

/-- TIME_ANCHOR (02 R39): local time has reached a whole second. The record carries the exact instant. -/
def execTimeAnchor (dt : Nat) (s : State) : Host.Outcome State Fault Refusal :=
  .next (s.island dt (fun s =>
    let k := s.time.anchorNext
    if s.time.now < k * secUnits then s
    else
      let payload := packBits [(16, 0), (8, s.rd Dict.gmSource), (8, s.rd Dict.clockState), (16, s.rd Dict.utcOffset), (48, k), (32, 0)]
      let s1 := { s with time := { s.time with anchorNext := k + 1 } }
      let s2 := if s1.coreActive then s1.bump Dict.anchors else s1
      s2.raiseIsland false false recTimeAnchor payload (k * 1000000000 % 2 ^ 32) s.frameNow))

/-- A TIME80 value as local time in 2^-16 ns; a nanoseconds field beyond its range gives an open value (00 R7). -/
def State.timeOf80 (s : State) (v : Nat) : Nat × State :=
  if v / 2 ^ 48 % 2 ^ 32 < 1000000000 then (nsOfTime80 v * nsUnits, s) else (s.freeVal, s.drawn)

/-- A write of TIME_NOW reaches its target. -/
def State.serveTimeNow (rq : Requester) (value : Nat) (s : State) : State :=
  s.serveWrite rq Dict.timeNow 0 (fun s =>
    let s1 := if s.ownReference then (let r := s.timeOf80 value; r.2.stepTime r.1) else s
    s1.answerWrite rq Dict.timeNow 0 0 0)

/-- TIME_NOW_WRITE (02 R51): on a ROOT with its own source the write steps local time; elsewhere TIME_NOW is RO. -/
def execTimeNowWrite (dt : Nat) (rq : Requester) (value : Nat) (s : State) : Host.Outcome State Fault Refusal :=
  .next (s.asked dt rq (rq.put Dict.timeNow 0 value) (State.serveTimeNow rq value))

/-- A write of APPLY reaches its target: the staged schedule is adopted if its T lies at least 100 µs ahead, or it completes
LATE. A period outside 02 R42 is stored as an open value (00 R7). -/
def State.serveShutterApply (rq : Requester) (c : Nat) (s : State) : State :=
  s.serveCmd rq Dict.shutterApply c (fun s =>
    let t := nsOfTime80 (s.rd Dict.stageStart c)
    if t * nsUnits < s.time.now + 100000 * nsUnits then (s, 1)
    else
      let pr : Nat × State := if s.periodOk c (s.rd Dict.stagePeriod c) then (s.rd Dict.stagePeriod c, s) else (s.freeVal % 2 ^ 32, s.drawn)
      (pr.2.setChan c { pr.2.chan c with waiting := some { t := t, p := pr.1, b := s.rd Dict.stageBase c } }, 0))

/-- SHUTTER_APPLY (02 R44). -/
def execShutterApply (dt : Nat) (rq : Requester) (c : Nat) (s : State) : Host.Outcome State Fault Refusal :=
  .next (s.asked dt rq (rq.put Dict.shutterApply c 0) (State.serveShutterApply rq c))

end Sys2Proof.Machine
end

