-- ==== Sys2Proof/Machine/Store.lean ====
section
/-! DEFINITION. What the write of a stored object brings about beside the value (02 R44, 05 R112, 08 R163, 11 R235, 14 R303,
20 Table 20-2). -/

namespace Sys2Proof.Machine

open Sys2Proof

/-- MODE of a channel that was off: it fires the slots of the schedule in force that fall due after the write (02 R44). -/
def State.channelOn (s : State) (c : Nat) : State := s.setChan c { s.chan c with next := (s.schedule c).slotFrom (s.time.now + 1) }

/-- Buckets of a group's policers start full (14 R303). -/
def State.fillPolicers (s : State) (g : Nat) (cs : List Nat) : State :=
  let q := s.gq g
  s.setGq g { q with policers := q.policers.filter (fun e => !cs.contains e.1) }

/-- The effect of a write on the object (index of the row, subindex of the row), member m, offset j; `old` is the value before it. -/
def State.afterWrite (s : State) (idx sub m j old : Nat) : State :=
  if idx = 0x1120 ∧ sub = 0x01 then (if old = 0 ∧ s.rd Dict.shutterMode m ≠ 0 then s.channelOn m else s)
  else if idx = 0x1108 then (if s.ownReference && s.rd Dict.clockState == 0 then s.setClock 2 else s)
  else if idx = 0x2110 ∧ sub = 0x0B then s.syncQueue m
  else if idx = 0x2320 ∧ sub = 0x02 then s.setVer { s.ver with initDue := setBit s.ver.initDue m }
  else if 0x2601 ≤ idx ∧ idx ≤ 0x2605 ∧ idx ≠ 0x2604 then s.adoptSink
  else if idx = 0x260C then s.seekStore
  else if idx = 0x3000 ∧ sub = 0x70 then s.fillPolicers m [j]
  else if idx = 0x3000 ∧ sub = 0x62 then
    s.fillPolicers m ((List.range 8).filter (fun c => (s.rd Dict.grpPoliceEnable m).testBit c && !old.testBit c))
  else s

/-- What the journal makes of a write: a configuration entry where VKIND, GEN_MASK, PIPE_FIRST or PIPE_COUNT of a slot has been
written (Table 20-2), LEAF_STATE at the next verdict where an object of Table 08-10 has been (20 R417). -/
def State.afterConfig (s : State) (idx sub m : Nat) : State :=
  if idx = 0x2110 ∧ 2 ≤ sub ∧ sub ≤ 5 then s.slotEvent m 3 0xFF s.frameNow (s.dslot m).digest
  else if 0x2300 ≤ idx ∧ idx ≤ 0x2362 then s.setVer { s.ver with stateDue := true }
  else s

end Sys2Proof.Machine
end

