-- ==== Sys2Proof/Machine/Negative.lean ====
section
/-! DEFINITION. The negative and its fix: taking, fixing, restoring (17 R359 to R365). -/

namespace Sys2Proof.Machine

open Sys2Proof

/-! ### What a negative holds (17 R361) -/

/-- First byte of a negative slot (17 R359). -/
def negBase (slot : Nat) : Nat := 0x480000000 + slot * 0x40000000

/-- MEMBER_TABLE (OD 2404.00). -/
def State.memberTable (s : State) : Bytes :=
  ((List.range 131072).map (fun d => let e := s.memberEntry d
                                     leBytes 2 e.2 ++ leBytes 1 (bit e.1) ++ [0])).flatten

/-- A die's port, and its change where one is still to come. -/
def State.routeNowOf (s : State) (e : DieRoute) : Option Nat × Option (Option Nat × Nat) :=
  (e.at_ s.frameNow, e.next.filter (fun x => !frameGe s.frameNow x.2))

/-- Body of ROUTES: pending port 0xFF with FROM_FRAME 0 where no change is pending (log entry 64). -/
def State.routesBody (s : State) : Bytes :=
  ((List.range 131072).map (fun d =>
    let e := s.routeNowOf (Tbl.getD s.rt.table d { port := none, next := none })
    let nx := e.2.getD (none, 0)
    leBytes 1 (e.1.getD 0xFF) ++ leBytes 1 (nx.1.getD 0xFF) ++ [0, 0] ++ leBytes 4 nx.2)).flatten

/-- The pod tree's last SEQ: issued at the ROOT, seen elsewhere; 0 where there has been none (log entry 64). -/
def State.podLast (s : State) : Nat :=
  if s.role == .root then (s.bar.podSeq + 65535) % 65536 else ((Tbl.get? s.bar.trees 0xFFF).bind (·.seq)).getD 0

/-- Body of TREES: 16 bytes a tree (17 Table 17-8). The pod tree serves every port and is bound to no job (09 R190). -/
def State.treesBody (s : State) : Bytes :=
  ((List.range 4096).map (fun t =>
    if t = 0xFFF then leBytes 2 0xFFFF ++ leBytes 2 s.podLast ++ [0, 0] ++
      leBytes 8 (s.downGroups.foldl setBit 0) ++ [0, 0]
    else match Tbl.get? s.bar.trees t with
      | some e => leBytes 2 e.job ++ leBytes 2 (e.seq.getD 0) ++ [1, 0] ++ leBytes 8 (e.ports.foldl setBit 0) ++ [0, 0]
      | none => zeros 16)).flatten

/-- Body of VERDICT. -/
def State.verdictBody (s : State) : Bytes :=
  padTo 16 (s.baselineBytes ++ leBytes 8 (ofSigned 64 (s.theta 0)) ++ leBytes 8 (ofSigned 64 (s.theta 1)) ++ s.cellBytes ++ leBytes 1 (s.rd Dict.verdict))

/-- A section: its header and its body. -/
def negSection (id : Nat) (body : Bytes) : Bytes := padTo 16 (leBytes 2 id ++ [0, 0] ++ leBytes 4 body.length ++ zeros 8 ++ body)

/-- The sections in ascending ID. -/
def State.negSections (s : State) : Bytes :=
  negSection 1 (s.objectEntries .rw) ++ negSection 2 s.memberTable ++ negSection 3 s.routesBody ++ negSection 4 s.treesBody ++
    negSection 5 s.verdictBody ++ negSection 6 (s.rdBytes Dict.overlayPairs)

/-- The negative of the state as it stands: header and sections. -/
def State.negativeBytes (s : State) (seq : Nat) : Bytes :=
  let body := s.negSections
  leBytes 32 (packBits [(32, 0x4E454731), (32, seq), (32, 32 + body.length), (32, s.frameNow), (80, time80OfNs s.nowNs),
    (8, s.role.code), (8, 6), (32, s.rd Dict.memberEpoch)]) ++ body

/-- The fix of a negative, written now (Table 17-9). -/
def State.fixBytes (s : State) (seq : Nat) (neg : Bytes) : Bytes :=
  let v := packBits [(32, 0x46495831), (32, seq), (32, neg.length), (32, crc32c neg), (80, time80OfNs s.nowNs), (16, 0), (32, 0)]
  leBytes 4 (crc32c ((leBytes 32 v).drop 4)) ++ (leBytes 32 v).drop 4

/-! ### Table 17-6 -/

/-- The negative machine takes a value. -/
def State.setNeg (s : State) (n : Negative) : State := { s with neg := n }

/-- A write of NEG_TAKE reaches its target. -/
def State.serveNegTake (rq : Requester) (s : State) : State :=
  s.serveCmd rq Dict.negTake 0 (fun s =>
    if s.neg.state == NegState.idle then (s.setNeg { s.neg with state := .armed }, 0) else (s, 1))

/-- NEG_TAKE (17 R360). -/
def execNegTake (dt : Nat) (rq : Requester) (s : State) : Host.Outcome State Fault Refusal :=
  .next (s.asked dt rq (rq.put Dict.negTake 0 0) (State.serveNegTake rq))

/-- NEG_PERIOD (17 R360): NEG_PERIOD seconds have passed since the previous capture pulse. -/
def execNegPeriod (dt : Nat) (s : State) : Host.Outcome State Fault Refusal :=
  .next (s.core dt (fun s =>
    let p := s.rd Dict.negPeriod
    if s.isTrayChip && s.keeperOn && p != 0 && s.neg.state == NegState.idle && s.passed s.neg.lastCapture (p * 1000000000) then
      s.setNeg { s.neg with state := .armed }
    else s))

/-- The slot that does not hold the last fixed negative; slot 0 if none is fixed. -/
def State.negTarget (s : State) : Nat := if s.rd Dict.negSlot = 0 then 1 else 0

/-- 32 bytes of 0 over a slot's fix. -/
def State.zeroFix (s : State) (slot : Nat) : State := s.stackWrite (negBase slot) (zeros 32)

/-- A channel 0 pulse: an armed negative is captured; its slot's bytes are open until the fix is written. -/
def State.negPulse (s : State) : State :=
  if s.neg.state != NegState.armed then s
  else
    let seq := (s.rd Dict.negSeq + 1) % 2 ^ 32
    let slot := s.negTarget
    let img := s.negativeBytes seq
    let s1 := s.zeroFix slot
    State.drawn { s1 with
      neg := { state := .writing, image := img, seq := seq, target := slot, lastCapture := s.time.now }
      stack := s1.stack.openUp (negBase slot + 4096) (negBase slot + 4096 + img.length) s1.free }

/-- NEG_FIXED (17 R360): the negative has been written; its fix follows. -/
def execNegFixed (dt : Nat) (s : State) : Host.Outcome State Fault Refusal :=
  .next (s.core dt (fun s =>
    if s.neg.state != NegState.writing || !s.keeperOn then s
    else
      let n := s.neg
      let s1 := (s.stackWrite (negBase n.target + 4096) n.image).stackWrite (negBase n.target) (s.fixBytes n.seq n.image)
      ((((s1.setNeg { n with state := .idle, image := [] }).wr Dict.negSeq n.seq).wr Dict.negSlot n.target).raiseO recNegFixed
        (packBits [(32, n.seq), (8, n.target), (88, 0)]))))

/-- A negative that is ARMED or WRITING is abandoned: its target holds no valid fix (17 R360, 19 R398). -/
def State.negAbandon (s : State) : State :=
  match s.neg.state with
  | .idle => s
  | .armed => (s.zeroFix s.negTarget).setNeg { s.neg with state := .idle, image := [] }
  | .writing => (s.zeroFix s.neg.target).setNeg { s.neg with state := .idle, image := [] }

/-! ### Restoring (17 R363, R364) -/

/-- The fix and the negative of a slot as they stand; the negative is as long as the fix says, at most its slot. -/
def State.negOf (s : State) (slot : Nat) : Bytes × Bytes :=
  let fix := s.stackRead (negBase slot) 32
  (fix, s.stackRead (negBase slot + 4096) (min (leAt fix 20 4) (0x40000000 - 4096)))

/-- Results 0 to 5 of a slot (Table 17-10). -/
def State.negTest (s : State) (slot : Nat) : Nat :=
  let (fix, neg) := s.negOf slot
  if leAt fix 28 4 ≠ 0x46495831 then 1
  else if crc32c (fix.drop 4) ≠ leAt fix 0 4 then 2
  else if leAt neg 28 4 ≠ 0x4E454731 ∨ leAt neg 24 4 ≠ leAt fix 24 4 ∨ leAt neg 20 4 ≠ leAt fix 20 4 then 3
  else if neg.length ≠ leAt fix 20 4 ∨ crc32c neg ≠ leAt fix 16 4 then 4
  else if byteAt neg 5 ≠ s.role.code then 5
  else 0

/-- Both slots' results: where both pass, the one whose SEQ is earlier has result 6. -/
def State.negResults (s : State) : Nat × Nat :=
  let a := s.negTest 0
  let b := s.negTest 1
  if a = 0 ∧ b = 0 then
    let x := leAt (s.negOf 0).1 24 4
    let y := leAt (s.negOf 1).1 24 4
    if frameGt y x then (6, 0) else if frameGt x y then (0, 6) else (0, 0)
  else (a, b)

/-- Records of n bytes. -/
def cutBytes (size : Nat) : Nat → Bytes → List Bytes
  | 0, _ => []
  | n + 1, bs => bs.take size :: cutBytes size n (bs.drop size)

/-- The bodies of a negative's sections, by ID. -/
def negBodies : Nat → Bytes → Tbl Bytes
  | 0, _ => []
  | n + 1, bs =>
    let len := leAt bs 4 4
    Tbl.set (negBodies n (bs.drop (16 + ceilDiv len 16 * 16))) (leAt bs 0 2) ((bs.drop 16).take len)

/-- The RW objects of a stored negative take effect as though written before the first frame; TRACE_ENABLE and SINK_READ_PTR
stay 0 (11 R248). -/
def State.restoreObjects (s : State) (bs : Bytes) : State :=
  let s1 := State.applyEntries .rw (bs.length / 8 + 1) s bs
  let s2 := (s1.wr Dict.traceEnable 0).wr Dict.sinkReadPtr 0
  let s3 := (List.range 8).foldl (fun (t : State) c =>
    t.afterWrite 0x1120 0x01 c 0 (Dict.shutterMode.init t.build t.role c)) s2
  ((List.range s3.slotCount).foldl (fun (t : State) k => t.afterWrite 0x2110 0x0B k 0 0) s3).phaseChanged (s.rd Dict.devPhase)

/-- A port byte. -/
def portOfByte (b : Nat) : Option Nat := if b = 0xFF then none else some b

/-- The sections of a negative are applied (17 R364). -/
def State.applyNegative (s : State) (neg : Bytes) : State :=
  let bodies := negBodies (byteAt neg 4) (neg.drop 32)
  let body (id : Nat) : Bytes := Tbl.getD bodies id []
  let s1 := s.restoreObjects (body 1)
  let members := ((cutBytes 4 131072 (body 2)).zipIdx.filter (fun e => leAt e.1 0 2 != 0xFFFF || byteAt e.1 2 != 0)).map
    (fun e => (e.2, (byteAt e.1 2 != 0, leAt e.1 0 2)))
  let change (e : Bytes) : Option (Option Nat × Nat) :=
    if byteAt e 1 = 0xFF ∧ leAt e 4 4 = 0 then none else some (portOfByte (byteAt e 1), leAt e 4 4)
  let routes := ((cutBytes 8 131072 (body 3)).zipIdx.filter (fun e => byteAt e.1 0 != 0xFF || (change e.1).isSome)).map
    (fun e => (e.2, ({ port := portOfByte (byteAt e.1 0), next := change e.1, ever := (portOfByte (byteAt e.1 0)).toList } : DieRoute)))
  let trees := ((cutBytes 16 4096 (body 4)).zipIdx.filter (fun e => byteAt e.1 4 != 0)).map
    (fun e => (e.2, ({ job := leAt e.1 0 2, seq := some (leAt e.1 2 2), ports := bitList 64 (leAt e.1 6 8), complete := true, started := true } : Tree)))
  let pod := leAt ((body 4).drop (16 * 0xFFF)) 2 2
  let podTree : Tbl Tree := if s.role == .root || pod = 0 then [] else [(0xFFF, { job := 0xFFFF, seq := some pod })]
  let podSeq := if s.role == .root then (pod + 1) % 65536 else s1.bar.podSeq
  let v := body 5
  let base := (((cutBytes 8 256 v).zipIdx.filter (fun e => leAt e.1 0 8 != 0)).map (fun e => (e.2, (leAt e.1 0 4, leAt e.1 4 4))))
  let cells := ((cutBytes 12 64 (v.drop 2064)).zipIdx.filter (fun e => leAt e.1 0 11 != 0)).map
    (fun e => (e.2, ({ frames := leAt e.1 0 4, anom := leAt e.1 4 4, mismatch := leAt e.1 8 2, hot := byteAt e.1 10 != 0 } : CondCell)))
  let s2 : State := { s1 with
    bar := { s1.bar with member := members, trees := trees ++ podTree, podSeq := podSeq }
    rt := { s1.rt with table := routes }
    ver := { s1.ver with base := base, cells := cells, initDue := 0 } }
  let s3 := (s2.setTheta 0 (toSigned 64 (leAt v 2048 8))).setTheta 1 (toSigned 64 (leAt v 2056 8))
  (((s3.wr Dict.verdict (byteAt v 2832)).wrBytes Dict.overlayPairs (body 6)).wr Dict.memberEpoch (leAt neg 0 4)).wr Dict.treesActive (1 + trees.length)

/-- The keeper restores a negative at the boot of a tray chip (17 R363, R364). -/
def State.negRestore (s : State) : State :=
  let (a, b) := s.negResults
  let pick : Option Nat := if a = 0 then some 0 else if b = 0 then some 1 else none
  match pick with
  | none => (s.wr Dict.negRestored 0xFF).raiseAlarm recNegRestored (packBits [(32, 0), (8, 0xFF), (4, a), (4, b), (80, 0)])
  | some k =>
    let seq := leAt (s.negOf k).1 24 4
    let s1 := s.applyNegative (s.negOf k).2
    (((s1.wr Dict.negRestored k).wr Dict.negSlot k).wr Dict.negSeq seq).raiseO recNegRestored
      (packBits [(32, seq), (8, k), (4, a), (4, b), (80, 0)])

/-- NEG_IMAGE (OD 2A25.00): the negative that the last fix seals. -/
def State.negImage (s : State) : Bytes :=
  let slot := s.rd Dict.negSlot
  if slot ≤ 1 then (s.negOf slot).2 else []

end Sys2Proof.Machine
end

