-- ==== Sys2Proof/Machine/Keeper.lean ====
section
/-! DEFINITION. The keeper: its image, its update, its reset (19 R398, R401, R405, R406). -/

namespace Sys2Proof.Machine

open Sys2Proof

/-- The keeper takes a value. -/
def State.setKp (s : State) (k : Keeper) : State := { s with kp := k }

/-- The resets take a value. -/
def State.setRst (s : State) (r : Resets) : State := { s with rst := r }

/-! ### The image (19 R401) -/

/-- KEEPER_IMAGE's greatest length: 8 MB on the tray chip, 1 MB on Uhlyr-D. -/
def State.keeperLimit (s : State) : Nat := if s.isDie then 1048576 else 8388608

/-- Bytes that an image's header calls for: header, body, digest, signature. -/
def keeperLength (img : Bytes) : Nat := 64 + leAt img 16 4 + 48 + 96

/-- The test of an image that starts a byte string (Table of 19 R401): 0 pass, or the code of the first test that fails. -/
def State.keeperTest (s : State) (bs : Bytes) : Nat :=
  let n := keeperLength bs
  let img := bs.take n
  let signed := 64 + leAt bs 16 4
  let digest := (img.drop signed).take 48
  if leAt bs 0 4 ≠ 0x4B454550 ∨ leAt bs 4 2 ≠ 1 then 1
  else if byteAt bs 6 ≠ (if s.isDie then 0 else 1) then 2
  else if img.length ≠ n ∨ s.keeperLimit < n then 3
  else if sha384 (img.take signed) ≠ digest then 4
  else if !ecdsaVerify (beBytes 97 Config.keeperKey) digest (img.drop (signed + 48)) then 5
  else 0

/-- VERSION of an image. -/
def imageVersion (img : Bytes) : Nat := leAt img 8 4

/-- STATE_FORMAT of an image. -/
def imageFormat (img : Bytes) : Nat := leAt img 20 4

/-- A segment of KEEPER_IMAGE: each is stored as it arrives, and a write at OFFSET 0 starts again (19 R405). -/
def State.serveKeeperImage (rq : Requester) (offset total : Nat) (data : Bytes) (s : State) : State :=
  s.serveSegment rq Dict.keeperImage 0 offset total data (fun t => t) (fun _ _ whole t => t.setKp { t.kp with staged := whole })

/-! ### The keeper stops and starts (19 R398, R406, 11 R246) -/

/-- The state in which the keeper is found when it is not being changed: RUNNING or BOOT_ROM. -/
def State.keeperRest (s : State) : State := s.wr Dict.keeperState (bit s.kp.running)

/-- Keys of the CMD objects whose actions the keeper executes (19 R388). -/
def keeperKeys : List Nat := [Dict.exportCmd.key 0 0, Dict.keeperUpdate.key 0 0]

/-- The keeper stops and its work is lost: actions of the keys are abandoned, sessions end, a negative is abandoned, a
persistence write is to start again (19 R398). -/
def State.keeperStops (s : State) (keys : List Nat) (cause : Nat) : State :=
  let gone := s.dap.actions.filter (fun a => keys.contains a.key)
  let s1 := (s.keeperTraceOff.negAbandon).setKp { s.kp with
    persisting := none, persistDue := s.kp.persistDue || s.kp.persisting.isSome }
  let s2 : State := { s1 with
    cmdCodes := gone.foldl (fun t a => Tbl.set t a.key 0xFD) s1.cmdCodes
    dap := { s1.dap with reads := [], writes := [], actions := s1.dap.actions.filter (fun a => !keys.contains a.key)
                         held := s1.dap.held.filter (fun h => !keys.contains h.1) } }
  let s3 := (s2.setRst { s2.rst with keeper := some (cause, gone.length) }).wr Dict.keeperState 5
  let pay := packBits [(8, cause), (8, gone.length), (112, 0)]
  if cause = 1 then s3.raiseAlarm recKeeperReset pay else s3.raiseO recKeeperReset pay

/-- A keeper-scope reset takes effect: the update in progress is given up. -/
def State.keeperReset (s : State) (cause : Nat) : State :=
  let s1 := s.keeperStops keeperKeys cause
  s1.setKp { s1.kp with update := none }

/-- The keeper serves again: an interrupted persistence starts again, trace resumes. -/
def State.keeperStarts (s : State) : State :=
  let s1 := (s.setRst { s.rst with keeper := none }).keeperRest
  let s2 := if s1.kp.running then s1.keeperTraceOn else s1
  if s2.kp.persistDue && s2.isTrayChip && s2.keeperOn then s2.persistBegin else s2

/-- KEEPER_SCOPE_RESET (19 R396, R398): a keeper-scope reset that RESET asked for takes effect. -/
def execKeeperScopeReset (dt : Nat) (s : State) : Host.Outcome State Fault Refusal :=
  .next (s.core dt (fun s =>
    (s.setRst { s.rst with requested := s.rst.requested.filter (fun r => r.scope != 3) }).keeperReset 0))

/-- KEEPER_WATCHDOG (19 R398). -/
def execKeeperWatchdog (dt : Nat) (s : State) : Host.Outcome State Fault Refusal :=
  .next (s.core dt (fun s => s.keeperReset 1))

/-- KEEPER_RESET_DONE (19 R398): the keeper restarts from the image it holds. -/
def execKeeperResetDone (dt : Nat) (s : State) : Host.Outcome State Fault Refusal :=
  .next (s.core dt (fun s => if s.rst.keeper.isSome && s.kp.update.isNone then s.keeperStarts else s))

/-! ### Updates (19 R405, R406) -/

/-- The update ends with a completion code. -/
def State.updateEnds (s : State) (code : Nat) : State :=
  (s.setKp { s.kp with update := none }).actionDone Dict.keeperUpdate 0 code

/-- The update is given up with a code before anything was swapped. -/
def State.updateFails (s : State) (code : Nat) : State := (s.updateEnds code).keeperRest

/-- The update goes on to a phase. -/
def State.updateTo (s : State) (u : KeeperUpdate) (p : UpdatePhase) : State :=
  s.setKp { s.kp with update := some { u with phase := p, since := s.time.now } }

/-- An update begins (19 R405): VERIFYING, or NO_KEEPER. -/
def State.updateStart (live persist : Bool) (s : State) : State :=
  if live && !s.kp.running then s.actionDone Dict.keeperUpdate 0 9
  else
    let u : KeeperUpdate := { live := live, persist := persist, phase := .verifying, since := s.time.now }
    (s.setKp { s.kp with update := some u }).wr Dict.keeperState 2

/-- A write of KEEPER_UPDATE reaches its target: reserved bits, or PERSIST on Uhlyr-D, fall under 00 R7. -/
def State.serveKeeperUpdate (rq : Requester) (value : Nat) (s : State) : State :=
  if value % 256 ≠ value ∨ (value ≠ 0 ∧ value ≠ 1 ∧ value ≠ 16 ∧ value ≠ 17) ∨ (s.isDie ∧ 16 ≤ value) then
    s.serveCmd rq Dict.keeperUpdate 0 (fun s => (s.drawn, s.freeVal % 254))
  else s.serveLong rq Dict.keeperUpdate 0 value (State.updateStart (value % 2 == 0) (decide (16 ≤ value)))

/-- KEEPER_UPDATE_LIVE (19 R406). -/
def execKeeperUpdateLive (dt : Nat) (rq : Requester) (persist : Bool) (s : State) : Host.Outcome State Fault Refusal :=
  .next (s.asked dt rq (rq.put Dict.keeperUpdate 0 (16 * bit persist)) (State.serveKeeperUpdate rq (16 * bit persist)))

/-- KEEPER_UPDATE_RESTART (19 R406). -/
def execKeeperUpdateRestart (dt : Nat) (rq : Requester) (persist : Bool) (s : State) : Host.Outcome State Fault Refusal :=
  .next (s.asked dt rq (rq.put Dict.keeperUpdate 0 (16 * bit persist + 1)) (State.serveKeeperUpdate rq (16 * bit persist + 1)))

/-- The image is verified and, where asked, persisted: LIVE waits for a quiet instant, RESTART stops the keeper. -/
def State.updateSwap (s : State) (u : KeeperUpdate) : State :=
  if u.live then (s.updateTo u .quiescing).keeperRest
  else
    let s1 := s.keeperStops [Dict.exportCmd.key 0 0] 2
    s1.updateTo u .restarting

/-- KEEPER_VERIFIED (19 R406): the staged image has been tested. -/
def execKeeperVerified (dt : Nat) (s : State) : Host.Outcome State Fault Refusal :=
  .next (s.core dt (fun s =>
    match s.kp.update with
    | some u =>
      if u.phase != .verifying || s.rst.keeper.isSome then s
      else
        let code := s.keeperTest s.kp.staged
        if code ≠ 0 then s.updateFails code
        else if u.live && imageFormat s.kp.staged != s.kp.stateFormat then s.updateFails 6
        else if u.persist then (s.updateTo u .persisting).wr Dict.keeperState 3
        else s.updateSwap u
    | none => s))

/-- The image slot that was not booted (Table 19-7). -/
def State.setSpareSlot (s : State) (img : Bytes) : State :=
  let f := s.flash
  State.emit { s with flash := if s.rd Dict.bootResult / 64 = 0 then { f with slotB := img } else { f with slotA := img } }
    (.flash (if s.rd Dict.bootResult / 64 = 0 then "slot B" else "slot A") img)

/-- KEEPER_PERSISTED (19 R406): the write of the new image into the spare slot and its read-back succeed or fail. -/
def execKeeperPersisted (dt : Nat) (ok : Bool) (s : State) : Host.Outcome State Fault Refusal :=
  .next (s.core dt (fun s =>
    match s.kp.update with
    | some u =>
      if u.phase != .persisting || s.rst.keeper.isSome then s
      else if ok then (s.setSpareSlot (s.kp.staged.take (keeperLength s.kp.staged))).updateSwap u
      else s.updateFails 8
    | none => s))

/-- No keeper action but the update itself is in progress (19 R388, R406). -/
def State.keeperQuiet (s : State) : Bool :=
  (s.actionOf (Dict.exportCmd.key 0 0)).isNone && s.neg.state == NegState.idle && s.kp.persisting.isNone

/-- KEEPER_QUIESCENT (19 R406): the keeper pauses at an instant without an action, or 100 ms have passed. -/
def execKeeperQuiescent (dt : Nat) (s : State) : Host.Outcome State Fault Refusal :=
  .next (s.core dt (fun s =>
    match s.kp.update with
    | some u =>
      if u.phase != .quiescing || s.rst.keeper.isSome then s
      else if s.keeperQuiet then ((s.keeperTraceOff).updateTo u .paused).wr Dict.keeperState 4
      else if s.passed u.since 100000000 then s.updateFails 7
      else s
    | none => s))

/-- KEEPER_UPDATED (Table 19-11). -/
def State.updatedRecord (s : State) (old new code : Nat) (u : KeeperUpdate) : State :=
  s.raiseO recKeeperUpdated (packBits [(32, old), (32, new), (8, bit (!u.live)), (8, code), (48, 0)])

/-- KEEPER_READY (19 R406): the new image reports ready, or does not within 2 ms. -/
def execKeeperReady (dt : Nat) (ok : Bool) (s : State) : Host.Outcome State Fault Refusal :=
  .next (s.core dt (fun s =>
    match s.kp.update with
    | some u =>
      if u.phase != .paused && u.phase != .restarting then s
      else
        let old := s.rd Dict.keeperVersion
        let new := imageVersion s.kp.staged
        let code := if ok then 0 else 0x0A
        let s1 := if ok then (s.setKp { s.kp with running := true, stateFormat := imageFormat s.kp.staged }).wr Dict.keeperVersion new else s
        ((s1.updateEnds code).keeperStarts).updatedRecord old new code u
    | none => s))

end Sys2Proof.Machine
end

