-- ==== Sys2Proof/Machine/Power.lean ====
section
/-! DEFINITION. Power states, the wake order, the tree array's clock loop (19 R389 to R395). -/

namespace Sys2Proof.Machine

open Sys2Proof

/-- The power machine takes a value. -/
def State.setPw (s : State) (p : Power) : State := { s with pw := p }

/-! ### Entry (Table 19-2) -/

/-- Entry to a state begins: POWER_ENTER, the trace markers (11 R247). -/
def State.enterPower (s : State) (st : Nat) : State :=
  let s1 := (s.raiseO recPowerEnter (packBits [(8, st), (120, 0)])).tracePowerEnter st
  s1.setPw { s1.pw with entering := some st }

/-- The trace buffers have drained: the state is entered, and a wake source that was held begins the wake. -/
def State.powerEntered (s : State) : State :=
  match s.pw.entering with
  | none => s
  | some st =>
    if !s.tr.lines.isEmpty then s
    else
      let s1 := (s.wr Dict.powerState st).setPw { s.pw with entering := none, heldWake := none }
      match s.pw.heldWake with
      | some w => s1.setPw { s1.pw with waking := some w, wakeFrom := st, steps := [], stepSince := s1.time.now }
      | none => s1

/-- Idle since long enough for a transition; 0 disables it. -/
def State.idleFor (s : State) (ns : Nat) : Bool :=
  decide (0 < ns) && s.levelIdle && s.pw.entering.isNone && s.pw.waking.isNone && !s.inReset && s.passed s.pw.idleSince ns

/-- DIM_IDLE (19 R390): idleness has lasted DIM_IDLE; DIM is entered once the trace buffers have drained. -/
def execDimIdle (dt : Nat) (s : State) : Host.Outcome State Fault Refusal :=
  .next (s.core dt (fun s => if s.idleFor (s.rd Dict.dimIdle * 1000) then (s.enterPower 1).powerEntered else s))

/-- SAFELIGHT_IDLE (19 R390): idleness has lasted SAFELIGHT_IDLE, in ACTIVE or DIM. -/
def execSafelightIdle (dt : Nat) (s : State) : Host.Outcome State Fault Refusal :=
  .next (s.after dt (fun s =>
    if decide (s.rd Dict.powerState ≤ 1) && s.idleFor (s.rd Dict.safelightIdle * 1000000) then s.enterPower 2 else s))

/-- POWER_ENTRY_DONE (11 R247): the trace buffers have drained. -/
def execPowerEntryDone (dt : Nat) (s : State) : Host.Outcome State Fault Refusal :=
  .next (s.island dt State.powerEntered)

/-! ### Wake (19 R390 to R394) -/

/-- WAKE_SOURCE (Table 19-4): a source arrives in DIM or SAFELIGHT. What it brings with it is its own row's command, which its port or
island holds (19 R391). -/
def execWakeSource (dt source detail cls : Nat) (s : State) : Host.Outcome State Fault Refusal :=
  .next (s.island dt (fun s => if s.inReset then s else s.wake source detail cls))

/-- A step of the wake order is ready: its duration in 100 ns. -/
def State.wakeStep (s : State) (n : Nat) : State :=
  if s.pw.waking.isSome && s.pw.wakeFrom == 2 && s.pw.steps.length == n then
    s.setPw { s.pw with steps := s.pw.steps ++ [min 65535 ((s.time.now - s.pw.stepSince) / (100 * nsUnits))], stepSince := s.time.now }
  else s

/-- REG_GOOD (19 R393). -/
def execRegGood (dt : Nat) (s : State) : Host.Outcome State Fault Refusal := .next (s.island dt (fun s => s.wakeStep 0))

/-- PLL_LOCK (19 R393). -/
def execPllLock (dt : Nat) (s : State) : Host.Outcome State Fault Refusal := .next (s.island dt (fun s => s.wakeStep 1))

/-- MEM_READY (19 R393). -/
def execMemReady (dt : Nat) (s : State) : Host.Outcome State Fault Refusal := .next (s.island dt (fun s => s.wakeStep 2))

/-- LAST_WAKE (Table 19-4). -/
def wakeBits (w : WakeSource) (frm : Nat) (steps : List Nat) : Nat :=
  packBits [(8, w.source), (8, w.detail), (8, frm), (8, w.cls), (32, w.t32), (16, steps.getD 0 0), (16, steps.getD 1 0),
    (16, steps.getD 2 0), (16, steps.getD 3 0)]

/-- An extreme gathered by the crossing enters a gauge. -/
def joinExtreme (kind : Nat) (least : Bool) (h : Option Nat) (x : Nat) : Nat :=
  if kind = 3 ∧ flIsNan (flDecode f32 x) then h.getD x else extreme kind least h x

/-- The crossing hands what it gathered for one input to the counters (19 R391). -/
def State.crossMerge (s : State) (e : Nat × HealthCrossing) : State :=
  let i := e.1
  let x := e.2
  let h := s.hslot i
  if h.kind = 1 then
    let raw := h.count + x.pulses
    let hit := x.ovf || decide (2 ^ 32 - 1 < raw)
    (s.setHslot i { h with count := min raw (2 ^ 32 - 1), sat := h.sat || hit }).reportSat [(hit && !h.sat, none, 0x860 + 16 * i)]
  else if x.samples = 0 then s
  else
    let cur (v : Nat) : Option Nat := if h.samples = 0 || (h.kind == 3 && flIsNan (flDecode f32 v)) then none else some v
    s.setHslot i { h with ever := true, last := x.last, min := joinExtreme h.kind true (cur h.min) x.min
                          max := joinExtreme h.kind false (cur h.max) x.max, samples := satTo 16 (h.samples + x.samples) }

/-- A queued record of the time island is written (19 R392); ANCHORS counts the anchors written (02 R39). -/
def State.writeHeld (s : State) (r : HeldRecord) : State :=
  (if r.typ = recTimeAnchor then s.bump Dict.anchors else s).raiseAt r.classF r.alarm r.typ r.payload r.time r.frame

/-- The instance is ACTIVE again: queued records, LAST_WAKE and its record, the crossing, the trace markers. -/
def State.woken (s : State) (w : WakeSource) (frm : Nat) (steps : List Nat) : State :=
  let held := s.time.held
  let cross := s.pw.crossing
  let s1 := (({ s with time := { s.time with held := [] } }).wr Dict.powerState 0).setPw
    { s.pw with waking := none, steps := [], crossing := [] }
  let s2 := held.foldl State.writeHeld s1
  let bits := wakeBits w frm steps
  let s3 := ((s2.wrBytes Dict.lastWake (leBytes 16 bits)).bumpSat Dict.wakes).raiseO recWake bits
  ((cross.foldl State.crossMerge s3).tracePowerLeave frm).touch

/-! ### The clock of the tree array (19 R395) -/

/-- Slots that count in Q: QUEUED and QUEUE_DEPTH. -/
def State.dvfsQueues (s : State) : List (Nat × Nat) :=
  ((List.range s.slotCount).filter (fun k => s.rd Dict.slotPipeCount k != 0)).map (fun k => ((s.dslot k).queued, s.depthOf k))

/-- DVFS_MIN is one that 19 R395 allows. -/
def dvfsMinOk (v : Nat) : Bool := decide (900 ≤ v) && decide (v ≤ 1800) && v % 100 == 0

/-- The clock that a period calls for, and the low periods in a row after it: Q stays below 1/64 throughout a low one. A DVFS_MIN outside
19 R395 leaves it open. -/
def State.dvfsNext (s : State) : Nat × Nat :=
  let clk := s.rd Dict.devClock
  let lo := s.rd Dict.dvfsMin
  let qs := s.dvfsQueues
  if !s.flag Dict.dvfsEnable then (1800, 0)
  else if !dvfsMinOk lo then (s.freeVal % 65536, 0)
  else if qs.any (fun q => decide (q.2 < 8 * q.1)) || s.pw.unscoredSeen then (max lo (min 1800 (clk + 100)), 0)
  else if !s.pw.queueSeen && qs.all (fun q => decide (64 * q.1 < q.2)) then
    (if 9 ≤ s.pw.lowPeriods then (max lo (clk - 100), 0) else (max lo clk, s.pw.lowPeriods + 1))
  else (max lo clk, 0)

/-- DVFS_PERIOD (19 R395): 100 us have passed. -/
def execDvfsPeriod (dt : Nat) (s : State) : Host.Outcome State Fault Refusal :=
  .next (s.core dt (fun s =>
    if s.isDie || !s.passed s.pw.dvfsLast 100000 then s
    else
      let r := s.dvfsNext
      (s.setPw { s.pw with lowPeriods := r.2, unscoredSeen := false, queueSeen := false, dvfsLast := s.time.now
                           dvfsTarget := if r.1 = s.rd Dict.devClock then s.pw.dvfsTarget else some r.1 }).drawn))

/-- ARR_VID of a tray chip, in 10 mV above 0.60 V (21 R426): 0.62 V and 20 mV for each 100 MHz above 900 MHz. The voltage is raised
before the clock rises and lowered after it falls (19 R395), so it serves the higher of the clock in force and the one to come. -/
def State.arrVid (s : State) : Nat := (2 + 2 * ((max (s.rd Dict.devClock) (s.pw.dvfsTarget.getD 0) - 900) / 100)) % 64

/-- PWR_REQ of Uhlyr-D is high but in SAFELIGHT, where its rails are off, and rises with the wake (Table 19-2, R393, Table 21-5). -/
def State.pwrReq (s : State) : Bool := s.rd Dict.powerState != 2 || s.pw.waking.isSome

/-- DVFS_CHANGE_DONE (19 R395): a change has completed. -/
def execDvfsChangeDone (dt : Nat) (s : State) : Host.Outcome State Fault Refusal :=
  .next (s.core dt (fun s =>
    match s.pw.dvfsTarget with
    | some v => (s.wr Dict.devClock v).setPw { s.pw with dvfsTarget := none }
    | none => s))

end Sys2Proof.Machine
end

