-- ==== Sys2Proof/Machine/Link.lean ====
section
/-! DEFINITION. Lanes and links: acceptance, retry, credits, the lane state machine, upward routes (13 R280 to R292, R444). -/

namespace Sys2Proof.Machine

open Sys2Proof

/-! ### Frames to come (13 R288, R289) -/

/-- The first frame whose programmed pulse lies at least `lead` ns after now, from the channel 0 schedule, on or off. -/
def State.firstFrame (s : State) (lead : Nat) : Nat :=
  let at_ := s.time.now + lead * nsUnits
  let cur := s.schedule 0
  let k := cur.slotFrom at_
  match (s.chan 0).waiting with
  | some w => if w.t ≤ cur.due k then (w.b + w.slotFrom at_) % 2 ^ 32 else (cur.b + k) % 2 ^ 32
  | none => (cur.b + k) % 2 ^ 32

/-! ### ROUTE frames (Table 13-7) -/

/-- The dies of this mover: a leaf's own, or every die that the table routes through the chip. -/
def State.moverDies (s : State) : List Nat :=
  if s.isDie then (if s.rd Dict.dieId = 0xFFFFFFFF then [] else [s.dieField]) else s.routedDies s.frameNow

/-- Groups of at most 84 chunks: what one frame holds. -/
def chunkGroups : Nat → List (Nat × Nat) → List (List (Nat × Nat))
  | 0, _ => []
  | n + 1, l => if l.isEmpty then [] else l.take 84 :: chunkGroups n (l.drop 84)

/-- The payloads of a ROUTE message: as many frames as its chunks take. -/
def routePayloads (ff kind leg : Nat) (dies : List Nat) : List Bytes :=
  let cs := missChunks (sortNat dies)
  (chunkGroups cs.length cs).map (fun g => leBytes 16 (packBits [(32, ff), (8, kind), (8, leg), (16, g.length), (64, 0)]) ++
    (g.map (fun c => leBytes 24 (packBits [(128, c.2), (32, 0), (32, c.1)]))).flatten)

/-- A ROUTE message leaves on a group. -/
def State.sendRoutes (s : State) (g ff kind leg : Nat) (dies : List Nat) : State :=
  (routePayloads ff kind leg dies).foldl (fun t b => t.sendRoute g 7 b) s

/-- A JOIN goes up the route, on the group that its traffic leaves on now (13 R289, 19 R408). -/
def State.sendJoin (s : State) : State :=
  match s.outNow with
  | some g => if s.groupUp g then s.sendRoutes g (s.firstFrame (2 * s.rd Dict.routeLead)) 0 0 s.moverDies else s
  | none => s

/-! ### What a group held when it left UP (13 R290, R291) -/

/-- Unacknowledged frames go back to their queues, each message whole, ahead of the messages of its precedence queued since
(Table 09-3, 14 R298); alarms go back to the front of the alarm buffer. -/
def State.putBack (s : State) (g : Nat) : State :=
  let fs := ((s.link g).acked ++ (s.link g).replay).filter (fun f => f.typ == 0)
  let of_ (c : Nat) : List QFrame := (fs.filter (fun f => f.cls == c)).map (·.frame)
  let alarms : List AlarmEntry := (of_ 0).flatMap (fun f =>
    (List.range (f.bytes.length / 32)).map (fun i => { bytes := (f.bytes.drop (32 * i)).take 32, own := none }))
  let q := s.gq g
  let s1 := s.setGq g { q with q := ([1, 2, 3, 4, 5, 6, 7] : List Nat).foldl (fun t c =>
    if (of_ c).isEmpty then t else Tbl.set t c (inOrder (of_ c ++ q.of c))) q.q }
  (s1.setLink g { s1.link g with replay := [], acked := [] }).fitAlarms (alarms ++ s1.sch.alarms ++ s1.sch.waiting)

/-- Upward traffic of a group that is not UP goes to the group a move has been decided to (Table 13-8). -/
def State.moveTraffic (s : State) (g t : Nat) : State :=
  let q := s.gq g
  let fs := ([1, 2, 3, 4, 5, 6, 7] : List Nat).flatMap (fun c =>
    (((messages (q.of c ++ q.heldOf c)).filterMap joinMsg).filter (fun f => f.kind != .arrival)).map (fun f => (c, f)))
  let s1 := (s.setGq g { q with q := [], held := [] }).refresh g
  (fs.foldl (fun u e => u.redirect g t e.1 e.2) s1).resendBarriers

/-- Both upward groups: what is held for one that a move has left. -/
def State.settleMoved (s : State) : State :=
  ([false, true] : List Bool).foldl (fun t b => match t.upGroup b with
    | some g => (match t.movedTo g with
      | some u => t.moveTraffic g u
      | none => t)
    | none => t) s

/-! ### Moves (13 R288) -/

/-- A move is pending: the pulse of its FROM_FRAME has not occurred. -/
def State.movePending (s : State) : Bool :=
  match s.rt.entries.head? with
  | some e => (match e.start with
    | some f => frameGt f s.frameNow
    | none => false)
  | none => false

/-- A move is decided: its entry, ROUTE_MOVED, MOVE LEG 0 on the target group ahead of all DATA. -/
def State.decideMove (s : State) (buddy : Bool) (code : Nat) : State :=
  match s.upGroup buddy with
  | none => s
  | some t =>
    let before := s.slaveLane
    let old := s.routeBuddy s.frameNow
    let ff := s.firstFrame (s.rd Dict.routeLead)
    let home := if buddy && s.upGroupUp false then none else s.rt.homeSince
    let s1 := { s with rt := { s.rt with entries := { buddy := buddy, start := some ff } :: s.rt.entries, homeSince := home } }
    let s2 := ((s1.wr Dict.routeFrom ff).bumpSat Dict.routeMoves).raiseIslandNow true true recRouteMoved
      (packBits [(8, bit old), (8, bit buddy), (32, ff), (8, code), (72, 0)])
    ((s2.sendRoutes t ff 1 0 s2.moverDies).settleMoved).slaveChanged before

/-- A trigger is decided (13 R288); the target must be UP. -/
def State.decideTrigger (s : State) (m : MoveTrigger) : State :=
  let cur := s.routeBuddy s.frameNow
  match m.code with
  | 0 =>
    if m.arrived then (if s.upGroupUp m.buddy then s.decideMove m.buddy 0 else s)
    else if !s.upGroupUp cur && s.upGroupUp (!cur) then s.decideMove (!cur) 0 else s
  | 1 => if m.buddy == cur && s.upGroupUp (!cur) then s.decideMove (!cur) 1 else s
  | 2 => if cur && s.upGroupUp false && s.flag Dict.routeHome then s.decideMove false 2 else s
  | _ => if s.upGroupUp m.buddy && m.buddy != cur then s.decideMove m.buddy 3 else s

/-- A trigger arises: taken at once, or at the pulse of the pending move's FROM_FRAME. -/
def State.trigger (s : State) (m : MoveTrigger) : State :=
  if s.role == Role.root then s
  else if s.movePending then { s with rt := { s.rt with triggers := s.rt.triggers ++ [m] } }
  else s.decideTrigger m

/-- The pulse of frame N: a move whose FROM_FRAME it is, or was where that pulse was missed, comes into force, and the triggers that
waited are decided afresh (13 R287, R288); a planned move resends the open barriers (09 R198). -/
def State.routePulse (s : State) (n : Nat) : State :=
  match s.rt.entries with
  | e :: o :: t =>
    if !e.met && (match e.start with
      | some f => frameGe n f
      | none => false) then
      let planned := s.upGroupUp o.buddy && e.buddy != o.buddy
      let s1 := if planned then s.resendBarriers else s
      let ts := s1.rt.triggers
      ts.foldl State.trigger { s1 with rt := { s1.rt with entries := { e with met := true } :: o :: t, triggers := [] } }
    else s
  | _ => s

/-! ### A group leaves or reaches UP -/

/-- Pending DAP entries are answered ROUTE_LOST by their holder (15 R321). -/
def State.losePendings (s : State) (gone : DapPending → Bool) (reason : Nat) : State :=
  (s.dap.pending.filter gone).foldl (fun t e => t.answerLost e.source { op := e.op, reqId := e.reqId, idx := e.idx, sub := e.sub } reason)
    { s with dap := { s.dap with pending := s.dap.pending.filter (fun e => !gone e) } }

/-- Is a group one of the upward route's? Which of the two. -/
def State.upwardOf (s : State) (g : Nat) : Option Bool :=
  if s.upGroup false == some g then some false else if s.upGroup true == some g then some true else none

/-- PARENT_LOST leaves on every UP downward group (13 R288). -/
def State.sendParentLost (s : State) : State :=
  if s.isDie || s.role == Role.root || s.anyUp then s else (s.downGroups.filter s.groupUp).foldl (fun t g => t.sendRoute g 8 []) s

/-- A group has left UP (13 R288, R291, R294, 09 R195, 15 R321). -/
def State.groupLost (s : State) (g : Nat) : State :=
  let s1 := ((s.putBack g).refresh g).linkLost g
  if s1.isDown g then
    let q := s1.gq g
    let stays (e : Nat × List QFrame) : Bool := e.1 != 1 && e.1 != 2 && e.1 != 3
    let s2 := (s1.setGq g { q with q := q.q.filter stays, held := q.held.filter stays }).refresh g
    s2.losePendings (fun e => s2.groupOf e.port == g) 2
  else
    let s2 := s1.losePendings (fun e => s1.groupOf e.port == g) 2
    match s2.upwardOf g with
    | none => s2
    | some b =>
      let s3 := if b then s2 else { s2 with rt := { s2.rt with homeSince := none } }
      let s4 := if s3.routeBuddy s3.frameNow == b then s3.trigger { code := 0, buddy := b } else s3
      s4.settleMoved.sendParentLost

/-- What the chip owed for entries on the lanes of a group since a link island reset is answered (Table 19-10). -/
def State.answerOwed (s : State) (g : Nat) : State :=
  let mine (e : DapPending) : Bool := s.groupOf e.port == g
  (s.rst.owed.filter mine).foldl (fun t e => t.answerLost e.source { op := e.op, reqId := e.reqId, idx := e.idx, sub := e.sub } 2)
    { s with rst := { s.rst with owed := s.rst.owed.filter (fun e => !mine e) } }

/-- The latest move decided is pending and goes to a group of the upward route. -/
def State.moveGoesTo (s : State) (b : Bool) : Bool := s.movePending && s.rt.entries.head?.any (fun e => e.buddy == b)

/-- An upward group has reached UP: a JOIN where the route names it and no move is pending, or else a MOVE to it, at the pulse of the
pending move's FROM_FRAME where there is one; nothing while the other group carries the route, but that the primary's first arrival
since chip-scope reset sends a JOIN up that route (13 R289, R292, 19 R408; log entry 12). -/
def State.upwardReached (s : State) (b : Bool) : State :=
  let first := !b && !s.rt.joined
  let s2 := if b then s else { s with rt := { s.rt with homeSince := some s.time.now, joined := true } }
  if s2.routeBuddy s2.frameNow == b && !s2.movePending then s2.sendJoin
  else if s2.moveGoesTo b || (s2.movePending && !s2.upGroupUp (!b)) then s2.trigger { code := 0, buddy := b, arrived := true }
  else if !s2.upGroupUp (!b) then s2.decideMove b 0
  else if first then s2.sendJoin
  else s2

/-- A group has reached UP (13 R280, R283, R292, 19 R408, 09 R188). -/
def State.groupReached (s : State) (g : Nat) : State :=
  let s1 := ((s.setLink g { lastCredit := s.time.now }).refresh g).answerOwed g
  (if s1.isDown g then (s1.growTrees).sendResync g
   else match s1.upwardOf g with
    | none => s1
    | some b => s1.upwardReached b).releaseCredits

/-! ### The lane state machine (Table 13-5) -/

/-- A lane enters a state, with its training step. -/
def State.laneTo (s : State) (p st step cause : Nat) : State :=
  ((s.wr Dict.laneState st p).wr Dict.laneTrainStep step p).setLane p { s.lane p with
    entered := s.time.now, cause := cause, looped := false, identAt := none, identSeen := false, identDone := false }

/-- Payload of LANE_UP and LANE_DOWN (Table 17-3). -/
def State.lanePayload (s : State) (p cause : Nat) : Nat := packBits [(8, p), (8, cause), (32, s.rd Dict.laneResends p), (80, 0)]

/-- The actions of leaving UP. -/
def State.leaveUp (s : State) (p cause st step : Nat) (alarm : Bool) : State :=
  let before := s.slaveLane
  let g := s.groupOf p
  let s1 := ((s.laneTo p st step cause).bumpSat Dict.laneDownEvents p).wake 7 p 0
  let s2 := s1.raiseIslandNow true alarm recLaneDown (s1.lanePayload p cause)
  let s3 := s2.setPtp p { s2.ptpLane p with request := none, sync := none, twoStep := none }
  (if s3.groupUp g then s3.refresh g else s3.groupLost g).slaveChanged before

/-- Every UP lane of a group goes to FAILED at RETRY_LIMIT (13 R281). -/
def State.failGroup (s : State) (g : Nat) : State := (s.upLanes g).foldl (fun t p => t.leaveUp p 1 4 0xFF true) s

/-- Lanes of the build in a state. -/
def State.lanesIn (s : State) (st : Nat) : List Nat := (List.range s.ports).filter (fun p => s.rd Dict.laneState p == st)

/-- An event on a lane, which nothing reaches during a block- or chip-scope reset. -/
def State.laneEvent (s : State) (dt p st : Nat) (f : State → State) : State :=
  s.after dt (fun s => if s.inReset || !decide (p < s.ports) || s.rd Dict.laneState p != st then s else f s)

/-- The laser of a disabled lane of the tray chip is off: its bias reads 0 (13 R284; log entry 4). -/
def State.laserOff (s : State) (p : Nat) : State := if s.isTrayChip then s.wr Dict.laneLaserBias 0 p else s

/-- LANE_ENABLE takes a value (13 R284): false disables the lane, true brings a disabled one to DOWN. -/
def State.setLaneEnable (p v : Nat) (s : State) : State :=
  let r := s.boolWritten v
  let s1 := (r.2.wr Dict.laneEnable r.1 p).persist
  if r.1 = 0 then
    (if s1.laneUp p then s1.leaveUp p 3 0 0xFF true
     else if s1.rd Dict.laneState p = 0 then s1
     else s1.laneTo p 0 0xFF 0).laserOff p
  else if s1.rd Dict.laneState p = 0 then s1.laneTo p 1 0xFF 0
  else s1

/-- A write of LANE_ENABLE reaches its target. -/
def State.serveLaneEnable (rq : Requester) (p value : Nat) (s : State) : State :=
  s.serveWrite rq Dict.laneEnable p (fun s => (s.setLaneEnable p value).answerWrite rq Dict.laneEnable p 0 0)

/-- LANE_ENABLE_WRITE (13 R284). -/
def execLaneEnableWrite (dt : Nat) (rq : Requester) (p value : Nat) (s : State) : Host.Outcome State Fault Refusal :=
  .next (s.asked dt rq (rq.put Dict.laneEnable p value) (State.serveLaneEnable rq p value))

/-- LANE_LOCK (Table 13-5): a DOWN lane begins EQUALISE. -/
def execLaneLock (dt p : Nat) (s : State) : Host.Outcome State Fault Refusal :=
  .next (s.laneEvent dt p 1 (fun s => s.laneTo p 2 1 0))

/-- A correction measured at training: within 400 ps of nominal, otherwise open (02 R36). -/
def State.calibrated (s : State) (o : Ob) (nominal p : Nat) : State :=
  (s.wr o ((nominal : Int) + max (-400) (min 400 s.freeInt)).toNat p).drawn

/-- A lane joins its group (13 R273): an upstream port's group takes in the lane, and its name, the port of its lowest lane, goes to
GROUP of every lane of it. What was kept under its former name is kept under the new one. -/
def State.joinGroup (s : State) (p : Nat) : State :=
  if s.isDie || p < 32 then s.wr Dict.laneGroup (s.groupOf p) p
  else
    let u := (p - 32) / 4
    let others := (upPorts u).filter (fun q => (s.lane q).inGroup)
    let s1 := s.setLane p { s.lane p with inGroup := true }
    let g0 := others.headD p
    let g := s1.portGroup u
    let s2 := (p :: others).foldl (fun (t : State) q => t.wr Dict.laneGroup g q) s1
    if g0 = g then s2 else ((s2.setLink g (s2.link g0)).setLink g0 {}).setGq g (s2.gq g0) |>.setGq g0 {}

/-- Training completes (Table 13-5, 02 R36, R31). -/
def State.trained (s0 : State) (p : Nat) : State :=
  let before := s0.slaveLane
  let s := s0.joinGroup p
  let g := s.groupOf p
  let was := s.groupUp g
  let s1 := (s.laneTo p 3 0xFF 0).wake 7 p 0
  let s2 := (s1.calibrated Dict.laneEgressCorr 3200 p).calibrated Dict.laneIngressCorr 5100 p
  let s3 := s2.setPtp p { mech := s2.rd Dict.laneDelayMech p, seq := (s2.ptpLane p).seq, syncSeq := (s2.ptpLane p).syncSeq }
  let s4 := s3.raiseIslandNow false false recLaneUp (s3.lanePayload p 0)
  (if was then s4.refresh g else s4.groupReached g).slaveChanged before

/-- LOCK_LOST (Table 13-5): an UP lane goes to FAILED with CAUSE 0. -/
def execLockLost (dt p : Nat) (s : State) : Host.Outcome State Fault Refusal :=
  .next (s.laneEvent dt p 3 (fun s => s.leaveUp p 0 4 0xFF true))

/-- A lane in TRAINING fails: TRAIN_FAILS counts; it keeps the CAUSE with which it left UP (13 R444). -/
def State.trainFail (s : State) (p : Nat) : State := (s.laneTo p 4 0xFF (s.lane p).cause).bumpSat Dict.laneTrainFails p

/-- TRAIN_LIMIT (Table 13-5): lanes whose time in TRAINING has passed. -/
def execTrainLimit (dt : Nat) (s : State) : Host.Outcome State Fault Refusal :=
  .next (s.island dt (fun s => ((s.lanesIn 2).filter (fun p => s.passed (s.lane p).entered (s.rd Dict.trainLimit * 1000000))).foldl State.trainFail s))

/-- TRAINING_SIGNAL_LOST (Table 13-5). -/
def execTrainingSignalLost (dt p : Nat) (s : State) : Host.Outcome State Fault Refusal :=
  .next (s.laneEvent dt p 2 (fun s => s.trainFail p))

/-- FAIL_HOLD (Table 13-5): FAILED lanes whose hold has passed go to DOWN. -/
def execFailHold (dt : Nat) (s : State) : Host.Outcome State Fault Refusal :=
  .next (s.island dt (fun s => ((s.lanesIn 4).filter (fun p => s.passed (s.lane p).entered (s.rd Dict.failHold * 1000000))).foldl
    (fun t p => t.laneTo p 1 0xFF 0) s))

/-- A write of RETRAIN reaches its target: an UP lane goes back to TRAINING without an alarm. -/
def State.serveRetrain (rq : Requester) (p : Nat) (s : State) : State :=
  s.serveCmd rq Dict.laneRetrain p (fun s => (if s.laneUp p then s.leaveUp p 2 2 1 false else s, 0))

/-- RETRAIN (Table 13-5). -/
def execRetrain (dt : Nat) (rq : Requester) (p : Nat) (s : State) : Host.Outcome State Fault Refusal :=
  .next (s.asked dt rq (rq.put Dict.laneRetrain p 0) (State.serveRetrain rq p))

/-! ### TRAIN and IDENT frames (13 R285, R444) -/

/-- A byte of TX_FFE moves by a requested step, unless it is at its limit, which the spec does not state (log entry 4). -/
def State.stepFfe (s : State) (p tap step : Nat) : State :=
  let v := s.rd Dict.laneTxFfe p
  let cur := v / 256 ^ tap % 256
  let new := ofSigned 8 (satSigned 8 (toSigned 8 cur + toSigned 8 step))
  let at_ := decide (s.freeVal % 2 = 1)
  (if at_ then s else s.wr Dict.laneTxFfe (v - cur * 256 ^ tap + new * 256 ^ tap) p).drawn

/-- An unsequenced frame with a payload of n bytes has been received on a lane, and act follows: nothing reaches a lane without block
lock, DISABLED or DOWN, nor any lane during a block- or chip-scope reset. -/
def State.rxFrame (s : State) (dt p n : Nat) (act : State → State) : State :=
  s.after dt (fun s => if s.inReset || !decide (p < s.ports) || decide (s.rd Dict.laneState p < 2) then s else act (s.rxOn p n))

/-- A TRAIN frame received on a lane. -/
def State.takeTrain (s : State) (p tap step st cause : Nat) : State :=
  if s.laneUp p then
    (if st = 1 then s.leaveUp p cause 2 1 (cause != 2)
     else if st = 2 then s.leaveUp p cause 4 0xFF (cause != 2)
     else if tap < 4 then s.stepFfe p tap step else s)
  else if s.rd Dict.laneState p = 2 && decide (tap < 4) then s.stepFfe p tap step
  else s

/-- TRAIN (13 R444): a TRAIN frame with its requested tap and step, STATE and CAUSE. -/
def execTrain (dt p tap step st cause : Nat) (s : State) : Host.Outcome State Fault Refusal :=
  .next (s.rxFrame dt p 8 (fun s => s.takeTrain p tap step st cause))

/-- IDENT (13 R285): the 16 bytes received in TRAINING, or, where the other end sends its last one later, in UP become NEIGHBOUR. -/
def execIdent (dt p payload : Nat) (s : State) : Host.Outcome State Fault Refusal :=
  .next (s.rxFrame dt p 16 (fun s =>
    if s.rd Dict.laneState p = 4 then s
    else (s.wrBytes Dict.laneNeighbour (leBytes 16 payload) p).setLane p { s.lane p with identSeen := true }))

/-- The lanes of a lane's group as its IDENT counts them (Table 13-6): of an upstream port those that train. -/
def State.identLanes (s : State) (p : Nat) : List Nat :=
  if s.isDie || p < 32 then s.lanesOf (s.groupOf p)
  else (upPorts ((p - 32) / 4)).filter (fun q => (s.lane q).inGroup || s.rd Dict.laneState q == 2)

/-- The IDENT of a lane (Table 13-6). -/
def State.identPayload (s : State) (p : Nat) : Bytes :=
  let ls := s.identLanes p
  let use := if s.isDie then p + 1 else if p < 32 || s.role == .root then 0 else s.rd Dict.upUse / 256 ^ ((p - 32) / 4) % 256
  let valid := s.isDie && s.rd Dict.dieId != 0xFFFFFFFF
  leBytes 16 (packBits [(8, s.level), (8, p), (4, ls.length), (2, ls.idxOf p), (2, use), (1, bit valid),
    (17, if s.isDie then s.dieField else 0), (32, s.rd Dict.memberEpoch), (54, 0)])

/-- A TRAIN frame leaves: tap, step and result of the equalisation are physical and open (log entry 4). -/
def State.sendTrain (s : State) (p st : Nat) : State :=
  let r := if st = 2 then (0xFF, 0, 0) else
    (let v := s.freeVal
     (if v % 5 = 4 then 0xFF else v % 5, if v / 8 % 2 = 0 then 1 else 0xFF, v / 2048 % 2))
  ((s.setLane p { s.lane p with trainAt := some s.time.now }).txOn p (linkFrame 5 0 false 0 0 false (leBytes 8 (packBits [(24, 0), (8, (s.lane p).cause), (8, st), (8, r.2.2), (8, r.2.1), (8, r.1)])))).drawn

/-- A lane's IDENT leaves; once one has been received it is the last (13 R285). -/
def State.sendIdent (s : State) (p : Nat) : State :=
  let l := s.lane p
  (s.setLane p { l with identAt := some s.time.now, identDone := l.identSeen }).txOn p (linkFrame 6 0 false 0 0 false (s.identPayload p))

/-- An instant, if any, lies at least `ns` back. -/
def State.since (s : State) (at_ : Option Nat) (ns : Nat) : Bool := at_.all (fun t => s.passed t ns)

/-- A lane in TRAINING goes on: how far its steps have come is physical and open (log entry 4). In IDENTIFY it sends IDENT every 10 µs
until it has received one and sent one more (13 R285). -/
def State.trainOn (s : State) (p : Nat) : State :=
  let v := s.freeVal
  let step := min 3 (s.rd Dict.laneTrainStep p + v % 4)
  let s1 := ((s.wr Dict.laneTrainStep step p).setLane p { s.lane p with looped := step == 2 && v / 4 % 2 == 1 }).drawn
  let s2 := if (s1.lane p).looped then s1 else s1.sendTrain p 1
  if step = 3 && !(s2.lane p).identDone && s2.since (s2.lane p).identAt 10000 then s2.sendIdent p else s2

/-- TRAINING_COMPLETE (Table 13-5, 13 R285): IDENTIFY is complete once an IDENT has been received; the last one sent goes out first. -/
def execTrainingComplete (dt p : Nat) (s : State) : Host.Outcome State Fault Refusal :=
  .next (s.laneEvent dt p 2 (fun s =>
    if !(s.lane p).identSeen then s else (if (s.lane p).identDone then s else s.sendIdent p).trained p))

/-- TRAIN_FRAME_INTERVAL (13 R444, R285): a lane in TRAINING or FAILED sends its TRAIN frame, and in IDENTIFY its IDENT. -/
def execTrainFrameInterval (dt p : Nat) (s : State) : Host.Outcome State Fault Refusal :=
  .next (s.island dt (fun s =>
    if s.inReset || !decide (p < s.ports) then s
    else if s.rd Dict.laneState p = 2 then s.trainOn p
    else if s.rd Dict.laneState p = 4 then s.sendTrain p 2
    else s))

/-! ### Adaptive loops (13 R286) -/

/-- One step up, down or none. -/
def stepOf (v : Nat) : Int := ((v % 3 : Nat) : Int) - 1

/-- The receiver's measurements, and one step of CTLE or a DFE tap, at most every 10 µs, or a request to the far end, at most every
millisecond (13 R279, R286): physical and open (log entry 4). -/
def State.adapt (s : State) (p : Nat) : State :=
  let v := s.freeVal
  let s1 := (((s.wr Dict.laneBerEst (v / 2 ^ 10 % 2 ^ 32) p).wr Dict.laneEyeMargin (v / 2 ^ 42 % 2 ^ 16) p)).drawn
  let s2 := if s1.isTrayChip then s1.wr Dict.laneRxPower (v / 2 ^ 58 % 2 ^ 16) p else s1
  if v % 3 = 2 then (if s2.since (s2.lane p).trainAt 1000000 then s2.sendTrain p 0 else s2)
  else if !s2.since (s2.lane p).stepAt 10000 then s2
  else
    let s3 := s2.setLane p { s2.lane p with stepAt := some s2.time.now }
    if v % 3 = 0 then s3.wr Dict.laneRxCtle (max 0 (min 15 ((s3.rd Dict.laneRxCtle p : Int) + stepOf (v / 3)))).toNat p
    else
      let tap := v / 9 % 3
      let dfe := s3.rd Dict.laneRxDfe p
      let cur := dfe / 256 ^ tap % 256
      s3.wr Dict.laneRxDfe (dfe - cur * 256 ^ tap + ofSigned 8 (satSigned 8 (toSigned 8 cur + stepOf (v / 3))) * 256 ^ tap) p

/-- EQUALISER_ADAPT (13 R286): an adaptation period of an UP lane has passed. -/
def execEqualiserAdapt (dt p : Nat) (s : State) : Host.Outcome State Fault Refusal :=
  .next (s.laneEvent dt p 3 (fun s => s.adapt p))

/-- The laser's next bias, within 20.0 mA to 100.0 mA: a step, whose size is open, up where the launch power measured, which is
physical and open, lies more than 0.2 dB below LASER_TARGET, and down where it lies more than 0.2 dB above (10^0.02 is 1.04713). A
laser that has been off starts at an open bias (log entry 4). -/
def State.nextBias (s : State) (p : Nat) : Nat :=
  let cur := s.rd Dict.laneLaserBias p
  let target := s.rd Dict.laneLaserTarget p
  let power := s.freeVal % 65536
  let step := 1 + s.freeVal / 65536 % 800
  if cur < 200 then 200 + s.freeVal / 65536 % 801
  else if power * 104713 < target * 100000 then min 1000 (cur + step)
  else if target * 104713 < power * 100000 then max 200 (cur - step)
  else cur

/-- LASER_LOOP (13 R286): the bias moves, at most once per millisecond; at or above LASER_WARN the lane is reported once between
chip-scope resets. -/
def execLaserLoop (dt p : Nat) (s : State) : Host.Outcome State Fault Refusal :=
  .next (s.laneEvent dt p 3 (fun s =>
    if s.isDie || !s.since (s.lane p).biasAt 1000000 then s
    else
      let s1 := ((s.setLane p { s.lane p with biasAt := some s.time.now }).wr Dict.laneLaserBias (s.nextBias p) p).drawn
      if s1.rd Dict.laneLaserWarn p ≤ s1.rd Dict.laneLaserBias p && !(s1.lane p).aged then
        (s1.setLane p { s1.lane p with aged := true }).raiseIslandNow false false recLaserAgeing
          (packBits [(8, p), (16, s1.rd Dict.laneLaserBias p), (104, 0)])
      else s1))

/-! ### Acknowledgement, retry, credit (13 R280 to R283) -/

/-- Of acknowledged DATA frames, those of a message that is not whole at the other end: its next frame waits or is unacknowledged. -/
def State.unfinished (s : State) (g : Nat) (fs rest : List SentFrame) : List SentFrame :=
  ([1, 2, 3, 4, 5, 6, 7] : List Nat).flatMap (fun c =>
    let next := match rest.find? (fun f => f.typ == 0 && f.cls == c) with
      | some f => some f.frame
      | none => ((s.gq g).of c).head?
    if next.any (fun f => !f.first) then
      (fs.filter (fun f => f.typ == 0 && f.cls == c)).foldl (fun acc f => if f.frame.first then [f] else acc ++ [f]) []
    else [])

/-- An ACK_SEQ received on a group frees the frames before it, and ROUTE frames that waited for room leave. -/
def State.takeAckSeq (s : State) (g a : Nat) : State :=
  let l := s.link g
  match l.replay with
  | [] => s
  | f :: _ =>
    let n := (a + 4096 - f.seq % 4096) % 4096
    if n = 0 ∨ l.replay.length < n then s
    else
      let rest := l.replay.drop n
      let l1 := { l with replay := rest, advanced := s.time.now, resent := 0
                         acked := s.unfinished g (l.acked ++ l.replay.take n) rest }
      State.sendWaiting l.waiting.length (s.setLink g l1) g

/-- Every unacknowledged frame is sent again, in order; a frame resent RETRY_LIMIT times in a row takes the group down. -/
def State.resend (s : State) (g : Nat) : State :=
  let l := s.link g
  if l.replay.isEmpty then s
  else
    let s1 := s.setLink g { l with advanced := s.time.now, resent := l.resent + 1 }
    let s2 := l.replay.foldl (fun t f => (t.bumpSat Dict.laneResends (t.laneFor g f.seq)).txOn (t.laneFor g f.seq) (t.seqBytes g f)) s1
    if s2.rd Dict.retryLimit ≤ l.resent + 1 then s2.failGroup g else s2

/-- ACK (13 R280): an ACK frame with its ACK_SEQ. -/
def execAck (dt p ackSeq : Nat) (s : State) : Host.Outcome State Fault Refusal :=
  .next (s.laneEvent dt p 3 (fun s => (s.rxOn p 0).takeAckSeq (s.groupOf p) ackSeq))

/-- NAK (13 R281): what the sender holds from the SEQ named is sent again. -/
def execNak (dt p ackSeq : Nat) (s : State) : Host.Outcome State Fault Refusal :=
  .next (s.laneEvent dt p 3 (fun s => ((s.rxOn p 0).takeAckSeq (s.groupOf p) ackSeq).resend (s.groupOf p)))

/-- REPLAY_TIMEOUT (13 R281): groups whose ACK_SEQ has not advanced. -/
def execReplayTimeout (dt : Nat) (s : State) : Host.Outcome State Fault Refusal :=
  .next (s.island dt (fun s =>
    (s.groupList.filter (fun g => s.groupUp g && !(s.link g).replay.isEmpty && s.passed (s.link g).advanced (s.rd Dict.replayTimeout))).foldl State.resend s))

/-- CREDIT (13 R283): cumulative credit per class. -/
def execCredit (dt p : Nat) (credits : List Nat) (s : State) : Host.Outcome State Fault Refusal :=
  .next (s.laneEvent dt p 3 (fun s =>
    let g := s.groupOf p
    let l := s.link g
    ((s.rxOn p 16).setLink g { l with credit := (List.range 8).foldl (fun t c => Tbl.set t c (credits.getD c (Tbl.getD l.credit c (fullGrant c)))) l.credit }).refresh g))

/-- CREDIT_REFRESH (13 R283): groups that have sent no CREDIT for 10 us. -/
def execCreditRefresh (dt : Nat) (s : State) : Host.Outcome State Fault Refusal :=
  .next (s.island dt (fun s =>
    (s.groupList.filter (fun g => s.groupUp g && s.passed (s.link g).lastCredit 10000)).foldl (fun t g => (t.freeCredit g).sendCredit g) s))

/-- A sequenced frame arrives with SEQ `seq` and a payload of n bytes (13 R280, R281): accepted and acknowledged, or
discarded with a NAK where none is outstanding. -/
def State.acceptSeq (s : State) (p seq n : Nat) (good : Bool) : Bool × State :=
  let g := s.groupOf p
  let l := s.link g
  if good && seq == l.expect then
    let s1 := (s.setLink g { l with expect := (l.expect + 1) % 4096, nakSince := none }).rxOn p n
    (true, s1.sendCtl g 1 [])
  else
    let s1 := if good then s else s.bumpSat Dict.laneCrcErrors p
    let held := match l.nakSince with
      | some t => !s.passed t (s.rd Dict.replayTimeout)
      | none => false
    if held then (false, s1) else (false, (s1.setLink g { l with nakSince := some s.time.now }).sendCtl g 2 [])

/-- Credit of a DATA frame that has been accepted is given back, or withheld (13 R283). -/
def State.takeCredit (s : State) (g c n : Nat) : State :=
  let l := s.link g
  let add (t : Tbl Nat) : Tbl Nat := Tbl.set t c ((Tbl.getD t c 0 + creditUnits n) % 65536)
  let l1 := { l with taken := add l.taken, withheld := if s.withholds g c then add l.withheld else l.withheld }
  (s.setLink g l1).sendCredit g

end Sys2Proof.Machine
end

