-- ==== Sys2Proof/Machine/Route.lean ====
section
/-! DEFINITION. The route table, relayed records and the commands of the upward route (13 R287 to R290, 15 R446). -/

namespace Sys2Proof.Machine

open Sys2Proof

/-! ### The route table (13 R289) -/

/-- A die's route changes to a port (or none) from a frame; at most one change is pending. -/
def State.setRoute (s : State) (die : Nat) (port : Option Nat) (ff : Nat) : State :=
  let e := Tbl.getD s.rt.table die { port := none, next := none }
  let ever := match port with
    | some g => if e.ever.contains g then e.ever else e.ever ++ [g]
    | none => e.ever
  { s with rt := { s.rt with table := Tbl.set s.rt.table die { port := e.at_ s.frameNow, next := some (port, ff), ever := ever } } }

/-- The dies' routes change; a change that comes after this chip has opened its frame spoils that frame's record (13 R293). -/
def State.setRoutes (s : State) (dies : List Nat) (port : Option Nat) (ff : Nat) : State :=
  let s1 := dies.foldl (fun (t : State) d => t.setRoute d port ff) s
  let s2 := match s1.machine ff with
    | some f => (s1.setMachine { f with spoiled := some s1.free, merged := f.merged.map (fun (r : RedRec) => { r with wild := some s1.free }) }).drawn
    | none => s1
  s2.growTrees

/-- Legs older than 4,096 frames are kept no longer (13 R290). -/
def State.keepLegs (s : State) : State :=
  { s with rt := { s.rt with legs := s.rt.legs.filter (fun l => frameGe ((l.start + 4096) % 2 ^ 32) s.frameNow) } }

/-- A leg has been applied. -/
def State.addLeg (s : State) (l : AppliedLeg) : State := { s with rt := { s.rt with legs := s.rt.legs ++ [l] } }

/-- The port of a die for the frame before one. -/
def State.portBefore (s : State) (die ff : Nat) : Option Nat := s.portOf die ((ff + 2 ^ 32 - 1) % 2 ^ 32)

/-- The dies by the port they were on, ports in ascending order. -/
def State.oldPorts (s : State) (dies : List Nat) (ff : Nat) : List (Nat × List Nat) :=
  dies.foldl (fun t d => match s.portBefore d ff with
    | some o => Tbl.set t o (Tbl.getD t o [] ++ [d])
    | none => t) []

/-- JOIN at a chip: the dies pass through the arrival port, and the JOIN goes on up the chip's own route. -/
def State.takeJoin (s : State) (g ff : Nat) (dies : List Nat) : State :=
  let s1 := s.setRoutes dies (some g) ff
  match s1.outNow with
  | some u => s1.sendRoutes u ff 0 0 dies
  | none => s1

/-- MOVE at a chip: the new parent (LEG 0), the common parent (LEG 1), the old parent (LEG 2). -/
def State.takeMove (s : State) (g ff leg : Nat) (dies : List Nat) : State :=
  let s0 := s.keepLegs
  match leg with
  | 0 =>
    let s1 := (s0.setRoutes dies (some g) ff).addLeg { leg := 0, start := ff, port := g, old := none, dies := dies }
    (match s1.outNow with
     | some u => s1.sendRoutes u ff 1 1 dies
     | none => s1)
  | 1 =>
    let olds := (s0.oldPorts dies ff).filter (fun e => e.1 != g)
    let s1 := s0.setRoutes dies (some g) ff
    olds.foldl (fun t e => (t.addLeg { leg := 1, start := ff, port := g, old := some e.1, dies := e.2 }).sendRoutes e.1 ff 1 2 e.2) s1
  | _ =>
    let olds := s0.oldPorts dies ff
    let s1 := s0.setRoutes dies none ff
    olds.foldl (fun t e => t.addLeg { leg := 2, start := ff, port := e.1, old := none, dies := e.2 }) s1

/-- A ROUTE frame arrives (13 R277, R280): it is sequenced, and taken where it is accepted. -/
def State.routeFrame (s : State) (dt p seq chunks : Nat) (act : State → State) : State :=
  s.laneEvent dt p 3 (fun s =>
    let r := s.acceptSeq p seq (16 + 24 * chunks) true
    if r.1 && r.2.isTrayChip then act r.2 else r.2)

/-- ROUTE_JOIN (13 R289): a ROUTE frame of KIND JOIN from below. -/
def execRouteJoin (dt p seq fromFrame : Nat) (dies : List Nat) (s : State) : Host.Outcome State Fault Refusal :=
  .next (s.routeFrame dt p seq (missChunks (sortNat dies)).length (fun s =>
    if s.isDown p then s.takeJoin (s.groupOf p) fromFrame dies else s))

/-- ROUTE_MOVE_LEG (13 R289): a ROUTE frame of KIND MOVE; LEG 0 and 1 come from below, LEG 2 from above. -/
def execRouteMoveLeg (dt p seq fromFrame leg : Nat) (dies : List Nat) (s : State) : Host.Outcome State Fault Refusal :=
  .next (s.routeFrame dt p seq (missChunks (sortNat dies)).length (fun s =>
    if s.isDown p == decide (leg < 2) then s.takeMove (s.groupOf p) fromFrame leg dies else s))

/-! ### Relayed records (13 R290) -/

/-- The applied leg that a relayed record of a frame belongs to: the earliest FROM_FRAME later than it. -/
def State.relayLeg (s : State) (p orig frame : Nat) : Option AppliedLeg :=
  let g := s.groupOf p
  let fits (l : AppliedLeg) : Bool := frameGt l.start frame &&
    (if s.isDown p then decide (l.leg < 2) && l.port == g else l.leg == 2 && l.port == s.groupOf orig)
  (s.rt.legs.filter fits).foldl (fun (best : Option AppliedLeg) l => match best with
    | some b => if frameGe l.start b.start then some b else some l
    | none => some l) none

/-- A relayed record is discarded. -/
def State.discardRelay (s : State) : State := s.bumpSat Dict.relayDiscards

/-- A relayed record goes on, unmerged, on a group that is UP. -/
def State.forwardRelay (s : State) (g : Option Nat) (orig : Nat) (r : RedRec) : State :=
  match g with
  | none => s.discardRelay
  | some g =>
    if !s.groupUp g then s.discardRelay
    else
      let pre := leBytes 8 (packBits [(8, orig), (56, 0)])
      let bytes := r.bytes (s.programAt r.frame)
      (relayPieces (bytes.length / 2040 + 1) bytes).foldl (fun (t : State) b =>
        t.enqueue g 3 { kind := .record, bytes := pre ++ b, frame := r.frame, relay := true }) (s.bumpSat Dict.relayed)

/-- A relayed record at a chip: as new parent, common parent or old parent, or discarded. -/
def State.takeRelay (s : State) (p orig : Nat) (r : RedRec) : State :=
  match s.relayLeg p orig r.frame with
  | none => s.discardRelay
  | some l => match l.leg with
    | 0 => s.forwardRelay (s.outGroup r.frame) orig r
    | 1 => s.forwardRelay l.old orig r
    | _ =>
      if (s.machine r.frame).any (fun f => f.stored.any (fun x => x.1 == l.port)) then s.discardRelay
      else s.takeRecord l.port r

/-- A frame that fails its CRC, of whatever type: it is discarded and counted on any lane that has block lock, and on an UP one a NAK
may follow (13 R277, R281). -/
def State.badFrame (s : State) (dt p seq n : Nat) : State :=
  s.after dt (fun s =>
    if s.inReset || !decide (p < s.ports) || decide (s.rd Dict.laneState p < 2) then s
    else if s.laneUp p then (s.acceptSeq p seq n false).2
    else s.bumpSat Dict.laneCrcErrors p)

/-- DATA_FRAME (13 R280, R283, R290): a DATA frame of a class with n payload bytes, and the relayed record whose last frame it
is, if any. The message that it completes is its own row's command. -/
def execDataFrame (dt p : Nat) (good : Bool) (seq cls n : Nat) (ack : Option Nat) (relay : Option (Nat × RedRec)) (s : State) :
    Host.Outcome State Fault Refusal :=
  .next (if good then (s.laneEvent dt p 3 (fun s =>
    let s1 := match ack with
      | some a => s.takeAckSeq (s.groupOf p) a
      | none => s
    let r := s1.acceptSeq p seq n true
    if !r.1 then r.2
    else
      let s2 := ((r.2.takeCredit (s.groupOf p) cls n).touch).wake 1 p cls
      match relay with
      | some (orig, x) =>
        if !s2.isTrayChip then s2
        else if s2.coreOn then s2.takeRelay p orig x
        else s2.park (.dataFrame 0 p true seq cls n none relay)
      | none => s2))
    else s.badFrame dt p seq n)

/-! ### Triggers of a move (13 R288) -/

/-- PARENT_LOST: it arrives on an upward group. -/
def execParentLost (dt p seq : Nat) (s : State) : Host.Outcome State Fault Refusal :=
  .next (s.laneEvent dt p 3 (fun s =>
    let r := s.acceptSeq p seq 0 true
    if !r.1 then r.2
    else match r.2.upwardOf (s.groupOf p) with
      | some b => r.2.trigger { code := 1, buddy := b }
      | none => r.2))

/-- HOME_HOLD: the primary group has stayed UP for HOME_HOLD; the trigger arises once for each arrival at UP. -/
def execHomeHold (dt : Nat) (s : State) : Host.Outcome State Fault Refusal :=
  .next (s.island dt (fun s =>
    match s.rt.homeSince with
    | some t =>
      if s.passed t (s.rd Dict.homeHold * 1000000) then
        State.trigger { s with rt := { s.rt with homeSince := none } } { code := 2, buddy := false }
      else s
    | none => s))

/-- ROUTE_MOVE acts: its completion code (13 R288). -/
def State.routeMove (value : Nat) (s : State) : State × Nat :=
  if 1 < value then (s.drawn, s.freeVal % 254)
  else
    let b := value == 1
    if !s.upGroupUp b then (s, 1)
    else if s.movePending then (s.trigger { code := 3, buddy := b }, 3)
    else if s.routeBuddy s.frameNow == b then (s, 2)
    else (s.decideMove b 3, 0)

/-- A write of ROUTE_MOVE reaches its target. -/
def State.serveRouteMove (rq : Requester) (value : Nat) (s : State) : State := s.serveCmd rq Dict.routeMove 0 (State.routeMove value)

/-- ROUTE_MOVE (13 R288). -/
def execRouteMove (dt : Nat) (rq : Requester) (value : Nat) (s : State) : Host.Outcome State Fault Refusal :=
  .next (s.asked dt rq (rq.put Dict.routeMove 0 value) (State.serveRouteMove rq value))

/-! ### DIE_ID of a leaf (13 R289, 15 R446) -/

/-- DIE_ID takes a value and a JOIN goes up the route; a second write or a value out of range falls under 00 R7: what is
stored is open. -/
def State.setDieId (value : Nat) (s : State) : State :=
  let ok := s.rd Dict.dieId == 0xFFFFFFFF && (decide (value < 131072) || value == 0xFFFFFFFF)
  let s1 := if ok then s.wr Dict.dieId value else (s.wr Dict.dieId s.freeVal).drawn
  s1.sendJoin

/-- A write of DIE_ID reaches its target; it is RO on a tray chip. -/
def State.serveDieId (rq : Requester) (value : Nat) (s : State) : State :=
  s.serveWrite rq Dict.dieId 0 (fun s => (if s.isDie then s.setDieId value else s).answerWrite rq Dict.dieId 0 0 0)

/-- DIE_ID_WRITE (13 R289). -/
def execDieIdWrite (dt : Nat) (rq : Requester) (value : Nat) (s : State) : Host.Outcome State Fault Refusal :=
  .next (s.asked dt rq (rq.put Dict.dieId 0 value) (State.serveDieId rq value))

end Sys2Proof.Machine
end

