-- ==== Sys2Proof/Machine/Reset.lean ====
section
/-! DEFINITION. Resets and boot (19 R396 to R400, R402 to R404, R407). -/

namespace Sys2Proof.Machine

open Sys2Proof

/-- The record RESET_DONE (Table 19-11). -/
def State.doneRecord (s : State) (scope island cause boot : Nat) : State :=
  let pay := packBits [(8, scope), (8, island), (8, cause), (8, boot), (32, s.rd Dict.keeperVersion), (64, 0)]
  if scope = 2 then s.raiseAlarm recResetDone pay else s.raiseO recResetDone pay

/-! ### Island scope (19 R396, R399, Table 19-10) -/

/-- The link-side buffers of a group are lost (Tables 19-5, 19-10): everything for a child, and the requests and responses of class 2; other
upward traffic moves as after a failure (Table 13-8). -/
def State.dropBuffers (s : State) (g : Nat) : State :=
  let q := s.gq g
  let l := s.link g
  let keep (c : Nat) : Bool := !s.isDown g && c != 2
  ((s.setGq g { q with q := q.q.filter (fun e => keep e.1), held := q.held.filter (fun e => keep e.1) }).setLink g
    { l with replay := l.replay.filter (fun f => keep f.cls), acked := l.acked.filter (fun f => keep f.cls) }).refresh g

/-- The link island is reset: its buffers are lost, and every UP lane leaves UP as under RETRAIN; what the chip owes for entries on those
lanes is answered when they are UP again. A reset that waits for a response lost with them waits for it no more. -/
def State.linkReset (s : State) : State :=
  let up := (List.range s.ports).filter s.laneUp
  let gs := up.map s.groupOf
  let gone (e : DapPending) : Bool := gs.contains (s.groupOf e.port)
  let lost (r : ResetRequest) : Bool := r.left.isNone && s.groupList.any (fun g => ((s.gq g).of 2 ++ (s.gq g).heldOf 2).any (fun f => f.bytes == r.response))
  let s0 := s.groupList.foldl State.dropBuffers s
  let s1 : State := { s0 with
    rst := { s.rst with requested := s.rst.requested.map (fun r => if lost r then { r with left := some s.time.now } else r)
                        islands := s.rst.islands ++ [2], owed := s.rst.owed ++ s.dap.pending.filter gone }
    dap := { s.dap with pending := s.dap.pending.filter (fun e => !gone e) } }
  up.foldl (fun t p => t.leaveUp p 2 2 1 false) s1

/-- A loupe island is reset (10 R231). -/
def State.loupeIsland (s : State) (t : Nat) : State :=
  let s1 := s.resetLoupe t
  s1.setRst { s1.rst with islands := s1.rst.islands ++ [0x10 + t] }

/-- ISLAND_RESET_DONE (19 R399): the island-scope resets in progress are complete. -/
def execIslandResetDone (dt : Nat) (s : State) : Host.Outcome State Fault Refusal :=
  .next (s.core dt (fun s =>
    s.rst.islands.foldl (fun (t : State) i => (t.bumpSat Dict.islandResets).doneRecord 0 i 2 0)
      (s.setRst { s.rst with islands := [] })))

/-! ### The RESET command (19 R396) -/

/-- The completion code of RESET. -/
def State.resetCode (s : State) (value : Nat) : Nat :=
  let scope := value % 256
  let island := value / 256 % 256
  if scope = 0 then bit (island != 2 && !(s.isDie && decide (0x10 ≤ island) && decide (island < 0x30)))
  else bit (decide (3 < scope))

/-- RESET acts once its response has been formed: an island reset at once, the others 100 us after that response has left. -/
def State.resetActs (value : Nat) (response : Bytes) (s : State) : State :=
  let scope := value % 256
  let island := value / 256 % 256
  if scope = 0 then (if island = 2 then s.linkReset else s.loupeIsland (island - 0x10))
  else s.setRst { s.rst with requested := s.rst.requested ++ [{ scope := scope, response := response }] }

/-- A write of RESET reaches its target. -/
def State.serveReset (rq : Requester) (value : Nat) (s : State) : State :=
  s.serveWrite rq Dict.resetCmd 0 (fun s1 =>
    let code := s1.resetCode value
    let s2 := s1.setCode Dict.resetCmd code
    let s3 := s2.answerWrite rq Dict.resetCmd 0 0 code
    if code = 0 then s3.resetActs value (s2.answerBytes (rq.write Dict.resetCmd 0) 0 code 0 [] 0) else s3)

/-- RESET_ISLAND_LINK (19 R396). -/
def execResetIslandLink (dt : Nat) (rq : Requester) (s : State) : Host.Outcome State Fault Refusal :=
  .next (s.asked dt rq (rq.put Dict.resetCmd 0 0x0200) (State.serveReset rq 0x0200))

/-- RESET_ISLAND_LOUPE (19 R396): the loupe island 0x10 + t. -/
def execResetIslandLoupe (dt : Nat) (rq : Requester) (t : Nat) (s : State) : Host.Outcome State Fault Refusal :=
  .next (s.asked dt rq (rq.put Dict.resetCmd 0 ((0x10 + t) % 256 * 256)) (State.serveReset rq ((0x10 + t) % 256 * 256)))

/-- RESET_KEEPER (19 R396). -/
def execResetKeeper (dt : Nat) (rq : Requester) (s : State) : Host.Outcome State Fault Refusal :=
  .next (s.asked dt rq (rq.put Dict.resetCmd 0 3) (State.serveReset rq 3))

/-- RESET_BLOCK (19 R396). -/
def execResetBlock (dt : Nat) (rq : Requester) (s : State) : Host.Outcome State Fault Refusal :=
  .next (s.asked dt rq (rq.put Dict.resetCmd 0 1) (State.serveReset rq 1))

/-- RESET_CHIP (19 R396). -/
def execResetChip (dt : Nat) (rq : Requester) (s : State) : Host.Outcome State Fault Refusal :=
  .next (s.asked dt rq (rq.put Dict.resetCmd 0 2) (State.serveReset rq 2))

/-! ### Block scope (19 R397) -/

/-- RO objects that a block-scope reset keeps: index and subindex of the row. -/
def keptObject (idx sub : Nat) : Bool :=
  (0x1000 ≤ idx && idx ≤ 0x1010) || (0x1100 ≤ idx && idx ≤ 0x1127) || idx == 0x1200 || idx == 0x2104 ||
  (idx == 0x2110 && (sub == 1 || (6 ≤ sub && sub ≤ 10) || sub == 0x17 || sub == 0x18)) || (idx == 0x2320 && sub == 1) ||
  idx == 0x2330 || (0x2400 ≤ idx && idx ≤ 0x2405) || idx == 0x240C || idx == 0x2415 || idx == 0x2803 ||
  (0x2A00 ≤ idx && idx ≤ 0x2A25) || (0x2C11 ≤ idx && idx ≤ 0x2C19 && idx != 0x2C12) || idx == 0x2D05 || idx == 0x2D06 ||
  (idx == 0x3000 && (sub == 5 || (0x40 ≤ sub && sub ≤ 0x45)))

/-- Does a block-scope reset keep the object with a key? RW and RWP objects but TRACE_ENABLE and SINK_READ_PTR, and those above. -/
def State.keepsKey (s : State) (key : Nat) : Bool :=
  match Dict.find? s.build s.role (key / 256) (key % 256) with
  | none => false
  | some (o, _, _) => match s.accessOf o with
    | .rw => o.idx != 0x2600 && o.idx != 0x2604
    | .rwp => true
    | _ => keptObject o.idx o.sub

/-- Counters after a block-scope reset: P values restart empty, the command table is closed. -/
def Counters.kept (c : Counters) : Counters :=
  let rec_ (r : CmdRecord) : CmdRecord := { r with lifeMax := 0 }
  { c with
    cls := c.cls.map (fun e => (e.1, rec_ e.2))
    eng := c.eng.map (fun e => (e.1, { e.2 with cmd := rec_ e.2.cmd }))
    health := c.health.map (fun e => (e.1, { e.2 with samples := 0, min := emptyExtreme e.2.kind, max := emptyExtreme e.2.kind }))
    cmds := [], clearDue := false, clearAfter := none }

/-- A slot after a block-scope reset: image and state stay, what it was doing is lost. -/
def DevSlot.kept (d : DevSlot) : DevSlot := { d with load := none, queue := [], batch := 0, last := none, lastDie := none }

/-- A ring of the journal after a block-scope reset: it runs on, and starts afresh (20 R418). -/
def ChunkRing.restarted (r : ChunkRing) : ChunkRing :=
  { (r.marked (fun _ => false)) with afresh := r.cseq, startDue := true, run := none }

/-- Slots that were LOADING return to EMPTY with ABORTED. -/
def State.abortLoads (s : State) : State :=
  (List.range s.slotCount).foldl (fun (t : State) k =>
    if t.slotSt k = 1 then (t.wr Dict.slotLoadResult 8 k).wr Dict.slotState 0 k else t) s

/-- Lanes as a block-scope reset finds them: squelched, DOWN or DISABLED; the UP ones have left UP. -/
def State.lanesReset (s : State) (up : List Nat) : State :=
  let s1 := (List.range s.ports).foldl (fun (t : State) p => t.wr Dict.laneState (bit (t.flag Dict.laneEnable p)) p) s
  up.foldl (fun (t : State) p => (t.bumpSat Dict.laneDownEvents p).setPtp p { t.ptpLane p with request := none, sync := none, twoStep := none }) s1

/-- A reset that discards the buffers lets every stalled sequencer core go (11 R238, R248). -/
def State.unstall (s : State) : State :=
  (s.tr.sources.filter (fun e => e.2.stallSince.isSome)).foldl (fun (t : State) e => t.emit (.pin "SQ_STALL" (2 * (e.1 - 2)))) s

/-- A block-scope reset takes effect (19 R396, R397). -/
def State.blockReset (s0 : State) (cause : Nat) : State :=
  let s := s0.negAbandon.abortLoads.unstall
  let before := s.slaveLane
  let up := (List.range s.ports).filter s.laneUp
  let open_ := s.dap.actions.zipIdx.map (fun e => (e.1.key, Config.freeNat (s.free + e.2) % 254))
  let n : State := { s with
    regs := s.regs.filter (fun e => s.keepsKey e.1)
    doms := s.doms.filter (fun e => s.keepsKey e.1)
    cmdCodes := open_.foldl (fun t e => Tbl.set t e.1 e.2) s.cmdCodes
    cnt := s.cnt.kept, snap := {}, fs := {}, red := { sheets := s.red.sheets }, live := [], ev := { boundLast := s.time.run }, prc := [], ce := { offered := s.ce.offered }, mb := {}, pw := {}
    parked := s.parked.filter ofHost
    dev := { slots := s.dev.slots.map (fun e => (e.1, { e.2.kept with depth := some (s.rd Dict.slotQueueDepth e.1) })) }
    ver := { base := s.ver.base, theta := s.ver.theta, cells := s.ver.cells }
    bar := { member := s.bar.member, changes := s.bar.changes, sizes := s.bar.sizes, trees := s.bar.trees, podSeq := s.bar.podSeq
             leaf := { s.bar.leaf with arrivals := [] } }
    tr := { s.tr with sources := s.tr.sources.map (fun e => (e.1, { asleep := e.2.asleep })), lines := [] }
    lnk := { split := s.lnk.split, lanes := s.lnk.lanes.map (fun e => (e.1, { aged := e.2.aged, inGroup := e.2.inGroup, entered := s.time.now })) }
    rt := { entries := s.rt.entries, joined := s.rt.joined, table := s.rt.table }
    sch := { cseq := s.sch.cseq, srcDie := s.sch.srcDie, decimTotal := s.sch.decimTotal }
    dap := { udpPort := s.dap.udpPort, mac := s.dap.mac, addr := s.dap.addr, pfx := s.dap.pfx, gateway := s.dap.gateway }
    neg := { lastCapture := s.neg.lastCapture }
    rst := { requested := s.rst.requested.filter (fun r => r.scope == 2), busy := some (1, cause)
             lanesDown := up.map (fun p => (p, s.t32, s.frameNow)) }
    kp := { running := s.kp.running, stateFormat := s.kp.stateFormat, staged := s.kp.staged
            persistDue := s.kp.persistDue || s.kp.persisting.isSome }
    jn := { journal := s.jn.journal.restarted, history := s.jn.history.restarted }
    free := s.free + s.dap.actions.length }
  ((n.lanesReset up).slaveChanged before).keeperRest

/-- BLOCK_SCOPE_RESET (19 R396): the block-reset input of Uhlyr-D. -/
def execBlockScopeReset (dt : Nat) (s : State) : Host.Outcome State Fault Refusal :=
  .next (s.after dt (fun s => if s.isDie && !s.inReset then s.blockReset 1 else s))

/-! ### Chip scope -/

/-- A chip-scope reset takes effect: everything is reset; the flash and, unless power was lost, the stacks hold what they held, and what the
host of Uhlyr-D offers meanwhile stays with the host. -/
def State.chipReset (s0 : State) (cause : Nat) : State :=
  let s := s0.negAbandon.unstall
  { State.resetOf s.build s.role s.strapPins with
    pending := s.pending, parked := s.parked.filter ofHost, ce := { offered := s.ce.offered }, out := s.out, free := s.free
    flash := { s.flash with mode := none }
    stack := if cause = 0 then {} else s.stack
    rst := { busy := some (2, cause) } }

/-- CHIP_SCOPE_RESET (19 R396): power-on or the reset pin. -/
def execChipScopeReset (dt : Nat) (powerOn : Bool) (s : State) : Host.Outcome State Fault Refusal :=
  .next (s.after dt (fun s => s.chipReset (if powerOn then 0 else 1)))

/-- A requested reset takes effect; one no wider than the one in progress has nothing left to do. -/
def State.applyReset (s : State) (scope : Nat) : State :=
  match s.rst.busy, scope with
  | some (2, _), _ => s
  | _, 2 => s.chipReset 2
  | none, 1 => s.blockReset 2
  | none, 3 => s.keeperReset 0
  | _, _ => s

/-- RESET_DELAY_EXPIRY (19 R396): requested resets whose 100 us have passed take effect. -/
def execResetDelayExpiry (dt : Nat) (s : State) : Host.Outcome State Fault Refusal :=
  .next (s.after dt (fun s =>
    let ripe (r : ResetRequest) : Bool := r.left.any (fun t => s.passed t 100000)
    let due := s.rst.requested.filter ripe
    let s1 := s.setRst { s.rst with requested := s.rst.requested.filter (fun r => !ripe r) }
    due.foldl (fun (t : State) r => t.applyReset r.scope) s1))

/-! ### Boot (19 R400 to R404) -/

/-- A role code that Table 00-3 does not give a tray chip falls under 00 R7: some role. -/
def State.roleFor (s : State) (code : Nat) : Role :=
  match Role.ofCode? code with
  | some r => r
  | none => (Role.ofCode? (1 + s.freeVal % 4)).getD .tray

/-- The strapped values (Tables 19-6, 21-4). -/
def State.applyStraps (s : State) : State :=
  let v := s.strapPins % 2 ^ 27
  let pri := fieldOf v 23 22
  let bud := fieldOf v 21 20
  let use := 256 ^ pri + (if bud = pri then 0 else 2 * 256 ^ bud)
  ((((s.wr Dict.straps v).wr Dict.role (v % 8)).wr Dict.downSplit (fieldOf v 26 24)).wr Dict.upUse use).wrBytes Dict.mgmtMac
    ([0x02, 0xB0, 0x7E, 0x1C] ++ leBytes 1 (fieldOf v 19 12) ++ leBytes 1 (fieldOf v 11 4))

/-- How the flash is read from its SFDP tables on: by the 1-1-4 fast read where they advertise it, else by the 1-1-1 read (19 R400). -/
def Sfdp.mode (t : Sfdp) : FlashMode :=
  match t.quad with
  | some op => { quad := true, op := op, addrBytes := t.addrBytes, size := t.size }
  | none => { quad := false, op := t.single, addrBytes := t.addrBytes, size := t.size }

/-- The settings that boot applies. -/
def State.bootSettings (s : State) : Bytes :=
  if s.flash.sfdp.isSome then (match s.flash.settings with
    | some (_, _, es) => es
    | none => []) else []

/-- Straps and settings are applied to the persisted objects. -/
def State.bootApply (s : State) : State := State.applyEntries .rwp (s.bootSettings.length / 8 + 1) s.applyStraps s.bootSettings

/-- The role that the end of a chip-scope reset brings into force: a tray chip's is its persisted or strapped ROLE (00 R3). -/
def State.bootRole (s : State) : Role := if s.isDie then s.role else s.roleFor (s.bootApply.rd Dict.role)

/-- Straps and settings are in force, with the role they give and what is taken once at a chip-scope reset. -/
def State.bootObjects (s : State) : State :=
  let s1 := ({ s with role := s.bootRole } : State).drawn.bootApply
  let s2 : State := { s1 with
    flash := { s1.flash with mode := s1.flash.sfdp.map Sfdp.mode }
    lnk := { s1.lnk with split := s1.rd Dict.downSplit }
    dap := { s1.dap with udpPort := s1.rd Dict.dapUdpPort, mac := s1.rdBytes Dict.mgmtMac, addr := s1.rdBytes Dict.mgmtAddr, pfx := s1.rd Dict.mgmtPrefix
                         gateway := s1.rdBytes Dict.mgmtGateway } }
  (List.range 32).foldl (fun (t : State) p => t.wr Dict.laneGroup (t.groupOf p) p) s2

/-- Results of the two keeper image slots (19 R401). -/
def State.slotResults (s : State) : Nat × Nat :=
  if s.flash.sfdp.isNone then (6, 6)
  else if s.strapPins.testBit 3 then (7, 7)
  else (s.keeperTest s.flash.slotA, s.keeperTest s.flash.slotB)

/-- The keeper starts from the slot chosen, or the chip stays in its boot ROM. -/
def State.bootKeeper (s : State) : State :=
  let (a, b) := s.slotResults
  let pick : Option (Nat × Bytes) :=
    if a = 0 ∧ b = 0 then
      (if frameGe (leAt s.flash.slotA 12 4) (leAt s.flash.slotB 12 4) then some (0, s.flash.slotA) else some (1, s.flash.slotB))
    else if a = 0 then some (0, s.flash.slotA)
    else if b = 0 then some (1, s.flash.slotB)
    else none
  match pick with
  | none => s.wr Dict.bootResult (192 + 8 * a + b)
  | some (k, img) =>
    let s1 := (s.wr Dict.bootResult (64 * k + 8 * a + b)).setKp { s.kp with running := true, stateFormat := imageFormat img }
    ((s1.wr Dict.keeperVersion (imageVersion img)).wr Dict.keeperState 1).negRestore

/-- Lanes are enabled: DOWN, or DISABLED by LANE_ENABLE. -/
def State.enableLanes (s : State) : State :=
  (List.range s.ports).foldl (fun (t : State) p => t.wr Dict.laneState (bit (t.flag Dict.laneEnable p)) p) s

/-- The ROOT on its own reference is LOCKED at once (Table 02-2). -/
def State.bootClock (s : State) : State := if s.ownReference then s.setClock 2 else s

/-- A chip-scope reset has ended: local time restarts, and RESET_CAUSE names the cause. -/
def State.chipStarts (s : State) (cause : Nat) : State := ({ s.setRst {} with time := {} } : State).wr Dict.resetCause cause

/-- A chip-scope reset ends. -/
def State.chipEnds (s : State) (cause : Nat) : State :=
  let s2 := s.chipStarts cause
  let s3 := if s2.isTrayChip then (s2.bootObjects.bootClock.bootKeeper).enableLanes else s2
  s3.doneRecord 2 0 cause (if s3.isTrayChip then s3.rd Dict.bootResult else 0)

/-- Deliveries that the host has not acknowledged are rung again (18 R385). -/
def State.ringAgain (s : State) : State := s.bar.leaf.delivering.foldl (fun (t : State) d => t.mbSend 1 d.1 d.2.2.2.2) s

/-- A block-scope reset ends. -/
def State.blockEnds (s : State) (cause : Nat) : State :=
  let down := s.rst.lanesDown
  let held := s.time.held
  let kind : SnapKind := { lastNs := s.nowNs }
  let s1 : State := { s.setRst { s.rst with busy := none, lanesDown := [] } with
    time := { s.time with held := [] }, snap := { die := kind, eng := kind }, pw := { idleSince := s.time.now } }
  let s2 := down.foldl (fun (t : State) e => t.raiseAt false false recLaneDown (t.lanePayload e.1 4) e.2.1 e.2.2) s1
  let s3 := (held.foldl State.writeHeld s2).ringAgain.adoptSink
  (s3.doneRecord 1 0 cause 0).keeperStarts

end Sys2Proof.Machine
end

