-- ==== Sys2Proof/Machine/TraceCmds.lean ====
section
/-! DEFINITION. The commands of trace (chapter 11). -/

namespace Sys2Proof.Machine

open Sys2Proof

/-- A write of TRACE_ENABLE reaches its target. -/
def State.serveTraceEnable (rq : Requester) (value : Nat) (s : State) : State :=
  s.serveWrite rq Dict.traceEnable 0 (fun s => (s.setTraceEnable (value % 65536)).answerWrite rq Dict.traceEnable 0 0 0)

/-- TRACE_ENABLE_WRITE (11 R245). -/
def execTraceEnableWrite (dt : Nat) (rq : Requester) (value : Nat) (s : State) : Host.Outcome State Fault Refusal :=
  .next (s.asked dt rq (rq.put Dict.traceEnable 0 value) (State.serveTraceEnable rq value))

/-- A retirement group of core k acts on its source; `full` while the core island is not ACTIVE (19 R391): then its packets are
dropped, or its core stalls, and the packets of the group, which are not lost, go into the buffer's last bytes (11 R238). -/
def State.takeGroup (s : State) (k : Nat) (full : Bool) (pc last kind : Nat) (taken : Bool) (target ret : Nat) : State :=
  let n := k + 2
  if !s.isDie || decide (8 ≤ k) || !(s.trc n).enabled then s
  else
    let s1 := if full && s.stalls n then s.stallCore n else s
    let drops := full && !s.stalls n
    if kind = 3 then (if (s1.trc n).active then s1.exception n drops ret target else s1.setNextAddr n (some target))
    else
      let step := 2 ^ (s.rd Dict.srcAlign n % 4)
      State.retireGroup ((last + step - pc) / step) s1 n drops pc kind taken target

/-- SQ_GROUP (18 R376): a retirement group on sequencer trace port k: SQ_PC, SQ_END, SQ_KIND, SQ_TAKEN, SQ_TARGET, SQ_RET. -/
def execSqGroup (dt k pc last kind : Nat) (taken : Bool) (target ret : Nat) (s : State) : Host.Outcome State Fault Refusal :=
  .next (s.after dt (fun s =>
    if s.inReset || !s.isDie || decide (8 ≤ k) then s
    else (if s.coreOn then s.touch else s.wake 6 k 0).takeGroup k (!s.coreActive) pc last kind taken target ret))

/-- SQ_SLEEP (11 R247): core k enters or leaves sleep. -/
def execSqSleep (dt k : Nat) (asleep : Bool) (s : State) : Host.Outcome State Fault Refusal :=
  .next (s.core dt (fun s =>
    let n := k + 2
    if !s.isDie || decide (8 ≤ k) || (s.trc n).asleep == asleep then s
    else
      let s1 := s.setTrc n { s.trc n with asleep := asleep }
      if !(s1.trc n).enabled then s1
      else
        let s2 := s1.powerPacket n asleep 1 3
        if asleep then s2 else s2.syncPacket n false s2.nowNs))

/-- TRACE_LINE_TIMEOUT (11 R237): partial lines whose source has written no packet for 1 µs are completed. -/
def execTraceLineTimeout (dt : Nat) (s : State) : Host.Outcome State Fault Refusal :=
  .next (s.core dt (fun s =>
    s.traceSources.foldl (fun t n => if t.passed (t.trc n).lastPacket 1000 then t.completeLine n else t) s))

/-- SYNC_PERIOD (11 R240): sources whose last SYNC is SYNC_PERIOD old owe a SYNC before their next packet. -/
def execSyncPeriod (dt : Nat) (s : State) : Host.Outcome State Fault Refusal :=
  .next (s.core dt (fun s =>
    s.traceSources.foldl (fun t n =>
      if (t.trc n).enabled && t.passed (t.trc n).lastSync (t.rd Dict.syncPeriod) then t.setTrc n { t.trc n with syncDue := true } else t) s))

/-- The sink is full (11 R235). -/
def State.sinkFull (s : State) : Bool :=
  s.tr.sinkMode == 1 && decide ((s.rd Dict.sinkWritePtr + 64) % (s.tr.sinkSize * 1048576) = s.rd Dict.sinkReadPtr)

/-- SINK_LINE_WRITTEN (11 R235): the host port accepts the line completed first, while the core runs or enters a power state,
which waits for it (11 R247). -/
def execSinkLineWritten (dt : Nat) (s : State) : Host.Outcome State Fault Refusal :=
  .next (s.after dt (fun s =>
    match s.tr.lines with
    | [] => s
    | (n, line) :: rest =>
      if s.sinkFull || !(s.coreOn || (s.pw.entering.isSome && !s.inReset)) then s
      else
        let ptr := s.rd Dict.sinkWritePtr
        let next := (ptr + 64) % (s.tr.sinkSize * 1048576)
        let s1 := (State.emit { s with tr := { s.tr with lines := rest } } (.hostWrite (s.tr.sinkBase + ptr) line)).wr Dict.sinkWritePtr next
        let s2 := if next = 0 ∧ s.tr.sinkMode = 0 then s1.bump Dict.sinkWraps else s1
        (s2.bump Dict.srcLines n).stallCheck n))

/-- OFFLOAD_FLUSH (11 R249): units whose first line is OFFLOAD_FLUSH old are coded and sent. -/
def execOffloadFlush (dt : Nat) (s : State) : Host.Outcome State Fault Refusal :=
  .next (s.core dt (fun s =>
    s.traceSources.foldl (fun t n =>
      if t.passed (t.trc n).unit.since (t.rd Dict.offloadFlush) then t.sendUnit n else t) s))

/-- OFFLOAD_UNIT (11 R249): a class 5 offload unit (header and block) arrives at a TRAY on port p. -/
def execOffloadUnit (dt p : Nat) (bytes : Bytes) (s : State) : Host.Outcome State Fault Refusal :=
  .next (s.fromLane dt p 5 (.offloadUnit 0 p bytes) (fun s => if s.role != .tray || !s.isDown p || !s.laneUp p then s else (s.touch).storeAppend bytes))

/-- The entry that a READ of STORE_READ returns, and the cursor and loss count after it (11 R249; log entry 19). -/
def State.storeNext (s : State) : Option (Nat × Nat) × Bool :=
  if s.rd Dict.traceStoreSize = 0 || s.tr.cursorAt == some s.tr.storePos then (none, false)
  else match s.tr.store.find? (fun e => s.tr.cursorAt == some e.1) with
    | some e => (some e, false)
    | none => (s.tr.store.head?, !s.tr.store.isEmpty)

/-- STORE_CURSOR moves to the position `at_`, counted without wrap. -/
def State.moveCursor (s : State) (at_ : Nat) : State :=
  State.wr { s with tr := { s.tr with cursorAt := some at_ } } Dict.storeCursor (at_ % s.rd Dict.traceStoreSize)

/-- A READ of STORE_READ at the instance. -/
def State.readStore (s : State) (rq : Requester) : State :=
  let r := rq.read Dict.storeRead 0
  match s.storeNext with
  | (none, _) => s.answer rq.src r 0 0 0 [] 0
  | (some (off, len), lost) =>
    let bytes := s.ringRead (s.rd Dict.traceStoreBase) (s.rd Dict.traceStoreSize) off len
    let s0 := s.countRing (s.rd Dict.traceStoreBase) (s.rd Dict.traceStoreSize) off len
    let s1 := (if lost then s0.bumpSat Dict.storeLost else s0).moveCursor (off + ceilDiv len 64 * 64)
    let s2 := if readCap rq.src < len then s1.openRead (Dict.storeRead.key 0 0) bytes else s1
    s2.answer rq.src r 0 0 len (bytes.take (readCap rq.src)) 0

/-- STORE_READ (11 R249): a READ with OFFSET 0 of STORE_READ returns the entry at STORE_CURSOR and advances the cursor; a
longer entry is then read by segments from its session (15 R325). -/
def execStoreRead (dt : Nat) (rq : Requester) (s : State) : Host.Outcome State Fault Refusal :=
  .next (s.asked dt rq (rq.read Dict.storeRead 0) (State.serveRead rq.src (rq.read Dict.storeRead 0) (fun s => s.readStore rq)))

end Sys2Proof.Machine
end

