-- ==== Sys2Proof/Machine/Objects.lean ====
section
/-! DEFINITION. What a READ of an object returns and what a WRITE of it does (15 R322 to R327, 16 R335 to R342). -/

namespace Sys2Proof.Machine

open Sys2Proof

/-! ### Values that are formed when they are read (16 R338) -/

/-- Bytes that the spec leaves open, from open value `n` on (log entry 4). -/
def openBytes (n len : Nat) : Bytes := (List.range len).map (fun i => BitVec.ofNat 8 (Config.freeNat (n + i)))

/-- DEVICE_NAME: "Uhlyr-D" or "Uhlyr-T" (Table 15-6). -/
def State.deviceName (s : State) : Bytes := [0x55, 0x68, 0x6C, 0x79, 0x72, 0x2D, if s.isDie then 0x44 else 0x54]

/-- NEXT of a channel (Table 02-5): the time of the next slot to fire, in ns; none where no slot is to fire. -/
def State.nextFire (s : State) (c : Nat) : Option Nat :=
  let ch := s.chan c
  let cur := if s.hasSlot c ch.next then some ((s.schedule c).due ch.next) else none
  match ch.waiting, cur with
  | some w, some t => some (min t w.t)
  | some w, none => if s.rd Dict.shutterMode c = 0 then none else some w.t
  | none, r => r

/-- LINK_TABLE (05 R103): the logistic scores, then the exp scores. -/
def linkTable : Bytes :=
  ((List.range 65536).map (fun i => leBytes 2 (logistic ((i : Int) - 32768)))).flatten ++
    ((List.range 65536).map (fun i => leBytes 2 (expScore ((i : Int) - 32768)))).flatten

/-- LIVENESS_TABLE (08 R177): each port's machine with OLD = NEW. -/
def State.livenessTable (s : State) : Bytes :=
  ((List.range 32).map (fun p =>
    let g := s.groupOf p
    let st := (Tbl.getD s.live g {}).state
    leBytes 16 (({ s with free := s.free + p } : State).livePayload g st st))).flatten

/-- BOUND_TERMS (Table 10-12): E, n, k, reserved, U, H. -/
def State.boundTerms (s : State) : Bytes :=
  leBytes 8 s.ev.eligible ++ leBytes 8 s.ev.compared ++ leBytes 4 s.ev.mismatched ++ zeros 4 ++ leBytes 8 s.uncheckedTiles ++
    leBytes 8 s.ev.runningNs

/-- TEST_TABLE (Table 10-12); what a FREE entry holds beside its state, and the codes of the states, are open (log entry 24). -/
def State.testTable (s : State) : Bytes :=
  ((List.range 64).map (fun i => match Tbl.get? s.ev.tests i with
    | some t => leBytes 1 (Config.testCode (if t.issued then 2 else 1)) ++ leBytes 1 (bit t.overdue) ++ leBytes 2 t.engine ++ leBytes 2 t.test ++
        zeros 2 ++ leBytes 4 t.deadline ++ leBytes 4 t.requested
    | none => leBytes 1 (Config.testCode 0) ++ openBytes (s.free + 16 * i) 5 ++ zeros 2 ++ openBytes (s.free + 16 * i + 8) 8)).flatten

/-- DIGEST_RING (OD 2504.00): the last 64 records, oldest first; entries that have held no record are open (log entry 24). -/
def State.digestRing (s : State) : Bytes :=
  let held := (s.ev.ring.map DigestRec.bytes).flatten
  held ++ openBytes s.free (2048 - held.length)

/-- GATE_CURRENT (OD 3000+p.6A): the list in force; empty while there is none. -/
def State.gateCurrent (s : State) (p : Nat) : Bytes :=
  match (s.gq p).gatesAt s.time.now with
  | some l => Config.gateBytes l.base l.cycle l.entries
  | none => []

/-- ROUTE_TABLE (OD 280C.00): the port of each die for the current frame, 0xFF where none. -/
def State.routeTableBytes (s : State) : Bytes :=
  (List.range 131072).map (fun d => BitVec.ofNat 8 ((s.portOf d s.frameNow).getD 0xFF))

/-- BARRIER_MISSING of the barrier that BARRIER_SELECT names (09 R201). -/
def State.barrierMissingBytes (s : State) : Bytes :=
  let sel := s.rd Dict.barrierSelect
  match s.bar.openBars.find? (fun b => b.job == fieldOf sel 27 12 && b.barrier == fieldOf sel 11 0) with
  | some b => chunkBytes (s.barrierMissing b)
  | none => []

/-- The pieces of the frozen export: its header, then where each selected chunk lies (20 R421). -/
def State.exportHeader (s : State) (first last : Nat) : Bytes :=
  let n (r : ChunkRing) : Nat := (r.chunks.filter (·.frozen)).length
  leBytes 4 first ++ leBytes 4 last ++ leBytes 4 (n s.jn.journal) ++ leBytes 4 (n s.jn.history) ++ leBytes 1 s.role.code ++ zeros 15

/-- Address and length of each selected chunk, the journal's and then the history's, in CSEQ order. -/
def State.exportChunks (s : State) : List (Nat × Nat) :=
  ((s.jn.journal.chunks.filter (·.frozen)) ++ (s.jn.history.chunks.filter (·.frozen))).map (fun c => (c.addr, c.len))

/-- EXPORT_DATA (20 R421): length 0 while nothing is frozen. -/
def State.exportData (s : State) : Bytes :=
  match s.jn.freeze with
  | none => []
  | some (a, b) => s.exportHeader a b ++ (s.exportChunks.map (fun c => s.stackRead c.1 c.2)).flatten

/-- The SHEET that SHEET_SELECT names, of length 0 if it is not held (07 R154). -/
def State.sheetSelected (s : State) : Bytes :=
  match s.red.sheets.find? (fun e => e.1 == s.rd Dict.sheetSelect) with
  | some e => e.2
  | none => []

/-- MB_LEVELS (OD 2B00.00). -/
def State.mbLevels (s : State) : Nat := s.mb.h2b.length * 256 + s.mb.b2h.length

/-- Doorbells of a direction (0 host to block, 32 block to host) that are rung and not yet acknowledged. -/
def State.bellsPending (s : State) (dir : Nat) : Nat :=
  ((List.range 32).filter (fun d => (Tbl.getD s.mb.bells (dir + d) {}).state != .idle)).foldl setBit 0

/-- The objects whose value is formed when it is read, with what forms it for a member. -/
def formedObjects : List (Ob × (State → Nat → Bytes)) := [
  (Dict.deviceName, fun s _ => s.deviceName),
  (Dict.dapPending, fun s _ => leBytes 2 s.dap.pending.length),
  (Dict.timeNow, fun s _ => time80Bytes s.nowNs),
  (Dict.pathDelay, fun s _ => leBytes 4 s.pathDelay),
  (Dict.slaveLane, fun s _ => leBytes 2 (s.slaveLane.getD 0xFFFF)),
  (Dict.shutterNext, fun s c => match s.nextFire c with
    | some t => time80Bytes t
    | none => openBytes s.free 10),
  (Dict.satCount, fun s _ => leBytes 4 s.satCount),
  (Dict.cmdOpen, fun s _ => leBytes 4 s.cnt.cmds.length),
  (Dict.lastDieSnapshot, fun s _ => match s.snap.die.last with
    | some p => p.dieBytes
    | none => openBytes s.free 4096),
  (Dict.lastEngineSnapshot, fun s _ => match s.snap.eng.last with
    | some p => p.engBytes
    | none => openBytes s.free (32 + 128 * s.enginesNow)),
  (Dict.linkTable, fun _ _ => linkTable),
  (Dict.curProgramId, fun s _ => leBytes 2 (s.programAt s.frameNow).id),
  (Dict.curMode, fun s _ => leBytes 1 (bit (s.programAt s.frameNow).live)),
  (Dict.curFields, fun s _ => fitBytes 4096 (((s.programAt s.frameNow).fields.map FieldDesc.bytes).flatten)),
  (Dict.sheet, fun s _ => s.sheetSelected),
  (Dict.baselines, fun s _ => s.baselineBytes),
  (Dict.condCells, fun s _ => s.cellBytes),
  (Dict.livenessTable, fun s _ => s.livenessTable),
  (Dict.memberTable, fun s _ => s.memberTable),
  (Dict.barrierMissing, fun s _ => s.barrierMissingBytes),
  (Dict.ackMissing, fun s _ => chunkBytes (s.ackMissing (s.rd Dict.ackSelect))),
  (Dict.tagsOpen, fun s _ => leBytes 2 s.ev.tags.length),
  (Dict.digestRing, fun s _ => s.digestRing),
  (Dict.fEngine, fun s _ => ((List.range 2048).map (fun e => leBytes 2 (s.fraction e))).flatten),
  (Dict.bracketOpen, fun s _ => leBytes 1 s.ev.bracket.length),
  (Dict.boundTerms, fun s _ => s.boundTerms),
  (Dict.testTable, fun s _ => s.testTable),
  (Dict.shardsOpen, fun s _ => leBytes 1 s.ev.shards.length),
  (Dict.srcSrcState, fun s n => leBytes 1 (s.trc n).state),
  (Dict.srcNextLseq, fun s n => leBytes 2 (s.trc n).lseq),
  (Dict.route, fun s _ => leBytes 1 (if s.anyUp then bit (s.routeBuddy s.frameNow) else 0xFF)),
  (Dict.routeTable, fun s _ => s.routeTableBytes),
  (Dict.lanesUp, fun s _ => leBytes 8 (((List.range s.ports).filter s.laneUp).foldl setBit 0)),
  (Dict.negImage, fun s _ => s.negImage),
  (Dict.mbLevels, fun s _ => leBytes 2 s.mbLevels),
  (Dict.mbPending, fun s _ => leBytes 4 (s.bellsPending 32)),
  (Dict.exportData, fun s _ => s.exportData),
  (Dict.lanePortState, fun s p => leBytes 1 (s.ptpPortState p)),
  (Dict.grpGateCurrent, fun s p => s.gateCurrent p),
  (Dict.grpGateState, fun s p => leBytes 1 (s.gatesOpen p))]

/-- Is the object one of a group's, read or written at a port that does not hold them (14 R314, 16 R342)? -/
def State.elsewhere (s : State) (o : Ob) (m : Nat) : Bool := o.idx == 0x3000 && decide (0x60 ≤ o.sub) && s.groupOf m != m

/-- The value of an object in force (15 R322, R323). -/
def State.value (s : State) (o : Ob) (m j : Nat) : Bytes :=
  let v := match formedObjects.find? (fun e => e.1.key 0 0 == o.key 0 0) with
    | some e => e.2 s m
    | none => if o.ty == .cmd then leBytes 1 (s.cmdCode o m) else s.stored o m j
  if s.elsewhere o m then zeros v.length else v

/-- Objects whose value may hold open parts, as many as `valueDraws` of them. -/
def openValued : List Ob := [Dict.shutterNext, Dict.lastDieSnapshot, Dict.lastEngineSnapshot, Dict.livenessTable, Dict.digestRing,
  Dict.boundTerms, Dict.testTable]

/-- Open values that forming the value of index.subindex draws at most (an engine snapshot has 262,176 bytes). -/
def State.valueDraws (s : State) (idx sub : Nat) : Nat :=
  match Dict.find? s.build s.role idx sub with
  | some (o, _, _) => if openValued.any (fun e => e.key 0 0 == o.key 0 0) then 2 ^ 20 else 0
  | none => 0

/-- The value of index.subindex in force; subindex 00 of a family reads the highest that exists (16 R337). -/
def State.readObject (s : State) (idx sub : Nat) : Bytes :=
  match Dict.find? s.build s.role idx sub with
  | some (o, m, j) => s.value o m j
  | none => leBytes 1 ((Dict.highestSub? s.build s.role idx).getD 0)

/-! ### READ (15 R322, R325) -/

/-- Longest value that a read session copies (15 R325). -/
def State.copyLimit (s : State) : Nat := if s.isDie then 8192 else 1048576

/-- Is the object write-only? -/
def State.writeOnly (s : State) (idx sub : Nat) : Bool :=
  match Dict.find? s.build s.role idx sub with
  | some (o, _, _) => s.accessOf o == .wo
  | none => false

/-- The chunks of the frozen export that a live read of [off, off + n) touches are counted in their stack's level (21 R431). -/
def State.countExport (s : State) (off n : Nat) : State :=
  (s.exportChunks.foldl (fun (t : State × Nat) c =>
    let lo := max off t.2
    let hi := min (off + n) (t.2 + c.2)
    (if lo < hi then t.1.countStack (c.1 + (lo - t.2)) (hi - lo) false else t.1, t.2 + c.2)) (s, 32)).1

/-- A READ of a value at the target: from its session, as a new session's first segment, or live. -/
def State.readBytes (s : State) (src : DapSource) (r : DapReq) : State :=
  let key := r.idx * 256 + r.sub
  let cap := readCap src
  let session := s.dap.reads.find? (fun e => e.key == key)
  match (if r.offset = 0 then none else session) with
  | some e =>
    let data := (e.data.drop r.offset).take cap
    let ended := decide (e.data.length ≤ r.offset + data.length)
    let reads := if ended then s.dap.reads.filter (fun x => x.key != key)
      else s.dap.reads.map (fun x => if x.key == key then { x with due := s.segDue } else x)
    ({ s with dap := { s.dap with reads := reads } } : State).answer src r 0 0 e.data.length data 0
  | none =>
    let v := if s.writeOnly r.idx r.sub then [] else s.readObject r.idx r.sub
    let data := (v.drop r.offset).take cap
    let s1 := { s with free := s.free + s.valueDraws r.idx r.sub }
    let s2 := if key = Dict.exportData.key 0 0 then s1.countExport r.offset data.length else s1
    let copies := decide (r.offset = 0) && decide (1024 < v.length) && decide (v.length ≤ s.copyLimit)
    let s3 := if copies then s2.openRead key v
      else if r.offset = 0 then { s2 with dap := { s2.dap with reads := s2.dap.reads.filter (fun x => x.key != key) } } else s2
    s3.answer src r 0 (bit (!copies && decide (1024 < v.length))) v.length data 0

/-- A READ of STORE_READ with OFFSET above 0 that finds no session reads the entry at STORE_CURSOR live and moves nothing. -/
def State.readStoreLive (s : State) (src : DapSource) (r : DapReq) : State :=
  match s.storeNext with
  | (none, _) => s.answer src r 0 0 0 [] 0
  | (some (off, len), _) =>
    let bytes := s.ringRead (s.rd Dict.traceStoreBase) (s.rd Dict.traceStoreSize) off len
    let data := (bytes.drop r.offset).take (readCap src)
    (s.countRing (s.rd Dict.traceStoreBase) (s.rd Dict.traceStoreSize) (off + r.offset) data.length).answer src r 0 (bit (decide (1024 < len))) len data 0

/-- A READ that has reached its target. -/
def State.serveReadReq (src : DapSource) (r : DapReq) (s : State) : State :=
  s.serveRead src r (fun s =>
    let key := r.idx * 256 + r.sub
    if key = Dict.fWindow.key 0 0 then s.readWindow src r true
    else if key = Dict.oWindow.key 0 0 then s.readWindow src r false
    else if key = Dict.storeRead.key 0 0 then
      (if r.offset = 0 then s.readStore ⟨src, r.reqId⟩
       else if s.dap.reads.any (fun e => e.key == key) then s.readBytes src r else s.readStoreLive src r)
    else s.readBytes src r)

/-! ### WRITE (15 R322, R326, R327) -/

/-- The value that a scalar WRITE carries: an open one of the type where its lengths fall under 00 R7. -/
def State.scalarValue (s : State) (o : Ob) (r : DapReq) : Nat × State :=
  let n := o.ty.bytes
  if r.offset = 0 ∧ r.data.length = n ∧ r.total = n then (ofLe r.data, s) else (s.freeVal % 2 ^ (8 * n), s.drawn)

/-- The object permits the value (00 R7): it lies in the type's range and in the object's stated range. MODE of a channel is one that
Table 02-4 permits there, and not periodic over a period in force that 02 R42 excludes; a time has less than 10^9 ns; VKIND is one
that the build takes (05 R104), PIPE_COUNT at most DEV_PIPES; POLICE_ENABLE has no bits but 2, 3, 5 and 7 (Table 14-10). -/
def State.permits (s : State) (o : Ob) (m v : Nat) : Bool :=
  !(o.ty == .bool && decide (1 < v)) && !(decide (o.hi ≠ 0) && (decide (v < o.lo) || decide (o.hi < v))) &&
  !(o.ty == .time80 && decide (1000000000 ≤ v / 2 ^ 48 % 2 ^ 32)) &&
  (if o.key 0 0 = Dict.logSyncInterval.key 0 0 then decide (-10 ≤ toSigned 16 v) && decide (toSigned 16 v ≤ 0)
   else if o.key 0 0 = Dict.shutterMode.key 0 0 then
     (if m = 0 then v != 1 else if m = 1 then v != 2 else v != 2 || decide (100 ≤ s.rd Dict.shutterPeriod m))
   else if o.key 0 0 = Dict.grpPoliceEnable.key 0 0 then v &&& 0x53 == 0
   else if o.key 0 0 = Dict.slotVkind.key 0 0 then decide (v ≤ if s.isDie then 1 else 3)
   else if o.key 0 0 = Dict.slotPipeCount.key 0 0 then decide (v ≤ s.rd Dict.devPipes)
   else true)

/-- A value that the object does not permit falls under 00 R7: an open value is stored (log entry 27). -/
def State.valueFor (s : State) (o : Ob) (m v : Nat) : Nat × State :=
  let bad := !s.permits o m v
  if bad then (s.freeVal % 2 ^ (8 * o.ty.bytes), s.drawn) else (v, s)

/-- What follows a stored value: the object's own effect, a configuration entry, persistence. -/
def State.written (s : State) (o : Ob) (m j old : Nat) : State :=
  let s1 := (s.afterWrite o.idx o.sub m j old).afterConfig o.idx o.sub m
  if s1.accessOf o == .rwp then s1.persist else s1

/-- A scalar RW or RWP object takes a written value. -/
def State.writeScalar (s : State) (o : Ob) (m j : Nat) (r : DapReq) : State :=
  if s.elsewhere o m then s
  else
    let a := s.scalarValue o r
    let b := a.2.valueFor o m a.1
    ((b.2.keepOld o m).wr o b.1 m j).written o m j (s.rd o m j)

/-- DOMAIN objects made of entries with reserved fields: what an entry keeps of each of its bytes, and which bits always read 1
(00 R14, Tables 04-2, 07-1, 09-4, 14-3). -/
def entryMasks : List (Ob × Bytes × Bytes) := [
  (Dict.dieDesc, [0xFF, 0xFF, 0xFF, 0xFF, 0xFF, 0xFF, 0xFF, 0xFF, 0, 0xFC, 0xFF, 0xFC, 0xFF, 0xFF, 0xFF, 0xFF], []),
  (Dict.engineDesc, [0xFF, 0xFF, 0xFF, 0xFF, 0xFF, 0xFF, 0xFF, 0xFF, 0, 0xFC, 0xFF, 0xFC, 0xFF, 0xFF, 0xFF, 0xFF], []),
  (Dict.fields, [0xFF, 0xFF, 0xFF, 0xFF, 0xFF, 0xFF, 0xFF, 0xFF, 0, 0, 0, 0, 0xF0, 0xFF, 0xFF, 0xFF], []),
  (Dict.epochStage, [0, 0, 0, 0xE0, 0xFF, 0xFF, 0xFF, 0xFF], []),
  (Dict.grpGateStage, [0xFF, 0xFF, 0xFF, 0xFF, 0, 0, 0, 0xFF], [0, 0, 0, 0, 0, 0, 0, 1])]

/-- What a DOMAIN object stores of a value: reserved fields read 0 (00 R14). -/
def Ob.kept (o : Ob) (bs : Bytes) : Bytes :=
  match entryMasks.find? (fun e => e.1.key 0 0 == o.key 0 0) with
  | none => bs
  | some (_, keep, ones) => bs.zipIdx.map (fun b => (b.1 &&& keep.getD (b.2 % keep.length) 0) ||| ones.getD (b.2 % keep.length) 0)

/-- Policer parameters that leave CIR at most PIR and CBS at most PBS (Table 14-10). -/
def policerOk (b : Bytes) : Bool := decide (leAt b 0 8 ≤ leAt b 12 8) && decide (leAt b 8 4 ≤ leAt b 20 4)

/-- The DOMAIN object permits the value (00 R7): its length, and the ranges stated for its words. FIELDS takes any multiple of 16 bytes
(07 R129), the gate stage and the epoch stage whole entries. -/
def Ob.takes (o : Ob) (whole : Bytes) : Bool :=
  let n := whole.length
  if o.key 0 0 = Dict.fields.key 0 0 then n % 16 == 0 && decide (n ≤ 4096)
  else if o.key 0 0 = Dict.grpGateStage.key 0 0 then n % 8 == 0 && decide (n ≤ 512)
  else if o.key 0 0 = Dict.epochStage.key 0 0 then n % 8 == 0
  else if o.key 0 0 = Dict.grpQuanta.key 0 0 then n == 28 && (List.range 7).all (fun i => decide (2048 ≤ leAt whole (4 * i) 4) && decide (leAt whole (4 * i) 4 ≤ 1048576))
  else if o.key 0 0 = Dict.grpPolicer.key 0 0 then n == 24 && policerOk whole
  else o.len == 0 || n == o.len

/-- What a DOMAIN object stores of a whole written value, padded with 0 to its size; a value that it does not permit leaves all of its
bytes open (00 R7, log entry 27). -/
def State.domainFor (s : State) (o : Ob) (whole : Bytes) : Bytes × State :=
  let n := if o.len = 0 then whole.length else o.len
  if o.takes whole then (o.kept (fitBytes n whole), s) else (o.kept (openBytes s.free n), { s with free := s.free + n })

/-- A DOMAIN object takes a whole written value. -/
def State.writeDomain (s : State) (o : Ob) (m j : Nat) (whole : Bytes) : State :=
  if s.elsewhere o m then s
  else
    let v := s.domainFor o whole
    ((v.2.keepOld o m).wrBytes o v.1 m j).written o m j 0

/-- A WRITE of an object with no command of its own, at its target. -/
def State.writePlain (s : State) (rq : Requester) (o : Ob) (m j : Nat) (r : DapReq) : State :=
  let ok (t : State) : State := t.answer rq.src r 0 0 0 [] 0
  if s.accessOf o == .ro then ok s
  else if o.whole then
    match s.segment rq (o.key m j) r.offset r.total r.data with
    | (.abort _, t) => t.answer rq.src r 6 0 0 [] 0
    | (.taken _ _ last whole, t) => ok (if last then t.writeDomain o m j whole else t)
  else ok (s.writeScalar o m j r)

/-- A WRITE of a scalar object that has a command of its own: lengths that fall under 00 R7 give an open value. -/
def ownScalar (o : Ob) (f : Requester → Nat → Nat → State → State) : Ob × (Requester → Nat → DapReq → State → State) :=
  (o, fun rq m r s => let v := s.scalarValue o r
                      f rq m v.1 v.2)

/-- A WRITE of a CMD object: its value is its payload, little-endian. -/
def ownCmd (o : Ob) (f : Requester → Nat → Nat → State → State) : Ob × (Requester → Nat → DapReq → State → State) :=
  (o, fun rq m r s => f rq m (ofLe r.data) s)

/-- A WRITE that is a segment of a WO object. -/
def ownBytes (o : Ob) (f : Requester → Nat → Nat → Nat → Bytes → State → State) : Ob × (Requester → Nat → DapReq → State → State) :=
  (o, fun rq m r s => f rq m r.offset r.total r.data s)

/-- A CMD value that its object does not list falls under 00 R7: an open completion code. -/
def State.openCommand (rq : Requester) (o : Ob) (s : State) : State := s.serveCmd rq o 0 (fun s => (s.drawn, s.freeVal % 254))

/-- The objects whose WRITE is a command of its own, with what serves it for a member. -/
def ownWrites : List (Ob × (Requester → Nat → DapReq → State → State)) := [
  ownScalar Dict.timeNow (fun rq _ v => State.serveTimeNow rq v),
  ownScalar Dict.dieId (fun rq _ v => State.serveDieId rq v),
  ownCmd Dict.shutterApply (fun rq m _ => State.serveShutterApply rq m),
  ownCmd Dict.clearEvents (fun rq _ _ => State.serveClearEvents rq),
  ownCmd Dict.cmdTableClear (fun rq _ _ => State.serveCmdTableClear rq),
  ownCmd Dict.descApply (fun rq _ _ => State.serveDescApply rq),
  ownBytes Dict.slotImage State.serveImage,
  ownCmd Dict.slotActivate State.serveActivate,
  ownCmd Dict.slotLoadStack (fun rq m _ => State.serveLoadStack rq m),
  ownCmd Dict.slotUnload (fun rq m _ => State.serveUnload rq m),
  ownScalar Dict.devPhase (fun rq _ v => State.serveDevPhase rq v),
  ownBytes Dict.stackWrite (fun rq _ => State.serveStackWrite rq),
  ownCmd Dict.programApply (fun rq _ _ => State.serveProgramApply rq),
  ownCmd Dict.baselineReset (fun rq _ _ => State.serveBaselineReset rq),
  ownCmd Dict.verdictClear (fun rq _ _ => State.serveVerdictClear rq),
  ownCmd Dict.epochIssue (fun rq _ _ => State.serveEpochIssue rq),
  ownCmd Dict.bcastIssue (fun rq _ _ => State.serveBcastIssue rq),
  ownCmd Dict.overlayArm (fun rq _ v => if v = 1 then State.serveOverlayArm rq else if v = 0 then State.serveOverlayDisarm rq
    else State.openCommand rq Dict.overlayArm),
  ownScalar Dict.boundEnforce (fun rq _ v => State.serveBoundEnforce rq v),
  ownCmd Dict.boundReset (fun rq _ _ => State.serveBoundReset rq),
  ownCmd Dict.testRequest (fun rq _ v => State.serveTestRequest rq v),
  ownCmd Dict.testCancel (fun rq _ v => State.serveTestCancel rq v),
  ownScalar Dict.traceEnable (fun rq _ v => State.serveTraceEnable rq v),
  ownCmd Dict.prcStart (fun rq m _ => State.servePrcStart rq m),
  ownCmd Dict.prcResume (fun rq m _ => State.servePrcResume rq m),
  ownCmd Dict.prcAbort (fun rq m _ => State.servePrcAbort rq m),
  ownCmd Dict.routeMove (fun rq _ v => State.serveRouteMove rq v),
  ownCmd Dict.recClear (fun rq _ v => if v = 0 then State.serveClearF rq else if v = 1 then State.serveClearO rq
    else if v = 2 then State.serveClearBoth rq else State.openCommand rq Dict.recClear),
  ownCmd Dict.negTake (fun rq _ _ => State.serveNegTake rq),
  ownCmd Dict.resetCmd (fun rq _ v => State.serveReset rq v),
  ownBytes Dict.keeperImage (fun rq _ => State.serveKeeperImage rq),
  ownCmd Dict.keeperUpdate (fun rq _ v => State.serveKeeperUpdate rq v),
  ownScalar Dict.journalEnable (fun rq _ v => State.serveJournalEnable rq v),
  ownCmd Dict.exportCmd (fun rq _ v => if v = 1 then State.serveExportFreeze rq else if v = 0 then State.serveExportRelease rq
    else State.openCommand rq Dict.exportCmd),
  ownScalar Dict.laneEnable (fun rq m v => State.serveLaneEnable rq m v),
  ownCmd Dict.laneRetrain (fun rq m _ => State.serveRetrain rq m),
  ownCmd Dict.grpGateApply (fun rq m _ => State.serveGateApply rq m)]

/-- A WRITE that has reached its target. -/
def State.serveWriteReq (rq : Requester) (r : DapReq) (s : State) : State :=
  match Dict.find? s.build s.role r.idx r.sub with
  | some (o, m, j) =>
    match (ownWrites.find? (fun e => e.1.key 0 0 == o.key 0 0)).map (·.2) with
    | some f => f rq m r s
    | none =>
      let whole := o.whole && s.accessOf o != .ro
      s.serveAny rq.src r (fun t => whole && t.segAborts (o.key m j) r.offset r.total)
        (fun t => whole && t.segBusy (o.key m j) r.offset r.total r.data.length) (fun s => s.writePlain rq o m j r)
  | none => s.serveRead rq.src r (fun s => s.answer rq.src r 0 0 0 [] 0)

/-! ### ABORT (15 R326) and other operations -/

/-- The write session of an object ends by SEGMENT_ABORT. -/
def State.abortWrite (s : State) (key : Nat) : State :=
  if s.dap.writes.any (fun w => w.key == key) then
    let s1 := s.dropWrite key
    match (List.range s.slotCount).find? (fun k => Dict.slotImage.key k 0 == key) with
    | some k => s1.imageAborted k
    | none => s1
  else s

/-- An ABORT that has reached its target. -/
def State.serveAbortReq (src : DapSource) (r : DapReq) (s : State) : State :=
  s.serveRead src r (fun s => (s.abortWrite (r.idx * 256 + r.sub)).answer src r 0 0 0 [] 0)

/-- A request that has reached its target; an operation that Table 15-2 reserves gets an open status (00 R7). -/
def State.serveRequest (src : DapSource) (r : DapReq) (s : State) : State :=
  match r.op with
  | 1 => s.serveReadReq src r
  | 2 => s.serveWriteReq ⟨src, r.reqId⟩ r
  | 3 => s.serveAbortReq src r
  | _ => (s.touch.drawn).answer src r (s.freeVal % 256) 0 0 [] 0

end Sys2Proof.Machine
end

