-- ==== Sys2Proof/Machine/Dap.lean ====
section
/-! DEFINITION. Requests on their way, responses, sessions and command actions (15 R317 to R323, R325, R326). -/

namespace Sys2Proof.Machine

open Sys2Proof

/-! ### Routing (15 R320, R321) -/

/-- "X routes D": the route table names a port for the die; at a leaf, it is the leaf's own die ID. -/
def State.routesDie (s : State) (die : Nat) : Bool :=
  if s.isDie then s.rd Dict.dieId == die else (s.portOf die s.frameNow).isSome

/-- A REQ_ID that no pending entry uses. -/
def Dap.freshId (d : Dap) : Nat :=
  (((List.range (d.pending.length + 1)).map (fun i => (d.nextId + i) % 65536)).find? (fun i => d.pending.all (fun e => e.id != i))).getD 0

/-- A request is forwarded on a group, under a pending entry of its own; it is answered BUSY where the table or the class 2
queue has no room, and ROUTE_LOST where the group is not UP. A chip in its boot ROM forwards none (19 R403). -/
def State.forward (s : State) (src : DapSource) (r : DapReq) (g : Nat) : State :=
  if s.bootTray then s
  else if !s.groupUp g then s.answerLost src r 2
  else if 4096 ≤ s.dap.pending.length then s.answerBusy src r (s.rdAt Dict.retryAfter)
  else
    let id := s.dap.freshId
    match s.offerRequest g ({ r with reqId := id } : DapReq).bytes with
    | (some retry, s1) => s1.answerBusy src r retry
    | (none, s1) =>
      let due := s.time.now + s.rd Dict.pendTimeout * nsUnits
      let e : DapPending := { id := id, source := src, reqId := r.reqId, port := g, idx := r.idx, sub := r.sub, op := r.op, due := due }
      { s1 with dap := { s1.dap with pending := s1.dap.pending ++ [e], nextId := (id + 1) % 65536 } }

/-- A request of this instance's or of another (15 R320). -/
def State.dapRoute (s : State) (src : DapSource) (r0 : DapReq) : State :=
  let self := decide (r0.tlevel = 7) || (decide (r0.tlevel = 5) && s.role == Role.root) || (decide (r0.tlevel = s.dapLevel) && s.routesDie r0.tdie)
  if self then
    match r0.path with
    | [] => s.serveRequest src { r0 with tlevel := 7 }
    | p :: rest =>
      let r : DapReq := { r0 with tlevel := 7, path := rest }
      if s.isDown p && s.groupUp (s.groupOf p) then s.forward src r (s.groupOf p) else s.answerLost src r 1
  else if r0.tlevel < s.dapLevel ∧ s.routesDie r0.tdie = true then
    s.forward src r0 (s.groupOf ((s.portOf r0.tdie s.frameNow).getD 0))
  else if s.role == Role.root || s.isDie then s.answerLost src r0 1
  else match s.outNow with
    | some g => if s.groupUp g then s.forward src r0 g else s.answerLost src r0 2
    | none => s.answerLost src r0 2

/-- Does the port answer at an address: MGMT_ADDR (all 0: none) or its link-local address? -/
def Dap.answersAt (d : Dap) (addr : Bytes) : Bool :=
  (addr == d.addr && !(d.addr.all (· == 0))) || addr == linkLocal d.mac

/-- The management port accepts a request: a plain datagram for one of its addresses on DAP_UDP_PORT (15 R317). -/
def Dap.accepts (d : Dap) (via : Datagram) : Bool := via.plain && via.port == d.udpPort && d.answersAt via.dest

/-- A request comes in: from the mailbox, on a lane, or at the management port, in a datagram (15 R317, R319). -/
def State.takeRequest (s : State) (src : DapSource) (r : DapReq) (via : Datagram) : State :=
  match src with
  | .mailbox =>
    if !s.isDie then s
    else if r.tlevel = 7 ∧ r.path = [] then s.touch.serveRequest src r
    else s.touch.answerLost src r 1
  | .lane p => if !s.laneUp p then s else s.touch.dapRoute src r
  | .mgmt _ _ =>
    if !s.isTrayChip then s
    else if via.bad then s.bumpSat Dict.mgmtDiscards
    else if !s.dap.accepts via then s.touch
    else s.touch.dapRoute src r

/-- DAP_READ (15 R320, R325). -/
def execDapRead (dt : Nat) (src : DapSource) (r : DapReq) (via : Datagram) (s : State) : Host.Outcome State Fault Refusal :=
  .next (s.fromSource dt src via.bad (.dapRead 0 src r via) (fun s => s.takeRequest src { r with op := 1 } via))

/-- DAP_ABORT (15 R326). -/
def execDapAbort (dt : Nat) (src : DapSource) (r : DapReq) (via : Datagram) (s : State) : Host.Outcome State Fault Refusal :=
  .next (s.fromSource dt src via.bad (.dapAbort 0 src r via) (fun s => s.takeRequest src { r with op := 3 } via))

/-- A response that arrives on port p is matched to its entry by the port and its REQ_ID. -/
def State.takeResponse (s : State) (p : Nat) (r : DapResp) : State :=
  let mine (e : DapPending) : Bool := e.port == s.groupOf p && e.id == r.reqId
  match s.dap.pending.find? mine with
  | some e =>
    let s1 := { s with dap := { s.dap with pending := s.dap.pending.filter (fun x => !mine x) } }
    s1.respond e.source ({ r with reqId := e.reqId } : DapResp).bytes
  | none => if s.isTrayChip then s.bumpSat Dict.orphanResponses else s

/-- DAP_RESPONSE (15 R321). -/
def execDapResponse (dt p : Nat) (r : DapResp) (s : State) : Host.Outcome State Fault Refusal :=
  .next (s.fromLane dt p 2 (.dapResponse 0 p r) (fun s => if !s.laneUp p then s else s.touch.takeResponse p r))

/-- PEND_TIMEOUT (15 R321): entries that are PEND_TIMEOUT old are answered ROUTE_LOST with reason 0x03. -/
def execPendTimeout (dt : Nat) (s : State) : Host.Outcome State Fault Refusal :=
  .next (s.core dt (fun s => s.losePendings (fun e => decide (e.due ≤ s.time.now)) 3))

/-! ### Sessions and actions that wait (15 R323, R325, R326) -/

/-- SEG_TIMEOUT (15 R325, R326): sessions that have seen no segment for SEG_TIMEOUT end; later segments of a write session are
answered SEGMENT_ABORT. -/
def execSegTimeout (dt : Nat) (s : State) : Host.Outcome State Fault Refusal :=
  .next (s.core dt (fun s =>
    let s1 := { s with dap := { s.dap with reads := s.dap.reads.filter (fun e => decide (s.time.now < e.due)) } }
    (s.dap.writes.filter (fun w => decide (w.due ≤ s.time.now))).foldl (fun t w => t.abortWrite w.key) s1))

/-- The response to the write that began an action. -/
def State.answerAction (s : State) (a : CmdAction) (code : Nat) : State :=
  match a.waiting with
  | some (src, reqId) => s.answer src { op := 2, reqId := reqId, idx := a.idx, sub := a.sub, tlevel := 7 } 0 code 0 [] 0
  | none => s

/-- CMD_IN_PROGRESS (15 R323): actions that have not completed 1 ms after they began are answered IN_PROGRESS. -/
def execCmdInProgress (dt : Nat) (s : State) : Host.Outcome State Fault Refusal :=
  .next (s.core dt (fun s =>
    let due (a : CmdAction) : Bool := a.waiting.isSome && a.code.isNone && s.passed a.since 1000000
    (s.dap.actions.filter due).foldl (fun t a => t.answerAction a 0xFF)
      { s with dap := { s.dap with actions := s.dap.actions.map (fun a => if due a then { a with waiting := none } else a) } }))

/-- The write that waited for an action of an object begins its own; it was counted in SERVED when it came. -/
def State.nextHeld (s : State) (key : Nat) : State :=
  match s.dap.held.find? (fun h => h.1 == key) with
  | none => s
  | some h =>
    let s1 := { s with dap := { s.dap with held := s.dap.held.erase h } }
    let r : DapReq := { op := 2, reqId := h.2.2.2, idx := key / 256, sub := key % 256, data := leBytes 8 h.2.1, total := 8 }
    let s2 := State.serveWriteReq ⟨h.2.2.1, h.2.2.2⟩ r { s1 with dap := { s1.dap with queue := [] } }
    ({ s2 with dap := { s2.dap with queue := s.dap.queue } } : State).wr Dict.served (s.rd Dict.served)

/-- An action has completed: its code is readable, its writer is answered, and a write that waited begins. -/
def State.completeAction (s : State) (a : CmdAction) : State :=
  let code := a.code.getD 0
  let s1 := { s with cmdCodes := Tbl.set s.cmdCodes a.key code, dap := { s.dap with actions := s.dap.actions.erase a } }
  (s1.answerAction a code).nextHeld a.key

/-- CMD_COMPLETE (15 R323). -/
def execCmdComplete (dt : Nat) (s : State) : Host.Outcome State Fault Refusal :=
  .next (s.core dt (fun s => (s.dap.actions.filter (·.code.isSome)).foldl State.completeAction s))

/-! ### ICMPv6 at the management port (15 R317) -/

/-- Sum of a byte string's 16-bit big-endian words in ones' complement. -/
def onesSum : Bytes → Nat → Nat
  | [], acc => acc
  | [a], acc => acc + a.toNat * 256
  | a :: b :: t, acc => onesSum t (acc + a.toNat * 256 + b.toNat)

/-- The ones'-complement sum folded to 16 bits. -/
def foldOnes (v : Nat) : Nat := let w := v % 65536 + v / 65536
                                w % 65536 + w / 65536

/-- An ICMPv6 message with its checksum over the IPv6 pseudo-header (PRESUMED from RFC 4443; log entry 25). -/
def icmpMessage (src dst : Bytes) (typ : Nat) (body : Bytes) : Bytes :=
  let plain := beBytes 1 typ ++ [0, 0, 0] ++ body
  let sum := onesSum (src ++ dst ++ beBytes 4 plain.length ++ [0, 0, 0, 58] ++ plain) 0
  beBytes 1 typ ++ [0] ++ beBytes 2 (65535 - foldOnes sum) ++ body

/-- An answer of the management port to an ICMPv6 message, unless its MAC address is all 0. -/
def State.icmpAnswer (s : State) (addr : Bytes) (bad : Bool) (msg : Bytes) : State :=
  if !s.isTrayChip then s
  else if bad then s.bumpSat Dict.mgmtDiscards
  else if s.dap.mac.all (· == 0) || !s.dap.answersAt addr then s.touch
  else s.touch.emit (.icmp msg)

/-- NEIGHBOR_SOLICITATION (15 R317): a solicitation from `peer` for the address `target` is answered with the port's MAC
address. -/
def execNeighborSolicitation (dt : Nat) (peer target : Bytes) (bad : Bool) (s : State) : Host.Outcome State Fault Refusal :=
  .next (s.fromMgmt dt bad (.neighborSolicitation 0 peer target bad) (fun s =>
    let nobody := peer.all (· == 0)
    let dst : Bytes := if nobody then [0xFF, 2, 0, 0, 0, 0, 0, 0, 0, 0, 0, 0, 0, 0, 0, 1] else peer
    s.icmpAnswer target bad (icmpMessage target dst 136 ([if nobody then 0x20 else 0x60, 0, 0, 0] ++ target ++ [2, 1] ++ s.dap.mac))))

/-- ECHO_REQUEST (15 R317): an echo request from `peer` to the address `addr`; `body` is its identifier, sequence number and
data. -/
def execEchoRequest (dt : Nat) (peer addr body : Bytes) (bad : Bool) (s : State) : Host.Outcome State Fault Refusal :=
  .next (s.fromMgmt dt bad (.echoRequest 0 peer addr body bad) (fun s => s.icmpAnswer addr bad (icmpMessage addr peer 129 body)))

end Sys2Proof.Machine
end

