-- ==== Sys2Proof/Machine/Mailbox.lean ====
section
/-! DEFINITION. The host register port and the mailbox (18 R367 to R369, R379 to R386). -/

namespace Sys2Proof.Machine

open Sys2Proof

/-- Words that a message of so many bytes fills (18 R380). -/
def wordsOf (bytes : Nat) : Nat := ceilDiv bytes 4

/-- The words of a message (18 R319, R380): byte n is byte n mod 4 of word n / 4. -/
def messageWords (bs : Bytes) : List Nat := (List.range (wordsOf bs.length)).map (fun i => leAt bs (4 * i) 4)

/-- A request of the host on Uhlyr-D's register port: it waits behind HR_REQ_READY while the core sleeps or a reset is in progress (18
R367, 19 R391). -/
def State.onPort (s : State) (dt : Nat) (i : Instr) (f : State → State) : State :=
  s.fromHost dt 3 i (fun s => if s.isDie then f s.touch else s)

/-- The response to a write that was accepted (18 R367). -/
def State.accepted (s : State) : State := s.emit (.hostResponse 0 false)

/-! ### Host to block -/

/-- A host write of H2B_DATA (18 R379). -/
def State.h2bWord (s : State) (value : Nat) : State :=
  if 16 ≤ s.mb.h2b.length then ((s.emit (.hostResponse 0 true)).bumpSat Dict.mbBusErrors).setIrq irqBusError
  else (s.setMb { s.mb with h2b := s.mb.h2b ++ [value % 2 ^ 32] }).accepted

/-- H2B_DATA (18 R379). -/
def execH2bData (dt value : Nat) (s : State) : Host.Outcome State Fault Refusal := .next (s.onPort dt (.h2bData 0 value) (fun s => s.h2bWord value))

/-- A DAP request read from its bytes (Table 15-1); none where the bytes are no request. -/
def DapReq.read? (bs : Bytes) : Option DapReq :=
  let v := ofLe (bs.take 32)
  if bs.length < 32 ∨ fieldOf v 255 248 ≠ 1 ∨ fieldOf v 247 246 ≠ 0 then none
  else some {
    op := fieldOf v 245 240, reqId := fieldOf v 239 224, idx := fieldOf v 223 208, sub := fieldOf v 207 200
    tlevel := fieldOf v 183 181, tdie := fieldOf v 180 164
    path := (List.range (fieldOf v 163 160)).map (fun i => fieldOf v (8 * i + 119) (8 * i + 112))
    offset := fieldOf v 95 64, total := fieldOf v 63 32, data := (bs.drop 32).take (fieldOf v 111 96) }

/-- TEARDOWN_DONE names its job (18 R384); for a job that is not being torn down JOB_STATE is open (00 R7). -/
def State.teardownNamed (s : State) (job : Nat) : State :=
  if s.bar.leaf.teardown.any (fun t => t.1 == job) then s.teardownDone else (s.wr Dict.jobState (s.freeVal % 4)).drawn

/-- A message of the host is acted on (Table 18-8), and its acknowledge word with RETCODE 0 (18 R381): a doorbell or kind that is not
listed, or bytes that are no request, leave the acknowledge word open (00 R7). -/
def State.h2bMessage (s : State) (door kind : Nat) (bs : Bytes) : Nat × State :=
  let misuse : Nat × State := (s.freeVal % 2 ^ 32, s.drawn)
  if door = 0 ∧ kind = 0 then
    match DapReq.read? bs with
    | some r => (door, s.takeRequest .mailbox r {})
    | none => misuse
  else if door = 1 ∧ kind = 4 then (door, s.teardownNamed (leAt bs 0 2))
  else if door = 2 ∧ kind = 0x11 then (door, s.testDone (fieldOf (leAt bs 0 4) 26 16) (leAt bs 0 2) (leAt bs 4 2))
  else misuse

/-- Words that no ring has claimed. -/
def State.unclaimed (s : State) : List Nat := s.mb.h2b.drop ((s.mb.claims.map (·.words)).sum)

/-- The claim of a message rung now: read within 0.5 us, acknowledged within 1 us, both in ring order (18 R379, R381). -/
def State.newClaim (s : State) (door words ackWord : Nat) : H2bClaim :=
  let now := s.time.now
  let past := s.mb.claims.getLast?
  let r := max (now + Config.mailboxTime 0 now % (500 * nsUnits + 1)) ((past.map (·.readAt)).getD 0)
  let a := max (now + Config.mailboxTime 1 now % (1000 * nsUnits + 1)) ((past.map (·.ackAt)).getD 0)
  { door := door, words := words, readAt := r, ackAt := max r a, word := ackWord }

/-- A ring of a host-to-block doorbell (18 R380, Table 18-7): the doorbell is RUNG, and the block acts on the message, reads its words
and acknowledges it (log entry 34). A ring that finds fewer words than it claims, or its doorbell not IDLE, leaves the doorbell, the
queue and the acknowledge word open (00 R7). -/
def State.h2bRing (s : State) (word : Nat) : State :=
  let d := fieldOf word 4 0
  let kind := fieldOf word 31 24
  let n := wordsOf (fieldOf word 22 16)
  if s.unclaimed.length < n || (s.bell d).state != .idle then
    let open_ : Bell := { state := if Config.freeNat s.free % 2 = 0 then .idle else .rung, since := s.time.now, kind := kind }
    let left := s.mb.h2b.drop (Config.freeNat (s.free + 1) % 17)
    let w := Config.freeNat (s.free + 2) % 2 ^ 32
    ((({ s with free := s.free + 3 } : State).setMb { s.mb with h2b := left, claims := [], h2bAck := w }).wr Dict.mbLastAck w).setBell d open_
  else
    let bs := (((s.unclaimed.take n).map (leBytes 4)).flatten).take (fieldOf word 22 16)
    let s1 := s.setBell d { state := .rung, since := s.time.now, kind := kind }
    let r := s1.h2bMessage d kind bs
    r.2.setMb { r.2.mb with claims := r.2.mb.claims ++ [s1.newClaim d n r.1] }

/-- H2B_RING (18 R380). -/
def execH2bRing (dt word : Nat) (s : State) : Host.Outcome State Fault Refusal := .next (s.onPort dt (.h2bRing 0 word) (fun s => (s.h2bRing word).accepted))

/-! ### Block to host -/

/-- The waiting message that goes next: doorbell 1, then 2, then 0, among those whose doorbell is IDLE (18 R383). -/
def State.nextMessage (s : State) : Option MbMsg :=
  [1, 2, 0].findSome? (fun d => if (s.bell (32 + d)).state == .idle then s.mb.waiting.find? (fun m => m.door == d) else none)

/-- A waiting message is rung once the queue has room for all its words. -/
def State.ringNext (s : State) : State :=
  match s.nextMessage with
  | none => s
  | some m =>
    let words := messageWords m.bytes
    if 16 < s.mb.b2h.length + words.length then s
    else ((s.setMb { s.mb with b2h := s.mb.b2h ++ words, rung := s.mb.rung ++ [m], waiting := s.mb.waiting.erase m }).setBell (32 + m.door)
      { state := .rung, since := s.time.now, kind := m.kind }).responseLeft m.bytes s.time.now

/-- B2H_RING (18 R383). -/
def execB2hRing (dt : Nat) (s : State) : Host.Outcome State Fault Refusal :=
  .next (s.core dt (fun s => if s.isDie then s.ringNext else s))

/-- Words of the messages rung after a doorbell's message. -/
def State.wordsAfter (s : State) (door : Nat) : Nat :=
  (((s.mb.rung.dropWhile (fun m => m.door != door)).drop 1).map (fun m => wordsOf m.bytes.length)).sum

/-- A host acknowledgement (18 R381, R384). One that names a doorbell that is not pending leaves that doorbell open, and one that
comes before its message has been read leaves the words still held open (00 R7). -/
def State.b2hAcked (s : State) (word : Nat) : State :=
  let d := word % 32
  let ret := word / 65536 % 65536
  let b := s.bell (32 + d)
  if b.state == .idle then
    ({ s with free := s.free + 2 } : State).setBell (32 + d)
      { state := if Config.freeNat s.free % 2 = 0 then .idle else .rung, since := s.time.now, kind := Config.freeNat (s.free + 1) % 256 }
  else
    let early := decide (s.wordsAfter d < s.mb.b2h.length)
    let s0 : State := if early then { s with
        free := s.free + 16, mb := { s.mb with b2h := (List.range s.mb.b2h.length).map (fun i => Config.freeNat (s.free + i) % 2 ^ 32) } }
      else s
    let s1 := (s0.setMb { s0.mb with rung := s0.mb.rung.filter (fun m => m.door != d) }).setBell (32 + d) {}
    let s2 := if ret = 0 then s1 else s1.raiseO recMbRetcode (packBits [(1, 0), (5, d), (8, b.kind), (16, ret), (98, 0)])
    if d = 1 then s2.delivered b.kind else s2

/-- B2H_ACK (18 R381). -/
def execB2hAck (dt word : Nat) (s : State) : Host.Outcome State Fault Refusal := .next (s.onPort dt (.b2hAck 0 word) (fun s => (s.b2hAcked word).accepted))

/-! ### Timeouts, interrupts, registers -/

/-- MB_TIMEOUT (18 R382): doorbells rung MB_TIMEOUT ago and not acknowledged. -/
def execMbTimeout (dt : Nat) (s : State) : Host.Outcome State Fault Refusal :=
  .next (s.core dt (fun s =>
    (s.mb.bells.filter (fun e => e.2.state == .rung && s.passed e.2.since (s.rd Dict.mbTimeout))).foldl State.bellLate s))

/-- A host write of IRQ_STATUS (18 R369). -/
def State.irqWrite (s : State) (value : Nat) : State := s.setMb { s.mb with irqStatus := irqCleared s.mb.irqStatus value }

/-- IRQ_STATUS_WRITE (18 R369). -/
def execIrqStatusWrite (dt value : Nat) (s : State) : Host.Outcome State Fault Refusal := .next (s.onPort dt (.irqStatusWrite 0 value) (fun s => (s.irqWrite value).accepted))

/-- B2H_HEAD: the descriptor of the oldest unacknowledged message (Table 18-2). -/
def State.b2hHead (s : State) : Nat :=
  match s.mb.rung with
  | [] => 0
  | m :: _ => packBits [(8, m.kind), (1, 0), (7, m.bytes.length), (1, 1), (10, 0), (5, m.door)]

/-- What a host read at an offset returns (Table 18-2); 0 at an unlisted or write-only one. -/
def State.hostRegister (s : State) (offset : Nat) : Nat :=
  match offset with
  | 0x000 => 0x55440000 + s.rd Dict.dictVersion
  | 0x004 => s.irqStatus
  | 0x008 => s.mb.irqEnable
  | 0x00C => s.dbMask
  | 0x018 => s.mb.h2bAck
  | 0x01C => s.mb.b2h.headD 0
  | 0x020 => s.b2hHead
  | 0x028 => s.mbLevels
  | 0x02C => s.bellsPending 0
  | 0x030 => s.bellsPending 32
  | _ => 0

/-- A host read at an offset: its value is returned, and a read of B2H_DATA removes the word (18 R367, R368). -/
def State.hostRead (s : State) (offset : Nat) : State :=
  (if offset = 0x01C then s.setMb { s.mb with b2h := s.mb.b2h.drop 1 } else s).emit (.hostResponse (s.hostRegister offset) false)

/-- B2H_DATA (18 R367, R368): the host reads B2H_DATA. -/
def execB2hData (dt : Nat) (s : State) : Host.Outcome State Fault Refusal :=
  .next (s.onPort dt (.b2hData 0) (fun s => s.hostRead 0x01C))

/-- A host write at an offset (Table 18-2), with its response; a write at an unlisted or read-only offset has no effect. -/
def State.hostWrite (s : State) (offset value : Nat) : State :=
  match offset with
  | 0x004 => (s.irqWrite value).accepted
  | 0x008 => (s.setMb { s.mb with irqEnable := value % 2 ^ 32 }).accepted
  | 0x00C => (s.wr Dict.mbMask value).accepted
  | 0x010 => s.h2bWord value
  | 0x014 => (s.h2bRing value).accepted
  | 0x024 => (s.b2hAcked value).accepted
  | _ => s.accepted

/-- OBJECT_WRITE (15 R322, 18 R368): a DAP WRITE, a damaged management frame, or a host access to a
register that has no command of its own. -/
def execObjectWrite (dt : Nat) (w : ObjWrite) (s : State) : Host.Outcome State Fault Refusal :=
  .next (match w with
    | .dap src r via => s.fromSource dt src via.bad (.objectWrite 0 w) (fun s => s.takeRequest src { r with op := 2 } via)
    | .damaged => s.fromMgmt dt true (.objectWrite 0 w) (fun s => if s.isTrayChip then s.bumpSat Dict.mgmtDiscards else s)
    | .register offset value => s.onPort dt (.objectWrite 0 w) (fun s => s.hostWrite offset value)
    | .readRegister offset => s.onPort dt (.objectWrite 0 w) (fun s => s.hostRead offset))

end Sys2Proof.Machine
end

