-- ==== Sys2Proof/Machine/Shutter.lean ====
section
/-! DEFINITION. A slot of a shutter channel comes due (02 R41, R45 to R48), and what a frame's pulse starts. -/

namespace Sys2Proof.Machine

open Sys2Proof

/-- No vector of a die's engine frame waits in ENGINE_SLOT's queue. -/
def State.engDrained (s : State) (die frame : Nat) : Bool :=
  match s.engineSlot? with
  | some k => !(s.dslot k).queue.any (fun v => v.vkind == 1 && v.dieId == die && v.frame == frame)
  | none => true

/-- ENGINE_ANOMALY of the dies of which no later engine frame has been scored: their frame is settled once it lies 4,096 frames back
and no vector of it waits (08 R172; log entry 26). -/
def State.screenPulse (s : State) (n : Nat) : State :=
  if s.role != .tray then s
  else (s.ver.engMax.filter (fun e => frameGe ((n + 2 ^ 32 - 4096) % 2 ^ 32) e.2.1 && s.engDrained e.1 e.2.1)).foldl (fun t e => t.screenDie e.1) s

/-- A chip's frame N opens with its own pulse, and the first of them after a reset bounds what it holds (07 R147, R153). -/
def State.framePulse (s : State) (n due : Nat) : State :=
  if s.isDie then s
  else
    let s1 := if s.red.firstPulse.isSome then s else s.setRed { s.red with firstPulse := some n }
    s1.openFrame n (some due)

/-- A frame number f of the past, at the pulse of frame n: one that lies 2^30 frames back or more follows at that distance, so that
what has come to pass stays in the past under the order of 06 R121 (log entry 68). -/
def agedFrame (n f : Nat) : Nat :=
  let d := (n + 2 ^ 32 - f % 2 ^ 32) % 2 ^ 32
  if 2 ^ 30 ≤ d ∧ d < 2 ^ 31 then (n + 2 ^ 32 - 2 ^ 30) % 2 ^ 32 else f

/-- The switches of a slot that have come to pass stay in the past. -/
def DevSlot.aged (n : Nat) (d : DevSlot) : DevSlot :=
  { d with swap := if d.began then d.swap.map (fun x => (agedFrame n x.1, x.2)) else d.swap
           successor := d.successor.map (fun x => (agedFrame n x.1, x.2)), retired := d.retired.map (fun x => (agedFrame n x.1, x.2)) }

/-- Switch frames, the first pulse since a reset, and the frames from which programs, routes and memberships hold stay in the past; legs
older than 4,096 frames are kept no longer (13 R290). -/
def State.ageFrames (s : State) (n : Nat) : State :=
  State.keepLegs { s with
    rt := { s.rt with entries := s.rt.entries.map (fun e => { e with start := e.start.map (agedFrame n) })
                      table := s.rt.table.map (fun e => (e.1, { e.2 with next := e.2.next.map (fun x => (x.1, agedFrame n x.2)) })) }
    bar := { s.bar with changes := s.bar.changes.map (fun c => (agedFrame n c.1, c.2)) }
    dev := { s.dev with slots := s.dev.slots.map (fun e => (e.1, e.2.aged n)) }
    ver := { s.ver with engDone := s.ver.engDone.map (fun e => (e.1, agedFrame n e.2)) }
    red := { s.red with firstPulse := s.red.firstPulse.map (agedFrame n), programs := s.red.programs.map (fun e => (agedFrame n e.1, e.2)) } }

/-- What the core does at the pulse of frame n, programmed for `due` ns: objects written before it take effect, snapshots are
captured, slots switch, programs come into force, the frame opens, liveness is checked, routes switch, a negative is taken. -/
def State.coreFrame (s : State) (n due : Nat) : State :=
  let s1 := (((s.latchObjects.descPulse.capturePulse n due).engineDecision n).verdictPulse.reachFrame n).journalPrograms n
  ((((((s1.routePulse n).framePulse n due).coverAgain).livePulse n).screenPulse n).ageFrames n).negPulse

/-- The slot of a channel that is due. -/
def State.dueSlot (s : State) (c : Nat) : Option (Nat × Nat) :=
  let k := (s.chan c).next
  let sc := s.schedule c
  if s.hasSlot c k && decide (sc.due k * nsUnits ≤ s.time.now) then some ((sc.b + k) % 2 ^ 32, sc.due k) else none

/-- A due slot of a channel fires. -/
def State.shutterFire (s : State) (c : Nat) : State :=
  match s.dueSlot c with
  | none => s
  | some (n, due) =>
    let s1 := s.fireSlot c due
    if c = 0 then
      let s2 := s1.wr Dict.frameNow n
      if s2.coreActive then s2.coreFrame n due else s2
    else if c = 1 ∧ s1.coreActive = true then s1.firedRelease
    else s1

/-- SHUTTER_FIRE (02 R41): the slot of channel c that is due fires. -/
def execShutterFire (dt c : Nat) (s : State) : Host.Outcome State Fault Refusal :=
  .next (s.island dt (fun s => if c < 8 then s.shutterFire c else s))

end Sys2Proof.Machine
end

