-- ==== Sys2Proof/Machine/Wake.lean ====
section
/-! DEFINITION. The end of a wake and of a reset, and the commands that waited for it (18 R367, R370, 19 R391, R393, R396, R407). -/

namespace Sys2Proof.Machine

open Sys2Proof

/-- The state that a command leaves. -/
def State.served (s : State) (o : Host.Outcome State Fault Refusal) : State := match o with
  | .next t => t
  | _ => s

/-- A command that was held is served now. -/
def State.serveOne (s : State) (i : Instr) : State :=
  match i with
  | .objectWrite _ w => s.served (execObjectWrite 0 w s)
  | .dapRead _ src r via => s.served (execDapRead 0 src r via s)
  | .dapAbort _ src r via => s.served (execDapAbort 0 src r via s)
  | .dapResponse _ p r => s.served (execDapResponse 0 p r s)
  | .neighborSolicitation _ peer target bad => s.served (execNeighborSolicitation 0 peer target bad s)
  | .echoRequest _ peer addr body bad => s.served (execEchoRequest 0 peer addr body bad s)
  | .h2bData _ value => s.served (execH2bData 0 value s)
  | .h2bRing _ word => s.served (execH2bRing 0 word s)
  | .b2hData _ => s.served (execB2hData 0 s)
  | .b2hAck _ word => s.served (execB2hAck 0 word s)
  | .irqStatusWrite _ value => s.served (execIrqStatusWrite 0 value s)
  | .teardownDone _ job => s.served (execTeardownDone 0 job s)
  | .testDone _ engine test result => s.served (execTestDone 0 engine test result s)
  | .alarmRecord _ p r => s.served (execAlarmRecord 0 p r s)
  | .mirrorMessage _ p recs => s.served (execMirrorMessage 0 p recs s)
  | .leafJournalMessage _ p entries => s.served (execLeafJournalMessage 0 p entries s)
  | .digestRecord _ p d => s.served (execDigestRecord 0 p d s)
  | .mismatchNotice _ p suspect => s.served (execMismatchNotice 0 p suspect s)
  | .offloadUnit _ p bytes => s.served (execOffloadUnit 0 p bytes s)
  | .arrival _ p job barrier time latestDie dies => s.served (execArrival 0 p job barrier time latestDie dies s)
  | .release _ p job barrier epoch level reissue tRel latestDie => s.served (execRelease 0 p job barrier epoch level reissue tRel latestDie s)
  | .bcast _ p job tree seq epoch level reissue op payload => s.served (execBcast 0 p job tree seq epoch level reissue op payload s)
  | .bcastAck _ p job tree seq dies => s.served (execBcastAck 0 p job tree seq dies s)
  | .hopAck _ p typ job id seq => s.served (execHopAck 0 p typ job id seq s)
  | .epochSegment _ p epoch level reissue firstFrame seg segs resync entries =>
    s.served (execEpochSegment 0 p epoch level reissue firstFrame seg segs resync entries s)
  | .reductionRecord _ p r => s.served (execReductionRecord 0 p r s)
  | .centreRecord _ p c => s.served (execCentreRecord 0 p c s)
  | .featureFrame _ p f => s.served (execFeatureFrame 0 p f s)
  | .dataFrame _ p _ _ _ _ _ (some (orig, r)) => s.takeRelay p orig r
  | _ => s

/-- The commands that were held are served in the order in which they came, and the command-event port takes what the host offers. -/
def State.serveHeld (s : State) : State :=
  let t := s.parked.foldl State.serveOne { s with parked := [] }
  if t.isDie then t.ceServe else t

/-- LOGIC_READY (19 R393): the last step of a wake; a wake from DIM takes this step only. What was held for the core is served. -/
def execLogicReady (dt : Nat) (s : State) : Host.Outcome State Fault Refusal :=
  .next (s.island dt (fun s =>
    match s.pw.waking with
    | none => s
    | some w =>
      let d := min 65535 ((s.time.now - s.pw.stepSince) / (100 * nsUnits))
      if s.pw.wakeFrom = 2 then (if s.pw.steps.length = 3 then (s.woken w 2 (s.pw.steps ++ [d])).serveHeld else s)
      else (s.woken w 1 [0, 0, 0, d]).serveHeld))

/-- RESET_END (19 R396): a block- or chip-scope reset ends, and what the host has offered meanwhile is taken. -/
def execResetEnd (dt : Nat) (s : State) : Host.Outcome State Fault Refusal :=
  let s1 := (s.elapse dt).within s
  .next (match s1.rst.busy with
    | some (2, cause) => ({ (s1.chipEnds cause).serveHeld with role := (s1.chipStarts cause).bootRole } : State).within
        { s1 with role := (s1.chipStarts cause).bootRole }
    | some (_, cause) => (s1.blockEnds cause).serveHeld.within s1
    | none => s1)

end Sys2Proof.Machine
end

