-- ==== Sys2Proof/Machine/Dispatch.lean ====
section
/-! DEFINITION. One arm per command: its meaning, or its rejection by name. -/

namespace Sys2Proof.Machine

open Sys2Proof

/-- The effect of a command on everything but the queue. -/
def exec (i : Instr) (s : State) : Host.Outcome State Fault Refusal :=
  match i with
  | .chipScopeReset dt powerOn => Sys2Proof.Machine.execChipScopeReset dt powerOn s
  | .blockScopeReset dt => Sys2Proof.Machine.execBlockScopeReset dt s
  | .resetEnd dt => Sys2Proof.Machine.execResetEnd dt s
  | .keeperScopeReset dt => Sys2Proof.Machine.execKeeperScopeReset dt s
  | .keeperWatchdog dt => Sys2Proof.Machine.execKeeperWatchdog dt s
  | .resetIslandLink dt rq => Sys2Proof.Machine.execResetIslandLink dt rq s
  | .resetIslandLoupe dt rq t => Sys2Proof.Machine.execResetIslandLoupe dt rq t s
  | .resetKeeper dt rq => Sys2Proof.Machine.execResetKeeper dt rq s
  | .resetBlock dt rq => Sys2Proof.Machine.execResetBlock dt rq s
  | .resetChip dt rq => Sys2Proof.Machine.execResetChip dt rq s
  | .resetDelayExpiry dt => Sys2Proof.Machine.execResetDelayExpiry dt s
  | .objectWrite dt w => Sys2Proof.Machine.execObjectWrite dt w s
  | .dapRead dt src r via => Sys2Proof.Machine.execDapRead dt src r via s
  | .dapAbort dt src r via => Sys2Proof.Machine.execDapAbort dt src r via s
  | .dapResponse dt p r => Sys2Proof.Machine.execDapResponse dt p r s
  | .pendTimeout dt => Sys2Proof.Machine.execPendTimeout dt s
  | .segTimeout dt => Sys2Proof.Machine.execSegTimeout dt s
  | .cmdInProgress dt => Sys2Proof.Machine.execCmdInProgress dt s
  | .cmdComplete dt => Sys2Proof.Machine.execCmdComplete dt s
  | .neighborSolicitation dt peer target bad => Sys2Proof.Machine.execNeighborSolicitation dt peer target bad s
  | .echoRequest dt peer addr body bad => Sys2Proof.Machine.execEchoRequest dt peer addr body bad s
  | .ptpSync dt p domain gm utc origin corr => Sys2Proof.Machine.execPtpSync dt p domain gm utc origin corr s
  | .ptpPdelayReq dt p domain gm utc clock port seq corr => Sys2Proof.Machine.execPtpPdelayReq dt p domain gm utc clock port seq corr s
  | .ptpPdelayResp dt p domain gm utc seq corr => Sys2Proof.Machine.execPtpPdelayResp dt p domain gm utc seq corr s
  | .ptpDelayReq dt p domain gm utc clock port seq corr => Sys2Proof.Machine.execPtpDelayReq dt p domain gm utc clock port seq corr s
  | .ptpDelayResp dt p domain gm utc seq receipt corr => Sys2Proof.Machine.execPtpDelayResp dt p domain gm utc seq receipt corr s
  | .ptpMgmtMessage dt domain m => Sys2Proof.Machine.execPtpMgmtMessage dt domain m s
  | .ptpIntervalTick dt => Sys2Proof.Machine.execPtpIntervalTick dt s
  | .syncLossTimeout dt => Sys2Proof.Machine.execSyncLossTimeout dt s
  | .holdoverTimeout dt => Sys2Proof.Machine.execHoldoverTimeout dt s
  | .timeAnchor dt => Sys2Proof.Machine.execTimeAnchor dt s
  | .timeNowWrite dt rq value => Sys2Proof.Machine.execTimeNowWrite dt rq value s
  | .shutterFire dt c => Sys2Proof.Machine.execShutterFire dt c s
  | .shutterApply dt rq c => Sys2Proof.Machine.execShutterApply dt rq c s
  | .clearEvents dt rq => Sys2Proof.Machine.execClearEvents dt rq s
  | .heldCapture dt engine => Sys2Proof.Machine.execHeldCapture dt engine s
  | .snapshotDrained dt engine => Sys2Proof.Machine.execSnapshotDrained dt engine s
  | .dieVectorComplete dt => Sys2Proof.Machine.execDieVectorComplete dt s
  | .engineVectorComplete dt => Sys2Proof.Machine.execEngineVectorComplete dt s
  | .descApply dt rq => Sys2Proof.Machine.execDescApply dt rq s
  | .cmdTableClear dt rq => Sys2Proof.Machine.execCmdTableClear dt rq s
  | .begin_ dt cmd engine cls tag tile dup => Sys2Proof.Machine.execBegin dt cmd engine cls tag tile dup s
  | .end_ dt cmd engine cls => Sys2Proof.Machine.execEnd dt cmd engine cls s
  | .bytes dt engine level dir count => Sys2Proof.Machine.execBytes dt engine level dir count s
  | .linkBytes dt link dir count => Sys2Proof.Machine.execLinkBytes dt link dir count s
  | .arrive dt barrier => Sys2Proof.Machine.execArrive dt barrier s
  | .tagOpen dt tag base => Sys2Proof.Machine.execTagOpen dt tag base s
  | .tagClose dt tag => Sys2Proof.Machine.execTagClose dt tag s
  | .bktOpen dt slot side base => Sys2Proof.Machine.execBktOpen dt slot side base s
  | .bktClose dt slot side engine => Sys2Proof.Machine.execBktClose dt slot side engine s
  | .dupDecline dt slot => Sys2Proof.Machine.execDupDecline dt slot s
  | .bracketWait dt => Sys2Proof.Machine.execBracketWait dt s
  | .shardOpen dt slot dir shardId => Sys2Proof.Machine.execShardOpen dt slot dir shardId s
  | .shardRange dt slot length base => Sys2Proof.Machine.execShardRange dt slot length base s
  | .shardClose dt slot copyDone => Sys2Proof.Machine.execShardClose dt slot copyDone s
  | .ckptBoundary dt => Sys2Proof.Machine.execCkptBoundary dt s
  | .loupeLine dt t addr data write tag bkt shd => Sys2Proof.Machine.execLoupeLine dt t addr data write tag bkt shd s
  | .healthStrobe dt input value => Sys2Proof.Machine.execHealthStrobe dt input value s
  | .scoreRecordComplete dt k => Sys2Proof.Machine.execScoreRecordComplete dt k s
  | .imageSegment dt rq k offset total data => Sys2Proof.Machine.execImageSegment dt rq k offset total data s
  | .stackWrite dt rq offset total data => Sys2Proof.Machine.execStackWrite dt rq offset total data s
  | .loadStack dt rq k => Sys2Proof.Machine.execLoadStack dt rq k s
  | .loadEnd dt k => Sys2Proof.Machine.execLoadEnd dt k s
  | .activate dt rq k v => Sys2Proof.Machine.execActivate dt rq k v s
  | .unload dt rq k => Sys2Proof.Machine.execUnload dt rq k s
  | .unloadDrained dt k => Sys2Proof.Machine.execUnloadDrained dt k s
  | .retire dt k => Sys2Proof.Machine.execRetire dt k s
  | .devPhaseWrite dt rq value => Sys2Proof.Machine.execDevPhaseWrite dt rq value s
  | .programApply dt rq => Sys2Proof.Machine.execProgramApply dt rq s
  | .reductionRecord dt p r => Sys2Proof.Machine.execReductionRecord dt p r s
  | .deadline dt => Sys2Proof.Machine.execDeadline dt s
  | .mergeComplete dt => Sys2Proof.Machine.execMergeComplete dt s
  | .centreRecord dt p c => Sys2Proof.Machine.execCentreRecord dt p c s
  | .featureFrame dt p f => Sys2Proof.Machine.execFeatureFrame dt p f s
  | .verdictFormed dt => Sys2Proof.Machine.execVerdictFormed dt s
  | .verdictClear dt rq => Sys2Proof.Machine.execVerdictClear dt rq s
  | .baselineReset dt rq => Sys2Proof.Machine.execBaselineReset dt rq s
  | .stallTimeout dt => Sys2Proof.Machine.execStallTimeout dt s
  | .arrival dt p job barrier time latestDie dies => Sys2Proof.Machine.execArrival dt p job barrier time latestDie dies s
  | .release dt p job barrier epoch level reissue tRel latestDie => Sys2Proof.Machine.execRelease dt p job barrier epoch level reissue tRel latestDie s
  | .bcast dt p job tree seq epoch level reissue op payload => Sys2Proof.Machine.execBcast dt p job tree seq epoch level reissue op payload s
  | .bcastAck dt p job tree seq dies => Sys2Proof.Machine.execBcastAck dt p job tree seq dies s
  | .hopAck dt p typ job id seq => Sys2Proof.Machine.execHopAck dt p typ job id seq s
  | .nackTimeout dt => Sys2Proof.Machine.execNackTimeout dt s
  | .ackHold dt => Sys2Proof.Machine.execAckHold dt s
  | .ackReport dt => Sys2Proof.Machine.execAckReport dt s
  | .barrierReport dt => Sys2Proof.Machine.execBarrierReport dt s
  | .epochSegment dt p epoch level reissue firstFrame seg segs resync entries => Sys2Proof.Machine.execEpochSegment dt p epoch level reissue firstFrame seg segs resync entries s
  | .epochApplied dt => Sys2Proof.Machine.execEpochApplied dt s
  | .epochIssue dt rq => Sys2Proof.Machine.execEpochIssue dt rq s
  | .bcastIssueJobStart dt rq => Sys2Proof.Machine.execBcastIssueJobStart dt rq s
  | .bcastIssueJobTeardown dt rq => Sys2Proof.Machine.execBcastIssueJobTeardown dt rq s
  | .bcastIssueHostMessage dt rq => Sys2Proof.Machine.execBcastIssueHostMessage dt rq s
  | .teardownDone dt job => Sys2Proof.Machine.execTeardownDone dt job s
  | .overlayArm dt rq => Sys2Proof.Machine.execOverlayArm dt rq s
  | .overlayDisarm dt rq => Sys2Proof.Machine.execOverlayDisarm dt rq s
  | .digestRecord dt p d => Sys2Proof.Machine.execDigestRecord dt p d s
  | .overlayWait dt => Sys2Proof.Machine.execOverlayWait dt s
  | .mismatchNotice dt p suspect => Sys2Proof.Machine.execMismatchNotice dt p suspect s
  | .boundPeriod dt => Sys2Proof.Machine.execBoundPeriod dt s
  | .boundReset dt rq => Sys2Proof.Machine.execBoundReset dt rq s
  | .boundEnforceWrite dt rq value => Sys2Proof.Machine.execBoundEnforceWrite dt rq value s
  | .testRequest dt rq value => Sys2Proof.Machine.execTestRequest dt rq value s
  | .testCancel dt rq entry => Sys2Proof.Machine.execTestCancel dt rq entry s
  | .testDeadline dt => Sys2Proof.Machine.execTestDeadline dt s
  | .testDone dt engine test result => Sys2Proof.Machine.execTestDone dt engine test result s
  | .traceEnableWrite dt rq value => Sys2Proof.Machine.execTraceEnableWrite dt rq value s
  | .sqGroup dt k pc last kind taken target ret => Sys2Proof.Machine.execSqGroup dt k pc last kind taken target ret s
  | .sqSleep dt k asleep => Sys2Proof.Machine.execSqSleep dt k asleep s
  | .traceLineTimeout dt => Sys2Proof.Machine.execTraceLineTimeout dt s
  | .syncPeriod dt => Sys2Proof.Machine.execSyncPeriod dt s
  | .sinkLineWritten dt => Sys2Proof.Machine.execSinkLineWritten dt s
  | .offloadFlush dt => Sys2Proof.Machine.execOffloadFlush dt s
  | .offloadUnit dt p bytes => Sys2Proof.Machine.execOffloadUnit dt p bytes s
  | .storeRead dt rq => Sys2Proof.Machine.execStoreRead dt rq s
  | .prcStart dt rq c => Sys2Proof.Machine.execPrcStart dt rq c s
  | .prcResume dt rq c => Sys2Proof.Machine.execPrcResume dt rq c s
  | .prcAbort dt rq c => Sys2Proof.Machine.execPrcAbort dt rq c s
  | .prcJobStop dt c => Sys2Proof.Machine.execPrcJobStop dt c s
  | .laneEnableWrite dt rq p value => Sys2Proof.Machine.execLaneEnableWrite dt rq p value s
  | .laneLock dt p => Sys2Proof.Machine.execLaneLock dt p s
  | .trainingComplete dt p => Sys2Proof.Machine.execTrainingComplete dt p s
  | .lockLost dt p => Sys2Proof.Machine.execLockLost dt p s
  | .trainLimit dt => Sys2Proof.Machine.execTrainLimit dt s
  | .failHold dt => Sys2Proof.Machine.execFailHold dt s
  | .retrain dt rq p => Sys2Proof.Machine.execRetrain dt rq p s
  | .train dt p tap step st cause => Sys2Proof.Machine.execTrain dt p tap step st cause s
  | .ident dt p payload => Sys2Proof.Machine.execIdent dt p payload s
  | .dataFrame dt p good seq cls n ack relay => Sys2Proof.Machine.execDataFrame dt p good seq cls n ack relay s
  | .ack dt p ackSeq => Sys2Proof.Machine.execAck dt p ackSeq s
  | .nak dt p ackSeq => Sys2Proof.Machine.execNak dt p ackSeq s
  | .replayTimeout dt => Sys2Proof.Machine.execReplayTimeout dt s
  | .credit dt p credits => Sys2Proof.Machine.execCredit dt p credits s
  | .creditRefresh dt => Sys2Proof.Machine.execCreditRefresh dt s
  | .routeJoin dt p seq fromFrame dies => Sys2Proof.Machine.execRouteJoin dt p seq fromFrame dies s
  | .routeMoveLeg dt p seq fromFrame leg dies => Sys2Proof.Machine.execRouteMoveLeg dt p seq fromFrame leg dies s
  | .parentLost dt p seq => Sys2Proof.Machine.execParentLost dt p seq s
  | .routeMove dt rq value => Sys2Proof.Machine.execRouteMove dt rq value s
  | .homeHold dt => Sys2Proof.Machine.execHomeHold dt s
  | .equaliserAdapt dt p => Sys2Proof.Machine.execEqualiserAdapt dt p s
  | .laserLoop dt p => Sys2Proof.Machine.execLaserLoop dt p s
  | .dataDecision dt g => Sys2Proof.Machine.execDataDecision dt g s
  | .gateApply dt rq p => Sys2Proof.Machine.execGateApply dt rq p s
  | .gateEntryChange dt g => Sys2Proof.Machine.execGateEntryChange dt g s
  | .classDropFlush dt => Sys2Proof.Machine.execClassDropFlush dt s
  | .alarmRecord dt p r => Sys2Proof.Machine.execAlarmRecord dt p r s
  | .alarmSpaceFreed dt => Sys2Proof.Machine.execAlarmSpaceFreed dt s
  | .mirrorFlush dt => Sys2Proof.Machine.execMirrorFlush dt s
  | .mirrorMessage dt p recs => Sys2Proof.Machine.execMirrorMessage dt p recs s
  | .clearF dt rq => Sys2Proof.Machine.execClearF dt rq s
  | .clearO dt rq => Sys2Proof.Machine.execClearO dt rq s
  | .clearBoth dt rq => Sys2Proof.Machine.execClearBoth dt rq s
  | .fWindow dt rq => Sys2Proof.Machine.execFWindow dt rq s
  | .oWindow dt rq => Sys2Proof.Machine.execOWindow dt rq s
  | .negTake dt rq => Sys2Proof.Machine.execNegTake dt rq s
  | .negPeriod dt => Sys2Proof.Machine.execNegPeriod dt s
  | .negFixed dt => Sys2Proof.Machine.execNegFixed dt s
  | .persistDone dt => Sys2Proof.Machine.execPersistDone dt s
  | .h2bData dt value => Sys2Proof.Machine.execH2bData dt value s
  | .h2bRing dt word => Sys2Proof.Machine.execH2bRing dt word s
  | .b2hData dt => Sys2Proof.Machine.execB2hData dt s
  | .b2hAck dt word => Sys2Proof.Machine.execB2hAck dt word s
  | .irqStatusWrite dt value => Sys2Proof.Machine.execIrqStatusWrite dt value s
  | .b2hRing dt => Sys2Proof.Machine.execB2hRing dt s
  | .mbTimeout dt => Sys2Proof.Machine.execMbTimeout dt s
  | .dimIdle dt => Sys2Proof.Machine.execDimIdle dt s
  | .safelightIdle dt => Sys2Proof.Machine.execSafelightIdle dt s
  | .powerEntryDone dt => Sys2Proof.Machine.execPowerEntryDone dt s
  | .wakeSource dt source detail cls => Sys2Proof.Machine.execWakeSource dt source detail cls s
  | .regGood dt => Sys2Proof.Machine.execRegGood dt s
  | .pllLock dt => Sys2Proof.Machine.execPllLock dt s
  | .memReady dt => Sys2Proof.Machine.execMemReady dt s
  | .logicReady dt => Sys2Proof.Machine.execLogicReady dt s
  | .dvfsPeriod dt => Sys2Proof.Machine.execDvfsPeriod dt s
  | .keeperUpdateLive dt rq persist => Sys2Proof.Machine.execKeeperUpdateLive dt rq persist s
  | .keeperUpdateRestart dt rq persist => Sys2Proof.Machine.execKeeperUpdateRestart dt rq persist s
  | .keeperVerified dt => Sys2Proof.Machine.execKeeperVerified dt s
  | .keeperPersisted dt ok => Sys2Proof.Machine.execKeeperPersisted dt ok s
  | .keeperQuiescent dt => Sys2Proof.Machine.execKeeperQuiescent dt s
  | .keeperReady dt ok => Sys2Proof.Machine.execKeeperReady dt ok s
  | .dieIdWrite dt rq value => Sys2Proof.Machine.execDieIdWrite dt rq value s
  | .journalEnableWrite dt rq value => Sys2Proof.Machine.execJournalEnableWrite dt rq value s
  | .chunkTimeout dt => Sys2Proof.Machine.execChunkTimeout dt s
  | .journalLost dt => Sys2Proof.Machine.execJournalLost dt s
  | .leafJournalFlush dt => Sys2Proof.Machine.execLeafJournalFlush dt s
  | .leafJournalMessage dt p entries => Sys2Proof.Machine.execLeafJournalMessage dt p entries s
  | .exportFreeze dt rq => Sys2Proof.Machine.execExportFreeze dt rq s
  | .exportRelease dt rq => Sys2Proof.Machine.execExportRelease dt rq s
  | .trainFrameInterval dt p => Sys2Proof.Machine.execTrainFrameInterval dt p s
  | .trainingSignalLost dt p => Sys2Proof.Machine.execTrainingSignalLost dt p s
  | .ceB2hTransfer dt => Sys2Proof.Machine.execCeB2hTransfer dt s
  | .islandResetDone dt => Sys2Proof.Machine.execIslandResetDone dt s
  | .keeperResetDone dt => Sys2Proof.Machine.execKeeperResetDone dt s
  | .dvfsChangeDone dt => Sys2Proof.Machine.execDvfsChangeDone dt s

end Sys2Proof.Machine
end

