-- ==== Sys2Proof/WellFormed.lean ====
section
/-! DEFINITION. The operands that a command can carry: every field within the width that its table gives it. -/

namespace Sys2Proof.Machine

open Sys2Proof

/-- A field of `n` bits (00 R10). -/
def fits (n v : Nat) : Bool := decide (v < 2 ^ n)

/-- A port of the larger build (Table 13-1). -/
def isPort (p : Nat) : Bool := decide (p < 48)

/-- A die ID (00 R2). -/
def isDieId (d : Nat) : Bool := fits 17 d

/-- Where a DAP request came in (15 R317 to R319). -/
def DapSource.ok : DapSource → Bool
  | .mailbox => true
  | .lane p => isPort p
  | .mgmt addr port => fits 128 addr && fits 16 port

/-- A requester. -/
def Requester.ok (rq : Requester) : Bool := rq.src.ok && fits 16 rq.reqId

/-- A DAP request's fields (Table 15-1). -/
def DapReq.ok (r : DapReq) : Bool :=
  fits 6 r.op && fits 16 r.reqId && fits 16 r.idx && fits 8 r.sub && fits 3 r.tlevel && isDieId r.tdie &&
    decide (r.path.length ≤ 6) && r.path.all (fits 8) && fits 32 r.offset && fits 32 r.total && decide (r.data.length ≤ 1024)

/-- A DAP response's fields (Table 15-1). -/
def DapResp.ok (r : DapResp) : Bool :=
  fits 6 r.op && fits 16 r.reqId && fits 16 r.idx && fits 8 r.sub && fits 8 r.status && fits 8 r.completion && fits 3 r.tlevel &&
    isDieId r.tdie && fits 32 r.offset && fits 32 r.total && fits 32 r.retry && decide (r.data.length ≤ 1024)

/-- A DAP frame of the mailbox carries at most 32 payload bytes (15 R319). -/
def fitsMailbox (src : DapSource) (n : Nat) : Bool := src != .mailbox || decide (n ≤ 32)

/-- An IPv6 address. -/
def isAddr (a : Bytes) : Bool := decide (a.length = 16)

/-- How a request came to the management port; it says nothing of one from elsewhere. -/
def Datagram.ok (src : DapSource) (d : Datagram) : Bool := match src with
  | .mgmt _ _ => isAddr d.dest && fits 16 d.port
  | _ => true

/-- A write with no command of its own. -/
def ObjWrite.ok : ObjWrite → Bool
  | .dap src r via => src.ok && r.ok && Datagram.ok src via && fitsMailbox src r.data.length
  | .damaged => true
  | .register offset value => fits 12 offset && decide (offset % 4 = 0) && fits 32 value
  | .readRegister offset => fits 12 offset && decide (offset % 4 = 0) && decide (offset ≠ 0x01C)

/-- A segment of a WRITE (15 R315, R326). -/
def isSegment (offset total : Nat) (data : Bytes) : Bool := fits 32 offset && fits 32 total && decide (data.length ≤ 1024)

/-- An event record's fields (Table 17-1). -/
def EventRec.ok (r : EventRec) : Bool :=
  fits 32 r.crc && fits 128 r.payload && fits 16 r.rep && fits 32 r.frame && fits 32 r.time && fits 3 r.source && fits 12 r.typ

/-- A digest record's fields (Table 10-3). -/
def DigestRec.ok (d : DigestRec) : Bool :=
  fits 64 d.digest && fits 32 d.lines && fits 32 d.frame && fits 32 d.name && fits 32 d.ordinal && isDieId d.die && fits 3 d.kind && fits 16 d.job

/-- A centre record's fields (Table 04-4). -/
def CentreMsg.ok (c : CentreMsg) : Bool :=
  fits 32 c.frame && fits 3 c.level && c.entries.all (fun e => fits 8 e.1 && fits 8 e.2.1 && fits 16 e.2.2)

/-- A feature frame's fields (Tables 04-1, 14-4). -/
def FeatFrame.ok (f : FeatFrame) : Bool :=
  fits 32 f.frame && isDieId f.dieId && fits 32 f.decimTotal && fits 11 f.firstEngine && fits 2 f.colour && decide (f.vecs.length ≤ 25) &&
    f.vecs.all (fun v => fits 128 v.hdr && v.codes.length == (if f.engine then 32 else 256) && v.codes.all (fits 16))

/-- An epoch entry's fields (Table 09-4). -/
def EpochEntry.ok : EpochEntry → Bool
  | .die id job _ => isDieId id && fits 16 job
  | .size job count => fits 16 job && fits 18 count

/-- A reduction record's fields (Tables 07-3, 07-4). -/
def RedRec.ok (r : RedRec) : Bool :=
  fits 32 r.frame && fits 32 r.epoch && fits 16 r.programId && fits 3 r.level && r.missing.all isDieId

/-- A PTP message of the management port carries 16-bit sequence numbers. -/
def MgmtPtp.ok : MgmtPtp → Bool
  | .announce _ _ utc _ => fits 16 utc
  | .sync _ seq _ _ _ _ => fits 16 seq
  | .followUp _ seq _ _ => fits 16 seq
  | .delayResp _ seq _ _ _ => fits 16 seq

/-- The fields of a message of the command-event port (Table 18-4). -/
def CeMsg.ok : CeMsg → Bool
  | .begin_ cmd engine cls tag tile _ => fits 17 cmd && fits 11 engine && fits 4 cls && fits 16 tag && fits 32 tile
  | .end_ cmd engine cls => fits 17 cmd && fits 11 engine && fits 4 cls
  | .bytes engine level dir count => fits 11 engine && fits 2 level && fits 1 dir && fits 64 count
  | .linkBytes link dir count => fits 6 link && fits 1 dir && fits 64 count
  | .arrive barrier => fits 12 barrier
  | .tagOpen tag base => fits 16 tag && fits 64 base
  | .tagClose tag => fits 16 tag
  | .bktOpen slot side base => fits 6 slot && fits 1 side && fits 64 base
  | .bktClose slot side engine => fits 6 slot && fits 1 side && fits 11 engine
  | .dupDecline slot => fits 6 slot
  | .shardOpen slot dir shardId => fits 4 slot && fits 1 dir && fits 32 shardId
  | .shardRange slot length base => fits 4 slot && fits 48 length && fits 64 base
  | .shardClose slot _ => fits 4 slot
  | .ckptBoundary => true

/-- The fields that class 1 messages share (Table 09-1). -/
def isClass1 (p job id seq epoch level : Nat) : Bool := isPort p && fits 16 job && fits 12 id && fits 16 seq && fits 32 epoch && fits 3 level

/-- A PTP frame's fields (02 R27, R28). -/
def isPtp (p domain gm utc seq : Nat) : Bool := isPort p && fits 8 domain && fits 8 gm && fits 16 utc && fits 16 seq

end Sys2Proof.Machine

namespace Sys2Proof

open Sys2Proof.Machine

/-- Every operand of a command lies within the width that its table gives it. -/
def Instr.wellFormed : Instr → Bool
  | .chipScopeReset _ _ | .blockScopeReset _ | .resetEnd _ | .keeperScopeReset _ | .keeperWatchdog _ | .resetDelayExpiry _ => true
  | .resetIslandLink _ rq | .resetKeeper _ rq | .resetBlock _ rq | .resetChip _ rq => rq.ok
  | .resetIslandLoupe _ rq t => rq.ok && fits 5 t
  | .objectWrite _ w => w.ok
  | .dapRead _ src r via | .dapAbort _ src r via => src.ok && r.ok && Datagram.ok src via && fitsMailbox src r.data.length
  | .dapResponse _ p r => isPort p && r.ok
  | .pendTimeout _ | .segTimeout _ | .cmdInProgress _ | .cmdComplete _ => true
  | .neighborSolicitation _ peer target _ => isAddr peer && isAddr target
  | .echoRequest _ peer addr body _ => isAddr peer && isAddr addr && decide (body.length ≤ 1452)
  | .ptpSync _ p domain gm utc _ _ => isPtp p domain gm utc 0
  | .ptpPdelayReq _ p domain gm utc clock port seq _ | .ptpDelayReq _ p domain gm utc clock port seq _ =>
    isPtp p domain gm utc seq && fits 64 clock && fits 16 port
  | .ptpPdelayResp _ p domain gm utc seq _ | .ptpDelayResp _ p domain gm utc seq _ _ => isPtp p domain gm utc seq
  | .ptpMgmtMessage _ domain m => fits 8 domain && m.ok
  | .ptpIntervalTick _ | .syncLossTimeout _ | .holdoverTimeout _ | .timeAnchor _ => true
  | .timeNowWrite _ rq value => rq.ok && fits 80 value
  | .shutterFire _ c => fits 3 c
  | .shutterApply _ rq c => rq.ok && fits 3 c
  | .clearEvents _ rq | .descApply _ rq | .cmdTableClear _ rq => rq.ok
  | .heldCapture _ _ | .snapshotDrained _ _ | .dieVectorComplete _ | .engineVectorComplete _ => true
  | .begin_ _ cmd engine cls tag tile dup => (CeMsg.begin_ cmd engine cls tag tile dup).ok
  | .end_ _ cmd engine cls => (CeMsg.end_ cmd engine cls).ok
  | .bytes _ engine level dir count => (CeMsg.bytes engine level dir count).ok
  | .linkBytes _ link dir count => (CeMsg.linkBytes link dir count).ok
  | .arrive _ barrier => (CeMsg.arrive barrier).ok
  | .tagOpen _ tag base => (CeMsg.tagOpen tag base).ok
  | .tagClose _ tag => (CeMsg.tagClose tag).ok
  | .bktOpen _ slot side base => (CeMsg.bktOpen slot side base).ok
  | .bktClose _ slot side engine => (CeMsg.bktClose slot side engine).ok
  | .dupDecline _ slot => (CeMsg.dupDecline slot).ok
  | .shardOpen _ slot dir shardId => (CeMsg.shardOpen slot dir shardId).ok
  | .shardRange _ slot length base => (CeMsg.shardRange slot length base).ok
  | .shardClose _ slot copyDone => (CeMsg.shardClose slot copyDone).ok
  | .ckptBoundary _ | .ceB2hTransfer _ => true
  | .loupeLine _ t addr data _ tag bkt shd =>
    fits 5 t && fits 58 addr && decide (data.length = 64) && fits 16 tag && fits 8 bkt && fits 5 shd
  | .healthStrobe _ i value => fits 6 i && fits 32 value
  | .scoreRecordComplete _ k | .loadEnd _ k | .unloadDrained _ k | .retire _ k => fits 4 k
  | .imageSegment _ rq k offset total data => rq.ok && fits 4 k && isSegment offset total data
  | .stackWrite _ rq offset total data => rq.ok && isSegment offset total data
  | .loadStack _ rq k | .unload _ rq k => rq.ok && fits 4 k
  | .activate _ rq k v => rq.ok && fits 4 k && fits 8 v
  | .devPhaseWrite _ rq value => rq.ok && fits 8 value
  | .programApply _ rq | .verdictClear _ rq | .baselineReset _ rq | .epochIssue _ rq | .bcastIssueJobStart _ rq
  | .bcastIssueJobTeardown _ rq | .bcastIssueHostMessage _ rq | .overlayArm _ rq | .overlayDisarm _ rq | .boundReset _ rq => rq.ok
  | .reductionRecord _ p r => isPort p && r.ok
  | .deadline _ | .mergeComplete _ | .verdictFormed _ | .stallTimeout _ => true
  | .centreRecord _ p c => isPort p && c.ok
  | .featureFrame _ p f => isPort p && f.ok
  | .arrival _ p job barrier time latestDie dies =>
    isClass1 p job barrier 0 0 0 && fits 64 time && isDieId latestDie && dies.all isDieId
  | .release _ p job barrier epoch level _ tRel latestDie => isClass1 p job barrier 0 epoch level && fits 64 tRel && isDieId latestDie
  | .bcast _ p job tree seq epoch level _ op payload => isClass1 p job tree seq epoch level && fits 8 op && decide (payload.length ≤ 64)
  | .bcastAck _ p job tree seq dies => isClass1 p job tree seq 0 0 && dies.all isDieId
  | .hopAck _ p typ job id seq => isClass1 p job id seq 0 0 && fits 8 typ
  | .nackTimeout _ | .ackHold _ | .ackReport _ | .barrierReport _ | .epochApplied _ | .overlayWait _ | .bracketWait _ | .boundPeriod _ | .testDeadline _ => true
  | .epochSegment _ p epoch level _ firstFrame seg segs _ entries =>
    isClass1 p 0 0 0 epoch level && fits 32 firstFrame && fits 16 seg && fits 16 segs && entries.all EpochEntry.ok
  | .teardownDone _ job => fits 16 job
  | .digestRecord _ p d => isPort p && d.ok
  | .mismatchNotice _ p suspect => isPort p && isDieId suspect
  | .boundEnforceWrite _ rq value | .journalEnableWrite _ rq value | .routeMove _ rq value => rq.ok && fits 8 value
  | .testRequest _ rq value | .dieIdWrite _ rq value => rq.ok && fits 32 value
  | .testCancel _ rq entry => rq.ok && fits 8 entry
  | .testDone _ engine test result => fits 11 engine && fits 16 test && fits 16 result
  | .traceEnableWrite _ rq value => rq.ok && fits 16 value
  | .sqGroup _ k pc last kind _ target ret => fits 3 k && fits 64 pc && fits 64 last && fits 2 kind && fits 64 target && fits 64 ret
  | .sqSleep _ k _ => fits 3 k
  | .traceLineTimeout _ | .syncPeriod _ | .sinkLineWritten _ | .offloadFlush _ => true
  | .offloadUnit _ p unit => isPort p && decide (unit.length ≤ 1048576)
  | .storeRead _ rq => rq.ok
  | .prcStart _ rq c | .prcResume _ rq c | .prcAbort _ rq c => rq.ok && fits 2 c
  | .prcJobStop _ c => fits 2 c
  | .laneEnableWrite _ rq p value => rq.ok && isPort p && fits 8 value
  | .laneLock _ p | .trainingComplete _ p | .lockLost _ p | .trainFrameInterval _ p | .trainingSignalLost _ p | .equaliserAdapt _ p
  | .laserLoop _ p => isPort p
  | .retrain _ rq p | .gateApply _ rq p => rq.ok && isPort p
  | .train _ p tap step st cause => isPort p && fits 8 tap && fits 8 step && fits 8 st && fits 8 cause
  | .ident _ p payload => isPort p && fits 128 payload
  | .dataFrame _ p _ seq cls n acked relay =>
    isPort p && fits 12 seq && fits 3 cls && decide (n ≤ 2048) && acked.all (fits 12) && (relay.all (fun r => fits 32 r.1 && r.2.ok))
  | .ack _ p ackSeq | .nak _ p ackSeq => isPort p && fits 12 ackSeq
  | .credit _ p credits => isPort p && decide (credits.length = 8) && credits.all (fits 32)
  | .trainLimit _ | .failHold _ | .replayTimeout _ | .creditRefresh _ | .homeHold _ => true
  | .routeJoin _ p seq fromFrame dies => isPort p && fits 12 seq && fits 32 fromFrame && dies.all isDieId
  | .routeMoveLeg _ p seq fromFrame leg dies => isPort p && fits 12 seq && fits 32 fromFrame && decide (leg ≤ 2) && dies.all isDieId
  | .parentLost _ p seq => isPort p && fits 12 seq
  | .dataDecision _ g | .gateEntryChange _ g => isPort g
  | .classDropFlush _ | .alarmSpaceFreed _ | .mirrorFlush _ => true
  | .alarmRecord _ p r => isPort p && r.ok
  | .mirrorMessage _ p recs => isPort p && decide (recs.length ≤ 64) && recs.all EventRec.ok
  | .clearF _ rq | .clearO _ rq | .clearBoth _ rq | .fWindow _ rq | .oWindow _ rq | .negTake _ rq | .exportFreeze _ rq | .exportRelease _ rq => rq.ok
  | .b2hData _ => true
  | .negPeriod _ | .negFixed _ | .persistDone _ | .b2hRing _ | .mbTimeout _ => true
  | .h2bData _ value | .irqStatusWrite _ value => fits 32 value
  | .h2bRing _ word | .b2hAck _ word => fits 32 word
  | .dimIdle _ | .safelightIdle _ | .powerEntryDone _ | .regGood _ | .pllLock _ | .memReady _ | .logicReady _ | .dvfsPeriod _
  | .dvfsChangeDone _ => true
  | .wakeSource _ source detail cls => fits 8 source && fits 8 detail && fits 8 cls
  | .keeperUpdateLive _ rq _ | .keeperUpdateRestart _ rq _ => rq.ok
  | .keeperVerified _ | .keeperPersisted _ _ | .keeperQuiescent _ | .keeperReady _ _ | .keeperResetDone _ | .islandResetDone _ => true
  | .chunkTimeout _ | .journalLost _ | .leafJournalFlush _ => true
  | .leafJournalMessage _ p entries => isPort p && entries.all (fun e => fits 16 e.1)

end Sys2Proof
end

