-- ==== Sys2Proof/Safety.lean ====
section
/-! DEFINITION. What counts as a good state and a safe run, in the terms that claims use. -/

namespace Sys2Proof.Machine

open Sys2Proof

/-- A legal instance (00 R1 to R3): Uhlyr-D is a leaf, and a tray chip is a TRAY, RACK, SPINE or ROOT. -/
def State.legal (s : State) : Prop := s.build = .die ↔ s.role = .leaf

/-- Every waiting command has operands that it can carry. -/
def State.queueOk (s : State) : Prop := ∀ c ∈ s.pending, c.wellFormed = true

/-- The stacks' memory holds its canonical form. -/
def State.stackOk (s : State) : Prop := s.stack.wf = true

/-- A run of `k` steps stops nowhere. -/
def State.runsFor (s : State) : Nat → Prop
  | 0 => True
  | k + 1 => ∃ t, step s = .next t ∧ State.runsFor t k

/-- Command `c` completes on `s`: exec answers a next state, and `P` holds of it. -/
def Does (c : Instr) (s : State) (P : State → Prop) : Prop := ∃ t, exec c s = .next t ∧ P t

/-- The write of member `m` of an object finds its target serving (15 R328): the core runs, the keeper is neither in reset nor
being updated, the object exists, and the request queue has room. -/
def State.serves (u : State) (o : Ob) (m : Nat := 0) : Prop :=
  u.coreOn = true ∧ u.targetStatus (o.idx + m) o.sub = 0 ∧ u.queueFull = false

/-- The command-event port acts at once on a message that the host offers (18 R370): the core runs, nothing waits, and the queue
towards the host has room. -/
def State.ceFree (u : State) : Prop := u.isDie = true ∧ u.coreOn = true ∧ u.ce.offered = [] ∧ u.ce.inQ = [] ∧ u.ce.outQ.length < 64

/-! ### What a command leaves as it was -/

/-- The parts of the state beside its stored objects, for statements of what a command leaves unchanged. -/
inductive Part where
  /-- the strap pins -/
  | pins
  /-- every stored object -/
  | objects
  /-- completion codes of CMD objects -/
  | codes
  /-- the objects as they stood at the last channel 0 pulse -/
  | latched
  | time | ptp | shutter
  /-- bytes of the die's memory levels -/
  | levels
  | channels | linkBytes | classes | engines | health
  /-- the command table -/
  | commands
  | clears | snap | front | developer | reduction | verdict | live | barriers | evidence | trace | prc | links | routes
  /-- the class queues of the groups -/
  | queues
  /-- the reserved alarm buffer, and the alarms that wait for room in it -/
  | alarmBuffer
  /-- scheduler values in force until the next DATA decision (14 R314) -/
  | inForce
  /-- what source prefixes and collective sequence numbers go on from -/
  | prefixes
  | decimation | dropRuns
  /-- requests forwarded and awaiting their response -/
  | forwarded
  | reads | writes
  /-- CMD actions in progress -/
  | actions
  /-- second CMD writes that are held -/
  | held
  | pushes
  /-- responses, and the requests that this target has queued -/
  | responses
  /-- commands held for a core that is away (19 R391) -/
  | parked
  /-- the management port's addresses in force -/
  | address
  | recorder | negative
  /-- words and messages of the mailbox towards the block -/
  | hostWords
  /-- words of the mailbox towards the host -/
  | blockWords
  /-- mailbox messages that wait -/
  | messages
  | bells | irq
  /-- the command-event port -/
  | port
  | power | resets | keeper | flash | journal
  /-- bytes of a tray chip's event store (17 R352) -/
  | store
  /-- bytes of the stacks outside the event store -/
  | stack
  /-- what has left the instance -/
  | out
  /-- open values drawn -/
  | free
deriving DecidableEq, Repr

/-- An address in a tray chip's event store (17 R352). -/
def State.inStore (u : State) (a : Nat) : Prop :=
  u.isTrayChip = true ∧ u.rd Dict.recBase ≤ a ∧ a < u.rd Dict.recBase + 32 * u.ringSize

/-- Every held record has its place in the event store. -/
def State.storeOk (u : State) : Prop := ∀ e ∈ u.recd.ring, e.slot < u.ringSize

/-- A part is the same in two states. -/
def Part.same (p : Part) (u t : State) : Prop :=
  match p with
  | .pins => t.strapPins = u.strapPins
  | .objects => t.regs = u.regs ∧ t.doms = u.doms
  | .codes => t.cmdCodes = u.cmdCodes
  | .latched => t.latchedRegs = u.latchedRegs ∧ t.latchedDoms = u.latchedDoms
  | .time => t.time = u.time
  | .ptp => t.ptp = u.ptp
  | .shutter => t.shutter = u.shutter
  | .levels => t.cnt.level = u.cnt.level
  | .channels => t.cnt.chan = u.cnt.chan
  | .linkBytes => t.cnt.link = u.cnt.link
  | .classes => t.cnt.cls = u.cnt.cls
  | .engines => t.cnt.eng = u.cnt.eng
  | .health => t.cnt.health = u.cnt.health
  | .commands => t.cnt.cmds = u.cnt.cmds
  | .clears => t.cnt.clearDue = u.cnt.clearDue ∧ t.cnt.clearAfter = u.cnt.clearAfter ∧ t.cnt.clears = u.cnt.clears
  | .snap => t.snap = u.snap
  | .front => t.fs = u.fs
  | .developer => t.dev = u.dev
  | .reduction => t.red = u.red
  | .verdict => t.ver = u.ver
  | .live => t.live = u.live
  | .barriers => t.bar = u.bar
  | .evidence => t.ev = u.ev
  | .trace => t.tr = u.tr
  | .prc => t.prc = u.prc
  | .links => t.lnk = u.lnk
  | .routes => t.rt = u.rt
  | .queues => t.sch.groups = u.sch.groups
  | .alarmBuffer => t.sch.alarms = u.sch.alarms ∧ t.sch.waiting = u.sch.waiting
  | .inForce => t.sch.old = u.sch.old ∧ t.sch.oldDoms = u.sch.oldDoms
  | .parked => t.parked = u.parked
  | .prefixes => t.sch.cseq = u.sch.cseq ∧ t.sch.srcDie = u.sch.srcDie
  | .decimation => t.sch.decimTotal = u.sch.decimTotal ∧ t.sch.engineSets = u.sch.engineSets
  | .dropRuns => t.sch.runs = u.sch.runs
  | .forwarded => t.dap.pending = u.dap.pending ∧ t.dap.nextId = u.dap.nextId
  | .reads => t.dap.reads = u.dap.reads
  | .writes => t.dap.writes = u.dap.writes
  | .actions => t.dap.actions = u.dap.actions
  | .held => t.dap.held = u.dap.held
  | .pushes => t.dap.push = u.dap.push ∧ t.dap.alarmPushes = u.dap.alarmPushes ∧ t.dap.sheetPushes = u.dap.sheetPushes ∧
      t.dap.waitingPushes = u.dap.waitingPushes
  | .responses => t.dap.responses = u.dap.responses ∧ t.dap.busyUntil = u.dap.busyUntil ∧ t.dap.queue = u.dap.queue
  | .address => t.dap.udpPort = u.dap.udpPort ∧ t.dap.mac = u.dap.mac ∧ t.dap.addr = u.dap.addr ∧ t.dap.pfx = u.dap.pfx ∧
      t.dap.gateway = u.dap.gateway
  | .recorder => t.recd = u.recd
  | .negative => t.neg = u.neg
  | .hostWords => t.mb.h2b = u.mb.h2b ∧ t.mb.h2bAck = u.mb.h2bAck ∧ t.mb.claims = u.mb.claims
  | .blockWords => t.mb.b2h = u.mb.b2h ∧ t.mb.rung = u.mb.rung
  | .messages => t.mb.waiting = u.mb.waiting
  | .bells => t.mb.bells = u.mb.bells
  | .irq => t.mb.irqStatus = u.mb.irqStatus ∧ t.mb.irqEnable = u.mb.irqEnable
  | .port => t.ce = u.ce
  | .power => t.pw = u.pw
  | .resets => t.rst = u.rst
  | .keeper => t.kp = u.kp
  | .flash => t.flash = u.flash
  | .journal => t.jn = u.jn
  | .store => ∀ a, u.inStore a → t.stack.read a = u.stack.read a
  | .stack => u.storeOk → ∀ a, ¬ u.inStore a → t.stack.read a = u.stack.read a
  | .out => t.out = u.out
  | .free => t.free = u.free

/-- A number of an object's family: one of its members, at one of its first 16 subindices. -/
def Ob.owns (o : Ob) (k : Nat) : Prop := ∃ m j, j < 16 ∧ k = o.key m j ∧ (o.membersD ≤ 1 → o.membersT ≤ 1 → m = 0)

/-- `t` is `s` with `dt` passed, but for the parts `touched` and the objects `obs`. -/
def State.leaves (s : State) (dt : Nat) (t : State) (touched : List Part) (obs : List Ob) : Prop :=
  (∀ p, p ∉ touched → p ≠ .objects → p.same (s.elapse dt) t) ∧
  (Part.objects ∉ touched → ∀ k, (∀ o ∈ obs, ¬ o.owns k) →
    Tbl.get? t.regs k = Tbl.get? (s.elapse dt).regs k ∧ Tbl.get? t.doms k = Tbl.get? (s.elapse dt).doms k)

/-- What writing an event record can change (chapter 17): beside the ring and its counters, the alarm's copy for class 6, and the
push of an alarm at the ROOT. -/
def raisedParts : List Part := [.levels, .store, .recorder, .pushes, .alarmBuffer]

/-- The objects that writing an event record can change. -/
def raisedObjects : List Ob :=
  [Dict.fNext, Dict.oNext, Dict.alarmBufUsed, Dict.alarmHeld, Dict.fOverwritten, Dict.mirrorBehind, Dict.repeatsFolded]

/-- What a response changes (chapter 15): it leaves by the management port, by the mailbox or by class 2. -/
def answerParts : List Part := [.responses, .messages, .queues]

end Sys2Proof.Machine
end

