-- ==== Sys2Proof/Certificates/Slice0/Obligations.lean ====
section
/-! DEFINITION. The statements for the provers: where every command completes and with what effect, what it leaves as it was, and
what holds of the machine as a whole. -/

open Sys2Proof Sys2Proof.Machine

/-! ### The machine as a whole -/

/-- A step is exec of the command at the front of the queue, with the queue's rest. On an empty queue the block stays as it is:
that clause is the model's choice (log entry 2). -/
def Obligations.StepRunsTheFrontCommand : Prop :=
  (∀ (s : State) (c : Instr) (rest : List Instr), step { s with pending := c :: rest } = exec c { s with pending := rest }) ∧
  (∀ s : State, s.pending = [] → step s = .next s)

/-- What chip-scope reset leaves (00 Table 00-3, 02 R33, 08 R168, 13 Table 13-5, 19 R392 and R404, 15 R323), on the instance that
log entry 3 names. -/
def Obligations.ResetLeavesTheStatedValues : Prop :=
  State.reset.legal ∧ State.reset.stackOk ∧ State.reset.queueOk ∧ State.reset.pending = [] ∧ State.reset.parked = [] ∧ State.reset.time.now = 0 ∧
  State.reset.rd Dict.role = 0 ∧ State.reset.rd Dict.clockState = 0 ∧ State.reset.rd Dict.verdict = 0 ∧
  State.reset.rd Dict.powerState = 0 ∧ State.reset.rd Dict.myJob = 0xFFFF ∧ State.reset.rd Dict.keeperState = 0 ∧
  State.reset.rd Dict.calmWatch = 1000 ∧ State.reset.rd Dict.calmSuspect = 100000 ∧
  (∀ p, p < 2 → State.reset.rd Dict.laneState p = 1) ∧ (∀ o m, State.reset.cmdCode o m = 0xFE) ∧
  (∀ o m j, State.reset.rd o m j = o.init .die .leaf m)

/-- Every command, with whatever operands, leaves the block able to go on; it takes itself from the queue and nothing else, and an
instance stays of its build. -/
def Obligations.EveryStepGoesOn : Prop :=
  (∀ c s, ∃ t, exec c s = .next t ∧ t.pending = s.pending ∧ t.build = s.build) ∧
  (∀ s c rest, s.pending = c :: rest → ∃ t, step s = .next t ∧ t.pending = rest ∧ t.build = s.build) ∧
  (∀ (s : State) k, s.runsFor k)

/-- An instance stays legal (00 R1 to R3): Uhlyr-D is a leaf, and a tray chip is none, whatever straps, settings and writes say. -/
def Obligations.EveryStepKeepsTheInstanceLegal : Prop :=
  ∀ s t, s.legal → step s = .next t → t.legal

/-- The stacks' memory keeps its canonical form through every step. -/
def Obligations.EveryStepKeepsTheStacksForm : Prop :=
  ∀ s t, s.stackOk → step s = .next t → t.stackOk

/-- The stacks read what was last written, and every other byte as before; a range that becomes unpredictable leaves the others. -/
def Obligations.StacksHoldWhatWasWritten : Prop :=
  ∀ (m : Memory) (a : Nat) (bs : Bytes),
    (m.write a bs).readBytes a bs.length = bs ∧
    (∀ x, x < a ∨ a + bs.length ≤ x → (m.write a bs).read x = m.read x) ∧
    (∀ hi seed x, x < a ∨ hi ≤ x → (m.openUp a hi seed).read x = m.read x)

/-- 08 R178: no liveness state, verdict or barrier outcome changes membership. Of all commands, only the completion of an epoch's
application changes the membership table, and the chip-scope resets and the boot that follows one. -/
def Obligations.MembershipChangesOnlyByEpochs : Prop :=
  ∀ c s t, exec c s = .next t →
    match c with
    | .epochApplied .. | .chipScopeReset .. | .resetDelayExpiry .. | .resetEnd .. => True
    | _ => t.bar.member = s.bar.member

/-- Table 08-4: a verdict never moves below the evidence it rests on, and FAULTY is left only by VERDICT_CLEAR: beside resets and
the commands that may carry a write of VERDICT_CLEAR (LOGIC_READY serves one that was held), no command changes it. -/
def Obligations.FaultyIsLeftOnlyByClear : Prop :=
  (∀ (s : State) e, e ≤ 3 → e ≤ (s.moveVerdict e).1) ∧
  (∀ (s : State) e, (s.moveVerdict e).2.1 = true → (s.moveVerdict e).1 = e ∧ 2 ≤ e) ∧
  (∀ c s t, s.rd Dict.verdict = 3 → exec c s = .next t →
    match c with
    | .verdictClear .. | .objectWrite .. | .dapRead .. | .dapAbort .. | .cmdComplete .. | .h2bRing .. | .logicReady .. => True
    | .chipScopeReset .. | .blockScopeReset .. | .resetDelayExpiry .. | .resetEnd .. => True
    | _ => t.rd Dict.verdict = 3)

/-- While the core is not on (a power state below ACTIVE or entry to one, or a reset), a command of its own changes nothing but time
(log entry 10, the model's choice where the spec names no other taker); a request, a datagram or a message that comes to it is held by
its port or island, or discarded and counted, and changes nothing else but a wake (18 R367, 19 R391, R407). -/
def Obligations.SleepingCoreTakesNothing : Prop :=
  (∀ (c : Instr) (s : State),
    match c with
    | .keeperScopeReset dt .. | .keeperWatchdog dt .. | .pendTimeout dt .. | .segTimeout dt .. | .cmdInProgress dt ..
    | .cmdComplete dt .. | .heldCapture dt .. | .snapshotDrained dt .. | .dieVectorComplete dt .. | .engineVectorComplete dt ..
    | .bracketWait dt .. | .scoreRecordComplete dt .. | .loadEnd dt .. | .unloadDrained dt .. | .retire dt .. | .deadline dt ..
    | .mergeComplete dt .. | .verdictFormed dt .. | .stallTimeout dt .. | .nackTimeout dt .. | .ackHold dt .. | .ackReport dt ..
    | .barrierReport dt .. | .epochApplied dt .. | .overlayWait dt .. | .boundPeriod dt .. | .testDeadline dt ..
    | .sqSleep dt .. | .traceLineTimeout dt .. | .syncPeriod dt .. | .offloadFlush dt .. | .prcJobStop dt ..
    | .dataDecision dt .. | .gateEntryChange dt .. | .classDropFlush dt .. | .alarmSpaceFreed dt .. | .mirrorFlush dt ..
    | .negPeriod dt .. | .negFixed dt .. | .persistDone dt .. | .b2hRing dt .. | .mbTimeout dt .. | .dimIdle dt ..
    | .dvfsPeriod dt .. | .keeperVerified dt .. | .keeperPersisted dt .. | .keeperQuiescent dt .. | .keeperReady dt ..
    | .chunkTimeout dt .. | .journalLost dt .. | .leafJournalFlush dt .. | .ceB2hTransfer dt .. | .islandResetDone dt ..
    | .keeperResetDone dt .. | .dvfsChangeDone dt .. =>
      (s.elapse dt).coreOn = false → exec c s = .next ((s.elapse dt).within s)
    | .resetIslandLink dt .. | .resetIslandLoupe dt .. | .resetKeeper dt .. | .resetBlock dt .. | .resetChip dt ..
    | .objectWrite dt .. | .dapRead dt .. | .dapAbort dt .. | .dapResponse dt .. | .neighborSolicitation dt ..
    | .echoRequest dt .. | .timeNowWrite dt .. | .shutterApply dt .. | .clearEvents dt .. | .descApply dt ..
    | .cmdTableClear dt .. | .imageSegment dt .. | .stackWrite dt .. | .loadStack dt .. | .activate dt .. | .unload dt ..
    | .devPhaseWrite dt .. | .programApply dt .. | .reductionRecord dt .. | .centreRecord dt .. | .featureFrame dt ..
    | .verdictClear dt .. | .baselineReset dt .. | .arrival dt .. | .release dt .. | .bcast dt .. | .bcastAck dt ..
    | .hopAck dt .. | .epochSegment dt .. | .epochIssue dt .. | .bcastIssueJobStart dt .. | .bcastIssueJobTeardown dt ..
    | .bcastIssueHostMessage dt .. | .teardownDone dt .. | .overlayArm dt .. | .overlayDisarm dt .. | .digestRecord dt ..
    | .mismatchNotice dt .. | .boundReset dt .. | .boundEnforceWrite dt .. | .testRequest dt .. | .testCancel dt ..
    | .testDone dt .. | .traceEnableWrite dt .. | .offloadUnit dt .. | .storeRead dt .. | .prcStart dt .. | .prcResume dt ..
    | .prcAbort dt .. | .laneEnableWrite dt .. | .retrain dt .. | .routeMove dt .. | .gateApply dt .. | .alarmRecord dt ..
    | .mirrorMessage dt .. | .clearF dt .. | .clearO dt .. | .clearBoth dt .. | .fWindow dt .. | .oWindow dt .. | .negTake dt ..
    | .h2bData dt .. | .h2bRing dt .. | .b2hData dt .. | .b2hAck dt .. | .irqStatusWrite dt .. | .keeperUpdateLive dt ..
    | .keeperUpdateRestart dt .. | .dieIdWrite dt .. | .journalEnableWrite dt .. | .leafJournalMessage dt ..
    | .exportFreeze dt .. | .exportRelease dt .. =>
      (s.elapse dt).coreOn = false → Does c s (fun t => s.leaves dt t [.parked, .power] [Dict.mgmtDiscards] ∧
        (t.parked = (s.elapse dt).parked ∨ ∃ i, t.parked = (s.elapse dt).parked ++ [i]))
    | _ => True) ∧
  (∀ dt (rq : Requester) (r : DapReq) f (s u : State), u = s.elapse dt → u.coreOn = false → rq.src = .mailbox →
    ∃ via, (s.asked dt rq r f).parked = u.parked ++ [if r.op = 1 then .dapRead 0 .mailbox r via else .objectWrite 0 (.dap .mailbox r via)]) ∧
  (∀ dt p cls i f (s u : State), u = s.elapse dt → u.coreOn = false → u.inReset = false → u.laneUp p = true →
    (s.fromLane dt p cls i f).parked = u.parked ++ [i]) ∧
  (∀ dt i f (s u : State), u = s.elapse dt → u.coreOn = false → u.inReset = false → u.isTrayChip = true →
    (u.mgmtHeld < 16 → (s.fromMgmt dt false i f).parked = u.parked ++ [i]) ∧
    (16 ≤ u.mgmtHeld → (s.fromMgmt dt false i f).parked = u.parked ∧
      (s.fromMgmt dt false i f).rd Dict.mgmtDiscards = satTo (8 * Dict.mgmtDiscards.ty.bytes) (u.rd Dict.mgmtDiscards + 1)))

/-- 18 R369: writing 1 to a sticky bit of IRQ_STATUS clears it and leaves the others; HB_IRQ is high exactly while a bit is both set
and enabled; at the host port the write does just that. -/
def Obligations.StatusBitsClearByWritingOnes : Prop :=
  (∀ st w i, (irqCleared st w).testBit i = (st.testBit i && !(decide (1 ≤ i) && decide (i ≤ 5) && w.testBit i))) ∧
  (∀ s : State, s.hbIrq = true ↔ ∃ i, s.irqStatus.testBit i = true ∧ s.mb.irqEnable.testBit i = true) ∧
  (∀ (s : State) b i, (s.setIrq b).mb.irqStatus.testBit i = (s.mb.irqStatus.testBit i || decide (i = b))) ∧
  (∀ dt w s u, u = s.elapse dt → u.coreOn = true → u.isDie = true →
    Does (.irqStatusWrite dt w) s (fun t => ∀ i, t.mb.irqStatus.testBit i =
      (u.mb.irqStatus.testBit i && !(decide (1 ≤ i) && decide (i ≤ 5) && w.testBit i))))

/-- 19 R399: RESET_CAUSE names the trigger of the last chip-scope reset, and each completed island-scope reset counts. -/
def Obligations.ResetCauseNamesTheTrigger : Prop :=
  (∀ dt s, Does (.chipScopeReset dt true) s (fun t => t.rst.busy = some (2, 0))) ∧
  (∀ dt s, Does (.chipScopeReset dt false) s (fun t => t.rst.busy = some (2, 1))) ∧
  (∀ dt s u a b, u = s.elapse dt → u.rst.requested = [{ scope := 2, response := b, left := some a }] → u.inChipReset = false →
    u.passed a 100000 = true → Does (.resetDelayExpiry dt) s (fun t => t.rst.busy = some (2, 2))) ∧
  (∀ dt s u cause, u = s.elapse dt → u.rst.busy = some (2, cause) → cause < 3 →
    ∃ (v : State) (r : Role), v.rst.busy = none ∧ v.rd Dict.resetCause = cause ∧
      Does (.resetEnd dt) s (fun t => t = v.serveHeld.within { s with role := r } ∧
        (u.parked = [] → u.ce.offered = [] → u.ce.inQ = [] → t.rst.busy = none ∧ t.rd Dict.resetCause = cause))) ∧
  (∀ dt s u i, u = s.elapse dt → u.coreOn = true → u.rst.islands = [i] →
    Does (.islandResetDone dt) s (fun t => t.rst.islands = [] ∧ t.rd Dict.islandResets = satTo 32 (u.rd Dict.islandResets + 1)))

/-- 12 R253: the residue, its zigzag, and the way back. -/
def Obligations.ZigzagReverses : Prop :=
  ∀ w x p, 0 < w → x < 2 ^ w → p < 2 ^ w →
    (0 ≤ toSigned w (x + 2 ^ w - p) → (prcZigzag w x p : Int) = 2 * toSigned w (x + 2 ^ w - p)) ∧
    (toSigned w (x + 2 ^ w - p) < 0 → (prcZigzag w x p : Int) = -2 * toSigned w (x + 2 ^ w - p) - 1) ∧
    (p + prcUnzigzag w (prcZigzag w x p)) % 2 ^ w = x

/-- 00 R11: round-half-even gives the nearest value, and of two equally near ones the even. -/
def Obligations.RoundHalfEvenIsNearest : Prop :=
  ∀ a b : Nat, 0 < b →
    (∀ q : Nat, ((2 * a : Int) - 2 * b * divRhe a b).natAbs ≤ ((2 * a : Int) - 2 * b * q).natAbs) ∧
    (∀ q : Nat, q ≠ divRhe a b → ((2 * a : Int) - 2 * b * divRhe a b).natAbs = ((2 * a : Int) - 2 * b * q).natAbs →
      divRhe a b % 2 = 0)

/-- Chapter 12: what the encoder writes, the decoder gives back, whatever follows it, and it takes exactly the block's bytes. -/
def Obligations.CodecGivesBackEveryBlock : Prop :=
  ∀ widthCode vlen k0 brSearch inp rest, widthCode < 4 → 1 ≤ vlen → vlen * (prcWidthBits widthCode / 8) ≤ 4096 →
    k0 < prcWidthBits widthCode → brSearch < 256 → 0 < inp.length → inp.length ≤ 4096 →
    inp.length % (vlen * (prcWidthBits widthCode / 8)) = 0 →
    prcDecode (prcEncode widthCode vlen k0 brSearch inp ++ rest) = .ok (inp, (prcEncode widthCode vlen k0 brSearch inp).length)

/-- Messages read back as they were laid out: DAP requests (Table 15-1), epoch entries (Table 09-4) one by one and in a row, and
field descriptors (Table 07-1); and the 128-bit messages of the command-event port (Table 18-4). -/
def Obligations.MessagesReadBack : Prop :=
  (∀ r : DapReq, r.ok = true → DapReq.read? r.bytes = some r) ∧
  (∀ e : EpochEntry, e.ok = true → e.bytes.length = 8 ∧ EpochEntry.decode e.bytes = e) ∧
  (∀ es : List EpochEntry, (∀ e ∈ es, e.ok = true) → decodeEntries ((es.map EpochEntry.bytes).flatten) = es) ∧
  (∀ d : FieldDesc, d.op < 16 → d.srcKind < 16 → d.srcIndex < 4096 → d.codeMode < 4 → d.hshift < 64 →
    -(2 ^ 63 : Int) ≤ d.hbase → d.hbase < 2 ^ 63 → FieldDesc.decode d.bytes = d) ∧
  (∀ m : CeMsg, m.ok = true → CeMsg.ofBits? m.bits = some m)

/-! ### Where each command completes, and its effect -/

/-- Chapter 19, power: entry, the wake order, the tree array's clock (R390, R393, R395; 11 R247 for the drain). -/
def Obligations.PowerCommandsComplete : Prop :=
  (∀ dt s u, u = s.elapse dt → u.coreOn = true → u.idleFor (u.rd Dict.dimIdle * 1000) = true →
    (∀ e ∈ u.tr.sources, e.2.enabled = false) →
    Does (.dimIdle dt) s (fun t => t.rd Dict.powerState = 1 ∧ t.pw.entering = none)) ∧
  (∀ dt s u, u = s.elapse dt → u.rd Dict.powerState ≤ 1 → u.idleFor (u.rd Dict.safelightIdle * 1000000) = true →
    Does (.safelightIdle dt) s (fun t => t.pw.entering = some 2)) ∧
  (∀ dt s u st, u = s.elapse dt → u.inChipReset = false → u.pw.entering = some st → st < 3 → u.tr.lines = [] →
    Does (.powerEntryDone dt) s (fun t => t.rd Dict.powerState = st ∧ t.pw.entering = none ∧ t.pw.heldWake = none ∧
      ∀ w, u.pw.heldWake = some w → t.pw.waking = some w ∧ t.pw.wakeFrom = st ∧ t.pw.steps = [])) ∧
  (∀ dt source detail cls s u, u = s.elapse dt → u.inReset = false → u.rd Dict.powerState ≠ 0 → u.pw.entering = none →
    u.pw.waking = none →
    Does (.wakeSource dt source detail cls) s (fun t =>
      t.pw.waking = some { source := source, detail := detail, cls := cls, t32 := u.t32 } ∧
      t.pw.wakeFrom = u.rd Dict.powerState ∧ t.pw.steps = [])) ∧
  (∀ dt source detail cls s u st, u = s.elapse dt → u.inReset = false → u.pw.entering = some st → u.pw.heldWake = none →
    Does (.wakeSource dt source detail cls) s (fun t =>
      t.pw.heldWake = some { source := source, detail := detail, cls := cls, t32 := u.t32 })) ∧
  (∀ c dt s u n, (c, n) ∈ [(Instr.regGood dt, 0), (Instr.pllLock dt, 1), (Instr.memReady dt, 2)] → u = s.elapse dt →
    u.inChipReset = false → u.pw.waking.isSome = true → u.pw.wakeFrom = 2 → u.pw.steps.length = n →
    Does c s (fun t => t.pw.steps = u.pw.steps ++ [min 65535 ((u.time.now - u.pw.stepSince) / (100 * nsUnits))] ∧
      t.pw.stepSince = u.time.now)) ∧
  (∀ dt s u w, u = s.elapse dt → u.inChipReset = false → u.pw.waking = some w →
    (u.pw.wakeFrom = 1 ∨ u.pw.wakeFrom = 2 ∧ u.pw.steps.length = 3) →
    ∃ v : State, (v.rd Dict.powerState = 0 ∧ v.pw.waking = none ∧ v.parked = u.parked ∧ v.ce.offered = u.ce.offered ∧
      v.rdBytes Dict.lastWake = leBytes 16 (wakeBits w u.pw.wakeFrom
        ((if u.pw.wakeFrom = 2 then u.pw.steps else [0, 0, 0]) ++
          [min 65535 ((u.time.now - u.pw.stepSince) / (100 * nsUnits))]))) ∧
      Does (.logicReady dt) s (fun t => t = v.serveHeld.within s)) ∧
  (∀ (v : State) i, v.parked = [i] → v.isDie = false → v.serveHeld = State.serveOne { v with parked := [] } i) ∧
  (∀ dt s u, u = s.elapse dt → u.coreOn = true → u.isDie = false → u.passed u.pw.dvfsLast 100000 = true →
    Does (.dvfsPeriod dt) s (fun t => t.pw.dvfsLast = u.time.now ∧
      (u.flag Dict.dvfsEnable = false → u.rd Dict.devClock ≠ 1800 → t.pw.dvfsTarget = some 1800) ∧
      (u.flag Dict.dvfsEnable = true → dvfsMinOk (u.rd Dict.dvfsMin) = true → u.pw.unscoredSeen = true →
        u.rd Dict.dvfsMin ≤ u.rd Dict.devClock → u.rd Dict.devClock < 1800 →
        t.pw.dvfsTarget = some (min 1800 (u.rd Dict.devClock + 100))) ∧
      (u.flag Dict.dvfsEnable = true → dvfsMinOk (u.rd Dict.dvfsMin) = true → u.pw.unscoredSeen = false → u.pw.queueSeen = false →
        (∀ q ∈ u.dvfsQueues, 64 * q.1 < q.2) → u.pw.lowPeriods = 9 → u.rd Dict.dvfsMin + 100 ≤ u.rd Dict.devClock →
        u.rd Dict.devClock ≤ 1800 → t.pw.dvfsTarget = some (u.rd Dict.devClock - 100)))) ∧
  (∀ dt s u v, u = s.elapse dt → u.coreOn = true → u.pw.dvfsTarget = some v → v < 65536 →
    Does (.dvfsChangeDone dt) s (fun t => t.rd Dict.devClock = v ∧ t.pw.dvfsTarget = none))

/-- Chapter 19, keeper: update and keeper-scope reset (R398, R405, R406). -/
def Obligations.KeeperCommandsComplete : Prop :=
  (∀ dt rq persist s u, u = s.elapse dt → u.serves Dict.keeperUpdate → (u.isDie = true → persist = false) →
    u.actionOf (Dict.keeperUpdate.key 0 0) = none → u.kp.running = true →
    Does (.keeperUpdateLive dt rq persist) s (fun t =>
      t.kp.update = some { live := true, persist := persist, phase := .verifying, since := u.time.now } ∧
      t.rd Dict.keeperState = 2 ∧ t.cmdCode Dict.keeperUpdate = 0xFF)) ∧
  (∀ dt rq persist s u, u = s.elapse dt → u.serves Dict.keeperUpdate → (u.isDie = true → persist = false) →
    u.actionOf (Dict.keeperUpdate.key 0 0) = none →
    Does (.keeperUpdateRestart dt rq persist) s (fun t =>
      t.kp.update = some { live := false, persist := persist, phase := .verifying, since := u.time.now } ∧
      t.rd Dict.keeperState = 2 ∧ t.cmdCode Dict.keeperUpdate = 0xFF)) ∧
  (∀ dt s u k, u = s.elapse dt → u.coreOn = true → u.kp.update = some k → k.phase = .verifying → u.rst.keeper = none →
    Does (.keeperVerified dt) s (fun t =>
      if u.keeperTest u.kp.staged ≠ 0 then t.kp.update = none
      else if k.live = true ∧ imageFormat u.kp.staged ≠ u.kp.stateFormat then t.kp.update = none
      else if k.persist = true then (t.kp.update.map (·.phase)) = some .persisting ∧ t.rd Dict.keeperState = 3
      else if k.live = true then (t.kp.update.map (·.phase)) = some .quiescing
      else (t.kp.update.map (·.phase)) = some .restarting ∧ t.rst.keeper.isSome = true ∧ t.rd Dict.keeperState = 5)) ∧
  (∀ dt s u k, u = s.elapse dt → u.coreOn = true → u.kp.update = some k → k.phase = .persisting → u.rst.keeper = none →
    Does (.keeperPersisted dt true) s (fun t =>
      (t.kp.update.map (·.phase)) = some (if k.live then .quiescing else .restarting) ∧
      (if u.rd Dict.bootResult / 64 = 0 then t.flash.slotB else t.flash.slotA) = u.kp.staged.take (keeperLength u.kp.staged))) ∧
  (∀ dt s u k, u = s.elapse dt → u.coreOn = true → u.kp.update = some k → k.phase = .persisting → u.rst.keeper = none →
    Does (.keeperPersisted dt false) s (fun t => t.kp.update = none ∧ t.flash = u.flash)) ∧
  (∀ dt s u k, u = s.elapse dt → u.coreOn = true → u.kp.update = some k → k.phase = .quiescing → u.rst.keeper = none →
    u.keeperQuiet = true →
    Does (.keeperQuiescent dt) s (fun t => (t.kp.update.map (·.phase)) = some .paused ∧ t.rd Dict.keeperState = 4)) ∧
  (∀ dt s u k, u = s.elapse dt → u.coreOn = true → u.kp.update = some k → k.phase = .quiescing → u.rst.keeper = none →
    u.keeperQuiet = false → u.passed k.since 100000000 = true →
    Does (.keeperQuiescent dt) s (fun t => t.kp.update = none ∧ t.kp.running = u.kp.running)) ∧
  (∀ dt s u k, u = s.elapse dt → u.coreOn = true → u.kp.update = some k → (k.phase = .paused ∨ k.phase = .restarting) →
    Does (.keeperReady dt true) s (fun t => t.kp.update = none ∧ t.kp.running = true ∧ t.rst.keeper = none ∧
      t.rd Dict.keeperVersion = imageVersion u.kp.staged ∧ t.rd Dict.keeperState = 1)) ∧
  (∀ dt s u k, u = s.elapse dt → u.coreOn = true → u.kp.update = some k → (k.phase = .paused ∨ k.phase = .restarting) →
    Does (.keeperReady dt false) s (fun t => t.kp.update = none ∧ t.kp.running = u.kp.running ∧ t.rst.keeper = none ∧
      t.rd Dict.keeperVersion = u.rd Dict.keeperVersion)) ∧
  (∀ c dt s u cause, (c, cause) ∈ [(Instr.keeperScopeReset dt, 0), (Instr.keeperWatchdog dt, 1)] → u = s.elapse dt →
    u.coreOn = true →
    Does c s (fun t =>
      t.rst.keeper = some (cause, (u.dap.actions.filter (fun a => keeperKeys.contains a.key)).length) ∧
      t.rd Dict.keeperState = 5 ∧ t.kp.update = none ∧ t.dap.reads = [] ∧ t.dap.writes = [] ∧
      ∀ a ∈ t.dap.actions, keeperKeys.contains a.key = false)) ∧
  (∀ dt s u, u = s.elapse dt → u.coreOn = true → u.rst.keeper.isSome = true → u.kp.update = none →
    Does (.keeperResetDone dt) s (fun t => t.rst.keeper = none ∧ t.rd Dict.keeperState = bit u.kp.running))

/-- Chapter 19, resets (R396, R397, R399, R402). -/
def Obligations.ResetCommandsComplete : Prop :=
  (∀ dt rq s u, u = s.elapse dt → u.serves Dict.resetCmd →
    Does (.resetIslandLink dt rq) s (fun t => t.cmdCode Dict.resetCmd = 0 ∧ t.rst.islands = u.rst.islands ++ [2] ∧
      ∀ p, p < u.ports → u.laneUp p = true → t.rd Dict.laneState p = 2)) ∧
  (∀ dt rq i s u, u = s.elapse dt → u.serves Dict.resetCmd → u.isDie = true → i < 32 →
    Does (.resetIslandLoupe dt rq i) s (fun t => t.cmdCode Dict.resetCmd = 0 ∧ t.rst.islands = u.rst.islands ++ [0x10 + i])) ∧
  (∀ c dt rq s u scope, (c, scope) ∈ [(Instr.resetBlock dt rq, 1), (Instr.resetChip dt rq, 2), (Instr.resetKeeper dt rq, 3)] →
    u = s.elapse dt → u.serves Dict.resetCmd →
    Does c s (fun t => t.cmdCode Dict.resetCmd = 0 ∧ t.rst.busy = u.rst.busy ∧
      t.rst.requested = u.rst.requested ++
        [{ scope := scope, response := u.answerBytes (rq.write Dict.resetCmd 0) 0 0 0 [] 0, left := none }])) ∧
  (∀ u b a r, u.rst.requested = [r] → r.left = none → r.response = b →
    (State.responseLeft u b a).rst.requested = [{ r with left := some a }]) ∧
  (∀ dt s u a b, u = s.elapse dt → u.rst.requested = [{ scope := 3, response := b, left := some a }] → u.rst.busy = none →
    u.passed a 100000 = true →
    Does (.resetDelayExpiry dt) s (fun t => t.rst.requested = [] ∧ t.rst.keeper.isSome = true ∧ t.rd Dict.keeperState = 5)) ∧
  (∀ dt s u a b, u = s.elapse dt → u.rst.requested = [{ scope := 1, response := b, left := some a }] → u.rst.busy = none →
    u.passed a 100000 = true →
    Does (.resetDelayExpiry dt) s (fun t => t.rst.requested = [] ∧ t.rst.busy = some (1, 2))) ∧
  (∀ dt s u a b, u = s.elapse dt → u.rst.requested = [{ scope := 2, response := b, left := some a }] → u.inChipReset = false →
    u.passed a 100000 = true →
    Does (.resetDelayExpiry dt) s (fun t => t.rst.requested = [] ∧ t.rst.busy = some (2, 2))) ∧
  (∀ dt powerOn s u, u = s.elapse dt →
    Does (.chipScopeReset dt powerOn) s (fun t => t.rst.busy = some (2, if powerOn then 0 else 1) ∧ t.flash = { u.flash with mode := none } ∧
      t.parked = u.parked.filter ofHost ∧ t.ce.offered = u.ce.offered ∧
      (∀ o m j, t.rd o m j = o.init u.build u.role m) ∧ (∀ o m, t.cmdCode o m = 0xFE) ∧
      (powerOn = true → ∀ a, t.stack.read a = stackDefault))) ∧
  (∀ dt s u, u = s.elapse dt → u.isDie = true → u.inReset = false →
    Does (.blockScopeReset dt) s (fun t => t.rst.busy = some (1, 1) ∧
      (∀ p, p < 2 → t.rd Dict.laneState p = bit (t.flag Dict.laneEnable p)) ∧
      t.dap.pending = [] ∧ t.dap.reads = [] ∧ t.dap.writes = [] ∧ t.recd = u.recd ∧ t.time.now = u.time.now ∧ t.parked = u.parked.filter ofHost)) ∧
  (∀ dt s u cause, u = s.elapse dt → u.rst.busy = some (1, cause) →
    ∃ v : State, (v.rst.busy = none ∧ v.rst.lanesDown = [] ∧ v.time.held = [] ∧ v.parked = u.parked) ∧
      Does (.resetEnd dt) s (fun t => t = v.serveHeld.within s)) ∧
  (∀ dt s u cause, u = s.elapse dt → u.rst.busy = some (2, cause) → cause < 3 → u.isDie = true →
    ∃ v : State, (v.rst.busy = none ∧ v.time.now = 0 ∧ v.rd Dict.resetCause = cause ∧ v.parked = u.parked) ∧
      Does (.resetEnd dt) s (fun t => t = v.serveHeld.within s)) ∧
  (∀ dt s u cause, u = s.elapse dt → u.rst.busy = some (2, cause) → cause < 3 → u.isDie = false →
    ∃ (v : State) (r : Role), (v.rst.busy = none ∧ v.time.now = 0 ∧ r ≠ .leaf ∧ v.parked = u.parked) ∧
      Does (.resetEnd dt) s (fun t => t = v.serveHeld.within { s with role := r })) ∧
  (∀ dt s u, u = s.elapse dt → u.coreOn = true →
    Does (.islandResetDone dt) s (fun t => t.rst.islands = [] ∧ t.rst.owed = u.rst.owed))

/-- Chapter 13, the lane state machine (Table 13-5; R284 to R286, R444). -/
def Obligations.LaneCommandsComplete : Prop :=
  (∀ dt rq p s u, u = s.elapse dt → u.serves Dict.laneEnable p → p < u.ports →
    Does (.laneEnableWrite dt rq p 0) s (fun t => t.rd Dict.laneEnable p = 0 ∧ t.rd Dict.laneState p = 0 ∧
      (u.isTrayChip = true → t.rd Dict.laneLaserBias p = 0))) ∧
  (∀ dt rq p s u, u = s.elapse dt → u.serves Dict.laneEnable p → p < u.ports →
    Does (.laneEnableWrite dt rq p 1) s (fun t => t.rd Dict.laneEnable p = 1 ∧
      t.rd Dict.laneState p = if u.rd Dict.laneState p = 0 then 1 else u.rd Dict.laneState p)) ∧
  (∀ dt p s u, u = s.elapse dt → u.inReset = false → p < u.ports → u.rd Dict.laneState p = 1 →
    Does (.laneLock dt p) s (fun t => t.rd Dict.laneState p = 2 ∧ t.rd Dict.laneTrainStep p = 1 ∧ (t.lane p).entered = u.time.now)) ∧
  (∀ dt p s u g, u = s.elapse dt → u.inReset = false → p < u.ports → u.rd Dict.laneState p = 2 → (u.lane p).identSeen = true →
    g = (u.joinGroup p).groupOf p →
    Does (.trainingComplete dt p) s (fun t => t.rd Dict.laneState p = 3 ∧ t.rd Dict.laneTrainStep p = 0xFF ∧
      t.groupOf p = g ∧ t.rd Dict.laneGroup p = g ∧
      ((u.joinGroup p).groupUp g = false → (t.link g).expect = 0 ∧ (t.link g).taken = []))) ∧
  (∀ dt p s u, u = s.elapse dt → u.inReset = false → p < u.ports → u.rd Dict.laneState p = 2 → (u.lane p).identSeen = false →
    Does (.trainingComplete dt p) s (fun t => t.rd Dict.laneState p = 2 ∧ t.lnk = u.lnk ∧ t.out = u.out)) ∧
  (∀ dt p s u, u = s.elapse dt → u.inReset = false → p < u.ports → u.rd Dict.laneState p = 3 →
    Does (.lockLost dt p) s (fun t => t.rd Dict.laneState p = 4 ∧ t.rd Dict.laneTrainStep p = 0xFF ∧ (t.lane p).cause = 0 ∧
      t.rd Dict.laneDownEvents p = satTo 32 (u.rd Dict.laneDownEvents p + 1))) ∧
  (∀ dt p s u, u = s.elapse dt → u.inChipReset = false → p < u.ports → u.rd Dict.laneState p = 2 →
    u.passed (u.lane p).entered (u.rd Dict.trainLimit * 1000000) = true →
    Does (.trainLimit dt) s (fun t => t.rd Dict.laneState p = 4 ∧ (t.lane p).cause = (u.lane p).cause ∧
      t.rd Dict.laneTrainFails p = satTo 32 (u.rd Dict.laneTrainFails p + 1))) ∧
  (∀ dt p s u, u = s.elapse dt → u.inReset = false → p < u.ports → u.rd Dict.laneState p = 2 →
    Does (.trainingSignalLost dt p) s (fun t => t.rd Dict.laneState p = 4 ∧ (t.lane p).cause = (u.lane p).cause ∧
      t.rd Dict.laneTrainFails p = satTo 32 (u.rd Dict.laneTrainFails p + 1))) ∧
  (∀ dt p s u, u = s.elapse dt → u.inChipReset = false → p < u.ports → u.rd Dict.laneState p = 4 →
    u.passed (u.lane p).entered (u.rd Dict.failHold * 1000000) = true →
    Does (.failHold dt) s (fun t => t.rd Dict.laneState p = 1 ∧ t.rd Dict.laneTrainFails p = u.rd Dict.laneTrainFails p)) ∧
  (∀ dt rq p s u, u = s.elapse dt → u.serves Dict.laneRetrain p → p < u.ports → u.laneUp p = true →
    Does (.retrain dt rq p) s (fun t => t.rd Dict.laneState p = 2 ∧ t.rd Dict.laneTrainStep p = 1 ∧ (t.lane p).cause = 2 ∧
      t.cmdCode Dict.laneRetrain p = 0))

/-- Chapter 13, what arrives and leaves on a lane that trains or adapts (R285, R286, R444). -/
def Obligations.TrainingFramesComplete : Prop :=
  (∀ dt p tap step cause s u, u = s.elapse dt → u.inReset = false → p < u.ports → u.rd Dict.laneState p = 3 →
    Does (.train dt p tap step 1 cause) s (fun t => t.rd Dict.laneState p = 2 ∧ (t.lane p).cause = cause) ∧
    Does (.train dt p tap step 2 cause) s (fun t => t.rd Dict.laneState p = 4 ∧ (t.lane p).cause = cause)) ∧
  (∀ dt p payload s u, u = s.elapse dt → u.inReset = false → p < u.ports →
    u.rd Dict.laneState p = 2 ∨ u.rd Dict.laneState p = 3 →
    Does (.ident dt p payload) s (fun t => (t.lane p).identSeen = true ∧
      t.rd Dict.laneFramesRx p = (u.rd Dict.laneFramesRx p + 1) % 2 ^ 64 ∧ t.rdBytes Dict.laneNeighbour p = leBytes 16 payload ∧
      ∀ q, q < u.ports → q ≠ p → t.rdBytes Dict.laneNeighbour q = u.rdBytes Dict.laneNeighbour q)) ∧
  (∀ dt p s u, u = s.elapse dt → u.inReset = false → p < u.ports → u.rd Dict.laneState p = 3 →
    Does (.equaliserAdapt dt p) s (fun t => t.rd Dict.laneState p = 3 ∧
      (t.rd Dict.laneRxCtle p ≤ 15 ∨ t.rd Dict.laneRxCtle p = u.rd Dict.laneRxCtle p) ∧
      (u.rd Dict.laneRxCtle p ≤ 15 → u.rd Dict.laneRxCtle p ≤ t.rd Dict.laneRxCtle p + 1 ∧ t.rd Dict.laneRxCtle p ≤ u.rd Dict.laneRxCtle p + 1) ∧
      (u.since (u.lane p).stepAt 10000 = false → t.rd Dict.laneRxCtle p = u.rd Dict.laneRxCtle p ∧
        t.rd Dict.laneRxDfe p = u.rd Dict.laneRxDfe p) ∧
      (u.since (u.lane p).trainAt 1000000 = false → t.out = u.out))) ∧
  (∀ dt p s u, u = s.elapse dt → u.inReset = false → p < u.ports → u.rd Dict.laneState p = 3 → u.isDie = false →
    (u.since (u.lane p).biasAt 1000000 = true → u.rd Dict.laneLaserBias p ≤ 1000 →
      Does (.laserLoop dt p) s (fun t => 200 ≤ t.rd Dict.laneLaserBias p ∧ t.rd Dict.laneLaserBias p ≤ 1000 ∧
        (t.lane p).biasAt = some u.time.now)) ∧
    (u.since (u.lane p).biasAt 1000000 = false →
      Does (.laserLoop dt p) s (fun t => t.rd Dict.laneLaserBias p = u.rd Dict.laneLaserBias p ∧ t.recd = u.recd))) ∧
  (∀ dt p s u, u = s.elapse dt → u.inReset = false → p < u.ports → u.rd Dict.laneState p = 4 →
    Does (.trainFrameInterval dt p) s (fun t => (∃ b, t.out = Output.frame p b :: u.out) ∧ t.rd Dict.laneState p = 4)) ∧
  (∀ dt p s u, u = s.elapse dt → u.inReset = false → p < u.ports → u.rd Dict.laneState p = 2 → u.rd Dict.laneTrainStep p ≤ 3 →
    Does (.trainFrameInterval dt p) s (fun t => u.rd Dict.laneTrainStep p ≤ t.rd Dict.laneTrainStep p ∧
      t.rd Dict.laneTrainStep p ≤ 3)) ∧
  (∀ dt p s u, u = s.elapse dt → u.inReset = false → p < u.ports → u.rd Dict.laneState p = 2 → u.rd Dict.laneTrainStep p = 3 →
    (u.lane p).identDone = false → u.since (u.lane p).identAt 10000 = true →
    Does (.trainFrameInterval dt p) s (fun t => (t.lane p).identAt = some u.time.now ∧ (t.lane p).identDone = (u.lane p).identSeen))

/-- Chapter 13, acknowledgement, retry, credit (R280, R281, R283). -/
def Obligations.LinkCommandsComplete : Prop :=
  (∀ dt p a s u g f n, u = s.elapse dt → u.inReset = false → p < u.ports → u.rd Dict.laneState p = 3 → g = u.groupOf p →
    (u.link g).replay.head? = some f → n = (a + 4096 - f.seq % 4096) % 4096 → 0 < n → n ≤ (u.link g).replay.length →
    Does (.ack dt p a) s (fun t => (t.link g).advanced = u.time.now ∧ (t.link g).resent = 0 ∧ t.sch = u.sch ∧
      t.rd Dict.laneFramesRx p = (u.rd Dict.laneFramesRx p + 1) % 2 ^ 64 ∧
      ∃ more, (t.link g).replay = (u.link g).replay.drop n ++ more ∧ ((u.link g).waiting = [] → more = []))) ∧
  (∀ dt p s u g f, u = s.elapse dt → u.inReset = false → p < u.ports → u.rd Dict.laneState p = 3 → g = u.groupOf p →
    (u.link g).replay.head? = some f → f.seq < 4096 → (u.link g).resent + 1 < u.rd Dict.retryLimit →
    Does (.nak dt p f.seq) s (fun t => (t.link g).replay = (u.link g).replay ∧ (t.link g).resent = (u.link g).resent + 1 ∧
      (t.link g).advanced = u.time.now ∧ t.out.length = u.out.length + (u.link g).replay.length)) ∧
  (∀ dt p s u g f, u = s.elapse dt → u.inReset = false → p < u.ports → u.rd Dict.laneState p = 3 → g = u.groupOf p →
    (u.link g).replay.head? = some f → f.seq < 4096 → u.rd Dict.retryLimit ≤ (u.link g).resent + 1 →
    Does (.nak dt p f.seq) s (fun t => t.rd Dict.laneState p = 4 ∧ (t.lane p).cause = 1)) ∧
  (∀ dt s u g, u = s.elapse dt → u.inChipReset = false → g ∈ u.groupList → u.groupUp g = true → (u.link g).replay ≠ [] →
    u.passed (u.link g).advanced (u.rd Dict.replayTimeout) = true → (u.link g).resent + 1 < u.rd Dict.retryLimit →
    Does (.replayTimeout dt) s (fun t => (t.link g).resent = (u.link g).resent + 1 ∧ (t.link g).advanced = u.time.now)) ∧
  (∀ dt p credits s u g, u = s.elapse dt → u.inReset = false → p < u.ports → u.rd Dict.laneState p = 3 → g = u.groupOf p →
    credits.length = 8 →
    Does (.credit dt p credits) s (fun t => ∀ c, c < 8 → Tbl.get? (t.link g).credit c = credits[c]?)) ∧
  (∀ dt s u g, u = s.elapse dt → u.inChipReset = false → g ∈ u.groupList → u.groupUp g = true →
    u.passed (u.link g).lastCredit 10000 = true →
    Does (.creditRefresh dt) s (fun t => (t.link g).lastCredit = u.time.now ∧ u.out.length < t.out.length)) ∧
  (∀ dt p cls n s u g, u = s.elapse dt → u.inReset = false → p < u.ports → u.rd Dict.laneState p = 3 → g = u.groupOf p →
    Does (.dataFrame dt p true (u.link g).expect cls n none none) s (fun t =>
      (t.link g).expect = ((u.link g).expect + 1) % 4096 ∧ (t.link g).nakSince = none ∧
      t.rd Dict.laneFramesRx p = (u.rd Dict.laneFramesRx p + 1) % 2 ^ 64 ∧
      Tbl.getD (t.link g).taken cls 0 = (Tbl.getD (u.link g).taken cls 0 + creditUnits n) % 65536)) ∧
  (∀ dt p good seq cls n relay s u g, u = s.elapse dt → u.inReset = false → p < u.ports → u.rd Dict.laneState p = 3 →
    g = u.groupOf p → (good = false ∨ seq ≠ (u.link g).expect) → (u.link g).nakSince = none →
    Does (.dataFrame dt p good seq cls n none relay) s (fun t =>
      (t.link g).expect = (u.link g).expect ∧ (t.link g).nakSince = some u.time.now ∧ t.rt = u.rt ∧ t.red = u.red ∧
      (good = false → t.rd Dict.laneCrcErrors p = satTo (8 * Dict.laneCrcErrors.ty.bytes) (u.rd Dict.laneCrcErrors p + 1)))) ∧
  (∀ dt p seq cls n ack relay s u, u = s.elapse dt → u.inReset = false → p < u.ports → u.rd Dict.laneState p = 2 →
    Does (.dataFrame dt p false seq cls n ack relay) s (fun t => t.rd Dict.laneState p = 2 ∧ t.lnk = u.lnk ∧ t.out = u.out ∧
      t.rd Dict.laneCrcErrors p = satTo (8 * Dict.laneCrcErrors.ty.bytes) (u.rd Dict.laneCrcErrors p + 1)))

/-- Chapter 13, routes (R287 to R289, R292; 15 R446). -/
def Obligations.RouteCommandsComplete : Prop :=
  (∀ dt p ff dies s u g, u = s.elapse dt → u.inReset = false → p < u.ports → u.rd Dict.laneState p = 3 → u.isDown p = true →
    g = u.groupOf p →
    Does (.routeJoin dt p (u.link g).expect ff dies) s (fun t =>
      ∀ d ∈ dies, (Tbl.get? t.rt.table d).bind (·.next) = some (some g, ff))) ∧
  (∀ dt p ff dies s u g, u = s.elapse dt → u.inReset = false → p < u.ports → u.rd Dict.laneState p = 3 → u.isDown p = true →
    g = u.groupOf p →
    Does (.routeMoveLeg dt p (u.link g).expect ff 0 dies) s (fun t =>
      (∀ d ∈ dies, (Tbl.get? t.rt.table d).bind (·.next) = some (some g, ff)) ∧
      { leg := 0, start := ff, port := g, old := none, dies := dies } ∈ t.rt.legs)) ∧
  (∀ dt p ff dies s u g, u = s.elapse dt → u.inReset = false → p < u.ports → u.rd Dict.laneState p = 3 → u.isDown p = true →
    g = u.groupOf p →
    Does (.routeMoveLeg dt p (u.link g).expect ff 1 dies) s (fun t =>
      ∀ d ∈ dies, (Tbl.get? t.rt.table d).bind (·.next) = some (some g, ff))) ∧
  (∀ dt p ff dies s u g, u = s.elapse dt → u.inReset = false → p < u.ports → u.rd Dict.laneState p = 3 → u.isDie = false →
    u.isDown p = false → g = u.groupOf p →
    Does (.routeMoveLeg dt p (u.link g).expect ff 2 dies) s (fun t =>
      ∀ d ∈ dies, (Tbl.get? t.rt.table d).bind (·.next) = some (none, ff))) ∧
  (∀ dt p s u g b, u = s.elapse dt → u.inReset = false → p < u.ports → u.rd Dict.laneState p = 3 → g = u.groupOf p →
    u.role ≠ .root → u.upwardOf g = some b → u.movePending = false → u.routeBuddy u.frameNow = b → u.upGroupUp (!b) = true →
    Does (.parentLost dt p (u.link g).expect) s (fun t =>
      t.rt.entries = { buddy := !b, start := some (u.firstFrame (u.rd Dict.routeLead)) } :: u.rt.entries)) ∧
  (∀ dt rq b s u, u = s.elapse dt → u.serves Dict.routeMove → u.upGroupUp b = true → u.movePending = false →
    u.routeBuddy u.frameNow ≠ b →
    Does (.routeMove dt rq (bit b)) s (fun t => t.cmdCode Dict.routeMove = 0 ∧
      t.rt.entries = { buddy := b, start := some (u.firstFrame (u.rd Dict.routeLead)) } :: u.rt.entries)) ∧
  (∀ dt s u t0, u = s.elapse dt → u.inChipReset = false → u.role ≠ .root → u.rt.homeSince = some t0 →
    u.passed t0 (u.rd Dict.homeHold * 1000000) = true → u.movePending = false → u.routeBuddy u.frameNow = true →
    u.upGroupUp false = true → u.flag Dict.routeHome = true →
    Does (.homeHold dt) s (fun t => t.rt.homeSince = none ∧
      t.rt.entries = { buddy := false, start := some (u.firstFrame (u.rd Dict.routeLead)) } :: u.rt.entries)) ∧
  (∀ dt rq v s u, u = s.elapse dt → u.serves Dict.dieId → u.isDie = true → u.rd Dict.dieId = 0xFFFFFFFF → v < 131072 →
    Does (.dieIdWrite dt rq v) s (fun t => t.rd Dict.dieId = v ∧
      ∀ g, u.routeNow = some g → u.groupUp g = true → (u.link g).waiting = [] → u.replayRoom g 40 = true → (t.link g).replay.length = (u.link g).replay.length + 1))

/-- Chapter 14, the DATA decision, gate lists, drops (R299, R300, R306, R312). -/
def Obligations.SchedulerCommandsComplete : Prop :=
  (∀ dt g s u, u = s.elapse dt → u.coreOn = true → u.bootTray = false → g ∈ u.groupList → u.groupUp g = true →
    u.replayRoom g 2048 = true → u.class0Ready g = true →
    Does (.dataDecision dt g) s (fun t => t.sch.alarms ++ t.sch.waiting = u.sch.alarms.drop 64 ++ u.sch.waiting ∧
      (t.link g).replay.length = (u.link g).replay.length + 1)) ∧
  (∀ dt g s u v c rest f, u = s.elapse dt → u.coreOn = true → u.bootTray = false → g ∈ u.groupList → u.groupUp g = true →
    u.replayRoom g 2048 = true → u.class0Ready g = false → v = ((u.latch g).admitAll g).refresh g → (v.gq g).active = c :: rest →
    ((v.gq g).of c).head? = some f →
    f.bytes.length ≤ Tbl.getD (v.gq g).deficit c 0 + (if (v.gq g).fresh.testBit c then v.quantum g c else 0) →
    Does (.dataDecision dt g) s (fun t => t.sch.alarms = u.sch.alarms ∧
      (t.link g).replay = (u.link g).replay ++ [{ seq := (u.link g).nextSeq, typ := 0, cls := c, frame := f }] ∧
      (∀ o m, o.idx + m = 0x3000 + g → o.sub < 256 → t.rdAt o m = t.rd o m) ∧
      ((u.gq g).held = [] → (t.gq g).of c = ((u.gq g).of c).drop 1))) ∧
  (∀ dt rq p s u, u = s.elapse dt → u.serves Dict.grpGateApply p → u.groupOf p = p → u.gatesValid p = true →
    u.time.now + 100000 * nsUnits ≤ nsOfTime80 (u.rd Dict.grpGateBase p) * nsUnits →
    Does (.gateApply dt rq p) s (fun t => t.cmdCode Dict.grpGateApply p = 0 ∧
      (t.gq p).gates.head? = some { base := nsOfTime80 (u.rd Dict.grpGateBase p), cycle := u.rd Dict.grpGateCycle p, entries := u.stagedGates p } ∧
      (t.gq p).gatesNext u.time.now = (t.gq p).gates.head? ∧ (t.gq p).gatesAt u.time.now = (u.gq p).gatesAt u.time.now)) ∧
  (∀ dt rq p s u, u = s.elapse dt → u.serves Dict.grpGateApply p → u.groupOf p = p →
    nsOfTime80 (u.rd Dict.grpGateBase p) * nsUnits < u.time.now + 100000 * nsUnits →
    Does (.gateApply dt rq p) s (fun t => t.cmdCode Dict.grpGateApply p = 1 ∧ (t.gq p).gates = (u.gq p).gates)) ∧
  (∀ dt g s u, u = s.elapse dt → u.coreOn = true → g ∈ u.groupList →
    Does (.gateEntryChange dt g) s (fun t => (t.gq g).gates = (u.gq g).gates ∧
      ∀ c, 1 ≤ c → c ≤ 7 → (u.eligible g c = true ↔ c ∈ (t.gq g).active) ∧
        (u.eligible g c = true → c ∉ (u.gq g).active → (t.gq g).fresh.testBit c = true ∧ Tbl.getD (t.gq g).deficit c 0 = 0) ∧
        (u.eligible g c = false → c ∈ (u.gq g).active → c ∉ (t.gq g).active ∧ Tbl.getD (t.gq g).deficit c 0 = 0))) ∧
  (∀ dt s u, u = s.elapse dt → u.coreOn = true → (∃ r ∈ u.sch.runs, u.passed r.since 1000000 = true) →
    Does (.classDropFlush dt) s (fun t => t.sch.runs = u.sch.runs.filter (fun r => !u.passed r.since 1000000)))

/-- Chapters 01, 14 and 17: alarms and records of children, the mirror (01 R26, 14 R299, 17 R357, R358): where ALARM_RECORD,
ALARM_SPACE_FREED, MIRROR_FLUSH and MIRROR_MESSAGE complete, and with what effect. An alarm of a child, with the ORIGIN record that R357
calls for behind it, follows the alarms that are there already, and no alarm is dropped; where it waits outside a full buffer is the
model's choice (log entry 43). -/
def Obligations.AlarmCommandsComplete : Prop :=
  (∀ dt p r s u, u = s.elapse dt → u.coreOn = true → u.isDown p = true → u.laneUp p = true → u.role ≠ .root →
    Does (.alarmRecord dt p r) s (fun t => t.sch.alarms ++ t.sch.waiting = u.sch.alarms ++ u.sch.waiting ++
      { bytes := r.bytes, own := none } :: (if r.source = u.childLevel p ∧ r.typ ≠ recOrigin then
        [{ bytes := (u.originRec p (u.childLevel p) r).bytes, own := none }] else []))) ∧
  (∀ dt p r s u, u = s.elapse dt → u.coreOn = true → u.isDown p = true → u.laneUp p = true → u.role = .root →
    (∃ b ∈ u.rdBytes Dict.conductorAddr, b ≠ 0) →
    Does (.alarmRecord dt p r) s (fun t => t.sch = u.sch ∧
      t.dap.push = u.dap.push + (if r.source = u.childLevel p ∧ r.typ ≠ recOrigin then 2 else 1))) ∧
  (∀ dt p r s u, u = s.elapse dt → u.coreOn = true → u.isDown p = true → u.laneUp p = true → u.recd.ring.length + 2 ≤ u.ringSize →
    Does (.alarmRecord dt p r) s (fun t => ∃ e ∈ t.recd.ring, e.event = r ∧ e.child = true)) ∧
  (∀ dt s u, u = s.elapse dt → u.coreOn = true →
    Does (.alarmSpaceFreed dt) s (fun t => (u.sch.alarms ++ u.sch.waiting).take (u.rd Dict.alarmBufSize / 32) <+: t.sch.alarms)) ∧
  (∀ dt s u e, u = s.elapse dt → u.coreOn = true → u.recd.ring.find? (·.unsent) = some e →
    32 * (u.sch.alarms.length + u.sch.waiting.length + 1) ≤ u.rd Dict.alarmBufSize →
    Does (.alarmSpaceFreed dt) s (fun t =>
      u.sch.alarms ++ u.sch.waiting ++ [{ bytes := e.event.bytes, own := some e.num }] <+: t.sch.alarms)) ∧
  (∀ dt s u, u = s.elapse dt → u.coreOn = true → u.sch.waiting = [] → u.recd.ring.find? (·.unsent) = none → u.recd.tallies = [] →
    32 * u.sch.alarms.length ≤ u.rd Dict.alarmBufSize →
    Does (.alarmSpaceFreed dt) s (fun t => t.sch.alarms = u.sch.alarms ∧ t.sch.waiting = [] ∧ t.recd = u.recd)) ∧
  (∀ dt s u g, u = s.elapse dt → u.coreOn = true → u.mirrorDue = true → u.sch.runs = [] → u.routeNow = some g → u.movedTo g = none →
    Does (.mirrorFlush dt) s (fun t => t.recd.ring = u.recd.ring.map (fun e =>
        if ((u.mirrorQueue.take 64).map (·.slot)).contains e.slot then { e with toMirror := false, gone := true } else e) ∧
      (u.isDie = true → ∀ n, Tbl.get? u.sch.cseq 6 = some n → Tbl.get? t.sch.cseq 6 = some ((n + 1) % 2 ^ 32)))) ∧
  (∀ dt s u, u = s.elapse dt → u.coreOn = true → u.mirrorDue = false →
    Does (.mirrorFlush dt) s (fun t => t.recd = u.recd ∧ t.sch = u.sch)) ∧
  (∀ dt p recs s u, u = s.elapse dt → u.coreOn = true → u.isDown p = true → u.laneUp p = true →
    Does (.mirrorMessage dt p recs) s (fun t => t.sch = u.sch ∧
      (u.recd.ring.length + 2 * recs.length ≤ u.ringSize → ∀ r ∈ recs, ∃ e ∈ t.recd.ring, e.event = r ∧ e.child = true)))

/-- Chapter 17: CLEAR and the windows (R354 to R356). -/
def Obligations.RecorderCommandsComplete : Prop :=
  (∀ dt rq s u, u = s.elapse dt → u.serves Dict.recClear →
    Does (.clearF dt rq) s (fun t => t.cmdCode Dict.recClear = 0 ∧ t.rd Dict.fCursor = u.rd Dict.fNext % 2 ^ 32 ∧
      t.rd Dict.oSelect = u.rd Dict.oSelect ∧ (u.recd.tallies = [] → t.recd.ring = u.recd.ring.filter (fun e => !e.event.classF || e.unsent)))) ∧
  (∀ dt rq s u, u = s.elapse dt → u.serves Dict.recClear →
    Does (.clearO dt rq) s (fun t => t.cmdCode Dict.recClear = 0 ∧ t.rd Dict.oSelect = u.rd Dict.oNext % 2 ^ 32 ∧
      t.rd Dict.fCursor = u.rd Dict.fCursor ∧ (u.recd.tallies = [] → t.recd.ring = u.recd.ring.filter (fun e => e.event.classF || e.unsent)))) ∧
  (∀ dt rq s u, u = s.elapse dt → u.serves Dict.recClear →
    Does (.clearBoth dt rq) s (fun t => t.cmdCode Dict.recClear = 0 ∧ t.rd Dict.oSelect = u.rd Dict.oNext % 2 ^ 32 ∧
      t.rd Dict.fCursor = u.rd Dict.fNext % 2 ^ 32 ∧ (u.recd.tallies = [] → t.recd.ring = u.recd.ring.filter (·.unsent)))) ∧
  (∀ dt rq s u e, u = s.elapse dt → u.serves Dict.fWindow →
    ((u.windowFrom true (u.rd Dict.fCursor)).2.take (readCap rq.src / 32)).getLast? = some e →
    Does (.fWindow dt rq) s (fun t => t.rd Dict.fCursor = (e.num + 1) % 2 ^ 32 ∧ t.recd = u.recd)) ∧
  (∀ dt rq s u, u = s.elapse dt → u.serves Dict.oWindow →
    Does (.oWindow dt rq) s (fun t => t.rd Dict.oSelect = (u.windowFrom false (u.rd Dict.oSelect)).1 % 2 ^ 32 ∧ t.recd = u.recd))

/-- Chapter 20: the journal, the leaf's messages, export (R412, R415, R418 to R420). -/
def Obligations.JournalCommandsComplete : Prop :=
  (∀ dt rq s u, u = s.elapse dt → u.serves Dict.journalEnable →
    Does (.journalEnableWrite dt rq 1) s (fun t => t.rd Dict.journalEnable = 1 ∧ t.jn.journal.afresh = u.jn.journal.cseq ∧
      t.jn.journal.startDue = true ∧ t.jn.journal.chunks = u.jn.journal.chunks ∧ t.jn.history = u.jn.history)) ∧
  (∀ dt rq s u, u = s.elapse dt → u.serves Dict.journalEnable →
    Does (.journalEnableWrite dt rq 0) s (fun t => t.rd Dict.journalEnable = 0 ∧ t.jn = u.jn)) ∧
  (∀ dt s u k g, u = s.elapse dt → u.coreOn = true → u.jn.gathering = [(k, g)] → u.passed g.since 100000 = true →
    Does (.chunkTimeout dt) s (fun t => t.jn.gathering = [] ∧
      (t.ring (k == jnEngine)).cseq = ((u.ring (k == jnEngine)).cseq + 1) % 2 ^ 32)) ∧
  (∀ dt hist s u r, u = s.elapse dt → u.coreOn = true → (u.ring hist).run = some r → u.passed r.since 1000000 = true →
    Does (.journalLost dt) s (fun t => (t.ring hist).run = none ∧ (t.ring hist).chunks = (u.ring hist).chunks)) ∧
  (∀ dt s u, u = s.elapse dt → u.coreOn = true → u.jn.leaf ≠ [] → u.passed u.jn.leafSince 100000 = true →
    Does (.leafJournalFlush dt) s (fun t => t.jn.leaf = [])) ∧
  (∀ dt p k b s u, u = s.elapse dt → u.coreOn = true → u.isDown p = true → u.laneUp p = true → u.flag Dict.journalEnable = true →
    Tbl.get? u.jn.gathering k = none → b.length ≤ 4096 →
    Does (.leafJournalMessage dt p [(k, b)]) s (fun t => Tbl.get? t.jn.gathering k =
      some { entryLen := b.length, since := u.time.now, entries := [(leafEntryFrame k b, b)] })) ∧
  (∀ dt rq s u f, u = s.elapse dt → u.serves Dict.exportCmd → u.jn.freeze = none →
    frameGt (u.rd Dict.journalOldest) (u.rd Dict.exportFirst) = false → u.red.lastSent = some f →
    frameGe f (u.rd Dict.exportLast) = true →
    u.exportLength (u.selectJournal (u.rd Dict.exportFirst) (u.rd Dict.exportLast))
      (u.selectHistory (u.rd Dict.exportFirst) (u.rd Dict.exportLast)) ≤ 4294967295 →
    Does (.exportFreeze dt rq) s (fun t => t.cmdCode Dict.exportCmd = 0 ∧
      t.jn.freeze = some (u.rd Dict.exportFirst, u.rd Dict.exportLast) ∧
      ∀ c ∈ t.jn.journal.chunks, c.frozen = (u.selectJournal (u.rd Dict.exportFirst) (u.rd Dict.exportLast)).contains c.cseq)) ∧
  (∀ dt rq s u, u = s.elapse dt → u.serves Dict.exportCmd →
    Does (.exportRelease dt rq) s (fun t => t.cmdCode Dict.exportCmd = 0 ∧ t.jn.freeze = none ∧
      (∀ c ∈ t.jn.journal.chunks, c.frozen = false) ∧ ∀ c ∈ t.jn.history.chunks, c.frozen = false))

/-- Chapter 02, PTP on a lane and on the ROOT's management port (R27, R29, R32, R33). -/
def Obligations.PtpCommandsComplete : Prop :=
  (∀ dt p dom gm utc o c s u, u = s.elapse dt → u.inChipReset = false → u.laneUp p = true → u.slaveLane = some p →
    dom = u.rd Dict.ptpDomain →
    Does (.ptpSync dt p dom gm utc o c) s (fun t => t.time.lastSync = some u.time.run ∧
      (t.ptpLane p).sync = some (u.ingressStamp p, o + c + u.asymmetry p) ∧
      t.rd Dict.gmSource = gm % 256 ∧ t.rd Dict.utcOffset = utc % 65536)) ∧
  (∀ dt p dom gm utc o c s u d off, u = s.elapse dt → u.inChipReset = false → u.laneUp p = true → u.slaveLane = some p →
    dom = u.rd Dict.ptpDomain → (u.ptpLane p).delay = some d → off = u.ingressStamp p - (o + c + u.asymmetry p) - d →
    (u.rd Dict.clockState = 0 → u.beyondStep off = false →
      Does (.ptpSync dt p dom gm utc o c) s (fun t => t.rd Dict.clockState = 1 ∧ t.time.now = u.time.now)) ∧
    (u.rd Dict.clockState = 1 → u.beyondStep off = false → u.withinLock off = true → 15 ≤ u.time.lockRun →
      Does (.ptpSync dt p dom gm utc o c) s (fun t => t.rd Dict.clockState = 2 ∧ t.time.now = u.time.now)) ∧
    (u.rd Dict.clockState = 2 → u.beyondStep off = true →
      Does (.ptpSync dt p dom gm utc o c) s (fun t => t.rd Dict.clockState = 1 ∧ t.time.now = ((u.time.now : Int) - off).toNat))) ∧
  (∀ dt p dom gm utc clock port seq corr s u v, u = s.elapse dt → u.inChipReset = false → u.laneUp p = true →
    dom = u.rd Dict.ptpDomain → (u.ptpLane p).mech = 1 → v = (u.rxOn p 54).relayed p gm utc →
    Does (.ptpPdelayReq dt p dom gm utc clock port seq corr) s (fun t =>
      t.out = Output.frame p (startBlock ++ v.ptpFrame (ptpMessage 3 dom p seq 5 (corr + (u.egressStamp p - u.ingressStamp p)) 127
        (zeros 10 ++ ptpIdentity clock port))) :: u.out)) ∧
  (∀ dt p dom gm utc seq corr s u t1 d, u = s.elapse dt → u.inChipReset = false → u.laneUp p = true →
    dom = u.rd Dict.ptpDomain → (u.ptpLane p).mech = 1 → (u.ptpLane p).request = some (seq, t1) →
    d = (u.ingressStamp p - t1 - corr - u.asymmetry p) / 2 → 0 ≤ unitsPs d → unitsPs d < (2 ^ 32 : Nat) →
    Does (.ptpPdelayResp dt p dom gm utc seq corr) s (fun t => (t.ptpLane p).p2p = some d ∧ (t.ptpLane p).request = none ∧
      t.rd Dict.lanePeerDelay p = (unitsPs d).toNat)) ∧
  (∀ dt p dom gm utc clock port seq corr s u v, u = s.elapse dt → u.inChipReset = false → u.laneUp p = true →
    dom = u.rd Dict.ptpDomain → (u.ptpLane p).mech = 0 → u.ptpPortState p = 6 → v = (u.rxOn p 44).relayed p gm utc →
    Does (.ptpDelayReq dt p dom gm utc clock port seq corr) s (fun t =>
      t.out = Output.frame p (startBlock ++ v.ptpFrame (ptpMessage 9 dom p seq 3 (corr - (ptpTimestamp (u.ingressStamp p)).2) u.logSync
        ((ptpTimestamp (u.ingressStamp p)).1 ++ ptpIdentity clock port))) :: u.out)) ∧
  (∀ dt p dom gm utc seq rcp corr s u t1 t2 t3, u = s.elapse dt → u.inChipReset = false → u.laneUp p = true →
    u.slaveLane = some p → dom = u.rd Dict.ptpDomain → (u.ptpLane p).mech = 0 → (u.ptpLane p).request = some (seq, t3) →
    (u.ptpLane p).sync = some (t2, t1) →
    Does (.ptpDelayResp dt p dom gm utc seq rcp corr) s (fun t =>
      (t.ptpLane p).e2e = some (((t2 - t1) + (rcp - t3 - corr)) / 2) ∧ (t.ptpLane p).request = none)) ∧
  (∀ dt dom gm data utc log s u, u = s.elapse dt → u.inChipReset = false → u.external = true → dom = u.rd Dict.ptpDomain →
    Tbl.rises 0 u.time.masters = true → (∀ e ∈ u.time.masters, e.1 ≠ gm → data < e.2.data) →
    Does (.ptpMgmtMessage dt dom (.announce gm data utc log)) s (fun t => t.time.gm = some gm ∧ t.rd Dict.utcOffset = utc % 65536 ∧
      Tbl.get? t.time.masters gm = some { data := data, utc := utc % 65536, seen := u.time.run, log := log })) ∧
  (∀ dt dom gm data utc log s u g x, u = s.elapse dt → u.inChipReset = false → u.external = true → dom = u.rd Dict.ptpDomain →
    u.time.masters = [(g, x)] → g < gm → x.data < data → u.time.run ≤ x.seen + 3 * logUnits x.log →
    Does (.ptpMgmtMessage dt dom (.announce gm data utc log)) s (fun t => t.time.gm = some g ∧ t.rd Dict.utcOffset = x.utc % 65536)) ∧
  (∀ dt dom gm seq o c log s u, u = s.elapse dt → u.inChipReset = false → u.external = true → dom = u.rd Dict.ptpDomain →
    u.bestMaster.map (·.1) = some gm →
    Does (.ptpMgmtMessage dt dom (.sync gm seq o false c log)) s (fun t => t.time.lastSync = some u.time.run ∧
      (t.ptpLane 48).sync = some (u.rawStamp, o + c) ∧ t.time.mgmtSyncLog = log))

/-- Chapter 02, what time brings, and TIME_NOW (R27, R33, R39, R51). -/
def Obligations.ClockCommandsComplete : Prop :=
  (∀ dt s u, u = s.elapse dt → u.inChipReset = false → u.time.lastTick + logUnits u.logSync ≤ u.time.run →
    Does (.ptpIntervalTick dt) s (fun t => t.time.lastTick = u.time.run ∧
      ∀ p, p < u.ports → u.ptpPortState p = 6 → (t.ptpLane p).syncSeq = ((u.ptpLane p).syncSeq + 1) % 65536)) ∧
  (∀ dt s u, u = s.elapse dt → u.inChipReset = false → u.ownReference = true → u.rd Dict.clockState = 1 →
    u.time.lastSync.getD 0 + 4 * u.syncUnits ≤ u.time.run →
    Does (.syncLossTimeout dt) s (fun t => t.rd Dict.clockState = 2)) ∧
  (∀ dt s u t0, u = s.elapse dt → u.inChipReset = false → u.time.lastSync = some t0 → u.ownReference = false →
    t0 + 4 * u.syncUnits ≤ u.time.run →
    (u.rd Dict.clockState = 1 → Does (.syncLossTimeout dt) s (fun t => t.rd Dict.clockState = 0)) ∧
    (u.rd Dict.clockState = 2 → Does (.syncLossTimeout dt) s (fun t => t.rd Dict.clockState = 3 ∧
      t.time.holdSince = some u.time.run))) ∧
  (∀ dt s u t0, u = s.elapse dt → u.inChipReset = false → u.time.holdSince = some t0 → u.rd Dict.clockState = 3 →
    t0 + 60 * secUnits ≤ u.time.run →
    Does (.holdoverTimeout dt) s (fun t => t.rd Dict.clockState = (if u.ownReference then 2 else 0) ∧ t.time.holdSince = none)) ∧
  (∀ dt s u, u = s.elapse dt → u.inChipReset = false → u.time.anchorNext * secUnits ≤ u.time.now →
    Does (.timeAnchor dt) s (fun t => t.time.anchorNext = u.time.anchorNext + 1 ∧
      (u.coreActive = true → t.rd Dict.anchors = (u.rd Dict.anchors + 1) % 2 ^ (8 * Dict.anchors.ty.bytes)) ∧
      (u.coreActive = false → t.time.held.length = u.time.held.length + 1))) ∧
  (∀ dt rq v s u, u = s.elapse dt → u.serves Dict.timeNow → u.ownReference = true → v / 2 ^ 48 % 2 ^ 32 < 1000000000 →
    Does (.timeNowWrite dt rq v) s (fun t => t.time.now = nsOfTime80 v * nsUnits))

/-- Chapter 02, shutter channels (R41, R44). -/
def Obligations.ShutterCommandsComplete : Prop :=
  (∀ dt rq c s u, u = s.elapse dt → u.serves Dict.shutterApply c → u.periodOk c (u.rd Dict.stagePeriod c) = true →
    u.time.now + 100000 * nsUnits ≤ nsOfTime80 (u.rd Dict.stageStart c) * nsUnits →
    Does (.shutterApply dt rq c) s (fun t => t.cmdCode Dict.shutterApply c = 0 ∧
      (t.chan c).waiting = some { t := nsOfTime80 (u.rd Dict.stageStart c), p := u.rd Dict.stagePeriod c, b := u.rd Dict.stageBase c })) ∧
  (∀ dt rq c s u, u = s.elapse dt → u.serves Dict.shutterApply c →
    nsOfTime80 (u.rd Dict.stageStart c) * nsUnits < u.time.now + 100000 * nsUnits →
    Does (.shutterApply dt rq c) s (fun t => t.cmdCode Dict.shutterApply c = 1 ∧ t.shutter = u.shutter)) ∧
  (∀ dt c s u n due, u = s.elapse dt → u.inChipReset = false → c < 8 → u.dueSlot c = some (n, due) →
    Does (.shutterFire dt c) s (fun t => (t.chan c).next = (u.chan c).next + 1 ∧
      t.rd Dict.shutterFired c = (u.rd Dict.shutterFired c + 1) % 2 ^ (8 * Dict.shutterFired.ty.bytes) ∧
      (c = 0 → t.rd Dict.frameNow = n % 2 ^ 32) ∧
      (2 ≤ c → u.isDie = true ∨ u.anyReset = false → t.out = Output.pulse c (u.rd Dict.shutterWidth c) due :: u.out) ∧
      (2 ≤ c → u.isDie = false → u.anyReset = true → t.out = u.out)))

/-- Chapter 03 and DESC_APPLY: tables, health inputs, clears, captures (R55 to R58, R67, R71, R73, 04 R93). -/
def Obligations.CounterCommandsComplete : Prop :=
  (∀ dt rq s u, u = s.elapse dt → u.serves Dict.cmdTableClear →
    Does (.cmdTableClear dt rq) s (fun t => t.cmdCode Dict.cmdTableClear = 0 ∧ t.cnt.cmds = [] ∧ t.cnt.cls = u.cnt.cls ∧
      t.cnt.eng = u.cnt.eng)) ∧
  (∀ dt i v s u, u = s.elapse dt → u.inReset = false → i < 64 →
    (u.coreActive = true → u.healthOpen i (u.hslot i).kind = false → (u.hslot i).kind = 1 → (u.hslot i).count < 2 ^ 32 - 1 →
      Does (.healthStrobe dt i v) s (fun t => t.hslot i = { u.hslot i with count := (u.hslot i).count + 1 })) ∧
    (u.coreActive = true → u.healthOpen i (u.hslot i).kind = false → (u.hslot i).kind = 2 ∨ (u.hslot i).kind = 3 →
      Does (.healthStrobe dt i v) s (fun t => t.hslot i = (u.hslot i).sample (u.healthData i v))) ∧
    (u.coreActive = false → u.healthOpen i (u.hslot i).kind = false → (u.hslot i).kind = 1 →
      (Tbl.getD u.pw.crossing i {}).pulses < 65535 →
      Does (.healthStrobe dt i v) s (fun t => t.cnt = u.cnt ∧
        (Tbl.getD t.pw.crossing i {}).pulses = (Tbl.getD u.pw.crossing i {}).pulses + 1))) ∧
  (∀ dt rq s u, u = s.elapse dt → u.serves Dict.clearEvents → u.actionOf (Dict.clearEvents.key 0 0) = none →
    Does (.clearEvents dt rq) s (fun t => t.cmdCode Dict.clearEvents = 0xFF ∧ t.cnt = { u.cnt with clearDue := true })) ∧
  (∀ dt e s u h, u = s.elapse dt → u.coreOn = true → (u.kindOf e).held = some h → (u.kindOf e).full = false →
    Does (.heldCapture dt e) s (fun t => (t.kindOf e).held = none ∧
      (t.kindOf e).pending.length = (u.kindOf e).pending.length + 1 ∧ (t.kindOf e).lastNs = u.nowNs ∧
      (e = false → u.cnt.clearAfter = some h.hdr.frame → t.cnt.clearAfter = none ∧ t.cnt.clears = u.cnt.clears + 1 ∧
        ∀ c ∈ t.cnt.cls, c.2.begins = 0 ∧ c.2.ends = 0 ∧ c.2.paired = 0))) ∧
  (∀ dt e s u p rest, u = s.elapse dt → u.coreOn = true → (u.kindOf e).pending = p :: rest →
    Does (.snapshotDrained dt e) s (fun t => (t.kindOf e).last = some p ∧
      ∃ more, (t.kindOf e).drained = (u.kindOf e).drained ++ p :: more ∧ rest = more ++ (t.kindOf e).pending)) ∧
  (∀ dt rq s u, u = s.elapse dt → u.serves Dict.descApply →
    Does (.descApply dt rq) s (fun t => t.cmdCode Dict.descApply = 0 ∧ t.fs = { u.fs with applyDue := true }))

/-- Chapter 04: the front stage forms a die vector, and an engine vector set vector by vector (R76). -/
def Obligations.FrontCommandsComplete : Prop :=
  (∀ dt s u p rest, u = s.elapse dt → u.coreOn = true → u.snap.die.drained = p :: rest →
    u.backPressed 0 (u.rdAtPulse Dict.generation % 16) p.hdr.frame = false →
    Does (.dieVectorComplete dt) s (fun t => t.snap.die.drained = rest ∧
      t.fs.refDie = (if p.hdr.empty then u.fs.refDie else some p) ∧
      ∃ w, t.ver.waiting = u.ver.waiting ++ [w] ∧ w.frame = p.hdr.frame ∧ w.skip = (p.hdr.empty || p.hdr.tornDie))) ∧
  (∀ dt s u p rest die, u = s.elapse dt → u.coreOn = true → u.snap.eng.drained = p :: rest → p.engines ≠ 0 →
    Tbl.get? u.fs.headers p.hdr.frame = some die → u.backPressed 1 (fieldOf die 66 63) p.hdr.frame = false →
    (u.fs.engSet.length + 1 < p.engines →
      Does (.engineVectorComplete dt) s (fun t => t.fs.engSet.length = u.fs.engSet.length + 1 ∧ t.snap = u.snap ∧
        t.fs.refEng = Tbl.set u.fs.refEng u.fs.engSet.length (p.engineRef u.fs.engSet.length))) ∧
    (p.engines ≤ u.fs.engSet.length + 1 →
      Does (.engineVectorComplete dt) s (fun t => t.fs.engSet = [] ∧
        t.fs.refEng = Tbl.set u.fs.refEng u.fs.engSet.length (p.engineRef u.fs.engSet.length) ∧
        t.fs.prevEng.length = u.fs.engSet.length + 1 ∧ t.snap.eng.drained = rest)))

/-- Chapter 06, images: a transfer, a load from the stacks, the library, the end of a load (R115 to R118). -/
def Obligations.ImageCommandsComplete : Prop :=
  (∀ dt rq k total data s u, u = s.elapse dt → u.serves Dict.slotImage k → u.slotSt k = 0 →
    total ≤ data.length ∨ (u.dap.writes.filter (fun w => w.key != Dict.slotImage.key k 0)).length < u.writeCap →
    Does (.imageSegment dt rq k 0 total data) s (fun t => t.slotSt k = 1 ∧ t.rd Dict.slotLoadResult k = 0xFF ∧
      ∃ l, (t.dslot k).load = some l ∧ l.bytes = data ∧ l.total = max total data.length ∧ l.stack = none)) ∧
  (∀ dt rq total data s u a, u = s.elapse dt → u.serves Dict.stackWrite → total ≤ data.length → data ≠ [] →
    a = u.rd Dict.stackWriteAddr → u.rd Dict.libraryBase ≤ a → a + data.length ≤ u.rd Dict.libraryBase + u.rd Dict.librarySize →
    inStacks a data.length = true → u.imageMeets a data.length = false →
    Does (.stackWrite dt rq 0 total data) s (fun t => t.stackRead a data.length = data ∧
      (∀ x, x < a ∨ a + data.length ≤ x → t.stack.read x = u.stack.read x) ∧
      t.rd Dict.stackWriteAddr = (a + data.length) % 2 ^ (8 * Dict.stackWriteAddr.ty.bytes))) ∧
  (∀ dt rq k s u, u = s.elapse dt → u.serves Dict.slotLoadStack k → u.actionOf (Dict.slotLoadStack.key k 0) = none → u.slotSt k = 0 →
    Does (.loadStack dt rq k) s (fun t => t.slotSt k = 1 ∧ t.rd Dict.slotLoadResult k = 0xFF ∧
      t.cmdCode Dict.slotLoadStack k = 0xFF ∧ ∃ l, (t.dslot k).load = some l ∧ l.stack = some (u.rd Dict.slotStackAddr k))) ∧
  (∀ dt k s u l c, u = s.elapse dt → u.coreOn = true → k < u.slotCount → (u.dslot k).load = some l → l.early = some c →
    Does (.loadEnd dt k) s (fun t => t.rd Dict.slotLoadResult k = c % 256 ∧ t.slotSt k = 0 ∧ (t.dslot k).load = none)) ∧
  (∀ dt k s u l h, u = s.elapse dt → u.coreOn = true → k < u.slotCount → (u.dslot k).load = some l → l.early = none →
    l.stack = none → l.total ≤ l.bytes.length → 128 ≤ l.bytes.length → h = ImageHeader.read l.bytes →
    u.headerTest k h l.total false = none →
    (u.bodyTest h l.bytes = 0 →
      Does (.loadEnd dt k) s (fun t => t.rd Dict.slotLoadResult k = 0 ∧ t.slotSt k = 2 ∧
        ∃ i, (t.dslot k).image = some i ∧ i.trees = h.trees ∧ i.nodes = h.nodes ∧ i.base = none)) ∧
    (u.bodyTest h l.bytes ≠ 0 →
      Does (.loadEnd dt k) s (fun t => t.rd Dict.slotLoadResult k = u.bodyTest h l.bytes ∧ t.slotSt k = 0)))

/-- Chapters 05 and 06, slots: ACTIVATE, UNLOAD, retirement, score records, the phase (05 R110, 06 R119 to R122, R124). -/
def Obligations.SlotCommandsComplete : Prop :=
  (∀ dt rq k s u, u = s.elapse dt → u.serves Dict.slotActivate k → u.slotSt k = 2 → u.scheduled k = false →
    u.flag Dict.slotResident k = true ∨ u.rd Dict.devPhase ≠ 0 → u.tooLate (u.rd Dict.slotSwapFrame k) = false →
    Does (.activate dt rq k 0xFF) s (fun t => t.cmdCode Dict.slotActivate k = 0 ∧ (t.dslot k).began = false ∧
      (t.dslot k).swap = some (u.rd Dict.slotSwapFrame k, none)) ∧
    (∀ q, q < u.slotCount → u.slotSt q = 3 ∨ u.slotSt q = 4 → u.scheduled q = false →
      Does (.activate dt rq k q) s (fun t => t.cmdCode Dict.slotActivate k = 0 ∧ (t.dslot k).began = false ∧
        (t.dslot k).swap = some (u.rd Dict.slotSwapFrame k, some q)))) ∧
  (∀ dt rq k s u, u = s.elapse dt → u.serves Dict.slotUnload k →
    (u.slotSt k = 1 → Does (.unload dt rq k) s (fun t => t.cmdCode Dict.slotUnload k = 0 ∧ t.slotSt k = 0 ∧
      t.rd Dict.slotLoadResult k = 8 ∧ (t.dslot k).load = none)) ∧
    (u.slotSt k = 2 → u.scheduled k = false → Does (.unload dt rq k) s (fun t => t.cmdCode Dict.slotUnload k = 0 ∧ t.slotSt k = 0 ∧
      (t.dslot k).image = none ∧ t.rd Dict.slotNodes k = 0)) ∧
    (u.slotSt k = 3 ∨ u.slotSt k = 4 → u.scheduled k = false → Does (.unload dt rq k) s (fun t => t.cmdCode Dict.slotUnload k = 0 ∧
      t.slotSt k = u.slotSt k ∧ (t.dslot k).unloading = true))) ∧
  (∀ dt k s u, u = s.elapse dt → u.coreOn = true → (u.dslot k).unloading = true → (u.dslot k).queue = [] →
    Does (.unloadDrained dt k) s (fun t => t.slotSt k = 0 ∧ (t.dslot k).image = none ∧ (t.dslot k).unloading = false)) ∧
  (∀ dt k s u f b, u = s.elapse dt → u.coreOn = true → (u.dslot k).successor = some (f, b) → (u.dslot k).queue = [] →
    u.slotSt k = 3 ∨ u.slotSt k = 4 → (u.dslot k).unloading = false → frameGe u.frameNow ((f + u.rd Dict.swapHold) % 2 ^ 32) = true →
    Does (.retire dt k) s (fun t => t.slotSt k = 2 ∧ t.rd Dict.slotPipeCount k = 0 ∧ (t.dslot k).successor = none ∧
      (t.dslot k).retired = some (f, b))) ∧
  (∀ dt k s u v rest, u = s.elapse dt → u.coreOn = true → k < u.slotCount → (u.dslot k).queue = v :: rest → u.predBusy k = false →
    Does (.scoreRecordComplete dt k) s (fun t => (t.dslot k).queue = rest ∧
      t.rd Dict.slotVectors k = (u.rd Dict.slotVectors k + 1) % 2 ^ (8 * Dict.slotVectors.ty.bytes))) ∧
  (∀ dt rq v s u, u = s.elapse dt → u.serves Dict.devPhase → v ≤ 3 →
    Does (.devPhaseWrite dt rq v) s (fun t => t.rd Dict.devPhase = v))

/-- Chapter 07: programs, records, closing, merging (R130, R147, R149, R151). -/
def Obligations.ReductionCommandsComplete : Prop :=
  (∀ dt rq s u, u = s.elapse dt → u.serves Dict.programApply →
    (u.tooLate (u.rd Dict.applyFrame) = false → Does (.programApply dt rq) s (fun t => t.cmdCode Dict.programApply = 0 ∧
      t.red.programs = (u.rd Dict.applyFrame, u.stagedProgram) :: u.red.programs)) ∧
    (u.tooLate (u.rd Dict.applyFrame) = true → Does (.programApply dt rq) s (fun t => t.cmdCode Dict.programApply = 1 ∧
      t.red = u.red))) ∧
  (∀ dt p r s u g f, u = s.elapse dt → u.coreOn = true → u.isDown p = true → u.laneUp p = true → g = u.groupOf p →
    u.isSent r.frame = false → u.gapFrames g r.frame = [] → u.machine r.frame = some f → f.merged = none →
    f.expected.any (fun e => e.1 == g) = true → f.stored.any (fun x => x.1 == g) = false → f.missing.contains g = false →
    RedFrame.complete { f with stored := f.stored ++ [(g, r)] } = false →
    Does (.reductionRecord dt p r) s (fun t => t.machine r.frame = some { f with stored := f.stored ++ [(g, r)] } ∧
      t.rd Dict.childLastFrame g = r.frame % 2 ^ (8 * Dict.childLastFrame.ty.bytes))) ∧
  (∀ dt s u f d, u = s.elapse dt → u.coreOn = true → u.red.frames = [f] → f.merged = none → f.deadline = some d →
    d * nsUnits ≤ u.time.now →
    Does (.deadline dt) s (fun t => ∃ m, t.machine f.frame = some m ∧ m.merged.isSome = true ∧ m.byDeadline = true ∧
      m.missing = f.missing ++ f.open_)) ∧
  (∀ dt s u f rest r, u = s.elapse dt → u.coreOn = true → u.red.frames = f :: rest → f.merged = some r →
    Does (.mergeComplete dt) s (fun t => t.red.lastSent = some f.frame ∧
      t.red.frames = rest.filter (fun g => g.frame != f.frame)))

/-- Chapters 04 and 14 at a chip: centre records and feature frames (04 R86 to R88, 14 R309). -/
def Obligations.FeatureCommandsComplete : Prop :=
  (∀ dt p c s u, u = s.elapse dt → u.coreOn = true → u.laneUp p = true → u.isDie = true →
    Does (.centreRecord dt p c) s (fun t => t.fs.centres =
      ({ frame := c.frame, level := c.level, entries := c.entries, arrived := u.time.now } :: u.fs.centres).take 64)) ∧
  (∀ dt p c s u, u = s.elapse dt → u.coreOn = true → u.laneUp p = true → u.isDown p = true → u.role = .rack →
    u.isSent c.frame = false → (∀ f, u.machine c.frame = some f → f.merged = none) →
    Does (.centreRecord dt p c) s (fun t => t.red.trayCentres = u.red.trayCentres ++
      [(u.groupOf p, { frame := c.frame, level := c.level, entries := c.entries, arrived := u.time.now })])) ∧
  (∀ dt p f v s u n, u = s.elapse dt → u.coreOn = true → u.laneUp p = true → u.isDown p = true → u.role = .tray →
    f.engine = false → f.vecs = [v] → n = fieldOf v.hdr 127 96 → u.isSent n = false →
    (∀ m, u.machine n = some m → m.merged = none) →
    Does (.featureFrame dt p f) s (fun t => t.red.vecs = u.red.vecs ++
      [{ frame := n, port := u.groupOf p, die := fieldOf v.hdr 95 79, codes := v.codes }])) ∧
  (∀ dt p f v s u, u = s.elapse dt → u.coreOn = true → u.laneUp p = true → u.isDown p = true → u.role = .tray →
    f.engine = true → f.vecs = [v] →
    Does (.featureFrame dt p f) s (fun t => t.red = u.red ∧
      ∀ k r, k < u.slotCount → r = u.reachFrame (fieldOf v.hdr 127 96) → r.admits k 1 (fieldOf v.hdr 66 63) (fieldOf v.hdr 127 96) = true →
        r.streamShut k = false → (t.dslot k).queue.length = (u.dslot k).queue.length + 1))

/-- Chapter 08: the verdict stage and stalled dies (R161, R163, R168, R169, R175). -/
def Obligations.VerdictCommandsComplete : Prop :=
  (∀ dt s u w rest, u = s.elapse dt → u.coreOn = true → u.ver.waiting = w :: rest → u.verdictReady w = true →
    Does (.verdictFormed dt) s (fun t => t.ver.waiting = rest ∧ t.ver.stateDue = false ∧ t.rd Dict.recent = popCount 64 t.ver.flags ∧
      t.ver.flags / 2 = u.flagsBefore w.frame % 2 ^ 63 ∧ t.ver.flagFrame = w.frame)) ∧
  (∀ dt rq s u, u = s.elapse dt → u.serves Dict.verdictClear →
    Does (.verdictClear dt rq) s (fun t => t.cmdCode Dict.verdictClear = 0 ∧ t.rd Dict.verdict = 0 ∧ t.rd Dict.recent = 0 ∧
      t.ver.flags = 0 ∧ t.ver.cells = [] ∧ t.ver.mismatched = false ∧ t.ver.window = 0 ∧ t.ver.base = u.ver.base)) ∧
  (∀ dt rq s u, u = s.elapse dt → u.serves Dict.baselineReset →
    Does (.baselineReset dt rq) s (fun t => t.cmdCode Dict.baselineReset = 0 ∧ (∀ e ∈ t.ver.base, e.2.2 = 0) ∧
      t.theta 0 = ((u.rdAtPulse Dict.loopThrInit 0 * 2 ^ 40 : Nat) : Int) ∧ t.theta 1 = u.theta 1)) ∧
  (∀ dt s u g, u = s.elapse dt → u.coreOn = true → u.role = .tray → g ∈ u.liveSubjects → (Tbl.getD u.live g {}).state = 0 →
    (Tbl.getD u.live g {}).silence = 0 → (u.waitingAt g).isSome = true → u.subjectMember g = true →
    u.liveHere g u.frameNow = true →
    Does (.stallTimeout dt) s (fun t => (Tbl.getD t.live g {}).state = 2)) ∧
  (∀ dt p d s u, u = s.elapse dt → u.coreOn = true → u.isDie = true → u.laneUp p = true →
    Does (.mismatchNotice dt p d) s (fun t => t.ver.mismatched = true ∧ t.ver.mism = u.ver.mism + 1 ∧
      t.ver.mismatchWait = u.ver.mismatchWait ++ [u.frameNow] ∧
      t.rd Dict.mismatches = satTo (8 * Dict.mismatches.ty.bytes) (u.rd Dict.mismatches + 1)))

/-- Chapter 09 at a chip: barriers and acknowledgements (R183, R193, R194, R196, R200, R201). -/
def Obligations.BarrierCommandsComplete : Prop :=
  (∀ dt p job barrier time die dies s u, u = s.elapse dt → u.coreOn = true → u.laneUp p = true → u.isDown p = true →
    (∃ d ∈ dies, u.memberEntry d = (true, job)) →
    (u.role ≠ .root → Does (.arrival dt p job barrier time die dies) s (fun t => ∃ b ∈ t.bar.openBars, b.job = job ∧
      b.barrier = barrier ∧ ∀ d ∈ dies, u.memberEntry d = (true, job) → d ∈ b.arrived)) ∧
    (u.role = .root → (∀ d ∈ u.jobDies job, d ∈ dies ∧ u.memberEntry d = (true, job)) →
      u.startHolds { job := job, barrier := barrier, first := 0, reportAt := 0 } = false →
      Does (.arrival dt p job barrier time die dies) s (fun t => (∀ b ∈ t.bar.openBars, ¬(b.job = job ∧ b.barrier = barrier)) ∧
        ∃ l, Tbl.get? t.bar.lastRel job = some ((barrier, u.nowNs + u.rd Dict.releaseMargin) :: l)))) ∧
  (∀ dt p job tree seq dies s u, u = s.elapse dt → u.coreOn = true → u.laneUp p = true → u.isDown p = true →
    (u.role ≠ .root → Does (.bcastAck dt p job tree seq dies) s (fun t => ∃ v ∈ t.bar.unions, v.tree = tree ∧ v.seq = seq ∧
      ∀ d ∈ dies, d ∈ v.union)) ∧
    (∀ e, u.role = .root → u.bar.trees = [(tree, e)] → e.issued = true → e.complete = false → e.seq = some seq → e.op = 3 →
      (∀ d ∈ e.ackSet, d ∈ dies) →
      Does (.bcastAck dt p job tree seq dies) s (fun t => (Tbl.get? t.bar.trees tree).map (·.complete) = some true))) ∧
  (∀ dt p typ job id seq s u f a tr d, u = s.elapse dt → u.coreOn = true → u.laneUp p = true → u.bar.fwd = [f] →
    f.msg.body = .release tr d → typ = 2 → f.msg.job = job → f.msg.id = id → f.msg.seq = seq →
    (f.waits = [(u.groupOf p, a)] → Does (.hopAck dt p typ job id seq) s (fun t => t.bar.fwd = [])) ∧
    (∀ h b, h ≠ u.groupOf p → f.waits = [(u.groupOf p, a), (h, b)] → Does (.hopAck dt p typ job id seq) s (fun t =>
      t.bar.fwd = [{ f with waits := [(h, b)], acked := f.acked ++ [u.groupOf p] }]))) ∧
  (∀ dt s u f g a tr d, u = s.elapse dt → u.coreOn = true → u.bar.fwd = [f] → f.msg.body = .release tr d → f.waits = [(g, a)] →
    a ≤ u.time.now →
    (f.msg.reissue = false → Does (.nackTimeout dt) s (fun t =>
      t.rd Dict.reissues = satTo (8 * Dict.reissues.ty.bytes) (u.rd Dict.reissues + 1))) ∧
    (f.msg.reissue = true → Does (.nackTimeout dt) s (fun t => t.bar.fwd = [] ∧ t.rd Dict.reissues = u.rd Dict.reissues))) ∧
  (∀ dt s u v a, u = s.elapse dt → u.coreOn = true → u.isDie = false → u.role ≠ .root → u.bar.unions = [v] → v.due = some a →
    a ≤ u.time.now →
    Does (.ackHold dt) s (fun t => t.bar.unions = [{ v with sent := v.union, due := none }])) ∧
  (∀ dt s u k e, u = s.elapse dt → u.coreOn = true → u.role = .root → u.bar.trees = [(k, e)] → e.issued = true →
    e.complete = false → e.reported = false → e.reportAt ≤ u.time.now →
    Does (.ackReport dt) s (fun t => t.bar.trees = [(k, { e with reported := true })])) ∧
  (∀ dt s u, u = s.elapse dt → u.coreOn = true → u.role = .root →
    Does (.barrierReport dt) s (fun t => t.bar.openBars = u.bar.openBars.map (fun b =>
      if !b.reported && decide (b.reportAt ≤ u.time.now) then { b with reported := true } else b)))

/-- Chapter 09, downward messages (02 R45, 09 R189, R192, R195, R202). -/
def Obligations.DownwardCommandsComplete : Prop :=
  (∀ dt p job barrier epoch level tRel die s u, u = s.elapse dt → u.coreOn = true → u.laneUp p = true → u.isDie = true →
    frameGt epoch (u.rd Dict.memberEpoch) = false → job = u.rd Dict.myJob →
    (∃ a ∈ u.bar.leaf.arrivals, a.awaiting = true ∧ a.job = job ∧ a.barrier = barrier) →
    (ceilDiv u.time.now nsUnits + u.rd Dict.armMin ≤ tRel → Does (.release dt p job barrier epoch level false tRel die) s (fun t =>
      t.rd Dict.shutterMode 1 = 1 ∧ t.rd Dict.shutterStart 1 = time80OfNs tRel ∧ t.rd Dict.shutterPeriod 1 = 0 ∧
      t.rd Dict.shutterBase 1 = (u.chan 1).armed % 2 ^ 32 ∧ (t.chan 1).next = 0 ∧ (t.chan 1).release = some (job, barrier) ∧
      t.ce.outQ = u.ce.outQ ++ [CeOut.releaseArmed barrier job false tRel] ∧ t.bar.leaf.reference = some tRel ∧ t.out = u.out)) ∧
    (tRel < ceilDiv u.time.now nsUnits + u.rd Dict.armMin → Does (.release dt p job barrier epoch level false tRel die) s (fun t =>
      t.rd Dict.lateReleases = satTo (8 * Dict.lateReleases.ty.bytes) (u.rd Dict.lateReleases + 1) ∧
      t.out = Output.pulse 1 20 u.nowNs :: u.out ∧ t.rd Dict.shutterMode 1 = 0 ∧ (t.chan 1).release = none ∧
      t.ce.outQ = u.ce.outQ ++ [CeOut.releaseArmed barrier job true tRel]))) ∧
  (∀ dt p job barrier epoch level tRel die s u m, u = s.elapse dt → u.coreOn = true → u.laneUp p = true → u.isDie = false →
    u.isDown p = false →
    m = { job := job, id := barrier, seq := 0, epoch := epoch, level := level, reissue := false, body := .release tRel die } →
    u.seenDown m = false →
    (u.heldBack m = true → Does (.release dt p job barrier epoch level false tRel die) s (fun t => t.bar.held = u.bar.held ++ [m])) ∧
    (u.heldBack m = false → Does (.release dt p job barrier epoch level false tRel die) s (fun t =>
      (∃ l, Tbl.get? t.bar.lastRel job = some ((barrier, tRel) :: l)) ∧ ∀ b ∈ t.bar.openBars, ¬(b.job = job ∧ b.barrier = barrier)))) ∧
  (∀ dt p job tree seq epoch level payload s u, u = s.elapse dt → u.coreOn = true → u.laneUp p = true → u.isDie = true →
    frameGt epoch (u.rd Dict.memberEpoch) = false → job = u.rd Dict.myJob → u.rd Dict.jobState = 0 →
    Tbl.get? u.bar.leaf.lastSeq tree = none →
    Does (.bcast dt p job tree seq epoch level false 1 payload) s (fun t => t.rd Dict.jobState = 2 ∧ t.bar.leaf.tree = some tree ∧
      t.bar.leaf.startBarrier = some (leAt payload 0 2 % 4096) ∧ t.bar.leaf.delivering.length = u.bar.leaf.delivering.length + 1 ∧
      Tbl.get? t.bar.leaf.lastSeq tree = some (seq, false))) ∧
  (∀ dt p job tree seq epoch level payload s u m e, u = s.elapse dt → u.coreOn = true → u.laneUp p = true → u.isDie = false →
    u.isDown p = false →
    m = { job := job, id := tree, seq := seq, epoch := epoch, level := level, reissue := false, body := .bcast 3 payload } →
    u.seenDown m = false → u.heldBack m = false → Tbl.get? u.bar.trees tree = some e →
    Does (.bcast dt p job tree seq epoch level false 3 payload) s (fun t => ∃ x, Tbl.get? t.bar.trees tree = some x ∧
      x.seq = some seq ∧ x.op = 3 ∧ x.job = e.job))

/-- Chapter 09, epochs and the ROOT's broadcasts (R184 to R187, R191, R192). -/
def Obligations.EpochCommandsComplete : Prop :=
  (∀ dt p epoch level ff seg segs es s u m, u = s.elapse dt → u.coreOn = true → u.laneUp p = true → u.isDown p = false →
    m = { job := 0xFFFF, id := 0xFFF, seq := 0, epoch := epoch, level := level, reissue := false, body := .epoch ff seg segs false es } →
    frameGt epoch (u.rd Dict.memberEpoch) = true → (∀ x ∈ u.bar.segs, x.key ≠ m.key) → u.bar.applying = none → u.bar.held = [] →
    Does (.epochSegment dt p epoch level false ff seg segs false es) s (fun t => t.bar.segs = u.bar.segs ++ [m])) ∧
  (∀ dt s u m ff seg segs resync job member, u = s.elapse dt → u.coreOn = true → u.isDie = true → u.nextLeafSeg = some m →
    m.body = .epoch ff seg segs resync [.die (u.rd Dict.dieId) job member] →
    Does (.epochApplied dt) s (fun t => t.rd Dict.memberEpoch = m.epoch % 2 ^ 32 ∧ t.rd Dict.myJob = job % 65536 ∧
      t.rd Dict.myMember = bit member ∧ t.bar.segs = u.bar.segs.erase m)) ∧
  (∀ dt s u m ff es, u = s.elapse dt → u.coreOn = true → u.isDie = false → u.nextSeg = some m → m.body = .epoch ff 0 1 false es →
    Does (.epochApplied dt) s (fun t => t.rd Dict.memberEpoch = m.epoch % 2 ^ 32 ∧ t.bar.member = es.foldl enterMember u.bar.member ∧
      t.bar.applying = none ∧ t.bar.gathered = [])) ∧
  (∀ dt rq s u n, u = s.elapse dt → u.serves Dict.epochIssue → n = (u.rd Dict.epochLastIssued + 1) % 2 ^ 32 →
    Does (.epochIssue dt rq) s (fun t => t.cmdCode Dict.epochIssue = 0 ∧ t.rd Dict.epochLastIssued = n ∧
      ∃ more, t.bar.segs = u.bar.segs ++ more ∧ more ≠ [] ∧ ∀ m ∈ more, m.epoch = n)) ∧
  (∀ dt rq s u tree, u = s.elapse dt → u.serves Dict.bcastIssue → tree = u.rd Dict.bcastTree → tree < 0xFFF →
    (∀ e ∈ u.bar.trees, e.2.complete = true ∨ e.2.issued = false) →
    (u.rd Dict.bcastOp = 1 → Tbl.get? u.bar.trees tree = none → Does (.bcastIssueJobStart dt rq) s (fun t =>
      t.cmdCode Dict.bcastIssue = 0 ∧ ∃ x, Tbl.get? t.bar.trees tree = some x ∧ x.seq = some 0 ∧ x.op = 1 ∧ x.job = u.rd Dict.bcastJob)) ∧
    (∀ e, u.rd Dict.bcastOp = 3 → Tbl.get? u.bar.trees tree = some e → e.job = u.rd Dict.bcastJob → e.complete = true →
      Does (.bcastIssueHostMessage dt rq) s (fun t => t.cmdCode Dict.bcastIssue = 0 ∧
        ∃ x, Tbl.get? t.bar.trees tree = some x ∧ x.seq = some ((e.seq.getD 0 + 1) % 65536) ∧ x.op = 3)) ∧
    (∀ e, u.rd Dict.bcastOp = 2 → Tbl.get? u.bar.trees tree = some e → e.job = u.rd Dict.bcastJob → e.complete = true →
      frameGt (u.rd Dict.epochLastIssued) (u.rd Dict.memberEpoch) = true →
      Does (.bcastIssueJobTeardown dt rq) s (fun t => t.cmdCode Dict.bcastIssue = 0 ∧
        t.bar.heldIssues.length = u.bar.heldIssues.length + 1 ∧
        ∃ x, Tbl.get? t.bar.trees tree = some x ∧ x.seq = some ((e.seq.getD 0 + 1) % 65536) ∧ x.op = 2))) ∧
  (∀ dt job tree seq s u, u = s.elapse dt → u.coreOn = true → u.isDie = true → u.bar.leaf.teardown = some (job, tree, seq) →
    u.bar.leaf.heldStart = none →
    Does (.teardownDone dt job) s (fun t => t.rd Dict.jobState = 0 ∧ t.bar.leaf.teardown = none ∧ t.bar.leaf.tree = none ∧
      Tbl.get? t.bar.leaf.lastSeq tree = some (seq, true)))

/-- Chapter 10, overlay and brackets (R214 to R220). -/
def Obligations.OverlayCommandsComplete : Prop :=
  (∀ dt rq s u, u = s.elapse dt → u.serves Dict.overlayArm →
    Does (.overlayArm dt rq) s (fun t => t.cmdCode Dict.overlayArm = 0 ∧ t.ev = { u.ev with armed := true } ∧ t.rd Dict.overlayOrdinal = 0) ∧
    Does (.overlayDisarm dt rq) s (fun t => t.cmdCode Dict.overlayArm = 0 ∧ t.ev = { u.ev with armed := false } ∧ t.rd Dict.overlayOrdinal = 0)) ∧
  (∀ dt p d s u i spare, u = s.elapse dt → u.coreOn = true → u.isDown p = true → u.laneUp p = true → d.kind = 0 → d.overlay = true →
    u.pairOf d.die = some (i, spare) →
    ((u.unmatchedOf (2 * i + bit (!spare))).find? (fun e => e.1.ordinal == d.ordinal) = none →
      (u.unmatchedOf (2 * i + bit spare)).length < 1024 →
      Does (.digestRecord dt p d) s (fun t => t.unmatchedOf (2 * i + bit spare) = u.unmatchedOf (2 * i + bit spare) ++ [(d, u.time.now)])) ∧
    (∀ e, (u.unmatchedOf (2 * i + bit (!spare))).find? (fun e => e.1.ordinal == d.ordinal) = some e →
      overlayCause (if spare then e.1 else d) (if spare then d else e.1) = 0 →
      Does (.digestRecord dt p d) s (fun t => t.unmatchedOf (2 * i + bit (!spare)) = (u.unmatchedOf (2 * i + bit (!spare))).erase e ∧
        t.rd Dict.overlayCompared = (u.rd Dict.overlayCompared + 1) % 2 ^ (8 * Dict.overlayCompared.ty.bytes)))) ∧
  (∀ dt s u k, u = s.elapse dt → u.coreOn = true → k < 32 →
    Does (.overlayWait dt) s (fun t => t.unmatchedOf k = (u.unmatchedOf k).filter (fun e => !u.passed e.2 (u.rd Dict.overlayWait)))) ∧
  (∀ dt s u i b, u = s.elapse dt → u.coreOn = true → u.ev.bracket = [(i, b)] → u.passed b.since (u.rd Dict.bracketWait) = true →
    Does (.bracketWait dt) s (fun t => t.ev.bracket = [] ∧
      t.rd Dict.bracketTimeouts = satTo (8 * Dict.bracketTimeouts.ty.bytes) (u.rd Dict.bracketTimeouts + 1)))

/-- Chapter 10, the bound and in-field tests (R221 to R226). -/
def Obligations.TestCommandsComplete : Prop :=
  (∀ dt s u, u = s.elapse dt → u.isDie = true → u.keeperOn = true → u.ev.boundLast + u.rd Dict.boundPeriod * secUnits ≤ u.time.run →
    Does (.boundPeriod dt) s (fun t => u.ev.boundLast ≤ t.ev.boundLast ∧ t.ev.boundLast ≤ u.time.run ∧ t.boundDue = (u.rd Dict.boundPeriod == 0) ∧
      t.rd Dict.bound = flEncode f32 (flTo f32 u.boundNow) % 2 ^ 32) ∧
    (u.flag Dict.boundEnforce = true → flLt (flDecode f32 (u.rd Dict.boundTarget)) u.boundNow = true → u.rd Dict.fBound < 1024 →
      Does (.boundPeriod dt) s (fun t => t.rd Dict.fBound = min 1024 (2 * u.rd Dict.fBound)))) ∧
  (∀ dt s u, u = s.elapse dt → u.isDie = true → u.coreOn = true → u.keeperOn = false →
    u.ev.boundLast + u.rd Dict.boundPeriod * secUnits ≤ u.time.run → 0 < u.rd Dict.boundPeriod →
    Does (.boundPeriod dt) s (fun t => t.rd Dict.bound = u.rd Dict.bound ∧ t.rd Dict.fBound = u.rd Dict.fBound ∧
      t.ev.boundLast ≤ u.time.run ∧ u.time.run < t.ev.boundLast + u.rd Dict.boundPeriod * secUnits)) ∧
  (∀ dt rq s u, u = s.elapse dt → u.serves Dict.boundReset →
    Does (.boundReset dt rq) s (fun t => t.cmdCode Dict.boundReset = 0 ∧ t.rd Dict.fBound = 1 ∧
      t.ev = { u.ev with eligible := 0, compared := 0, mismatched := 0, runningNs := 0, unmetWritten := false })) ∧
  (∀ dt rq s u, u = s.elapse dt → u.serves Dict.boundEnforce →
    Does (.boundEnforceWrite dt rq 0) s (fun t => t.rd Dict.boundEnforce = 0 ∧ t.rd Dict.fBound = 1 ∧ t.ev.unmetWritten = false) ∧
    Does (.boundEnforceWrite dt rq 1) s (fun t => t.rd Dict.boundEnforce = 1 ∧ t.rd Dict.fBound = u.rd Dict.fBound ∧ t.ev = u.ev)) ∧
  (∀ dt rq value s u, u = s.elapse dt → u.serves Dict.testRequest →
    ((List.range 64).find? (fun i => (Tbl.get? u.ev.tests i).isNone) = none →
      Does (.testRequest dt rq value) s (fun t => t.cmdCode Dict.testRequest = 1 ∧ t.ev = u.ev)) ∧
    (∀ i, (List.range 64).find? (fun i => (Tbl.get? u.ev.tests i).isNone) = some i →
      Does (.testRequest dt rq value) s (fun t => t.cmdCode Dict.testRequest = 0 ∧ Tbl.get? t.ev.tests i =
        some { issued := decide (u.rd Dict.jobState = 0), engine := fieldOf value 26 16, test := value % 65536
               deadline := u.nowNs + u.rd Dict.testDeadline * 1000000, requested := u.nowNs } ∧
        (u.rd Dict.jobState = 0 → ∃ more, t.mb.waiting = u.mb.waiting ++
          { door := 2, kind := 0x10, bytes := leBytes 4 (fieldOf value 26 16 * 65536 + value % 65536) } :: more)))) ∧
  (∀ dt rq i s u, u = s.elapse dt → u.serves Dict.testCancel → i < 64 →
    (∀ e, Tbl.get? u.ev.tests i = some e →
      Does (.testCancel dt rq i) s (fun t => t.cmdCode Dict.testCancel = 0 ∧ Tbl.get? t.ev.tests i = none)) ∧
    (Tbl.get? u.ev.tests i = none → Does (.testCancel dt rq i) s (fun t => t.cmdCode Dict.testCancel = 1 ∧ t.ev = u.ev))) ∧
  (∀ dt s u i e, u = s.elapse dt → u.coreOn = true → u.ev.tests = [(i, e)] → e.issued = false → e.overdue = false → e.deadline ≤ u.nowNs →
    Does (.testDeadline dt) s (fun t => t.ev.tests = [(i, { e with overdue := true })] ∧
      t.rd Dict.testsOverdue = satTo (8 * Dict.testsOverdue.ty.bytes) (u.rd Dict.testsOverdue + 1))) ∧
  (∀ dt r s u i e, u = s.elapse dt → u.coreOn = true → u.isDie = true → u.ev.tests = [(i, e)] → e.issued = true →
    (Does (.testDone dt e.engine e.test 0) s (fun t => t.ev.tests = [] ∧
      t.rd Dict.testsPassed = satTo (8 * Dict.testsPassed.ty.bytes) (u.rd Dict.testsPassed + 1))) ∧
    (r % 65536 ≠ 0 → Does (.testDone dt e.engine e.test r) s (fun t => t.ev.tests = [] ∧ t.ver.mismatched = true ∧
      t.rd Dict.testsFailed = satTo (8 * Dict.testsFailed.ty.bytes) (u.rd Dict.testsFailed + 1))))

/-- Chapters 18 and 03, the port (18 R370 to R372, 03 R70 and R71): BEGIN, END, byte counts, ARRIVE and the host's taking of messages. -/
def Obligations.PortCommandsComplete : Prop :=
  (∀ dt cmd engine cls tag tile dup s u, u = s.elapse dt → u.ceFree →
    Does (.begin_ dt cmd engine cls tag tile dup) s (fun t => t.ce.inQ = [] ∧
      Tbl.get? t.cnt.cmds cmd = some { begun := u.nowNs % 2 ^ 40, full := u.nowNs, engine := engine, cls := cls } ∧
      ((u.clsRec cls).begins < 2 ^ 32 - 1 → (t.clsRec cls).begins = (u.clsRec cls).begins + 1) ∧
      ((u.rd Dict.bracketClasses).testBit cls = false ∨ dup = true → t.ce.outQ = u.ce.outQ))) ∧
  (∀ dt cmd engine cls s u, u = s.elapse dt → u.ceFree →
    (∀ o, Tbl.get? u.cnt.cmds cmd = some o → Does (.end_ dt cmd engine cls) s (fun t => Tbl.get? t.cnt.cmds cmd = none ∧
      ((u.clsRec cls).ends < 2 ^ 32 - 1 → (t.clsRec cls).ends = (u.clsRec cls).ends + 1) ∧
      ((u.clsRec o.cls).paired < 2 ^ 32 - 1 → (t.clsRec o.cls).paired = (u.clsRec o.cls).paired + 1))) ∧
    (Tbl.get? u.cnt.cmds cmd = none → Does (.end_ dt cmd engine cls) s (fun t => t.cnt.cmds = u.cnt.cmds ∧
      t.rd Dict.orphanEnds = satTo (8 * Dict.orphanEnds.ty.bytes) (u.rd Dict.orphanEnds + 1)))) ∧
  (∀ dt engine level dir count s u, u = s.elapse dt → u.ceFree →
    Does (.bytes dt engine level dir count) s (fun t =>
      Tbl.getD t.cnt.level (2 * level + dir) 0 = (Tbl.getD u.cnt.level (2 * level + dir) 0 + count) % 2 ^ 64 ∧
      Tbl.getD (t.engRec engine).levels (2 * level + dir) 0 = (Tbl.getD (u.engRec engine).levels (2 * level + dir) 0 + count) % 2 ^ 64)) ∧
  (∀ dt link dir count s u, u = s.elapse dt → u.ceFree →
    Does (.linkBytes dt link dir count) s (fun t =>
      Tbl.getD t.cnt.link (2 * link + dir) 0 = (Tbl.getD u.cnt.link (2 * link + dir) 0 + count) % 2 ^ 64)) ∧
  (∀ dt barrier s u, u = s.elapse dt → u.ceFree →
    Does (.arrive dt barrier) s (fun t => ∃ a, t.bar.leaf.arrivals.getLast? = some a ∧ a.barrier = barrier ∧ a.time = u.nowNs ∧
      a.awaiting = true)) ∧
  (∀ dt s u m rest, u = s.elapse dt → u.coreOn = true → u.ce.outQ = m :: rest → u.ce.inQ = [] → u.ce.offered = [] →
    Does (.ceB2hTransfer dt) s (fun t => t.ce.outQ = rest ∧ t.out = Output.hostMessage m.bits :: u.out)) ∧
  (∀ dt barrier s u, u = s.elapse dt → u.isDie = true → u.inReset = false → u.rd Dict.powerState ≠ 0 →
    u.pw.entering = none → u.pw.waking = none →
    Does (.arrive dt barrier) s (fun t => t.ce.offered = u.ce.offered ++ [.arrive barrier] ∧ t.ce.inQ = u.ce.inQ ∧ t.bar = u.bar ∧
      (t.pw.waking.map (·.source)) = some 4))

/-- Chapter 10, the port's evidence messages and a line at a loupe (R207 to R209, R216, R217, R225, R227, Tables 10-4, 10-5). -/
def Obligations.EvidenceMessagesComplete : Prop :=
  (∀ dt tag base s u, u = s.elapse dt → u.ceFree → Tbl.get? u.ev.tags (tag % 4096) = none →
    Does (.tagOpen dt tag base) s (fun t => t.ev = { u.ev with tags := Tbl.set u.ev.tags (tag % 4096) { tag := tag, base := base, incomplete := u.loupeReset } })) ∧
  (∀ dt tag s u x, u = s.elapse dt → u.ceFree → Tbl.get? u.ev.tags (tag % 4096) = some x → x.tag = tag →
    Does (.tagClose dt tag) s (fun t => Tbl.get? t.ev.tags (tag % 4096) = none ∧
      t.rd Dict.overlayOrdinal = (u.rd Dict.overlayOrdinal + 1) % 2 ^ (8 * Dict.overlayOrdinal.ty.bytes) ∧
      ∃ d, t.ev.ring.getLast? = some d ∧ d.kind = 0 ∧ d.digest = (sumTaps x.taps).1 ∧ d.lines = (sumTaps x.taps).2 ∧
        d.ordinal = u.rd Dict.overlayOrdinal ∧ d.incomplete = x.incomplete)) ∧
  (∀ dt slot base s u b, u = s.elapse dt → u.ceFree → Tbl.get? u.ev.bracket slot = some b →
    Does (.bktOpen dt slot 0 base) s (fun t => Tbl.get? t.ev.bracket slot = some { b with orig := { b.orig with base := base } }) ∧
    Does (.bktOpen dt slot 1 base) s (fun t => Tbl.get? t.ev.bracket slot = some { b with dup := { b.dup with base := base } })) ∧
  (∀ dt slot engine s u b, u = s.elapse dt → u.ceFree → Tbl.get? u.ev.bracket slot = some b → b.orig.closed = false →
    (b.dup.closed = false → Does (.bktClose dt slot 0 engine) s (fun t =>
      Tbl.get? t.ev.bracket slot = some { b with orig := { b.orig with closed := true } })) ∧
    (b.dup.closed = true → sumTaps b.orig.taps = sumTaps b.dup.taps → Does (.bktClose dt slot 0 engine) s (fun t =>
      Tbl.get? t.ev.bracket slot = none ∧ t.ev.compared = (u.ev.compared + 1) % 2 ^ 64 ∧ t.ev.mismatched = u.ev.mismatched)) ∧
    (b.dup.closed = true → sumTaps b.orig.taps ≠ sumTaps b.dup.taps → Does (.bktClose dt slot 0 engine) s (fun t =>
      Tbl.get? t.ev.bracket slot = none ∧ t.ev.compared = (u.ev.compared + 1) % 2 ^ 64 ∧
      t.ev.mismatched = (u.ev.mismatched + 1) % 2 ^ 32 ∧ t.ver.mismatched = true))) ∧
  (∀ dt slot s u b, u = s.elapse dt → u.ceFree → Tbl.get? u.ev.bracket slot = some b →
    Does (.dupDecline dt slot) s (fun t => Tbl.get? t.ev.bracket slot = none ∧
      t.rd Dict.bracketDeclined = satTo (8 * Dict.bracketDeclined.ty.bytes) (u.rd Dict.bracketDeclined + 1))) ∧
  (∀ dt slot dir id s u, u = s.elapse dt → u.ceFree →
    Does (.shardOpen dt slot dir id) s (fun t => t.ev = { u.ev with staged := Tbl.set u.ev.staged slot (id, dir == 1) })) ∧
  (∀ dt slot length base s u x, u = s.elapse dt → u.ceFree → Tbl.get? u.ev.staged slot = some x →
    Does (.shardRange dt slot length base) s (fun t => Tbl.get? t.ev.staged slot = none ∧
      Tbl.get? t.ev.shards slot = some { id := x.1, write := x.2, base := base, length := length, incomplete := u.loupeReset })) ∧
  (∀ dt slot done s u x, u = s.elapse dt → u.ceFree → Tbl.get? u.ev.shards slot = some x →
    Does (.shardClose dt slot done) s (fun t => Tbl.get? t.ev.shards slot = none ∧
      ∃ d, t.ev.ring.getLast? = some d ∧ d.kind = (if x.write then 2 else 1) ∧ d.name = x.id ∧ d.copyDone = done ∧
        d.incomplete = x.incomplete ∧ d.digest = (sumTaps x.taps).1)) ∧
  (∀ dt s u i e, u = s.elapse dt → u.ceFree → u.ev.tests = [(i, e)] → e.issued = false →
    Does (.ckptBoundary dt) s (fun t => t.ev.tests = [(i, { e with issued := true })] ∧
      t.mb.waiting = u.mb.waiting ++ [{ door := 2, kind := 0x10, bytes := leBytes 4 (e.engine * 65536 + e.test) }])) ∧
  (∀ dt p addr data tag s u x, u = s.elapse dt → u.loupeOn p = true → Tbl.get? u.ev.tags (tag % 4096) = some x → x.tag = tag →
    Does (.loupeLine dt p addr data true tag 0 0) s (fun t =>
      Tbl.get? t.ev.tags (tag % 4096) = some { x with taps := enterTap x.taps p (lineHash (fitBytes 64 data) (64 * addr) x.base) } ∧
      Tbl.getD t.cnt.chan (2 * p + 1) 0 = (Tbl.getD u.cnt.chan (2 * p + 1) 0 + 64) % 2 ^ 64))

/-- Chapter 11, sources, lines, the store (R235, R237, R240, R245, R247, R249). -/
def Obligations.TraceCommandsComplete : Prop :=
  (∀ dt rq v s u, u = s.elapse dt → u.serves Dict.traceEnable →
    Does (.traceEnableWrite dt rq v) s (fun t => t.rd Dict.traceEnable = v % 65536 ∧
      ∀ n ∈ u.traceSources, (t.trc n).enabled = v.testBit n)) ∧
  (∀ dt k pc last kind taken target ret s u, u = s.elapse dt → u.coreOn = true → u.isDie = true → k < 8 →
    (u.trc (k + 2)).enabled = true → pc ≤ last → (last - pc) % 2 ^ (u.rd Dict.srcAlign (k + 2) % 4) = 0 →
    (kind ≤ 2 → Does (.sqGroup dt k pc last kind taken target ret) s (fun t =>
      (t.trc (k + 2)).nextAddr = u.nextOf (k + 2) last kind taken target)) ∧
    Does (.sqGroup dt k pc last 3 taken target ret) s (fun t => (t.trc (k + 2)).nextAddr = some target)) ∧
  (∀ dt k asleep s u, u = s.elapse dt → u.coreOn = true → u.isDie = true → k < 8 →
    Does (.sqSleep dt k asleep) s (fun t => (t.trc (k + 2)).asleep = asleep)) ∧
  (∀ dt s u n, u = s.elapse dt → u.coreOn = true → n ∈ u.traceSources → u.passed (u.trc n).lastPacket 1000 = true →
    Does (.traceLineTimeout dt) s (fun t => (t.trc n).line = [])) ∧
  (∀ dt s u n, u = s.elapse dt → u.coreOn = true → n ∈ u.traceSources → (u.trc n).enabled = true →
    u.passed (u.trc n).lastSync (u.rd Dict.syncPeriod) = true →
    Does (.syncPeriod dt) s (fun t => t.trc n = { u.trc n with syncDue := true })) ∧
  (∀ dt s u n line rest, u = s.elapse dt → u.coreOn = true → u.tr.lines = (n, line) :: rest → u.sinkFull = false →
    Does (.sinkLineWritten dt) s (fun t => t.tr.lines = rest ∧
      t.rd Dict.sinkWritePtr = (u.rd Dict.sinkWritePtr + 64) % (u.tr.sinkSize * 1048576) % 2 ^ 64 ∧
      ∃ more, t.out = more ++ Output.hostWrite (u.tr.sinkBase + u.rd Dict.sinkWritePtr) line :: u.out)) ∧
  (∀ dt s u n, u = s.elapse dt → u.coreOn = true → n ∈ u.traceSources → u.passed (u.trc n).unit.since (u.rd Dict.offloadFlush) = true →
    Does (.offloadFlush dt) s (fun t => (t.trc n).unit.lines = [])) ∧
  (∀ dt p bytes s u, u = s.elapse dt → u.coreOn = true → u.role = .tray → u.isDown p = true → u.laneUp p = true →
    Does (.offloadUnit dt p bytes) s (fun t => t.tr.storePos = u.tr.storePos + (padTo 64 bytes).length ∧
      t.tr.store.getLast? = some (u.tr.storePos, bytes.length))) ∧
  (∀ dt rq s u, u = s.elapse dt → u.serves Dict.storeRead →
    (∀ lost, u.storeNext = (none, lost) → Does (.storeRead dt rq) s (fun t => t.rd Dict.storeCursor = u.rd Dict.storeCursor ∧
      t.tr = u.tr)) ∧
    (∀ off len lost, u.storeNext = (some (off, len), lost) → Does (.storeRead dt rq) s (fun t =>
      t.tr = { u.tr with cursorAt := some (off + ceilDiv len 64 * 64) } ∧
      t.rd Dict.storeCursor = (off + ceilDiv len 64 * 64) % u.rd Dict.traceStoreSize % 2 ^ 64)))

/-- Chapter 12: the job channels (R262 to R264, R267, Tables 12-6, 12-7). -/
def Obligations.CodecCommandsComplete : Prop :=
  (∀ dt rq c s u, u = s.elapse dt → u.serves Dict.prcStart c →
    (u.rd Dict.prcStatus c ≠ 1 → u.rd Dict.prcStatus c ≠ 4 → Does (.prcStart dt rq c) s (fun t => t.cmdCode Dict.prcStart c = 0 ∧
      t.rd Dict.prcStatus c = 1 ∧ Tbl.get? t.prc c = some (u.prcParams c) ∧ t.rd Dict.prcInConsumed c = 0 ∧
      t.rd Dict.prcOutProduced c = 0)) ∧
    (u.rd Dict.prcStatus c = 1 ∨ u.rd Dict.prcStatus c = 4 → Does (.prcStart dt rq c) s (fun t => t.cmdCode Dict.prcStart c = 1 ∧
      t.prc = u.prc))) ∧
  (∀ dt rq c s u, u = s.elapse dt → u.serves Dict.prcResume c →
    (∀ j, u.rd Dict.prcStatus c = 4 → Tbl.get? u.prc c = some j → Does (.prcResume dt rq c) s (fun t =>
      t.cmdCode Dict.prcResume c = 0 ∧ t.rd Dict.prcStatus c = 1 ∧ Tbl.get? t.prc c =
        some { j with outAddr := u.rd Dict.prcOutAddr c, outLen := u.rd Dict.prcOutLen c, used := 0 })) ∧
    (u.rd Dict.prcStatus c ≠ 4 → Does (.prcResume dt rq c) s (fun t => t.cmdCode Dict.prcResume c = 2 ∧ t.prc = u.prc))) ∧
  (∀ dt rq c s u, u = s.elapse dt → u.serves Dict.prcAbort c →
    (∀ j, u.rd Dict.prcStatus c = 4 → Tbl.get? u.prc c = some j → Does (.prcAbort dt rq c) s (fun t =>
      t.cmdCode Dict.prcAbort c = 0 ∧ t.rd Dict.prcStatus c = 5)) ∧
    (u.rd Dict.prcStatus c ≠ 1 → u.rd Dict.prcStatus c ≠ 4 → Does (.prcAbort dt rq c) s (fun t => t.cmdCode Dict.prcAbort c = 2 ∧
      t.rd Dict.prcStatus c = u.rd Dict.prcStatus c))) ∧
  (∀ dt c s u j, u = s.elapse dt → u.coreOn = true → u.rd Dict.prcStatus c = 1 → Tbl.get? u.prc c = some j → u.prcPermitted j = true →
    (∀ out, u.rd Dict.prcInConsumed c = 0 → u.rd Dict.prcOutProduced c = 0 → j.used = 0 → 0 < j.inLen → u.prcFull j 0 = false →
      u.prcBlock j 0 = .ok (out, j.inLen) → out.length ≤ j.outLen →
      Does (.prcJobStop dt c) s (fun t => t.rd Dict.prcStatus c = (if j.op = 1 ∧ j.inLen ≤ out.length then 3 else 2) ∧
        t.rd Dict.prcInConsumed c = j.inLen ∧ t.rd Dict.prcOutProduced c = out.length ∧ t.stackRead j.outAddr out.length = out)) ∧
    (∀ out n, u.rd Dict.prcInConsumed c < j.inLen → u.prcBlock j (u.rd Dict.prcInConsumed c) = .ok (out, n) →
      j.outLen < j.used + out.length → Does (.prcJobStop dt c) s (fun t => t.rd Dict.prcStatus c = 4 ∧ t.stack = u.stack)) ∧
    (u.rd Dict.prcInConsumed c < j.inLen → u.prcFull j (u.rd Dict.prcInConsumed c) = true →
      Does (.prcJobStop dt c) s (fun t => t.rd Dict.prcStatus c = 4 ∧ t.stack = u.stack ∧
        t.rd Dict.prcInConsumed c = u.rd Dict.prcInConsumed c)) ∧
    (∀ f, u.rd Dict.prcInConsumed c < j.inLen → u.prcFull j (u.rd Dict.prcInConsumed c) = false →
      u.prcBlock j (u.rd Dict.prcInConsumed c) = .error f →
      Does (.prcJobStop dt c) s (fun t => t.rd Dict.prcStatus c = f.code ∧ t.rd Dict.prcFaultOffset c = u.rd Dict.prcInConsumed c)))

/-- Chapter 18: the host register port and the mailbox (R368, R369, R379 to R383). -/
def Obligations.MailboxCommandsComplete : Prop :=
  (∀ dt v s u, u = s.elapse dt → u.coreOn = true → u.isDie = true →
    (u.mb.h2b.length < 16 → Does (.h2bData dt v) s (fun t => t.mb = { u.mb with h2b := u.mb.h2b ++ [v % 2 ^ 32] } ∧
      t.out = Output.hostResponse 0 false :: u.out)) ∧
    (16 ≤ u.mb.h2b.length → Does (.h2bData dt v) s (fun t => t.mb.h2b = u.mb.h2b ∧ t.out = Output.hostResponse 0 true :: u.out ∧
      t.rd Dict.mbBusErrors = satTo (8 * Dict.mbBusErrors.ty.bytes) (u.rd Dict.mbBusErrors + 1) ∧
      t.mb.irqStatus = setBit u.mb.irqStatus 3))) ∧
  (∀ dt word s u n, u = s.elapse dt → u.coreOn = true → u.isDie = true → fieldOf word 4 0 = 2 → fieldOf word 31 24 = 0x11 →
    n = wordsOf (fieldOf word 22 16) → n ≤ u.unclaimed.length → (u.bell 2).state = .idle →
    Does (.h2bRing dt word) s (fun t => t.mb.h2b = u.mb.h2b ∧ t.out = Output.hostResponse 0 false :: u.out ∧
      t.bell 2 = { state := .rung, since := u.time.now, kind := 0x11 } ∧ (t.bellsPending 0).testBit 2 = true ∧
      ∃ c, t.mb.claims = u.mb.claims ++ [c] ∧ c.door = 2 ∧ c.words = n ∧ c.word = 2 ∧ u.time.now ≤ c.readAt ∧ c.readAt ≤ c.ackAt ∧
        (u.mb.claims = [] → c.readAt ≤ u.time.now + 500 * nsUnits ∧ c.ackAt ≤ u.time.now + 1000 * nsUnits))) ∧
  (∀ (u : State) c, u.mb.claims = [c] → c.readAt ≤ u.time.now → c.ackAt ≤ u.time.now →
    u.serveClaims.mb.h2b = u.mb.h2b.drop c.words ∧ u.serveClaims.mb.claims = [] ∧ u.serveClaims.mb.h2bAck = c.word ∧
    u.serveClaims.rd Dict.mbLastAck = c.word % 2 ^ 32 ∧ u.serveClaims.mb.irqStatus.testBit 1 = true ∧
    u.serveClaims.bell c.door = {}) ∧
  (∀ dt s u w rest, u = s.elapse dt → u.coreOn = true → u.isDie = true → u.mb.b2h = w :: rest →
    Does (.b2hData dt) s (fun t => t.mb.b2h = rest ∧ t.out = Output.hostResponse w false :: u.out)) ∧
  (∀ dt offset s u, u = s.elapse dt → u.coreOn = true → u.isDie = true → offset ≠ 0x01C →
    Does (.objectWrite dt (.readRegister offset)) s (fun t => t.mb = u.mb ∧ t.out = Output.hostResponse (u.hostRegister offset) false :: u.out)) ∧
  (∀ dt word d s u, u = s.elapse dt → u.coreOn = true → u.isDie = true → d = word % 32 → d ≠ 1 → (u.bell (32 + d)).state ≠ .idle →
    u.mb.b2h.length ≤ u.wordsAfter d →
    Does (.b2hAck dt word) s (fun t => (t.bell (32 + d)).state = .idle ∧ t.mb.rung = u.mb.rung.filter (fun m => m.door != d) ∧
      t.mb.b2h = u.mb.b2h ∧ t.out = Output.hostResponse 0 false :: u.out)) ∧
  (∀ dt v s u, u = s.elapse dt → u.coreOn = true → u.isDie = true →
    Does (.irqStatusWrite dt v) s (fun t => t.mb = { u.mb with irqStatus := irqCleared u.mb.irqStatus v } ∧
      t.out = Output.hostResponse 0 false :: u.out)) ∧
  (∀ dt s u m, u = s.elapse dt → u.coreOn = true → u.isDie = true → u.nextMessage = some m →
    u.mb.b2h.length + wordsOf m.bytes.length ≤ 16 →
    Does (.b2hRing dt) s (fun t => t.mb.b2h = u.mb.b2h ++ messageWords m.bytes ∧ t.mb.rung = u.mb.rung ++ [m] ∧
      t.mb.waiting = u.mb.waiting.erase m ∧ t.bell (32 + m.door) = { state := .rung, since := u.time.now, kind := m.kind })) ∧
  (∀ dt s u k b, u = s.elapse dt → u.coreOn = true → u.mb.bells = [(k, b)] → b.state = .rung →
    u.passed b.since (u.rd Dict.mbTimeout) = true →
    Does (.mbTimeout dt) s (fun t => t.mb.bells = [(k, { b with state := .late })] ∧
      t.rd Dict.mbTimeouts = satTo (8 * Dict.mbTimeouts.ty.bytes) (u.rd Dict.mbTimeouts + 1) ∧
      (k < 32 → t.mb.irqStatus = setBit u.mb.irqStatus 2)))

/-- Chapters 17 and 15: the negative, and the settings copy (15 R324, 17 R360, Table 17-6, 19 R402). -/
def Obligations.NegativeCommandsComplete : Prop :=
  (∀ dt rq s u, u = s.elapse dt → u.serves Dict.negTake →
    (u.neg.state = .idle → Does (.negTake dt rq) s (fun t => t.cmdCode Dict.negTake = 0 ∧ t.neg = { u.neg with state := .armed })) ∧
    (u.neg.state ≠ .idle → Does (.negTake dt rq) s (fun t => t.cmdCode Dict.negTake = 1 ∧ t.neg = u.neg))) ∧
  (∀ dt s u, u = s.elapse dt → u.isTrayChip = true → u.keeperOn = true → u.rd Dict.negPeriod ≠ 0 → u.neg.state = .idle →
    u.passed u.neg.lastCapture (u.rd Dict.negPeriod * 1000000000) = true →
    Does (.negPeriod dt) s (fun t => t.neg = { u.neg with state := .armed })) ∧
  (∀ dt s u, u = s.elapse dt → u.keeperOn = true → u.neg.state = .writing →
    Does (.negFixed dt) s (fun t => t.neg.state = .idle ∧ t.rd Dict.negSeq = u.neg.seq % 2 ^ 32 ∧
      t.rd Dict.negSlot = u.neg.target % 256)) ∧
  (∀ dt s u copy b, u = s.elapse dt → u.coreOn = true → u.kp.persisting = some (copy, b) → u.kp.persistDue = false →
    Does (.persistDone dt) s (fun t => t.kp.persisting = none ∧
      ∃ seq, (if copy = 0 then t.flash.settings0 else t.flash.settings1) = settingsBytes seq (u.objectEntries .rwp)))

/-- Chapter 15: requests, responses, sessions and actions (R320 to R323, R325, R326), and writes of plain objects (R322). -/
def Obligations.DapCommandsComplete : Prop :=
  (∀ dt o v s u id, u = s.elapse dt → u.coreOn = true → u.isDie = true → o ∈ [Dict.seed, Dict.calmWatch, Dict.bracketWait] →
    u.serves o → v < 2 ^ 32 →
    Does (.objectWrite dt (.dap .mailbox { op := 2, reqId := id, idx := o.idx, sub := o.sub, total := 4, data := leBytes 4 v } {})) s
      (fun t => t.rd o = v ∧ t.mb.waiting = u.mb.waiting ++ [{ door := 0, kind := 0, bytes := DapResp.bytes {
          op := 2, reqId := id, idx := o.idx, sub := o.sub, tlevel := u.dapLevel, tdie := u.dieField } }])) ∧
  (∀ dt v s u, u = s.elapse dt → u.coreOn = true → u.isDie = true →
    Does (.objectWrite dt (.register 0x008 v)) s (fun t => t.mb = { u.mb with irqEnable := v % 2 ^ 32 } ∧
      t.out = Output.hostResponse 0 false :: u.out)) ∧
  (∀ dt s u, u = s.elapse dt → u.coreOn = true → u.isTrayChip = true →
    Does (.objectWrite dt .damaged) s (fun t =>
      t.rd Dict.mgmtDiscards = satTo (8 * Dict.mgmtDiscards.ty.bytes) (u.rd Dict.mgmtDiscards + 1))) ∧
  (∀ dt o s u id, u = s.elapse dt → u.coreOn = true → u.isDie = true →
    o ∈ [Dict.myJob, Dict.dieId, Dict.verdict, Dict.jobState, Dict.memberEpoch] → u.serves o →
    Does (.dapRead dt .mailbox { op := 1, reqId := id, idx := o.idx, sub := o.sub } {}) s (fun t =>
      t.mb.waiting = u.mb.waiting ++ [{ door := 0, kind := 0, bytes := DapResp.bytes {
          op := 1, reqId := id, idx := o.idx, sub := o.sub, tlevel := u.dapLevel, tdie := u.dieField, total := o.ty.bytes
          data := leBytes o.ty.bytes (u.rd o) } }])) ∧
  (∀ dt o s u id, u = s.elapse dt → u.coreOn = true → u.isDie = true → o ∈ [Dict.seed, Dict.calmWatch] →
    u.targetStatus o.idx o.sub = 0 → u.queueFull = true →
    Does (.objectWrite dt (.dap .mailbox { op := 2, reqId := id, idx := o.idx, sub := o.sub, total := 4, data := leBytes 4 5 } {})) s
      (fun t => t.regs = u.regs ∧ t.doms = u.doms ∧ t.dap.queue = u.dap.queue)) ∧
  (∀ dt addr port r via s u, u = s.elapse dt → u.coreOn = true → u.isTrayChip = true → via.bad = false →
    (via.plain = false ∨ via.port ≠ u.dap.udpPort ∨ u.dap.answersAt via.dest = false) →
    Does (.dapRead dt (.mgmt addr port) r via) s (fun t => t.regs = u.regs ∧ t.dap = u.dap)) ∧
  (∀ dt idx sub s u id, u = s.elapse dt → u.coreOn = true → u.isDie = true → u.targetStatus idx sub = 0 → u.queueFull = false →
    Does (.dapAbort dt .mailbox { op := 3, reqId := id, idx := idx, sub := sub } {}) s (fun t =>
      ∀ w ∈ t.dap.writes, w.key ≠ idx * 256 + sub)) ∧
  (∀ dt p r s u, u = s.elapse dt → u.coreOn = true → u.laneUp p = true →
    Does (.dapResponse dt p r) s (fun t =>
      t.dap.pending = u.dap.pending.filter (fun e => !(e.port == u.groupOf p && e.id == r.reqId)) ∧
      (u.isTrayChip = true → (∀ e ∈ u.dap.pending, ¬(e.port = u.groupOf p ∧ e.id = r.reqId)) →
        t.rd Dict.orphanResponses = satTo (8 * Dict.orphanResponses.ty.bytes) (u.rd Dict.orphanResponses + 1)))) ∧
  (∀ dt s u, u = s.elapse dt → u.coreOn = true →
    Does (.pendTimeout dt) s (fun t => t.dap.pending = u.dap.pending.filter (fun e => decide (u.time.now < e.due)))) ∧
  (∀ dt s u, u = s.elapse dt → u.coreOn = true →
    Does (.segTimeout dt) s (fun t => t.dap.reads = u.dap.reads.filter (fun e => decide (u.time.now < e.due)) ∧
      ∀ w ∈ t.dap.writes, w ∈ u.dap.writes ∧ u.time.now < w.due)) ∧
  (∀ dt s u a id, u = s.elapse dt → u.coreOn = true → u.dap.actions = [a] → a.waiting = some (.mailbox, id) → a.code = none →
    u.passed a.since 1000000 = true →
    Does (.cmdInProgress dt) s (fun t => t.dap.actions = [{ a with waiting := none }] ∧
      t.mb.waiting.length = u.mb.waiting.length + 1 ∧ t.cmdCodes = u.cmdCodes)) ∧
  (∀ dt s u a c, u = s.elapse dt → u.coreOn = true → u.dap.actions = [a] → a.code = some c → u.dap.held = [] →
    Does (.cmdComplete dt) s (fun t => t.dap.actions = [] ∧ Tbl.get? t.cmdCodes a.key = some c)) ∧
  (∀ dt peer target s u, u = s.elapse dt → u.coreOn = true → u.isTrayChip = true → u.dap.mac.all (· == 0) = false →
    u.dap.answersAt target = true →
    Does (.neighborSolicitation dt peer target false) s (fun t => ∃ b, t.out = Output.icmp b :: u.out)) ∧
  (∀ dt peer addr body s u, u = s.elapse dt → u.coreOn = true → u.isTrayChip = true → u.dap.mac.all (· == 0) = false →
    u.dap.answersAt addr = true →
    Does (.echoRequest dt peer addr body false) s (fun t => t.out = Output.icmp (icmpMessage addr peer 129 body) :: u.out))

/-! ### What each command leaves as it was -/

/-- What the commands of chapter 19, resets, power, the keeper and its flash
leave as it was: every part of the state and every stored object that is not named beside the command. -/
def Obligations.ResetAndKeeperFrame : Prop :=
  ∀ c s t, exec c s = .next t →
    match c with
    | .chipScopeReset dt .. =>
      s.leaves dt t (raisedParts ++ answerParts ++ [.barriers, .port, .codes, .developer, .evidence, .front, .journal, .keeper,
        .latched, .live, .links, .negative, .parked, .prc, .ptp, .power, .reduction, .resets, .routes, .shutter, .snap, .stack,
          .time, .trace, .verdict, .channels, .clears, .classes, .commands, .engines, .health, .linkBytes, .actions, .address,
            .held, .forwarded, .reads, .writes, .blockWords, .bells, .hostWords, .irq, .prefixes, .decimation, .inForce,
              .dropRuns, .objects]) []
    | .blockScopeReset dt .. =>
      s.leaves dt t (raisedParts ++ answerParts ++ [.barriers, .port, .codes, .developer, .evidence, .free, .front, .journal,
        .keeper, .live, .links, .negative, .out, .parked, .prc, .ptp, .power, .reduction, .resets, .routes, .snap, .stack,
          .time, .trace, .verdict, .clears, .classes, .commands, .engines, .health, .actions, .held, .forwarded, .reads,
            .writes, .blockWords, .bells, .hostWords, .irq, .decimation, .inForce, .dropRuns, .objects]) []
    | .resetEnd dt .. =>
      (s.elapse dt).parked = [] → (s.elapse dt).ce.inQ = [] → (s.elapse dt).ce.offered = [] →
      s.leaves dt t (raisedParts ++ [.address, .messages, .prefixes, .queues, .dropRuns, .barriers, .developer, .flash, .free,
        .journal, .keeper, .links, .out, .parked, .power, .resets, .routes, .shutter, .snap, .stack, .time, .trace, .verdict,
          .objects]) []
    | .keeperScopeReset dt .. | .keeperWatchdog dt .. | .keeperVerified dt .. =>
      s.leaves dt t (raisedParts ++ [.codes, .free, .keeper, .negative, .out, .resets, .stack, .trace, .actions, .held, .reads,
        .writes, .prefixes, .queues, .dropRuns]) (raisedObjects ++ [Dict.grpColours, Dict.grpDrops, Dict.keeperState,
          Dict.srcDroppedBytes, Dict.srcDroppedPackets, Dict.srcLines, Dict.srcStallNs])
    | .resetIslandLink dt .. | .resetIslandLoupe dt .. | .resetKeeper dt .. | .resetBlock dt .. | .resetChip dt .. =>
      s.leaves dt t (raisedParts ++ answerParts ++ [.barriers, .codes, .evidence, .links, .out, .parked, .ptp, .power, .resets,
        .routes, .time, .linkBytes, .forwarded, .dropRuns]) (raisedObjects ++ [Dict.clockState, Dict.grpDrops,
          Dict.laneDownEvents, Dict.laneFramesTx, Dict.laneState, Dict.laneTrainStep, Dict.mgmtDiscards, Dict.reissues,
            Dict.relayed, Dict.routeFrom, Dict.routeLosts, Dict.routeMoves, Dict.served, Dict.vectorsLost])
    | .resetDelayExpiry dt .. =>
      s.leaves dt t (raisedParts ++ answerParts ++ [.barriers, .port, .codes, .developer, .evidence, .free, .front, .journal,
        .keeper, .latched, .live, .links, .negative, .parked, .prc, .ptp, .power, .reduction, .resets, .routes, .shutter,
          .snap, .stack, .time, .trace, .verdict, .channels, .clears, .classes, .commands, .engines, .health, .linkBytes,
            .actions, .address, .held, .forwarded, .reads, .writes, .blockWords, .bells, .hostWords, .irq, .prefixes,
              .decimation, .inForce, .dropRuns, .objects]) []
    | .persistDone dt .. =>
      s.leaves dt t ([.flash, .free, .keeper, .out]) []
    | .dimIdle dt .. =>
      s.leaves dt t (raisedParts ++ [.free, .out, .power, .stack, .trace, .prefixes, .queues, .dropRuns]) (raisedObjects ++
        [Dict.grpColours, Dict.grpDrops, Dict.powerState, Dict.srcDroppedBytes, Dict.srcDroppedPackets, Dict.srcLines,
          Dict.srcStallNs])
    | .safelightIdle dt .. =>
      s.leaves dt t (raisedParts ++ [.free, .out, .power, .stack, .trace, .prefixes, .queues, .dropRuns]) (raisedObjects ++
        [Dict.grpColours, Dict.grpDrops, Dict.srcDroppedBytes, Dict.srcDroppedPackets, Dict.srcLines, Dict.srcStallNs])
    | .powerEntryDone dt .. =>
      s.leaves dt t ([.power]) ([Dict.powerState])
    | .wakeSource dt .. | .regGood dt .. | .pllLock dt .. | .memReady dt .. =>
      s.leaves dt t ([.power]) []
    | .logicReady dt .. =>
      (s.elapse dt).parked = [] → (s.elapse dt).ce.inQ = [] → (s.elapse dt).ce.offered = [] →
      s.leaves dt t (raisedParts ++ [.health, .prefixes, .queues, .dropRuns, .free, .out, .parked, .power, .stack, .time,
        .trace]) (raisedObjects ++ [Dict.anchors, Dict.grpColours, Dict.grpDrops, Dict.lastWake, Dict.powerState,
          Dict.srcDroppedBytes, Dict.srcDroppedPackets, Dict.srcLines, Dict.srcStallNs, Dict.wakes])
    | .dvfsPeriod dt .. =>
      s.leaves dt t ([.free, .power]) []
    | .dvfsChangeDone dt .. =>
      s.leaves dt t ([.power]) ([Dict.devClock])
    | .keeperUpdateLive dt .. | .keeperUpdateRestart dt .. =>
      s.leaves dt t (answerParts ++ [.codes, .free, .keeper, .parked, .power, .actions, .held]) ([Dict.keeperState,
        Dict.mgmtDiscards, Dict.served])
    | .keeperPersisted dt .. =>
      s.leaves dt t (raisedParts ++ [.codes, .flash, .free, .keeper, .negative, .out, .resets, .stack, .trace, .actions, .held,
        .reads, .writes, .prefixes, .queues, .dropRuns]) (raisedObjects ++ [Dict.grpColours, Dict.grpDrops, Dict.keeperState,
          Dict.srcDroppedBytes, Dict.srcDroppedPackets, Dict.srcLines, Dict.srcStallNs])
    | .keeperQuiescent dt .. =>
      s.leaves dt t (raisedParts ++ [.free, .keeper, .out, .stack, .trace, .actions, .prefixes, .queues, .dropRuns])
        (raisedObjects ++ [Dict.grpColours, Dict.grpDrops, Dict.keeperState, Dict.srcDroppedBytes, Dict.srcDroppedPackets,
          Dict.srcLines, Dict.srcStallNs])
    | .keeperReady dt .. =>
      s.leaves dt t (raisedParts ++ [.flash, .free, .keeper, .out, .resets, .stack, .trace, .actions, .prefixes, .queues,
        .dropRuns]) (raisedObjects ++ [Dict.grpColours, Dict.grpDrops, Dict.keeperState, Dict.keeperVersion,
          Dict.srcDroppedBytes, Dict.srcDroppedPackets, Dict.srcLines, Dict.srcStallNs])
    | .islandResetDone dt .. =>
      s.leaves dt t (raisedParts ++ [.resets]) (raisedObjects ++ [Dict.islandResets])
    | .keeperResetDone dt .. =>
      s.leaves dt t (raisedParts ++ [.flash, .free, .keeper, .out, .resets, .stack, .trace, .prefixes, .queues, .dropRuns])
        (raisedObjects ++ [Dict.grpColours, Dict.grpDrops, Dict.keeperState, Dict.srcDroppedBytes, Dict.srcDroppedPackets,
          Dict.srcLines, Dict.srcStallNs])
    | _ => True

/-- What the commands of chapters 15 and 18, the dictionary protocol and the mailbox
leave as it was: every part of the state and every stored object that is not named beside the command. -/
def Obligations.ProtocolFrame : Prop :=
  ∀ c s t, exec c s = .next t →
    match c with
    | .objectWrite dt .. =>
      s.leaves dt t (raisedParts ++ answerParts ++ [.barriers, .codes, .developer, .evidence, .flash, .free, .front, .journal,
        .keeper, .live, .links, .negative, .out, .parked, .prc, .ptp, .power, .reduction, .resets, .routes, .shutter, .stack,
          .time, .trace, .verdict, .clears, .commands, .linkBytes, .actions, .held, .forwarded, .reads, .writes, .blockWords,
            .bells, .hostWords, .irq, .prefixes, .inForce, .dropRuns, .objects]) []
    | .dapRead dt .. | .dapAbort dt .. =>
      s.leaves dt t (raisedParts ++ answerParts ++ [.barriers, .codes, .developer, .evidence, .flash, .free, .front, .journal,
        .keeper, .live, .links, .negative, .out, .parked, .prc, .ptp, .power, .reduction, .resets, .routes, .shutter, .stack,
          .time, .trace, .verdict, .clears, .commands, .linkBytes, .actions, .held, .forwarded, .reads, .writes, .prefixes,
            .inForce, .dropRuns, .objects]) []
    | .dapResponse dt .. =>
      s.leaves dt t (answerParts ++ [.parked, .power, .forwarded]) ([Dict.orphanResponses])
    | .pendTimeout dt .. =>
      s.leaves dt t (answerParts ++ [.forwarded]) ([Dict.routeLosts])
    | .segTimeout dt .. =>
      s.leaves dt t ([.developer, .actions, .reads, .writes]) ([Dict.slotLoadResult, Dict.slotState])
    | .cmdInProgress dt .. =>
      s.leaves dt t (answerParts ++ [.actions]) []
    | .cmdComplete dt .. =>
      s.leaves dt t (raisedParts ++ answerParts ++ [.barriers, .codes, .developer, .evidence, .flash, .free, .front, .journal,
        .keeper, .live, .links, .negative, .out, .prc, .ptp, .power, .reduction, .resets, .routes, .shutter, .stack, .time,
          .trace, .verdict, .clears, .commands, .linkBytes, .actions, .held, .forwarded, .writes, .prefixes, .inForce,
            .dropRuns, .objects]) []
    | .neighborSolicitation dt .. | .echoRequest dt .. =>
      s.leaves dt t ([.out, .parked, .power]) ([Dict.mgmtDiscards])
    | .h2bData dt .. =>
      s.leaves dt t ([.out, .parked, .power, .hostWords, .irq]) ([Dict.mbBusErrors])
    | .h2bRing dt .. =>
      s.leaves dt t (raisedParts ++ answerParts ++ [.barriers, .codes, .developer, .evidence, .flash, .free, .front, .journal,
        .keeper, .live, .links, .negative, .out, .parked, .prc, .ptp, .power, .reduction, .resets, .routes, .shutter, .stack,
          .time, .trace, .verdict, .clears, .commands, .linkBytes, .actions, .held, .forwarded, .reads, .writes, .bells,
            .hostWords, .prefixes, .inForce, .dropRuns, .objects]) []
    | .b2hData dt .. =>
      s.leaves dt t ([.out, .parked, .power, .blockWords]) []
    | .b2hAck dt .. =>
      s.leaves dt t (raisedParts ++ [.barriers, .free, .out, .parked, .power, .blockWords, .bells, .queues, .dropRuns])
        (raisedObjects ++ [Dict.grpDrops, Dict.relayed, Dict.vectorsLost])
    | .irqStatusWrite dt .. =>
      s.leaves dt t ([.out, .parked, .power, .irq]) []
    | .b2hRing dt .. =>
      s.leaves dt t ([.resets, .blockWords, .bells, .messages]) []
    | .mbTimeout dt .. =>
      s.leaves dt t (raisedParts ++ [.bells, .irq]) (raisedObjects ++ [Dict.mbTimeouts])
    | .dieIdWrite dt .. =>
      s.leaves dt t (answerParts ++ [.free, .links, .out, .parked, .power, .linkBytes]) ([Dict.dieId, Dict.laneFramesTx,
        Dict.mgmtDiscards, Dict.served])
    | _ => True

/-- What the commands of chapter 02, time and the shutter
leave as it was: every part of the state and every stored object that is not named beside the command. -/
def Obligations.TimeFrame : Prop :=
  ∀ c s t, exec c s = .next t →
    match c with
    | .ptpSync dt .. =>
      s.leaves dt t (raisedParts ++ [.free, .ptp, .power, .shutter, .time, .trace, .linkBytes]) (raisedObjects ++
        [Dict.clockOffset, Dict.clockState, Dict.gmSource, Dict.laneFramesRx, Dict.shutterBase, Dict.shutterMissed,
          Dict.shutterPeriod, Dict.shutterStart, Dict.steps, Dict.utcOffset])
    | .ptpPdelayReq dt .. | .ptpDelayReq dt .. =>
      s.leaves dt t ([.out, .linkBytes]) ([Dict.gmSource, Dict.laneFramesRx, Dict.laneFramesTx, Dict.utcOffset])
    | .ptpPdelayResp dt .. =>
      s.leaves dt t ([.free, .ptp, .linkBytes]) ([Dict.lanePeerDelay, Dict.gmSource, Dict.laneFramesRx, Dict.utcOffset])
    | .ptpDelayResp dt .. =>
      s.leaves dt t ([.ptp, .linkBytes]) ([Dict.gmSource, Dict.laneFramesRx, Dict.utcOffset])
    | .ptpMgmtMessage dt .. =>
      s.leaves dt t (raisedParts ++ [.free, .ptp, .power, .shutter, .time, .trace]) (raisedObjects ++ [Dict.clockOffset,
        Dict.clockState, Dict.shutterBase, Dict.shutterMissed, Dict.shutterPeriod, Dict.shutterStart, Dict.steps,
          Dict.utcOffset])
    | .ptpIntervalTick dt .. =>
      s.leaves dt t ([.out, .ptp, .time, .linkBytes]) ([Dict.laneFramesTx, Dict.utcOffset])
    | .syncLossTimeout dt .. | .holdoverTimeout dt .. =>
      s.leaves dt t (raisedParts ++ [.power, .time]) (raisedObjects ++ [Dict.clockState])
    | .timeAnchor dt .. =>
      s.leaves dt t (raisedParts ++ [.power, .time]) (raisedObjects ++ [Dict.anchors])
    | .timeNowWrite dt .. =>
      s.leaves dt t (raisedParts ++ answerParts ++ [.free, .parked, .power, .shutter, .time, .trace]) (raisedObjects ++
        [Dict.mgmtDiscards, Dict.served, Dict.shutterBase, Dict.shutterMissed, Dict.shutterPeriod, Dict.shutterStart])
    | .shutterFire dt .. =>
      s.leaves dt t (raisedParts ++ [.barriers, .developer, .evidence, .free, .front, .journal, .latched, .live, .links,
        .negative, .out, .ptp, .power, .reduction, .routes, .shutter, .snap, .stack, .time, .verdict, .clears, .classes,
          .engines, .health, .linkBytes, .actions, .messages, .prefixes, .decimation, .queues, .dropRuns]) (raisedObjects ++
            [Dict.barriersOpen, Dict.clockState, Dict.decimSets, Dict.dieEmpty, Dict.dieHeld, Dict.dieTorn, Dict.engineFlags,
              Dict.engineHeld, Dict.engineSkipped, Dict.engineTorn, Dict.epochBacklog, Dict.forcedCloses, Dict.frameNow,
                Dict.grpColours, Dict.grpDrops, Dict.historyOldest, Dict.journalLost, Dict.journalOldest, Dict.laneFramesTx,
                  Dict.loopThreshold, Dict.redPending, Dict.reissues, Dict.relayed, Dict.routeFrom, Dict.routeMoves,
                    Dict.shutterFired, Dict.shutterMode, Dict.slotGenMask, Dict.slotPipeCount, Dict.slotPipeFirst,
                      Dict.slotQueued, Dict.slotState, Dict.slotVkind, Dict.streamRefused, Dict.suspectThr, Dict.treesActive,
                        Dict.vectorsLost])
    | .shutterApply dt .. =>
      s.leaves dt t (answerParts ++ [.codes, .free, .parked, .power, .shutter]) ([Dict.mgmtDiscards, Dict.served])
    | _ => True

/-- What the commands of chapters 03 and 04, counters, captures and the feature front stage
leave as it was: every part of the state and every stored object that is not named beside the command. -/
def Obligations.CounterFrame : Prop :=
  ∀ c s t, exec c s = .next t →
    match c with
    | .clearEvents dt .. =>
      s.leaves dt t (answerParts ++ [.codes, .parked, .power, .clears, .actions, .held]) ([Dict.mgmtDiscards, Dict.served])
    | .heldCapture dt .. =>
      s.leaves dt t ([.free, .snap, .clears, .classes, .engines, .health, .actions]) []
    | .snapshotDrained dt .. =>
      s.leaves dt t ([.snap]) []
    | .dieVectorComplete dt .. =>
      s.leaves dt t (raisedParts ++ [.developer, .free, .front, .journal, .power, .snap, .stack, .verdict, .prefixes,
        .decimation, .queues, .dropRuns]) (raisedObjects ++ [Dict.decimSets, Dict.grpColours, Dict.grpDrops,
          Dict.historyOldest, Dict.journalLost, Dict.journalOldest, Dict.lastRecord, Dict.peerLateCount, Dict.relayed,
            Dict.slotGenMask, Dict.slotPipeCount, Dict.slotPipeFirst, Dict.slotQueued, Dict.slotState, Dict.slotVkind,
              Dict.streamRefused, Dict.vectorsLost])
    | .engineVectorComplete dt .. =>
      s.leaves dt t (raisedParts ++ [.developer, .free, .front, .journal, .power, .snap, .stack, .prefixes, .decimation,
        .queues, .dropRuns]) (raisedObjects ++ [Dict.grpColours, Dict.grpDrops, Dict.historyOldest, Dict.journalLost,
          Dict.journalOldest, Dict.relayed, Dict.slotGenMask, Dict.slotPipeCount, Dict.slotPipeFirst, Dict.slotQueued,
            Dict.slotState, Dict.slotVkind, Dict.streamRefused, Dict.vectorsLost])
    | .descApply dt .. =>
      s.leaves dt t (answerParts ++ [.codes, .front, .parked, .power]) ([Dict.mgmtDiscards, Dict.served])
    | .cmdTableClear dt .. =>
      s.leaves dt t (answerParts ++ [.codes, .parked, .power, .commands]) ([Dict.mgmtDiscards, Dict.served])
    | .healthStrobe dt .. =>
      s.leaves dt t (raisedParts ++ [.power, .health]) (raisedObjects)
    | .loupeLine dt .. =>
      s.leaves dt t ([.evidence, .free, .power, .channels]) ([Dict.overtakenLines, Dict.unopenedLines])
    | _ => True

/-- What the commands of 18 R370 to R372, the command-event port with no message waiting
leave as it was: every part of the state and every stored object that is not named beside the command. -/
def Obligations.PortFrame : Prop :=
  ∀ c s t, exec c s = .next t →
    match c with
    | .begin_ dt .. =>
      (s.elapse dt).ce.inQ = [] → (s.elapse dt).ce.offered = [] → s.leaves dt t (raisedParts ++ [.classes, .commands, .engines,
        .prefixes, .queues, .dropRuns, .port, .evidence, .free,
        .out, .power, .stack, .trace]) (raisedObjects ++ [Dict.bracketNoSlot, Dict.bracketSelected, Dict.dupBegins,
          Dict.grpColours, Dict.grpDrops, Dict.srcDroppedBytes, Dict.srcDroppedPackets, Dict.srcLines, Dict.srcStallNs])
    | .end_ dt .. =>
      (s.elapse dt).ce.inQ = [] → (s.elapse dt).ce.offered = [] → s.leaves dt t (raisedParts ++ [.classes, .commands, .engines,
        .prefixes, .queues, .dropRuns, .port, .free, .out, .power,
        .stack, .trace]) (raisedObjects ++ [Dict.grpColours, Dict.grpDrops, Dict.orphanEnds, Dict.srcDroppedBytes,
          Dict.srcDroppedPackets, Dict.srcLines, Dict.srcStallNs])
    | .bytes dt .. =>
      (s.elapse dt).ce.inQ = [] → (s.elapse dt).ce.offered = [] → s.leaves dt t ([.engines, .levels, .port, .power]) []
    | .linkBytes dt .. =>
      (s.elapse dt).ce.inQ = [] → (s.elapse dt).ce.offered = [] → s.leaves dt t ([.linkBytes, .port, .power]) []
    | .arrive dt .. =>
      (s.elapse dt).ce.inQ = [] → (s.elapse dt).ce.offered = [] → s.leaves dt t (raisedParts ++ [.queues, .dropRuns, .barriers,
        .port, .power, .verdict]) (raisedObjects ++ [Dict.grpDrops,
        Dict.lateEwma, Dict.relayed, Dict.vectorsLost])
    | .tagOpen dt .. | .shardRange dt .. =>
      (s.elapse dt).ce.inQ = [] → (s.elapse dt).ce.offered = [] → s.leaves dt t ([.port, .evidence, .free, .power]) []
    | .tagClose dt .. =>
      (s.elapse dt).ce.inQ = [] → (s.elapse dt).ce.offered = [] → s.leaves dt t (raisedParts ++ [.queues, .dropRuns, .port,
        .evidence, .power]) (raisedObjects ++ [Dict.digestsEmitted,
        Dict.grpDrops, Dict.overlayOrdinal, Dict.relayed, Dict.vectorsLost])
    | .bktOpen dt .. | .shardOpen dt .. =>
      (s.elapse dt).ce.inQ = [] → (s.elapse dt).ce.offered = [] → s.leaves dt t ([.port, .evidence, .power]) []
    | .bktClose dt .. =>
      (s.elapse dt).ce.inQ = [] → (s.elapse dt).ce.offered = [] → s.leaves dt t (raisedParts ++ [.port, .evidence, .power,
        .verdict]) (raisedObjects ++ [Dict.bracketCompared,
        Dict.bracketMismatched, Dict.condUnbinned, Dict.mismatches])
    | .dupDecline dt .. =>
      (s.elapse dt).ce.inQ = [] → (s.elapse dt).ce.offered = [] → s.leaves dt t ([.port, .evidence, .power])
        ([Dict.bracketDeclined])
    | .shardClose dt .. =>
      (s.elapse dt).ce.inQ = [] → (s.elapse dt).ce.offered = [] → s.leaves dt t (raisedParts ++ [.queues, .dropRuns, .port,
        .evidence, .free, .power]) (raisedObjects ++
        [Dict.digestsEmitted, Dict.grpDrops, Dict.relayed, Dict.shardDigests, Dict.vectorsLost])
    | .ckptBoundary dt .. =>
      (s.elapse dt).ce.inQ = [] → (s.elapse dt).ce.offered = [] → s.leaves dt t ([.messages, .port, .evidence, .power]) []
    | _ => True

/-- What the commands of chapters 05 and 06, the developer and its images
leave as it was: every part of the state and every stored object that is not named beside the command. -/
def Obligations.DeveloperFrame : Prop :=
  ∀ c s t, exec c s = .next t →
    match c with
    | .scoreRecordComplete dt .. =>
      s.leaves dt t (raisedParts ++ [.developer, .free, .power, .reduction, .verdict]) (raisedObjects ++ [Dict.devEvals,
        Dict.engineFlags, Dict.slotDefaultRoutes, Dict.slotLastScore, Dict.slotQueued, Dict.slotUnscored, Dict.slotVectors,
          Dict.unscoredAll])
    | .imageSegment dt .. =>
      s.leaves dt t (answerParts ++ [.developer, .parked, .power, .actions, .writes]) ([Dict.mgmtDiscards, Dict.served,
        Dict.slotLoadResult, Dict.slotState])
    | .stackWrite dt _ _ _ data =>
      s.leaves dt t (answerParts ++ [.free, .parked, .power, .stack, .levels, .writes, .store]) ([Dict.mgmtDiscards,
        Dict.served, Dict.stackWriteAddr]) ∧
      (∀ a, a < (s.elapse dt).rd Dict.stackWriteAddr ∨ (s.elapse dt).rd Dict.stackWriteAddr + data.length ≤ a →
        t.stack.read a = (s.elapse dt).stack.read a)
    | .loadStack dt .. =>
      s.leaves dt t (answerParts ++ [.codes, .developer, .free, .parked, .power, .levels, .actions, .held])
        ([Dict.mgmtDiscards, Dict.served, Dict.slotLoadResult, Dict.slotState])
    | .loadEnd dt .. =>
      s.leaves dt t ([.developer, .free, .levels, .actions]) ([Dict.nodesUsed, Dict.slotDepth, Dict.slotLink,
        Dict.slotLoadResult, Dict.slotModelId, Dict.slotNodes, Dict.slotResident, Dict.slotState, Dict.slotTrees])
    | .activate dt .. =>
      s.leaves dt t (answerParts ++ [.codes, .developer, .parked, .power]) ([Dict.mgmtDiscards, Dict.served])
    | .unload dt .. =>
      s.leaves dt t (raisedParts ++ answerParts ++ [.codes, .developer, .free, .journal, .parked, .power, .stack, .actions,
        .writes, .prefixes, .dropRuns]) (raisedObjects ++ [Dict.grpColours, Dict.grpDrops, Dict.historyOldest,
          Dict.journalLost, Dict.journalOldest, Dict.mgmtDiscards, Dict.nodesUsed, Dict.served, Dict.slotDepth, Dict.slotLink,
            Dict.slotLoadResult, Dict.slotModelId, Dict.slotNodes, Dict.slotResident, Dict.slotState, Dict.slotTrees])
    | .unloadDrained dt .. =>
      s.leaves dt t ([.developer]) ([Dict.nodesUsed, Dict.slotDepth, Dict.slotLink, Dict.slotModelId, Dict.slotNodes,
        Dict.slotResident, Dict.slotState, Dict.slotTrees])
    | .retire dt .. =>
      s.leaves dt t (raisedParts ++ [.developer, .free, .journal, .stack, .prefixes, .queues, .dropRuns]) (raisedObjects ++
        [Dict.grpColours, Dict.grpDrops, Dict.historyOldest, Dict.journalLost, Dict.journalOldest, Dict.slotPipeCount,
          Dict.slotState])
    | .devPhaseWrite dt .. =>
      s.leaves dt t (raisedParts ++ answerParts ++ [.free, .journal, .parked, .power, .stack]) (raisedObjects ++
        [Dict.devPhase, Dict.historyOldest, Dict.journalLost, Dict.journalOldest, Dict.mgmtDiscards, Dict.served])
    | _ => True

/-- What the commands of chapters 07 and 08, reduction, verdicts and liveness
leave as it was: every part of the state and every stored object that is not named beside the command. -/
def Obligations.ReductionFrame : Prop :=
  ∀ c s t, exec c s = .next t →
    match c with
    | .programApply dt .. =>
      s.leaves dt t (answerParts ++ [.codes, .parked, .power, .reduction]) ([Dict.mgmtDiscards, Dict.served])
    | .reductionRecord dt .. =>
      s.leaves dt t (raisedParts ++ [.developer, .free, .journal, .live, .parked, .power, .reduction, .stack, .prefixes,
        .queues, .dropRuns]) (raisedObjects ++ [Dict.childLastFrame, Dict.childLate, Dict.forcedCloses, Dict.gapCloses,
          Dict.grpColours, Dict.grpDrops, Dict.historyOldest, Dict.journalLost, Dict.journalOldest, Dict.lateRecords,
            Dict.redPending, Dict.slotGenMask, Dict.slotPipeCount, Dict.slotPipeFirst, Dict.slotQueued, Dict.slotState,
              Dict.slotVkind, Dict.streamRefused, Dict.unexpected])
    | .deadline dt .. =>
      s.leaves dt t (raisedParts ++ [.developer, .free, .journal, .power, .reduction, .stack, .prefixes, .queues, .dropRuns])
        (raisedObjects ++ [Dict.deadlineCloses, Dict.grpColours, Dict.grpDrops, Dict.historyOldest, Dict.journalLost,
          Dict.journalOldest, Dict.slotGenMask, Dict.slotPipeCount, Dict.slotPipeFirst, Dict.slotQueued, Dict.slotState,
            Dict.slotVkind, Dict.streamRefused])
    | .mergeComplete dt .. =>
      s.leaves dt t (raisedParts ++ [.free, .journal, .reduction, .stack, .queues, .dropRuns]) (raisedObjects ++
        [Dict.grpDrops, Dict.historyOldest, Dict.journalLost, Dict.journalOldest, Dict.lastRecord, Dict.pushDrops,
          Dict.redPending, Dict.relayed, Dict.vectorsLost])
    | .centreRecord dt .. =>
      s.leaves dt t ([.front, .parked, .power, .reduction, .queues]) []
    | .featureFrame dt .. =>
      s.leaves dt t (raisedParts ++ [.developer, .free, .journal, .parked, .power, .reduction, .stack, .prefixes, .queues,
        .dropRuns]) (raisedObjects ++ [Dict.grpColours, Dict.grpDrops, Dict.historyOldest, Dict.journalLost,
          Dict.journalOldest, Dict.slotGenMask, Dict.slotPipeCount, Dict.slotPipeFirst, Dict.slotQueued, Dict.slotState,
            Dict.slotVkind, Dict.streamRefused])
    | .verdictFormed dt .. =>
      s.leaves dt t (raisedParts ++ [.free, .journal, .stack, .verdict, .prefixes, .queues, .dropRuns]) (raisedObjects ++
        [Dict.condUnbinned, Dict.driftArg, Dict.driftScore, Dict.grpColours, Dict.grpDrops, Dict.historyOldest,
          Dict.journalLost, Dict.journalOldest, Dict.loopFlags, Dict.loopThreshold, Dict.loopValues, Dict.recent, Dict.verdict])
    | .verdictClear dt .. =>
      s.leaves dt t (raisedParts ++ answerParts ++ [.codes, .parked, .power, .verdict]) (raisedObjects ++ [Dict.barriersSeen,
        Dict.lastCount, Dict.mgmtDiscards, Dict.recent, Dict.served, Dict.verdict])
    | .baselineReset dt .. =>
      s.leaves dt t (answerParts ++ [.codes, .parked, .power, .verdict]) ([Dict.loopThreshold, Dict.mgmtDiscards, Dict.served])
    | .stallTimeout dt .. =>
      s.leaves dt t (raisedParts ++ [.free, .live]) (raisedObjects)
    | _ => True

/-- What the commands of chapter 09, barriers, broadcasts and epochs
leave as it was: every part of the state and every stored object that is not named beside the command. -/
def Obligations.BarrierFrame : Prop :=
  ∀ c s t, exec c s = .next t →
    match c with
    | .arrival dt .. =>
      s.leaves dt t (raisedParts ++ [.barriers, .free, .live, .parked, .power, .queues, .dropRuns]) (raisedObjects ++
        [Dict.barriersOpen, Dict.epochBacklog, Dict.grpDrops, Dict.nonMemberArrivals, Dict.reissues, Dict.relayed,
          Dict.treesActive, Dict.vectorsLost])
    | .release dt .. | .bcast dt .. =>
      s.leaves dt t (raisedParts ++ [.barriers, .port, .evidence, .free, .live, .out, .parked, .power, .shutter, .verdict,
        .messages, .queues, .dropRuns]) (raisedObjects ++ [Dict.barriersOpen, Dict.barriersSeen, Dict.duplicates,
          Dict.epochBacklog, Dict.grpDrops, Dict.jobState, Dict.lastCount, Dict.lastRelease, Dict.lateReleases, Dict.reissues,
            Dict.relayed, Dict.shutterBase, Dict.shutterFired, Dict.shutterMode, Dict.shutterPeriod, Dict.shutterStart,
              Dict.treesActive, Dict.vectorsLost])
    | .bcastAck dt .. =>
      s.leaves dt t (raisedParts ++ [.barriers, .free, .live, .parked, .power, .queues, .dropRuns]) (raisedObjects ++
        [Dict.barriersOpen, Dict.epochBacklog, Dict.grpDrops, Dict.reissues, Dict.relayed, Dict.treesActive, Dict.vectorsLost])
    | .hopAck dt .. =>
      s.leaves dt t ([.barriers, .parked, .power]) []
    | .nackTimeout dt .. =>
      s.leaves dt t ([.barriers, .queues]) ([Dict.reissues])
    | .ackHold dt .. =>
      s.leaves dt t (raisedParts ++ [.barriers, .queues, .dropRuns]) (raisedObjects ++ [Dict.grpDrops, Dict.relayed,
        Dict.vectorsLost])
    | .ackReport dt .. | .barrierReport dt .. =>
      s.leaves dt t (raisedParts ++ [.barriers]) (raisedObjects)
    | .epochSegment dt .. =>
      s.leaves dt t ([.barriers, .parked, .power, .queues]) ([Dict.barriersOpen, Dict.duplicates, Dict.epochBacklog,
        Dict.reissues, Dict.treesActive])
    | .epochApplied dt .. =>
      s.leaves dt t (raisedParts ++ [.barriers, .port, .developer, .evidence, .free, .journal, .live, .out, .power, .reduction,
        .shutter, .stack, .verdict, .messages, .prefixes, .queues, .dropRuns]) (raisedObjects ++ [Dict.barriersOpen,
          Dict.barriersSeen, Dict.duplicates, Dict.epochBacklog, Dict.grpColours, Dict.grpDrops, Dict.historyOldest,
            Dict.jobSize, Dict.jobState, Dict.journalLost, Dict.journalOldest, Dict.lastCount, Dict.lastRelease,
              Dict.lateReleases, Dict.memberEpoch, Dict.myJob, Dict.myMember, Dict.reissues, Dict.relayed, Dict.shutterBase,
                Dict.shutterFired, Dict.shutterMode, Dict.shutterPeriod, Dict.shutterStart, Dict.slotGenMask,
                  Dict.slotPipeCount, Dict.slotPipeFirst, Dict.slotQueued, Dict.slotState, Dict.slotVkind, Dict.streamRefused,
                    Dict.treesActive, Dict.vectorsLost])
    | .epochIssue dt .. =>
      s.leaves dt t (answerParts ++ [.barriers, .codes, .parked, .power]) ([Dict.barriersOpen, Dict.epochBacklog,
        Dict.epochLastIssued, Dict.mgmtDiscards, Dict.served, Dict.treesActive])
    | .bcastIssueJobStart dt .. | .bcastIssueJobTeardown dt .. | .bcastIssueHostMessage dt .. =>
      s.leaves dt t (raisedParts ++ answerParts ++ [.barriers, .codes, .free, .live, .parked, .power, .dropRuns])
        (raisedObjects ++ [Dict.barriersOpen, Dict.epochBacklog, Dict.grpDrops, Dict.mgmtDiscards, Dict.reissues, Dict.relayed,
          Dict.served, Dict.treesActive, Dict.vectorsLost])
    | .teardownDone dt .. =>
      s.leaves dt t (raisedParts ++ [.barriers, .evidence, .free, .parked, .power, .messages, .queues, .dropRuns])
        (raisedObjects ++ [Dict.grpDrops, Dict.jobState, Dict.relayed, Dict.vectorsLost])
    | _ => True

/-- What the commands of chapter 10, silent-error evidence outside the port
leave as it was: every part of the state and every stored object that is not named beside the command. -/
def Obligations.EvidenceFrame : Prop :=
  ∀ c s t, exec c s = .next t →
    match c with
    | .bracketWait dt .. =>
      s.leaves dt t (raisedParts ++ [.evidence]) (raisedObjects ++ [Dict.bracketTimeouts])
    | .overlayArm dt .. | .overlayDisarm dt .. =>
      s.leaves dt t (answerParts ++ [.codes, .evidence, .parked, .power]) ([Dict.mgmtDiscards, Dict.overlayOrdinal,
        Dict.served])
    | .digestRecord dt .. =>
      s.leaves dt t (raisedParts ++ [.evidence, .free, .journal, .parked, .power, .stack, .queues, .dropRuns]) (raisedObjects
        ++ [Dict.grpDrops, Dict.historyOldest, Dict.journalLost, Dict.journalOldest, Dict.overlayCompared,
          Dict.overlayMismatched, Dict.overlayTimeouts, Dict.overlayUnclaimed, Dict.relayed, Dict.vectorsLost])
    | .overlayWait dt .. =>
      s.leaves dt t (raisedParts ++ [.evidence, .free, .queues]) (raisedObjects ++ [Dict.overlayCompared,
        Dict.overlayMismatched, Dict.overlayTimeouts])
    | .mismatchNotice dt .. =>
      s.leaves dt t ([.free, .parked, .power, .verdict, .queues]) ([Dict.condUnbinned, Dict.mismatches])
    | .boundPeriod dt .. =>
      s.leaves dt t (raisedParts ++ [.evidence, .free]) (raisedObjects ++ [Dict.bound, Dict.fBound])
    | .boundReset dt .. =>
      s.leaves dt t (answerParts ++ [.codes, .evidence, .parked, .power]) ([Dict.fBound, Dict.mgmtDiscards, Dict.served])
    | .boundEnforceWrite dt .. =>
      s.leaves dt t (answerParts ++ [.evidence, .free, .parked, .power]) ([Dict.boundEnforce, Dict.fBound, Dict.mgmtDiscards,
        Dict.served])
    | .testRequest dt .. =>
      s.leaves dt t (answerParts ++ [.codes, .evidence, .parked, .power]) ([Dict.mgmtDiscards, Dict.served])
    | .testCancel dt .. =>
      s.leaves dt t (answerParts ++ [.codes, .evidence, .free, .parked, .power]) ([Dict.mgmtDiscards, Dict.served])
    | .testDeadline dt .. =>
      s.leaves dt t (raisedParts ++ [.evidence]) (raisedObjects ++ [Dict.testsOverdue])
    | .testDone dt .. =>
      s.leaves dt t (raisedParts ++ [.evidence, .parked, .power, .verdict]) (raisedObjects ++ [Dict.condUnbinned,
        Dict.mismatches, Dict.testsFailed, Dict.testsPassed])
    | _ => True

/-- What the commands of chapters 11 and 12, the trace and the codec
leave as it was: every part of the state and every stored object that is not named beside the command. -/
def Obligations.TraceAndCodecFrame : Prop :=
  ∀ c s t, exec c s = .next t →
    match c with
    | .traceEnableWrite dt .. =>
      s.leaves dt t (raisedParts ++ answerParts ++ [.free, .out, .parked, .power, .stack, .trace, .prefixes, .dropRuns])
        (raisedObjects ++ [Dict.grpColours, Dict.grpDrops, Dict.mgmtDiscards, Dict.served, Dict.sinkReadPtr, Dict.sinkWritePtr,
          Dict.srcDroppedBytes, Dict.srcDroppedPackets, Dict.srcLines, Dict.srcStallNs, Dict.traceEnable])
    | .sqGroup dt .. =>
      s.leaves dt t (raisedParts ++ [.free, .out, .power, .stack, .trace, .prefixes, .queues, .dropRuns]) (raisedObjects ++
        [Dict.grpColours, Dict.grpDrops, Dict.srcDroppedBytes, Dict.srcDroppedPackets, Dict.srcLines, Dict.srcStallNs])
    | .sqSleep dt .. =>
      s.leaves dt t (raisedParts ++ [.free, .out, .stack, .trace, .prefixes, .queues, .dropRuns]) (raisedObjects ++
        [Dict.grpColours, Dict.grpDrops, Dict.srcDroppedBytes, Dict.srcDroppedPackets, Dict.srcLines, Dict.srcStallNs])
    | .traceLineTimeout dt .. =>
      s.leaves dt t (raisedParts ++ [.stack, .trace, .prefixes, .queues, .dropRuns]) (raisedObjects ++ [Dict.grpColours,
        Dict.grpDrops, Dict.srcLines])
    | .syncPeriod dt .. =>
      s.leaves dt t ([.trace]) []
    | .sinkLineWritten dt .. =>
      s.leaves dt t ([.out, .trace]) ([Dict.sinkWraps, Dict.sinkWritePtr, Dict.srcLines, Dict.srcStallNs])
    | .offloadFlush dt .. =>
      s.leaves dt t (raisedParts ++ [.stack, .trace, .prefixes, .queues, .dropRuns]) (raisedObjects ++ [Dict.grpColours,
        Dict.grpDrops])
    | .offloadUnit dt _ bytes =>
      s.leaves dt t ([.parked, .power, .stack, .trace, .levels, .store]) [] ∧
      (bytes.length + 64 ≤ (s.elapse dt).rd Dict.traceStoreSize → ∀ a, a < (s.elapse dt).rd Dict.traceStoreBase ∨
        (s.elapse dt).rd Dict.traceStoreBase + (s.elapse dt).rd Dict.traceStoreSize ≤ a →
        t.stack.read a = (s.elapse dt).stack.read a)
    | .storeRead dt .. =>
      s.leaves dt t (answerParts ++ [.parked, .power, .trace, .levels, .reads]) ([Dict.mgmtDiscards, Dict.served,
        Dict.storeCursor, Dict.storeLost])
    | .prcStart dt .. =>
      s.leaves dt t (answerParts ++ [.codes, .parked, .prc, .power]) ([Dict.mgmtDiscards, Dict.prcFaultOffset,
        Dict.prcInConsumed, Dict.prcOutProduced, Dict.prcStatus, Dict.served])
    | .prcResume dt .. =>
      s.leaves dt t (answerParts ++ [.codes, .parked, .prc, .power]) ([Dict.mgmtDiscards, Dict.prcStatus, Dict.served])
    | .prcAbort dt .. =>
      s.leaves dt t (raisedParts ++ answerParts ++ [.codes, .free, .parked, .prc, .power, .stack]) (raisedObjects ++
        [Dict.mgmtDiscards, Dict.prcFaultOffset, Dict.prcInConsumed, Dict.prcOutProduced, Dict.prcStatus, Dict.served])
    | .prcJobStop dt c =>
      s.leaves dt t (raisedParts ++ [.free, .prc, .stack]) (raisedObjects ++ [Dict.prcFaultOffset, Dict.prcInConsumed,
        Dict.prcOutProduced, Dict.prcStatus]) ∧
      ((s.elapse dt).storeOk → ∀ j, Tbl.get? (s.elapse dt).prc c = some j → ∀ a, a < j.outAddr ∨ j.outAddr + j.outLen ≤ a →
        ¬ (s.elapse dt).inStore a → t.stack.read a = (s.elapse dt).stack.read a)
    | .ceB2hTransfer dt .. =>
      s.leaves dt t (raisedParts ++ [.barriers, .port, .evidence, .free, .out, .stack, .trace, .verdict, .classes, .commands,
        .engines, .linkBytes, .messages, .prefixes, .queues, .dropRuns]) (raisedObjects ++ [Dict.bracketCompared,
          Dict.bracketDeclined, Dict.bracketMismatched, Dict.bracketNoSlot, Dict.bracketSelected, Dict.condUnbinned,
            Dict.digestsEmitted, Dict.dupBegins, Dict.grpColours, Dict.grpDrops, Dict.lateEwma, Dict.mismatches,
              Dict.orphanEnds, Dict.overlayOrdinal, Dict.relayed, Dict.shardDigests, Dict.srcDroppedBytes,
                Dict.srcDroppedPackets, Dict.srcLines, Dict.srcStallNs, Dict.vectorsLost])
    | _ => True

/-- What the commands of chapter 13, lanes, frames and routes
leave as it was: every part of the state and every stored object that is not named beside the command. -/
def Obligations.LinkFrame : Prop :=
  ∀ c s t, exec c s = .next t →
    match c with
    | .laneEnableWrite dt .. =>
      s.leaves dt t (raisedParts ++ answerParts ++ [.barriers, .flash, .free, .keeper, .links, .out, .parked, .ptp, .power,
        .routes, .time, .linkBytes, .forwarded, .dropRuns]) (raisedObjects ++ [Dict.clockState, Dict.grpDrops,
          Dict.laneDownEvents, Dict.laneEnable, Dict.laneFramesTx, Dict.laneLaserBias, Dict.laneState, Dict.laneTrainStep,
            Dict.mgmtDiscards, Dict.reissues, Dict.relayed, Dict.routeFrom, Dict.routeLosts, Dict.routeMoves, Dict.served,
              Dict.vectorsLost])
    | .laneLock dt .. | .failHold dt .. =>
      s.leaves dt t ([.links]) ([Dict.laneState, Dict.laneTrainStep])
    | .trainingComplete dt .. =>
      s.leaves dt t (raisedParts ++ answerParts ++ [.barriers, .free, .links, .out, .ptp, .power, .resets, .routes, .time,
        .linkBytes, .dropRuns]) (raisedObjects ++ [Dict.clockState, Dict.grpDrops, Dict.laneEgressCorr, Dict.laneFramesTx,
          Dict.laneGroup, Dict.laneIngressCorr, Dict.laneState, Dict.laneTrainStep, Dict.reissues, Dict.relayed,
            Dict.routeFrom, Dict.routeLosts, Dict.routeMoves, Dict.vectorsLost])
    | .lockLost dt .. =>
      s.leaves dt t (raisedParts ++ answerParts ++ [.barriers, .links, .out, .ptp, .power, .routes, .time, .linkBytes,
        .forwarded, .dropRuns]) (raisedObjects ++ [Dict.clockState, Dict.grpDrops, Dict.laneDownEvents, Dict.laneFramesTx,
          Dict.laneState, Dict.laneTrainStep, Dict.reissues, Dict.relayed, Dict.routeFrom, Dict.routeLosts, Dict.routeMoves,
            Dict.vectorsLost])
    | .trainLimit dt .. | .trainingSignalLost dt .. =>
      s.leaves dt t ([.links]) ([Dict.laneState, Dict.laneTrainFails, Dict.laneTrainStep])
    | .retrain dt .. =>
      s.leaves dt t (raisedParts ++ answerParts ++ [.barriers, .codes, .links, .out, .parked, .ptp, .power, .routes, .time,
        .linkBytes, .forwarded, .dropRuns]) (raisedObjects ++ [Dict.clockState, Dict.grpDrops, Dict.laneDownEvents,
          Dict.laneFramesTx, Dict.laneState, Dict.laneTrainStep, Dict.mgmtDiscards, Dict.reissues, Dict.relayed,
            Dict.routeFrom, Dict.routeLosts, Dict.routeMoves, Dict.served, Dict.vectorsLost])
    | .train dt .. =>
      s.leaves dt t (raisedParts ++ answerParts ++ [.barriers, .free, .links, .out, .ptp, .power, .routes, .time, .linkBytes,
        .forwarded, .dropRuns]) (raisedObjects ++ [Dict.clockState, Dict.grpDrops, Dict.laneDownEvents, Dict.laneFramesRx,
          Dict.laneFramesTx, Dict.laneState, Dict.laneTrainStep, Dict.laneTxFfe, Dict.reissues, Dict.relayed, Dict.routeFrom,
            Dict.routeLosts, Dict.routeMoves, Dict.vectorsLost])
    | .ident dt .. =>
      s.leaves dt t ([.links, .linkBytes]) ([Dict.laneFramesRx, Dict.laneNeighbour])
    | .dataFrame dt .. =>
      s.leaves dt t (raisedParts ++ [.developer, .free, .journal, .live, .links, .out, .parked, .power, .reduction, .stack,
        .linkBytes, .prefixes, .queues, .dropRuns]) (raisedObjects ++ [Dict.childLastFrame, Dict.childLate, Dict.forcedCloses,
          Dict.gapCloses, Dict.grpColours, Dict.grpDrops, Dict.historyOldest, Dict.journalLost, Dict.journalOldest,
            Dict.laneCrcErrors, Dict.laneFramesRx, Dict.laneFramesTx, Dict.lateRecords, Dict.redPending, Dict.relayDiscards,
              Dict.relayed, Dict.slotGenMask, Dict.slotPipeCount, Dict.slotPipeFirst, Dict.slotQueued, Dict.slotState,
                Dict.slotVkind, Dict.streamRefused, Dict.unexpected])
    | .ack dt .. =>
      s.leaves dt t ([.links, .out, .linkBytes]) ([Dict.laneFramesRx, Dict.laneFramesTx])
    | .nak dt .. =>
      s.leaves dt t (raisedParts ++ answerParts ++ [.barriers, .links, .out, .ptp, .power, .routes, .time, .linkBytes,
        .forwarded, .dropRuns]) (raisedObjects ++ [Dict.clockState, Dict.grpDrops, Dict.laneDownEvents, Dict.laneFramesRx,
          Dict.laneFramesTx, Dict.laneResends, Dict.laneState, Dict.laneTrainStep, Dict.reissues, Dict.relayed, Dict.routeFrom,
            Dict.routeLosts, Dict.routeMoves, Dict.vectorsLost])
    | .replayTimeout dt .. =>
      s.leaves dt t (raisedParts ++ answerParts ++ [.barriers, .links, .out, .ptp, .power, .routes, .time, .linkBytes,
        .forwarded, .dropRuns]) (raisedObjects ++ [Dict.clockState, Dict.grpDrops, Dict.laneDownEvents, Dict.laneFramesTx,
          Dict.laneResends, Dict.laneState, Dict.laneTrainStep, Dict.reissues, Dict.relayed, Dict.routeFrom, Dict.routeLosts,
            Dict.routeMoves, Dict.vectorsLost])
    | .credit dt .. =>
      s.leaves dt t ([.links, .linkBytes, .queues]) ([Dict.laneFramesRx])
    | .creditRefresh dt .. =>
      s.leaves dt t ([.links, .out, .linkBytes]) ([Dict.laneFramesTx])
    | .routeJoin dt .. | .routeMoveLeg dt .. =>
      s.leaves dt t ([.barriers, .free, .links, .out, .reduction, .routes, .linkBytes]) ([Dict.laneCrcErrors,
        Dict.laneFramesRx, Dict.laneFramesTx])
    | .parentLost dt .. =>
      s.leaves dt t (raisedParts ++ [.barriers, .links, .out, .ptp, .power, .routes, .time, .linkBytes, .queues, .dropRuns])
        (raisedObjects ++ [Dict.clockState, Dict.grpDrops, Dict.laneCrcErrors, Dict.laneFramesRx, Dict.laneFramesTx,
          Dict.relayed, Dict.routeFrom, Dict.routeMoves, Dict.vectorsLost])
    | .routeMove dt .. =>
      s.leaves dt t (raisedParts ++ answerParts ++ [.barriers, .codes, .free, .links, .out, .parked, .ptp, .power, .routes,
        .time, .linkBytes, .dropRuns]) (raisedObjects ++ [Dict.clockState, Dict.grpDrops, Dict.laneFramesTx, Dict.mgmtDiscards,
          Dict.relayed, Dict.routeFrom, Dict.routeMoves, Dict.served, Dict.vectorsLost])
    | .homeHold dt .. =>
      s.leaves dt t (raisedParts ++ [.barriers, .links, .out, .ptp, .power, .routes, .time, .linkBytes, .queues, .dropRuns])
        (raisedObjects ++ [Dict.clockState, Dict.grpDrops, Dict.laneFramesTx, Dict.relayed, Dict.routeFrom, Dict.routeMoves,
          Dict.vectorsLost])
    | .equaliserAdapt dt .. =>
      s.leaves dt t ([.free, .links, .out, .linkBytes]) ([Dict.laneBerEst, Dict.laneEyeMargin, Dict.laneFramesTx,
        Dict.laneRxCtle, Dict.laneRxDfe, Dict.laneRxPower])
    | .laserLoop dt .. =>
      s.leaves dt t (raisedParts ++ [.free, .links, .power, .time]) (raisedObjects ++ [Dict.laneLaserBias])
    | .trainFrameInterval dt .. =>
      s.leaves dt t ([.free, .links, .out, .linkBytes]) ([Dict.laneFramesTx, Dict.laneTrainStep])
    | _ => True

/-- What the commands of chapters 14, 17 and 20, the uplink, the event recorder, the negative and the journal
leave as it was: every part of the state and every stored object that is not named beside the command. -/
def Obligations.UplinkFrame : Prop :=
  ∀ c s t, exec c s = .next t →
    match c with
    | .dataDecision dt .. =>
      s.leaves dt t ([.links, .out, .recorder, .resets, .linkBytes, .irq, .alarmBuffer, .queues, .inForce])
        ([Dict.alarmBufUsed, Dict.grpClassBytes, Dict.laneFramesTx])
    | .gateApply dt .. =>
      s.leaves dt t (answerParts ++ [.codes, .free, .parked, .power]) ([Dict.mgmtDiscards, Dict.served])
    | .gateEntryChange dt .. =>
      s.leaves dt t ([.queues]) []
    | .classDropFlush dt .. =>
      s.leaves dt t (raisedParts ++ [.dropRuns]) (raisedObjects)
    | .alarmRecord dt .. =>
      s.leaves dt t (raisedParts ++ [.parked, .power]) ([Dict.alarmBufUsed, Dict.fNext, Dict.fOverwritten, Dict.mirrorBehind,
        Dict.oNext])
    | .alarmSpaceFreed dt .. =>
      s.leaves dt t (raisedParts ++ [.links, .out, .linkBytes]) ([Dict.alarmBufUsed, Dict.alarmHeld, Dict.fNext,
        Dict.fOverwritten, Dict.laneFramesTx, Dict.mirrorBehind, Dict.oNext])
    | .mirrorFlush dt .. =>
      s.leaves dt t (raisedParts ++ [.prefixes, .queues, .dropRuns]) (raisedObjects ++ [Dict.grpColours, Dict.grpDrops])
    | .mirrorMessage dt .. =>
      s.leaves dt t ([.levels, .store, .parked, .power, .recorder]) ([Dict.fNext, Dict.fOverwritten, Dict.mirrorBehind,
        Dict.oNext])
    | .clearF dt .. | .clearO dt .. | .clearBoth dt .. =>
      s.leaves dt t (raisedParts ++ answerParts ++ [.codes, .parked, .power]) ([Dict.alarmBufUsed, Dict.alarmHeld,
        Dict.fCursor, Dict.fNext, Dict.fOverwritten, Dict.mgmtDiscards, Dict.mirrorBehind, Dict.oNext, Dict.oSelect,
          Dict.served])
    | .fWindow dt .. | .oWindow dt .. =>
      s.leaves dt t (answerParts ++ [.parked, .power]) ([Dict.fCursor, Dict.mgmtDiscards, Dict.oSelect, Dict.served])
    | .negTake dt .. =>
      s.leaves dt t (answerParts ++ [.codes, .negative, .parked, .power]) ([Dict.mgmtDiscards, Dict.served])
    | .negPeriod dt .. =>
      s.leaves dt t ([.negative]) []
    | .negFixed dt =>
      s.leaves dt t (raisedParts ++ [.negative, .stack]) (raisedObjects ++ [Dict.negSeq, Dict.negSlot]) ∧
      ((s.elapse dt).storeOk → ∀ a, ¬ (s.elapse dt).inStore a →
        (a < negBase (s.elapse dt).neg.target ∨ negBase (s.elapse dt).neg.target + 32 ≤ a) →
        (a < negBase (s.elapse dt).neg.target + 4096 ∨
          negBase (s.elapse dt).neg.target + 4096 + (s.elapse dt).neg.image.length ≤ a) →
        t.stack.read a = (s.elapse dt).stack.read a)
    | .journalEnableWrite dt .. =>
      s.leaves dt t (answerParts ++ [.free, .journal, .parked, .power]) ([Dict.journalEnable, Dict.mgmtDiscards, Dict.served])
    | .chunkTimeout dt .. =>
      s.leaves dt t (raisedParts ++ [.free, .journal, .stack]) (raisedObjects ++ [Dict.historyOldest, Dict.journalLost,
        Dict.journalOldest])
    | .journalLost dt .. =>
      s.leaves dt t (raisedParts ++ [.journal]) (raisedObjects)
    | .leafJournalFlush dt .. =>
      s.leaves dt t (raisedParts ++ [.journal, .prefixes, .queues, .dropRuns]) (raisedObjects ++ [Dict.grpColours,
        Dict.grpDrops])
    | .leafJournalMessage dt .. =>
      s.leaves dt t (raisedParts ++ [.free, .journal, .parked, .power, .stack]) (raisedObjects ++ [Dict.historyOldest,
        Dict.journalLost, Dict.journalOldest])
    | .exportFreeze dt .. | .exportRelease dt .. =>
      s.leaves dt t (raisedParts ++ answerParts ++ [.codes, .journal, .parked, .power]) (raisedObjects ++ [Dict.mgmtDiscards,
        Dict.served])
    | _ => True
end

