-- ==== Sys2Proof/Laws/Memory.lean ====
section
/-! SUPPORT. The stacks' memory: every operation keeps its canonical form. -/

namespace Sys2Proof.Machine

open Sys2Proof

/-- A canonical list starts no earlier than a lower bound allows. -/
theorem cellsFrom_mono (lo lo' : Nat) (c : List Host.Cell) (h : lo' ≤ lo) (hc : cellsFrom lo c = true) : cellsFrom lo' c = true := by
  cases c with
  | nil => rfl
  | cons e t =>
    obtain ⟨a, b⟩ := e
    simp only [cellsFrom, Bool.and_eq_true, decide_eq_true_eq] at hc ⊢
    exact ⟨⟨by omega, hc.1.2⟩, hc.2⟩

/-- Part of a canonical list is canonical. -/
theorem cellsFrom_filter (p : Host.Cell → Bool) (c : List Host.Cell) : ∀ lo, cellsFrom lo c = true → cellsFrom lo (c.filter p) = true := by
  induction c with
  | nil => intro lo _; rfl
  | cons e t ih =>
    intro lo hc
    obtain ⟨a, b⟩ := e
    simp only [cellsFrom, Bool.and_eq_true, decide_eq_true_eq] at hc
    rw [List.filter_cons]
    split
    · simp only [cellsFrom, Bool.and_eq_true, decide_eq_true_eq]
      exact ⟨hc.1, ih _ hc.2⟩
    · exact cellsFrom_mono (a + 1) lo _ (by omega) (ih _ hc.2)

/-- The cells of a byte string are canonical. -/
theorem cellsOf_canonical (bs : Bytes) : ∀ a, cellsFrom a (cellsOf a bs) = true := by
  induction bs with
  | nil => intro a; rfl
  | cons b bs ih =>
    intro a
    simp only [cellsOf]
    split
    · exact cellsFrom_mono (a + 1) a _ (by omega) (ih _)
    · rename_i h
      simp only [cellsFrom, Bool.and_eq_true, decide_eq_true_eq, bne_iff_ne, ne_eq]
      exact ⟨⟨le_refl a, h⟩, ih _⟩

/-- The cells of a byte string lie below its end. -/
theorem cellsOf_below (bs : Bytes) : ∀ a, ∀ e ∈ cellsOf a bs, e.1 < a + bs.length := by
  induction bs with
  | nil => intro a e he; simp [cellsOf] at he
  | cons b bs ih =>
    intro a e he
    simp only [cellsOf] at he
    split at he
    · have := ih _ e he
      simp only [List.length_cons]; omega
    · rcases List.mem_cons.mp he with h | h
      · subst h; simp
      · have := ih _ e h
        simp only [List.length_cons]; omega

/-- Two canonical lists in a row are canonical when the first ends below the second's bound. -/
theorem cellsFrom_append (c d : List Host.Cell) (mid : Nat) :
    ∀ lo, cellsFrom lo c = true → (∀ e ∈ c, e.1 < mid) → lo ≤ mid → cellsFrom mid d = true → cellsFrom lo (c ++ d) = true := by
  induction c with
  | nil => intro lo _ _ h hd; exact cellsFrom_mono mid lo d h hd
  | cons e t ih =>
    intro lo hc hb _ hd
    obtain ⟨a, b⟩ := e
    simp only [cellsFrom, Bool.and_eq_true, decide_eq_true_eq, List.cons_append] at hc ⊢
    have ha := hb (a, b) (List.mem_cons_self ..)
    exact ⟨hc.1, ih _ hc.2 (fun x hx => hb x (List.mem_cons_of_mem _ hx)) (by simpa using ha) hd⟩

/-- What is left above a bound starts there. -/
theorem cellsFrom_above (n : Nat) (c : List Host.Cell) :
    ∀ lo, cellsFrom lo c = true → cellsFrom n (c.filter (fun e => decide (n ≤ e.1))) = true := by
  induction c with
  | nil => intro lo _; rfl
  | cons e t ih =>
    intro lo hc
    obtain ⟨a, b⟩ := e
    simp only [cellsFrom, Bool.and_eq_true, decide_eq_true_eq] at hc
    rw [List.filter_cons]
    split
    · rename_i h
      simp only [decide_eq_true_eq] at h
      simp only [cellsFrom, Bool.and_eq_true, decide_eq_true_eq]
      exact ⟨⟨h, hc.1.2⟩, cellsFrom_filter _ _ _ hc.2⟩
    · exact ih _ hc.2

/-- A write keeps the canonical form. -/
theorem Memory.write_wf (m : Memory) (a : Nat) (bs : Bytes) (h : m.wf = true) : (m.write a bs).wf = true := by
  have hc : cellsFrom 0 m.cells = true := h
  show cellsFrom 0 (writeCells m.cells a bs) = true
  unfold writeCells
  rw [List.append_assoc]
  refine cellsFrom_append _ _ a 0 (cellsFrom_filter _ _ _ hc) ?_ (Nat.zero_le _) ?_
  · intro e he
    simpa using (List.mem_filter.mp he).2
  · exact cellsFrom_append _ _ (a + bs.length) a (cellsOf_canonical bs a) (cellsOf_below bs a) (by omega)
      (cellsFrom_above _ _ 0 hc)

/-- A range that becomes unpredictable keeps the canonical form. -/
theorem Memory.openUp_wf (m : Memory) (lo hi seed : Nat) (h : m.wf = true) : (m.openUp lo hi seed).wf = true := by
  unfold Memory.openUp
  split
  · exact h
  · exact cellsFrom_filter _ _ _ h

/-- The stacks after reset have the canonical form. -/
theorem State.resetOf_wf (b : Build) (r : Role) (n : Nat) : (State.resetOf b r n).stack.wf = true := rfl

/-- Counting leaves the stacks as they are. -/
@[simp] theorem State.countStack_stack (s : State) (a n : Nat) (w : Bool) : (s.countStack a n w).stack = s.stack := rfl

/-- A write through the levels' counters keeps the canonical form. -/
theorem State.stackWrite_wf (s : State) (a : Nat) (bs : Bytes) (h : s.stack.wf = true) : (s.stackWrite a bs).stack.wf = true := by
  unfold State.stackWrite
  split
  · exact h
  · exact Memory.write_wf s.stack a bs h

end Sys2Proof.Machine
end

