-- ==== Sys2Proof/Laws/State.lean ====
section
/-! SUPPORT. One lemma per field per update of State: what an update does not touch is as it was. -/

namespace Sys2Proof.Machine

open Sys2Proof

-- one theorem after the other: each theorem that waits for the kernel would hold a thread
set_option Elab.async false

/-! ### wr -/

@[simp] theorem State.wr_pending (s : State) (o : Ob) (v m j : Nat) : (s.wr o v m j).pending = s.pending := rfl
@[simp] theorem State.wr_parked (s : State) (o : Ob) (v m j : Nat) : (s.wr o v m j).parked = s.parked := rfl
@[simp] theorem State.wr_build (s : State) (o : Ob) (v m j : Nat) : (s.wr o v m j).build = s.build := rfl
@[simp] theorem State.wr_role (s : State) (o : Ob) (v m j : Nat) : (s.wr o v m j).role = s.role := rfl
@[simp] theorem State.wr_strapPins (s : State) (o : Ob) (v m j : Nat) : (s.wr o v m j).strapPins = s.strapPins := rfl
@[simp] theorem State.wr_doms (s : State) (o : Ob) (v m j : Nat) : (s.wr o v m j).doms = s.doms := rfl
@[simp] theorem State.wr_cmdCodes (s : State) (o : Ob) (v m j : Nat) : (s.wr o v m j).cmdCodes = s.cmdCodes := rfl
@[simp] theorem State.wr_latchedRegs (s : State) (o : Ob) (v m j : Nat) : (s.wr o v m j).latchedRegs = s.latchedRegs := rfl
@[simp] theorem State.wr_latchedDoms (s : State) (o : Ob) (v m j : Nat) : (s.wr o v m j).latchedDoms = s.latchedDoms := rfl
@[simp] theorem State.wr_time (s : State) (o : Ob) (v m j : Nat) : (s.wr o v m j).time = s.time := rfl
@[simp] theorem State.wr_ptp (s : State) (o : Ob) (v m j : Nat) : (s.wr o v m j).ptp = s.ptp := rfl
@[simp] theorem State.wr_shutter (s : State) (o : Ob) (v m j : Nat) : (s.wr o v m j).shutter = s.shutter := rfl
@[simp] theorem State.wr_cnt (s : State) (o : Ob) (v m j : Nat) : (s.wr o v m j).cnt = s.cnt := rfl
@[simp] theorem State.wr_snap (s : State) (o : Ob) (v m j : Nat) : (s.wr o v m j).snap = s.snap := rfl
@[simp] theorem State.wr_fs (s : State) (o : Ob) (v m j : Nat) : (s.wr o v m j).fs = s.fs := rfl
@[simp] theorem State.wr_dev (s : State) (o : Ob) (v m j : Nat) : (s.wr o v m j).dev = s.dev := rfl
@[simp] theorem State.wr_red (s : State) (o : Ob) (v m j : Nat) : (s.wr o v m j).red = s.red := rfl
@[simp] theorem State.wr_ver (s : State) (o : Ob) (v m j : Nat) : (s.wr o v m j).ver = s.ver := rfl
@[simp] theorem State.wr_live (s : State) (o : Ob) (v m j : Nat) : (s.wr o v m j).live = s.live := rfl
@[simp] theorem State.wr_bar (s : State) (o : Ob) (v m j : Nat) : (s.wr o v m j).bar = s.bar := rfl
@[simp] theorem State.wr_ev (s : State) (o : Ob) (v m j : Nat) : (s.wr o v m j).ev = s.ev := rfl
@[simp] theorem State.wr_tr (s : State) (o : Ob) (v m j : Nat) : (s.wr o v m j).tr = s.tr := rfl
@[simp] theorem State.wr_prc (s : State) (o : Ob) (v m j : Nat) : (s.wr o v m j).prc = s.prc := rfl
@[simp] theorem State.wr_lnk (s : State) (o : Ob) (v m j : Nat) : (s.wr o v m j).lnk = s.lnk := rfl
@[simp] theorem State.wr_rt (s : State) (o : Ob) (v m j : Nat) : (s.wr o v m j).rt = s.rt := rfl
@[simp] theorem State.wr_sch (s : State) (o : Ob) (v m j : Nat) : (s.wr o v m j).sch = s.sch := rfl
@[simp] theorem State.wr_dap (s : State) (o : Ob) (v m j : Nat) : (s.wr o v m j).dap = s.dap := rfl
@[simp] theorem State.wr_recd (s : State) (o : Ob) (v m j : Nat) : (s.wr o v m j).recd = s.recd := rfl
@[simp] theorem State.wr_neg (s : State) (o : Ob) (v m j : Nat) : (s.wr o v m j).neg = s.neg := rfl
@[simp] theorem State.wr_mb (s : State) (o : Ob) (v m j : Nat) : (s.wr o v m j).mb = s.mb := rfl
@[simp] theorem State.wr_ce (s : State) (o : Ob) (v m j : Nat) : (s.wr o v m j).ce = s.ce := rfl
@[simp] theorem State.wr_pw (s : State) (o : Ob) (v m j : Nat) : (s.wr o v m j).pw = s.pw := rfl
@[simp] theorem State.wr_rst (s : State) (o : Ob) (v m j : Nat) : (s.wr o v m j).rst = s.rst := rfl
@[simp] theorem State.wr_kp (s : State) (o : Ob) (v m j : Nat) : (s.wr o v m j).kp = s.kp := rfl
@[simp] theorem State.wr_flash (s : State) (o : Ob) (v m j : Nat) : (s.wr o v m j).flash = s.flash := rfl
@[simp] theorem State.wr_jn (s : State) (o : Ob) (v m j : Nat) : (s.wr o v m j).jn = s.jn := rfl
@[simp] theorem State.wr_stack (s : State) (o : Ob) (v m j : Nat) : (s.wr o v m j).stack = s.stack := rfl
@[simp] theorem State.wr_out (s : State) (o : Ob) (v m j : Nat) : (s.wr o v m j).out = s.out := rfl
@[simp] theorem State.wr_free (s : State) (o : Ob) (v m j : Nat) : (s.wr o v m j).free = s.free := rfl

/-! ### bump -/

@[simp] theorem State.bump_pending (s : State) (o : Ob) (m j n : Nat) : (s.bump o m j n).pending = s.pending := rfl
@[simp] theorem State.bump_parked (s : State) (o : Ob) (m j n : Nat) : (s.bump o m j n).parked = s.parked := rfl
@[simp] theorem State.bump_build (s : State) (o : Ob) (m j n : Nat) : (s.bump o m j n).build = s.build := rfl
@[simp] theorem State.bump_role (s : State) (o : Ob) (m j n : Nat) : (s.bump o m j n).role = s.role := rfl
@[simp] theorem State.bump_strapPins (s : State) (o : Ob) (m j n : Nat) : (s.bump o m j n).strapPins = s.strapPins := rfl
@[simp] theorem State.bump_doms (s : State) (o : Ob) (m j n : Nat) : (s.bump o m j n).doms = s.doms := rfl
@[simp] theorem State.bump_cmdCodes (s : State) (o : Ob) (m j n : Nat) : (s.bump o m j n).cmdCodes = s.cmdCodes := rfl
@[simp] theorem State.bump_latchedRegs (s : State) (o : Ob) (m j n : Nat) : (s.bump o m j n).latchedRegs = s.latchedRegs := rfl
@[simp] theorem State.bump_latchedDoms (s : State) (o : Ob) (m j n : Nat) : (s.bump o m j n).latchedDoms = s.latchedDoms := rfl
@[simp] theorem State.bump_time (s : State) (o : Ob) (m j n : Nat) : (s.bump o m j n).time = s.time := rfl
@[simp] theorem State.bump_ptp (s : State) (o : Ob) (m j n : Nat) : (s.bump o m j n).ptp = s.ptp := rfl
@[simp] theorem State.bump_shutter (s : State) (o : Ob) (m j n : Nat) : (s.bump o m j n).shutter = s.shutter := rfl
@[simp] theorem State.bump_cnt (s : State) (o : Ob) (m j n : Nat) : (s.bump o m j n).cnt = s.cnt := rfl
@[simp] theorem State.bump_snap (s : State) (o : Ob) (m j n : Nat) : (s.bump o m j n).snap = s.snap := rfl
@[simp] theorem State.bump_fs (s : State) (o : Ob) (m j n : Nat) : (s.bump o m j n).fs = s.fs := rfl
@[simp] theorem State.bump_dev (s : State) (o : Ob) (m j n : Nat) : (s.bump o m j n).dev = s.dev := rfl
@[simp] theorem State.bump_red (s : State) (o : Ob) (m j n : Nat) : (s.bump o m j n).red = s.red := rfl
@[simp] theorem State.bump_ver (s : State) (o : Ob) (m j n : Nat) : (s.bump o m j n).ver = s.ver := rfl
@[simp] theorem State.bump_live (s : State) (o : Ob) (m j n : Nat) : (s.bump o m j n).live = s.live := rfl
@[simp] theorem State.bump_bar (s : State) (o : Ob) (m j n : Nat) : (s.bump o m j n).bar = s.bar := rfl
@[simp] theorem State.bump_ev (s : State) (o : Ob) (m j n : Nat) : (s.bump o m j n).ev = s.ev := rfl
@[simp] theorem State.bump_tr (s : State) (o : Ob) (m j n : Nat) : (s.bump o m j n).tr = s.tr := rfl
@[simp] theorem State.bump_prc (s : State) (o : Ob) (m j n : Nat) : (s.bump o m j n).prc = s.prc := rfl
@[simp] theorem State.bump_lnk (s : State) (o : Ob) (m j n : Nat) : (s.bump o m j n).lnk = s.lnk := rfl
@[simp] theorem State.bump_rt (s : State) (o : Ob) (m j n : Nat) : (s.bump o m j n).rt = s.rt := rfl
@[simp] theorem State.bump_sch (s : State) (o : Ob) (m j n : Nat) : (s.bump o m j n).sch = s.sch := rfl
@[simp] theorem State.bump_dap (s : State) (o : Ob) (m j n : Nat) : (s.bump o m j n).dap = s.dap := rfl
@[simp] theorem State.bump_recd (s : State) (o : Ob) (m j n : Nat) : (s.bump o m j n).recd = s.recd := rfl
@[simp] theorem State.bump_neg (s : State) (o : Ob) (m j n : Nat) : (s.bump o m j n).neg = s.neg := rfl
@[simp] theorem State.bump_mb (s : State) (o : Ob) (m j n : Nat) : (s.bump o m j n).mb = s.mb := rfl
@[simp] theorem State.bump_ce (s : State) (o : Ob) (m j n : Nat) : (s.bump o m j n).ce = s.ce := rfl
@[simp] theorem State.bump_pw (s : State) (o : Ob) (m j n : Nat) : (s.bump o m j n).pw = s.pw := rfl
@[simp] theorem State.bump_rst (s : State) (o : Ob) (m j n : Nat) : (s.bump o m j n).rst = s.rst := rfl
@[simp] theorem State.bump_kp (s : State) (o : Ob) (m j n : Nat) : (s.bump o m j n).kp = s.kp := rfl
@[simp] theorem State.bump_flash (s : State) (o : Ob) (m j n : Nat) : (s.bump o m j n).flash = s.flash := rfl
@[simp] theorem State.bump_jn (s : State) (o : Ob) (m j n : Nat) : (s.bump o m j n).jn = s.jn := rfl
@[simp] theorem State.bump_stack (s : State) (o : Ob) (m j n : Nat) : (s.bump o m j n).stack = s.stack := rfl
@[simp] theorem State.bump_out (s : State) (o : Ob) (m j n : Nat) : (s.bump o m j n).out = s.out := rfl
@[simp] theorem State.bump_free (s : State) (o : Ob) (m j n : Nat) : (s.bump o m j n).free = s.free := rfl

/-! ### bumpSat -/

@[simp] theorem State.bumpSat_pending (s : State) (o : Ob) (m j n : Nat) : (s.bumpSat o m j n).pending = s.pending := rfl
@[simp] theorem State.bumpSat_parked (s : State) (o : Ob) (m j n : Nat) : (s.bumpSat o m j n).parked = s.parked := rfl
@[simp] theorem State.bumpSat_build (s : State) (o : Ob) (m j n : Nat) : (s.bumpSat o m j n).build = s.build := rfl
@[simp] theorem State.bumpSat_role (s : State) (o : Ob) (m j n : Nat) : (s.bumpSat o m j n).role = s.role := rfl
@[simp] theorem State.bumpSat_strapPins (s : State) (o : Ob) (m j n : Nat) : (s.bumpSat o m j n).strapPins = s.strapPins := rfl
@[simp] theorem State.bumpSat_doms (s : State) (o : Ob) (m j n : Nat) : (s.bumpSat o m j n).doms = s.doms := rfl
@[simp] theorem State.bumpSat_cmdCodes (s : State) (o : Ob) (m j n : Nat) : (s.bumpSat o m j n).cmdCodes = s.cmdCodes := rfl
@[simp] theorem State.bumpSat_latchedRegs (s : State) (o : Ob) (m j n : Nat) : (s.bumpSat o m j n).latchedRegs = s.latchedRegs := rfl
@[simp] theorem State.bumpSat_latchedDoms (s : State) (o : Ob) (m j n : Nat) : (s.bumpSat o m j n).latchedDoms = s.latchedDoms := rfl
@[simp] theorem State.bumpSat_time (s : State) (o : Ob) (m j n : Nat) : (s.bumpSat o m j n).time = s.time := rfl
@[simp] theorem State.bumpSat_ptp (s : State) (o : Ob) (m j n : Nat) : (s.bumpSat o m j n).ptp = s.ptp := rfl
@[simp] theorem State.bumpSat_shutter (s : State) (o : Ob) (m j n : Nat) : (s.bumpSat o m j n).shutter = s.shutter := rfl
@[simp] theorem State.bumpSat_cnt (s : State) (o : Ob) (m j n : Nat) : (s.bumpSat o m j n).cnt = s.cnt := rfl
@[simp] theorem State.bumpSat_snap (s : State) (o : Ob) (m j n : Nat) : (s.bumpSat o m j n).snap = s.snap := rfl
@[simp] theorem State.bumpSat_fs (s : State) (o : Ob) (m j n : Nat) : (s.bumpSat o m j n).fs = s.fs := rfl
@[simp] theorem State.bumpSat_dev (s : State) (o : Ob) (m j n : Nat) : (s.bumpSat o m j n).dev = s.dev := rfl
@[simp] theorem State.bumpSat_red (s : State) (o : Ob) (m j n : Nat) : (s.bumpSat o m j n).red = s.red := rfl
@[simp] theorem State.bumpSat_ver (s : State) (o : Ob) (m j n : Nat) : (s.bumpSat o m j n).ver = s.ver := rfl
@[simp] theorem State.bumpSat_live (s : State) (o : Ob) (m j n : Nat) : (s.bumpSat o m j n).live = s.live := rfl
@[simp] theorem State.bumpSat_bar (s : State) (o : Ob) (m j n : Nat) : (s.bumpSat o m j n).bar = s.bar := rfl
@[simp] theorem State.bumpSat_ev (s : State) (o : Ob) (m j n : Nat) : (s.bumpSat o m j n).ev = s.ev := rfl
@[simp] theorem State.bumpSat_tr (s : State) (o : Ob) (m j n : Nat) : (s.bumpSat o m j n).tr = s.tr := rfl
@[simp] theorem State.bumpSat_prc (s : State) (o : Ob) (m j n : Nat) : (s.bumpSat o m j n).prc = s.prc := rfl
@[simp] theorem State.bumpSat_lnk (s : State) (o : Ob) (m j n : Nat) : (s.bumpSat o m j n).lnk = s.lnk := rfl
@[simp] theorem State.bumpSat_rt (s : State) (o : Ob) (m j n : Nat) : (s.bumpSat o m j n).rt = s.rt := rfl
@[simp] theorem State.bumpSat_sch (s : State) (o : Ob) (m j n : Nat) : (s.bumpSat o m j n).sch = s.sch := rfl
@[simp] theorem State.bumpSat_dap (s : State) (o : Ob) (m j n : Nat) : (s.bumpSat o m j n).dap = s.dap := rfl
@[simp] theorem State.bumpSat_recd (s : State) (o : Ob) (m j n : Nat) : (s.bumpSat o m j n).recd = s.recd := rfl
@[simp] theorem State.bumpSat_neg (s : State) (o : Ob) (m j n : Nat) : (s.bumpSat o m j n).neg = s.neg := rfl
@[simp] theorem State.bumpSat_mb (s : State) (o : Ob) (m j n : Nat) : (s.bumpSat o m j n).mb = s.mb := rfl
@[simp] theorem State.bumpSat_ce (s : State) (o : Ob) (m j n : Nat) : (s.bumpSat o m j n).ce = s.ce := rfl
@[simp] theorem State.bumpSat_pw (s : State) (o : Ob) (m j n : Nat) : (s.bumpSat o m j n).pw = s.pw := rfl
@[simp] theorem State.bumpSat_rst (s : State) (o : Ob) (m j n : Nat) : (s.bumpSat o m j n).rst = s.rst := rfl
@[simp] theorem State.bumpSat_kp (s : State) (o : Ob) (m j n : Nat) : (s.bumpSat o m j n).kp = s.kp := rfl
@[simp] theorem State.bumpSat_flash (s : State) (o : Ob) (m j n : Nat) : (s.bumpSat o m j n).flash = s.flash := rfl
@[simp] theorem State.bumpSat_jn (s : State) (o : Ob) (m j n : Nat) : (s.bumpSat o m j n).jn = s.jn := rfl
@[simp] theorem State.bumpSat_stack (s : State) (o : Ob) (m j n : Nat) : (s.bumpSat o m j n).stack = s.stack := rfl
@[simp] theorem State.bumpSat_out (s : State) (o : Ob) (m j n : Nat) : (s.bumpSat o m j n).out = s.out := rfl
@[simp] theorem State.bumpSat_free (s : State) (o : Ob) (m j n : Nat) : (s.bumpSat o m j n).free = s.free := rfl

/-! ### wrBytes -/

@[simp] theorem State.wrBytes_pending (s : State) (o : Ob) (bs : Bytes) (m j : Nat) : (s.wrBytes o bs m j).pending = s.pending := rfl
@[simp] theorem State.wrBytes_parked (s : State) (o : Ob) (bs : Bytes) (m j : Nat) : (s.wrBytes o bs m j).parked = s.parked := rfl
@[simp] theorem State.wrBytes_build (s : State) (o : Ob) (bs : Bytes) (m j : Nat) : (s.wrBytes o bs m j).build = s.build := rfl
@[simp] theorem State.wrBytes_role (s : State) (o : Ob) (bs : Bytes) (m j : Nat) : (s.wrBytes o bs m j).role = s.role := rfl
@[simp] theorem State.wrBytes_strapPins (s : State) (o : Ob) (bs : Bytes) (m j : Nat) : (s.wrBytes o bs m j).strapPins = s.strapPins := rfl
@[simp] theorem State.wrBytes_regs (s : State) (o : Ob) (bs : Bytes) (m j : Nat) : (s.wrBytes o bs m j).regs = s.regs := rfl
@[simp] theorem State.wrBytes_cmdCodes (s : State) (o : Ob) (bs : Bytes) (m j : Nat) : (s.wrBytes o bs m j).cmdCodes = s.cmdCodes := rfl
@[simp] theorem State.wrBytes_latchedRegs (s : State) (o : Ob) (bs : Bytes) (m j : Nat) : (s.wrBytes o bs m j).latchedRegs = s.latchedRegs := rfl
@[simp] theorem State.wrBytes_latchedDoms (s : State) (o : Ob) (bs : Bytes) (m j : Nat) : (s.wrBytes o bs m j).latchedDoms = s.latchedDoms := rfl
@[simp] theorem State.wrBytes_time (s : State) (o : Ob) (bs : Bytes) (m j : Nat) : (s.wrBytes o bs m j).time = s.time := rfl
@[simp] theorem State.wrBytes_ptp (s : State) (o : Ob) (bs : Bytes) (m j : Nat) : (s.wrBytes o bs m j).ptp = s.ptp := rfl
@[simp] theorem State.wrBytes_shutter (s : State) (o : Ob) (bs : Bytes) (m j : Nat) : (s.wrBytes o bs m j).shutter = s.shutter := rfl
@[simp] theorem State.wrBytes_cnt (s : State) (o : Ob) (bs : Bytes) (m j : Nat) : (s.wrBytes o bs m j).cnt = s.cnt := rfl
@[simp] theorem State.wrBytes_snap (s : State) (o : Ob) (bs : Bytes) (m j : Nat) : (s.wrBytes o bs m j).snap = s.snap := rfl
@[simp] theorem State.wrBytes_fs (s : State) (o : Ob) (bs : Bytes) (m j : Nat) : (s.wrBytes o bs m j).fs = s.fs := rfl
@[simp] theorem State.wrBytes_dev (s : State) (o : Ob) (bs : Bytes) (m j : Nat) : (s.wrBytes o bs m j).dev = s.dev := rfl
@[simp] theorem State.wrBytes_red (s : State) (o : Ob) (bs : Bytes) (m j : Nat) : (s.wrBytes o bs m j).red = s.red := rfl
@[simp] theorem State.wrBytes_ver (s : State) (o : Ob) (bs : Bytes) (m j : Nat) : (s.wrBytes o bs m j).ver = s.ver := rfl
@[simp] theorem State.wrBytes_live (s : State) (o : Ob) (bs : Bytes) (m j : Nat) : (s.wrBytes o bs m j).live = s.live := rfl
@[simp] theorem State.wrBytes_bar (s : State) (o : Ob) (bs : Bytes) (m j : Nat) : (s.wrBytes o bs m j).bar = s.bar := rfl
@[simp] theorem State.wrBytes_ev (s : State) (o : Ob) (bs : Bytes) (m j : Nat) : (s.wrBytes o bs m j).ev = s.ev := rfl
@[simp] theorem State.wrBytes_tr (s : State) (o : Ob) (bs : Bytes) (m j : Nat) : (s.wrBytes o bs m j).tr = s.tr := rfl
@[simp] theorem State.wrBytes_prc (s : State) (o : Ob) (bs : Bytes) (m j : Nat) : (s.wrBytes o bs m j).prc = s.prc := rfl
@[simp] theorem State.wrBytes_lnk (s : State) (o : Ob) (bs : Bytes) (m j : Nat) : (s.wrBytes o bs m j).lnk = s.lnk := rfl
@[simp] theorem State.wrBytes_rt (s : State) (o : Ob) (bs : Bytes) (m j : Nat) : (s.wrBytes o bs m j).rt = s.rt := rfl
@[simp] theorem State.wrBytes_sch (s : State) (o : Ob) (bs : Bytes) (m j : Nat) : (s.wrBytes o bs m j).sch = s.sch := rfl
@[simp] theorem State.wrBytes_dap (s : State) (o : Ob) (bs : Bytes) (m j : Nat) : (s.wrBytes o bs m j).dap = s.dap := rfl
@[simp] theorem State.wrBytes_recd (s : State) (o : Ob) (bs : Bytes) (m j : Nat) : (s.wrBytes o bs m j).recd = s.recd := rfl
@[simp] theorem State.wrBytes_neg (s : State) (o : Ob) (bs : Bytes) (m j : Nat) : (s.wrBytes o bs m j).neg = s.neg := rfl
@[simp] theorem State.wrBytes_mb (s : State) (o : Ob) (bs : Bytes) (m j : Nat) : (s.wrBytes o bs m j).mb = s.mb := rfl
@[simp] theorem State.wrBytes_ce (s : State) (o : Ob) (bs : Bytes) (m j : Nat) : (s.wrBytes o bs m j).ce = s.ce := rfl
@[simp] theorem State.wrBytes_pw (s : State) (o : Ob) (bs : Bytes) (m j : Nat) : (s.wrBytes o bs m j).pw = s.pw := rfl
@[simp] theorem State.wrBytes_rst (s : State) (o : Ob) (bs : Bytes) (m j : Nat) : (s.wrBytes o bs m j).rst = s.rst := rfl
@[simp] theorem State.wrBytes_kp (s : State) (o : Ob) (bs : Bytes) (m j : Nat) : (s.wrBytes o bs m j).kp = s.kp := rfl
@[simp] theorem State.wrBytes_flash (s : State) (o : Ob) (bs : Bytes) (m j : Nat) : (s.wrBytes o bs m j).flash = s.flash := rfl
@[simp] theorem State.wrBytes_jn (s : State) (o : Ob) (bs : Bytes) (m j : Nat) : (s.wrBytes o bs m j).jn = s.jn := rfl
@[simp] theorem State.wrBytes_stack (s : State) (o : Ob) (bs : Bytes) (m j : Nat) : (s.wrBytes o bs m j).stack = s.stack := rfl
@[simp] theorem State.wrBytes_out (s : State) (o : Ob) (bs : Bytes) (m j : Nat) : (s.wrBytes o bs m j).out = s.out := rfl
@[simp] theorem State.wrBytes_free (s : State) (o : Ob) (bs : Bytes) (m j : Nat) : (s.wrBytes o bs m j).free = s.free := rfl

/-! ### setCode -/

@[simp] theorem State.setCode_pending (s : State) (o : Ob) (code m : Nat) : (s.setCode o code m).pending = s.pending := rfl
@[simp] theorem State.setCode_parked (s : State) (o : Ob) (code m : Nat) : (s.setCode o code m).parked = s.parked := rfl
@[simp] theorem State.setCode_build (s : State) (o : Ob) (code m : Nat) : (s.setCode o code m).build = s.build := rfl
@[simp] theorem State.setCode_role (s : State) (o : Ob) (code m : Nat) : (s.setCode o code m).role = s.role := rfl
@[simp] theorem State.setCode_strapPins (s : State) (o : Ob) (code m : Nat) : (s.setCode o code m).strapPins = s.strapPins := rfl
@[simp] theorem State.setCode_regs (s : State) (o : Ob) (code m : Nat) : (s.setCode o code m).regs = s.regs := rfl
@[simp] theorem State.setCode_doms (s : State) (o : Ob) (code m : Nat) : (s.setCode o code m).doms = s.doms := rfl
@[simp] theorem State.setCode_latchedRegs (s : State) (o : Ob) (code m : Nat) : (s.setCode o code m).latchedRegs = s.latchedRegs := rfl
@[simp] theorem State.setCode_latchedDoms (s : State) (o : Ob) (code m : Nat) : (s.setCode o code m).latchedDoms = s.latchedDoms := rfl
@[simp] theorem State.setCode_time (s : State) (o : Ob) (code m : Nat) : (s.setCode o code m).time = s.time := rfl
@[simp] theorem State.setCode_ptp (s : State) (o : Ob) (code m : Nat) : (s.setCode o code m).ptp = s.ptp := rfl
@[simp] theorem State.setCode_shutter (s : State) (o : Ob) (code m : Nat) : (s.setCode o code m).shutter = s.shutter := rfl
@[simp] theorem State.setCode_cnt (s : State) (o : Ob) (code m : Nat) : (s.setCode o code m).cnt = s.cnt := rfl
@[simp] theorem State.setCode_snap (s : State) (o : Ob) (code m : Nat) : (s.setCode o code m).snap = s.snap := rfl
@[simp] theorem State.setCode_fs (s : State) (o : Ob) (code m : Nat) : (s.setCode o code m).fs = s.fs := rfl
@[simp] theorem State.setCode_dev (s : State) (o : Ob) (code m : Nat) : (s.setCode o code m).dev = s.dev := rfl
@[simp] theorem State.setCode_red (s : State) (o : Ob) (code m : Nat) : (s.setCode o code m).red = s.red := rfl
@[simp] theorem State.setCode_ver (s : State) (o : Ob) (code m : Nat) : (s.setCode o code m).ver = s.ver := rfl
@[simp] theorem State.setCode_live (s : State) (o : Ob) (code m : Nat) : (s.setCode o code m).live = s.live := rfl
@[simp] theorem State.setCode_bar (s : State) (o : Ob) (code m : Nat) : (s.setCode o code m).bar = s.bar := rfl
@[simp] theorem State.setCode_ev (s : State) (o : Ob) (code m : Nat) : (s.setCode o code m).ev = s.ev := rfl
@[simp] theorem State.setCode_tr (s : State) (o : Ob) (code m : Nat) : (s.setCode o code m).tr = s.tr := rfl
@[simp] theorem State.setCode_prc (s : State) (o : Ob) (code m : Nat) : (s.setCode o code m).prc = s.prc := rfl
@[simp] theorem State.setCode_lnk (s : State) (o : Ob) (code m : Nat) : (s.setCode o code m).lnk = s.lnk := rfl
@[simp] theorem State.setCode_rt (s : State) (o : Ob) (code m : Nat) : (s.setCode o code m).rt = s.rt := rfl
@[simp] theorem State.setCode_sch (s : State) (o : Ob) (code m : Nat) : (s.setCode o code m).sch = s.sch := rfl
@[simp] theorem State.setCode_dap (s : State) (o : Ob) (code m : Nat) : (s.setCode o code m).dap = s.dap := rfl
@[simp] theorem State.setCode_recd (s : State) (o : Ob) (code m : Nat) : (s.setCode o code m).recd = s.recd := rfl
@[simp] theorem State.setCode_neg (s : State) (o : Ob) (code m : Nat) : (s.setCode o code m).neg = s.neg := rfl
@[simp] theorem State.setCode_mb (s : State) (o : Ob) (code m : Nat) : (s.setCode o code m).mb = s.mb := rfl
@[simp] theorem State.setCode_ce (s : State) (o : Ob) (code m : Nat) : (s.setCode o code m).ce = s.ce := rfl
@[simp] theorem State.setCode_pw (s : State) (o : Ob) (code m : Nat) : (s.setCode o code m).pw = s.pw := rfl
@[simp] theorem State.setCode_rst (s : State) (o : Ob) (code m : Nat) : (s.setCode o code m).rst = s.rst := rfl
@[simp] theorem State.setCode_kp (s : State) (o : Ob) (code m : Nat) : (s.setCode o code m).kp = s.kp := rfl
@[simp] theorem State.setCode_flash (s : State) (o : Ob) (code m : Nat) : (s.setCode o code m).flash = s.flash := rfl
@[simp] theorem State.setCode_jn (s : State) (o : Ob) (code m : Nat) : (s.setCode o code m).jn = s.jn := rfl
@[simp] theorem State.setCode_stack (s : State) (o : Ob) (code m : Nat) : (s.setCode o code m).stack = s.stack := rfl
@[simp] theorem State.setCode_out (s : State) (o : Ob) (code m : Nat) : (s.setCode o code m).out = s.out := rfl
@[simp] theorem State.setCode_free (s : State) (o : Ob) (code m : Nat) : (s.setCode o code m).free = s.free := rfl

/-! ### latchObjects -/

@[simp] theorem State.latchObjects_pending (s : State) : (s.latchObjects).pending = s.pending := rfl
@[simp] theorem State.latchObjects_parked (s : State) : (s.latchObjects).parked = s.parked := rfl
@[simp] theorem State.latchObjects_build (s : State) : (s.latchObjects).build = s.build := rfl
@[simp] theorem State.latchObjects_role (s : State) : (s.latchObjects).role = s.role := rfl
@[simp] theorem State.latchObjects_strapPins (s : State) : (s.latchObjects).strapPins = s.strapPins := rfl
@[simp] theorem State.latchObjects_regs (s : State) : (s.latchObjects).regs = s.regs := rfl
@[simp] theorem State.latchObjects_doms (s : State) : (s.latchObjects).doms = s.doms := rfl
@[simp] theorem State.latchObjects_cmdCodes (s : State) : (s.latchObjects).cmdCodes = s.cmdCodes := rfl
@[simp] theorem State.latchObjects_time (s : State) : (s.latchObjects).time = s.time := rfl
@[simp] theorem State.latchObjects_ptp (s : State) : (s.latchObjects).ptp = s.ptp := rfl
@[simp] theorem State.latchObjects_shutter (s : State) : (s.latchObjects).shutter = s.shutter := rfl
@[simp] theorem State.latchObjects_cnt (s : State) : (s.latchObjects).cnt = s.cnt := rfl
@[simp] theorem State.latchObjects_snap (s : State) : (s.latchObjects).snap = s.snap := rfl
@[simp] theorem State.latchObjects_fs (s : State) : (s.latchObjects).fs = s.fs := rfl
@[simp] theorem State.latchObjects_dev (s : State) : (s.latchObjects).dev = s.dev := rfl
@[simp] theorem State.latchObjects_red (s : State) : (s.latchObjects).red = s.red := rfl
@[simp] theorem State.latchObjects_ver (s : State) : (s.latchObjects).ver = s.ver := rfl
@[simp] theorem State.latchObjects_live (s : State) : (s.latchObjects).live = s.live := rfl
@[simp] theorem State.latchObjects_bar (s : State) : (s.latchObjects).bar = s.bar := rfl
@[simp] theorem State.latchObjects_ev (s : State) : (s.latchObjects).ev = s.ev := rfl
@[simp] theorem State.latchObjects_tr (s : State) : (s.latchObjects).tr = s.tr := rfl
@[simp] theorem State.latchObjects_prc (s : State) : (s.latchObjects).prc = s.prc := rfl
@[simp] theorem State.latchObjects_lnk (s : State) : (s.latchObjects).lnk = s.lnk := rfl
@[simp] theorem State.latchObjects_rt (s : State) : (s.latchObjects).rt = s.rt := rfl
@[simp] theorem State.latchObjects_sch (s : State) : (s.latchObjects).sch = s.sch := rfl
@[simp] theorem State.latchObjects_dap (s : State) : (s.latchObjects).dap = s.dap := rfl
@[simp] theorem State.latchObjects_recd (s : State) : (s.latchObjects).recd = s.recd := rfl
@[simp] theorem State.latchObjects_neg (s : State) : (s.latchObjects).neg = s.neg := rfl
@[simp] theorem State.latchObjects_mb (s : State) : (s.latchObjects).mb = s.mb := rfl
@[simp] theorem State.latchObjects_ce (s : State) : (s.latchObjects).ce = s.ce := rfl
@[simp] theorem State.latchObjects_pw (s : State) : (s.latchObjects).pw = s.pw := rfl
@[simp] theorem State.latchObjects_rst (s : State) : (s.latchObjects).rst = s.rst := rfl
@[simp] theorem State.latchObjects_kp (s : State) : (s.latchObjects).kp = s.kp := rfl
@[simp] theorem State.latchObjects_flash (s : State) : (s.latchObjects).flash = s.flash := rfl
@[simp] theorem State.latchObjects_jn (s : State) : (s.latchObjects).jn = s.jn := rfl
@[simp] theorem State.latchObjects_stack (s : State) : (s.latchObjects).stack = s.stack := rfl
@[simp] theorem State.latchObjects_out (s : State) : (s.latchObjects).out = s.out := rfl
@[simp] theorem State.latchObjects_free (s : State) : (s.latchObjects).free = s.free := rfl

/-! ### emit -/

@[simp] theorem State.emit_pending (s : State) (o : Output) : (s.emit o).pending = s.pending := rfl
@[simp] theorem State.emit_parked (s : State) (o : Output) : (s.emit o).parked = s.parked := rfl
@[simp] theorem State.emit_build (s : State) (o : Output) : (s.emit o).build = s.build := rfl
@[simp] theorem State.emit_role (s : State) (o : Output) : (s.emit o).role = s.role := rfl
@[simp] theorem State.emit_strapPins (s : State) (o : Output) : (s.emit o).strapPins = s.strapPins := rfl
@[simp] theorem State.emit_regs (s : State) (o : Output) : (s.emit o).regs = s.regs := rfl
@[simp] theorem State.emit_doms (s : State) (o : Output) : (s.emit o).doms = s.doms := rfl
@[simp] theorem State.emit_cmdCodes (s : State) (o : Output) : (s.emit o).cmdCodes = s.cmdCodes := rfl
@[simp] theorem State.emit_latchedRegs (s : State) (o : Output) : (s.emit o).latchedRegs = s.latchedRegs := rfl
@[simp] theorem State.emit_latchedDoms (s : State) (o : Output) : (s.emit o).latchedDoms = s.latchedDoms := rfl
@[simp] theorem State.emit_time (s : State) (o : Output) : (s.emit o).time = s.time := rfl
@[simp] theorem State.emit_ptp (s : State) (o : Output) : (s.emit o).ptp = s.ptp := rfl
@[simp] theorem State.emit_shutter (s : State) (o : Output) : (s.emit o).shutter = s.shutter := rfl
@[simp] theorem State.emit_cnt (s : State) (o : Output) : (s.emit o).cnt = s.cnt := rfl
@[simp] theorem State.emit_snap (s : State) (o : Output) : (s.emit o).snap = s.snap := rfl
@[simp] theorem State.emit_fs (s : State) (o : Output) : (s.emit o).fs = s.fs := rfl
@[simp] theorem State.emit_dev (s : State) (o : Output) : (s.emit o).dev = s.dev := rfl
@[simp] theorem State.emit_red (s : State) (o : Output) : (s.emit o).red = s.red := rfl
@[simp] theorem State.emit_ver (s : State) (o : Output) : (s.emit o).ver = s.ver := rfl
@[simp] theorem State.emit_live (s : State) (o : Output) : (s.emit o).live = s.live := rfl
@[simp] theorem State.emit_bar (s : State) (o : Output) : (s.emit o).bar = s.bar := rfl
@[simp] theorem State.emit_ev (s : State) (o : Output) : (s.emit o).ev = s.ev := rfl
@[simp] theorem State.emit_tr (s : State) (o : Output) : (s.emit o).tr = s.tr := rfl
@[simp] theorem State.emit_prc (s : State) (o : Output) : (s.emit o).prc = s.prc := rfl
@[simp] theorem State.emit_lnk (s : State) (o : Output) : (s.emit o).lnk = s.lnk := rfl
@[simp] theorem State.emit_rt (s : State) (o : Output) : (s.emit o).rt = s.rt := rfl
@[simp] theorem State.emit_sch (s : State) (o : Output) : (s.emit o).sch = s.sch := rfl
@[simp] theorem State.emit_dap (s : State) (o : Output) : (s.emit o).dap = s.dap := rfl
@[simp] theorem State.emit_recd (s : State) (o : Output) : (s.emit o).recd = s.recd := rfl
@[simp] theorem State.emit_neg (s : State) (o : Output) : (s.emit o).neg = s.neg := rfl
@[simp] theorem State.emit_mb (s : State) (o : Output) : (s.emit o).mb = s.mb := rfl
@[simp] theorem State.emit_ce (s : State) (o : Output) : (s.emit o).ce = s.ce := rfl
@[simp] theorem State.emit_pw (s : State) (o : Output) : (s.emit o).pw = s.pw := rfl
@[simp] theorem State.emit_rst (s : State) (o : Output) : (s.emit o).rst = s.rst := rfl
@[simp] theorem State.emit_kp (s : State) (o : Output) : (s.emit o).kp = s.kp := rfl
@[simp] theorem State.emit_flash (s : State) (o : Output) : (s.emit o).flash = s.flash := rfl
@[simp] theorem State.emit_jn (s : State) (o : Output) : (s.emit o).jn = s.jn := rfl
@[simp] theorem State.emit_stack (s : State) (o : Output) : (s.emit o).stack = s.stack := rfl
@[simp] theorem State.emit_free (s : State) (o : Output) : (s.emit o).free = s.free := rfl

/-! ### drawn -/

@[simp] theorem State.drawn_pending (s : State) : (s.drawn).pending = s.pending := rfl
@[simp] theorem State.drawn_parked (s : State) : (s.drawn).parked = s.parked := rfl
@[simp] theorem State.drawn_build (s : State) : (s.drawn).build = s.build := rfl
@[simp] theorem State.drawn_role (s : State) : (s.drawn).role = s.role := rfl
@[simp] theorem State.drawn_strapPins (s : State) : (s.drawn).strapPins = s.strapPins := rfl
@[simp] theorem State.drawn_regs (s : State) : (s.drawn).regs = s.regs := rfl
@[simp] theorem State.drawn_doms (s : State) : (s.drawn).doms = s.doms := rfl
@[simp] theorem State.drawn_cmdCodes (s : State) : (s.drawn).cmdCodes = s.cmdCodes := rfl
@[simp] theorem State.drawn_latchedRegs (s : State) : (s.drawn).latchedRegs = s.latchedRegs := rfl
@[simp] theorem State.drawn_latchedDoms (s : State) : (s.drawn).latchedDoms = s.latchedDoms := rfl
@[simp] theorem State.drawn_time (s : State) : (s.drawn).time = s.time := rfl
@[simp] theorem State.drawn_ptp (s : State) : (s.drawn).ptp = s.ptp := rfl
@[simp] theorem State.drawn_shutter (s : State) : (s.drawn).shutter = s.shutter := rfl
@[simp] theorem State.drawn_cnt (s : State) : (s.drawn).cnt = s.cnt := rfl
@[simp] theorem State.drawn_snap (s : State) : (s.drawn).snap = s.snap := rfl
@[simp] theorem State.drawn_fs (s : State) : (s.drawn).fs = s.fs := rfl
@[simp] theorem State.drawn_dev (s : State) : (s.drawn).dev = s.dev := rfl
@[simp] theorem State.drawn_red (s : State) : (s.drawn).red = s.red := rfl
@[simp] theorem State.drawn_ver (s : State) : (s.drawn).ver = s.ver := rfl
@[simp] theorem State.drawn_live (s : State) : (s.drawn).live = s.live := rfl
@[simp] theorem State.drawn_bar (s : State) : (s.drawn).bar = s.bar := rfl
@[simp] theorem State.drawn_ev (s : State) : (s.drawn).ev = s.ev := rfl
@[simp] theorem State.drawn_tr (s : State) : (s.drawn).tr = s.tr := rfl
@[simp] theorem State.drawn_prc (s : State) : (s.drawn).prc = s.prc := rfl
@[simp] theorem State.drawn_lnk (s : State) : (s.drawn).lnk = s.lnk := rfl
@[simp] theorem State.drawn_rt (s : State) : (s.drawn).rt = s.rt := rfl
@[simp] theorem State.drawn_sch (s : State) : (s.drawn).sch = s.sch := rfl
@[simp] theorem State.drawn_dap (s : State) : (s.drawn).dap = s.dap := rfl
@[simp] theorem State.drawn_recd (s : State) : (s.drawn).recd = s.recd := rfl
@[simp] theorem State.drawn_neg (s : State) : (s.drawn).neg = s.neg := rfl
@[simp] theorem State.drawn_mb (s : State) : (s.drawn).mb = s.mb := rfl
@[simp] theorem State.drawn_ce (s : State) : (s.drawn).ce = s.ce := rfl
@[simp] theorem State.drawn_pw (s : State) : (s.drawn).pw = s.pw := rfl
@[simp] theorem State.drawn_rst (s : State) : (s.drawn).rst = s.rst := rfl
@[simp] theorem State.drawn_kp (s : State) : (s.drawn).kp = s.kp := rfl
@[simp] theorem State.drawn_flash (s : State) : (s.drawn).flash = s.flash := rfl
@[simp] theorem State.drawn_jn (s : State) : (s.drawn).jn = s.jn := rfl
@[simp] theorem State.drawn_stack (s : State) : (s.drawn).stack = s.stack := rfl
@[simp] theorem State.drawn_out (s : State) : (s.drawn).out = s.out := rfl

/-! ### touch -/

@[simp] theorem State.touch_pending (s : State) : (s.touch).pending = s.pending := rfl
@[simp] theorem State.touch_parked (s : State) : (s.touch).parked = s.parked := rfl
@[simp] theorem State.touch_build (s : State) : (s.touch).build = s.build := rfl
@[simp] theorem State.touch_role (s : State) : (s.touch).role = s.role := rfl
@[simp] theorem State.touch_strapPins (s : State) : (s.touch).strapPins = s.strapPins := rfl
@[simp] theorem State.touch_regs (s : State) : (s.touch).regs = s.regs := rfl
@[simp] theorem State.touch_doms (s : State) : (s.touch).doms = s.doms := rfl
@[simp] theorem State.touch_cmdCodes (s : State) : (s.touch).cmdCodes = s.cmdCodes := rfl
@[simp] theorem State.touch_latchedRegs (s : State) : (s.touch).latchedRegs = s.latchedRegs := rfl
@[simp] theorem State.touch_latchedDoms (s : State) : (s.touch).latchedDoms = s.latchedDoms := rfl
@[simp] theorem State.touch_time (s : State) : (s.touch).time = s.time := rfl
@[simp] theorem State.touch_ptp (s : State) : (s.touch).ptp = s.ptp := rfl
@[simp] theorem State.touch_shutter (s : State) : (s.touch).shutter = s.shutter := rfl
@[simp] theorem State.touch_cnt (s : State) : (s.touch).cnt = s.cnt := rfl
@[simp] theorem State.touch_snap (s : State) : (s.touch).snap = s.snap := rfl
@[simp] theorem State.touch_fs (s : State) : (s.touch).fs = s.fs := rfl
@[simp] theorem State.touch_dev (s : State) : (s.touch).dev = s.dev := rfl
@[simp] theorem State.touch_red (s : State) : (s.touch).red = s.red := rfl
@[simp] theorem State.touch_ver (s : State) : (s.touch).ver = s.ver := rfl
@[simp] theorem State.touch_live (s : State) : (s.touch).live = s.live := rfl
@[simp] theorem State.touch_bar (s : State) : (s.touch).bar = s.bar := rfl
@[simp] theorem State.touch_ev (s : State) : (s.touch).ev = s.ev := rfl
@[simp] theorem State.touch_tr (s : State) : (s.touch).tr = s.tr := rfl
@[simp] theorem State.touch_prc (s : State) : (s.touch).prc = s.prc := rfl
@[simp] theorem State.touch_lnk (s : State) : (s.touch).lnk = s.lnk := rfl
@[simp] theorem State.touch_rt (s : State) : (s.touch).rt = s.rt := rfl
@[simp] theorem State.touch_sch (s : State) : (s.touch).sch = s.sch := rfl
@[simp] theorem State.touch_dap (s : State) : (s.touch).dap = s.dap := rfl
@[simp] theorem State.touch_recd (s : State) : (s.touch).recd = s.recd := rfl
@[simp] theorem State.touch_neg (s : State) : (s.touch).neg = s.neg := rfl
@[simp] theorem State.touch_mb (s : State) : (s.touch).mb = s.mb := rfl
@[simp] theorem State.touch_ce (s : State) : (s.touch).ce = s.ce := rfl
@[simp] theorem State.touch_rst (s : State) : (s.touch).rst = s.rst := rfl
@[simp] theorem State.touch_kp (s : State) : (s.touch).kp = s.kp := rfl
@[simp] theorem State.touch_flash (s : State) : (s.touch).flash = s.flash := rfl
@[simp] theorem State.touch_jn (s : State) : (s.touch).jn = s.jn := rfl
@[simp] theorem State.touch_stack (s : State) : (s.touch).stack = s.stack := rfl
@[simp] theorem State.touch_out (s : State) : (s.touch).out = s.out := rfl
@[simp] theorem State.touch_free (s : State) : (s.touch).free = s.free := rfl

/-! ### park -/

@[simp] theorem State.park_pending (s : State) (i : Instr) : (s.park i).pending = s.pending := rfl
@[simp] theorem State.park_build (s : State) (i : Instr) : (s.park i).build = s.build := rfl
@[simp] theorem State.park_role (s : State) (i : Instr) : (s.park i).role = s.role := rfl
@[simp] theorem State.park_strapPins (s : State) (i : Instr) : (s.park i).strapPins = s.strapPins := rfl
@[simp] theorem State.park_regs (s : State) (i : Instr) : (s.park i).regs = s.regs := rfl
@[simp] theorem State.park_doms (s : State) (i : Instr) : (s.park i).doms = s.doms := rfl
@[simp] theorem State.park_cmdCodes (s : State) (i : Instr) : (s.park i).cmdCodes = s.cmdCodes := rfl
@[simp] theorem State.park_latchedRegs (s : State) (i : Instr) : (s.park i).latchedRegs = s.latchedRegs := rfl
@[simp] theorem State.park_latchedDoms (s : State) (i : Instr) : (s.park i).latchedDoms = s.latchedDoms := rfl
@[simp] theorem State.park_time (s : State) (i : Instr) : (s.park i).time = s.time := rfl
@[simp] theorem State.park_ptp (s : State) (i : Instr) : (s.park i).ptp = s.ptp := rfl
@[simp] theorem State.park_shutter (s : State) (i : Instr) : (s.park i).shutter = s.shutter := rfl
@[simp] theorem State.park_cnt (s : State) (i : Instr) : (s.park i).cnt = s.cnt := rfl
@[simp] theorem State.park_snap (s : State) (i : Instr) : (s.park i).snap = s.snap := rfl
@[simp] theorem State.park_fs (s : State) (i : Instr) : (s.park i).fs = s.fs := rfl
@[simp] theorem State.park_dev (s : State) (i : Instr) : (s.park i).dev = s.dev := rfl
@[simp] theorem State.park_red (s : State) (i : Instr) : (s.park i).red = s.red := rfl
@[simp] theorem State.park_ver (s : State) (i : Instr) : (s.park i).ver = s.ver := rfl
@[simp] theorem State.park_live (s : State) (i : Instr) : (s.park i).live = s.live := rfl
@[simp] theorem State.park_bar (s : State) (i : Instr) : (s.park i).bar = s.bar := rfl
@[simp] theorem State.park_ev (s : State) (i : Instr) : (s.park i).ev = s.ev := rfl
@[simp] theorem State.park_tr (s : State) (i : Instr) : (s.park i).tr = s.tr := rfl
@[simp] theorem State.park_prc (s : State) (i : Instr) : (s.park i).prc = s.prc := rfl
@[simp] theorem State.park_lnk (s : State) (i : Instr) : (s.park i).lnk = s.lnk := rfl
@[simp] theorem State.park_rt (s : State) (i : Instr) : (s.park i).rt = s.rt := rfl
@[simp] theorem State.park_sch (s : State) (i : Instr) : (s.park i).sch = s.sch := rfl
@[simp] theorem State.park_dap (s : State) (i : Instr) : (s.park i).dap = s.dap := rfl
@[simp] theorem State.park_recd (s : State) (i : Instr) : (s.park i).recd = s.recd := rfl
@[simp] theorem State.park_neg (s : State) (i : Instr) : (s.park i).neg = s.neg := rfl
@[simp] theorem State.park_mb (s : State) (i : Instr) : (s.park i).mb = s.mb := rfl
@[simp] theorem State.park_ce (s : State) (i : Instr) : (s.park i).ce = s.ce := rfl
@[simp] theorem State.park_pw (s : State) (i : Instr) : (s.park i).pw = s.pw := rfl
@[simp] theorem State.park_rst (s : State) (i : Instr) : (s.park i).rst = s.rst := rfl
@[simp] theorem State.park_kp (s : State) (i : Instr) : (s.park i).kp = s.kp := rfl
@[simp] theorem State.park_flash (s : State) (i : Instr) : (s.park i).flash = s.flash := rfl
@[simp] theorem State.park_jn (s : State) (i : Instr) : (s.park i).jn = s.jn := rfl
@[simp] theorem State.park_stack (s : State) (i : Instr) : (s.park i).stack = s.stack := rfl
@[simp] theorem State.park_out (s : State) (i : Instr) : (s.park i).out = s.out := rfl
@[simp] theorem State.park_free (s : State) (i : Instr) : (s.park i).free = s.free := rfl

/-! ### countLevel -/

@[simp] theorem State.countLevel_pending (s : State) (j n : Nat) : (s.countLevel j n).pending = s.pending := rfl
@[simp] theorem State.countLevel_parked (s : State) (j n : Nat) : (s.countLevel j n).parked = s.parked := rfl
@[simp] theorem State.countLevel_build (s : State) (j n : Nat) : (s.countLevel j n).build = s.build := rfl
@[simp] theorem State.countLevel_role (s : State) (j n : Nat) : (s.countLevel j n).role = s.role := rfl
@[simp] theorem State.countLevel_strapPins (s : State) (j n : Nat) : (s.countLevel j n).strapPins = s.strapPins := rfl
@[simp] theorem State.countLevel_regs (s : State) (j n : Nat) : (s.countLevel j n).regs = s.regs := rfl
@[simp] theorem State.countLevel_doms (s : State) (j n : Nat) : (s.countLevel j n).doms = s.doms := rfl
@[simp] theorem State.countLevel_cmdCodes (s : State) (j n : Nat) : (s.countLevel j n).cmdCodes = s.cmdCodes := rfl
@[simp] theorem State.countLevel_latchedRegs (s : State) (j n : Nat) : (s.countLevel j n).latchedRegs = s.latchedRegs := rfl
@[simp] theorem State.countLevel_latchedDoms (s : State) (j n : Nat) : (s.countLevel j n).latchedDoms = s.latchedDoms := rfl
@[simp] theorem State.countLevel_time (s : State) (j n : Nat) : (s.countLevel j n).time = s.time := rfl
@[simp] theorem State.countLevel_ptp (s : State) (j n : Nat) : (s.countLevel j n).ptp = s.ptp := rfl
@[simp] theorem State.countLevel_shutter (s : State) (j n : Nat) : (s.countLevel j n).shutter = s.shutter := rfl
@[simp] theorem State.countLevel_snap (s : State) (j n : Nat) : (s.countLevel j n).snap = s.snap := rfl
@[simp] theorem State.countLevel_fs (s : State) (j n : Nat) : (s.countLevel j n).fs = s.fs := rfl
@[simp] theorem State.countLevel_dev (s : State) (j n : Nat) : (s.countLevel j n).dev = s.dev := rfl
@[simp] theorem State.countLevel_red (s : State) (j n : Nat) : (s.countLevel j n).red = s.red := rfl
@[simp] theorem State.countLevel_ver (s : State) (j n : Nat) : (s.countLevel j n).ver = s.ver := rfl
@[simp] theorem State.countLevel_live (s : State) (j n : Nat) : (s.countLevel j n).live = s.live := rfl
@[simp] theorem State.countLevel_bar (s : State) (j n : Nat) : (s.countLevel j n).bar = s.bar := rfl
@[simp] theorem State.countLevel_ev (s : State) (j n : Nat) : (s.countLevel j n).ev = s.ev := rfl
@[simp] theorem State.countLevel_tr (s : State) (j n : Nat) : (s.countLevel j n).tr = s.tr := rfl
@[simp] theorem State.countLevel_prc (s : State) (j n : Nat) : (s.countLevel j n).prc = s.prc := rfl
@[simp] theorem State.countLevel_lnk (s : State) (j n : Nat) : (s.countLevel j n).lnk = s.lnk := rfl
@[simp] theorem State.countLevel_rt (s : State) (j n : Nat) : (s.countLevel j n).rt = s.rt := rfl
@[simp] theorem State.countLevel_sch (s : State) (j n : Nat) : (s.countLevel j n).sch = s.sch := rfl
@[simp] theorem State.countLevel_dap (s : State) (j n : Nat) : (s.countLevel j n).dap = s.dap := rfl
@[simp] theorem State.countLevel_recd (s : State) (j n : Nat) : (s.countLevel j n).recd = s.recd := rfl
@[simp] theorem State.countLevel_neg (s : State) (j n : Nat) : (s.countLevel j n).neg = s.neg := rfl
@[simp] theorem State.countLevel_mb (s : State) (j n : Nat) : (s.countLevel j n).mb = s.mb := rfl
@[simp] theorem State.countLevel_ce (s : State) (j n : Nat) : (s.countLevel j n).ce = s.ce := rfl
@[simp] theorem State.countLevel_pw (s : State) (j n : Nat) : (s.countLevel j n).pw = s.pw := rfl
@[simp] theorem State.countLevel_rst (s : State) (j n : Nat) : (s.countLevel j n).rst = s.rst := rfl
@[simp] theorem State.countLevel_kp (s : State) (j n : Nat) : (s.countLevel j n).kp = s.kp := rfl
@[simp] theorem State.countLevel_flash (s : State) (j n : Nat) : (s.countLevel j n).flash = s.flash := rfl
@[simp] theorem State.countLevel_jn (s : State) (j n : Nat) : (s.countLevel j n).jn = s.jn := rfl
@[simp] theorem State.countLevel_stack (s : State) (j n : Nat) : (s.countLevel j n).stack = s.stack := rfl
@[simp] theorem State.countLevel_out (s : State) (j n : Nat) : (s.countLevel j n).out = s.out := rfl
@[simp] theorem State.countLevel_free (s : State) (j n : Nat) : (s.countLevel j n).free = s.free := rfl

/-! ### setIrq -/

@[simp] theorem State.setIrq_pending (s : State) (b : Nat) : (s.setIrq b).pending = s.pending := rfl
@[simp] theorem State.setIrq_parked (s : State) (b : Nat) : (s.setIrq b).parked = s.parked := rfl
@[simp] theorem State.setIrq_build (s : State) (b : Nat) : (s.setIrq b).build = s.build := rfl
@[simp] theorem State.setIrq_role (s : State) (b : Nat) : (s.setIrq b).role = s.role := rfl
@[simp] theorem State.setIrq_strapPins (s : State) (b : Nat) : (s.setIrq b).strapPins = s.strapPins := rfl
@[simp] theorem State.setIrq_regs (s : State) (b : Nat) : (s.setIrq b).regs = s.regs := rfl
@[simp] theorem State.setIrq_doms (s : State) (b : Nat) : (s.setIrq b).doms = s.doms := rfl
@[simp] theorem State.setIrq_cmdCodes (s : State) (b : Nat) : (s.setIrq b).cmdCodes = s.cmdCodes := rfl
@[simp] theorem State.setIrq_latchedRegs (s : State) (b : Nat) : (s.setIrq b).latchedRegs = s.latchedRegs := rfl
@[simp] theorem State.setIrq_latchedDoms (s : State) (b : Nat) : (s.setIrq b).latchedDoms = s.latchedDoms := rfl
@[simp] theorem State.setIrq_time (s : State) (b : Nat) : (s.setIrq b).time = s.time := rfl
@[simp] theorem State.setIrq_ptp (s : State) (b : Nat) : (s.setIrq b).ptp = s.ptp := rfl
@[simp] theorem State.setIrq_shutter (s : State) (b : Nat) : (s.setIrq b).shutter = s.shutter := rfl
@[simp] theorem State.setIrq_cnt (s : State) (b : Nat) : (s.setIrq b).cnt = s.cnt := rfl
@[simp] theorem State.setIrq_snap (s : State) (b : Nat) : (s.setIrq b).snap = s.snap := rfl
@[simp] theorem State.setIrq_fs (s : State) (b : Nat) : (s.setIrq b).fs = s.fs := rfl
@[simp] theorem State.setIrq_dev (s : State) (b : Nat) : (s.setIrq b).dev = s.dev := rfl
@[simp] theorem State.setIrq_red (s : State) (b : Nat) : (s.setIrq b).red = s.red := rfl
@[simp] theorem State.setIrq_ver (s : State) (b : Nat) : (s.setIrq b).ver = s.ver := rfl
@[simp] theorem State.setIrq_live (s : State) (b : Nat) : (s.setIrq b).live = s.live := rfl
@[simp] theorem State.setIrq_bar (s : State) (b : Nat) : (s.setIrq b).bar = s.bar := rfl
@[simp] theorem State.setIrq_ev (s : State) (b : Nat) : (s.setIrq b).ev = s.ev := rfl
@[simp] theorem State.setIrq_tr (s : State) (b : Nat) : (s.setIrq b).tr = s.tr := rfl
@[simp] theorem State.setIrq_prc (s : State) (b : Nat) : (s.setIrq b).prc = s.prc := rfl
@[simp] theorem State.setIrq_lnk (s : State) (b : Nat) : (s.setIrq b).lnk = s.lnk := rfl
@[simp] theorem State.setIrq_rt (s : State) (b : Nat) : (s.setIrq b).rt = s.rt := rfl
@[simp] theorem State.setIrq_sch (s : State) (b : Nat) : (s.setIrq b).sch = s.sch := rfl
@[simp] theorem State.setIrq_dap (s : State) (b : Nat) : (s.setIrq b).dap = s.dap := rfl
@[simp] theorem State.setIrq_recd (s : State) (b : Nat) : (s.setIrq b).recd = s.recd := rfl
@[simp] theorem State.setIrq_neg (s : State) (b : Nat) : (s.setIrq b).neg = s.neg := rfl
@[simp] theorem State.setIrq_ce (s : State) (b : Nat) : (s.setIrq b).ce = s.ce := rfl
@[simp] theorem State.setIrq_pw (s : State) (b : Nat) : (s.setIrq b).pw = s.pw := rfl
@[simp] theorem State.setIrq_rst (s : State) (b : Nat) : (s.setIrq b).rst = s.rst := rfl
@[simp] theorem State.setIrq_kp (s : State) (b : Nat) : (s.setIrq b).kp = s.kp := rfl
@[simp] theorem State.setIrq_flash (s : State) (b : Nat) : (s.setIrq b).flash = s.flash := rfl
@[simp] theorem State.setIrq_jn (s : State) (b : Nat) : (s.setIrq b).jn = s.jn := rfl
@[simp] theorem State.setIrq_stack (s : State) (b : Nat) : (s.setIrq b).stack = s.stack := rfl
@[simp] theorem State.setIrq_out (s : State) (b : Nat) : (s.setIrq b).out = s.out := rfl
@[simp] theorem State.setIrq_free (s : State) (b : Nat) : (s.setIrq b).free = s.free := rfl

/-! ### setChan -/

@[simp] theorem State.setChan_pending (s : State) (c : Nat) (ch : ShutterChannel) : (s.setChan c ch).pending = s.pending := rfl
@[simp] theorem State.setChan_parked (s : State) (c : Nat) (ch : ShutterChannel) : (s.setChan c ch).parked = s.parked := rfl
@[simp] theorem State.setChan_build (s : State) (c : Nat) (ch : ShutterChannel) : (s.setChan c ch).build = s.build := rfl
@[simp] theorem State.setChan_role (s : State) (c : Nat) (ch : ShutterChannel) : (s.setChan c ch).role = s.role := rfl
@[simp] theorem State.setChan_strapPins (s : State) (c : Nat) (ch : ShutterChannel) : (s.setChan c ch).strapPins = s.strapPins := rfl
@[simp] theorem State.setChan_regs (s : State) (c : Nat) (ch : ShutterChannel) : (s.setChan c ch).regs = s.regs := rfl
@[simp] theorem State.setChan_doms (s : State) (c : Nat) (ch : ShutterChannel) : (s.setChan c ch).doms = s.doms := rfl
@[simp] theorem State.setChan_cmdCodes (s : State) (c : Nat) (ch : ShutterChannel) : (s.setChan c ch).cmdCodes = s.cmdCodes := rfl
@[simp] theorem State.setChan_latchedRegs (s : State) (c : Nat) (ch : ShutterChannel) : (s.setChan c ch).latchedRegs = s.latchedRegs := rfl
@[simp] theorem State.setChan_latchedDoms (s : State) (c : Nat) (ch : ShutterChannel) : (s.setChan c ch).latchedDoms = s.latchedDoms := rfl
@[simp] theorem State.setChan_time (s : State) (c : Nat) (ch : ShutterChannel) : (s.setChan c ch).time = s.time := rfl
@[simp] theorem State.setChan_ptp (s : State) (c : Nat) (ch : ShutterChannel) : (s.setChan c ch).ptp = s.ptp := rfl
@[simp] theorem State.setChan_cnt (s : State) (c : Nat) (ch : ShutterChannel) : (s.setChan c ch).cnt = s.cnt := rfl
@[simp] theorem State.setChan_snap (s : State) (c : Nat) (ch : ShutterChannel) : (s.setChan c ch).snap = s.snap := rfl
@[simp] theorem State.setChan_fs (s : State) (c : Nat) (ch : ShutterChannel) : (s.setChan c ch).fs = s.fs := rfl
@[simp] theorem State.setChan_dev (s : State) (c : Nat) (ch : ShutterChannel) : (s.setChan c ch).dev = s.dev := rfl
@[simp] theorem State.setChan_red (s : State) (c : Nat) (ch : ShutterChannel) : (s.setChan c ch).red = s.red := rfl
@[simp] theorem State.setChan_ver (s : State) (c : Nat) (ch : ShutterChannel) : (s.setChan c ch).ver = s.ver := rfl
@[simp] theorem State.setChan_live (s : State) (c : Nat) (ch : ShutterChannel) : (s.setChan c ch).live = s.live := rfl
@[simp] theorem State.setChan_bar (s : State) (c : Nat) (ch : ShutterChannel) : (s.setChan c ch).bar = s.bar := rfl
@[simp] theorem State.setChan_ev (s : State) (c : Nat) (ch : ShutterChannel) : (s.setChan c ch).ev = s.ev := rfl
@[simp] theorem State.setChan_tr (s : State) (c : Nat) (ch : ShutterChannel) : (s.setChan c ch).tr = s.tr := rfl
@[simp] theorem State.setChan_prc (s : State) (c : Nat) (ch : ShutterChannel) : (s.setChan c ch).prc = s.prc := rfl
@[simp] theorem State.setChan_lnk (s : State) (c : Nat) (ch : ShutterChannel) : (s.setChan c ch).lnk = s.lnk := rfl
@[simp] theorem State.setChan_rt (s : State) (c : Nat) (ch : ShutterChannel) : (s.setChan c ch).rt = s.rt := rfl
@[simp] theorem State.setChan_sch (s : State) (c : Nat) (ch : ShutterChannel) : (s.setChan c ch).sch = s.sch := rfl
@[simp] theorem State.setChan_dap (s : State) (c : Nat) (ch : ShutterChannel) : (s.setChan c ch).dap = s.dap := rfl
@[simp] theorem State.setChan_recd (s : State) (c : Nat) (ch : ShutterChannel) : (s.setChan c ch).recd = s.recd := rfl
@[simp] theorem State.setChan_neg (s : State) (c : Nat) (ch : ShutterChannel) : (s.setChan c ch).neg = s.neg := rfl
@[simp] theorem State.setChan_mb (s : State) (c : Nat) (ch : ShutterChannel) : (s.setChan c ch).mb = s.mb := rfl
@[simp] theorem State.setChan_ce (s : State) (c : Nat) (ch : ShutterChannel) : (s.setChan c ch).ce = s.ce := rfl
@[simp] theorem State.setChan_pw (s : State) (c : Nat) (ch : ShutterChannel) : (s.setChan c ch).pw = s.pw := rfl
@[simp] theorem State.setChan_rst (s : State) (c : Nat) (ch : ShutterChannel) : (s.setChan c ch).rst = s.rst := rfl
@[simp] theorem State.setChan_kp (s : State) (c : Nat) (ch : ShutterChannel) : (s.setChan c ch).kp = s.kp := rfl
@[simp] theorem State.setChan_flash (s : State) (c : Nat) (ch : ShutterChannel) : (s.setChan c ch).flash = s.flash := rfl
@[simp] theorem State.setChan_jn (s : State) (c : Nat) (ch : ShutterChannel) : (s.setChan c ch).jn = s.jn := rfl
@[simp] theorem State.setChan_stack (s : State) (c : Nat) (ch : ShutterChannel) : (s.setChan c ch).stack = s.stack := rfl
@[simp] theorem State.setChan_out (s : State) (c : Nat) (ch : ShutterChannel) : (s.setChan c ch).out = s.out := rfl
@[simp] theorem State.setChan_free (s : State) (c : Nat) (ch : ShutterChannel) : (s.setChan c ch).free = s.free := rfl

/-! ### setCnt -/

@[simp] theorem State.setCnt_pending (s : State) (c : Counters) : (s.setCnt c).pending = s.pending := rfl
@[simp] theorem State.setCnt_parked (s : State) (c : Counters) : (s.setCnt c).parked = s.parked := rfl
@[simp] theorem State.setCnt_build (s : State) (c : Counters) : (s.setCnt c).build = s.build := rfl
@[simp] theorem State.setCnt_role (s : State) (c : Counters) : (s.setCnt c).role = s.role := rfl
@[simp] theorem State.setCnt_strapPins (s : State) (c : Counters) : (s.setCnt c).strapPins = s.strapPins := rfl
@[simp] theorem State.setCnt_regs (s : State) (c : Counters) : (s.setCnt c).regs = s.regs := rfl
@[simp] theorem State.setCnt_doms (s : State) (c : Counters) : (s.setCnt c).doms = s.doms := rfl
@[simp] theorem State.setCnt_cmdCodes (s : State) (c : Counters) : (s.setCnt c).cmdCodes = s.cmdCodes := rfl
@[simp] theorem State.setCnt_latchedRegs (s : State) (c : Counters) : (s.setCnt c).latchedRegs = s.latchedRegs := rfl
@[simp] theorem State.setCnt_latchedDoms (s : State) (c : Counters) : (s.setCnt c).latchedDoms = s.latchedDoms := rfl
@[simp] theorem State.setCnt_time (s : State) (c : Counters) : (s.setCnt c).time = s.time := rfl
@[simp] theorem State.setCnt_ptp (s : State) (c : Counters) : (s.setCnt c).ptp = s.ptp := rfl
@[simp] theorem State.setCnt_shutter (s : State) (c : Counters) : (s.setCnt c).shutter = s.shutter := rfl
@[simp] theorem State.setCnt_snap (s : State) (c : Counters) : (s.setCnt c).snap = s.snap := rfl
@[simp] theorem State.setCnt_fs (s : State) (c : Counters) : (s.setCnt c).fs = s.fs := rfl
@[simp] theorem State.setCnt_dev (s : State) (c : Counters) : (s.setCnt c).dev = s.dev := rfl
@[simp] theorem State.setCnt_red (s : State) (c : Counters) : (s.setCnt c).red = s.red := rfl
@[simp] theorem State.setCnt_ver (s : State) (c : Counters) : (s.setCnt c).ver = s.ver := rfl
@[simp] theorem State.setCnt_live (s : State) (c : Counters) : (s.setCnt c).live = s.live := rfl
@[simp] theorem State.setCnt_bar (s : State) (c : Counters) : (s.setCnt c).bar = s.bar := rfl
@[simp] theorem State.setCnt_ev (s : State) (c : Counters) : (s.setCnt c).ev = s.ev := rfl
@[simp] theorem State.setCnt_tr (s : State) (c : Counters) : (s.setCnt c).tr = s.tr := rfl
@[simp] theorem State.setCnt_prc (s : State) (c : Counters) : (s.setCnt c).prc = s.prc := rfl
@[simp] theorem State.setCnt_lnk (s : State) (c : Counters) : (s.setCnt c).lnk = s.lnk := rfl
@[simp] theorem State.setCnt_rt (s : State) (c : Counters) : (s.setCnt c).rt = s.rt := rfl
@[simp] theorem State.setCnt_sch (s : State) (c : Counters) : (s.setCnt c).sch = s.sch := rfl
@[simp] theorem State.setCnt_dap (s : State) (c : Counters) : (s.setCnt c).dap = s.dap := rfl
@[simp] theorem State.setCnt_recd (s : State) (c : Counters) : (s.setCnt c).recd = s.recd := rfl
@[simp] theorem State.setCnt_neg (s : State) (c : Counters) : (s.setCnt c).neg = s.neg := rfl
@[simp] theorem State.setCnt_mb (s : State) (c : Counters) : (s.setCnt c).mb = s.mb := rfl
@[simp] theorem State.setCnt_ce (s : State) (c : Counters) : (s.setCnt c).ce = s.ce := rfl
@[simp] theorem State.setCnt_pw (s : State) (c : Counters) : (s.setCnt c).pw = s.pw := rfl
@[simp] theorem State.setCnt_rst (s : State) (c : Counters) : (s.setCnt c).rst = s.rst := rfl
@[simp] theorem State.setCnt_kp (s : State) (c : Counters) : (s.setCnt c).kp = s.kp := rfl
@[simp] theorem State.setCnt_flash (s : State) (c : Counters) : (s.setCnt c).flash = s.flash := rfl
@[simp] theorem State.setCnt_jn (s : State) (c : Counters) : (s.setCnt c).jn = s.jn := rfl
@[simp] theorem State.setCnt_stack (s : State) (c : Counters) : (s.setCnt c).stack = s.stack := rfl
@[simp] theorem State.setCnt_out (s : State) (c : Counters) : (s.setCnt c).out = s.out := rfl
@[simp] theorem State.setCnt_free (s : State) (c : Counters) : (s.setCnt c).free = s.free := rfl

/-! ### setHslot -/

@[simp] theorem State.setHslot_pending (s : State) (i : Nat) (h : HealthSlot) : (s.setHslot i h).pending = s.pending := rfl
@[simp] theorem State.setHslot_parked (s : State) (i : Nat) (h : HealthSlot) : (s.setHslot i h).parked = s.parked := rfl
@[simp] theorem State.setHslot_build (s : State) (i : Nat) (h : HealthSlot) : (s.setHslot i h).build = s.build := rfl
@[simp] theorem State.setHslot_role (s : State) (i : Nat) (h : HealthSlot) : (s.setHslot i h).role = s.role := rfl
@[simp] theorem State.setHslot_strapPins (s : State) (i : Nat) (h : HealthSlot) : (s.setHslot i h).strapPins = s.strapPins := rfl
@[simp] theorem State.setHslot_regs (s : State) (i : Nat) (h : HealthSlot) : (s.setHslot i h).regs = s.regs := rfl
@[simp] theorem State.setHslot_doms (s : State) (i : Nat) (h : HealthSlot) : (s.setHslot i h).doms = s.doms := rfl
@[simp] theorem State.setHslot_cmdCodes (s : State) (i : Nat) (h : HealthSlot) : (s.setHslot i h).cmdCodes = s.cmdCodes := rfl
@[simp] theorem State.setHslot_latchedRegs (s : State) (i : Nat) (h : HealthSlot) : (s.setHslot i h).latchedRegs = s.latchedRegs := rfl
@[simp] theorem State.setHslot_latchedDoms (s : State) (i : Nat) (h : HealthSlot) : (s.setHslot i h).latchedDoms = s.latchedDoms := rfl
@[simp] theorem State.setHslot_time (s : State) (i : Nat) (h : HealthSlot) : (s.setHslot i h).time = s.time := rfl
@[simp] theorem State.setHslot_ptp (s : State) (i : Nat) (h : HealthSlot) : (s.setHslot i h).ptp = s.ptp := rfl
@[simp] theorem State.setHslot_shutter (s : State) (i : Nat) (h : HealthSlot) : (s.setHslot i h).shutter = s.shutter := rfl
@[simp] theorem State.setHslot_snap (s : State) (i : Nat) (h : HealthSlot) : (s.setHslot i h).snap = s.snap := rfl
@[simp] theorem State.setHslot_fs (s : State) (i : Nat) (h : HealthSlot) : (s.setHslot i h).fs = s.fs := rfl
@[simp] theorem State.setHslot_dev (s : State) (i : Nat) (h : HealthSlot) : (s.setHslot i h).dev = s.dev := rfl
@[simp] theorem State.setHslot_red (s : State) (i : Nat) (h : HealthSlot) : (s.setHslot i h).red = s.red := rfl
@[simp] theorem State.setHslot_ver (s : State) (i : Nat) (h : HealthSlot) : (s.setHslot i h).ver = s.ver := rfl
@[simp] theorem State.setHslot_live (s : State) (i : Nat) (h : HealthSlot) : (s.setHslot i h).live = s.live := rfl
@[simp] theorem State.setHslot_bar (s : State) (i : Nat) (h : HealthSlot) : (s.setHslot i h).bar = s.bar := rfl
@[simp] theorem State.setHslot_ev (s : State) (i : Nat) (h : HealthSlot) : (s.setHslot i h).ev = s.ev := rfl
@[simp] theorem State.setHslot_tr (s : State) (i : Nat) (h : HealthSlot) : (s.setHslot i h).tr = s.tr := rfl
@[simp] theorem State.setHslot_prc (s : State) (i : Nat) (h : HealthSlot) : (s.setHslot i h).prc = s.prc := rfl
@[simp] theorem State.setHslot_lnk (s : State) (i : Nat) (h : HealthSlot) : (s.setHslot i h).lnk = s.lnk := rfl
@[simp] theorem State.setHslot_rt (s : State) (i : Nat) (h : HealthSlot) : (s.setHslot i h).rt = s.rt := rfl
@[simp] theorem State.setHslot_sch (s : State) (i : Nat) (h : HealthSlot) : (s.setHslot i h).sch = s.sch := rfl
@[simp] theorem State.setHslot_dap (s : State) (i : Nat) (h : HealthSlot) : (s.setHslot i h).dap = s.dap := rfl
@[simp] theorem State.setHslot_recd (s : State) (i : Nat) (h : HealthSlot) : (s.setHslot i h).recd = s.recd := rfl
@[simp] theorem State.setHslot_neg (s : State) (i : Nat) (h : HealthSlot) : (s.setHslot i h).neg = s.neg := rfl
@[simp] theorem State.setHslot_mb (s : State) (i : Nat) (h : HealthSlot) : (s.setHslot i h).mb = s.mb := rfl
@[simp] theorem State.setHslot_ce (s : State) (i : Nat) (h : HealthSlot) : (s.setHslot i h).ce = s.ce := rfl
@[simp] theorem State.setHslot_pw (s : State) (i : Nat) (h : HealthSlot) : (s.setHslot i h).pw = s.pw := rfl
@[simp] theorem State.setHslot_rst (s : State) (i : Nat) (h : HealthSlot) : (s.setHslot i h).rst = s.rst := rfl
@[simp] theorem State.setHslot_kp (s : State) (i : Nat) (h : HealthSlot) : (s.setHslot i h).kp = s.kp := rfl
@[simp] theorem State.setHslot_flash (s : State) (i : Nat) (h : HealthSlot) : (s.setHslot i h).flash = s.flash := rfl
@[simp] theorem State.setHslot_jn (s : State) (i : Nat) (h : HealthSlot) : (s.setHslot i h).jn = s.jn := rfl
@[simp] theorem State.setHslot_stack (s : State) (i : Nat) (h : HealthSlot) : (s.setHslot i h).stack = s.stack := rfl
@[simp] theorem State.setHslot_out (s : State) (i : Nat) (h : HealthSlot) : (s.setHslot i h).out = s.out := rfl
@[simp] theorem State.setHslot_free (s : State) (i : Nat) (h : HealthSlot) : (s.setHslot i h).free = s.free := rfl

/-! ### setDslot -/

@[simp] theorem State.setDslot_pending (s : State) (k : Nat) (d : DevSlot) : (s.setDslot k d).pending = s.pending := rfl
@[simp] theorem State.setDslot_parked (s : State) (k : Nat) (d : DevSlot) : (s.setDslot k d).parked = s.parked := rfl
@[simp] theorem State.setDslot_build (s : State) (k : Nat) (d : DevSlot) : (s.setDslot k d).build = s.build := rfl
@[simp] theorem State.setDslot_role (s : State) (k : Nat) (d : DevSlot) : (s.setDslot k d).role = s.role := rfl
@[simp] theorem State.setDslot_strapPins (s : State) (k : Nat) (d : DevSlot) : (s.setDslot k d).strapPins = s.strapPins := rfl
@[simp] theorem State.setDslot_regs (s : State) (k : Nat) (d : DevSlot) : (s.setDslot k d).regs = s.regs := rfl
@[simp] theorem State.setDslot_doms (s : State) (k : Nat) (d : DevSlot) : (s.setDslot k d).doms = s.doms := rfl
@[simp] theorem State.setDslot_cmdCodes (s : State) (k : Nat) (d : DevSlot) : (s.setDslot k d).cmdCodes = s.cmdCodes := rfl
@[simp] theorem State.setDslot_latchedRegs (s : State) (k : Nat) (d : DevSlot) : (s.setDslot k d).latchedRegs = s.latchedRegs := rfl
@[simp] theorem State.setDslot_latchedDoms (s : State) (k : Nat) (d : DevSlot) : (s.setDslot k d).latchedDoms = s.latchedDoms := rfl
@[simp] theorem State.setDslot_time (s : State) (k : Nat) (d : DevSlot) : (s.setDslot k d).time = s.time := rfl
@[simp] theorem State.setDslot_ptp (s : State) (k : Nat) (d : DevSlot) : (s.setDslot k d).ptp = s.ptp := rfl
@[simp] theorem State.setDslot_shutter (s : State) (k : Nat) (d : DevSlot) : (s.setDslot k d).shutter = s.shutter := rfl
@[simp] theorem State.setDslot_cnt (s : State) (k : Nat) (d : DevSlot) : (s.setDslot k d).cnt = s.cnt := rfl
@[simp] theorem State.setDslot_snap (s : State) (k : Nat) (d : DevSlot) : (s.setDslot k d).snap = s.snap := rfl
@[simp] theorem State.setDslot_fs (s : State) (k : Nat) (d : DevSlot) : (s.setDslot k d).fs = s.fs := rfl
@[simp] theorem State.setDslot_red (s : State) (k : Nat) (d : DevSlot) : (s.setDslot k d).red = s.red := rfl
@[simp] theorem State.setDslot_ver (s : State) (k : Nat) (d : DevSlot) : (s.setDslot k d).ver = s.ver := rfl
@[simp] theorem State.setDslot_live (s : State) (k : Nat) (d : DevSlot) : (s.setDslot k d).live = s.live := rfl
@[simp] theorem State.setDslot_bar (s : State) (k : Nat) (d : DevSlot) : (s.setDslot k d).bar = s.bar := rfl
@[simp] theorem State.setDslot_ev (s : State) (k : Nat) (d : DevSlot) : (s.setDslot k d).ev = s.ev := rfl
@[simp] theorem State.setDslot_tr (s : State) (k : Nat) (d : DevSlot) : (s.setDslot k d).tr = s.tr := rfl
@[simp] theorem State.setDslot_prc (s : State) (k : Nat) (d : DevSlot) : (s.setDslot k d).prc = s.prc := rfl
@[simp] theorem State.setDslot_lnk (s : State) (k : Nat) (d : DevSlot) : (s.setDslot k d).lnk = s.lnk := rfl
@[simp] theorem State.setDslot_rt (s : State) (k : Nat) (d : DevSlot) : (s.setDslot k d).rt = s.rt := rfl
@[simp] theorem State.setDslot_sch (s : State) (k : Nat) (d : DevSlot) : (s.setDslot k d).sch = s.sch := rfl
@[simp] theorem State.setDslot_dap (s : State) (k : Nat) (d : DevSlot) : (s.setDslot k d).dap = s.dap := rfl
@[simp] theorem State.setDslot_recd (s : State) (k : Nat) (d : DevSlot) : (s.setDslot k d).recd = s.recd := rfl
@[simp] theorem State.setDslot_neg (s : State) (k : Nat) (d : DevSlot) : (s.setDslot k d).neg = s.neg := rfl
@[simp] theorem State.setDslot_mb (s : State) (k : Nat) (d : DevSlot) : (s.setDslot k d).mb = s.mb := rfl
@[simp] theorem State.setDslot_ce (s : State) (k : Nat) (d : DevSlot) : (s.setDslot k d).ce = s.ce := rfl
@[simp] theorem State.setDslot_pw (s : State) (k : Nat) (d : DevSlot) : (s.setDslot k d).pw = s.pw := rfl
@[simp] theorem State.setDslot_rst (s : State) (k : Nat) (d : DevSlot) : (s.setDslot k d).rst = s.rst := rfl
@[simp] theorem State.setDslot_kp (s : State) (k : Nat) (d : DevSlot) : (s.setDslot k d).kp = s.kp := rfl
@[simp] theorem State.setDslot_flash (s : State) (k : Nat) (d : DevSlot) : (s.setDslot k d).flash = s.flash := rfl
@[simp] theorem State.setDslot_jn (s : State) (k : Nat) (d : DevSlot) : (s.setDslot k d).jn = s.jn := rfl
@[simp] theorem State.setDslot_stack (s : State) (k : Nat) (d : DevSlot) : (s.setDslot k d).stack = s.stack := rfl
@[simp] theorem State.setDslot_out (s : State) (k : Nat) (d : DevSlot) : (s.setDslot k d).out = s.out := rfl
@[simp] theorem State.setDslot_free (s : State) (k : Nat) (d : DevSlot) : (s.setDslot k d).free = s.free := rfl

/-! ### setBar -/

@[simp] theorem State.setBar_pending (s : State) (b : Barriers) : (s.setBar b).pending = s.pending := rfl
@[simp] theorem State.setBar_parked (s : State) (b : Barriers) : (s.setBar b).parked = s.parked := rfl
@[simp] theorem State.setBar_build (s : State) (b : Barriers) : (s.setBar b).build = s.build := rfl
@[simp] theorem State.setBar_role (s : State) (b : Barriers) : (s.setBar b).role = s.role := rfl
@[simp] theorem State.setBar_strapPins (s : State) (b : Barriers) : (s.setBar b).strapPins = s.strapPins := rfl
@[simp] theorem State.setBar_regs (s : State) (b : Barriers) : (s.setBar b).regs = s.regs := rfl
@[simp] theorem State.setBar_doms (s : State) (b : Barriers) : (s.setBar b).doms = s.doms := rfl
@[simp] theorem State.setBar_cmdCodes (s : State) (b : Barriers) : (s.setBar b).cmdCodes = s.cmdCodes := rfl
@[simp] theorem State.setBar_latchedRegs (s : State) (b : Barriers) : (s.setBar b).latchedRegs = s.latchedRegs := rfl
@[simp] theorem State.setBar_latchedDoms (s : State) (b : Barriers) : (s.setBar b).latchedDoms = s.latchedDoms := rfl
@[simp] theorem State.setBar_time (s : State) (b : Barriers) : (s.setBar b).time = s.time := rfl
@[simp] theorem State.setBar_ptp (s : State) (b : Barriers) : (s.setBar b).ptp = s.ptp := rfl
@[simp] theorem State.setBar_shutter (s : State) (b : Barriers) : (s.setBar b).shutter = s.shutter := rfl
@[simp] theorem State.setBar_cnt (s : State) (b : Barriers) : (s.setBar b).cnt = s.cnt := rfl
@[simp] theorem State.setBar_snap (s : State) (b : Barriers) : (s.setBar b).snap = s.snap := rfl
@[simp] theorem State.setBar_fs (s : State) (b : Barriers) : (s.setBar b).fs = s.fs := rfl
@[simp] theorem State.setBar_dev (s : State) (b : Barriers) : (s.setBar b).dev = s.dev := rfl
@[simp] theorem State.setBar_red (s : State) (b : Barriers) : (s.setBar b).red = s.red := rfl
@[simp] theorem State.setBar_ver (s : State) (b : Barriers) : (s.setBar b).ver = s.ver := rfl
@[simp] theorem State.setBar_live (s : State) (b : Barriers) : (s.setBar b).live = s.live := rfl
@[simp] theorem State.setBar_ev (s : State) (b : Barriers) : (s.setBar b).ev = s.ev := rfl
@[simp] theorem State.setBar_tr (s : State) (b : Barriers) : (s.setBar b).tr = s.tr := rfl
@[simp] theorem State.setBar_prc (s : State) (b : Barriers) : (s.setBar b).prc = s.prc := rfl
@[simp] theorem State.setBar_lnk (s : State) (b : Barriers) : (s.setBar b).lnk = s.lnk := rfl
@[simp] theorem State.setBar_rt (s : State) (b : Barriers) : (s.setBar b).rt = s.rt := rfl
@[simp] theorem State.setBar_sch (s : State) (b : Barriers) : (s.setBar b).sch = s.sch := rfl
@[simp] theorem State.setBar_dap (s : State) (b : Barriers) : (s.setBar b).dap = s.dap := rfl
@[simp] theorem State.setBar_recd (s : State) (b : Barriers) : (s.setBar b).recd = s.recd := rfl
@[simp] theorem State.setBar_neg (s : State) (b : Barriers) : (s.setBar b).neg = s.neg := rfl
@[simp] theorem State.setBar_mb (s : State) (b : Barriers) : (s.setBar b).mb = s.mb := rfl
@[simp] theorem State.setBar_ce (s : State) (b : Barriers) : (s.setBar b).ce = s.ce := rfl
@[simp] theorem State.setBar_pw (s : State) (b : Barriers) : (s.setBar b).pw = s.pw := rfl
@[simp] theorem State.setBar_rst (s : State) (b : Barriers) : (s.setBar b).rst = s.rst := rfl
@[simp] theorem State.setBar_kp (s : State) (b : Barriers) : (s.setBar b).kp = s.kp := rfl
@[simp] theorem State.setBar_flash (s : State) (b : Barriers) : (s.setBar b).flash = s.flash := rfl
@[simp] theorem State.setBar_jn (s : State) (b : Barriers) : (s.setBar b).jn = s.jn := rfl
@[simp] theorem State.setBar_stack (s : State) (b : Barriers) : (s.setBar b).stack = s.stack := rfl
@[simp] theorem State.setBar_out (s : State) (b : Barriers) : (s.setBar b).out = s.out := rfl
@[simp] theorem State.setBar_free (s : State) (b : Barriers) : (s.setBar b).free = s.free := rfl

/-! ### setLeaf -/

@[simp] theorem State.setLeaf_pending (s : State) (l : LeafJob) : (s.setLeaf l).pending = s.pending := rfl
@[simp] theorem State.setLeaf_parked (s : State) (l : LeafJob) : (s.setLeaf l).parked = s.parked := rfl
@[simp] theorem State.setLeaf_build (s : State) (l : LeafJob) : (s.setLeaf l).build = s.build := rfl
@[simp] theorem State.setLeaf_role (s : State) (l : LeafJob) : (s.setLeaf l).role = s.role := rfl
@[simp] theorem State.setLeaf_strapPins (s : State) (l : LeafJob) : (s.setLeaf l).strapPins = s.strapPins := rfl
@[simp] theorem State.setLeaf_regs (s : State) (l : LeafJob) : (s.setLeaf l).regs = s.regs := rfl
@[simp] theorem State.setLeaf_doms (s : State) (l : LeafJob) : (s.setLeaf l).doms = s.doms := rfl
@[simp] theorem State.setLeaf_cmdCodes (s : State) (l : LeafJob) : (s.setLeaf l).cmdCodes = s.cmdCodes := rfl
@[simp] theorem State.setLeaf_latchedRegs (s : State) (l : LeafJob) : (s.setLeaf l).latchedRegs = s.latchedRegs := rfl
@[simp] theorem State.setLeaf_latchedDoms (s : State) (l : LeafJob) : (s.setLeaf l).latchedDoms = s.latchedDoms := rfl
@[simp] theorem State.setLeaf_time (s : State) (l : LeafJob) : (s.setLeaf l).time = s.time := rfl
@[simp] theorem State.setLeaf_ptp (s : State) (l : LeafJob) : (s.setLeaf l).ptp = s.ptp := rfl
@[simp] theorem State.setLeaf_shutter (s : State) (l : LeafJob) : (s.setLeaf l).shutter = s.shutter := rfl
@[simp] theorem State.setLeaf_cnt (s : State) (l : LeafJob) : (s.setLeaf l).cnt = s.cnt := rfl
@[simp] theorem State.setLeaf_snap (s : State) (l : LeafJob) : (s.setLeaf l).snap = s.snap := rfl
@[simp] theorem State.setLeaf_fs (s : State) (l : LeafJob) : (s.setLeaf l).fs = s.fs := rfl
@[simp] theorem State.setLeaf_dev (s : State) (l : LeafJob) : (s.setLeaf l).dev = s.dev := rfl
@[simp] theorem State.setLeaf_red (s : State) (l : LeafJob) : (s.setLeaf l).red = s.red := rfl
@[simp] theorem State.setLeaf_ver (s : State) (l : LeafJob) : (s.setLeaf l).ver = s.ver := rfl
@[simp] theorem State.setLeaf_live (s : State) (l : LeafJob) : (s.setLeaf l).live = s.live := rfl
@[simp] theorem State.setLeaf_ev (s : State) (l : LeafJob) : (s.setLeaf l).ev = s.ev := rfl
@[simp] theorem State.setLeaf_tr (s : State) (l : LeafJob) : (s.setLeaf l).tr = s.tr := rfl
@[simp] theorem State.setLeaf_prc (s : State) (l : LeafJob) : (s.setLeaf l).prc = s.prc := rfl
@[simp] theorem State.setLeaf_lnk (s : State) (l : LeafJob) : (s.setLeaf l).lnk = s.lnk := rfl
@[simp] theorem State.setLeaf_rt (s : State) (l : LeafJob) : (s.setLeaf l).rt = s.rt := rfl
@[simp] theorem State.setLeaf_sch (s : State) (l : LeafJob) : (s.setLeaf l).sch = s.sch := rfl
@[simp] theorem State.setLeaf_dap (s : State) (l : LeafJob) : (s.setLeaf l).dap = s.dap := rfl
@[simp] theorem State.setLeaf_recd (s : State) (l : LeafJob) : (s.setLeaf l).recd = s.recd := rfl
@[simp] theorem State.setLeaf_neg (s : State) (l : LeafJob) : (s.setLeaf l).neg = s.neg := rfl
@[simp] theorem State.setLeaf_mb (s : State) (l : LeafJob) : (s.setLeaf l).mb = s.mb := rfl
@[simp] theorem State.setLeaf_ce (s : State) (l : LeafJob) : (s.setLeaf l).ce = s.ce := rfl
@[simp] theorem State.setLeaf_pw (s : State) (l : LeafJob) : (s.setLeaf l).pw = s.pw := rfl
@[simp] theorem State.setLeaf_rst (s : State) (l : LeafJob) : (s.setLeaf l).rst = s.rst := rfl
@[simp] theorem State.setLeaf_kp (s : State) (l : LeafJob) : (s.setLeaf l).kp = s.kp := rfl
@[simp] theorem State.setLeaf_flash (s : State) (l : LeafJob) : (s.setLeaf l).flash = s.flash := rfl
@[simp] theorem State.setLeaf_jn (s : State) (l : LeafJob) : (s.setLeaf l).jn = s.jn := rfl
@[simp] theorem State.setLeaf_stack (s : State) (l : LeafJob) : (s.setLeaf l).stack = s.stack := rfl
@[simp] theorem State.setLeaf_out (s : State) (l : LeafJob) : (s.setLeaf l).out = s.out := rfl
@[simp] theorem State.setLeaf_free (s : State) (l : LeafJob) : (s.setLeaf l).free = s.free := rfl

/-! ### setEv -/

@[simp] theorem State.setEv_pending (s : State) (e : Evidence) : (s.setEv e).pending = s.pending := rfl
@[simp] theorem State.setEv_parked (s : State) (e : Evidence) : (s.setEv e).parked = s.parked := rfl
@[simp] theorem State.setEv_build (s : State) (e : Evidence) : (s.setEv e).build = s.build := rfl
@[simp] theorem State.setEv_role (s : State) (e : Evidence) : (s.setEv e).role = s.role := rfl
@[simp] theorem State.setEv_strapPins (s : State) (e : Evidence) : (s.setEv e).strapPins = s.strapPins := rfl
@[simp] theorem State.setEv_regs (s : State) (e : Evidence) : (s.setEv e).regs = s.regs := rfl
@[simp] theorem State.setEv_doms (s : State) (e : Evidence) : (s.setEv e).doms = s.doms := rfl
@[simp] theorem State.setEv_cmdCodes (s : State) (e : Evidence) : (s.setEv e).cmdCodes = s.cmdCodes := rfl
@[simp] theorem State.setEv_latchedRegs (s : State) (e : Evidence) : (s.setEv e).latchedRegs = s.latchedRegs := rfl
@[simp] theorem State.setEv_latchedDoms (s : State) (e : Evidence) : (s.setEv e).latchedDoms = s.latchedDoms := rfl
@[simp] theorem State.setEv_time (s : State) (e : Evidence) : (s.setEv e).time = s.time := rfl
@[simp] theorem State.setEv_ptp (s : State) (e : Evidence) : (s.setEv e).ptp = s.ptp := rfl
@[simp] theorem State.setEv_shutter (s : State) (e : Evidence) : (s.setEv e).shutter = s.shutter := rfl
@[simp] theorem State.setEv_cnt (s : State) (e : Evidence) : (s.setEv e).cnt = s.cnt := rfl
@[simp] theorem State.setEv_snap (s : State) (e : Evidence) : (s.setEv e).snap = s.snap := rfl
@[simp] theorem State.setEv_fs (s : State) (e : Evidence) : (s.setEv e).fs = s.fs := rfl
@[simp] theorem State.setEv_dev (s : State) (e : Evidence) : (s.setEv e).dev = s.dev := rfl
@[simp] theorem State.setEv_red (s : State) (e : Evidence) : (s.setEv e).red = s.red := rfl
@[simp] theorem State.setEv_ver (s : State) (e : Evidence) : (s.setEv e).ver = s.ver := rfl
@[simp] theorem State.setEv_live (s : State) (e : Evidence) : (s.setEv e).live = s.live := rfl
@[simp] theorem State.setEv_bar (s : State) (e : Evidence) : (s.setEv e).bar = s.bar := rfl
@[simp] theorem State.setEv_tr (s : State) (e : Evidence) : (s.setEv e).tr = s.tr := rfl
@[simp] theorem State.setEv_prc (s : State) (e : Evidence) : (s.setEv e).prc = s.prc := rfl
@[simp] theorem State.setEv_lnk (s : State) (e : Evidence) : (s.setEv e).lnk = s.lnk := rfl
@[simp] theorem State.setEv_rt (s : State) (e : Evidence) : (s.setEv e).rt = s.rt := rfl
@[simp] theorem State.setEv_sch (s : State) (e : Evidence) : (s.setEv e).sch = s.sch := rfl
@[simp] theorem State.setEv_dap (s : State) (e : Evidence) : (s.setEv e).dap = s.dap := rfl
@[simp] theorem State.setEv_recd (s : State) (e : Evidence) : (s.setEv e).recd = s.recd := rfl
@[simp] theorem State.setEv_neg (s : State) (e : Evidence) : (s.setEv e).neg = s.neg := rfl
@[simp] theorem State.setEv_mb (s : State) (e : Evidence) : (s.setEv e).mb = s.mb := rfl
@[simp] theorem State.setEv_ce (s : State) (e : Evidence) : (s.setEv e).ce = s.ce := rfl
@[simp] theorem State.setEv_pw (s : State) (e : Evidence) : (s.setEv e).pw = s.pw := rfl
@[simp] theorem State.setEv_rst (s : State) (e : Evidence) : (s.setEv e).rst = s.rst := rfl
@[simp] theorem State.setEv_kp (s : State) (e : Evidence) : (s.setEv e).kp = s.kp := rfl
@[simp] theorem State.setEv_flash (s : State) (e : Evidence) : (s.setEv e).flash = s.flash := rfl
@[simp] theorem State.setEv_jn (s : State) (e : Evidence) : (s.setEv e).jn = s.jn := rfl
@[simp] theorem State.setEv_stack (s : State) (e : Evidence) : (s.setEv e).stack = s.stack := rfl
@[simp] theorem State.setEv_out (s : State) (e : Evidence) : (s.setEv e).out = s.out := rfl
@[simp] theorem State.setEv_free (s : State) (e : Evidence) : (s.setEv e).free = s.free := rfl

/-! ### setTest -/

@[simp] theorem State.setTest_pending (s : State) (i : Nat) (t : TestEntry) : (s.setTest i t).pending = s.pending := rfl
@[simp] theorem State.setTest_parked (s : State) (i : Nat) (t : TestEntry) : (s.setTest i t).parked = s.parked := rfl
@[simp] theorem State.setTest_build (s : State) (i : Nat) (t : TestEntry) : (s.setTest i t).build = s.build := rfl
@[simp] theorem State.setTest_role (s : State) (i : Nat) (t : TestEntry) : (s.setTest i t).role = s.role := rfl
@[simp] theorem State.setTest_strapPins (s : State) (i : Nat) (t : TestEntry) : (s.setTest i t).strapPins = s.strapPins := rfl
@[simp] theorem State.setTest_regs (s : State) (i : Nat) (t : TestEntry) : (s.setTest i t).regs = s.regs := rfl
@[simp] theorem State.setTest_doms (s : State) (i : Nat) (t : TestEntry) : (s.setTest i t).doms = s.doms := rfl
@[simp] theorem State.setTest_cmdCodes (s : State) (i : Nat) (t : TestEntry) : (s.setTest i t).cmdCodes = s.cmdCodes := rfl
@[simp] theorem State.setTest_latchedRegs (s : State) (i : Nat) (t : TestEntry) : (s.setTest i t).latchedRegs = s.latchedRegs := rfl
@[simp] theorem State.setTest_latchedDoms (s : State) (i : Nat) (t : TestEntry) : (s.setTest i t).latchedDoms = s.latchedDoms := rfl
@[simp] theorem State.setTest_time (s : State) (i : Nat) (t : TestEntry) : (s.setTest i t).time = s.time := rfl
@[simp] theorem State.setTest_ptp (s : State) (i : Nat) (t : TestEntry) : (s.setTest i t).ptp = s.ptp := rfl
@[simp] theorem State.setTest_shutter (s : State) (i : Nat) (t : TestEntry) : (s.setTest i t).shutter = s.shutter := rfl
@[simp] theorem State.setTest_cnt (s : State) (i : Nat) (t : TestEntry) : (s.setTest i t).cnt = s.cnt := rfl
@[simp] theorem State.setTest_snap (s : State) (i : Nat) (t : TestEntry) : (s.setTest i t).snap = s.snap := rfl
@[simp] theorem State.setTest_fs (s : State) (i : Nat) (t : TestEntry) : (s.setTest i t).fs = s.fs := rfl
@[simp] theorem State.setTest_dev (s : State) (i : Nat) (t : TestEntry) : (s.setTest i t).dev = s.dev := rfl
@[simp] theorem State.setTest_red (s : State) (i : Nat) (t : TestEntry) : (s.setTest i t).red = s.red := rfl
@[simp] theorem State.setTest_ver (s : State) (i : Nat) (t : TestEntry) : (s.setTest i t).ver = s.ver := rfl
@[simp] theorem State.setTest_live (s : State) (i : Nat) (t : TestEntry) : (s.setTest i t).live = s.live := rfl
@[simp] theorem State.setTest_bar (s : State) (i : Nat) (t : TestEntry) : (s.setTest i t).bar = s.bar := rfl
@[simp] theorem State.setTest_tr (s : State) (i : Nat) (t : TestEntry) : (s.setTest i t).tr = s.tr := rfl
@[simp] theorem State.setTest_prc (s : State) (i : Nat) (t : TestEntry) : (s.setTest i t).prc = s.prc := rfl
@[simp] theorem State.setTest_lnk (s : State) (i : Nat) (t : TestEntry) : (s.setTest i t).lnk = s.lnk := rfl
@[simp] theorem State.setTest_rt (s : State) (i : Nat) (t : TestEntry) : (s.setTest i t).rt = s.rt := rfl
@[simp] theorem State.setTest_sch (s : State) (i : Nat) (t : TestEntry) : (s.setTest i t).sch = s.sch := rfl
@[simp] theorem State.setTest_dap (s : State) (i : Nat) (t : TestEntry) : (s.setTest i t).dap = s.dap := rfl
@[simp] theorem State.setTest_recd (s : State) (i : Nat) (t : TestEntry) : (s.setTest i t).recd = s.recd := rfl
@[simp] theorem State.setTest_neg (s : State) (i : Nat) (t : TestEntry) : (s.setTest i t).neg = s.neg := rfl
@[simp] theorem State.setTest_mb (s : State) (i : Nat) (t : TestEntry) : (s.setTest i t).mb = s.mb := rfl
@[simp] theorem State.setTest_ce (s : State) (i : Nat) (t : TestEntry) : (s.setTest i t).ce = s.ce := rfl
@[simp] theorem State.setTest_pw (s : State) (i : Nat) (t : TestEntry) : (s.setTest i t).pw = s.pw := rfl
@[simp] theorem State.setTest_rst (s : State) (i : Nat) (t : TestEntry) : (s.setTest i t).rst = s.rst := rfl
@[simp] theorem State.setTest_kp (s : State) (i : Nat) (t : TestEntry) : (s.setTest i t).kp = s.kp := rfl
@[simp] theorem State.setTest_flash (s : State) (i : Nat) (t : TestEntry) : (s.setTest i t).flash = s.flash := rfl
@[simp] theorem State.setTest_jn (s : State) (i : Nat) (t : TestEntry) : (s.setTest i t).jn = s.jn := rfl
@[simp] theorem State.setTest_stack (s : State) (i : Nat) (t : TestEntry) : (s.setTest i t).stack = s.stack := rfl
@[simp] theorem State.setTest_out (s : State) (i : Nat) (t : TestEntry) : (s.setTest i t).out = s.out := rfl
@[simp] theorem State.setTest_free (s : State) (i : Nat) (t : TestEntry) : (s.setTest i t).free = s.free := rfl

/-! ### setFs -/

@[simp] theorem State.setFs_pending (s : State) (f : FrontStage) : (s.setFs f).pending = s.pending := rfl
@[simp] theorem State.setFs_parked (s : State) (f : FrontStage) : (s.setFs f).parked = s.parked := rfl
@[simp] theorem State.setFs_build (s : State) (f : FrontStage) : (s.setFs f).build = s.build := rfl
@[simp] theorem State.setFs_role (s : State) (f : FrontStage) : (s.setFs f).role = s.role := rfl
@[simp] theorem State.setFs_strapPins (s : State) (f : FrontStage) : (s.setFs f).strapPins = s.strapPins := rfl
@[simp] theorem State.setFs_regs (s : State) (f : FrontStage) : (s.setFs f).regs = s.regs := rfl
@[simp] theorem State.setFs_doms (s : State) (f : FrontStage) : (s.setFs f).doms = s.doms := rfl
@[simp] theorem State.setFs_cmdCodes (s : State) (f : FrontStage) : (s.setFs f).cmdCodes = s.cmdCodes := rfl
@[simp] theorem State.setFs_latchedRegs (s : State) (f : FrontStage) : (s.setFs f).latchedRegs = s.latchedRegs := rfl
@[simp] theorem State.setFs_latchedDoms (s : State) (f : FrontStage) : (s.setFs f).latchedDoms = s.latchedDoms := rfl
@[simp] theorem State.setFs_time (s : State) (f : FrontStage) : (s.setFs f).time = s.time := rfl
@[simp] theorem State.setFs_ptp (s : State) (f : FrontStage) : (s.setFs f).ptp = s.ptp := rfl
@[simp] theorem State.setFs_shutter (s : State) (f : FrontStage) : (s.setFs f).shutter = s.shutter := rfl
@[simp] theorem State.setFs_cnt (s : State) (f : FrontStage) : (s.setFs f).cnt = s.cnt := rfl
@[simp] theorem State.setFs_snap (s : State) (f : FrontStage) : (s.setFs f).snap = s.snap := rfl
@[simp] theorem State.setFs_dev (s : State) (f : FrontStage) : (s.setFs f).dev = s.dev := rfl
@[simp] theorem State.setFs_red (s : State) (f : FrontStage) : (s.setFs f).red = s.red := rfl
@[simp] theorem State.setFs_ver (s : State) (f : FrontStage) : (s.setFs f).ver = s.ver := rfl
@[simp] theorem State.setFs_live (s : State) (f : FrontStage) : (s.setFs f).live = s.live := rfl
@[simp] theorem State.setFs_bar (s : State) (f : FrontStage) : (s.setFs f).bar = s.bar := rfl
@[simp] theorem State.setFs_ev (s : State) (f : FrontStage) : (s.setFs f).ev = s.ev := rfl
@[simp] theorem State.setFs_tr (s : State) (f : FrontStage) : (s.setFs f).tr = s.tr := rfl
@[simp] theorem State.setFs_prc (s : State) (f : FrontStage) : (s.setFs f).prc = s.prc := rfl
@[simp] theorem State.setFs_lnk (s : State) (f : FrontStage) : (s.setFs f).lnk = s.lnk := rfl
@[simp] theorem State.setFs_rt (s : State) (f : FrontStage) : (s.setFs f).rt = s.rt := rfl
@[simp] theorem State.setFs_sch (s : State) (f : FrontStage) : (s.setFs f).sch = s.sch := rfl
@[simp] theorem State.setFs_dap (s : State) (f : FrontStage) : (s.setFs f).dap = s.dap := rfl
@[simp] theorem State.setFs_recd (s : State) (f : FrontStage) : (s.setFs f).recd = s.recd := rfl
@[simp] theorem State.setFs_neg (s : State) (f : FrontStage) : (s.setFs f).neg = s.neg := rfl
@[simp] theorem State.setFs_mb (s : State) (f : FrontStage) : (s.setFs f).mb = s.mb := rfl
@[simp] theorem State.setFs_ce (s : State) (f : FrontStage) : (s.setFs f).ce = s.ce := rfl
@[simp] theorem State.setFs_pw (s : State) (f : FrontStage) : (s.setFs f).pw = s.pw := rfl
@[simp] theorem State.setFs_rst (s : State) (f : FrontStage) : (s.setFs f).rst = s.rst := rfl
@[simp] theorem State.setFs_kp (s : State) (f : FrontStage) : (s.setFs f).kp = s.kp := rfl
@[simp] theorem State.setFs_flash (s : State) (f : FrontStage) : (s.setFs f).flash = s.flash := rfl
@[simp] theorem State.setFs_jn (s : State) (f : FrontStage) : (s.setFs f).jn = s.jn := rfl
@[simp] theorem State.setFs_stack (s : State) (f : FrontStage) : (s.setFs f).stack = s.stack := rfl
@[simp] theorem State.setFs_out (s : State) (f : FrontStage) : (s.setFs f).out = s.out := rfl
@[simp] theorem State.setFs_free (s : State) (f : FrontStage) : (s.setFs f).free = s.free := rfl

/-! ### setKp -/

@[simp] theorem State.setKp_pending (s : State) (k : Keeper) : (s.setKp k).pending = s.pending := rfl
@[simp] theorem State.setKp_parked (s : State) (k : Keeper) : (s.setKp k).parked = s.parked := rfl
@[simp] theorem State.setKp_build (s : State) (k : Keeper) : (s.setKp k).build = s.build := rfl
@[simp] theorem State.setKp_role (s : State) (k : Keeper) : (s.setKp k).role = s.role := rfl
@[simp] theorem State.setKp_strapPins (s : State) (k : Keeper) : (s.setKp k).strapPins = s.strapPins := rfl
@[simp] theorem State.setKp_regs (s : State) (k : Keeper) : (s.setKp k).regs = s.regs := rfl
@[simp] theorem State.setKp_doms (s : State) (k : Keeper) : (s.setKp k).doms = s.doms := rfl
@[simp] theorem State.setKp_cmdCodes (s : State) (k : Keeper) : (s.setKp k).cmdCodes = s.cmdCodes := rfl
@[simp] theorem State.setKp_latchedRegs (s : State) (k : Keeper) : (s.setKp k).latchedRegs = s.latchedRegs := rfl
@[simp] theorem State.setKp_latchedDoms (s : State) (k : Keeper) : (s.setKp k).latchedDoms = s.latchedDoms := rfl
@[simp] theorem State.setKp_time (s : State) (k : Keeper) : (s.setKp k).time = s.time := rfl
@[simp] theorem State.setKp_ptp (s : State) (k : Keeper) : (s.setKp k).ptp = s.ptp := rfl
@[simp] theorem State.setKp_shutter (s : State) (k : Keeper) : (s.setKp k).shutter = s.shutter := rfl
@[simp] theorem State.setKp_cnt (s : State) (k : Keeper) : (s.setKp k).cnt = s.cnt := rfl
@[simp] theorem State.setKp_snap (s : State) (k : Keeper) : (s.setKp k).snap = s.snap := rfl
@[simp] theorem State.setKp_fs (s : State) (k : Keeper) : (s.setKp k).fs = s.fs := rfl
@[simp] theorem State.setKp_dev (s : State) (k : Keeper) : (s.setKp k).dev = s.dev := rfl
@[simp] theorem State.setKp_red (s : State) (k : Keeper) : (s.setKp k).red = s.red := rfl
@[simp] theorem State.setKp_ver (s : State) (k : Keeper) : (s.setKp k).ver = s.ver := rfl
@[simp] theorem State.setKp_live (s : State) (k : Keeper) : (s.setKp k).live = s.live := rfl
@[simp] theorem State.setKp_bar (s : State) (k : Keeper) : (s.setKp k).bar = s.bar := rfl
@[simp] theorem State.setKp_ev (s : State) (k : Keeper) : (s.setKp k).ev = s.ev := rfl
@[simp] theorem State.setKp_tr (s : State) (k : Keeper) : (s.setKp k).tr = s.tr := rfl
@[simp] theorem State.setKp_prc (s : State) (k : Keeper) : (s.setKp k).prc = s.prc := rfl
@[simp] theorem State.setKp_lnk (s : State) (k : Keeper) : (s.setKp k).lnk = s.lnk := rfl
@[simp] theorem State.setKp_rt (s : State) (k : Keeper) : (s.setKp k).rt = s.rt := rfl
@[simp] theorem State.setKp_sch (s : State) (k : Keeper) : (s.setKp k).sch = s.sch := rfl
@[simp] theorem State.setKp_dap (s : State) (k : Keeper) : (s.setKp k).dap = s.dap := rfl
@[simp] theorem State.setKp_recd (s : State) (k : Keeper) : (s.setKp k).recd = s.recd := rfl
@[simp] theorem State.setKp_neg (s : State) (k : Keeper) : (s.setKp k).neg = s.neg := rfl
@[simp] theorem State.setKp_mb (s : State) (k : Keeper) : (s.setKp k).mb = s.mb := rfl
@[simp] theorem State.setKp_ce (s : State) (k : Keeper) : (s.setKp k).ce = s.ce := rfl
@[simp] theorem State.setKp_pw (s : State) (k : Keeper) : (s.setKp k).pw = s.pw := rfl
@[simp] theorem State.setKp_rst (s : State) (k : Keeper) : (s.setKp k).rst = s.rst := rfl
@[simp] theorem State.setKp_flash (s : State) (k : Keeper) : (s.setKp k).flash = s.flash := rfl
@[simp] theorem State.setKp_jn (s : State) (k : Keeper) : (s.setKp k).jn = s.jn := rfl
@[simp] theorem State.setKp_stack (s : State) (k : Keeper) : (s.setKp k).stack = s.stack := rfl
@[simp] theorem State.setKp_out (s : State) (k : Keeper) : (s.setKp k).out = s.out := rfl
@[simp] theorem State.setKp_free (s : State) (k : Keeper) : (s.setKp k).free = s.free := rfl

/-! ### setRst -/

@[simp] theorem State.setRst_pending (s : State) (r : Resets) : (s.setRst r).pending = s.pending := rfl
@[simp] theorem State.setRst_parked (s : State) (r : Resets) : (s.setRst r).parked = s.parked := rfl
@[simp] theorem State.setRst_build (s : State) (r : Resets) : (s.setRst r).build = s.build := rfl
@[simp] theorem State.setRst_role (s : State) (r : Resets) : (s.setRst r).role = s.role := rfl
@[simp] theorem State.setRst_strapPins (s : State) (r : Resets) : (s.setRst r).strapPins = s.strapPins := rfl
@[simp] theorem State.setRst_regs (s : State) (r : Resets) : (s.setRst r).regs = s.regs := rfl
@[simp] theorem State.setRst_doms (s : State) (r : Resets) : (s.setRst r).doms = s.doms := rfl
@[simp] theorem State.setRst_cmdCodes (s : State) (r : Resets) : (s.setRst r).cmdCodes = s.cmdCodes := rfl
@[simp] theorem State.setRst_latchedRegs (s : State) (r : Resets) : (s.setRst r).latchedRegs = s.latchedRegs := rfl
@[simp] theorem State.setRst_latchedDoms (s : State) (r : Resets) : (s.setRst r).latchedDoms = s.latchedDoms := rfl
@[simp] theorem State.setRst_time (s : State) (r : Resets) : (s.setRst r).time = s.time := rfl
@[simp] theorem State.setRst_ptp (s : State) (r : Resets) : (s.setRst r).ptp = s.ptp := rfl
@[simp] theorem State.setRst_shutter (s : State) (r : Resets) : (s.setRst r).shutter = s.shutter := rfl
@[simp] theorem State.setRst_cnt (s : State) (r : Resets) : (s.setRst r).cnt = s.cnt := rfl
@[simp] theorem State.setRst_snap (s : State) (r : Resets) : (s.setRst r).snap = s.snap := rfl
@[simp] theorem State.setRst_fs (s : State) (r : Resets) : (s.setRst r).fs = s.fs := rfl
@[simp] theorem State.setRst_dev (s : State) (r : Resets) : (s.setRst r).dev = s.dev := rfl
@[simp] theorem State.setRst_red (s : State) (r : Resets) : (s.setRst r).red = s.red := rfl
@[simp] theorem State.setRst_ver (s : State) (r : Resets) : (s.setRst r).ver = s.ver := rfl
@[simp] theorem State.setRst_live (s : State) (r : Resets) : (s.setRst r).live = s.live := rfl
@[simp] theorem State.setRst_bar (s : State) (r : Resets) : (s.setRst r).bar = s.bar := rfl
@[simp] theorem State.setRst_ev (s : State) (r : Resets) : (s.setRst r).ev = s.ev := rfl
@[simp] theorem State.setRst_tr (s : State) (r : Resets) : (s.setRst r).tr = s.tr := rfl
@[simp] theorem State.setRst_prc (s : State) (r : Resets) : (s.setRst r).prc = s.prc := rfl
@[simp] theorem State.setRst_lnk (s : State) (r : Resets) : (s.setRst r).lnk = s.lnk := rfl
@[simp] theorem State.setRst_rt (s : State) (r : Resets) : (s.setRst r).rt = s.rt := rfl
@[simp] theorem State.setRst_sch (s : State) (r : Resets) : (s.setRst r).sch = s.sch := rfl
@[simp] theorem State.setRst_dap (s : State) (r : Resets) : (s.setRst r).dap = s.dap := rfl
@[simp] theorem State.setRst_recd (s : State) (r : Resets) : (s.setRst r).recd = s.recd := rfl
@[simp] theorem State.setRst_neg (s : State) (r : Resets) : (s.setRst r).neg = s.neg := rfl
@[simp] theorem State.setRst_mb (s : State) (r : Resets) : (s.setRst r).mb = s.mb := rfl
@[simp] theorem State.setRst_ce (s : State) (r : Resets) : (s.setRst r).ce = s.ce := rfl
@[simp] theorem State.setRst_pw (s : State) (r : Resets) : (s.setRst r).pw = s.pw := rfl
@[simp] theorem State.setRst_kp (s : State) (r : Resets) : (s.setRst r).kp = s.kp := rfl
@[simp] theorem State.setRst_flash (s : State) (r : Resets) : (s.setRst r).flash = s.flash := rfl
@[simp] theorem State.setRst_jn (s : State) (r : Resets) : (s.setRst r).jn = s.jn := rfl
@[simp] theorem State.setRst_stack (s : State) (r : Resets) : (s.setRst r).stack = s.stack := rfl
@[simp] theorem State.setRst_out (s : State) (r : Resets) : (s.setRst r).out = s.out := rfl
@[simp] theorem State.setRst_free (s : State) (r : Resets) : (s.setRst r).free = s.free := rfl

/-! ### setLane -/

@[simp] theorem State.setLane_pending (s : State) (p : Nat) (l : Lane) : (s.setLane p l).pending = s.pending := rfl
@[simp] theorem State.setLane_parked (s : State) (p : Nat) (l : Lane) : (s.setLane p l).parked = s.parked := rfl
@[simp] theorem State.setLane_build (s : State) (p : Nat) (l : Lane) : (s.setLane p l).build = s.build := rfl
@[simp] theorem State.setLane_role (s : State) (p : Nat) (l : Lane) : (s.setLane p l).role = s.role := rfl
@[simp] theorem State.setLane_strapPins (s : State) (p : Nat) (l : Lane) : (s.setLane p l).strapPins = s.strapPins := rfl
@[simp] theorem State.setLane_regs (s : State) (p : Nat) (l : Lane) : (s.setLane p l).regs = s.regs := rfl
@[simp] theorem State.setLane_doms (s : State) (p : Nat) (l : Lane) : (s.setLane p l).doms = s.doms := rfl
@[simp] theorem State.setLane_cmdCodes (s : State) (p : Nat) (l : Lane) : (s.setLane p l).cmdCodes = s.cmdCodes := rfl
@[simp] theorem State.setLane_latchedRegs (s : State) (p : Nat) (l : Lane) : (s.setLane p l).latchedRegs = s.latchedRegs := rfl
@[simp] theorem State.setLane_latchedDoms (s : State) (p : Nat) (l : Lane) : (s.setLane p l).latchedDoms = s.latchedDoms := rfl
@[simp] theorem State.setLane_time (s : State) (p : Nat) (l : Lane) : (s.setLane p l).time = s.time := rfl
@[simp] theorem State.setLane_ptp (s : State) (p : Nat) (l : Lane) : (s.setLane p l).ptp = s.ptp := rfl
@[simp] theorem State.setLane_shutter (s : State) (p : Nat) (l : Lane) : (s.setLane p l).shutter = s.shutter := rfl
@[simp] theorem State.setLane_cnt (s : State) (p : Nat) (l : Lane) : (s.setLane p l).cnt = s.cnt := rfl
@[simp] theorem State.setLane_snap (s : State) (p : Nat) (l : Lane) : (s.setLane p l).snap = s.snap := rfl
@[simp] theorem State.setLane_fs (s : State) (p : Nat) (l : Lane) : (s.setLane p l).fs = s.fs := rfl
@[simp] theorem State.setLane_dev (s : State) (p : Nat) (l : Lane) : (s.setLane p l).dev = s.dev := rfl
@[simp] theorem State.setLane_red (s : State) (p : Nat) (l : Lane) : (s.setLane p l).red = s.red := rfl
@[simp] theorem State.setLane_ver (s : State) (p : Nat) (l : Lane) : (s.setLane p l).ver = s.ver := rfl
@[simp] theorem State.setLane_live (s : State) (p : Nat) (l : Lane) : (s.setLane p l).live = s.live := rfl
@[simp] theorem State.setLane_bar (s : State) (p : Nat) (l : Lane) : (s.setLane p l).bar = s.bar := rfl
@[simp] theorem State.setLane_ev (s : State) (p : Nat) (l : Lane) : (s.setLane p l).ev = s.ev := rfl
@[simp] theorem State.setLane_tr (s : State) (p : Nat) (l : Lane) : (s.setLane p l).tr = s.tr := rfl
@[simp] theorem State.setLane_prc (s : State) (p : Nat) (l : Lane) : (s.setLane p l).prc = s.prc := rfl
@[simp] theorem State.setLane_rt (s : State) (p : Nat) (l : Lane) : (s.setLane p l).rt = s.rt := rfl
@[simp] theorem State.setLane_sch (s : State) (p : Nat) (l : Lane) : (s.setLane p l).sch = s.sch := rfl
@[simp] theorem State.setLane_dap (s : State) (p : Nat) (l : Lane) : (s.setLane p l).dap = s.dap := rfl
@[simp] theorem State.setLane_recd (s : State) (p : Nat) (l : Lane) : (s.setLane p l).recd = s.recd := rfl
@[simp] theorem State.setLane_neg (s : State) (p : Nat) (l : Lane) : (s.setLane p l).neg = s.neg := rfl
@[simp] theorem State.setLane_mb (s : State) (p : Nat) (l : Lane) : (s.setLane p l).mb = s.mb := rfl
@[simp] theorem State.setLane_ce (s : State) (p : Nat) (l : Lane) : (s.setLane p l).ce = s.ce := rfl
@[simp] theorem State.setLane_pw (s : State) (p : Nat) (l : Lane) : (s.setLane p l).pw = s.pw := rfl
@[simp] theorem State.setLane_rst (s : State) (p : Nat) (l : Lane) : (s.setLane p l).rst = s.rst := rfl
@[simp] theorem State.setLane_kp (s : State) (p : Nat) (l : Lane) : (s.setLane p l).kp = s.kp := rfl
@[simp] theorem State.setLane_flash (s : State) (p : Nat) (l : Lane) : (s.setLane p l).flash = s.flash := rfl
@[simp] theorem State.setLane_jn (s : State) (p : Nat) (l : Lane) : (s.setLane p l).jn = s.jn := rfl
@[simp] theorem State.setLane_stack (s : State) (p : Nat) (l : Lane) : (s.setLane p l).stack = s.stack := rfl
@[simp] theorem State.setLane_out (s : State) (p : Nat) (l : Lane) : (s.setLane p l).out = s.out := rfl
@[simp] theorem State.setLane_free (s : State) (p : Nat) (l : Lane) : (s.setLane p l).free = s.free := rfl

/-! ### setMb -/

@[simp] theorem State.setMb_pending (s : State) (m : Mailbox) : (s.setMb m).pending = s.pending := rfl
@[simp] theorem State.setMb_parked (s : State) (m : Mailbox) : (s.setMb m).parked = s.parked := rfl
@[simp] theorem State.setMb_build (s : State) (m : Mailbox) : (s.setMb m).build = s.build := rfl
@[simp] theorem State.setMb_role (s : State) (m : Mailbox) : (s.setMb m).role = s.role := rfl
@[simp] theorem State.setMb_strapPins (s : State) (m : Mailbox) : (s.setMb m).strapPins = s.strapPins := rfl
@[simp] theorem State.setMb_regs (s : State) (m : Mailbox) : (s.setMb m).regs = s.regs := rfl
@[simp] theorem State.setMb_doms (s : State) (m : Mailbox) : (s.setMb m).doms = s.doms := rfl
@[simp] theorem State.setMb_cmdCodes (s : State) (m : Mailbox) : (s.setMb m).cmdCodes = s.cmdCodes := rfl
@[simp] theorem State.setMb_latchedRegs (s : State) (m : Mailbox) : (s.setMb m).latchedRegs = s.latchedRegs := rfl
@[simp] theorem State.setMb_latchedDoms (s : State) (m : Mailbox) : (s.setMb m).latchedDoms = s.latchedDoms := rfl
@[simp] theorem State.setMb_time (s : State) (m : Mailbox) : (s.setMb m).time = s.time := rfl
@[simp] theorem State.setMb_ptp (s : State) (m : Mailbox) : (s.setMb m).ptp = s.ptp := rfl
@[simp] theorem State.setMb_shutter (s : State) (m : Mailbox) : (s.setMb m).shutter = s.shutter := rfl
@[simp] theorem State.setMb_cnt (s : State) (m : Mailbox) : (s.setMb m).cnt = s.cnt := rfl
@[simp] theorem State.setMb_snap (s : State) (m : Mailbox) : (s.setMb m).snap = s.snap := rfl
@[simp] theorem State.setMb_fs (s : State) (m : Mailbox) : (s.setMb m).fs = s.fs := rfl
@[simp] theorem State.setMb_dev (s : State) (m : Mailbox) : (s.setMb m).dev = s.dev := rfl
@[simp] theorem State.setMb_red (s : State) (m : Mailbox) : (s.setMb m).red = s.red := rfl
@[simp] theorem State.setMb_ver (s : State) (m : Mailbox) : (s.setMb m).ver = s.ver := rfl
@[simp] theorem State.setMb_live (s : State) (m : Mailbox) : (s.setMb m).live = s.live := rfl
@[simp] theorem State.setMb_bar (s : State) (m : Mailbox) : (s.setMb m).bar = s.bar := rfl
@[simp] theorem State.setMb_ev (s : State) (m : Mailbox) : (s.setMb m).ev = s.ev := rfl
@[simp] theorem State.setMb_tr (s : State) (m : Mailbox) : (s.setMb m).tr = s.tr := rfl
@[simp] theorem State.setMb_prc (s : State) (m : Mailbox) : (s.setMb m).prc = s.prc := rfl
@[simp] theorem State.setMb_lnk (s : State) (m : Mailbox) : (s.setMb m).lnk = s.lnk := rfl
@[simp] theorem State.setMb_rt (s : State) (m : Mailbox) : (s.setMb m).rt = s.rt := rfl
@[simp] theorem State.setMb_sch (s : State) (m : Mailbox) : (s.setMb m).sch = s.sch := rfl
@[simp] theorem State.setMb_dap (s : State) (m : Mailbox) : (s.setMb m).dap = s.dap := rfl
@[simp] theorem State.setMb_recd (s : State) (m : Mailbox) : (s.setMb m).recd = s.recd := rfl
@[simp] theorem State.setMb_neg (s : State) (m : Mailbox) : (s.setMb m).neg = s.neg := rfl
@[simp] theorem State.setMb_ce (s : State) (m : Mailbox) : (s.setMb m).ce = s.ce := rfl
@[simp] theorem State.setMb_pw (s : State) (m : Mailbox) : (s.setMb m).pw = s.pw := rfl
@[simp] theorem State.setMb_rst (s : State) (m : Mailbox) : (s.setMb m).rst = s.rst := rfl
@[simp] theorem State.setMb_kp (s : State) (m : Mailbox) : (s.setMb m).kp = s.kp := rfl
@[simp] theorem State.setMb_flash (s : State) (m : Mailbox) : (s.setMb m).flash = s.flash := rfl
@[simp] theorem State.setMb_jn (s : State) (m : Mailbox) : (s.setMb m).jn = s.jn := rfl
@[simp] theorem State.setMb_stack (s : State) (m : Mailbox) : (s.setMb m).stack = s.stack := rfl
@[simp] theorem State.setMb_out (s : State) (m : Mailbox) : (s.setMb m).out = s.out := rfl
@[simp] theorem State.setMb_free (s : State) (m : Mailbox) : (s.setMb m).free = s.free := rfl

/-! ### setBell -/

@[simp] theorem State.setBell_pending (s : State) (k : Nat) (b : Bell) : (s.setBell k b).pending = s.pending := rfl
@[simp] theorem State.setBell_parked (s : State) (k : Nat) (b : Bell) : (s.setBell k b).parked = s.parked := rfl
@[simp] theorem State.setBell_build (s : State) (k : Nat) (b : Bell) : (s.setBell k b).build = s.build := rfl
@[simp] theorem State.setBell_role (s : State) (k : Nat) (b : Bell) : (s.setBell k b).role = s.role := rfl
@[simp] theorem State.setBell_strapPins (s : State) (k : Nat) (b : Bell) : (s.setBell k b).strapPins = s.strapPins := rfl
@[simp] theorem State.setBell_regs (s : State) (k : Nat) (b : Bell) : (s.setBell k b).regs = s.regs := rfl
@[simp] theorem State.setBell_doms (s : State) (k : Nat) (b : Bell) : (s.setBell k b).doms = s.doms := rfl
@[simp] theorem State.setBell_cmdCodes (s : State) (k : Nat) (b : Bell) : (s.setBell k b).cmdCodes = s.cmdCodes := rfl
@[simp] theorem State.setBell_latchedRegs (s : State) (k : Nat) (b : Bell) : (s.setBell k b).latchedRegs = s.latchedRegs := rfl
@[simp] theorem State.setBell_latchedDoms (s : State) (k : Nat) (b : Bell) : (s.setBell k b).latchedDoms = s.latchedDoms := rfl
@[simp] theorem State.setBell_time (s : State) (k : Nat) (b : Bell) : (s.setBell k b).time = s.time := rfl
@[simp] theorem State.setBell_ptp (s : State) (k : Nat) (b : Bell) : (s.setBell k b).ptp = s.ptp := rfl
@[simp] theorem State.setBell_shutter (s : State) (k : Nat) (b : Bell) : (s.setBell k b).shutter = s.shutter := rfl
@[simp] theorem State.setBell_cnt (s : State) (k : Nat) (b : Bell) : (s.setBell k b).cnt = s.cnt := rfl
@[simp] theorem State.setBell_snap (s : State) (k : Nat) (b : Bell) : (s.setBell k b).snap = s.snap := rfl
@[simp] theorem State.setBell_fs (s : State) (k : Nat) (b : Bell) : (s.setBell k b).fs = s.fs := rfl
@[simp] theorem State.setBell_dev (s : State) (k : Nat) (b : Bell) : (s.setBell k b).dev = s.dev := rfl
@[simp] theorem State.setBell_red (s : State) (k : Nat) (b : Bell) : (s.setBell k b).red = s.red := rfl
@[simp] theorem State.setBell_ver (s : State) (k : Nat) (b : Bell) : (s.setBell k b).ver = s.ver := rfl
@[simp] theorem State.setBell_live (s : State) (k : Nat) (b : Bell) : (s.setBell k b).live = s.live := rfl
@[simp] theorem State.setBell_bar (s : State) (k : Nat) (b : Bell) : (s.setBell k b).bar = s.bar := rfl
@[simp] theorem State.setBell_ev (s : State) (k : Nat) (b : Bell) : (s.setBell k b).ev = s.ev := rfl
@[simp] theorem State.setBell_tr (s : State) (k : Nat) (b : Bell) : (s.setBell k b).tr = s.tr := rfl
@[simp] theorem State.setBell_prc (s : State) (k : Nat) (b : Bell) : (s.setBell k b).prc = s.prc := rfl
@[simp] theorem State.setBell_lnk (s : State) (k : Nat) (b : Bell) : (s.setBell k b).lnk = s.lnk := rfl
@[simp] theorem State.setBell_rt (s : State) (k : Nat) (b : Bell) : (s.setBell k b).rt = s.rt := rfl
@[simp] theorem State.setBell_sch (s : State) (k : Nat) (b : Bell) : (s.setBell k b).sch = s.sch := rfl
@[simp] theorem State.setBell_dap (s : State) (k : Nat) (b : Bell) : (s.setBell k b).dap = s.dap := rfl
@[simp] theorem State.setBell_recd (s : State) (k : Nat) (b : Bell) : (s.setBell k b).recd = s.recd := rfl
@[simp] theorem State.setBell_neg (s : State) (k : Nat) (b : Bell) : (s.setBell k b).neg = s.neg := rfl
@[simp] theorem State.setBell_ce (s : State) (k : Nat) (b : Bell) : (s.setBell k b).ce = s.ce := rfl
@[simp] theorem State.setBell_pw (s : State) (k : Nat) (b : Bell) : (s.setBell k b).pw = s.pw := rfl
@[simp] theorem State.setBell_rst (s : State) (k : Nat) (b : Bell) : (s.setBell k b).rst = s.rst := rfl
@[simp] theorem State.setBell_kp (s : State) (k : Nat) (b : Bell) : (s.setBell k b).kp = s.kp := rfl
@[simp] theorem State.setBell_flash (s : State) (k : Nat) (b : Bell) : (s.setBell k b).flash = s.flash := rfl
@[simp] theorem State.setBell_jn (s : State) (k : Nat) (b : Bell) : (s.setBell k b).jn = s.jn := rfl
@[simp] theorem State.setBell_stack (s : State) (k : Nat) (b : Bell) : (s.setBell k b).stack = s.stack := rfl
@[simp] theorem State.setBell_out (s : State) (k : Nat) (b : Bell) : (s.setBell k b).out = s.out := rfl
@[simp] theorem State.setBell_free (s : State) (k : Nat) (b : Bell) : (s.setBell k b).free = s.free := rfl

/-! ### setNeg -/

@[simp] theorem State.setNeg_pending (s : State) (n : Negative) : (s.setNeg n).pending = s.pending := rfl
@[simp] theorem State.setNeg_parked (s : State) (n : Negative) : (s.setNeg n).parked = s.parked := rfl
@[simp] theorem State.setNeg_build (s : State) (n : Negative) : (s.setNeg n).build = s.build := rfl
@[simp] theorem State.setNeg_role (s : State) (n : Negative) : (s.setNeg n).role = s.role := rfl
@[simp] theorem State.setNeg_strapPins (s : State) (n : Negative) : (s.setNeg n).strapPins = s.strapPins := rfl
@[simp] theorem State.setNeg_regs (s : State) (n : Negative) : (s.setNeg n).regs = s.regs := rfl
@[simp] theorem State.setNeg_doms (s : State) (n : Negative) : (s.setNeg n).doms = s.doms := rfl
@[simp] theorem State.setNeg_cmdCodes (s : State) (n : Negative) : (s.setNeg n).cmdCodes = s.cmdCodes := rfl
@[simp] theorem State.setNeg_latchedRegs (s : State) (n : Negative) : (s.setNeg n).latchedRegs = s.latchedRegs := rfl
@[simp] theorem State.setNeg_latchedDoms (s : State) (n : Negative) : (s.setNeg n).latchedDoms = s.latchedDoms := rfl
@[simp] theorem State.setNeg_time (s : State) (n : Negative) : (s.setNeg n).time = s.time := rfl
@[simp] theorem State.setNeg_ptp (s : State) (n : Negative) : (s.setNeg n).ptp = s.ptp := rfl
@[simp] theorem State.setNeg_shutter (s : State) (n : Negative) : (s.setNeg n).shutter = s.shutter := rfl
@[simp] theorem State.setNeg_cnt (s : State) (n : Negative) : (s.setNeg n).cnt = s.cnt := rfl
@[simp] theorem State.setNeg_snap (s : State) (n : Negative) : (s.setNeg n).snap = s.snap := rfl
@[simp] theorem State.setNeg_fs (s : State) (n : Negative) : (s.setNeg n).fs = s.fs := rfl
@[simp] theorem State.setNeg_dev (s : State) (n : Negative) : (s.setNeg n).dev = s.dev := rfl
@[simp] theorem State.setNeg_red (s : State) (n : Negative) : (s.setNeg n).red = s.red := rfl
@[simp] theorem State.setNeg_ver (s : State) (n : Negative) : (s.setNeg n).ver = s.ver := rfl
@[simp] theorem State.setNeg_live (s : State) (n : Negative) : (s.setNeg n).live = s.live := rfl
@[simp] theorem State.setNeg_bar (s : State) (n : Negative) : (s.setNeg n).bar = s.bar := rfl
@[simp] theorem State.setNeg_ev (s : State) (n : Negative) : (s.setNeg n).ev = s.ev := rfl
@[simp] theorem State.setNeg_tr (s : State) (n : Negative) : (s.setNeg n).tr = s.tr := rfl
@[simp] theorem State.setNeg_prc (s : State) (n : Negative) : (s.setNeg n).prc = s.prc := rfl
@[simp] theorem State.setNeg_lnk (s : State) (n : Negative) : (s.setNeg n).lnk = s.lnk := rfl
@[simp] theorem State.setNeg_rt (s : State) (n : Negative) : (s.setNeg n).rt = s.rt := rfl
@[simp] theorem State.setNeg_sch (s : State) (n : Negative) : (s.setNeg n).sch = s.sch := rfl
@[simp] theorem State.setNeg_dap (s : State) (n : Negative) : (s.setNeg n).dap = s.dap := rfl
@[simp] theorem State.setNeg_recd (s : State) (n : Negative) : (s.setNeg n).recd = s.recd := rfl
@[simp] theorem State.setNeg_mb (s : State) (n : Negative) : (s.setNeg n).mb = s.mb := rfl
@[simp] theorem State.setNeg_ce (s : State) (n : Negative) : (s.setNeg n).ce = s.ce := rfl
@[simp] theorem State.setNeg_pw (s : State) (n : Negative) : (s.setNeg n).pw = s.pw := rfl
@[simp] theorem State.setNeg_rst (s : State) (n : Negative) : (s.setNeg n).rst = s.rst := rfl
@[simp] theorem State.setNeg_kp (s : State) (n : Negative) : (s.setNeg n).kp = s.kp := rfl
@[simp] theorem State.setNeg_flash (s : State) (n : Negative) : (s.setNeg n).flash = s.flash := rfl
@[simp] theorem State.setNeg_jn (s : State) (n : Negative) : (s.setNeg n).jn = s.jn := rfl
@[simp] theorem State.setNeg_stack (s : State) (n : Negative) : (s.setNeg n).stack = s.stack := rfl
@[simp] theorem State.setNeg_out (s : State) (n : Negative) : (s.setNeg n).out = s.out := rfl
@[simp] theorem State.setNeg_free (s : State) (n : Negative) : (s.setNeg n).free = s.free := rfl

/-! ### setPw -/

@[simp] theorem State.setPw_pending (s : State) (p : Power) : (s.setPw p).pending = s.pending := rfl
@[simp] theorem State.setPw_parked (s : State) (p : Power) : (s.setPw p).parked = s.parked := rfl
@[simp] theorem State.setPw_build (s : State) (p : Power) : (s.setPw p).build = s.build := rfl
@[simp] theorem State.setPw_role (s : State) (p : Power) : (s.setPw p).role = s.role := rfl
@[simp] theorem State.setPw_strapPins (s : State) (p : Power) : (s.setPw p).strapPins = s.strapPins := rfl
@[simp] theorem State.setPw_regs (s : State) (p : Power) : (s.setPw p).regs = s.regs := rfl
@[simp] theorem State.setPw_doms (s : State) (p : Power) : (s.setPw p).doms = s.doms := rfl
@[simp] theorem State.setPw_cmdCodes (s : State) (p : Power) : (s.setPw p).cmdCodes = s.cmdCodes := rfl
@[simp] theorem State.setPw_latchedRegs (s : State) (p : Power) : (s.setPw p).latchedRegs = s.latchedRegs := rfl
@[simp] theorem State.setPw_latchedDoms (s : State) (p : Power) : (s.setPw p).latchedDoms = s.latchedDoms := rfl
@[simp] theorem State.setPw_time (s : State) (p : Power) : (s.setPw p).time = s.time := rfl
@[simp] theorem State.setPw_ptp (s : State) (p : Power) : (s.setPw p).ptp = s.ptp := rfl
@[simp] theorem State.setPw_shutter (s : State) (p : Power) : (s.setPw p).shutter = s.shutter := rfl
@[simp] theorem State.setPw_cnt (s : State) (p : Power) : (s.setPw p).cnt = s.cnt := rfl
@[simp] theorem State.setPw_snap (s : State) (p : Power) : (s.setPw p).snap = s.snap := rfl
@[simp] theorem State.setPw_fs (s : State) (p : Power) : (s.setPw p).fs = s.fs := rfl
@[simp] theorem State.setPw_dev (s : State) (p : Power) : (s.setPw p).dev = s.dev := rfl
@[simp] theorem State.setPw_red (s : State) (p : Power) : (s.setPw p).red = s.red := rfl
@[simp] theorem State.setPw_ver (s : State) (p : Power) : (s.setPw p).ver = s.ver := rfl
@[simp] theorem State.setPw_live (s : State) (p : Power) : (s.setPw p).live = s.live := rfl
@[simp] theorem State.setPw_bar (s : State) (p : Power) : (s.setPw p).bar = s.bar := rfl
@[simp] theorem State.setPw_ev (s : State) (p : Power) : (s.setPw p).ev = s.ev := rfl
@[simp] theorem State.setPw_tr (s : State) (p : Power) : (s.setPw p).tr = s.tr := rfl
@[simp] theorem State.setPw_prc (s : State) (p : Power) : (s.setPw p).prc = s.prc := rfl
@[simp] theorem State.setPw_lnk (s : State) (p : Power) : (s.setPw p).lnk = s.lnk := rfl
@[simp] theorem State.setPw_rt (s : State) (p : Power) : (s.setPw p).rt = s.rt := rfl
@[simp] theorem State.setPw_sch (s : State) (p : Power) : (s.setPw p).sch = s.sch := rfl
@[simp] theorem State.setPw_dap (s : State) (p : Power) : (s.setPw p).dap = s.dap := rfl
@[simp] theorem State.setPw_recd (s : State) (p : Power) : (s.setPw p).recd = s.recd := rfl
@[simp] theorem State.setPw_neg (s : State) (p : Power) : (s.setPw p).neg = s.neg := rfl
@[simp] theorem State.setPw_mb (s : State) (p : Power) : (s.setPw p).mb = s.mb := rfl
@[simp] theorem State.setPw_ce (s : State) (p : Power) : (s.setPw p).ce = s.ce := rfl
@[simp] theorem State.setPw_rst (s : State) (p : Power) : (s.setPw p).rst = s.rst := rfl
@[simp] theorem State.setPw_kp (s : State) (p : Power) : (s.setPw p).kp = s.kp := rfl
@[simp] theorem State.setPw_flash (s : State) (p : Power) : (s.setPw p).flash = s.flash := rfl
@[simp] theorem State.setPw_jn (s : State) (p : Power) : (s.setPw p).jn = s.jn := rfl
@[simp] theorem State.setPw_stack (s : State) (p : Power) : (s.setPw p).stack = s.stack := rfl
@[simp] theorem State.setPw_out (s : State) (p : Power) : (s.setPw p).out = s.out := rfl
@[simp] theorem State.setPw_free (s : State) (p : Power) : (s.setPw p).free = s.free := rfl

/-! ### setRed -/

@[simp] theorem State.setRed_pending (s : State) (r : Reduction) : (s.setRed r).pending = s.pending := rfl
@[simp] theorem State.setRed_parked (s : State) (r : Reduction) : (s.setRed r).parked = s.parked := rfl
@[simp] theorem State.setRed_build (s : State) (r : Reduction) : (s.setRed r).build = s.build := rfl
@[simp] theorem State.setRed_role (s : State) (r : Reduction) : (s.setRed r).role = s.role := rfl
@[simp] theorem State.setRed_strapPins (s : State) (r : Reduction) : (s.setRed r).strapPins = s.strapPins := rfl
@[simp] theorem State.setRed_regs (s : State) (r : Reduction) : (s.setRed r).regs = s.regs := rfl
@[simp] theorem State.setRed_doms (s : State) (r : Reduction) : (s.setRed r).doms = s.doms := rfl
@[simp] theorem State.setRed_cmdCodes (s : State) (r : Reduction) : (s.setRed r).cmdCodes = s.cmdCodes := rfl
@[simp] theorem State.setRed_latchedRegs (s : State) (r : Reduction) : (s.setRed r).latchedRegs = s.latchedRegs := rfl
@[simp] theorem State.setRed_latchedDoms (s : State) (r : Reduction) : (s.setRed r).latchedDoms = s.latchedDoms := rfl
@[simp] theorem State.setRed_time (s : State) (r : Reduction) : (s.setRed r).time = s.time := rfl
@[simp] theorem State.setRed_ptp (s : State) (r : Reduction) : (s.setRed r).ptp = s.ptp := rfl
@[simp] theorem State.setRed_shutter (s : State) (r : Reduction) : (s.setRed r).shutter = s.shutter := rfl
@[simp] theorem State.setRed_cnt (s : State) (r : Reduction) : (s.setRed r).cnt = s.cnt := rfl
@[simp] theorem State.setRed_snap (s : State) (r : Reduction) : (s.setRed r).snap = s.snap := rfl
@[simp] theorem State.setRed_fs (s : State) (r : Reduction) : (s.setRed r).fs = s.fs := rfl
@[simp] theorem State.setRed_dev (s : State) (r : Reduction) : (s.setRed r).dev = s.dev := rfl
@[simp] theorem State.setRed_ver (s : State) (r : Reduction) : (s.setRed r).ver = s.ver := rfl
@[simp] theorem State.setRed_live (s : State) (r : Reduction) : (s.setRed r).live = s.live := rfl
@[simp] theorem State.setRed_bar (s : State) (r : Reduction) : (s.setRed r).bar = s.bar := rfl
@[simp] theorem State.setRed_ev (s : State) (r : Reduction) : (s.setRed r).ev = s.ev := rfl
@[simp] theorem State.setRed_tr (s : State) (r : Reduction) : (s.setRed r).tr = s.tr := rfl
@[simp] theorem State.setRed_prc (s : State) (r : Reduction) : (s.setRed r).prc = s.prc := rfl
@[simp] theorem State.setRed_lnk (s : State) (r : Reduction) : (s.setRed r).lnk = s.lnk := rfl
@[simp] theorem State.setRed_rt (s : State) (r : Reduction) : (s.setRed r).rt = s.rt := rfl
@[simp] theorem State.setRed_sch (s : State) (r : Reduction) : (s.setRed r).sch = s.sch := rfl
@[simp] theorem State.setRed_dap (s : State) (r : Reduction) : (s.setRed r).dap = s.dap := rfl
@[simp] theorem State.setRed_recd (s : State) (r : Reduction) : (s.setRed r).recd = s.recd := rfl
@[simp] theorem State.setRed_neg (s : State) (r : Reduction) : (s.setRed r).neg = s.neg := rfl
@[simp] theorem State.setRed_mb (s : State) (r : Reduction) : (s.setRed r).mb = s.mb := rfl
@[simp] theorem State.setRed_ce (s : State) (r : Reduction) : (s.setRed r).ce = s.ce := rfl
@[simp] theorem State.setRed_pw (s : State) (r : Reduction) : (s.setRed r).pw = s.pw := rfl
@[simp] theorem State.setRed_rst (s : State) (r : Reduction) : (s.setRed r).rst = s.rst := rfl
@[simp] theorem State.setRed_kp (s : State) (r : Reduction) : (s.setRed r).kp = s.kp := rfl
@[simp] theorem State.setRed_flash (s : State) (r : Reduction) : (s.setRed r).flash = s.flash := rfl
@[simp] theorem State.setRed_jn (s : State) (r : Reduction) : (s.setRed r).jn = s.jn := rfl
@[simp] theorem State.setRed_stack (s : State) (r : Reduction) : (s.setRed r).stack = s.stack := rfl
@[simp] theorem State.setRed_out (s : State) (r : Reduction) : (s.setRed r).out = s.out := rfl
@[simp] theorem State.setRed_free (s : State) (r : Reduction) : (s.setRed r).free = s.free := rfl

/-! ### setPtp -/

@[simp] theorem State.setPtp_pending (s : State) (p : Nat) (l : PtpLane) : (s.setPtp p l).pending = s.pending := rfl
@[simp] theorem State.setPtp_parked (s : State) (p : Nat) (l : PtpLane) : (s.setPtp p l).parked = s.parked := rfl
@[simp] theorem State.setPtp_build (s : State) (p : Nat) (l : PtpLane) : (s.setPtp p l).build = s.build := rfl
@[simp] theorem State.setPtp_role (s : State) (p : Nat) (l : PtpLane) : (s.setPtp p l).role = s.role := rfl
@[simp] theorem State.setPtp_strapPins (s : State) (p : Nat) (l : PtpLane) : (s.setPtp p l).strapPins = s.strapPins := rfl
@[simp] theorem State.setPtp_regs (s : State) (p : Nat) (l : PtpLane) : (s.setPtp p l).regs = s.regs := rfl
@[simp] theorem State.setPtp_doms (s : State) (p : Nat) (l : PtpLane) : (s.setPtp p l).doms = s.doms := rfl
@[simp] theorem State.setPtp_cmdCodes (s : State) (p : Nat) (l : PtpLane) : (s.setPtp p l).cmdCodes = s.cmdCodes := rfl
@[simp] theorem State.setPtp_latchedRegs (s : State) (p : Nat) (l : PtpLane) : (s.setPtp p l).latchedRegs = s.latchedRegs := rfl
@[simp] theorem State.setPtp_latchedDoms (s : State) (p : Nat) (l : PtpLane) : (s.setPtp p l).latchedDoms = s.latchedDoms := rfl
@[simp] theorem State.setPtp_time (s : State) (p : Nat) (l : PtpLane) : (s.setPtp p l).time = s.time := rfl
@[simp] theorem State.setPtp_shutter (s : State) (p : Nat) (l : PtpLane) : (s.setPtp p l).shutter = s.shutter := rfl
@[simp] theorem State.setPtp_cnt (s : State) (p : Nat) (l : PtpLane) : (s.setPtp p l).cnt = s.cnt := rfl
@[simp] theorem State.setPtp_snap (s : State) (p : Nat) (l : PtpLane) : (s.setPtp p l).snap = s.snap := rfl
@[simp] theorem State.setPtp_fs (s : State) (p : Nat) (l : PtpLane) : (s.setPtp p l).fs = s.fs := rfl
@[simp] theorem State.setPtp_dev (s : State) (p : Nat) (l : PtpLane) : (s.setPtp p l).dev = s.dev := rfl
@[simp] theorem State.setPtp_red (s : State) (p : Nat) (l : PtpLane) : (s.setPtp p l).red = s.red := rfl
@[simp] theorem State.setPtp_ver (s : State) (p : Nat) (l : PtpLane) : (s.setPtp p l).ver = s.ver := rfl
@[simp] theorem State.setPtp_live (s : State) (p : Nat) (l : PtpLane) : (s.setPtp p l).live = s.live := rfl
@[simp] theorem State.setPtp_bar (s : State) (p : Nat) (l : PtpLane) : (s.setPtp p l).bar = s.bar := rfl
@[simp] theorem State.setPtp_ev (s : State) (p : Nat) (l : PtpLane) : (s.setPtp p l).ev = s.ev := rfl
@[simp] theorem State.setPtp_tr (s : State) (p : Nat) (l : PtpLane) : (s.setPtp p l).tr = s.tr := rfl
@[simp] theorem State.setPtp_prc (s : State) (p : Nat) (l : PtpLane) : (s.setPtp p l).prc = s.prc := rfl
@[simp] theorem State.setPtp_lnk (s : State) (p : Nat) (l : PtpLane) : (s.setPtp p l).lnk = s.lnk := rfl
@[simp] theorem State.setPtp_rt (s : State) (p : Nat) (l : PtpLane) : (s.setPtp p l).rt = s.rt := rfl
@[simp] theorem State.setPtp_sch (s : State) (p : Nat) (l : PtpLane) : (s.setPtp p l).sch = s.sch := rfl
@[simp] theorem State.setPtp_dap (s : State) (p : Nat) (l : PtpLane) : (s.setPtp p l).dap = s.dap := rfl
@[simp] theorem State.setPtp_recd (s : State) (p : Nat) (l : PtpLane) : (s.setPtp p l).recd = s.recd := rfl
@[simp] theorem State.setPtp_neg (s : State) (p : Nat) (l : PtpLane) : (s.setPtp p l).neg = s.neg := rfl
@[simp] theorem State.setPtp_mb (s : State) (p : Nat) (l : PtpLane) : (s.setPtp p l).mb = s.mb := rfl
@[simp] theorem State.setPtp_ce (s : State) (p : Nat) (l : PtpLane) : (s.setPtp p l).ce = s.ce := rfl
@[simp] theorem State.setPtp_pw (s : State) (p : Nat) (l : PtpLane) : (s.setPtp p l).pw = s.pw := rfl
@[simp] theorem State.setPtp_rst (s : State) (p : Nat) (l : PtpLane) : (s.setPtp p l).rst = s.rst := rfl
@[simp] theorem State.setPtp_kp (s : State) (p : Nat) (l : PtpLane) : (s.setPtp p l).kp = s.kp := rfl
@[simp] theorem State.setPtp_flash (s : State) (p : Nat) (l : PtpLane) : (s.setPtp p l).flash = s.flash := rfl
@[simp] theorem State.setPtp_jn (s : State) (p : Nat) (l : PtpLane) : (s.setPtp p l).jn = s.jn := rfl
@[simp] theorem State.setPtp_stack (s : State) (p : Nat) (l : PtpLane) : (s.setPtp p l).stack = s.stack := rfl
@[simp] theorem State.setPtp_out (s : State) (p : Nat) (l : PtpLane) : (s.setPtp p l).out = s.out := rfl
@[simp] theorem State.setPtp_free (s : State) (p : Nat) (l : PtpLane) : (s.setPtp p l).free = s.free := rfl

/-! ### setTrc -/

@[simp] theorem State.setTrc_pending (s : State) (n : Nat) (t : TraceSource) : (s.setTrc n t).pending = s.pending := rfl
@[simp] theorem State.setTrc_parked (s : State) (n : Nat) (t : TraceSource) : (s.setTrc n t).parked = s.parked := rfl
@[simp] theorem State.setTrc_build (s : State) (n : Nat) (t : TraceSource) : (s.setTrc n t).build = s.build := rfl
@[simp] theorem State.setTrc_role (s : State) (n : Nat) (t : TraceSource) : (s.setTrc n t).role = s.role := rfl
@[simp] theorem State.setTrc_strapPins (s : State) (n : Nat) (t : TraceSource) : (s.setTrc n t).strapPins = s.strapPins := rfl
@[simp] theorem State.setTrc_regs (s : State) (n : Nat) (t : TraceSource) : (s.setTrc n t).regs = s.regs := rfl
@[simp] theorem State.setTrc_doms (s : State) (n : Nat) (t : TraceSource) : (s.setTrc n t).doms = s.doms := rfl
@[simp] theorem State.setTrc_cmdCodes (s : State) (n : Nat) (t : TraceSource) : (s.setTrc n t).cmdCodes = s.cmdCodes := rfl
@[simp] theorem State.setTrc_latchedRegs (s : State) (n : Nat) (t : TraceSource) : (s.setTrc n t).latchedRegs = s.latchedRegs := rfl
@[simp] theorem State.setTrc_latchedDoms (s : State) (n : Nat) (t : TraceSource) : (s.setTrc n t).latchedDoms = s.latchedDoms := rfl
@[simp] theorem State.setTrc_time (s : State) (n : Nat) (t : TraceSource) : (s.setTrc n t).time = s.time := rfl
@[simp] theorem State.setTrc_ptp (s : State) (n : Nat) (t : TraceSource) : (s.setTrc n t).ptp = s.ptp := rfl
@[simp] theorem State.setTrc_shutter (s : State) (n : Nat) (t : TraceSource) : (s.setTrc n t).shutter = s.shutter := rfl
@[simp] theorem State.setTrc_cnt (s : State) (n : Nat) (t : TraceSource) : (s.setTrc n t).cnt = s.cnt := rfl
@[simp] theorem State.setTrc_snap (s : State) (n : Nat) (t : TraceSource) : (s.setTrc n t).snap = s.snap := rfl
@[simp] theorem State.setTrc_fs (s : State) (n : Nat) (t : TraceSource) : (s.setTrc n t).fs = s.fs := rfl
@[simp] theorem State.setTrc_dev (s : State) (n : Nat) (t : TraceSource) : (s.setTrc n t).dev = s.dev := rfl
@[simp] theorem State.setTrc_red (s : State) (n : Nat) (t : TraceSource) : (s.setTrc n t).red = s.red := rfl
@[simp] theorem State.setTrc_ver (s : State) (n : Nat) (t : TraceSource) : (s.setTrc n t).ver = s.ver := rfl
@[simp] theorem State.setTrc_live (s : State) (n : Nat) (t : TraceSource) : (s.setTrc n t).live = s.live := rfl
@[simp] theorem State.setTrc_bar (s : State) (n : Nat) (t : TraceSource) : (s.setTrc n t).bar = s.bar := rfl
@[simp] theorem State.setTrc_ev (s : State) (n : Nat) (t : TraceSource) : (s.setTrc n t).ev = s.ev := rfl
@[simp] theorem State.setTrc_prc (s : State) (n : Nat) (t : TraceSource) : (s.setTrc n t).prc = s.prc := rfl
@[simp] theorem State.setTrc_lnk (s : State) (n : Nat) (t : TraceSource) : (s.setTrc n t).lnk = s.lnk := rfl
@[simp] theorem State.setTrc_rt (s : State) (n : Nat) (t : TraceSource) : (s.setTrc n t).rt = s.rt := rfl
@[simp] theorem State.setTrc_sch (s : State) (n : Nat) (t : TraceSource) : (s.setTrc n t).sch = s.sch := rfl
@[simp] theorem State.setTrc_dap (s : State) (n : Nat) (t : TraceSource) : (s.setTrc n t).dap = s.dap := rfl
@[simp] theorem State.setTrc_recd (s : State) (n : Nat) (t : TraceSource) : (s.setTrc n t).recd = s.recd := rfl
@[simp] theorem State.setTrc_neg (s : State) (n : Nat) (t : TraceSource) : (s.setTrc n t).neg = s.neg := rfl
@[simp] theorem State.setTrc_mb (s : State) (n : Nat) (t : TraceSource) : (s.setTrc n t).mb = s.mb := rfl
@[simp] theorem State.setTrc_ce (s : State) (n : Nat) (t : TraceSource) : (s.setTrc n t).ce = s.ce := rfl
@[simp] theorem State.setTrc_pw (s : State) (n : Nat) (t : TraceSource) : (s.setTrc n t).pw = s.pw := rfl
@[simp] theorem State.setTrc_rst (s : State) (n : Nat) (t : TraceSource) : (s.setTrc n t).rst = s.rst := rfl
@[simp] theorem State.setTrc_kp (s : State) (n : Nat) (t : TraceSource) : (s.setTrc n t).kp = s.kp := rfl
@[simp] theorem State.setTrc_flash (s : State) (n : Nat) (t : TraceSource) : (s.setTrc n t).flash = s.flash := rfl
@[simp] theorem State.setTrc_jn (s : State) (n : Nat) (t : TraceSource) : (s.setTrc n t).jn = s.jn := rfl
@[simp] theorem State.setTrc_stack (s : State) (n : Nat) (t : TraceSource) : (s.setTrc n t).stack = s.stack := rfl
@[simp] theorem State.setTrc_out (s : State) (n : Nat) (t : TraceSource) : (s.setTrc n t).out = s.out := rfl
@[simp] theorem State.setTrc_free (s : State) (n : Nat) (t : TraceSource) : (s.setTrc n t).free = s.free := rfl

/-! ### setVer -/

@[simp] theorem State.setVer_pending (s : State) (v : VerdictStage) : (s.setVer v).pending = s.pending := rfl
@[simp] theorem State.setVer_parked (s : State) (v : VerdictStage) : (s.setVer v).parked = s.parked := rfl
@[simp] theorem State.setVer_build (s : State) (v : VerdictStage) : (s.setVer v).build = s.build := rfl
@[simp] theorem State.setVer_role (s : State) (v : VerdictStage) : (s.setVer v).role = s.role := rfl
@[simp] theorem State.setVer_strapPins (s : State) (v : VerdictStage) : (s.setVer v).strapPins = s.strapPins := rfl
@[simp] theorem State.setVer_regs (s : State) (v : VerdictStage) : (s.setVer v).regs = s.regs := rfl
@[simp] theorem State.setVer_doms (s : State) (v : VerdictStage) : (s.setVer v).doms = s.doms := rfl
@[simp] theorem State.setVer_cmdCodes (s : State) (v : VerdictStage) : (s.setVer v).cmdCodes = s.cmdCodes := rfl
@[simp] theorem State.setVer_latchedRegs (s : State) (v : VerdictStage) : (s.setVer v).latchedRegs = s.latchedRegs := rfl
@[simp] theorem State.setVer_latchedDoms (s : State) (v : VerdictStage) : (s.setVer v).latchedDoms = s.latchedDoms := rfl
@[simp] theorem State.setVer_time (s : State) (v : VerdictStage) : (s.setVer v).time = s.time := rfl
@[simp] theorem State.setVer_ptp (s : State) (v : VerdictStage) : (s.setVer v).ptp = s.ptp := rfl
@[simp] theorem State.setVer_shutter (s : State) (v : VerdictStage) : (s.setVer v).shutter = s.shutter := rfl
@[simp] theorem State.setVer_cnt (s : State) (v : VerdictStage) : (s.setVer v).cnt = s.cnt := rfl
@[simp] theorem State.setVer_snap (s : State) (v : VerdictStage) : (s.setVer v).snap = s.snap := rfl
@[simp] theorem State.setVer_fs (s : State) (v : VerdictStage) : (s.setVer v).fs = s.fs := rfl
@[simp] theorem State.setVer_dev (s : State) (v : VerdictStage) : (s.setVer v).dev = s.dev := rfl
@[simp] theorem State.setVer_red (s : State) (v : VerdictStage) : (s.setVer v).red = s.red := rfl
@[simp] theorem State.setVer_live (s : State) (v : VerdictStage) : (s.setVer v).live = s.live := rfl
@[simp] theorem State.setVer_bar (s : State) (v : VerdictStage) : (s.setVer v).bar = s.bar := rfl
@[simp] theorem State.setVer_ev (s : State) (v : VerdictStage) : (s.setVer v).ev = s.ev := rfl
@[simp] theorem State.setVer_tr (s : State) (v : VerdictStage) : (s.setVer v).tr = s.tr := rfl
@[simp] theorem State.setVer_prc (s : State) (v : VerdictStage) : (s.setVer v).prc = s.prc := rfl
@[simp] theorem State.setVer_lnk (s : State) (v : VerdictStage) : (s.setVer v).lnk = s.lnk := rfl
@[simp] theorem State.setVer_rt (s : State) (v : VerdictStage) : (s.setVer v).rt = s.rt := rfl
@[simp] theorem State.setVer_sch (s : State) (v : VerdictStage) : (s.setVer v).sch = s.sch := rfl
@[simp] theorem State.setVer_dap (s : State) (v : VerdictStage) : (s.setVer v).dap = s.dap := rfl
@[simp] theorem State.setVer_recd (s : State) (v : VerdictStage) : (s.setVer v).recd = s.recd := rfl
@[simp] theorem State.setVer_neg (s : State) (v : VerdictStage) : (s.setVer v).neg = s.neg := rfl
@[simp] theorem State.setVer_mb (s : State) (v : VerdictStage) : (s.setVer v).mb = s.mb := rfl
@[simp] theorem State.setVer_ce (s : State) (v : VerdictStage) : (s.setVer v).ce = s.ce := rfl
@[simp] theorem State.setVer_pw (s : State) (v : VerdictStage) : (s.setVer v).pw = s.pw := rfl
@[simp] theorem State.setVer_rst (s : State) (v : VerdictStage) : (s.setVer v).rst = s.rst := rfl
@[simp] theorem State.setVer_kp (s : State) (v : VerdictStage) : (s.setVer v).kp = s.kp := rfl
@[simp] theorem State.setVer_flash (s : State) (v : VerdictStage) : (s.setVer v).flash = s.flash := rfl
@[simp] theorem State.setVer_jn (s : State) (v : VerdictStage) : (s.setVer v).jn = s.jn := rfl
@[simp] theorem State.setVer_stack (s : State) (v : VerdictStage) : (s.setVer v).stack = s.stack := rfl
@[simp] theorem State.setVer_out (s : State) (v : VerdictStage) : (s.setVer v).out = s.out := rfl
@[simp] theorem State.setVer_free (s : State) (v : VerdictStage) : (s.setVer v).free = s.free := rfl

/-! ### mbSend -/

@[simp] theorem State.mbSend_pending (s : State) (door kind : Nat) (bytes : Bytes) : (s.mbSend door kind bytes).pending = s.pending := rfl
@[simp] theorem State.mbSend_parked (s : State) (door kind : Nat) (bytes : Bytes) : (s.mbSend door kind bytes).parked = s.parked := rfl
@[simp] theorem State.mbSend_build (s : State) (door kind : Nat) (bytes : Bytes) : (s.mbSend door kind bytes).build = s.build := rfl
@[simp] theorem State.mbSend_role (s : State) (door kind : Nat) (bytes : Bytes) : (s.mbSend door kind bytes).role = s.role := rfl
@[simp] theorem State.mbSend_strapPins (s : State) (door kind : Nat) (bytes : Bytes) : (s.mbSend door kind bytes).strapPins = s.strapPins := rfl
@[simp] theorem State.mbSend_regs (s : State) (door kind : Nat) (bytes : Bytes) : (s.mbSend door kind bytes).regs = s.regs := rfl
@[simp] theorem State.mbSend_doms (s : State) (door kind : Nat) (bytes : Bytes) : (s.mbSend door kind bytes).doms = s.doms := rfl
@[simp] theorem State.mbSend_cmdCodes (s : State) (door kind : Nat) (bytes : Bytes) : (s.mbSend door kind bytes).cmdCodes = s.cmdCodes := rfl
@[simp] theorem State.mbSend_latchedRegs (s : State) (door kind : Nat) (bytes : Bytes) : (s.mbSend door kind bytes).latchedRegs = s.latchedRegs := rfl
@[simp] theorem State.mbSend_latchedDoms (s : State) (door kind : Nat) (bytes : Bytes) : (s.mbSend door kind bytes).latchedDoms = s.latchedDoms := rfl
@[simp] theorem State.mbSend_time (s : State) (door kind : Nat) (bytes : Bytes) : (s.mbSend door kind bytes).time = s.time := rfl
@[simp] theorem State.mbSend_ptp (s : State) (door kind : Nat) (bytes : Bytes) : (s.mbSend door kind bytes).ptp = s.ptp := rfl
@[simp] theorem State.mbSend_shutter (s : State) (door kind : Nat) (bytes : Bytes) : (s.mbSend door kind bytes).shutter = s.shutter := rfl
@[simp] theorem State.mbSend_cnt (s : State) (door kind : Nat) (bytes : Bytes) : (s.mbSend door kind bytes).cnt = s.cnt := rfl
@[simp] theorem State.mbSend_snap (s : State) (door kind : Nat) (bytes : Bytes) : (s.mbSend door kind bytes).snap = s.snap := rfl
@[simp] theorem State.mbSend_fs (s : State) (door kind : Nat) (bytes : Bytes) : (s.mbSend door kind bytes).fs = s.fs := rfl
@[simp] theorem State.mbSend_dev (s : State) (door kind : Nat) (bytes : Bytes) : (s.mbSend door kind bytes).dev = s.dev := rfl
@[simp] theorem State.mbSend_red (s : State) (door kind : Nat) (bytes : Bytes) : (s.mbSend door kind bytes).red = s.red := rfl
@[simp] theorem State.mbSend_ver (s : State) (door kind : Nat) (bytes : Bytes) : (s.mbSend door kind bytes).ver = s.ver := rfl
@[simp] theorem State.mbSend_live (s : State) (door kind : Nat) (bytes : Bytes) : (s.mbSend door kind bytes).live = s.live := rfl
@[simp] theorem State.mbSend_bar (s : State) (door kind : Nat) (bytes : Bytes) : (s.mbSend door kind bytes).bar = s.bar := rfl
@[simp] theorem State.mbSend_ev (s : State) (door kind : Nat) (bytes : Bytes) : (s.mbSend door kind bytes).ev = s.ev := rfl
@[simp] theorem State.mbSend_tr (s : State) (door kind : Nat) (bytes : Bytes) : (s.mbSend door kind bytes).tr = s.tr := rfl
@[simp] theorem State.mbSend_prc (s : State) (door kind : Nat) (bytes : Bytes) : (s.mbSend door kind bytes).prc = s.prc := rfl
@[simp] theorem State.mbSend_lnk (s : State) (door kind : Nat) (bytes : Bytes) : (s.mbSend door kind bytes).lnk = s.lnk := rfl
@[simp] theorem State.mbSend_rt (s : State) (door kind : Nat) (bytes : Bytes) : (s.mbSend door kind bytes).rt = s.rt := rfl
@[simp] theorem State.mbSend_sch (s : State) (door kind : Nat) (bytes : Bytes) : (s.mbSend door kind bytes).sch = s.sch := rfl
@[simp] theorem State.mbSend_dap (s : State) (door kind : Nat) (bytes : Bytes) : (s.mbSend door kind bytes).dap = s.dap := rfl
@[simp] theorem State.mbSend_recd (s : State) (door kind : Nat) (bytes : Bytes) : (s.mbSend door kind bytes).recd = s.recd := rfl
@[simp] theorem State.mbSend_neg (s : State) (door kind : Nat) (bytes : Bytes) : (s.mbSend door kind bytes).neg = s.neg := rfl
@[simp] theorem State.mbSend_ce (s : State) (door kind : Nat) (bytes : Bytes) : (s.mbSend door kind bytes).ce = s.ce := rfl
@[simp] theorem State.mbSend_pw (s : State) (door kind : Nat) (bytes : Bytes) : (s.mbSend door kind bytes).pw = s.pw := rfl
@[simp] theorem State.mbSend_rst (s : State) (door kind : Nat) (bytes : Bytes) : (s.mbSend door kind bytes).rst = s.rst := rfl
@[simp] theorem State.mbSend_kp (s : State) (door kind : Nat) (bytes : Bytes) : (s.mbSend door kind bytes).kp = s.kp := rfl
@[simp] theorem State.mbSend_flash (s : State) (door kind : Nat) (bytes : Bytes) : (s.mbSend door kind bytes).flash = s.flash := rfl
@[simp] theorem State.mbSend_jn (s : State) (door kind : Nat) (bytes : Bytes) : (s.mbSend door kind bytes).jn = s.jn := rfl
@[simp] theorem State.mbSend_stack (s : State) (door kind : Nat) (bytes : Bytes) : (s.mbSend door kind bytes).stack = s.stack := rfl
@[simp] theorem State.mbSend_out (s : State) (door kind : Nat) (bytes : Bytes) : (s.mbSend door kind bytes).out = s.out := rfl
@[simp] theorem State.mbSend_free (s : State) (door kind : Nat) (bytes : Bytes) : (s.mbSend door kind bytes).free = s.free := rfl

/-! ### ceSend -/

@[simp] theorem State.ceSend_pending (s : State) (m : CeOut) : (s.ceSend m).pending = s.pending := rfl
@[simp] theorem State.ceSend_parked (s : State) (m : CeOut) : (s.ceSend m).parked = s.parked := rfl
@[simp] theorem State.ceSend_build (s : State) (m : CeOut) : (s.ceSend m).build = s.build := rfl
@[simp] theorem State.ceSend_role (s : State) (m : CeOut) : (s.ceSend m).role = s.role := rfl
@[simp] theorem State.ceSend_strapPins (s : State) (m : CeOut) : (s.ceSend m).strapPins = s.strapPins := rfl
@[simp] theorem State.ceSend_regs (s : State) (m : CeOut) : (s.ceSend m).regs = s.regs := rfl
@[simp] theorem State.ceSend_doms (s : State) (m : CeOut) : (s.ceSend m).doms = s.doms := rfl
@[simp] theorem State.ceSend_cmdCodes (s : State) (m : CeOut) : (s.ceSend m).cmdCodes = s.cmdCodes := rfl
@[simp] theorem State.ceSend_latchedRegs (s : State) (m : CeOut) : (s.ceSend m).latchedRegs = s.latchedRegs := rfl
@[simp] theorem State.ceSend_latchedDoms (s : State) (m : CeOut) : (s.ceSend m).latchedDoms = s.latchedDoms := rfl
@[simp] theorem State.ceSend_time (s : State) (m : CeOut) : (s.ceSend m).time = s.time := rfl
@[simp] theorem State.ceSend_ptp (s : State) (m : CeOut) : (s.ceSend m).ptp = s.ptp := rfl
@[simp] theorem State.ceSend_shutter (s : State) (m : CeOut) : (s.ceSend m).shutter = s.shutter := rfl
@[simp] theorem State.ceSend_cnt (s : State) (m : CeOut) : (s.ceSend m).cnt = s.cnt := rfl
@[simp] theorem State.ceSend_snap (s : State) (m : CeOut) : (s.ceSend m).snap = s.snap := rfl
@[simp] theorem State.ceSend_fs (s : State) (m : CeOut) : (s.ceSend m).fs = s.fs := rfl
@[simp] theorem State.ceSend_dev (s : State) (m : CeOut) : (s.ceSend m).dev = s.dev := rfl
@[simp] theorem State.ceSend_red (s : State) (m : CeOut) : (s.ceSend m).red = s.red := rfl
@[simp] theorem State.ceSend_ver (s : State) (m : CeOut) : (s.ceSend m).ver = s.ver := rfl
@[simp] theorem State.ceSend_live (s : State) (m : CeOut) : (s.ceSend m).live = s.live := rfl
@[simp] theorem State.ceSend_bar (s : State) (m : CeOut) : (s.ceSend m).bar = s.bar := rfl
@[simp] theorem State.ceSend_ev (s : State) (m : CeOut) : (s.ceSend m).ev = s.ev := rfl
@[simp] theorem State.ceSend_tr (s : State) (m : CeOut) : (s.ceSend m).tr = s.tr := rfl
@[simp] theorem State.ceSend_prc (s : State) (m : CeOut) : (s.ceSend m).prc = s.prc := rfl
@[simp] theorem State.ceSend_lnk (s : State) (m : CeOut) : (s.ceSend m).lnk = s.lnk := rfl
@[simp] theorem State.ceSend_rt (s : State) (m : CeOut) : (s.ceSend m).rt = s.rt := rfl
@[simp] theorem State.ceSend_sch (s : State) (m : CeOut) : (s.ceSend m).sch = s.sch := rfl
@[simp] theorem State.ceSend_dap (s : State) (m : CeOut) : (s.ceSend m).dap = s.dap := rfl
@[simp] theorem State.ceSend_recd (s : State) (m : CeOut) : (s.ceSend m).recd = s.recd := rfl
@[simp] theorem State.ceSend_neg (s : State) (m : CeOut) : (s.ceSend m).neg = s.neg := rfl
@[simp] theorem State.ceSend_mb (s : State) (m : CeOut) : (s.ceSend m).mb = s.mb := rfl
@[simp] theorem State.ceSend_pw (s : State) (m : CeOut) : (s.ceSend m).pw = s.pw := rfl
@[simp] theorem State.ceSend_rst (s : State) (m : CeOut) : (s.ceSend m).rst = s.rst := rfl
@[simp] theorem State.ceSend_kp (s : State) (m : CeOut) : (s.ceSend m).kp = s.kp := rfl
@[simp] theorem State.ceSend_flash (s : State) (m : CeOut) : (s.ceSend m).flash = s.flash := rfl
@[simp] theorem State.ceSend_jn (s : State) (m : CeOut) : (s.ceSend m).jn = s.jn := rfl
@[simp] theorem State.ceSend_stack (s : State) (m : CeOut) : (s.ceSend m).stack = s.stack := rfl
@[simp] theorem State.ceSend_out (s : State) (m : CeOut) : (s.ceSend m).out = s.out := rfl
@[simp] theorem State.ceSend_free (s : State) (m : CeOut) : (s.ceSend m).free = s.free := rfl

/-! ### What an update writes -/

@[simp] theorem State.setChan_shutter (s : State) (c : Nat) (ch : ShutterChannel) : (s.setChan c ch).shutter = Tbl.set s.shutter c ch := rfl
@[simp] theorem State.setCnt_cnt (s : State) (c : Counters) : (s.setCnt c).cnt = c := rfl
@[simp] theorem State.setBar_bar (s : State) (b : Barriers) : (s.setBar b).bar = b := rfl
@[simp] theorem State.setEv_ev (s : State) (e : Evidence) : (s.setEv e).ev = e := rfl
@[simp] theorem State.setFs_fs (s : State) (f : FrontStage) : (s.setFs f).fs = f := rfl
@[simp] theorem State.setKp_kp (s : State) (k : Keeper) : (s.setKp k).kp = k := rfl
@[simp] theorem State.setRst_rst (s : State) (r : Resets) : (s.setRst r).rst = r := rfl
@[simp] theorem State.setMb_mb (s : State) (m : Mailbox) : (s.setMb m).mb = m := rfl
@[simp] theorem State.setNeg_neg (s : State) (n : Negative) : (s.setNeg n).neg = n := rfl
@[simp] theorem State.setPw_pw (s : State) (p : Power) : (s.setPw p).pw = p := rfl
@[simp] theorem State.setRed_red (s : State) (r : Reduction) : (s.setRed r).red = r := rfl
@[simp] theorem State.setVer_ver (s : State) (v : VerdictStage) : (s.setVer v).ver = v := rfl
@[simp] theorem State.setPtp_ptp (s : State) (p : Nat) (l : PtpLane) : (s.setPtp p l).ptp = Tbl.set s.ptp p l := rfl
@[simp] theorem State.emit_out (s : State) (o : Output) : (s.emit o).out = o :: s.out := rfl
@[simp] theorem State.drawn_free (s : State) : (s.drawn).free = s.free + 1 := rfl
@[simp] theorem State.park_parked (s : State) (i : Instr) : (s.park i).parked = s.parked ++ [i] := rfl
@[simp] theorem State.setCode_cmdCodes (s : State) (o : Ob) (code m : Nat) : (s.setCode o code m).cmdCodes = Tbl.set s.cmdCodes (o.key m 0) code := rfl

end Sys2Proof.Machine
end

