-- ==== Sys2Proof/Laws/Tbl.lean ====
section
/-! SUPPORT. Tables: what is read after an entry has been put in or taken out. -/

namespace Sys2Proof

variable {α : Type}

/-- The entry just put in is found. -/
@[simp] theorem Tbl.get?_set_same (t : Tbl α) (k : Nat) (v : α) : Tbl.get? (Tbl.set t k v) k = some v := by
  induction t with
  | nil => simp [Tbl.set, Tbl.get?]
  | cons e t ih =>
    obtain ⟨k', w⟩ := e
    simp only [Tbl.set]
    split
    · simp [Tbl.get?]
    · split
      · simp [Tbl.get?]
      · rename_i h1 h2
        rw [Tbl.get?, if_neg (fun h => h2 h.symm)]
        exact ih

/-- Other entries stay. -/
theorem Tbl.get?_set_other (t : Tbl α) (k k' : Nat) (v : α) (h : k ≠ k') : Tbl.get? (Tbl.set t k v) k' = Tbl.get? t k' := by
  induction t with
  | nil => simp [Tbl.set, Tbl.get?, h]
  | cons e t ih =>
    obtain ⟨k1, w⟩ := e
    simp only [Tbl.set]
    split
    · rw [Tbl.get?, if_neg h]
    · split
      · rename_i h1 h2
        subst h2
        simp [Tbl.get?, h]
      · simp only [Tbl.get?]
        split
        · rfl
        · exact ih

@[simp] theorem Tbl.getD_set_same (t : Tbl α) (k : Nat) (v d : α) : Tbl.getD (Tbl.set t k v) k d = v := by simp [Tbl.getD]

theorem Tbl.getD_set_other (t : Tbl α) (k k' : Nat) (v d : α) (h : k ≠ k') : Tbl.getD (Tbl.set t k v) k' d = Tbl.getD t k' d := by
  simp [Tbl.getD, Tbl.get?_set_other t k k' v h]

/-- An entry taken out is gone. -/
@[simp] theorem Tbl.get?_del_same (t : Tbl α) (k : Nat) : Tbl.get? (Tbl.del t k) k = none := by
  induction t with
  | nil => rfl
  | cons e t ih =>
    obtain ⟨k1, w⟩ := e
    by_cases h : k1 = k
    · subst h
      simpa [Tbl.del] using ih
    · have : Tbl.del ((k1, w) :: t) k = (k1, w) :: Tbl.del t k := by simp [Tbl.del, h]
      rw [this, Tbl.get?, if_neg h]
      exact ih

/-- The other entries stay when one is taken out. -/
theorem Tbl.get?_del_other (t : Tbl α) (k k' : Nat) (h : k ≠ k') : Tbl.get? (Tbl.del t k) k' = Tbl.get? t k' := by
  induction t with
  | nil => rfl
  | cons e t ih =>
    obtain ⟨k1, w⟩ := e
    by_cases h1 : k1 = k
    · subst h1
      have : Tbl.del ((k1, w) :: t) k1 = Tbl.del t k1 := by simp [Tbl.del]
      rw [this, ih, Tbl.get?, if_neg h]
    · have : Tbl.del ((k1, w) :: t) k = (k1, w) :: Tbl.del t k := by simp [Tbl.del, h1]
      rw [this, Tbl.get?, Tbl.get?]
      split
      · rfl
      · exact ih

end Sys2Proof
end

