-- ==== Sys2Proof/Laws/Steps.lean ====
section
/-! SUPPORT. The shared operations: what the wrappers of the commands, an answer and an object's update can do. -/

namespace Sys2Proof.Machine

open Sys2Proof

/-! ### Wrappers -/

@[simp] theorem State.within_pending (t s : State) : (t.within s).pending = s.pending := rfl
@[simp] theorem State.within_build (t s : State) : (t.within s).build = s.build := rfl
@[simp] theorem State.within_role (t s : State) : (t.within s).role = s.role := rfl

/-- Whatever acts after a command's time keeps the queue. -/
@[simp] theorem State.after_pending (s : State) (dt : Nat) (f : State → State) : (s.after dt f).pending = s.pending := rfl
/-- Whatever acts after a command's time keeps the build. -/
@[simp] theorem State.after_build (s : State) (dt : Nat) (f : State → State) : (s.after dt f).build = s.build := rfl
/-- Whatever acts after a command's time keeps the role. -/
@[simp] theorem State.after_role (s : State) (dt : Nat) (f : State → State) : (s.after dt f).role = s.role := rfl
@[simp] theorem State.core_pending (s : State) (dt : Nat) (f : State → State) : (s.core dt f).pending = s.pending :=
  State.after_pending ..
@[simp] theorem State.core_build (s : State) (dt : Nat) (f : State → State) : (s.core dt f).build = s.build :=
  State.after_build ..

@[simp] theorem State.core_role (s : State) (dt : Nat) (f : State → State) : (s.core dt f).role = s.role :=
  State.after_role ..

@[simp] theorem State.island_pending (s : State) (dt : Nat) (f : State → State) : (s.island dt f).pending = s.pending :=
  State.after_pending ..

@[simp] theorem State.island_build (s : State) (dt : Nat) (f : State → State) : (s.island dt f).build = s.build :=
  State.after_build ..

@[simp] theorem State.island_role (s : State) (dt : Nat) (f : State → State) : (s.island dt f).role = s.role :=
  State.after_role ..


/-- A core command on a core that runs. -/
theorem State.core_of_on (s : State) (dt : Nat) (f : State → State) (h : (s.elapse dt).coreOn = true) :
    s.core dt f = (f (s.elapse dt)).within s := by simp [State.core, State.after, h]

/-- A core command on a core that does not run: only time has passed. -/
theorem State.core_of_off (s : State) (dt : Nat) (f : State → State) (h : (s.elapse dt).coreOn = false) :
    s.core dt f = (s.elapse dt).within s := by simp [State.core, State.after, h]

/-- An island command outside a chip-scope reset. -/
theorem State.island_of_on (s : State) (dt : Nat) (f : State → State) (h : (s.elapse dt).inChipReset = false) :
    s.island dt f = (f (s.elapse dt)).within s := by simp [State.island, State.after, h]

/-- An island command during a chip-scope reset: only time has passed. -/
theorem State.island_of_off (s : State) (dt : Nat) (f : State → State) (h : (s.elapse dt).inChipReset = true) :
    s.island dt f = (s.elapse dt).within s := by simp [State.island, State.after, h]

/-- A core command does one of two things. -/
theorem State.core_cases (s : State) (dt : Nat) (f : State → State) :
    ((s.elapse dt).coreOn = true ∧ s.core dt f = (f (s.elapse dt)).within s) ∨
    ((s.elapse dt).coreOn = false ∧ s.core dt f = (s.elapse dt).within s) := by
  cases h : (s.elapse dt).coreOn
  · exact .inr ⟨rfl, s.core_of_off dt f h⟩
  · exact .inl ⟨rfl, s.core_of_on dt f h⟩

/-- An island command does one of two things. -/
theorem State.island_cases (s : State) (dt : Nat) (f : State → State) :
    ((s.elapse dt).inChipReset = false ∧ s.island dt f = (f (s.elapse dt)).within s) ∨
    ((s.elapse dt).inChipReset = true ∧ s.island dt f = (s.elapse dt).within s) := by
  cases h : (s.elapse dt).inChipReset
  · exact .inl ⟨rfl, s.island_of_on dt f h⟩
  · exact .inr ⟨rfl, s.island_of_off dt f h⟩

/-! ### Commands that the core's ports hold (18 R367, 19 R391) -/

/-- On a core that runs, what the host offers acts at once. -/
theorem State.fromHost_of_on (s : State) (dt src : Nat) (i : Instr) (f : State → State) (h : (s.elapse dt).coreOn = true) :
    s.fromHost dt src i f = (f (s.elapse dt)).within s := by simp [State.fromHost, State.after, h]

/-- On a core that runs, a message of a lane acts at once. -/
theorem State.fromLane_of_on (s : State) (dt p cls : Nat) (i : Instr) (f : State → State) (h : (s.elapse dt).coreOn = true) :
    s.fromLane dt p cls i f = (f (s.elapse dt)).within s := by simp [State.fromLane, State.after, h]

/-- On a core that runs, a datagram acts at once. -/
theorem State.fromMgmt_of_on (s : State) (dt : Nat) (bad : Bool) (i : Instr) (f : State → State) (h : (s.elapse dt).coreOn = true) :
    s.fromMgmt dt bad i f = (f (s.elapse dt)).within s := by simp [State.fromMgmt, State.after, h]

/-- On a core that runs, a request acts at once, whatever its source. -/
theorem State.fromSource_of_on (s : State) (dt : Nat) (src : DapSource) (bad : Bool) (i : Instr) (f : State → State)
    (h : (s.elapse dt).coreOn = true) : s.fromSource dt src bad i f = (f (s.elapse dt)).within s := by
  cases src with
  | mailbox => exact s.fromHost_of_on dt _ i f h
  | lane p => exact s.fromLane_of_on dt p _ i f h
  | mgmt a p => exact s.fromMgmt_of_on dt bad i f h

/-- On a core that runs, a request for an object is served at once. -/
theorem State.asked_of_on (s : State) (dt : Nat) (rq : Requester) (r : DapReq) (f : State → State) (h : (s.elapse dt).coreOn = true) :
    s.asked dt rq r f = (f (s.elapse dt)).within s := s.fromSource_of_on dt rq.src false _ f h

@[simp] theorem State.fromHost_pending (s : State) (dt src : Nat) (i : Instr) (f : State → State) :
    (s.fromHost dt src i f).pending = s.pending := State.after_pending ..
@[simp] theorem State.fromLane_pending (s : State) (dt p cls : Nat) (i : Instr) (f : State → State) :
    (s.fromLane dt p cls i f).pending = s.pending := State.after_pending ..
@[simp] theorem State.fromMgmt_pending (s : State) (dt : Nat) (bad : Bool) (i : Instr) (f : State → State) :
    (s.fromMgmt dt bad i f).pending = s.pending := State.after_pending ..

/-- `t` is `s`, or `s` with one more command held and perhaps a wake begun, or with one more datagram discarded. -/
def HeldFrom (s t : State) (i : Instr) : Prop :=
  t = s ∨ t = s.bumpSat Dict.mgmtDiscards ∨ ∃ pw, t = { s with parked := s.parked ++ [i], pw := pw }

/-- A wake source changes the wake alone. -/
theorem State.wake_only (s : State) (source detail cls : Nat) : ∃ pw, s.wake source detail cls = { s with pw := pw } := by
  unfold State.wake
  simp only
  split
  · split <;> exact ⟨_, rfl⟩
  · split <;> exact ⟨_, rfl⟩

theorem HeldFrom.park (u : State) (i : Instr) : HeldFrom u (u.park i) i := .inr (.inr ⟨u.pw, rfl⟩)

theorem HeldFrom.parkWake (u : State) (i : Instr) (a b c : Nat) : HeldFrom u ((u.park i).wake a b c) i := by
  obtain ⟨pw, e⟩ := (u.park i).wake_only a b c
  exact .inr (.inr ⟨pw, e⟩)

/-- Whatever its source, a request that finds the core away is held, discarded and counted, or not there to be taken. -/
theorem State.fromSource_of_off (s : State) (dt : Nat) (src : DapSource) (bad : Bool) (i : Instr) (f : State → State)
    (h : (s.elapse dt).coreOn = false) : ∃ t, HeldFrom (s.elapse dt) t i ∧ s.fromSource dt src bad i f = t.within s := by
  unfold State.fromSource State.fromHost State.fromLane State.fromMgmt State.after
  generalize s.elapse dt = u at h
  cases src with
  | mailbox =>
    simp only [h, Bool.false_eq_true, if_false]
    split
    · exact ⟨_, .park .., rfl⟩
    · exact ⟨_, .parkWake .., rfl⟩
  | lane p =>
    simp only [h, Bool.false_eq_true, if_false]
    split
    · exact ⟨_, .inl rfl, rfl⟩
    · exact ⟨_, .parkWake .., rfl⟩
  | mgmt a p =>
    simp only [h, Bool.false_eq_true, if_false]
    split
    · exact ⟨_, .inl rfl, rfl⟩
    · split
      · exact ⟨_, .inr (.inl rfl), rfl⟩
      · exact ⟨_, .parkWake .., rfl⟩

/-! ### Objects -/

/-- An object reads the value just written, cut to its size. -/
@[simp] theorem State.rd_wr_same (s : State) (o : Ob) (v m j : Nat) : (s.wr o v m j).rd o m j = v % 2 ^ (8 * o.ty.bytes) := by
  simp [State.rd, State.wr]

/-- A write leaves every object with another number as it was. -/
theorem State.rd_wr_other (s : State) (o o' : Ob) (v m j m' j' : Nat) (h : o.key m j ≠ o'.key m' j') :
    (s.wr o v m j).rd o' m' j' = s.rd o' m' j' := by
  simp [State.rd, State.wr, Tbl.getD_set_other _ _ _ _ _ h]

/-- A DOMAIN object reads the bytes just written. -/
@[simp] theorem State.rdBytes_wrBytes_same (s : State) (o : Ob) (bs : Bytes) (m j : Nat) :
    (s.wrBytes o bs m j).rdBytes o m j = bs := by simp [State.rdBytes, State.wrBytes]

/-- A CMD object reads the code just given. -/
@[simp] theorem State.cmdCode_setCode_same (s : State) (o : Ob) (code m : Nat) : (s.setCode o code m).cmdCode o m = code := by
  simp [State.cmdCode, State.setCode]

/-- Objects depend on what is stored, the build and the role alone. -/
theorem State.rd_congr (s t : State) (o : Ob) (m j : Nat) (hr : t.regs = s.regs) (hb : t.build = s.build) (hl : t.role = s.role) :
    t.rd o m j = s.rd o m j := by simp [State.rd, hr, hb, hl]

/-! ### Answers (15 R317 to R330) -/

/-- `t` is `s` but for the queues of its groups. -/
def QueuedFrom (s t : State) : Prop := ∃ q, t = { s with sch := { s.sch with groups := q } }

theorem QueuedFrom.refl (s : State) : QueuedFrom s s := ⟨_, rfl⟩

theorem QueuedFrom.trans {s t u : State} (h : QueuedFrom s t) (k : QueuedFrom t u) : QueuedFrom s u := by
  obtain ⟨_, rfl⟩ := h
  obtain ⟨_, rfl⟩ := k
  exact ⟨_, rfl⟩

theorem QueuedFrom.setGq (s : State) (g : Nat) (q : GroupQ) : QueuedFrom s (s.setGq g q) := ⟨_, rfl⟩

/-- Messages that producers held back enter their queue, and nothing else changes. -/
theorem QueuedFrom.enterQueue (n : Nat) (s : State) (g c : Nat) : QueuedFrom s (State.enterQueue n s g c) := by
  induction n generalizing s with
  | zero => exact .refl s
  | succ n ih =>
    unfold State.enterQueue
    simp only
    split
    · exact .refl s
    · split
      · exact (QueuedFrom.setGq ..).trans (ih _)
      · exact .refl s

/-- A group's queues, and nothing else, change when a message enters one. -/
theorem State.enqueue_only (s : State) (g c : Nat) (m : QFrame) : QueuedFrom s (s.enqueue g c m) := by
  unfold State.enqueue State.refresh
  simp only
  split
  · exact ((QueuedFrom.setGq ..).trans (.enterQueue ..)).trans (.setGq ..)
  · exact (QueuedFrom.setGq ..).trans (.setGq ..)

/-- A response leaves by one of three ways, and changes nothing else. -/
theorem State.answer_only (s : State) (src : DapSource) (r : DapReq) (st co total : Nat) (data : Bytes) (retry : Nat) :
    ∃ rs ms qs, s.answer src r st co total data retry =
      { s with dap := { s.dap with responses := rs }, mb := { s.mb with waiting := ms }, sch := { s.sch with groups := qs } } := by
  cases src with
  | mailbox => exact ⟨_, _, _, rfl⟩
  | lane p =>
    obtain ⟨q, h⟩ := s.enqueue_only (s.groupOf p) 2 { kind := .dapResponse, bytes := s.answerBytes r st co total data retry }
    exact ⟨_, _, q, h⟩
  | mgmt a p => exact ⟨_, _, _, rfl⟩

end Sys2Proof.Machine
end

