-- ==== Sys2Proof/Laws/Records.lean ====
section
/-! SUPPORT. What writing an event record can change, said once (chapter 17). -/

namespace Sys2Proof.Machine

open Sys2Proof

/-- `t` is `s` but for the objects, the levels' byte counters, the recorder, the ROOT's pushes, the alarm buffer with what
waits for it, and the stacks. -/
def RaisedFrom (s t : State) : Prop :=
  ∃ rg lv rc p ap wp al wt st, t = { s with
    regs := rg, cnt := { s.cnt with level := lv }, recd := rc, sch := { s.sch with alarms := al, waiting := wt }, stack := st
    dap := { s.dap with push := p, alarmPushes := ap, waitingPushes := wp } }

theorem RaisedFrom.refl (s : State) : RaisedFrom s s := ⟨_, _, _, _, _, _, _, _, _, rfl⟩

theorem RaisedFrom.trans {s t u : State} (h : RaisedFrom s t) (k : RaisedFrom t u) : RaisedFrom s u := by
  obtain ⟨_, _, _, _, _, _, _, _, _, rfl⟩ := h
  obtain ⟨_, _, _, _, _, _, _, _, _, rfl⟩ := k
  exact ⟨_, _, _, _, _, _, _, _, _, rfl⟩

/-- An object's update. -/
theorem RaisedFrom.wr (s : State) (o : Ob) (v m j : Nat) : RaisedFrom s (s.wr o v m j) := ⟨_, _, _, _, _, _, _, _, _, rfl⟩

theorem RaisedFrom.bump (s : State) (o : Ob) (m j n : Nat) : RaisedFrom s (s.bump o m j n) := .wr ..

theorem RaisedFrom.bumpSat (s : State) (o : Ob) (m j n : Nat) : RaisedFrom s (s.bumpSat o m j n) := .wr ..

/-- A change of the recorder. -/
theorem RaisedFrom.recd (s : State) (r : Recorder) : RaisedFrom s { s with recd := r } := ⟨_, _, _, _, _, _, _, _, _, rfl⟩

/-- Bytes written into the stacks. -/
theorem RaisedFrom.stackWrite (s : State) (a : Nat) (bs : Bytes) : RaisedFrom s (s.stackWrite a bs) := by
  unfold State.stackWrite
  split
  · exact .refl s
  · exact ⟨_, _, _, _, _, _, _, _, _, rfl⟩

theorem RaisedFrom.recToStack (s : State) (slot : Nat) (r : EventRec) : RaisedFrom s (s.recToStack slot r) := by
  unfold State.recToStack
  split
  · exact .stackWrite ..
  · exact .refl s

/-- A record written into a place of the ring. -/
theorem RaisedFrom.writeRecord (s : State) (slot : Nat) (r : EventRec) (a u c : Bool) : RaisedFrom s (s.writeRecord slot r a u c) := by
  unfold State.writeRecord State.syncMirror
  exact (RaisedFrom.recd s _).trans ((RaisedFrom.recToStack _ slot r).trans ((RaisedFrom.bump ..).trans (.wr ..)))

/-- An alarm's copy at the alarm buffer. -/
theorem RaisedFrom.bufferAlarm (s : State) (b : Bytes) (own : Option Nat) : RaisedFrom s (s.bufferAlarm b own) := by
  unfold State.bufferAlarm
  exact ⟨_, _, _, _, _, _, _, _, _, rfl⟩

/-- An alarm of a child enters the buffer, or waits outside it. -/
theorem RaisedFrom.forwardIn (s : State) (b : Bytes) : RaisedFrom s (s.forwardIn b) := by
  unfold State.forwardIn
  split
  · exact .bufferAlarm ..
  · exact ⟨_, _, _, _, _, _, _, _, _, rfl⟩

/-- Alarms fill the buffer, and the rest wait outside it. -/
theorem RaisedFrom.fitAlarms (s : State) (l : List AlarmEntry) : RaisedFrom s (s.fitAlarms l) := by
  unfold State.fitAlarms
  exact ⟨_, _, _, _, _, _, _, _, _, rfl⟩

/-- The buffer never holds more than its size gives it once alarms have filled it (14 R299). -/
theorem State.fitAlarms_fits (s : State) (l : List AlarmEntry) :
    32 * (s.fitAlarms l).sch.alarms.length ≤ s.rd Dict.alarmBufSize := by
  have h : (s.fitAlarms l).sch.alarms.length ≤ s.rd Dict.alarmBufSize / 32 := by
    simp only [State.fitAlarms, State.syncAlarms, State.wr_sch, List.length_take]
    omega
  omega

/-- No alarm is lost on the way into the buffer: those in it and those that wait are the alarms given, in order (14 R299). -/
theorem State.fitAlarms_all (s : State) (l : List AlarmEntry) : (s.fitAlarms l).sch.alarms ++ (s.fitAlarms l).sch.waiting = l := by
  simp [State.fitAlarms, State.syncAlarms]

/-- A push of the ROOT for an alarm or a shard. -/
theorem RaisedFrom.sendOwnAlarm (s : State) (r : EventRec) (n : Nat) : RaisedFrom s (s.sendOwnAlarm r n) := by
  unfold State.sendOwnAlarm
  split
  · unfold State.push
    simp only
    split
    · exact .refl s
    · split <;> exact ⟨_, _, _, _, _, _, _, _, _, rfl⟩
  · exact .bufferAlarm ..

/-- The place a record takes. -/
theorem RaisedFrom.takeSlot (s t : State) (k : Nat) (h : s.takeSlot = some (k, t)) : RaisedFrom s t := by
  unfold State.takeSlot at h
  simp only at h
  split at h
  · cases h; exact .refl s
  · split at h
    · cases h
    · cases h
      split
      · exact (RaisedFrom.recd s _).trans (.bumpSat ..)
      · exact .recd s _

/-- An event of the instance, folded, written or tallied, changes nothing else. -/
theorem RaisedFrom.raiseAt (s : State) (classF alarm : Bool) (typ payload time frame : Nat) :
    RaisedFrom s (s.raiseAt classF alarm typ payload time frame) := by
  unfold State.raiseAt
  simp only
  split
  · unfold State.fold
    refine RaisedFrom.trans ?_ (.bumpSat ..)
    refine RaisedFrom.trans ?_ (.recToStack ..)
    exact ⟨_, _, _, _, _, _, _, _, _, rfl⟩
  · unfold State.storeOwn
    split
    · exact .recd s _
    · rename_i k t h
      have h1 := RaisedFrom.takeSlot s t k h
      have h2 := fun r a u => h1.trans (RaisedFrom.writeRecord t k r a u false)
      simp only
      split
      · exact h2 _ _ _
      · split
        · exact (h2 _ _ _).trans (.bumpSat ..)
        · exact (h2 _ _ _).trans (.sendOwnAlarm ..)

/-- A record raised now. -/
theorem RaisedFrom.raise (s : State) (classF alarm : Bool) (typ payload : Nat) : RaisedFrom s (s.raise classF alarm typ payload) :=
  .raiseAt ..

/-- A record of a child. -/
theorem RaisedFrom.storeChild (s : State) (r : EventRec) : RaisedFrom s (s.storeChild r) := by
  unfold State.storeChild
  split
  · exact .recd s _
  · rename_i k t h
    exact (RaisedFrom.takeSlot s t k h).trans (.writeRecord ..)

end Sys2Proof.Machine
end

