-- ==== Sys2Proof/Tests/Slice0.lean ====
section
/-! SUPPORT. The model's own tests: ill-formed commands, a state for the hypotheses of every statement, and the values that the
spec's own text gives for a few commands. -/

namespace Sys2Proof.Tests

open Sys2Proof Sys2Proof.Machine

-- one theorem after the other: each theorem that waits for the kernel would hold a thread
set_option Elab.async false

/-! ### Small states -/

/-- A requester at the mailbox. -/
def rq0 : Requester := { src := .mailbox, reqId := 1 }

/-- A keeper that serves. -/
def withKeeper (s : State) : State := { s.wr Dict.keeperState 1 with kp := { running := true } }

/-- Uhlyr-D with a keeper that serves. -/
def die : State := withKeeper State.reset

/-- A tray chip with a keeper that serves. -/
def chip (r : Role) : State := withKeeper (State.resetOf .trayChip r 0)

/-- The same at a local time. -/
def at_ (ns : Nat) (s : State) : State := { s with time := { s.time with now := ns * 65536, run := ns * 65536 } }

/-- The same with a lane in a state. -/
def lane (p v : Nat) (s : State) : State := s.wr Dict.laneState v p

/-- An event record. -/
def rec0 : EventRec := { crc := 0, payload := 0, rep := 0, frame := 0, time := 0, classF := true, source := 0, typ := 1 }

/-- A record in the ring. -/
def stored0 : Stored :=
  { slot := 0, num := 0, event := rec0, unsent := true, gone := false, toMirror := true, child := false, alarm := true, written := 0 }

/-- A reduction record. -/
def red0 : RedRec := { frame := 0, epoch := 0, programId := 0, level := 0, live := false }

/-- An open frame below ports 30 and 31. -/
def frame0 : RedFrame := { frame := 0, expected := [(31, [5]), (30, [6])] }

/-- A frame that waits for its acknowledgement. -/
def sent0 : SentFrame := { seq := 4095, typ := 0, cls := 1, frame := { kind := .record, bytes := [1] } }

/-- A DATA frame in a queue. -/
def queued0 : QFrame := { kind := .mirror, bytes := [1] }

/-- A release on its way down. -/
def fwd0 (waits : List (Nat × Nat)) (reissue : Bool) : Forward :=
  { msg := { job := 1, id := 4094, seq := 0, epoch := 0, level := 4, reissue := reissue, body := .release 5 7 }, waits := waits }

/-- A tree of job 1. -/
def tree0 : Tree := { job := 1, seq := some 9, op := 3, issued := true, ackSet := [5] }

/-- A digest record of die 5. -/
def digest0 : DigestRec :=
  { digest := 1, lines := 2, frame := 0, name := 3, ordinal := 4, die := 5, kind := 0, incomplete := false, overtaken := false, sat := false
    overlay := true, copyDone := false, job := 1 }

/-- A bracket slot. -/
def bracket0 : BracketSlot := { cmd := 1, tag := 2, tile := 3, step := 4, origEngine := 5, since := 0 }

/-- A test entry. -/
def test0 : TestEntry := { issued := false, engine := 6, test := 7, deadline := 0, requested := 0 }

/-- An encoding job. -/
def job0 : PrcJob := { op := 1, inAddr := 0x400000000, inLen := 2, width := 0, vlen := 1, k0 := 7, outAddr := 0x3FFFFFFFC0, outLen := 64, used := 0 }

/-- An action in progress. -/
def action0 : CmdAction := { key := Dict.exportCmd.key 0 0, idx := 0, sub := 0, waiting := some (.mailbox, 1), since := 0 }

/-- A vector in a slot's queue. -/
def vec0 : DevVec := { frame := 0, codes := [], vkind := 0 }

/-- A vector record. -/
def fvec0 : FVector := { hdr := 0, codes := [] }

/-- A feature frame. -/
def feat0 (engine : Bool) : FeatFrame :=
  { frame := 0, dieId := 5, engine := engine, decimated := false, decimTotal := 0, firstEngine := 0, colour := 0, vecs := [fvec0] }

/-- A verdict that waits for nothing. -/
def wait0 : VerdictWait := { frame := 0, codes := [], skip := false, temp := 0, volt := 0, freq := 0, sig := none, slots := [] }

/-- An empty image for Uhlyr-D: its header, no nodes, and the digest of both (Table 06-1). -/
def goodImage : Bytes :=
  let h := leBytes 4 0x54444C4D ++ leBytes 4 1 ++ zeros 16 ++ leBytes 4 176 ++ zeros 100
  h ++ sha384 h

/-- The same with a digest of zeros. -/
def badImage : Bytes := goodImage.take 128 ++ zeros 48

/-! ### Hypotheses that hold together: one state for each clause -/

theorem hyp_PowerCommandsComplete :
    (∃ u, u = (at_ 1000000000000 (die.wr Dict.shutterMode 0 0)).elapse 0 ∧ u.coreOn = true ∧
      u.idleFor (u.rd Dict.dimIdle * 1000) = true ∧ (∀ e ∈ u.tr.sources, e.2.enabled = false)) ∧
    (∃ u, u = (at_ 1000000000000 ((die.wr Dict.powerState 1).wr Dict.shutterMode 0 0)).elapse 0 ∧ u.rd Dict.powerState ≤ 1 ∧
      u.idleFor (u.rd Dict.safelightIdle * 1000000) = true) ∧
    (∃ u, u = ({ die with pw := { entering := some 1 } }).elapse 0 ∧ u.inChipReset = false ∧ u.pw.entering = some 1 ∧
      1 < 3 ∧ u.tr.lines = []) ∧
    (∃ u, u = (die.wr Dict.powerState 3).elapse 0 ∧ u.inReset = false ∧ u.rd Dict.powerState ≠ 0 ∧ u.pw.entering = none ∧
      u.pw.waking = none) ∧
    (∃ u, u = ({ die with pw := { entering := some 2 } }).elapse 0 ∧ u.inReset = false ∧ u.pw.entering = some 2 ∧
      u.pw.heldWake = none) ∧
    (∃ u, u = ({ die with pw := { waking := some ⟨1, 0, 0, 0⟩, wakeFrom := 2, steps := [5] } }).elapse 0 ∧
      ((Instr.pllLock 0), 1) ∈ [(Instr.regGood 0, 0), (Instr.pllLock 0, 1), (Instr.memReady 0, 2)] ∧ u.inChipReset = false ∧
      u.pw.waking.isSome = true ∧ u.pw.wakeFrom = 2 ∧ u.pw.steps.length = 1) ∧
    (∃ u, u = ({ die with pw := { waking := some ⟨1, 0, 0, 0⟩, wakeFrom := 1 } }).elapse 0 ∧ u.inChipReset = false ∧
      u.pw.waking = some (⟨1, 0, 0, 0⟩ : WakeSource) ∧ ((u.pw.wakeFrom = 1 ∨ u.pw.wakeFrom = 2 ∧ u.pw.steps.length = 3))) ∧
    (∃ u, u = (at_ 100000 (chip .root)).elapse 0 ∧ u.coreOn = true ∧ u.isDie = false ∧ u.passed u.pw.dvfsLast 100000 = true) ∧
    (∃ u, u = ({ die with pw := { dvfsTarget := some 65535 } }).elapse 0 ∧ u.coreOn = true ∧ u.pw.dvfsTarget = some 65535 ∧
      65535 < 65536) :=
  ⟨⟨_, rfl, by decide +kernel⟩,
   ⟨_, rfl, by decide +kernel⟩,
   ⟨_, rfl, by decide +kernel⟩,
   ⟨_, rfl, by decide +kernel⟩,
   ⟨_, rfl, by decide +kernel⟩,
   ⟨_, rfl, by decide +kernel⟩,
   ⟨_, rfl, by decide +kernel⟩,
   ⟨_, rfl, by decide +kernel⟩,
   ⟨_, rfl, by decide +kernel⟩⟩

theorem hyp_KeeperCommandsComplete :
    (∃ u, u = (die).elapse 0 ∧ u.serves Dict.keeperUpdate ∧ ((u.isDie = true → false = false)) ∧
      u.actionOf (Dict.keeperUpdate.key 0 0) = none ∧ u.kp.running = true) ∧
    (∃ u, u = (chip .tray).elapse 0 ∧ u.serves Dict.keeperUpdate ∧ ((u.isDie = true → true = false)) ∧
      u.actionOf (Dict.keeperUpdate.key 0 0) = none) ∧
    (∃ u, u = ({ die with kp := { die.kp with update := some ⟨true, false, .verifying, 0⟩ } }).elapse 0 ∧ u.coreOn = true ∧
      u.kp.update = some (⟨true, false, .verifying, 0⟩ : KeeperUpdate) ∧
      (⟨true, false, .verifying, 0⟩ : KeeperUpdate).phase = .verifying ∧ u.rst.keeper = none) ∧
    (∃ u, u = ({ die with kp := { die.kp with update := some ⟨true, false, .persisting, 0⟩ } }).elapse 0 ∧ u.coreOn = true ∧
      u.kp.update = some (⟨true, false, .persisting, 0⟩ : KeeperUpdate) ∧
      (⟨true, false, .persisting, 0⟩ : KeeperUpdate).phase = .persisting ∧ u.rst.keeper = none) ∧
    (∃ u, u = ({ die with kp := { die.kp with update := some ⟨true, false, .persisting, 0⟩ } }).elapse 0 ∧ u.coreOn = true ∧
      u.kp.update = some (⟨true, false, .persisting, 0⟩ : KeeperUpdate) ∧
      (⟨true, false, .persisting, 0⟩ : KeeperUpdate).phase = .persisting ∧ u.rst.keeper = none) ∧
    (∃ u, u = ({ die with kp := { die.kp with update := some ⟨true, false, .quiescing, 0⟩ } }).elapse 0 ∧ u.coreOn = true ∧
      u.kp.update = some (⟨true, false, .quiescing, 0⟩ : KeeperUpdate) ∧
      (⟨true, false, .quiescing, 0⟩ : KeeperUpdate).phase = .quiescing ∧ u.rst.keeper = none ∧ u.keeperQuiet = true) ∧
    (∃ u, u = (at_ 100000000 {  die with kp := { die.kp with update := some ⟨true, false, .quiescing, 0⟩ } , neg := { state := .armed } }).elapse 0 ∧
      u.coreOn = true ∧ u.kp.update = some (⟨true, false, .quiescing, 0⟩ : KeeperUpdate) ∧
      (⟨true, false, .quiescing, 0⟩ : KeeperUpdate).phase = .quiescing ∧ u.rst.keeper = none ∧ u.keeperQuiet = false ∧
      u.passed (⟨true, false, .quiescing, 0⟩ : KeeperUpdate).since 100000000 = true) ∧
    (∃ u, u = ({ die with kp := { die.kp with update := some ⟨true, false, .paused, 0⟩ } }).elapse 0 ∧ u.coreOn = true ∧
      u.kp.update = some (⟨true, false, .paused, 0⟩ : KeeperUpdate) ∧
      (((⟨true, false, .paused, 0⟩ : KeeperUpdate).phase = .paused ∨ (⟨true, false, .paused, 0⟩ : KeeperUpdate).phase = .restarting))) ∧
    (∃ u, u = ({ die with kp := { die.kp with update := some ⟨false, false, .restarting, 0⟩ } }).elapse 0 ∧
      u.coreOn = true ∧ u.kp.update = some (⟨false, false, .restarting, 0⟩ : KeeperUpdate) ∧
      (((⟨false, false, .restarting, 0⟩ : KeeperUpdate).phase = .paused ∨ (⟨false, false, .restarting, 0⟩ : KeeperUpdate).phase = .restarting))) ∧
    (∃ u, u = (die).elapse 0 ∧
      ((Instr.keeperWatchdog 0), 1) ∈ [(Instr.keeperScopeReset 0, 0), (Instr.keeperWatchdog 0, 1)] ∧ u.coreOn = true) ∧
    (∃ u, u = ({ die with rst := { keeper := some (0, 0) } }).elapse 0 ∧ u.coreOn = true ∧ u.rst.keeper.isSome = true ∧
      u.kp.update = none) :=
  ⟨⟨_, rfl, by simp only [State.serves]; decide +kernel⟩,
   ⟨_, rfl, by simp only [State.serves]; decide +kernel⟩,
   ⟨_, rfl, by decide +kernel⟩,
   ⟨_, rfl, by decide +kernel⟩,
   ⟨_, rfl, by decide +kernel⟩,
   ⟨_, rfl, by decide +kernel⟩,
   ⟨_, rfl, by decide +kernel⟩,
   ⟨_, rfl, by decide +kernel⟩,
   ⟨_, rfl, by decide +kernel⟩,
   ⟨_, rfl, by decide +kernel⟩,
   ⟨_, rfl, by decide +kernel⟩⟩

theorem hyp_ResetCauseNamesTheTrigger :
    (∃ u, u = (at_ 100000 { die with rst := { requested := [⟨2, [], some 0⟩] } }).elapse 0 ∧
      u.rst.requested = [{ scope := 2, response := ([] : Bytes), left := some 0 }] ∧ u.inChipReset = false ∧
      u.passed 0 100000 = true) ∧
    (∃ u, u = ({ die with rst := { busy := some (2, 2) } }).elapse 0 ∧ u.rst.busy = some (2, 2) ∧ 2 < 3) ∧
    (∃ u, u = ({ die with rst := { islands := [0x2F] } }).elapse 0 ∧ u.coreOn = true ∧ u.rst.islands = [0x2F]) :=
  ⟨⟨_, rfl, by decide +kernel⟩,
   ⟨_, rfl, by decide +kernel⟩,
   ⟨_, rfl, by decide +kernel⟩⟩

theorem hyp_ResetCommandsComplete :
    (∃ u, u = (chip .root).elapse 0 ∧ u.serves Dict.resetCmd) ∧
    (∃ u, u = (die).elapse 0 ∧ u.serves Dict.resetCmd ∧ u.isDie = true ∧ 31 < 32) ∧
    (∃ u, u = (die).elapse 0 ∧
      ((Instr.resetChip 0 rq0), 2) ∈ [(Instr.resetBlock 0 rq0, 1), (Instr.resetChip 0 rq0, 2), (Instr.resetKeeper 0 rq0, 3)] ∧
      u.serves Dict.resetCmd) ∧
    (({ die with rst := { requested := [⟨1, [7], none⟩] } } : State).rst.requested = [(⟨1, [7], none⟩ : ResetRequest)] ∧
      (⟨1, [7], none⟩ : ResetRequest).left = none ∧ (⟨1, [7], none⟩ : ResetRequest).response = [7]) ∧
    (∃ u, u = (at_ 100000 { die with rst := { requested := [⟨3, [], some 0⟩] } }).elapse 0 ∧
      u.rst.requested = [{ scope := 3, response := ([] : Bytes), left := some 0 }] ∧ u.rst.busy = none ∧
      u.passed 0 100000 = true) ∧
    (∃ u, u = (at_ 100000 { die with rst := { requested := [⟨1, [], some 0⟩] } }).elapse 0 ∧
      u.rst.requested = [{ scope := 1, response := ([] : Bytes), left := some 0 }] ∧ u.rst.busy = none ∧
      u.passed 0 100000 = true) ∧
    (∃ u, u = (at_ 100000 { chip .tray with rst := { requested := [⟨2, [], some 0⟩] } }).elapse 0 ∧
      u.rst.requested = [{ scope := 2, response := ([] : Bytes), left := some 0 }] ∧ u.inChipReset = false ∧
      u.passed 0 100000 = true) ∧
    (∃ u, u = (die).elapse 0 ∧ u.isDie = true ∧ u.inReset = false) ∧
    (∃ u, u = ({ die with rst := { busy := some (1, 2) } }).elapse 0 ∧ u.rst.busy = some (1, 2)) ∧
    (∃ u, u = ({ die with rst := { busy := some (2, 2) } }).elapse 0 ∧ u.rst.busy = some (2, 2) ∧ 2 < 3 ∧ u.isDie = true) ∧
    (∃ u, u = ({ chip .rack with rst := { busy := some (2, 0) } }).elapse 0 ∧ u.rst.busy = some (2, 0) ∧ 0 < 3 ∧
      u.isDie = false) ∧
    (∃ u, u = ({ die with rst := { islands := [0x10] } }).elapse 0 ∧ u.coreOn = true) :=
  ⟨⟨_, rfl, by simp only [State.serves]; decide +kernel⟩,
   ⟨_, rfl, by simp only [State.serves]; decide +kernel⟩,
   ⟨_, rfl, by simp only [State.serves]; decide +kernel⟩,
   by decide +kernel,
   ⟨_, rfl, by decide +kernel⟩,
   ⟨_, rfl, by decide +kernel⟩,
   ⟨_, rfl, by decide +kernel⟩,
   ⟨_, rfl, by decide +kernel⟩,
   ⟨_, rfl, by decide +kernel⟩,
   ⟨_, rfl, by decide +kernel⟩,
   ⟨_, rfl, by decide +kernel⟩,
   ⟨_, rfl, by decide +kernel⟩⟩

theorem hyp_LaneCommandsComplete :
    (∃ u, u = (die).elapse 0 ∧ u.serves Dict.laneEnable 1 ∧ 1 < u.ports) ∧
    (∃ u, u = (chip .tray).elapse 0 ∧ u.serves Dict.laneEnable 47 ∧ 47 < u.ports) ∧
    (∃ u, u = (chip .tray).elapse 0 ∧ u.inReset = false ∧ 47 < u.ports ∧ u.rd Dict.laneState 47 = 1) ∧
    (∃ u, u = ((lane 47 2 (chip .tray)).setLane 47 { identSeen := true }).elapse 0 ∧ u.inReset = false ∧ 47 < u.ports ∧
      u.rd Dict.laneState 47 = 2 ∧ (u.lane 47).identSeen = true ∧ 47 = (u.joinGroup 47).groupOf 47) ∧
    (∃ u, u = (lane 1 2 die).elapse 0 ∧ u.inReset = false ∧ 1 < u.ports ∧ u.rd Dict.laneState 1 = 2 ∧
      (u.lane 1).identSeen = false) ∧
    (∃ u, u = (lane 47 3 (chip .root)).elapse 0 ∧ u.inReset = false ∧ 47 < u.ports ∧ u.rd Dict.laneState 47 = 3) ∧
    (∃ u, u = (at_ 1000000000000 (lane 1 2 die)).elapse 0 ∧ u.inChipReset = false ∧ 1 < u.ports ∧
      u.rd Dict.laneState 1 = 2 ∧ u.passed (u.lane 1).entered (u.rd Dict.trainLimit * 1000000) = true) ∧
    (∃ u, u = (lane 47 2 (chip .tray)).elapse 0 ∧ u.inReset = false ∧ 47 < u.ports ∧ u.rd Dict.laneState 47 = 2) ∧
    (∃ u, u = (at_ 1000000000000 (lane 1 4 die)).elapse 0 ∧ u.inChipReset = false ∧ 1 < u.ports ∧
      u.rd Dict.laneState 1 = 4 ∧ u.passed (u.lane 1).entered (u.rd Dict.failHold * 1000000) = true) ∧
    (∃ u, u = (lane 1 3 die).elapse 0 ∧ u.serves Dict.laneRetrain 1 ∧ 1 < u.ports ∧ u.laneUp 1 = true) :=
  ⟨⟨_, rfl, by simp only [State.serves]; decide +kernel⟩,
   ⟨_, rfl, by simp only [State.serves]; decide +kernel⟩,
   ⟨_, rfl, by decide +kernel⟩,
   ⟨_, rfl, by decide +kernel⟩,
   ⟨_, rfl, by decide +kernel⟩,
   ⟨_, rfl, by decide +kernel⟩,
   ⟨_, rfl, by decide +kernel⟩,
   ⟨_, rfl, by decide +kernel⟩,
   ⟨_, rfl, by decide +kernel⟩,
   ⟨_, rfl, by simp only [State.serves]; decide +kernel⟩⟩

theorem hyp_TrainingFramesComplete :
    (∃ u, u = (lane 1 3 die).elapse 0 ∧ u.inReset = false ∧ 1 < u.ports ∧ u.rd Dict.laneState 1 = 3) ∧
    (∃ u, u = (lane 47 3 (chip .tray)).elapse 0 ∧ u.inReset = false ∧ 47 < u.ports ∧ u.rd Dict.laneState 47 = 3) ∧
    (∃ u, u = (lane 1 2 die).elapse 0 ∧ u.inReset = false ∧ 1 < u.ports ∧
      (u.rd Dict.laneState 1 = 2 ∨ u.rd Dict.laneState 1 = 3)) ∧
    (∃ u, u = (lane 1 3 die).elapse 0 ∧ u.inReset = false ∧ 1 < u.ports ∧ u.rd Dict.laneState 1 = 3) ∧
    (∃ u, u = (lane 47 3 (chip .tray)).elapse 0 ∧ u.inReset = false ∧ 47 < u.ports ∧ u.rd Dict.laneState 47 = 3 ∧
      u.isDie = false ∧ u.since (u.lane 47).biasAt 1000000 = true ∧ u.rd Dict.laneLaserBias 47 ≤ 1000) ∧
    (∃ u, u = ((lane 47 3 (chip .tray)).setLane 47 { biasAt := some 0 }).elapse 0 ∧ u.inReset = false ∧ 47 < u.ports ∧
      u.rd Dict.laneState 47 = 3 ∧ u.isDie = false ∧ u.since (u.lane 47).biasAt 1000000 = false) ∧
    (∃ u, u = (lane 1 4 die).elapse 0 ∧ u.inReset = false ∧ 1 < u.ports ∧ u.rd Dict.laneState 1 = 4) ∧
    (∃ u, u = ((lane 1 2 die).wr Dict.laneTrainStep 3 1).elapse 0 ∧ u.inReset = false ∧ 1 < u.ports ∧
      u.rd Dict.laneState 1 = 2 ∧ u.rd Dict.laneTrainStep 1 ≤ 3) ∧
    (∃ u, u = ((lane 1 2 die).wr Dict.laneTrainStep 3 1).elapse 0 ∧ u.inReset = false ∧ 1 < u.ports ∧
      u.rd Dict.laneState 1 = 2 ∧ u.rd Dict.laneTrainStep 1 = 3 ∧ (u.lane 1).identDone = false ∧
      u.since (u.lane 1).identAt 10000 = true) :=
  ⟨⟨_, rfl, by decide +kernel⟩,
   ⟨_, rfl, by decide +kernel⟩,
   ⟨_, rfl, by decide +kernel⟩,
   ⟨_, rfl, by decide +kernel⟩,
   ⟨_, rfl, by decide +kernel⟩,
   ⟨_, rfl, by decide +kernel⟩,
   ⟨_, rfl, by decide +kernel⟩,
   ⟨_, rfl, by decide +kernel⟩,
   ⟨_, rfl, by decide +kernel⟩⟩

theorem hyp_LinkCommandsComplete :
    (∃ u, u = ((lane 1 3 die).setLink 1 { replay := [sent0] }).elapse 0 ∧ u.inReset = false ∧ 1 < u.ports ∧
      u.rd Dict.laneState 1 = 3 ∧ 1 = u.groupOf 1 ∧ (u.link 1).replay.head? = some sent0 ∧
      1 = (0 + 4096 - sent0.seq % 4096) % 4096 ∧ 0 < 1 ∧ 1 ≤ (u.link 1).replay.length) ∧
    (∃ u, u = ((lane 1 3 die).setLink 1 { replay := [sent0] }).elapse 0 ∧ u.inReset = false ∧ 1 < u.ports ∧
      u.rd Dict.laneState 1 = 3 ∧ 1 = u.groupOf 1 ∧ (u.link 1).replay.head? = some sent0 ∧ sent0.seq < 4096 ∧
      (u.link 1).resent + 1 < u.rd Dict.retryLimit) ∧
    (∃ u, u = ((lane 1 3 die).setLink 1 { replay := [sent0], resent := 254 }).elapse 0 ∧ u.inReset = false ∧ 1 < u.ports ∧
      u.rd Dict.laneState 1 = 3 ∧ 1 = u.groupOf 1 ∧ (u.link 1).replay.head? = some sent0 ∧ sent0.seq < 4096 ∧
      u.rd Dict.retryLimit ≤ (u.link 1).resent + 1) ∧
    (∃ u, u = (at_ 1000000000000 ((lane 1 3 die).setLink 1 { replay := [sent0] })).elapse 0 ∧ u.inChipReset = false ∧
      1 ∈ u.groupList ∧ u.groupUp 1 = true ∧ (u.link 1).replay ≠ [] ∧
      u.passed (u.link 1).advanced (u.rd Dict.replayTimeout) = true ∧ (u.link 1).resent + 1 < u.rd Dict.retryLimit) ∧
    (∃ u, u = (lane 47 3 (chip .tray)).elapse 0 ∧ u.inReset = false ∧ 47 < u.ports ∧ u.rd Dict.laneState 47 = 3 ∧
      47 = u.groupOf 47 ∧ [1, 2, 3, 4, 5, 6, 7, 8].length = 8) ∧
    (∃ u, u = (at_ 1000000000000 (lane 1 3 die)).elapse 0 ∧ u.inChipReset = false ∧ 1 ∈ u.groupList ∧ u.groupUp 1 = true ∧
      u.passed (u.link 1).lastCredit 10000 = true) ∧
    (∃ u, u = (lane 1 3 die).elapse 0 ∧ u.inReset = false ∧ 1 < u.ports ∧ u.rd Dict.laneState 1 = 3 ∧ 1 = u.groupOf 1) ∧
    (∃ u, u = (lane 1 3 die).elapse 0 ∧ u.inReset = false ∧ 1 < u.ports ∧ u.rd Dict.laneState 1 = 3 ∧ 1 = u.groupOf 1 ∧
      ((false = false ∨ 4095 ≠ (u.link 1).expect)) ∧ (u.link 1).nakSince = none) ∧
    (∃ u, u = (lane 1 2 die).elapse 0 ∧ u.inReset = false ∧ 1 < u.ports ∧ u.rd Dict.laneState 1 = 2) :=
  ⟨⟨_, rfl, by decide +kernel⟩,
   ⟨_, rfl, by decide +kernel⟩,
   ⟨_, rfl, by decide +kernel⟩,
   ⟨_, rfl, by decide +kernel⟩,
   ⟨_, rfl, by decide +kernel⟩,
   ⟨_, rfl, by decide +kernel⟩,
   ⟨_, rfl, by decide +kernel⟩,
   ⟨_, rfl, by decide +kernel⟩,
   ⟨_, rfl, by decide +kernel⟩⟩

theorem hyp_RouteCommandsComplete :
    (∃ u, u = (lane 31 3 (chip .tray)).elapse 0 ∧ u.inReset = false ∧ 31 < u.ports ∧ u.rd Dict.laneState 31 = 3 ∧
      u.isDown 31 = true ∧ 31 = u.groupOf 31) ∧
    (∃ u, u = (lane 31 3 (chip .tray)).elapse 0 ∧ u.inReset = false ∧ 31 < u.ports ∧ u.rd Dict.laneState 31 = 3 ∧
      u.isDown 31 = true ∧ 31 = u.groupOf 31) ∧
    (∃ u, u = (lane 31 3 (chip .tray)).elapse 0 ∧ u.inReset = false ∧ 31 < u.ports ∧ u.rd Dict.laneState 31 = 3 ∧
      u.isDown 31 = true ∧ 31 = u.groupOf 31) ∧
    (∃ u, u = (lane 35 3 (chip .tray)).elapse 0 ∧ u.inReset = false ∧ 35 < u.ports ∧ u.rd Dict.laneState 35 = 3 ∧
      u.isDie = false ∧ u.isDown 35 = false ∧ 35 = u.groupOf 35) ∧
    (∃ u, u = (lane 0 3 (lane 1 3 die)).elapse 0 ∧ u.inReset = false ∧ 0 < u.ports ∧ u.rd Dict.laneState 0 = 3 ∧
      0 = u.groupOf 0 ∧ u.role ≠ .root ∧ u.upwardOf 0 = some false ∧ u.movePending = false ∧
      u.routeBuddy u.frameNow = false ∧ u.upGroupUp (!false) = true) ∧
    (∃ u, u = (lane 1 3 die).elapse 0 ∧ u.serves Dict.routeMove ∧ u.upGroupUp true = true ∧ u.movePending = false ∧
      u.routeBuddy u.frameNow ≠ true) ∧
    (∃ u, u = (at_ 1000000000000 ({ (lane 0 3 die).wr Dict.routeHome 1 with rt := { entries := [{ buddy := true, start := none }], homeSince := some 0 } })).elapse 0 ∧
      u.inChipReset = false ∧ u.role ≠ .root ∧ u.rt.homeSince = some 0 ∧ u.passed 0 (u.rd Dict.homeHold * 1000000) = true ∧
      u.movePending = false ∧ u.routeBuddy u.frameNow = true ∧ u.upGroupUp false = true ∧ u.flag Dict.routeHome = true) ∧
    (∃ u, u = (die).elapse 0 ∧ u.serves Dict.dieId ∧ u.isDie = true ∧ u.rd Dict.dieId = 0xFFFFFFFF ∧ 131071 < 131072) :=
  ⟨⟨_, rfl, by decide +kernel⟩,
   ⟨_, rfl, by decide +kernel⟩,
   ⟨_, rfl, by decide +kernel⟩,
   ⟨_, rfl, by decide +kernel⟩,
   ⟨_, rfl, by decide +kernel⟩,
   ⟨_, rfl, by simp only [State.serves]; decide +kernel⟩,
   ⟨_, rfl, by decide +kernel⟩,
   ⟨_, rfl, by simp only [State.serves]; decide +kernel⟩⟩

theorem hyp_SchedulerCommandsComplete :
    (∃ u, u = ({ lane 0 3 (die.setLink 0 { credit := [(0, 1000)] }) with sch := { alarms := [⟨zeros 32, none⟩] } }).elapse 0 ∧
      u.coreOn = true ∧ u.bootTray = false ∧ 0 ∈ u.groupList ∧ u.groupUp 0 = true ∧ u.replayRoom 0 2048 = true ∧
      u.class0Ready 0 = true) ∧
    (∃ u, u = ({ lane 0 3 (die.setLink 0 { credit := [(7, 1000)] }) with sch := { groups := [(0, { q := [(7, [queued0])] })] } }).elapse 0 ∧
      u.coreOn = true ∧ u.bootTray = false ∧ 0 ∈ u.groupList ∧ u.groupUp 0 = true ∧ u.replayRoom 0 2048 = true ∧
      u.class0Ready 0 = false ∧ (((u.latch 0).admitAll 0).refresh 0) = ((u.latch 0).admitAll 0).refresh 0 ∧
      ((((u.latch 0).admitAll 0).refresh 0).gq 0).active = 7 :: [] ∧
      (((((u.latch 0).admitAll 0).refresh 0).gq 0).of 7).head? = some queued0 ∧
      queued0.bytes.length ≤ Tbl.getD ((((u.latch 0).admitAll 0).refresh 0).gq 0).deficit 7 0 + (if ((((u.latch 0).admitAll 0).refresh 0).gq 0).fresh.testBit 7 then (((u.latch 0).admitAll 0).refresh 0).quantum 0 7 else 0)) ∧
    (∃ u, u = ((((die.wr Dict.grpGateStageN 1 1).wr Dict.grpGateCycle 200 1).wr Dict.grpGateBase 1 1).wrBytes Dict.grpGateStage [200, 0, 0, 0, 0, 0, 0, 255] 1).elapse 0 ∧
      u.serves Dict.grpGateApply 1 ∧ u.groupOf 1 = 1 ∧ u.gatesValid 1 = true ∧
      u.time.now + 100000 * nsUnits ≤ nsOfTime80 (u.rd Dict.grpGateBase 1) * nsUnits) ∧
    (∃ u, u = (die).elapse 0 ∧ u.serves Dict.grpGateApply 1 ∧ u.groupOf 1 = 1 ∧
      nsOfTime80 (u.rd Dict.grpGateBase 1) * nsUnits < u.time.now + 100000 * nsUnits) ∧
    (∃ u, u = ({ die with sch := { groups := [(1, { gates := [⟨0, 200, [(255, 200)]⟩] })] } }).elapse 0 ∧ u.coreOn = true ∧
      1 ∈ u.groupList) ∧
    (∃ u, u = (at_ 1000000000000 ({ die with sch := { runs := [⟨5, 0, 0, 0, 1, 1, 0, 0⟩] } })).elapse 0 ∧ u.coreOn = true ∧
      (∃ r ∈ u.sch.runs, u.passed r.since 1000000 = true)) :=
  ⟨⟨_, rfl, by decide +kernel⟩,
   ⟨_, rfl, by decide +kernel⟩,
   ⟨_, rfl, by simp only [State.serves]; decide +kernel⟩,
   ⟨_, rfl, by simp only [State.serves]; decide +kernel⟩,
   ⟨_, rfl, by decide +kernel⟩,
   ⟨_, rfl, by decide +kernel⟩⟩

theorem hyp_AlarmCommandsComplete :
    (∃ u, u = (lane 31 3 (chip .tray)).elapse 0 ∧ u.coreOn = true ∧ u.isDown 31 = true ∧ u.laneUp 31 = true ∧
      u.role ≠ .root) ∧
    (∃ u, u = ((lane 31 3 (chip .root)).wrBytes Dict.conductorAddr [1]).elapse 0 ∧ u.coreOn = true ∧ u.isDown 31 = true ∧
      u.laneUp 31 = true ∧ u.role = .root ∧ (∃ b ∈ u.rdBytes Dict.conductorAddr, b ≠ 0)) ∧
    (∃ u, u = ((lane 31 3 (chip .tray)).wr Dict.recSize 64).elapse 0 ∧ u.coreOn = true ∧ u.isDown 31 = true ∧
      u.laneUp 31 = true ∧ u.recd.ring.length + 2 ≤ u.ringSize) ∧
    (∃ u, u = ({ (die.wr Dict.alarmBufSize 32) with recd := { ring := [stored0] }, sch := { waiting := [⟨zeros 32, none⟩] } }).elapse 0 ∧
      u.coreOn = true) ∧
    (∃ u, u = ({ (die.wr Dict.alarmBufSize 32) with recd := { ring := [stored0] } }).elapse 0 ∧ u.coreOn = true ∧
      u.recd.ring.find? (·.unsent) = some stored0 ∧
      32 * (u.sch.alarms.length + u.sch.waiting.length + 1) ≤ u.rd Dict.alarmBufSize) ∧
    (∃ u, u = ({ (die.wr Dict.alarmBufSize 32) with sch := { alarms := [⟨zeros 32, none⟩] } }).elapse 0 ∧ u.coreOn = true ∧
      u.sch.waiting = [] ∧ u.recd.ring.find? (·.unsent) = none ∧ u.recd.tallies = [] ∧
      32 * u.sch.alarms.length ≤ u.rd Dict.alarmBufSize) ∧
    (∃ u, u = (at_ 1000000000000 ({ die.wr Dict.mirror 1 with recd := { ring := [stored0] }, sch := { cseq := [(6, 7)] } })).elapse 0 ∧
      u.coreOn = true ∧ u.mirrorDue = true ∧ u.sch.runs = [] ∧ u.routeNow = some 0 ∧ u.movedTo 0 = none) ∧
    (∃ u, u = ({ die with recd := { ring := [stored0] } }).elapse 0 ∧ u.coreOn = true ∧ u.mirrorDue = false) ∧
    (∃ u, u = ((lane 31 3 (chip .tray)).wr Dict.recSize 64).elapse 0 ∧ u.coreOn = true ∧ u.isDown 31 = true ∧
      u.laneUp 31 = true) :=
  ⟨⟨_, rfl, by decide +kernel⟩,
   ⟨_, rfl, by decide +kernel⟩,
   ⟨_, rfl, by decide +kernel⟩,
   ⟨_, rfl, by decide +kernel⟩,
   ⟨_, rfl, by decide +kernel⟩,
   ⟨_, rfl, by decide +kernel⟩,
   ⟨_, rfl, by decide +kernel⟩,
   ⟨_, rfl, by decide +kernel⟩,
   ⟨_, rfl, by decide +kernel⟩⟩

theorem hyp_RecorderCommandsComplete :
    (∃ u, u = (die).elapse 0 ∧ u.serves Dict.recClear) ∧
    (∃ u, u = (die).elapse 0 ∧ u.serves Dict.recClear) ∧
    (∃ u, u = (chip .root).elapse 0 ∧ u.serves Dict.recClear) ∧
    (∃ u, u = ({ die with recd := { ring := [stored0] } }).elapse 0 ∧ u.serves Dict.fWindow ∧
      ((u.windowFrom true (u.rd Dict.fCursor)).2.take (readCap rq0.src / 32)).getLast? = some stored0) ∧
    (∃ u, u = (die).elapse 0 ∧ u.serves Dict.oWindow) :=
  ⟨⟨_, rfl, by simp only [State.serves]; decide +kernel⟩,
   ⟨_, rfl, by simp only [State.serves]; decide +kernel⟩,
   ⟨_, rfl, by simp only [State.serves]; decide +kernel⟩,
   ⟨_, rfl, by simp only [State.serves]; decide +kernel⟩,
   ⟨_, rfl, by simp only [State.serves]; decide +kernel⟩⟩

theorem hyp_JournalCommandsComplete :
    (∃ u, u = (chip .tray).elapse 0 ∧ u.serves Dict.journalEnable) ∧
    (∃ u, u = (chip .tray).elapse 0 ∧ u.serves Dict.journalEnable) ∧
    (∃ u, u = (at_ 1000000000000 ({ chip .tray with jn := { gathering := [(5, ⟨16, 0, []⟩)] } })).elapse 0 ∧
      u.coreOn = true ∧ u.jn.gathering = [(5, (⟨16, 0, []⟩ : Gather))] ∧
      u.passed (⟨16, 0, []⟩ : Gather).since 100000 = true) ∧
    (∃ u, u = (at_ 1000000000000 ({ chip .tray with jn := { history := { run := some ⟨0, 1, 0⟩ } } })).elapse 0 ∧
      u.coreOn = true ∧ (u.ring true).run = some (⟨0, 1, 0⟩ : DiscardRun) ∧
      u.passed (⟨0, 1, 0⟩ : DiscardRun).since 1000000 = true) ∧
    (∃ u, u = (at_ 1000000000000 ({ die with jn := { leaf := [(1, zeros 16)] } })).elapse 0 ∧ u.coreOn = true ∧
      u.jn.leaf ≠ [] ∧ u.passed u.jn.leafSince 100000 = true) ∧
    (∃ u, u = ((lane 31 3 (chip .tray)).wr Dict.journalEnable 1).elapse 0 ∧ u.coreOn = true ∧ u.isDown 31 = true ∧
      u.laneUp 31 = true ∧ u.flag Dict.journalEnable = true ∧ Tbl.get? u.jn.gathering 5 = none ∧ (zeros 16).length ≤ 4096) ∧
    (∃ u, u = ({ chip .tray with red := { lastSent := some 0 } }).elapse 0 ∧ u.serves Dict.exportCmd ∧ u.jn.freeze = none ∧
      frameGt (u.rd Dict.journalOldest) (u.rd Dict.exportFirst) = false ∧ u.red.lastSent = some 0 ∧
      frameGe 0 (u.rd Dict.exportLast) = true ∧
      u.exportLength (u.selectJournal (u.rd Dict.exportFirst) (u.rd Dict.exportLast)) (u.selectHistory (u.rd Dict.exportFirst) (u.rd Dict.exportLast)) ≤ 4294967295) ∧
    (∃ u, u = (chip .tray).elapse 0 ∧ u.serves Dict.exportCmd) :=
  ⟨⟨_, rfl, by simp only [State.serves]; decide +kernel⟩,
   ⟨_, rfl, by simp only [State.serves]; decide +kernel⟩,
   ⟨_, rfl, by decide +kernel⟩,
   ⟨_, rfl, by decide +kernel⟩,
   ⟨_, rfl, by decide +kernel⟩,
   ⟨_, rfl, by decide +kernel⟩,
   ⟨_, rfl, by simp only [State.serves]; decide +kernel⟩,
   ⟨_, rfl, by simp only [State.serves]; decide +kernel⟩⟩

theorem hyp_PtpCommandsComplete :
    (∃ u, u = (lane 0 3 die).elapse 0 ∧ u.inChipReset = false ∧ u.laneUp 0 = true ∧ u.slaveLane = some 0 ∧
      (u.rd Dict.ptpDomain) = u.rd Dict.ptpDomain) ∧
    (∃ u, u = ({ lane 0 3 die with ptp := [(0, { p2p := some 0 })] }).elapse 0 ∧ u.inChipReset = false ∧ u.laneUp 0 = true ∧
      u.slaveLane = some 0 ∧ (u.rd Dict.ptpDomain) = u.rd Dict.ptpDomain ∧ (u.ptpLane 0).delay = some 0 ∧
      (u.ingressStamp 0 - (0 + 0 + u.asymmetry 0) - 0) = u.ingressStamp 0 - (0 + 0 + u.asymmetry 0) - 0 ∧
      u.rd Dict.clockState = 0 ∧ u.beyondStep (u.ingressStamp 0 - (0 + 0 + u.asymmetry 0) - 0) = false) ∧
    (∃ u, u = ({ (lane 0 3 die).wr Dict.clockState 1 with ptp := [(0, { p2p := some 0 })], time := { lockRun := 15 } }).elapse 0 ∧
      u.inChipReset = false ∧ u.laneUp 0 = true ∧ u.slaveLane = some 0 ∧ (u.rd Dict.ptpDomain) = u.rd Dict.ptpDomain ∧
      (u.ptpLane 0).delay = some 0 ∧
      (u.ingressStamp 0 - (-367001 + 0 + u.asymmetry 0) - 0) = u.ingressStamp 0 - ((-367001) + 0 + u.asymmetry 0) - 0 ∧
      u.rd Dict.clockState = 1 ∧ u.beyondStep (u.ingressStamp 0 - (-367001 + 0 + u.asymmetry 0) - 0) = false ∧
      u.withinLock (u.ingressStamp 0 - (-367001 + 0 + u.asymmetry 0) - 0) = true ∧ 15 ≤ u.time.lockRun) ∧
    (∃ u, u = ({ (lane 0 3 die).wr Dict.clockState 2 with ptp := [(0, { p2p := some 0 })] }).elapse 0 ∧
      u.inChipReset = false ∧ u.laneUp 0 = true ∧ u.slaveLane = some 0 ∧ (u.rd Dict.ptpDomain) = u.rd Dict.ptpDomain ∧
      (u.ptpLane 0).delay = some 0 ∧
      (u.ingressStamp 0 - (10 ^ 20 + 0 + u.asymmetry 0) - 0) = u.ingressStamp 0 - ((10 ^ 20) + 0 + u.asymmetry 0) - 0 ∧
      u.rd Dict.clockState = 2 ∧ u.beyondStep (u.ingressStamp 0 - (10 ^ 20 + 0 + u.asymmetry 0) - 0) = true) ∧
    (∃ u, u = (lane 31 3 (chip .tray)).elapse 0 ∧ u.inChipReset = false ∧ u.laneUp 31 = true ∧
      (u.rd Dict.ptpDomain) = u.rd Dict.ptpDomain ∧ (u.ptpLane 31).mech = 1 ∧
      ((u.rxOn 31 54).relayed 31 0 0) = (u.rxOn 31 54).relayed 31 0 0) ∧
    (∃ u, u = ({ lane 1 3 die with ptp := [(1, { request := some (65535, -1000000) })] }).elapse 0 ∧ u.inChipReset = false ∧
      u.laneUp 1 = true ∧ (u.rd Dict.ptpDomain) = u.rd Dict.ptpDomain ∧ (u.ptpLane 1).mech = 1 ∧
      (u.ptpLane 1).request = some (65535, (-1000000)) ∧
      ((u.ingressStamp 1 - (-1000000) - 0 - u.asymmetry 1) / 2) = (u.ingressStamp 1 - (-1000000) - 0 - u.asymmetry 1) / 2 ∧
      0 ≤ unitsPs ((u.ingressStamp 1 - (-1000000) - 0 - u.asymmetry 1) / 2) ∧
      unitsPs ((u.ingressStamp 1 - (-1000000) - 0 - u.asymmetry 1) / 2) < (2 ^ 32 : Nat)) ∧
    (∃ u, u = ({ lane 31 3 (chip .tray) with ptp := [(31, { mech := 0 })] }).elapse 0 ∧ u.inChipReset = false ∧
      u.laneUp 31 = true ∧ (u.rd Dict.ptpDomain) = u.rd Dict.ptpDomain ∧ (u.ptpLane 31).mech = 0 ∧ u.ptpPortState 31 = 6 ∧
      ((u.rxOn 31 44).relayed 31 0 0) = (u.rxOn 31 44).relayed 31 0 0) ∧
    (∃ u, u = ({ lane 0 3 die with ptp := [(0, { mech := 0, request := some (0, 5), sync := some (2, 1) })] }).elapse 0 ∧
      u.inChipReset = false ∧ u.laneUp 0 = true ∧ u.slaveLane = some 0 ∧ (u.rd Dict.ptpDomain) = u.rd Dict.ptpDomain ∧
      (u.ptpLane 0).mech = 0 ∧ (u.ptpLane 0).request = some (0, 5) ∧ (u.ptpLane 0).sync = some (2, 1)) ∧
    (∃ u, u = ({ (chip .root).wr Dict.gmSource 1 with time := { gm := some 2, masters := [(2, ⟨9, 0, 0, 0⟩)] } }).elapse 0 ∧
      u.inChipReset = false ∧ u.external = true ∧ (u.rd Dict.ptpDomain) = u.rd Dict.ptpDomain ∧
      Tbl.rises 0 u.time.masters = true ∧ ((∀ e ∈ u.time.masters, e.1 ≠ 1 → 8 < e.2.data))) ∧
    (∃ u, u = ({ (chip .root).wr Dict.gmSource 1 with time := { gm := some 1, masters := [(1, ⟨3, 37, 0, 0⟩)] } }).elapse 0 ∧
      u.inChipReset = false ∧ u.external = true ∧ (u.rd Dict.ptpDomain) = u.rd Dict.ptpDomain ∧
      u.time.masters = [(1, (⟨3, 37, 0, 0⟩ : ForeignMaster))] ∧ 1 < 2 ∧ (⟨3, 37, 0, 0⟩ : ForeignMaster).data < 8 ∧
      u.time.run ≤ (⟨3, 37, 0, 0⟩ : ForeignMaster).seen + 3 * logUnits (⟨3, 37, 0, 0⟩ : ForeignMaster).log) ∧
    (∃ u, u = ({ (chip .root).wr Dict.gmSource 1 with time := { gm := some 1, masters := [(1, ⟨3, 37, 0, 0⟩)] } }).elapse 0 ∧
      u.inChipReset = false ∧ u.external = true ∧ (u.rd Dict.ptpDomain) = u.rd Dict.ptpDomain ∧
      u.bestMaster.map (·.1) = some 1) :=
  ⟨⟨_, rfl, by decide +kernel⟩,
   ⟨_, rfl, by decide +kernel⟩,
   ⟨_, rfl, by decide +kernel⟩,
   ⟨_, rfl, by decide +kernel⟩,
   ⟨_, rfl, by decide +kernel⟩,
   ⟨_, rfl, by decide +kernel⟩,
   ⟨_, rfl, by decide +kernel⟩,
   ⟨_, rfl, by decide +kernel⟩,
   ⟨_, rfl, by decide +kernel⟩,
   ⟨_, rfl, by decide +kernel⟩,
   ⟨_, rfl, by decide +kernel⟩⟩

theorem hyp_ClockCommandsComplete :
    (∃ u, u = (at_ 1000000000000 (die)).elapse 0 ∧ u.inChipReset = false ∧
      u.time.lastTick + logUnits u.logSync ≤ u.time.run) ∧
    (∃ u, u = ({ ((chip .root).wr Dict.gmSource 0).wr Dict.clockState 1 with time := { run := 10 ^ 18 } }).elapse 0 ∧
      u.inChipReset = false ∧ u.ownReference = true ∧ u.rd Dict.clockState = 1 ∧
      u.time.lastSync.getD 0 + 4 * u.syncUnits ≤ u.time.run) ∧
    (∃ u, u = ({ die.wr Dict.clockState 1 with time := { run := 10 ^ 18, lastSync := some 0 } }).elapse 0 ∧
      u.inChipReset = false ∧ u.time.lastSync = some 0 ∧ u.ownReference = false ∧ 0 + 4 * u.syncUnits ≤ u.time.run ∧
      u.rd Dict.clockState = 1) ∧
    (∃ u, u = ({ die.wr Dict.clockState 2 with time := { run := 10 ^ 18, lastSync := some 0 } }).elapse 0 ∧
      u.inChipReset = false ∧ u.time.lastSync = some 0 ∧ u.ownReference = false ∧ 0 + 4 * u.syncUnits ≤ u.time.run ∧
      u.rd Dict.clockState = 2) ∧
    (∃ u, u = ({ die.wr Dict.clockState 3 with time := { run := 10 ^ 18, holdSince := some 0 } }).elapse 0 ∧
      u.inChipReset = false ∧ u.time.holdSince = some 0 ∧ u.rd Dict.clockState = 3 ∧ 0 + 60 * secUnits ≤ u.time.run) ∧
    (∃ u, u = (die).elapse 0 ∧ u.inChipReset = false ∧ u.time.anchorNext * secUnits ≤ u.time.now) ∧
    (∃ u, u = ((chip .root).wr Dict.gmSource 0).elapse 0 ∧ u.serves Dict.timeNow ∧ u.ownReference = true ∧
      (999999999 * 2 ^ 48) / 2 ^ 48 % 2 ^ 32 < 1000000000) :=
  ⟨⟨_, rfl, by decide +kernel⟩,
   ⟨_, rfl, by decide +kernel⟩,
   ⟨_, rfl, by decide +kernel⟩,
   ⟨_, rfl, by decide +kernel⟩,
   ⟨_, rfl, by decide +kernel⟩,
   ⟨_, rfl, by decide +kernel⟩,
   ⟨_, rfl, by simp only [State.serves]; decide +kernel⟩⟩

theorem hyp_ShutterCommandsComplete :
    (∃ u, u = ((die.wr Dict.stagePeriod 1000000000 0).wr Dict.stageStart (100000 * 2 ^ 48) 0).elapse 0 ∧
      u.serves Dict.shutterApply 0 ∧ u.periodOk 0 (u.rd Dict.stagePeriod 0) = true ∧
      u.time.now + 100000 * nsUnits ≤ nsOfTime80 (u.rd Dict.stageStart 0) * nsUnits) ∧
    (∃ u, u = (die).elapse 0 ∧ u.serves Dict.shutterApply 7 ∧
      nsOfTime80 (u.rd Dict.stageStart 7) * nsUnits < u.time.now + 100000 * nsUnits) ∧
    (∃ u, u = (die.wr Dict.shutterMode 1 7).elapse 0 ∧ u.inChipReset = false ∧ 7 < 8 ∧ u.dueSlot 7 = some (0, 0)) :=
  ⟨⟨_, rfl, by simp only [State.serves]; decide +kernel⟩,
   ⟨_, rfl, by simp only [State.serves]; decide +kernel⟩,
   ⟨_, rfl, by decide +kernel⟩⟩

theorem hyp_CounterCommandsComplete :
    (∃ u, u = (die).elapse 0 ∧ u.serves Dict.cmdTableClear) ∧
    (∃ u, u = (die.setHslot 63 { kind := 1, count := 2 ^ 32 - 2 }).elapse 0 ∧ u.inReset = false ∧ 63 < 64 ∧
      u.coreActive = true ∧ u.healthOpen 63 (u.hslot 63).kind = false ∧ (u.hslot 63).kind = 1 ∧
      (u.hslot 63).count < 2 ^ 32 - 1) ∧
    (∃ u, u = (die.setHslot 63 { kind := 3 }).elapse 0 ∧ u.inReset = false ∧ 63 < 64 ∧ u.coreActive = true ∧
      u.healthOpen 63 (u.hslot 63).kind = false ∧ ((u.hslot 63).kind = 2 ∨ (u.hslot 63).kind = 3)) ∧
    (∃ u, u = ((die.wr Dict.powerState 1).setHslot 63 { kind := 1 }).elapse 0 ∧ u.inReset = false ∧ 63 < 64 ∧
      u.coreActive = false ∧ u.healthOpen 63 (u.hslot 63).kind = false ∧ (u.hslot 63).kind = 1 ∧
      (Tbl.getD u.pw.crossing 63 {}).pulses < 65535) ∧
    (∃ u, u = (die).elapse 0 ∧ u.serves Dict.clearEvents ∧ u.actionOf (Dict.clearEvents.key 0 0) = none) ∧
    (∃ u, u = ({ die with snap := { die := { held := some ⟨{}, 0, 1⟩, pending := [{ hdr := {} }] } } }).elapse 0 ∧
      u.coreOn = true ∧ (u.kindOf false).held = some (⟨{}, 0, 1⟩ : HeldCapture) ∧ (u.kindOf false).full = false) ∧
    (∃ u, u = ({ die with snap := { eng := { pending := [{ hdr := {} }] } } }).elapse 0 ∧ u.coreOn = true ∧
      (u.kindOf true).pending = ({ hdr := {} } : Snapshot) :: []) ∧
    (∃ u, u = (die).elapse 0 ∧ u.serves Dict.descApply) :=
  ⟨⟨_, rfl, by simp only [State.serves]; decide +kernel⟩,
   ⟨_, rfl, by decide +kernel⟩,
   ⟨_, rfl, by decide +kernel⟩,
   ⟨_, rfl, by decide +kernel⟩,
   ⟨_, rfl, by simp only [State.serves]; decide +kernel⟩,
   ⟨_, rfl, by decide +kernel⟩,
   ⟨_, rfl, by decide +kernel⟩,
   ⟨_, rfl, by simp only [State.serves]; decide +kernel⟩⟩

theorem hyp_FrontCommandsComplete :
    (∃ u, u = ({ die with snap := { die := { drained := [{ hdr := {} }] } } }).elapse 0 ∧ u.coreOn = true ∧
      u.snap.die.drained = ({ hdr := {} } : Snapshot) :: [] ∧
      u.backPressed 0 (u.rdAtPulse Dict.generation % 16) ({ hdr := {} } : Snapshot).hdr.frame = false) ∧
    (∃ u, u = ({ die with snap := { eng := { drained := [({ hdr := {}, engines := 2 } : Snapshot)] } }, fs := { headers := [(0, 0)] } }).elapse 0 ∧
      u.coreOn = true ∧ u.snap.eng.drained = ({ hdr := {}, engines := 2 } : Snapshot) :: [] ∧
      ({ hdr := {}, engines := 2 } : Snapshot).engines ≠ 0 ∧
      Tbl.get? u.fs.headers ({ hdr := {}, engines := 2 } : Snapshot).hdr.frame = some 0 ∧
      u.backPressed 1 (fieldOf 0 66 63) ({ hdr := {}, engines := 2 } : Snapshot).hdr.frame = false ∧
      u.fs.engSet.length + 1 < ({ hdr := {}, engines := 2 } : Snapshot).engines) ∧
    (∃ u, u = ({ die with snap := { eng := { drained := [({ hdr := {}, engines := 1 } : Snapshot)] } }, fs := { headers := [(0, 0)] } }).elapse 0 ∧
      u.coreOn = true ∧ u.snap.eng.drained = ({ hdr := {}, engines := 1 } : Snapshot) :: [] ∧
      ({ hdr := {}, engines := 1 } : Snapshot).engines ≠ 0 ∧
      Tbl.get? u.fs.headers ({ hdr := {}, engines := 1 } : Snapshot).hdr.frame = some 0 ∧
      u.backPressed 1 (fieldOf 0 66 63) ({ hdr := {}, engines := 1 } : Snapshot).hdr.frame = false ∧
      ({ hdr := {}, engines := 1 } : Snapshot).engines ≤ u.fs.engSet.length + 1) :=
  ⟨⟨_, rfl, by decide +kernel⟩,
   ⟨_, rfl, by decide +kernel⟩,
   ⟨_, rfl, by decide +kernel⟩⟩

theorem hyp_ImageCommandsComplete :
    (∃ u, u = (die).elapse 0 ∧ u.serves Dict.slotImage 3 ∧ u.slotSt 3 = 0 ∧
      (0 ≤ ([] : Bytes).length ∨ (u.dap.writes.filter (fun w => w.key != Dict.slotImage.key 3 0)).length < u.writeCap)) ∧
    (∃ u, u = ((((chip .tray).wr Dict.libraryBase 0x1000).wr Dict.librarySize 1).wr Dict.stackWriteAddr 0x1000).elapse 0 ∧
      u.serves Dict.stackWrite ∧ 1 ≤ [7].length ∧ [7] ≠ [] ∧ 0x1000 = u.rd Dict.stackWriteAddr ∧
      u.rd Dict.libraryBase ≤ 0x1000 ∧ 0x1000 + [7].length ≤ u.rd Dict.libraryBase + u.rd Dict.librarySize ∧
      inStacks 0x1000 [7].length = true ∧ u.imageMeets 0x1000 [7].length = false) ∧
    (∃ u, u = (chip .tray).elapse 0 ∧ u.serves Dict.slotLoadStack 15 ∧ u.actionOf (Dict.slotLoadStack.key 15 0) = none ∧
      u.slotSt 15 = 0) ∧
    (∃ u, u = ({ die with dev := { slots := [(3, { load := some { stack := none, total := 0, early := some 1 } })] } }).elapse 0 ∧
      u.coreOn = true ∧ 3 < u.slotCount ∧
      (u.dslot 3).load = some ({ stack := none, total := 0, early := some 1 } : SlotLoad) ∧
      ({ stack := none, total := 0, early := some 1 } : SlotLoad).early = some 1) ∧
    (∃ u, u = ({ die with dev := { slots := [(3, { load := some { stack := none, total := 176, bytes := goodImage } })] } }).elapse 0 ∧
      u.coreOn = true ∧ 3 < u.slotCount ∧
      (u.dslot 3).load = some ({ stack := none, total := 176, bytes := goodImage } : SlotLoad) ∧
      ({ stack := none, total := 176, bytes := goodImage } : SlotLoad).early = none ∧
      ({ stack := none, total := 176, bytes := goodImage } : SlotLoad).stack = none ∧
      ({ stack := none, total := 176, bytes := goodImage } : SlotLoad).total ≤ ({ stack := none, total := 176, bytes := goodImage } : SlotLoad).bytes.length ∧
      128 ≤ ({ stack := none, total := 176, bytes := goodImage } : SlotLoad).bytes.length ∧
      u.headerTest 3 (ImageHeader.read goodImage) ({ stack := none, total := 176, bytes := goodImage } : SlotLoad).total false = none ∧
      u.bodyTest (ImageHeader.read goodImage) ({ stack := none, total := 176, bytes := goodImage } : SlotLoad).bytes = 0) ∧
    (∃ u, u = ({ die with dev := { slots := [(3, { load := some { stack := none, total := 176, bytes := badImage } })] } }).elapse 0 ∧
      u.coreOn = true ∧ 3 < u.slotCount ∧
      (u.dslot 3).load = some ({ stack := none, total := 176, bytes := badImage } : SlotLoad) ∧
      ({ stack := none, total := 176, bytes := badImage } : SlotLoad).early = none ∧
      ({ stack := none, total := 176, bytes := badImage } : SlotLoad).stack = none ∧
      ({ stack := none, total := 176, bytes := badImage } : SlotLoad).total ≤ ({ stack := none, total := 176, bytes := badImage } : SlotLoad).bytes.length ∧
      128 ≤ ({ stack := none, total := 176, bytes := badImage } : SlotLoad).bytes.length ∧
      u.headerTest 3 (ImageHeader.read badImage) ({ stack := none, total := 176, bytes := badImage } : SlotLoad).total false = none ∧
      u.bodyTest (ImageHeader.read badImage) ({ stack := none, total := 176, bytes := badImage } : SlotLoad).bytes ≠ 0) :=
  ⟨⟨_, rfl, by simp only [State.serves]; decide +kernel⟩,
   ⟨_, rfl, by simp only [State.serves]; decide +kernel⟩,
   ⟨_, rfl, by simp only [State.serves]; decide +kernel⟩,
   ⟨_, rfl, by decide +kernel⟩,
   ⟨_, rfl, by decide +kernel⟩,
   ⟨_, rfl, by decide +kernel⟩⟩

theorem hyp_SlotCommandsComplete :
    (∃ u, u = (((chip .tray).wr Dict.slotSwapFrame 1000 15).wr Dict.slotState 2 15).elapse 0 ∧
      u.serves Dict.slotActivate 15 ∧ u.slotSt 15 = 2 ∧ u.scheduled 15 = false ∧
      (u.flag Dict.slotResident 15 = true ∨ u.rd Dict.devPhase ≠ 0) ∧ u.tooLate (u.rd Dict.slotSwapFrame 15) = false) ∧
    (∃ u, u = ((((chip .tray).wr Dict.slotSwapFrame 1000 15).wr Dict.slotState 2 15).wr Dict.slotState 4 0).elapse 0 ∧
      u.serves Dict.slotActivate 15 ∧ u.slotSt 15 = 2 ∧ u.scheduled 15 = false ∧
      (u.flag Dict.slotResident 15 = true ∨ u.rd Dict.devPhase ≠ 0) ∧ u.tooLate (u.rd Dict.slotSwapFrame 15) = false ∧
      0 < u.slotCount ∧ (u.slotSt 0 = 3 ∨ u.slotSt 0 = 4) ∧ u.scheduled 0 = false) ∧
    (∃ u, u = (die.wr Dict.slotState 1 3).elapse 0 ∧ u.serves Dict.slotUnload 3 ∧ u.slotSt 3 = 1) ∧
    (∃ u, u = (die.wr Dict.slotState 2 3).elapse 0 ∧ u.serves Dict.slotUnload 3 ∧ u.slotSt 3 = 2 ∧ u.scheduled 3 = false) ∧
    (∃ u, u = (die.wr Dict.slotState 4 3).elapse 0 ∧ u.serves Dict.slotUnload 3 ∧ (u.slotSt 3 = 3 ∨ u.slotSt 3 = 4) ∧
      u.scheduled 3 = false) ∧
    (∃ u, u = ({ die with dev := { slots := [(3, { unloading := true })] } }).elapse 0 ∧ u.coreOn = true ∧
      (u.dslot 3).unloading = true ∧ (u.dslot 3).queue = []) ∧
    (∃ u, u = ({ (die.wr Dict.slotState 3 3).wr Dict.swapHold 0 with dev := { slots := [(3, { successor := some (0, 1) })] } }).elapse 0 ∧
      u.coreOn = true ∧ (u.dslot 3).successor = some (0, 1) ∧ (u.dslot 3).queue = [] ∧ (u.slotSt 3 = 3 ∨ u.slotSt 3 = 4) ∧
      (u.dslot 3).unloading = false ∧ frameGe u.frameNow ((0 + u.rd Dict.swapHold) % 2 ^ 32) = true) ∧
    (∃ u, u = ({ die with dev := { slots := [(3, { queue := [vec0] })] } }).elapse 0 ∧ u.coreOn = true ∧ 3 < u.slotCount ∧
      (u.dslot 3).queue = vec0 :: [] ∧ u.predBusy 3 = false) ∧
    (∃ u, u = (chip .root).elapse 0 ∧ u.serves Dict.devPhase ∧ 3 ≤ 3) :=
  ⟨⟨_, rfl, by simp only [State.serves]; decide +kernel⟩,
   ⟨_, rfl, by simp only [State.serves]; decide +kernel⟩,
   ⟨_, rfl, by simp only [State.serves]; decide +kernel⟩,
   ⟨_, rfl, by simp only [State.serves]; decide +kernel⟩,
   ⟨_, rfl, by simp only [State.serves]; decide +kernel⟩,
   ⟨_, rfl, by decide +kernel⟩,
   ⟨_, rfl, by decide +kernel⟩,
   ⟨_, rfl, by decide +kernel⟩,
   ⟨_, rfl, by simp only [State.serves]; decide +kernel⟩⟩

theorem hyp_ReductionCommandsComplete :
    (∃ u, u = ((chip .root).wr Dict.applyFrame 1000).elapse 0 ∧ u.serves Dict.programApply ∧
      u.tooLate (u.rd Dict.applyFrame) = false) ∧
    (∃ u, u = (chip .rack).elapse 0 ∧ u.serves Dict.programApply ∧ u.tooLate (u.rd Dict.applyFrame) = true) ∧
    (∃ u, u = ({ lane 31 3 (chip .tray) with red := { frames := [frame0] } }).elapse 0 ∧ u.coreOn = true ∧
      u.isDown 31 = true ∧ u.laneUp 31 = true ∧ 31 = u.groupOf 31 ∧ u.isSent red0.frame = false ∧
      u.gapFrames 31 red0.frame = [] ∧ u.machine red0.frame = some frame0 ∧ frame0.merged = none ∧
      (frame0.expected.any (fun e => e.1 == 31) = true) ∧ (frame0.stored.any (fun x => x.1 == 31) = false) ∧
      frame0.missing.contains 31 = false ∧
      RedFrame.complete { frame0 with stored := frame0.stored ++ [(31, red0)] } = false) ∧
    (∃ u, u = ({ chip .tray with red := { frames := [{ frame0 with deadline := some 0 }] } }).elapse 0 ∧ u.coreOn = true ∧
      u.red.frames = [({ frame0 with deadline := some 0 } : RedFrame)] ∧
      ({ frame0 with deadline := some 0 } : RedFrame).merged = none ∧
      ({ frame0 with deadline := some 0 } : RedFrame).deadline = some 0 ∧ 0 * nsUnits ≤ u.time.now) ∧
    (∃ u, u = ({ die with red := { frames := [{ frame0 with merged := some red0 }] } }).elapse 0 ∧ u.coreOn = true ∧
      u.red.frames = ({ frame0 with merged := some red0 } : RedFrame) :: [] ∧
      ({ frame0 with merged := some red0 } : RedFrame).merged = some red0) :=
  ⟨⟨_, rfl, by simp only [State.serves]; decide +kernel⟩,
   ⟨_, rfl, by simp only [State.serves]; decide +kernel⟩,
   ⟨_, rfl, by decide +kernel⟩,
   ⟨_, rfl, by decide +kernel⟩,
   ⟨_, rfl, by decide +kernel⟩⟩

theorem hyp_FeatureCommandsComplete :
    (∃ u, u = (lane 1 3 die).elapse 0 ∧ u.coreOn = true ∧ u.laneUp 1 = true ∧ u.isDie = true) ∧
    (∃ u, u = (lane 31 3 (chip .rack)).elapse 0 ∧ u.coreOn = true ∧ u.laneUp 31 = true ∧ u.isDown 31 = true ∧
      u.role = .rack ∧ u.isSent (⟨0, 1, false, []⟩ : CentreMsg).frame = false ∧
      ((∀ f, u.machine (⟨0, 1, false, []⟩ : CentreMsg).frame = some f → f.merged = none))) ∧
    (∃ u, u = (lane 31 3 (chip .tray)).elapse 0 ∧ u.coreOn = true ∧ u.laneUp 31 = true ∧ u.isDown 31 = true ∧
      u.role = .tray ∧ (feat0 false).engine = false ∧ (feat0 false).vecs = [fvec0] ∧ 0 = fieldOf fvec0.hdr 127 96 ∧
      u.isSent 0 = false ∧ ((∀ m, u.machine 0 = some m → m.merged = none))) ∧
    (∃ u, u = (lane 31 3 (chip .tray)).elapse 0 ∧ u.coreOn = true ∧ u.laneUp 31 = true ∧ u.isDown 31 = true ∧
      u.role = .tray ∧ (feat0 true).engine = true ∧ (feat0 true).vecs = [fvec0]) :=
  ⟨⟨_, rfl, by decide +kernel⟩,
   ⟨_, rfl, by decide +kernel⟩,
   ⟨_, rfl, by decide +kernel⟩,
   ⟨_, rfl, by decide +kernel⟩⟩

theorem hyp_VerdictCommandsComplete :
    (∃ u, u = ({ die with ver := { waiting := [wait0] } }).elapse 0 ∧ u.coreOn = true ∧ u.ver.waiting = wait0 :: [] ∧
      u.verdictReady wait0 = true) ∧
    (∃ u, u = (die).elapse 0 ∧ u.serves Dict.verdictClear) ∧
    (∃ u, u = (die).elapse 0 ∧ u.serves Dict.baselineReset) ∧
    (∃ u, u = ({ at_ 1000000000000 (lane 31 3 (chip .tray)) with rt := { table := [(5, ⟨some 31, none, []⟩)] }, bar := { member := [(5, (true, 1))], openBars := [{ job := 1, barrier := 2, first := 0, reportAt := 0 }] }, live := [(31, { state := 0 })] }).elapse 0 ∧
      u.coreOn = true ∧ u.role = .tray ∧ 31 ∈ u.liveSubjects ∧ (Tbl.getD u.live 31 {}).state = 0 ∧
      (Tbl.getD u.live 31 {}).silence = 0 ∧ (u.waitingAt 31).isSome = true ∧ u.subjectMember 31 = true ∧
      u.liveHere 31 u.frameNow = true) ∧
    (∃ u, u = (lane 1 3 die).elapse 0 ∧ u.coreOn = true ∧ u.isDie = true ∧ u.laneUp 1 = true) :=
  ⟨⟨_, rfl, by decide +kernel⟩,
   ⟨_, rfl, by simp only [State.serves]; decide +kernel⟩,
   ⟨_, rfl, by simp only [State.serves]; decide +kernel⟩,
   ⟨_, rfl, by decide +kernel⟩,
   ⟨_, rfl, by decide +kernel⟩⟩

theorem hyp_BarrierCommandsComplete :
    (∃ u, u = ({ lane 31 3 (chip .tray) with bar := { member := [(5, (true, 1))] } }).elapse 0 ∧ u.coreOn = true ∧
      u.laneUp 31 = true ∧ u.isDown 31 = true ∧ (∃ d ∈ [5], u.memberEntry d = (true, 1)) ∧ u.role ≠ .root) ∧
    (∃ u, u = ({ lane 31 3 (chip .root) with bar := { member := [(5, (true, 1))] } }).elapse 0 ∧ u.coreOn = true ∧
      u.laneUp 31 = true ∧ u.isDown 31 = true ∧ (∃ d ∈ [5], u.memberEntry d = (true, 1)) ∧ u.role = .root ∧
      (∀ d ∈ u.jobDies 1, d ∈ [5] ∧ u.memberEntry d = (true, 1)) ∧
      u.startHolds { job := 1, barrier := 4095, first := 0, reportAt := 0 } = false) ∧
    (∃ u, u = (lane 31 3 (chip .tray)).elapse 0 ∧ u.coreOn = true ∧ u.laneUp 31 = true ∧ u.isDown 31 = true ∧
      u.role ≠ .root) ∧
    (∃ u, u = ({ lane 31 3 (chip .root) with bar := { trees := [(3, tree0)] } }).elapse 0 ∧ u.coreOn = true ∧
      u.laneUp 31 = true ∧ u.isDown 31 = true ∧ u.role = .root ∧ u.bar.trees = [(3, tree0)] ∧ tree0.issued = true ∧
      tree0.complete = false ∧ tree0.seq = some 9 ∧ tree0.op = 3 ∧ (∀ d ∈ tree0.ackSet, d ∈ [5])) ∧
    (∃ u, u = ({ lane 1 3 die with bar := { fwd := [fwd0 [(1, 0)] false] } }).elapse 0 ∧ u.coreOn = true ∧
      u.laneUp 1 = true ∧ u.bar.fwd = [(fwd0 [(1, 0)] false)] ∧ (fwd0 [(1, 0)] false).msg.body = .release 5 7 ∧ 2 = 2 ∧
      (fwd0 [(1, 0)] false).msg.job = 1 ∧ (fwd0 [(1, 0)] false).msg.id = 4094 ∧ (fwd0 [(1, 0)] false).msg.seq = 0 ∧
      (fwd0 [(1, 0)] false).waits = [(u.groupOf 1, 0)]) ∧
    (∃ u, u = ({ lane 1 3 die with bar := { fwd := [fwd0 [(1, 0), (2, 3)] false] } }).elapse 0 ∧ u.coreOn = true ∧
      u.laneUp 1 = true ∧ u.bar.fwd = [(fwd0 [(1, 0), (2, 3)] false)] ∧
      (fwd0 [(1, 0), (2, 3)] false).msg.body = .release 5 7 ∧ 2 = 2 ∧ (fwd0 [(1, 0), (2, 3)] false).msg.job = 1 ∧
      (fwd0 [(1, 0), (2, 3)] false).msg.id = 4094 ∧ (fwd0 [(1, 0), (2, 3)] false).msg.seq = 0 ∧ 2 ≠ u.groupOf 1 ∧
      (fwd0 [(1, 0), (2, 3)] false).waits = [(u.groupOf 1, 0), (2, 3)]) ∧
    (∃ u, u = (at_ 1000000000000 ({ chip .tray with bar := { fwd := [fwd0 [(31, 0)] false] } })).elapse 0 ∧
      u.coreOn = true ∧ u.bar.fwd = [(fwd0 [(31, 0)] false)] ∧ (fwd0 [(31, 0)] false).msg.body = .release 5 7 ∧
      (fwd0 [(31, 0)] false).waits = [(31, 0)] ∧ 0 ≤ u.time.now ∧ (fwd0 [(31, 0)] false).msg.reissue = false) ∧
    (∃ u, u = (at_ 1000000000000 ({ chip .tray with bar := { fwd := [fwd0 [(31, 0)] true] } })).elapse 0 ∧ u.coreOn = true ∧
      u.bar.fwd = [(fwd0 [(31, 0)] true)] ∧ (fwd0 [(31, 0)] true).msg.body = .release 5 7 ∧
      (fwd0 [(31, 0)] true).waits = [(31, 0)] ∧ 0 ≤ u.time.now ∧ (fwd0 [(31, 0)] true).msg.reissue = true) ∧
    (∃ u, u = (at_ 1000000000000 ({ chip .tray with bar := { unions := [{ tree := 1, seq := 2, job := 3, union := [5], due := some 0 }] } })).elapse 0 ∧
      u.coreOn = true ∧ u.isDie = false ∧ u.role ≠ .root ∧
      u.bar.unions = [({ tree := 1, seq := 2, job := 3, union := [5], due := some 0 } : AckUnion)] ∧
      ({ tree := 1, seq := 2, job := 3, union := [5], due := some 0 } : AckUnion).due = some 0 ∧ 0 ≤ u.time.now) ∧
    (∃ u, u = (at_ 1000000000000 ({ chip .root with bar := { trees := [(3, tree0)] } })).elapse 0 ∧ u.coreOn = true ∧
      u.role = .root ∧ u.bar.trees = [(3, tree0)] ∧ tree0.issued = true ∧ tree0.complete = false ∧ tree0.reported = false ∧
      tree0.reportAt ≤ u.time.now) ∧
    (∃ u, u = (chip .root).elapse 0 ∧ u.coreOn = true ∧ u.role = .root) :=
  ⟨⟨_, rfl, by decide +kernel⟩,
   ⟨_, rfl, by decide +kernel⟩,
   ⟨_, rfl, by decide +kernel⟩,
   ⟨_, rfl, by decide +kernel⟩,
   ⟨_, rfl, by decide +kernel⟩,
   ⟨_, rfl, by decide +kernel⟩,
   ⟨_, rfl, by decide +kernel⟩,
   ⟨_, rfl, by decide +kernel⟩,
   ⟨_, rfl, by decide +kernel⟩,
   ⟨_, rfl, by decide +kernel⟩,
   ⟨_, rfl, by decide +kernel⟩⟩

theorem hyp_DownwardCommandsComplete :
    (∃ u, u = ({ lane 0 3 die with bar := { leaf := { arrivals := [⟨4095, 0, none, 0, true, 0xFFFF⟩] } } }).elapse 0 ∧
      u.coreOn = true ∧ u.laneUp 0 = true ∧ u.isDie = true ∧ frameGt 0 (u.rd Dict.memberEpoch) = false ∧
      (u.rd Dict.myJob) = u.rd Dict.myJob ∧ (∃ a ∈ u.bar.leaf.arrivals, a.awaiting = true ∧ a.job = (u.rd Dict.myJob) ∧
      a.barrier = 4095) ∧ ceilDiv u.time.now nsUnits + u.rd Dict.armMin ≤ (2 ^ 64 - 1)) ∧
    (∃ u, u = (at_ 1000 ({ lane 0 3 die with bar := { leaf := { arrivals := [⟨4095, 0, none, 0, true, 0xFFFF⟩] } } })).elapse 0 ∧
      u.coreOn = true ∧ u.laneUp 0 = true ∧ u.isDie = true ∧ frameGt 0 (u.rd Dict.memberEpoch) = false ∧
      (u.rd Dict.myJob) = u.rd Dict.myJob ∧ (∃ a ∈ u.bar.leaf.arrivals, a.awaiting = true ∧ a.job = (u.rd Dict.myJob) ∧
      a.barrier = 4095) ∧ 0 < ceilDiv u.time.now nsUnits + u.rd Dict.armMin) ∧
    (∃ u, u = (lane 35 3 (chip .tray)).elapse 0 ∧ u.coreOn = true ∧ u.laneUp 35 = true ∧ u.isDie = false ∧
      u.isDown 35 = false ∧
      ({ job := 1, id := 4094, seq := 0, epoch := 1, level := 4, reissue := false, body := .release 5 7 } : DownMsg) = { job := 1, id := 4094, seq := 0, epoch := 1, level := 4, reissue := false, body := .release 5 7 } ∧
      u.seenDown ({ job := 1, id := 4094, seq := 0, epoch := 1, level := 4, reissue := false, body := .release 5 7 } : DownMsg) = false ∧
      u.heldBack ({ job := 1, id := 4094, seq := 0, epoch := 1, level := 4, reissue := false, body := .release 5 7 } : DownMsg) = true) ∧
    (∃ u, u = (lane 35 3 (chip .tray)).elapse 0 ∧ u.coreOn = true ∧ u.laneUp 35 = true ∧ u.isDie = false ∧
      u.isDown 35 = false ∧
      ({ job := 1, id := 4094, seq := 0, epoch := 0, level := 4, reissue := false, body := .release 5 7 } : DownMsg) = { job := 1, id := 4094, seq := 0, epoch := 0, level := 4, reissue := false, body := .release 5 7 } ∧
      u.seenDown ({ job := 1, id := 4094, seq := 0, epoch := 0, level := 4, reissue := false, body := .release 5 7 } : DownMsg) = false ∧
      u.heldBack ({ job := 1, id := 4094, seq := 0, epoch := 0, level := 4, reissue := false, body := .release 5 7 } : DownMsg) = false) ∧
    (∃ u, u = (lane 0 3 die).elapse 0 ∧ u.coreOn = true ∧ u.laneUp 0 = true ∧ u.isDie = true ∧
      frameGt 0 (u.rd Dict.memberEpoch) = false ∧ (u.rd Dict.myJob) = u.rd Dict.myJob ∧ u.rd Dict.jobState = 0 ∧
      Tbl.get? u.bar.leaf.lastSeq 4095 = none) ∧
    (∃ u, u = ({ lane 35 3 (chip .tray) with bar := { trees := [(3, tree0)] } }).elapse 0 ∧ u.coreOn = true ∧
      u.laneUp 35 = true ∧ u.isDie = false ∧ u.isDown 35 = false ∧
      ({ job := 1, id := 3, seq := 10, epoch := 0, level := 4, reissue := false, body := .bcast 3 [] } : DownMsg) = { job := 1, id := 3, seq := 10, epoch := 0, level := 4, reissue := false, body := .bcast 3 [] } ∧
      u.seenDown ({ job := 1, id := 3, seq := 10, epoch := 0, level := 4, reissue := false, body := .bcast 3 [] } : DownMsg) = false ∧
      u.heldBack ({ job := 1, id := 3, seq := 10, epoch := 0, level := 4, reissue := false, body := .bcast 3 [] } : DownMsg) = false ∧
      Tbl.get? u.bar.trees 3 = some tree0) :=
  ⟨⟨_, rfl, by decide +kernel⟩,
   ⟨_, rfl, by decide +kernel⟩,
   ⟨_, rfl, by decide +kernel⟩,
   ⟨_, rfl, by decide +kernel⟩,
   ⟨_, rfl, by decide +kernel⟩,
   ⟨_, rfl, by decide +kernel⟩⟩

theorem hyp_EpochCommandsComplete :
    (∃ u, u = (lane 35 3 (chip .tray)).elapse 0 ∧ u.coreOn = true ∧ u.laneUp 35 = true ∧ u.isDown 35 = false ∧
      ({ job := 0xFFFF, id := 0xFFF, seq := 0, epoch := 1, level := 4, reissue := false, body := .epoch 0 0 1 false [] } : DownMsg) = { job := 0xFFFF, id := 0xFFF, seq := 0, epoch := 1, level := 4, reissue := false, body := .epoch 0 0 1 false [] } ∧
      frameGt 1 (u.rd Dict.memberEpoch) = true ∧
      (∀ x ∈ u.bar.segs, x.key ≠ ({ job := 0xFFFF, id := 0xFFF, seq := 0, epoch := 1, level := 4, reissue := false, body := .epoch 0 0 1 false [] } : DownMsg).key) ∧
      u.bar.applying = none ∧ u.bar.held = []) ∧
    (∃ u, u = ({ die.wr Dict.dieId 5 with bar := { segs := [({ job := 0xFFFF, id := 0xFFF, seq := 0, epoch := 1, level := 4, reissue := false, body := .epoch 0 0 1 false [.die 5 1 true] } : DownMsg)] } }).elapse 0 ∧
      u.coreOn = true ∧ u.isDie = true ∧
      u.nextLeafSeg = some ({ job := 0xFFFF, id := 0xFFF, seq := 0, epoch := 1, level := 4, reissue := false, body := .epoch 0 0 1 false [.die 5 1 true] } : DownMsg) ∧
      ({ job := 0xFFFF, id := 0xFFF, seq := 0, epoch := 1, level := 4, reissue := false, body := .epoch 0 0 1 false [.die 5 1 true] } : DownMsg).body = .epoch 0 0 1 false [.die (u.rd Dict.dieId) 1 true]) ∧
    (∃ u, u = ({ chip .tray with bar := { segs := [({ job := 0xFFFF, id := 0xFFF, seq := 0, epoch := 1, level := 4, reissue := false, body := .epoch 0 0 1 false [] } : DownMsg)] } }).elapse 0 ∧
      u.coreOn = true ∧ u.isDie = false ∧
      u.nextSeg = some ({ job := 0xFFFF, id := 0xFFF, seq := 0, epoch := 1, level := 4, reissue := false, body := .epoch 0 0 1 false [] } : DownMsg) ∧
      ({ job := 0xFFFF, id := 0xFFF, seq := 0, epoch := 1, level := 4, reissue := false, body := .epoch 0 0 1 false [] } : DownMsg).body = .epoch 0 0 1 false []) ∧
    (∃ u, u = ((chip .root).wr Dict.epochLastIssued 0xFFFFFFFF).elapse 0 ∧ u.serves Dict.epochIssue ∧
      0 = (u.rd Dict.epochLastIssued + 1) % 2 ^ 32) ∧
    (∃ u, u = (((chip .root).wr Dict.bcastTree 0xFFE).wr Dict.bcastOp 1).elapse 0 ∧ u.serves Dict.bcastIssue ∧
      0xFFE = u.rd Dict.bcastTree ∧ 0xFFE < 0xFFF ∧ ((∀ e ∈ u.bar.trees, e.2.complete = true ∨ e.2.issued = false)) ∧
      u.rd Dict.bcastOp = 1 ∧ Tbl.get? u.bar.trees 0xFFE = none) ∧
    (∃ u, u = ({ ((chip .root).wr Dict.bcastOp 3).wr Dict.bcastJob 1 with bar := { trees := [(0, { tree0 with complete := true })] } }).elapse 0 ∧
      u.serves Dict.bcastIssue ∧ 0 = u.rd Dict.bcastTree ∧ 0 < 0xFFF ∧
      ((∀ ee ∈ u.bar.trees, ee.2.complete = true ∨ ee.2.issued = false)) ∧ u.rd Dict.bcastOp = 3 ∧
      Tbl.get? u.bar.trees 0 = some ({ tree0 with complete := true } : Tree) ∧
      ({ tree0 with complete := true } : Tree).job = u.rd Dict.bcastJob ∧
      ({ tree0 with complete := true } : Tree).complete = true) ∧
    (∃ u, u = ({ (((chip .root).wr Dict.bcastOp 2).wr Dict.bcastJob 1).wr Dict.epochLastIssued 1 with bar := { trees := [(0, { tree0 with complete := true })] } }).elapse 0 ∧
      u.serves Dict.bcastIssue ∧ 0 = u.rd Dict.bcastTree ∧ 0 < 0xFFF ∧
      ((∀ ee ∈ u.bar.trees, ee.2.complete = true ∨ ee.2.issued = false)) ∧ u.rd Dict.bcastOp = 2 ∧
      Tbl.get? u.bar.trees 0 = some ({ tree0 with complete := true } : Tree) ∧
      ({ tree0 with complete := true } : Tree).job = u.rd Dict.bcastJob ∧
      ({ tree0 with complete := true } : Tree).complete = true ∧
      frameGt (u.rd Dict.epochLastIssued) (u.rd Dict.memberEpoch) = true) ∧
    (∃ u, u = ({ die with bar := { leaf := { teardown := some (1, 2, 3) } } }).elapse 0 ∧ u.coreOn = true ∧ u.isDie = true ∧
      u.bar.leaf.teardown = some (1, 2, 3) ∧ u.bar.leaf.heldStart = none) :=
  ⟨⟨_, rfl, by decide +kernel⟩,
   ⟨_, rfl, by decide +kernel⟩,
   ⟨_, rfl, by decide +kernel⟩,
   ⟨_, rfl, by simp only [State.serves]; decide +kernel⟩,
   ⟨_, rfl, by simp only [State.serves]; decide +kernel⟩,
   ⟨_, rfl, by simp only [State.serves]; decide +kernel⟩,
   ⟨_, rfl, by simp only [State.serves]; decide +kernel⟩,
   ⟨_, rfl, by decide +kernel⟩⟩

theorem hyp_OverlayCommandsComplete :
    (∃ u, u = (die).elapse 0 ∧ u.serves Dict.overlayArm) ∧
    (∃ u, u = (die).elapse 0 ∧ u.serves Dict.overlayArm) ∧
    (∃ u, u = ((lane 31 3 (chip .tray)).wrBytes Dict.overlayPairs ([5, 0, 0, 0, 6, 0, 0, 0] ++ zeros 120)).elapse 0 ∧
      u.coreOn = true ∧ u.isDown 31 = true ∧ u.laneUp 31 = true ∧ digest0.kind = 0 ∧ digest0.overlay = true ∧
      u.pairOf digest0.die = some (0, false) ∧
      ((u.unmatchedOf (2 * 0 + bit (!false))).find? (fun e => e.1.ordinal == digest0.ordinal) = none) ∧
      (u.unmatchedOf (2 * 0 + bit false)).length < 1024) ∧
    (∃ u, u = ({ (lane 31 3 (chip .tray)).wrBytes Dict.overlayPairs ([5, 0, 0, 0, 6, 0, 0, 0] ++ zeros 120) with ev := { unmatched := [(1, [({ digest0 with die := 6 }, 0)])] } }).elapse 0 ∧
      u.coreOn = true ∧ u.isDown 31 = true ∧ u.laneUp 31 = true ∧ digest0.kind = 0 ∧ digest0.overlay = true ∧
      u.pairOf digest0.die = some (0, false) ∧
      ((u.unmatchedOf (2 * 0 + bit (!false))).find? (fun ee => ee.1.ordinal == digest0.ordinal) = some ({ digest0 with die := 6 }, 0)) ∧
      overlayCause (if false then ({ digest0 with die := 6 }, 0).1 else digest0) (if false then digest0 else ({ digest0 with die := 6 }, 0).1) = 0) ∧
    (∃ u, u = (chip .tray).elapse 0 ∧ u.coreOn = true ∧ 31 < 32) ∧
    (∃ u, u = (at_ 1000000000000 ({ die with ev := { bracket := [(63, bracket0)] } })).elapse 0 ∧ u.coreOn = true ∧
      u.ev.bracket = [(63, bracket0)] ∧ u.passed bracket0.since (u.rd Dict.bracketWait) = true) :=
  ⟨⟨_, rfl, by simp only [State.serves]; decide +kernel⟩,
   ⟨_, rfl, by simp only [State.serves]; decide +kernel⟩,
   ⟨_, rfl, by decide +kernel⟩,
   ⟨_, rfl, by decide +kernel⟩,
   ⟨_, rfl, by decide +kernel⟩,
   ⟨_, rfl, by decide +kernel⟩⟩

theorem hyp_TestCommandsComplete :
    (∃ u, u = (at_ 1000000000000 (die)).elapse 0 ∧ u.isDie = true ∧ u.keeperOn = true ∧
      u.ev.boundLast + u.rd Dict.boundPeriod * secUnits ≤ u.time.run) ∧
    (∃ u, u = (at_ 1000000000000 (((die.wr Dict.boundEnforce 1).wr Dict.boundTarget 0).wr Dict.fBound 1023)).elapse 0 ∧
      u.isDie = true ∧ u.keeperOn = true ∧ u.ev.boundLast + u.rd Dict.boundPeriod * secUnits ≤ u.time.run ∧
      u.flag Dict.boundEnforce = true ∧ flLt (flDecode f32 (u.rd Dict.boundTarget)) u.boundNow = true ∧
      u.rd Dict.fBound < 1024) ∧
    (∃ u, u = (at_ 1000000000000 ({ die with kp := {} })).elapse 0 ∧ u.isDie = true ∧ u.coreOn = true ∧ u.keeperOn = false ∧
      u.ev.boundLast + u.rd Dict.boundPeriod * secUnits ≤ u.time.run ∧ 0 < u.rd Dict.boundPeriod) ∧
    (∃ u, u = (die).elapse 0 ∧ u.serves Dict.boundReset) ∧
    (∃ u, u = (die).elapse 0 ∧ u.serves Dict.boundEnforce) ∧
    (∃ u, u = (die).elapse 0 ∧ u.serves Dict.boundEnforce) ∧
    (∃ u, u = ({ die with ev := { tests := (List.range 64).map (fun i => (i, test0)) } }).elapse 0 ∧
      u.serves Dict.testRequest ∧ ((List.range 64).find? (fun i => (Tbl.get? u.ev.tests i).isNone) = none)) ∧
    (∃ u, u = ({ die with ev := { tests := (List.range 63).map (fun i => (i, test0)) } }).elapse 0 ∧
      u.serves Dict.testRequest ∧ ((List.range 64).find? (fun ii => (Tbl.get? u.ev.tests ii).isNone) = some 63)) ∧
    (∃ u, u = ({ die with ev := { tests := [(63, test0)] } }).elapse 0 ∧ u.serves Dict.testCancel ∧ 63 < 64 ∧
      Tbl.get? u.ev.tests 63 = some test0) ∧
    (∃ u, u = (die).elapse 0 ∧ u.serves Dict.testCancel ∧ 63 < 64 ∧ Tbl.get? u.ev.tests 63 = none) ∧
    (∃ u, u = ({ die with ev := { tests := [(63, test0)] } }).elapse 0 ∧ u.coreOn = true ∧ u.ev.tests = [(63, test0)] ∧
      test0.issued = false ∧ test0.overdue = false ∧ test0.deadline ≤ u.nowNs) ∧
    (∃ u, u = ({ die with ev := { tests := [(63, ({ test0 with issued := true } : TestEntry))] } }).elapse 0 ∧
      u.coreOn = true ∧ u.isDie = true ∧ u.ev.tests = [(63, ({ test0 with issued := true } : TestEntry))] ∧
      ({ test0 with issued := true } : TestEntry).issued = true) ∧
    (∃ u, u = ({ die with ev := { tests := [(63, ({ test0 with issued := true } : TestEntry))] } }).elapse 0 ∧
      u.coreOn = true ∧ u.isDie = true ∧ u.ev.tests = [(63, ({ test0 with issued := true } : TestEntry))] ∧
      ({ test0 with issued := true } : TestEntry).issued = true ∧ 65535 % 65536 ≠ 0) :=
  ⟨⟨_, rfl, by decide +kernel⟩,
   ⟨_, rfl, by decide +kernel⟩,
   ⟨_, rfl, by decide +kernel⟩,
   ⟨_, rfl, by simp only [State.serves]; decide +kernel⟩,
   ⟨_, rfl, by simp only [State.serves]; decide +kernel⟩,
   ⟨_, rfl, by simp only [State.serves]; decide +kernel⟩,
   ⟨_, rfl, by simp only [State.serves]; decide +kernel⟩,
   ⟨_, rfl, by simp only [State.serves]; decide +kernel⟩,
   ⟨_, rfl, by simp only [State.serves]; decide +kernel⟩,
   ⟨_, rfl, by simp only [State.serves]; decide +kernel⟩,
   ⟨_, rfl, by decide +kernel⟩,
   ⟨_, rfl, by decide +kernel⟩,
   ⟨_, rfl, by decide +kernel⟩⟩

theorem hyp_PortCommandsComplete :
    (∃ u, u = (die).elapse 0 ∧ u.ceFree) ∧
    (∃ u, u = ({ die with cnt := { cmds := [(131071, (⟨0, 0, 5, 15⟩ : OpenCmd))] } }).elapse 0 ∧ u.ceFree ∧
      Tbl.get? u.cnt.cmds 131071 = some (⟨0, 0, 5, 15⟩ : OpenCmd)) ∧
    (∃ u, u = (die).elapse 0 ∧ u.ceFree ∧ Tbl.get? u.cnt.cmds 131071 = none) ∧
    (∃ u, u = (die).elapse 0 ∧ u.ceFree) ∧
    (∃ u, u = (die).elapse 0 ∧ u.ceFree) ∧
    (∃ u, u = (die).elapse 0 ∧ u.ceFree) ∧
    (∃ u, u = ({ die with ce := { outQ := [.select 1 false 0] } }).elapse 0 ∧ u.coreOn = true ∧
      u.ce.outQ = (.select 1 false 0) :: [] ∧ u.ce.inQ = [] ∧ u.ce.offered = []) ∧
    (∃ u, u = (die.wr Dict.powerState 2).elapse 0 ∧ u.isDie = true ∧ u.inReset = false ∧ u.rd Dict.powerState ≠ 0 ∧
      u.pw.entering = none ∧ u.pw.waking = none) :=
  ⟨⟨_, rfl, by simp only [State.ceFree]; decide +kernel⟩,
   ⟨_, rfl, by simp only [State.ceFree]; decide +kernel⟩,
   ⟨_, rfl, by simp only [State.ceFree]; decide +kernel⟩,
   ⟨_, rfl, by simp only [State.ceFree]; decide +kernel⟩,
   ⟨_, rfl, by simp only [State.ceFree]; decide +kernel⟩,
   ⟨_, rfl, by simp only [State.ceFree]; decide +kernel⟩,
   ⟨_, rfl, by decide +kernel⟩,
   ⟨_, rfl, by decide +kernel⟩⟩

theorem hyp_EvidenceMessagesComplete :
    (∃ u, u = (die).elapse 0 ∧ u.ceFree ∧ Tbl.get? u.ev.tags (65535 % 4096) = none) ∧
    (∃ u, u = ({ die with ev := { tags := [(4095, (⟨65535, 0, [], false⟩ : TagSlot))] } }).elapse 0 ∧ u.ceFree ∧
      Tbl.get? u.ev.tags (65535 % 4096) = some (⟨65535, 0, [], false⟩ : TagSlot) ∧
      (⟨65535, 0, [], false⟩ : TagSlot).tag = 65535) ∧
    (∃ u, u = ({ die with ev := { bracket := [(63, bracket0)] } }).elapse 0 ∧ u.ceFree ∧
      Tbl.get? u.ev.bracket 63 = some bracket0) ∧
    (∃ u, u = ({ die with ev := { bracket := [(63, bracket0)] } }).elapse 0 ∧ u.ceFree ∧
      Tbl.get? u.ev.bracket 63 = some bracket0) ∧
    (∃ u, u = ({ die with ev := { bracket := [(63, bracket0)] } }).elapse 0 ∧ u.ceFree ∧
      Tbl.get? u.ev.bracket 63 = some bracket0 ∧ bracket0.orig.closed = false ∧ bracket0.dup.closed = false) ∧
    (∃ u, u = ({ die with ev := { bracket := [(63, ({ bracket0 with dup := { closed := true } } : BracketSlot))] } }).elapse 0 ∧
      u.ceFree ∧ Tbl.get? u.ev.bracket 63 = some ({ bracket0 with dup := { closed := true } } : BracketSlot) ∧
      ({ bracket0 with dup := { closed := true } } : BracketSlot).orig.closed = false ∧
      ({ bracket0 with dup := { closed := true } } : BracketSlot).dup.closed = true ∧
      sumTaps ({ bracket0 with dup := { closed := true } } : BracketSlot).orig.taps = sumTaps ({ bracket0 with dup := { closed := true } } : BracketSlot).dup.taps) ∧
    (∃ u, u = ({ die with ev := { bracket := [(63, ({ bracket0 with dup := { closed := true, taps := [(0, ⟨1, 1, false⟩)] } } : BracketSlot))] } }).elapse 0 ∧
      u.ceFree ∧
      Tbl.get? u.ev.bracket 63 = some ({ bracket0 with dup := { closed := true, taps := [(0, ⟨1, 1, false⟩)] } } : BracketSlot) ∧
      ({ bracket0 with dup := { closed := true, taps := [(0, ⟨1, 1, false⟩)] } } : BracketSlot).orig.closed = false ∧
      ({ bracket0 with dup := { closed := true, taps := [(0, ⟨1, 1, false⟩)] } } : BracketSlot).dup.closed = true ∧
      sumTaps ({ bracket0 with dup := { closed := true, taps := [(0, ⟨1, 1, false⟩)] } } : BracketSlot).orig.taps ≠ sumTaps ({ bracket0 with dup := { closed := true, taps := [(0, ⟨1, 1, false⟩)] } } : BracketSlot).dup.taps) ∧
    (∃ u, u = ({ die with ev := { bracket := [(63, bracket0)] } }).elapse 0 ∧ u.ceFree ∧
      Tbl.get? u.ev.bracket 63 = some bracket0) ∧
    (∃ u, u = (die).elapse 0 ∧ u.ceFree) ∧
    (∃ u, u = ({ die with ev := { staged := [(15, (7, true))] } }).elapse 0 ∧ u.ceFree ∧
      Tbl.get? u.ev.staged 15 = some (7, true)) ∧
    (∃ u, u = ({ die with ev := { shards := [(15, { id := 7, write := true, base := 0, length := 64 })] } }).elapse 0 ∧
      u.ceFree ∧ Tbl.get? u.ev.shards 15 = some ({ id := 7, write := true, base := 0, length := 64 } : ShardSlot)) ∧
    (∃ u, u = ({ die with ev := { tests := [(63, test0)] } }).elapse 0 ∧ u.ceFree ∧ u.ev.tests = [(63, test0)] ∧
      test0.issued = false) ∧
    (∃ u, u = ({ die with ev := { tags := [(4095, (⟨65535, 0, [], false⟩ : TagSlot))] } }).elapse 0 ∧ u.loupeOn 0 = true ∧
      Tbl.get? u.ev.tags (65535 % 4096) = some (⟨65535, 0, [], false⟩ : TagSlot) ∧
      (⟨65535, 0, [], false⟩ : TagSlot).tag = 65535) :=
  ⟨⟨_, rfl, by simp only [State.ceFree]; decide +kernel⟩,
   ⟨_, rfl, by simp only [State.ceFree]; decide +kernel⟩,
   ⟨_, rfl, by simp only [State.ceFree]; decide +kernel⟩,
   ⟨_, rfl, by simp only [State.ceFree]; decide +kernel⟩,
   ⟨_, rfl, by simp only [State.ceFree]; decide +kernel⟩,
   ⟨_, rfl, by simp only [State.ceFree]; decide +kernel⟩,
   ⟨_, rfl, by simp only [State.ceFree]; decide +kernel⟩,
   ⟨_, rfl, by simp only [State.ceFree]; decide +kernel⟩,
   ⟨_, rfl, by simp only [State.ceFree]; decide +kernel⟩,
   ⟨_, rfl, by simp only [State.ceFree]; decide +kernel⟩,
   ⟨_, rfl, by simp only [State.ceFree]; decide +kernel⟩,
   ⟨_, rfl, by simp only [State.ceFree]; decide +kernel⟩,
   ⟨_, rfl, by decide +kernel⟩⟩

theorem hyp_TraceCommandsComplete :
    (∃ u, u = (die).elapse 0 ∧ u.serves Dict.traceEnable) ∧
    (∃ u, u = ({ die with tr := { sources := [(9, { enabled := true })] } }).elapse 0 ∧ u.coreOn = true ∧ u.isDie = true ∧
      7 < 8 ∧ (u.trc (7 + 2)).enabled = true ∧ (2 ^ 64 - 1) ≤ (2 ^ 64 - 1) ∧
      ((2 ^ 64 - 1) - (2 ^ 64 - 1)) % 2 ^ (u.rd Dict.srcAlign (7 + 2) % 4) = 0 ∧ 2 ≤ 2) ∧
    (∃ u, u = ({ die with tr := { sources := [(9, { enabled := true })] } }).elapse 0 ∧ u.coreOn = true ∧ u.isDie = true ∧
      7 < 8 ∧ (u.trc (7 + 2)).enabled = true ∧ 0 ≤ 8 ∧ (8 - 0) % 2 ^ (u.rd Dict.srcAlign (7 + 2) % 4) = 0) ∧
    (∃ u, u = (die).elapse 0 ∧ u.coreOn = true ∧ u.isDie = true ∧ 7 < 8) ∧
    (∃ u, u = (at_ 1000000000000 (die)).elapse 0 ∧ u.coreOn = true ∧ 9 ∈ u.traceSources ∧
      u.passed (u.trc 9).lastPacket 1000 = true) ∧
    (∃ u, u = (at_ 1000000000000 ({ die with tr := { sources := [(9, { enabled := true })] } })).elapse 0 ∧
      u.coreOn = true ∧ 9 ∈ u.traceSources ∧ (u.trc 9).enabled = true ∧
      u.passed (u.trc 9).lastSync (u.rd Dict.syncPeriod) = true) ∧
    (∃ u, u = ({ die with tr := { lines := [(9, [])] } }).elapse 0 ∧ u.coreOn = true ∧ u.tr.lines = (9, []) :: [] ∧
      u.sinkFull = false) ∧
    (∃ u, u = (at_ 1000000000000 (die)).elapse 0 ∧ u.coreOn = true ∧ 9 ∈ u.traceSources ∧
      u.passed (u.trc 9).unit.since (u.rd Dict.offloadFlush) = true) ∧
    (∃ u, u = (lane 31 3 (chip .tray)).elapse 0 ∧ u.coreOn = true ∧ u.role = .tray ∧ u.isDown 31 = true ∧
      u.laneUp 31 = true) ∧
    (∃ u, u = ({ chip .tray with tr := { cursorAt := some 0 } }).elapse 0 ∧ u.serves Dict.storeRead ∧
      u.storeNext = (none, false)) ∧
    (∃ u, u = ({ (chip .tray).wr Dict.traceStoreSize 128 with tr := { store := [(0, 64)], storePos := 64, cursorAt := some 0 } }).elapse 0 ∧
      u.serves Dict.storeRead ∧ u.storeNext = (some (0, 64), false)) :=
  ⟨⟨_, rfl, by simp only [State.serves]; decide +kernel⟩,
   ⟨_, rfl, by decide +kernel⟩,
   ⟨_, rfl, by decide +kernel⟩,
   ⟨_, rfl, by decide +kernel⟩,
   ⟨_, rfl, by decide +kernel⟩,
   ⟨_, rfl, by decide +kernel⟩,
   ⟨_, rfl, by decide +kernel⟩,
   ⟨_, rfl, by decide +kernel⟩,
   ⟨_, rfl, by decide +kernel⟩,
   ⟨_, rfl, by simp only [State.serves]; decide +kernel⟩,
   ⟨_, rfl, by simp only [State.serves]; decide +kernel⟩⟩

theorem hyp_CodecCommandsComplete :
    (∃ u, u = (chip .tray).elapse 0 ∧ u.serves Dict.prcStart 3 ∧ u.rd Dict.prcStatus 3 ≠ 1 ∧ u.rd Dict.prcStatus 3 ≠ 4) ∧
    (∃ u, u = ((chip .tray).wr Dict.prcStatus 4 3).elapse 0 ∧ u.serves Dict.prcStart 3 ∧
      (u.rd Dict.prcStatus 3 = 1 ∨ u.rd Dict.prcStatus 3 = 4)) ∧
    (∃ u, u = ({ (chip .tray).wr Dict.prcStatus 4 3 with prc := [(3, job0)] }).elapse 0 ∧ u.serves Dict.prcResume 3 ∧
      u.rd Dict.prcStatus 3 = 4 ∧ Tbl.get? u.prc 3 = some job0) ∧
    (∃ u, u = (chip .tray).elapse 0 ∧ u.serves Dict.prcResume 3 ∧ u.rd Dict.prcStatus 3 ≠ 4) ∧
    (∃ u, u = ({ (chip .tray).wr Dict.prcStatus 4 3 with prc := [(3, job0)] }).elapse 0 ∧ u.serves Dict.prcAbort 3 ∧
      u.rd Dict.prcStatus 3 = 4 ∧ Tbl.get? u.prc 3 = some job0) ∧
    (∃ u, u = (chip .tray).elapse 0 ∧ u.serves Dict.prcAbort 3 ∧ u.rd Dict.prcStatus 3 ≠ 1 ∧ u.rd Dict.prcStatus 3 ≠ 4) ∧
    (∃ u, u = ({ (chip .tray).wr Dict.prcStatus 1 3 with prc := [(3, job0)] }).elapse 0 ∧ u.coreOn = true ∧
      u.rd Dict.prcStatus 3 = 1 ∧ Tbl.get? u.prc 3 = some job0 ∧ u.prcPermitted job0 = true ∧
      u.rd Dict.prcInConsumed 3 = 0 ∧ u.rd Dict.prcOutProduced 3 = 0 ∧ job0.used = 0 ∧ 0 < job0.inLen ∧
      u.prcFull job0 0 = false ∧
      u.prcBlock job0 0 = .ok ((match u.prcBlock job0 0 with | .ok r => r.1 | _ => []), job0.inLen) ∧
      (match u.prcBlock job0 0 with | .ok r => r.1 | _ => []).length ≤ job0.outLen) ∧
    (∃ u, u = ({ (chip .tray).wr Dict.prcStatus 1 3 with prc := [(3, ({ job0 with outLen := 0 } : PrcJob))] }).elapse 0 ∧
      u.coreOn = true ∧ u.rd Dict.prcStatus 3 = 1 ∧ Tbl.get? u.prc 3 = some ({ job0 with outLen := 0 } : PrcJob) ∧
      u.prcPermitted ({ job0 with outLen := 0 } : PrcJob) = true ∧
      u.rd Dict.prcInConsumed 3 < ({ job0 with outLen := 0 } : PrcJob).inLen ∧
      u.prcBlock ({ job0 with outLen := 0 } : PrcJob) (u.rd Dict.prcInConsumed 3) = .ok ((match u.prcBlock ({ job0 with outLen := 0 } : PrcJob) 0 with | .ok r => r.1 | _ => []), 2) ∧
      ({ job0 with outLen := 0 } : PrcJob).outLen < ({ job0 with outLen := 0 } : PrcJob).used + (match u.prcBlock ({ job0 with outLen := 0 } : PrcJob) 0 with | .ok r => r.1 | _ => []).length) ∧
    (∃ u, u = (({ (chip .tray).wr Dict.prcStatus 1 3 with prc := [(3, ({ job0 with op := 2, inLen := 8, outLen := 0 } : PrcJob))] } : State).stackWrite 0x400000000 (leBytes 8 (2 ^ 26))).elapse 0 ∧
      u.coreOn = true ∧ u.rd Dict.prcStatus 3 = 1 ∧
      Tbl.get? u.prc 3 = some ({ job0 with op := 2, inLen := 8, outLen := 0 } : PrcJob) ∧
      u.prcPermitted ({ job0 with op := 2, inLen := 8, outLen := 0 } : PrcJob) = true ∧
      u.rd Dict.prcInConsumed 3 < ({ job0 with op := 2, inLen := 8, outLen := 0 } : PrcJob).inLen ∧
      u.prcFull ({ job0 with op := 2, inLen := 8, outLen := 0 } : PrcJob) (u.rd Dict.prcInConsumed 3) = true) ∧
    (∃ u, u = ({ (chip .tray).wr Dict.prcStatus 1 3 with prc := [(3, ({ job0 with op := 2 } : PrcJob))] }).elapse 0 ∧
      u.coreOn = true ∧ u.rd Dict.prcStatus 3 = 1 ∧ Tbl.get? u.prc 3 = some ({ job0 with op := 2 } : PrcJob) ∧
      u.prcPermitted ({ job0 with op := 2 } : PrcJob) = true ∧
      u.rd Dict.prcInConsumed 3 < ({ job0 with op := 2 } : PrcJob).inLen ∧
      u.prcFull ({ job0 with op := 2 } : PrcJob) (u.rd Dict.prcInConsumed 3) = false ∧
      u.prcBlock ({ job0 with op := 2 } : PrcJob) (u.rd Dict.prcInConsumed 3) = .error .lengthOverrun) :=
  ⟨⟨_, rfl, by simp only [State.serves]; decide +kernel⟩,
   ⟨_, rfl, by simp only [State.serves]; decide +kernel⟩,
   ⟨_, rfl, by simp only [State.serves]; decide +kernel⟩,
   ⟨_, rfl, by simp only [State.serves]; decide +kernel⟩,
   ⟨_, rfl, by simp only [State.serves]; decide +kernel⟩,
   ⟨_, rfl, by simp only [State.serves]; decide +kernel⟩,
   ⟨_, rfl, by decide +kernel⟩,
   ⟨_, rfl, by decide +kernel⟩,
   ⟨_, rfl, by decide +kernel⟩,
   ⟨_, rfl, by decide +kernel⟩⟩

theorem hyp_MailboxCommandsComplete :
    (∃ u, u = ({ die with mb := { h2b := List.replicate 15 0 } }).elapse 0 ∧ u.coreOn = true ∧ u.isDie = true ∧
      u.mb.h2b.length < 16) ∧
    (∃ u, u = ({ die with mb := { h2b := List.replicate 16 0 } }).elapse 0 ∧ u.coreOn = true ∧ u.isDie = true ∧
      16 ≤ u.mb.h2b.length) ∧
    (∃ u, u = ({ die with mb := { h2b := [1, 2] } }).elapse 0 ∧ u.coreOn = true ∧ u.isDie = true ∧
      fieldOf 0x11080002 4 0 = 2 ∧ fieldOf 0x11080002 31 24 = 0x11 ∧ 2 = wordsOf (fieldOf 0x11080002 22 16) ∧
      2 ≤ u.unclaimed.length ∧ (u.bell 2).state = .idle) ∧
    (({ die with mb := { h2b := [1, 2], claims := [⟨2, 2, 0, 0, 2⟩] } } : State).mb.claims = [(⟨2, 2, 0, 0, 2⟩ : H2bClaim)] ∧
      (⟨2, 2, 0, 0, 2⟩ : H2bClaim).readAt ≤ ({ die with mb := { h2b := [1, 2], claims := [⟨2, 2, 0, 0, 2⟩] } } : State).time.now ∧
      (⟨2, 2, 0, 0, 2⟩ : H2bClaim).ackAt ≤ ({ die with mb := { h2b := [1, 2], claims := [⟨2, 2, 0, 0, 2⟩] } } : State).time.now) ∧
    (∃ u, u = ({ die with mb := { b2h := [5] } }).elapse 0 ∧ u.coreOn = true ∧ u.isDie = true ∧ u.mb.b2h = 5 :: []) ∧
    (∃ u, u = (die).elapse 0 ∧ u.coreOn = true ∧ u.isDie = true ∧ 0x028 ≠ 0x01C) ∧
    (∃ u, u = ({ die with mb := { bells := [(34, { state := .rung })] } }).elapse 0 ∧ u.coreOn = true ∧ u.isDie = true ∧
      2 = 2 % 32 ∧ 2 ≠ 1 ∧ (u.bell (32 + 2)).state ≠ .idle ∧ u.mb.b2h.length ≤ u.wordsAfter 2) ∧
    (∃ u, u = (die).elapse 0 ∧ u.coreOn = true ∧ u.isDie = true) ∧
    (∃ u, u = ({ die with mb := { waiting := [⟨2, 0x11, zeros 64⟩] } }).elapse 0 ∧ u.coreOn = true ∧ u.isDie = true ∧
      u.nextMessage = some (⟨2, 0x11, zeros 64⟩ : MbMsg) ∧
      u.mb.b2h.length + wordsOf (⟨2, 0x11, zeros 64⟩ : MbMsg).bytes.length ≤ 16) ∧
    (∃ u, u = (at_ 1000000000000 ({ die with mb := { bells := [(34, { state := .rung })] } })).elapse 0 ∧ u.coreOn = true ∧
      u.mb.bells = [(34, ({ state := .rung } : Bell))] ∧ ({ state := .rung } : Bell).state = .rung ∧
      u.passed ({ state := .rung } : Bell).since (u.rd Dict.mbTimeout) = true) :=
  ⟨⟨_, rfl, by decide +kernel⟩,
   ⟨_, rfl, by decide +kernel⟩,
   ⟨_, rfl, by decide +kernel⟩,
   by decide +kernel,
   ⟨_, rfl, by decide +kernel⟩,
   ⟨_, rfl, by decide +kernel⟩,
   ⟨_, rfl, by decide +kernel⟩,
   ⟨_, rfl, by decide +kernel⟩,
   ⟨_, rfl, by decide +kernel⟩,
   ⟨_, rfl, by decide +kernel⟩⟩

theorem hyp_NegativeCommandsComplete :
    (∃ u, u = (chip .tray).elapse 0 ∧ u.serves Dict.negTake ∧ u.neg.state = .idle) ∧
    (∃ u, u = ({ chip .tray with neg := { state := .armed } }).elapse 0 ∧ u.serves Dict.negTake ∧ u.neg.state ≠ .idle) ∧
    (∃ u, u = (at_ 1000000000000 ((chip .tray).wr Dict.negPeriod 1)).elapse 0 ∧ u.isTrayChip = true ∧ u.keeperOn = true ∧
      u.rd Dict.negPeriod ≠ 0 ∧ u.neg.state = .idle ∧ u.passed u.neg.lastCapture (u.rd Dict.negPeriod * 1000000000) = true) ∧
    (∃ u, u = ({ die with neg := { state := .writing } }).elapse 0 ∧ u.keeperOn = true ∧ u.neg.state = .writing) ∧
    (∃ u, u = ({ die with kp := { die.kp with persisting := some (1, 0) } }).elapse 0 ∧ u.coreOn = true ∧
      u.kp.persisting = some (1, 0) ∧ u.kp.persistDue = false) :=
  ⟨⟨_, rfl, by simp only [State.serves]; decide +kernel⟩,
   ⟨_, rfl, by simp only [State.serves]; decide +kernel⟩,
   ⟨_, rfl, by decide +kernel⟩,
   ⟨_, rfl, by decide +kernel⟩,
   ⟨_, rfl, by decide +kernel⟩⟩

theorem hyp_DapCommandsComplete :
    (∃ u, u = (die).elapse 0 ∧ u.coreOn = true ∧ u.isDie = true ∧
      Dict.seed ∈ [Dict.seed, Dict.calmWatch, Dict.bracketWait] ∧ u.serves Dict.seed ∧ (2 ^ 32 - 1) < 2 ^ 32) ∧
    (∃ u, u = (die).elapse 0 ∧ u.coreOn = true ∧ u.isDie = true) ∧
    (∃ u, u = (chip .tray).elapse 0 ∧ u.coreOn = true ∧ u.isTrayChip = true) ∧
    (∃ u, u = (die).elapse 0 ∧ u.coreOn = true ∧ u.isDie = true ∧
      Dict.myJob ∈ [Dict.myJob, Dict.dieId, Dict.verdict, Dict.jobState, Dict.memberEpoch] ∧ u.serves Dict.myJob) ∧
    (∃ u, u = ({ die with dap := { queue := List.replicate 64 (10 ^ 20) } }).elapse 0 ∧ u.coreOn = true ∧ u.isDie = true ∧
      Dict.seed ∈ [Dict.seed, Dict.calmWatch] ∧ u.targetStatus Dict.seed.idx Dict.seed.sub = 0 ∧ u.queueFull = true) ∧
    (∃ u, u = (chip .tray).elapse 0 ∧ u.coreOn = true ∧ u.isTrayChip = true ∧
      ({ dest := [], port := 1, plain := true, bad := false } : Datagram).bad = false ∧
      ((({ dest := [], port := 1, plain := true, bad := false } : Datagram).plain = false ∨ ({ dest := [], port := 1, plain := true, bad := false } : Datagram).port ≠ u.dap.udpPort ∨ u.dap.answersAt ({ dest := [], port := 1, plain := true, bad := false } : Datagram).dest = false))) ∧
    (∃ u, u = (die).elapse 0 ∧ u.coreOn = true ∧ u.isDie = true ∧
      u.targetStatus Dict.verdictClear.idx Dict.verdictClear.sub = 0 ∧ u.queueFull = false) ∧
    (∃ u, u = (lane 1 3 die).elapse 0 ∧ u.coreOn = true ∧ u.laneUp 1 = true) ∧
    (∃ u, u = (die).elapse 0 ∧ u.coreOn = true) ∧
    (∃ u, u = (die).elapse 0 ∧ u.coreOn = true) ∧
    (∃ u, u = (at_ 1000000 { die with dap := { actions := [action0] } }).elapse 0 ∧ u.coreOn = true ∧
      u.dap.actions = [action0] ∧ action0.waiting = some (.mailbox, 1) ∧ action0.code = none ∧
      u.passed action0.since 1000000 = true) ∧
    (∃ u, u = ({ die with dap := { actions := [{ action0 with code := some 0 }] } }).elapse 0 ∧ u.coreOn = true ∧
      u.dap.actions = [({ action0 with code := some 0 } : CmdAction)] ∧
      ({ action0 with code := some 0 } : CmdAction).code = some 0 ∧ u.dap.held = []) ∧
    (∃ u, u = ({ chip .tray with dap := { mac := [2, 0, 0, 0, 0, 1], addr := zeros 15 ++ [9] } }).elapse 0 ∧
      u.coreOn = true ∧ u.isTrayChip = true ∧ u.dap.mac.all (· == 0) = false ∧ u.dap.answersAt (zeros 15 ++ [9]) = true) ∧
    (∃ u, u = ({ chip .tray with dap := { mac := [2, 0, 0, 0, 0, 1], addr := zeros 15 ++ [9] } }).elapse 0 ∧
      u.coreOn = true ∧ u.isTrayChip = true ∧ u.dap.mac.all (· == 0) = false ∧ u.dap.answersAt (zeros 15 ++ [9]) = true) :=
  ⟨⟨_, rfl, by simp only [State.serves]; decide +kernel⟩,
   ⟨_, rfl, by decide +kernel⟩,
   ⟨_, rfl, by decide +kernel⟩,
   ⟨_, rfl, by simp only [State.serves]; decide +kernel⟩,
   ⟨_, rfl, by decide +kernel⟩,
   ⟨_, rfl, by decide +kernel⟩,
   ⟨_, rfl, by decide +kernel⟩,
   ⟨_, rfl, by decide +kernel⟩,
   ⟨_, rfl, by decide +kernel⟩,
   ⟨_, rfl, by decide +kernel⟩,
   ⟨_, rfl, by decide +kernel⟩,
   ⟨_, rfl, by decide +kernel⟩,
   ⟨_, rfl, by decide +kernel⟩,
   ⟨_, rfl, by decide +kernel⟩⟩

/-! ### Hypotheses of the statements about the machine -/

/-- A state that legally waits for a command. -/
def waiting (c : Instr) : State := { State.reset with pending := [c] }

theorem hyp_StepRunsTheFrontCommand : State.reset.pending = [] := by decide

theorem hyp_EveryStepGoesOn : (waiting (.dimIdle 1)).pending = .dimIdle 1 :: [] := by decide

theorem hyp_EveryStepKeepsTheInstanceLegal :
    (waiting (.dimIdle 1)).legal ∧ ∃ t, step (waiting (.dimIdle 1)) = .next t := ⟨by unfold State.legal; decide, _, rfl⟩

theorem hyp_EveryStepKeepsTheStacksForm :
    (waiting (.dimIdle 1)).stackOk ∧ ∃ t, step (waiting (.dimIdle 1)) = .next t := ⟨by unfold State.stackOk; decide, _, rfl⟩

theorem hyp_StacksHoldWhatWasWritten :
    (15 < 16 ∨ 16 + ([7] : Bytes).length ≤ 15) ∧ (17 < 16 ∨ 16 + ([7] : Bytes).length ≤ 17) ∧ (15 < 16 ∨ 20 ≤ 15) := by decide

theorem hyp_MembershipChangesOnlyByEpochs : ∃ t, exec (.ackHold 0) die = .next t := ⟨_, rfl⟩

theorem hyp_FaultyIsLeftOnlyByClear :
    (die.moveVerdict 3).2.1 = true ∧ (die.moveVerdict 2).2.1 = true ∧ (die.wr Dict.verdict 3).rd Dict.verdict = 3 ∧
    ∃ t, exec (.verdictFormed 0) (die.wr Dict.verdict 3) = .next t :=
  ⟨by decide +kernel, by decide +kernel, by decide +kernel, _, rfl⟩

theorem hyp_SleepingCoreTakesNothing : ((die.wr Dict.powerState 1).elapse 5).coreOn = false ∧
    (({ die with pw := { entering := some 2 } } : State).elapse 0).coreOn = false := ⟨by decide +kernel, by decide +kernel⟩

/-- A core asleep to which a mailbox request, a lane's message, a datagram, and a datagram too many come. -/
theorem hyp_SleepingCoreTakesNothing_holds :
    (∃ u, u = (die.wr Dict.powerState 1).elapse 0 ∧ u.coreOn = false ∧ rq0.src = .mailbox) ∧
    (∃ u, u = (lane 47 3 ((chip .tray).wr Dict.powerState 1)).elapse 0 ∧ u.coreOn = false ∧ u.inReset = false ∧ u.laneUp 47 = true) ∧
    (∃ u, u = ((chip .root).wr Dict.powerState 2).elapse 0 ∧ u.coreOn = false ∧ u.inReset = false ∧ u.isTrayChip = true ∧ u.mgmtHeld < 16) ∧
    (∃ u, u = ({ (chip .root).wr Dict.powerState 2 with parked := List.replicate 16 (.neighborSolicitation 0 [] [] false) } : State).elapse 0 ∧
      u.coreOn = false ∧ u.inReset = false ∧ u.isTrayChip = true ∧ 16 ≤ u.mgmtHeld) :=
  ⟨⟨_, rfl, by decide +kernel⟩, ⟨_, rfl, by decide +kernel⟩, ⟨_, rfl, by decide +kernel⟩, ⟨_, rfl, by decide +kernel⟩⟩

theorem hyp_PowerCommandsComplete_held :
    ({ chip .tray with parked := [.dapResponse 0 31 { op := 1, reqId := 0, idx := 0, sub := 0 }] } : State).parked.length = 1 ∧
    (chip .tray).isDie = false := by decide +kernel

theorem hyp_StatusBitsClearByWritingOnes :
    (∃ u, u = die.elapse 0 ∧ u.coreOn = true ∧ u.isDie = true) ∧ die.hbIrq = false ∧
    ({ die with mb := { die.mb with irqEnable := 0x20 } } : State).hbIrq = true :=
  ⟨⟨_, rfl, by decide +kernel⟩, by decide +kernel, by decide +kernel⟩

theorem hyp_ZigzagReverses :
    (0 < 8 ∧ 255 < 2 ^ 8 ∧ 128 < 2 ^ 8 ∧ 0 ≤ toSigned 8 (255 + 2 ^ 8 - 128)) ∧
    (0 < 8 ∧ 0 < 2 ^ 8 ∧ 255 < 2 ^ 8 ∧ 0 ≤ toSigned 8 (0 + 2 ^ 8 - 255)) ∧
    (0 < 8 ∧ 0 < 2 ^ 8 ∧ 128 < 2 ^ 8 ∧ toSigned 8 (0 + 2 ^ 8 - 128) < 0) := by decide +kernel

theorem hyp_RoundHalfEvenIsNearest :
    (0 < 1) ∧ ((3 : Nat) ≠ divRhe 5 2 ∧ ((2 * 5 : Int) - 2 * 2 * divRhe 5 2).natAbs = ((2 * 5 : Int) - 2 * 2 * 3).natAbs) := by
  decide +kernel

theorem hyp_CodecGivesBackEveryBlock :
    (3 < 4 ∧ 1 ≤ 512 ∧ 512 * (prcWidthBits 3 / 8) ≤ 4096 ∧ 63 < prcWidthBits 3 ∧ 255 < 256 ∧ 0 < (zeros 4096).length ∧
      (zeros 4096).length ≤ 4096 ∧ (zeros 4096).length % (512 * (prcWidthBits 3 / 8)) = 0) ∧
    (0 < 4 ∧ 1 ≤ 1 ∧ 1 * (prcWidthBits 0 / 8) ≤ 4096 ∧ 0 < prcWidthBits 0 ∧ 0 < 256 ∧ 0 < (zeros 1).length ∧
      (zeros 1).length ≤ 4096 ∧ (zeros 1).length % (1 * (prcWidthBits 0 / 8)) = 0) := by
  simp only [zeros, List.length_replicate]; decide +kernel

theorem hyp_MessagesReadBack :
    (⟨63, 65535, 65535, 255, 7, 131071, [255], 2 ^ 32 - 1, 2 ^ 32 - 1, [1]⟩ : DapReq).ok = true ∧
    (∀ e ∈ [EpochEntry.die 131071 65535 true, EpochEntry.size 65535 131072], e.ok = true) ∧
    (15 < 16 ∧ 15 < 16 ∧ 4095 < 4096 ∧ 3 < 4 ∧ 63 < 64 ∧ -(2 ^ 63 : Int) ≤ -(2 ^ 63) ∧ (2 ^ 63 - 1 : Int) < 2 ^ 63) ∧
    (CeMsg.begin_ 131071 2047 15 65535 (2 ^ 32 - 1) true).ok = true ∧ CeMsg.ckptBoundary.ok = true := by
  decide +kernel

theorem hyp_SleepingCoreTakesNothing_runs : ∃ t, exec (.dimIdle 5) (die.wr Dict.powerState 1) = .next t := ⟨_, rfl⟩

theorem hyp_ResetAndKeeperFrame : (∃ t, exec (.logicReady 0) die = .next t) ∧ (die.elapse 0).parked = [] ∧ (die.elapse 0).ce.inQ = [] ∧
    (die.elapse 0).ce.offered = [] := ⟨⟨_, rfl⟩, by decide +kernel, by decide +kernel, by decide +kernel⟩
theorem hyp_ProtocolFrame : ∃ t, exec (.pendTimeout 0) die = .next t := ⟨_, rfl⟩
theorem hyp_TimeFrame : ∃ t, exec (.timeAnchor 0) die = .next t := ⟨_, rfl⟩
theorem hyp_CounterFrame : ∃ t, exec (.healthStrobe 0 63 1) die = .next t := ⟨_, rfl⟩
theorem hyp_PortFrame : (∃ t, exec (.arrive 0 4095) die = .next t) ∧ (die.elapse 0).ce.inQ = [] ∧ (die.elapse 0).ce.offered = [] :=
  ⟨⟨_, rfl⟩, by decide +kernel, by decide +kernel⟩
theorem hyp_DeveloperFrame : ∃ t, exec (.stackWrite 0 rq0 0 1 [7]) (chip .tray) = .next t := ⟨_, rfl⟩
theorem hyp_ReductionFrame : ∃ t, exec (.deadline 0) (chip .rack) = .next t := ⟨_, rfl⟩
theorem hyp_BarrierFrame : ∃ t, exec (.nackTimeout 0) (chip .root) = .next t := ⟨_, rfl⟩
theorem hyp_EvidenceFrame : ∃ t, exec (.overlayWait 0) (chip .tray) = .next t := ⟨_, rfl⟩
theorem hyp_LinkFrame : ∃ t, exec (.ack 0 1 0) die = .next t := ⟨_, rfl⟩

theorem hyp_TraceAndCodecFrame :
    (∃ t, exec (.offloadUnit 0 31 [1]) (chip .tray) = .next t) ∧
    ([1] : Bytes).length + 64 ≤ ((chip .tray).elapse 0).rd Dict.traceStoreSize ∧
    (∃ t, exec (.prcJobStop 0 3) { chip .tray with prc := [(3, job0)] } = .next t) ∧
    Tbl.get? (({ chip .tray with prc := [(3, job0)] } : State).elapse 0).prc 3 = some job0 ∧ ((chip .tray).elapse 0).storeOk :=
  ⟨⟨_, rfl⟩, by decide +kernel, ⟨_, rfl⟩, by decide +kernel, by simp only [State.storeOk]; decide +kernel⟩

theorem hyp_UplinkFrame :
    (∃ t, exec (.negFixed 0) (chip .tray) = .next t) ∧ ((chip .tray).elapse 0).storeOk ∧ ¬ ((chip .tray).elapse 0).inStore 0 ∧
    0 < negBase ((chip .tray).elapse 0).neg.target :=
  ⟨⟨_, rfl⟩, by simp only [State.storeOk]; decide +kernel, by simp only [State.inStore]; decide +kernel, by decide +kernel⟩

/-! ### Ill-formed commands, one for each check -/

/-- A requester that no request ID of 16 bits names. -/
def badRq : Requester := { src := .mailbox, reqId := 65536 }

theorem test_wf_requesters :
    ([.resetKeeper 0 badRq, .resetIslandLoupe 0 rq0 32, .resetChip 0 ⟨.lane 48, 0⟩, .resetBlock 0 ⟨.mgmt 0 65536, 0⟩, .cmdTableClear 0 badRq,
      .timeNowWrite 0 rq0 (2 ^ 80), .shutterApply 0 rq0 8, .loadStack 0 rq0 16, .activate 0 rq0 0 256, .devPhaseWrite 0 rq0 256, .verdictClear 0 badRq,
      .boundEnforceWrite 0 rq0 256, .testRequest 0 rq0 (2 ^ 32), .testCancel 0 rq0 256, .traceEnableWrite 0 rq0 65536, .storeRead 0 badRq, .prcStart 0 rq0 4,
      .laneEnableWrite 0 rq0 48 0, .retrain 0 rq0 48, .negTake 0 badRq, .keeperUpdateLive 0 badRq true] : List Instr).all
      (fun c => !c.wellFormed) = true := by decide +kernel

theorem test_wf_dap :
    ([.dapRead 0 .mailbox ⟨64, 0, 0, 0, 7, 0, [], 0, 0, []⟩ {}, .dapAbort 0 .mailbox ⟨3, 0, 0, 0, 7, 0, [1, 2, 3, 4, 5, 6, 7], 0, 0, []⟩ {},
      .objectWrite 0 (.register 0x00A 0), .objectWrite 0 (.dap .mailbox ⟨2, 0, 0, 0, 7, 0, [], 0, 0, zeros 33⟩ {}),
      .dapResponse 0 0 ⟨1, 0, 0, 0, 256, 0, 0, 0, 0, 0, 0, []⟩, .neighborSolicitation 0 [] [] false, .echoRequest 0 (zeros 16) (zeros 15) [] false,
      .imageSegment 0 rq0 0 (2 ^ 32) 0 [], .stackWrite 0 rq0 0 0 (zeros 1025)] : List Instr).all (fun c => !c.wellFormed) = true := by
  decide +kernel

theorem test_wf_time_and_port :
    ([.ptpSync 0 48 0 0 0 0 0, .ptpPdelayReq 0 0 0 0 0 (2 ^ 64) 0 0 0, .ptpPdelayResp 0 0 256 0 0 0 0, .ptpMgmtMessage 0 0 (.announce 0 0 65536 0),
      .shutterFire 0 8, .begin_ 0 131072 0 0 0 0 false, .end_ 0 0 2048 0, .bytes 0 0 4 0 0, .linkBytes 0 64 0 0, .arrive 0 4096, .tagOpen 0 65536 0,
      .tagClose 0 65536, .bktOpen 0 64 0 0, .bktClose 0 0 2 0, .dupDecline 0 64, .shardOpen 0 16 0 0, .shardRange 0 0 (2 ^ 48) 0, .shardClose 0 16 true,
      .loupeLine 0 32 0 (zeros 64) false 0 0 0, .healthStrobe 0 64 0] : List Instr).all (fun c => !c.wellFormed) = true := by decide +kernel

theorem test_wf_network :
    ([.scoreRecordComplete 0 16, .reductionRecord 0 48 red0, .reductionRecord 0 0 { red0 with missing := [131072] }, .centreRecord 0 0 ⟨2 ^ 32, 0, false, []⟩,
      .featureFrame 0 0 { feat0 true with dieId := 131072 }, .arrival 0 0 0 4096 0 0 [], .release 0 0 65536 0 0 0 false 0 0, .bcast 0 0 0 0 0 0 0 false 0 (zeros 65),
      .bcastAck 0 0 0 0 0 [131072], .hopAck 0 0 256 0 0 0, .epochSegment 0 0 0 0 false 0 0 0 false [.size 0 (2 ^ 18)], .teardownDone 0 65536,
      .digestRecord 0 0 { digest0 with kind := 8 }, .mismatchNotice 0 0 131072, .testDone 0 2048 0 0] : List Instr).all (fun c => !c.wellFormed) = true := by
  decide +kernel

theorem test_wf_links :
    ([.sqGroup 0 8 0 0 0 false 0 0, .sqSleep 0 8 true, .offloadUnit 0 48 [], .laneLock 0 48, .train 0 0 256 0 0 0, .ident 0 0 (2 ^ 128), .dataFrame 0 0 true 4096 0 0 none none,
      .dataFrame 0 0 true 0 0 2049 none none, .ack 0 0 4096, .credit 0 0 [], .routeJoin 0 0 0 0 [131072], .routeMoveLeg 0 0 0 0 3 [], .parentLost 0 48 0, .dataDecision 0 48,
      .alarmRecord 0 0 { rec0 with typ := 4096 }, .mirrorMessage 0 0 (List.replicate 65 rec0), .h2bData 0 (2 ^ 32), .b2hAck 0 (2 ^ 32), .wakeSource 0 256 0 0,
      .leafJournalMessage 0 0 [(65536, [])]] : List Instr).all (fun c => !c.wellFormed) = true := by decide +kernel

/-- Values at the top of each range are well-formed. -/
theorem test_wf_accepts :
    ([.resetIslandLoupe 0 ⟨.lane 47, 65535⟩ 31, .begin_ 0 131071 2047 15 65535 (2 ^ 32 - 1) true, .arrive 0 4095, .ack 0 47 4095, .routeJoin 0 31 4095 7 [131071],
      .timeNowWrite 0 rq0 (2 ^ 80 - 1), .objectWrite 0 (.register 0xFFC 0), .mirrorMessage 0 0 (List.replicate 64 rec0)] : List Instr).all
      Instr.wellFormed = true := by decide +kernel

/-! ### Values that the spec's text gives -/

/-- Command `c` answers a next state that `P` holds of. -/
def goes (c : Instr) (s : State) (P : State → Bool) : Bool := match exec c s with
  | .next t => P t
  | _ => false

/-- No row of the table gives bits. -/
theorem test_decode : decodeTableWord 32 0 = none ∧ State.reset.withFetchWord 32 0 = State.reset := by decide

/-- The check values of the published codes over "123456789". -/
theorem test_crcs :
    crc32c (leBytes 9 0x393837363534333231) = 0xE3069283 ∧ crc64Ecma (leBytes 9 0x393837363534333231) = 0x6C40DF5F0B497347 ∧
    crc16 (leBytes 9 0x393837363534333231) = 0x29B1 := by decide +kernel

/-- SHA-384 of "abc" (FIPS 180-4). -/
theorem test_sha384 :
    ofBe (sha384 (leBytes 3 0x636261)) =
      0xcb00753f45a35e8bb5a03d699ac65007272c32ab0eded1631a8b605a43ff5bed8086072ba1e7cc2358baeca134c825a7 := by decide +kernel

/-- Ties go to the even neighbour (00 R11). -/
theorem test_round_half_even : [divRhe 1 2, divRhe 3 2, divRhe 5 2, divRhe 7 4, divRhe 5 4] = [0, 2, 2, 2, 1] := by decide +kernel

/-- The zigzag of 0, -1, 1, -2 (12 R253). -/
theorem test_zigzag : [prcZigzag 8 5 5, prcZigzag 8 4 5, prcZigzag 8 6 5, prcZigzag 8 3 5] = [0, 1, 2, 3] := by decide +kernel

/-- A TIME80 value: seconds in the low 48 bits, nanoseconds above (Table 00-5). -/
theorem test_time80 : time80Bytes 2000000005 = [2, 0, 0, 0, 0, 0, 5, 0, 0, 0] := by decide +kernel

/-- A lane locks, trains and comes UP (Table 13-5). -/
theorem test_lane_lock : goes (.laneLock 0 1) die (fun t => t.rd Dict.laneState 1 == 2) = true := by decide +kernel
theorem test_lane_up : goes (.trainingComplete 0 1) ((lane 1 2 die).setLane 1 { identSeen := true }) (fun t => t.rd Dict.laneState 1 == 3) = true := by decide +kernel

/-- IRQ_STATUS: bits 1 to 5 clear where a one is written, bit 0 stays (Table 18-2). -/
theorem test_irq_status :
    goes (.irqStatusWrite 0 0x3F) { die with mb := { die.mb with irqStatus := 0x3F } } (fun t => t.mb.irqStatus == 1) = true := by decide +kernel

/-- A word that meets a full H2B queue is refused on the host's bus (18 R368, R379). -/
theorem test_h2b_full :
    goes (.h2bData 0 7) { die with mb := { die.mb with h2b := List.replicate 16 0 } }
      (fun t => t.out.head? == some (.hostResponse 0 true) && t.mb.h2b.length == 16) = true := by decide +kernel

/-- A command's life goes to its class record (03 R47). -/
theorem test_command_life :
    goes (.end_ 100 9 5 3) { die with cnt := { cmds := [(9, ⟨0, 0, 5, 3⟩)] } }
      (fun t => (t.clsRec 3).paired == 1 && (t.clsRec 3).lifeSum == 100 && (t.clsRec 3).lifeMax == 100) = true := by decide +kernel

/-- An END without its BEGIN is an orphan (03 R48). -/
theorem test_orphan_end : goes (.end_ 0 9 5 3) die (fun t => t.rd Dict.orphanEnds == 1) = true := by decide +kernel

/-- LATE: a schedule less than 100 µs ahead (Table 02-5). -/
theorem test_apply_late : goes (.shutterApply 0 rq0 0) die (fun t => t.cmdCode Dict.shutterApply 0 == 1) = true := by decide +kernel

/-- Power-on is reset cause 0, the pin 1 (19 R399). -/
theorem test_reset_cause : goes (.resetEnd 0) { die with rst := { busy := some (2, 1) } } (fun t => t.rd Dict.resetCause == 1) = true := by
  decide +kernel

/-- The epoch after 0xFFFFFFFF is 0 (09 R183). -/
theorem test_epoch_wraps :
    goes (.epochIssue 0 rq0) ((chip .root).wr Dict.epochLastIssued 0xFFFFFFFF)
      (fun t => t.cmdCode Dict.epochIssue == 0 && t.rd Dict.epochLastIssued == 0) = true := by decide +kernel

/-- A digest that matches its pair's is compared and leaves the list (10 R213). -/
theorem test_overlay_match :
    goes (.digestRecord 0 31 digest0) { (lane 31 3 (chip .tray)).wrBytes Dict.overlayPairs ([5, 0, 0, 0, 6, 0, 0, 0] ++ zeros 120) with
        ev := { unmatched := [(1, [({ digest0 with die := 6 }, 0)])] } } (fun t => (t.unmatchedOf 0).isEmpty && (t.unmatchedOf 1).isEmpty) = true := by
  decide +kernel

/-- A keeper that is off answers TARGET_RESET to a write outside its boot set, and counts no SERVED (15 R328). -/
theorem test_target_reset :
    goes (.verdictClear 0 rq0) State.reset (fun t => t.cmdCode Dict.verdictClear == 0xFE && t.rd Dict.served == 0) = true := by decide +kernel

end Sys2Proof.Tests
end

section
/-! The machine as a whole (family 00_scope): what reset leaves, what every command keeps, that a run stops nowhere, and
round-half-even. -/

namespace Sys2Proof.Machine

open Sys2Proof

/-! ### Reset -/

/-- Right after chip-scope reset a scalar object reads its Default column (16 R338). -/
@[simp] theorem State.rd_resetOf (b : Build) (r : Role) (straps : Nat) (o : Ob) (m j : Nat) :
    (State.resetOf b r straps).rd o m j = o.init b r m := rfl

/-- Right after chip-scope reset no CMD object has been written (15 R323). -/
@[simp] theorem State.cmdCode_resetOf (b : Build) (r : Role) (straps : Nat) (o : Ob) (m : Nat) :
    (State.resetOf b r straps).cmdCode o m = 0xFE := rfl

theorem State.rd_reset (o : Ob) (m j : Nat) : State.reset.rd o m j = o.init .die .leaf m := State.rd_resetOf ..

theorem State.reset_legal : State.reset.legal := ⟨fun _ => rfl, fun _ => rfl⟩

theorem State.reset_stackOk : State.reset.stackOk := rfl

theorem State.reset_queueOk : State.reset.queueOk := fun _ h => nomatch h

/-- Settles O2: an object's value at reset is its Default column, which the named objects' rows then give. -/
theorem resetLeavesTheStatedValues : Obligations.ResetLeavesTheStatedValues := by
  unfold Obligations.ResetLeavesTheStatedValues
  refine ⟨State.reset_legal, State.reset_stackOk, State.reset_queueOk, rfl, rfl, rfl, ?_⟩
  exact ⟨rfl, rfl, rfl, rfl, rfl, rfl, rfl, rfl, fun _ _ => rfl, fun _ _ => State.cmdCode_resetOf .., State.rd_reset⟩

/-! ### What a command's effect cannot reach: the queue, the build, the role -/

/-- `t` has the queue, the build and the role of `s`. -/
def KeepsInstance (s t : State) : Prop := t.pending = s.pending ∧ t.build = s.build ∧ t.role = s.role

theorem KeepsInstance.within (t s : State) : KeepsInstance s (t.within s) :=
  ⟨State.within_pending .., State.within_build .., State.within_role ..⟩

theorem KeepsInstance.after (s : State) (dt : Nat) (f : State → State) : KeepsInstance s (s.after dt f) := .within ..

/-- A request keeps queue, build and role, whether it comes from the host, from a lane or to the management port. -/
theorem KeepsInstance.fromSource (s : State) (dt : Nat) (src : DapSource) (bad : Bool) (i : Instr) (f : State → State) :
    KeepsInstance s (s.fromSource dt src bad i f) := by
  unfold State.fromSource
  cases src with
  | mailbox => exact .after ..
  | lane p => exact .after ..
  | mgmt addr port => exact .after ..

theorem KeepsInstance.asked (s : State) (dt : Nat) (rq : Requester) (r : DapReq) (f : State → State) :
    KeepsInstance s (s.asked dt rq r f) := .fromSource ..

theorem KeepsInstance.onPort (s : State) (dt : Nat) (i : Instr) (f : State → State) : KeepsInstance s (s.onPort dt i f) := by
  unfold State.onPort State.fromHost
  exact .after ..

theorem KeepsInstance.routeFrame (s : State) (dt p seq chunks : Nat) (f : State → State) :
    KeepsInstance s (s.routeFrame dt p seq chunks f) := by
  unfold State.routeFrame State.laneEvent
  exact .after ..

/-- A write keeps queue, build and role, whichever way it takes to the objects. -/
theorem execObjectWrite_keepsInstance (dt : Nat) (w : ObjWrite) (s : State) :
    ∃ t, execObjectWrite dt w s = .next t ∧ KeepsInstance s t := by
  cases w with
  | dap src r via => exact ⟨_, rfl, .fromSource ..⟩
  | damaged => exact ⟨_, rfl, .after ..⟩
  | register offset value => exact ⟨_, rfl, .onPort ..⟩
  | readRegister offset => exact ⟨_, rfl, .onPort ..⟩

/-- A DATA frame keeps queue, build and role, received well or damaged. -/
theorem execDataFrame_keepsInstance (dt p : Nat) (good : Bool) (seq cls n : Nat) (ack : Option Nat) (relay : Option (Nat × RedRec))
    (s : State) : ∃ t, execDataFrame dt p good seq cls n ack relay s = .next t ∧ KeepsInstance s t := by
  refine ⟨_, rfl, ?_⟩
  split
  · exact .after ..
  · exact .after ..

/-- Every command but RESET_END keeps the queue, the build and the role: it is a request for an object, or a frame or write with
cases of its own, or else it lets its time pass and acts (`State.after`). -/
theorem exec_keepsInstance (c : Instr) (s : State) (hc : ∀ dt, c ≠ .resetEnd dt) :
    ∃ t, exec c s = .next t ∧ KeepsInstance s t := by
  cases c with
  | resetEnd dt => exact absurd rfl (hc dt)
  | objectWrite dt w => exact execObjectWrite_keepsInstance dt w s
  | dataFrame dt p good seq cls n ack relay => exact execDataFrame_keepsInstance dt p good seq cls n ack relay s
  | dapRead | dapAbort => exact ⟨_, rfl, .fromSource ..⟩
  | resetIslandLink | resetIslandLoupe | resetKeeper | resetBlock | resetChip | timeNowWrite | shutterApply | clearEvents
  | descApply | cmdTableClear | imageSegment | stackWrite | loadStack | activate | unload | devPhaseWrite | programApply
  | verdictClear | baselineReset | epochIssue | bcastIssueJobStart | bcastIssueJobTeardown | bcastIssueHostMessage | overlayArm
  | overlayDisarm | boundReset | boundEnforceWrite | testRequest | testCancel | traceEnableWrite | storeRead | prcStart
  | prcResume | prcAbort | laneEnableWrite | retrain | routeMove | gateApply | clearF | clearO | clearBoth | fWindow | oWindow
  | negTake | keeperUpdateLive | keeperUpdateRestart | dieIdWrite | journalEnableWrite | exportFreeze | exportRelease =>
    exact ⟨_, rfl, .asked ..⟩
  | h2bData | h2bRing | b2hData | b2hAck | irqStatusWrite => exact ⟨_, rfl, .onPort ..⟩
  | routeJoin | routeMoveLeg => exact ⟨_, rfl, .routeFrame ..⟩
  | _ => exact ⟨_, rfl, .after ..⟩

@[simp] theorem State.chipStarts_build (s : State) (cause : Nat) : (s.chipStarts cause).build = s.build := rfl
@[simp] theorem State.chipStarts_role (s : State) (cause : Nat) : (s.chipStarts cause).role = s.role := rfl

/-- RESET_END keeps the queue and the build; the role stays, or is the one that the boot of a chip of the same build and role brings
into force (00 R3). -/
theorem execResetEnd_cases (dt : Nat) (s : State) :
    ∃ t, execResetEnd dt s = .next t ∧ t.pending = s.pending ∧ t.build = s.build ∧
      (t.role = s.role ∨ ∃ v : State, v.build = s.build ∧ v.role = s.role ∧ t.role = v.bootRole) := by
  refine ⟨_, rfl, ?_⟩
  split
  next cause _ =>
    refine ⟨?_, ?_, .inr ⟨((s.elapse dt).within s).chipStarts cause, ?_, ?_, ?_⟩⟩ <;>
      simp only [State.within_pending, State.within_build, State.within_role, State.chipStarts_build, State.chipStarts_role]
  next => simp only [State.within_pending, State.within_build, State.within_role, true_or, and_self]
  next => simp only [State.within_pending, State.within_build, State.within_role, true_or, and_self]

/-- What every command does to the queue, the build and the role. -/
theorem exec_cases (c : Instr) (s : State) :
    ∃ t, exec c s = .next t ∧ t.pending = s.pending ∧ t.build = s.build ∧
      (t.role = s.role ∨ ∃ v : State, v.build = s.build ∧ v.role = s.role ∧ t.role = v.bootRole) := by
  by_cases hc : ∃ dt, c = .resetEnd dt
  · obtain ⟨dt, rfl⟩ := hc
    exact execResetEnd_cases dt s
  · obtain ⟨t, ht, hpending, hbuild, hrole⟩ := exec_keepsInstance c s fun dt e => hc ⟨dt, e⟩
    exact ⟨t, ht, hpending, hbuild, .inl hrole⟩

/-! ### Runs go on -/

/-- A step takes the front command off the queue, and the build stays. -/
theorem step_of_cons {s : State} {c : Instr} {rest : List Instr} (h : s.pending = c :: rest) :
    ∃ t, step s = .next t ∧ t.pending = rest ∧ t.build = s.build := by
  obtain ⟨t, ht, hpending, hbuild, -⟩ := exec_cases c { s with pending := rest }
  exact ⟨t, by simp only [step, h, ht], hpending, hbuild⟩

/-- A step on an empty queue changes nothing (log entry 2). -/
theorem step_of_nil {s : State} (h : s.pending = []) : step s = .next s := by simp only [step, h]

theorem step_goesOn (s : State) : ∃ t, step s = .next t := by
  cases h : s.pending with
  | nil => exact ⟨s, step_of_nil h⟩
  | cons c rest =>
    obtain ⟨t, ht, -⟩ := step_of_cons h
    exact ⟨t, ht⟩

theorem State.runsFor_all (s : State) (k : Nat) : s.runsFor k := by
  induction k generalizing s with
  | zero => trivial
  | succ k ih =>
    obtain ⟨t, ht⟩ := step_goesOn s
    exact ⟨t, ht, ih t⟩

/-- Settles O3: every arm of exec answers a state with the queue and build it was given, and runs go on by induction on their length. -/
theorem everyStepGoesOn : Obligations.EveryStepGoesOn := by
  unfold Obligations.EveryStepGoesOn
  refine ⟨fun c s => ?_, fun _ _ _ => step_of_cons, State.runsFor_all⟩
  obtain ⟨t, ht, hpending, hbuild, -⟩ := exec_cases c s
  exact ⟨t, ht, hpending, hbuild⟩

/-! ### Legal builds and roles (00 R1 to R3) -/

/-- No ROLE value names the leaf role (Table 00-3). -/
theorem Role.ofCode?_ne_leaf (code : Nat) : Role.ofCode? code ≠ some .leaf := by
  unfold Role.ofCode?
  split <;> simp

/-- A tray chip boots into no leaf, whatever its ROLE holds. -/
theorem State.roleFor_ne_leaf (s : State) (code : Nat) : s.roleFor code ≠ .leaf := by
  unfold State.roleFor
  split
  next r hr =>
    rintro rfl
    exact Role.ofCode?_ne_leaf code hr
  next =>
    cases h : Role.ofCode? (1 + s.freeVal % 4) with
    | none => simp
    | some r =>
      rintro rfl
      exact Role.ofCode?_ne_leaf _ h

/-- The role that boot brings into force fits the build: Uhlyr-D keeps its own, and a tray chip's is never leaf. -/
theorem State.bootRole_legal (v : State) (h : v.legal) : v.build = .die ↔ v.bootRole = .leaf := by
  unfold State.bootRole State.isDie
  cases hb : v.build with
  | die => simpa using h.mp hb
  | trayChip => simpa using v.roleFor_ne_leaf _

theorem State.legal_congr {s t : State} (hbuild : t.build = s.build) (hrole : t.role = s.role) : t.legal ↔ s.legal := by
  simp only [State.legal, hbuild, hrole]

/-- Every command leads from a legal state to a legal one. -/
theorem exec_legal {c : Instr} {s t : State} (h : s.legal) (ht : exec c s = .next t) : t.legal := by
  obtain ⟨t', ht', -, hbuild, hrole⟩ := exec_cases c s
  obtain rfl : t' = t := by simpa using ht'.symm.trans ht
  obtain hrole | ⟨v, hvbuild, hvrole, hboot⟩ := hrole
  · exact (State.legal_congr hbuild hrole).mpr h
  · have hv : v.build = .die ↔ v.bootRole = .leaf := v.bootRole_legal ((State.legal_congr hvbuild hvrole).mpr h)
    rw [State.legal, hbuild, hboot, ← hvbuild]
    exact hv

/-- Settles O4: only the end of a chip-scope reset changes the role, and it brings in one that fits the build. -/
theorem everyStepKeepsTheInstanceLegal : Obligations.EveryStepKeepsTheInstanceLegal := by
  unfold Obligations.EveryStepKeepsTheInstanceLegal
  intro s t hs ht
  cases hq : s.pending with
  | nil =>
    obtain rfl : s = t := by simpa using (step_of_nil hq).symm.trans ht
    exact hs
  | cons c rest =>
    have hexec : exec c { s with pending := rest } = .next t := by simpa only [step, hq] using ht
    exact exec_legal (s := { s with pending := rest }) hs hexec

/-! ### Round-half-even (00 R11) -/

/-- Twice the distance of a quotient `q` from a / b, in units of 1 / b. -/
def quotError (a b q : Nat) : Nat := ((2 * a : Int) - 2 * b * q).natAbs

/-- Round-half-even is off by at most a half, and by a half only where it is even. -/
theorem quotError_divRhe (a b : Nat) (hb : 0 < b) :
    quotError a b (divRhe a b) ≤ b ∧ (quotError a b (divRhe a b) = b → divRhe a b % 2 = 0) := by
  have hdiv : (b : Int) * (a / b : Nat) + (a % b : Nat) = a := mod_cast Nat.div_add_mod a b
  have hmod : a % b < b := Nat.mod_lt a hb
  unfold quotError divRhe
  simp only
  generalize a / b = q at hdiv ⊢
  generalize a % b = r at hdiv hmod ⊢
  have hdown : (2 * a : Int) - 2 * b * q = 2 * r := by linarith
  have hup : (2 * a : Int) - 2 * b * (q + 1 : Nat) = 2 * r - 2 * b := by push_cast; linarith
  split_ifs with hlow hhigh heven
  · rw [hdown]; omega
  · rw [hup]; omega
  · rw [hdown]; omega
  · rw [hup]; omega

/-- Two different quotients are at least 1 apart, so their errors add up to no less. -/
theorem le_quotError_add (a b : Nat) {p q : Nat} (h : q ≠ p) : 2 * b ≤ quotError a b p + quotError a b q := by
  have hgap : 2 * b ≤ ((2 * b : Int) * ((p : Int) - q)).natAbs := by
    rw [Int.natAbs_mul]
    exact Nat.le_mul_of_pos_right _ (by omega)
  calc 2 * b ≤ ((2 * b : Int) * ((p : Int) - q)).natAbs := hgap
    _ = (((2 * a : Int) - 2 * b * q) - ((2 * a : Int) - 2 * b * p)).natAbs := by congr 1; ring
    _ ≤ quotError a b p + quotError a b q := by unfold quotError; omega

/-- Settles O13: an error of at most a half leaves every other quotient at least a half. -/
theorem roundHalfEvenIsNearest : Obligations.RoundHalfEvenIsNearest := by
  unfold Obligations.RoundHalfEvenIsNearest
  intro a b hb
  obtain ⟨hhalf, htie⟩ := quotError_divRhe a b hb
  refine ⟨fun q => ?_, fun q hq heq => htie ?_⟩
  · show quotError a b (divRhe a b) ≤ quotError a b q
    obtain rfl | hq := eq_or_ne q (divRhe a b)
    · exact le_rfl
    · have := le_quotError_add a b hq
      omega
  · have heq : quotError a b (divRhe a b) = quotError a b q := heq
    have := le_quotError_add a b hq
    omega

end Sys2Proof.Machine
end

section
/-! Alarms and records of children, and the mirror (family 01_fleet_picture): what enters the store and the alarm buffer, in what
order, and what both leave as it was. -/

namespace Sys2Proof.Machine

open Sys2Proof

/-! ### What `within` shows of the state in it -/

@[simp] theorem State.within_sch (t s : State) : (t.within s).sch = t.sch := rfl
@[simp] theorem State.within_recd (t s : State) : (t.within s).recd = t.recd := rfl
@[simp] theorem State.within_dap (t s : State) : (t.within s).dap = t.dap := rfl

/-! ### The commands on a core that runs -/

/-- ALARM_RECORD of a child on a lane that is UP: the alarm is forwarded and stored. -/
theorem alarmRecord_of_up {dt p : Nat} {r : EventRec} {s u : State} (hu : u = s.elapse dt) (hon : u.coreOn = true)
    (hdown : u.isDown p = true) (hup : u.laneUp p = true) :
    exec (.alarmRecord dt p r) s = .next (((u.touch.forwardAlarm p r).takeChildRecord p r).within s) := by
  subst u
  show execAlarmRecord dt p r s = _
  simp only [execAlarmRecord, s.fromLane_of_on _ _ _ _ _ hon, hdown, hup, Bool.not_true, Bool.or_self, Bool.false_eq_true, if_false]

theorem alarmSpaceFreed_of_on {dt : Nat} {s u : State} (hu : u = s.elapse dt) (hon : u.coreOn = true) :
    exec (.alarmSpaceFreed dt) s = .next (u.spaceFreed.within s) := by
  subst u
  exact congrArg Host.Outcome.next (s.core_of_on dt _ hon)

theorem mirrorFlush_of_on {dt : Nat} {s u : State} (hu : u = s.elapse dt) (hon : u.coreOn = true) :
    exec (.mirrorFlush dt) s = .next ((if u.mirrorDue then u.sendMirror else u).within s) := by
  subst u
  exact congrArg Host.Outcome.next (s.core_of_on dt _ hon)

/-- MIRROR_MESSAGE of a child on a lane that is UP: its records are stored one after the other. -/
theorem mirrorMessage_of_up {dt p : Nat} {recs : List EventRec} {s u : State} (hu : u = s.elapse dt) (hon : u.coreOn = true)
    (hdown : u.isDown p = true) (hup : u.laneUp p = true) :
    exec (.mirrorMessage dt p recs) s = .next ((recs.foldl (fun t r => t.takeChildRecord p r) u.touch).within s) := by
  subst u
  show execMirrorMessage dt p recs s = _
  simp only [execMirrorMessage, s.fromLane_of_on _ _ _ _ _ hon, hdown, hup, Bool.not_true, Bool.or_self, Bool.false_eq_true, if_false]

/-! ### What taking a record into the store leaves as it was -/

/-- `t` has the alarms, the queues and the pushes of `s`. -/
def KeepsQueues (s t : State) : Prop := t.sch = s.sch ∧ t.dap = s.dap

theorem KeepsQueues.refl (s : State) : KeepsQueues s s := ⟨rfl, rfl⟩

theorem KeepsQueues.trans {s t u : State} (h : KeepsQueues s t) (k : KeepsQueues t u) : KeepsQueues s u :=
  ⟨k.1.trans h.1, k.2.trans h.2⟩

/-- A record's copy in the event store changes the stacks and their byte counters alone. -/
theorem State.recToStack_only (s : State) (slot : Nat) (r : EventRec) :
    ∃ c st, s.recToStack slot r = { s with cnt := c, stack := st } := by
  unfold State.recToStack State.stackWrite
  split_ifs <;> exact ⟨_, _, rfl⟩

theorem KeepsQueues.recToStack (s : State) (slot : Nat) (r : EventRec) : KeepsQueues s (s.recToStack slot r) := by
  obtain ⟨_, _, h⟩ := s.recToStack_only slot r
  rw [h]
  exact ⟨rfl, rfl⟩

theorem KeepsQueues.writeRecord (s : State) (slot : Nat) (r : EventRec) (a u c : Bool) :
    KeepsQueues s (s.writeRecord slot r a u c) := .recToStack ..

theorem KeepsQueues.takeSlot {s t : State} {k : Nat} (h : s.takeSlot = some (k, t)) : KeepsQueues s t := by
  unfold State.takeSlot at h
  simp only at h
  split at h
  · cases h; exact .refl s
  · split at h
    · cases h
    · cases h
      split <;> exact ⟨rfl, rfl⟩

/-- A record of a child, written or tallied, enters neither the alarm buffer nor a push. -/
theorem KeepsQueues.storeChild (s : State) (r : EventRec) : KeepsQueues s (s.storeChild r) := by
  unfold State.storeChild
  split
  next => exact ⟨rfl, rfl⟩
  next k t h => exact (KeepsQueues.takeSlot h).trans (.writeRecord ..)

theorem KeepsQueues.takeChildRecord (s : State) (p : Nat) (r : EventRec) : KeepsQueues s (s.takeChildRecord p r) := by
  unfold State.takeChildRecord
  simp only
  split
  · exact (KeepsQueues.storeChild ..).trans (.storeChild ..)
  · exact .storeChild ..

theorem KeepsQueues.takeChildRecords (p : Nat) (recs : List EventRec) (s : State) :
    KeepsQueues s (recs.foldl (fun t r => t.takeChildRecord p r) s) := by
  induction recs generalizing s with
  | nil => exact .refl s
  | cons r recs ih => exact (KeepsQueues.takeChildRecord s p r).trans (ih _)

/-! ### Records of children in the ring (17 R352, R357) -/

/-- A record received from a child stands in the ring. -/
def State.holdsChild (s : State) (r : EventRec) : Prop := ∃ e ∈ s.recd.ring, e.event = r ∧ e.child = true

/-- `t` holds the records of `s` and at most `n` behind them, in a ring of the same size. -/
def RingGrows (n : Nat) (s t : State) : Prop := t.ringSize = s.ringSize ∧ ∃ l, l.length ≤ n ∧ t.recd.ring = s.recd.ring ++ l

theorem RingGrows.refl (s : State) : RingGrows 0 s s := ⟨rfl, [], le_rfl, (List.append_nil _).symm⟩

theorem RingGrows.trans {n m : Nat} {s t u : State} (h : RingGrows n s t) (k : RingGrows m t u) : RingGrows (n + m) s u := by
  obtain ⟨hsize, l, hl, hring⟩ := h
  obtain ⟨ksize, l', hl', kring⟩ := k
  refine ⟨ksize.trans hsize, l ++ l', ?_, ?_⟩
  · rw [List.length_append]; omega
  · rw [kring, hring, List.append_assoc]

theorem RingGrows.mono {n m : Nat} {s t : State} (h : RingGrows n s t) (hnm : n ≤ m) : RingGrows m s t := by
  obtain ⟨hsize, l, hl, hring⟩ := h
  exact ⟨hsize, l, hl.trans hnm, hring⟩

/-- Room that is not used up is still there. -/
theorem RingGrows.room {n m : Nat} {s t : State} (h : RingGrows n s t) (hroom : s.recd.ring.length + (n + m) ≤ s.ringSize) :
    t.recd.ring.length + m ≤ t.ringSize := by
  obtain ⟨hsize, l, hl, hring⟩ := h
  rw [hsize, hring, List.length_append]
  omega

theorem RingGrows.holdsChild {n : Nat} {s t : State} (h : RingGrows n s t) {r : EventRec} (hr : s.holdsChild r) : t.holdsChild r := by
  obtain ⟨-, l, -, hring⟩ := h
  obtain ⟨e, he, hprops⟩ := hr
  exact ⟨e, hring ▸ List.mem_append_left l he, hprops⟩

@[simp] theorem State.touch_ringSize (s : State) : s.touch.ringSize = s.ringSize := rfl

theorem State.ringSize_wr (s : State) (o : Ob) (v m j : Nat) (h : o.key m j ≠ Dict.recSize.key 0 0) :
    (s.wr o v m j).ringSize = s.ringSize := by
  unfold State.ringSize
  rw [s.rd_wr_other o Dict.recSize v m j 0 0 h]

@[simp] theorem State.recToStack_recd (s : State) (slot : Nat) (r : EventRec) : (s.recToStack slot r).recd = s.recd := by
  obtain ⟨_, _, h⟩ := s.recToStack_only slot r
  rw [h]

@[simp] theorem State.recToStack_ringSize (s : State) (slot : Nat) (r : EventRec) : (s.recToStack slot r).ringSize = s.ringSize := by
  obtain ⟨_, _, h⟩ := s.recToStack_only slot r
  rw [h]
  rfl

theorem nextOf_key_ne_recSize (f : Bool) : (nextOf f).key 0 0 ≠ Dict.recSize.key 0 0 := by
  cases f <;> decide

/-- A record written goes behind those in the ring. -/
theorem State.writeRecord_ring (s : State) (slot : Nat) (r : EventRec) (alarm unsent child : Bool) :
    ∃ e : Stored, e.event = r ∧ e.child = child ∧ (s.writeRecord slot r alarm unsent child).recd.ring = s.recd.ring ++ [e] := by
  unfold State.writeRecord State.syncMirror
  simp only [State.wr_recd, State.bump_recd, State.recToStack_recd]
  exact ⟨_, rfl, rfl, rfl⟩

theorem State.writeRecord_ringSize (s : State) (slot : Nat) (r : EventRec) (alarm unsent child : Bool) :
    (s.writeRecord slot r alarm unsent child).ringSize = s.ringSize := by
  unfold State.writeRecord State.syncMirror State.bump
  rw [State.ringSize_wr _ _ _ _ _ (by decide), State.ringSize_wr _ _ _ _ _ (nextOf_key_ne_recSize _), State.recToStack_ringSize]
  rfl

/-- A record of a child that finds a free place is written behind those in the ring. -/
theorem State.storeChild_of_room {s : State} (r : EventRec) (hroom : s.recd.ring.length < s.ringSize) :
    RingGrows 1 s (s.storeChild r) ∧ (s.storeChild r).holdsChild r := by
  have hstore : s.storeChild r = s.writeRecord (freeSlot s.recd.ring) r false false true := by
    simp only [State.storeChild, State.takeSlot, hroom, if_true]
  obtain ⟨e, hevent, hchild, hring⟩ := s.writeRecord_ring (freeSlot s.recd.ring) r false false true
  rw [hstore]
  exact ⟨⟨s.writeRecord_ringSize .., [e], le_rfl, hring⟩, e, by rw [hring]; simp, hevent, hchild⟩

/-- With room for its ORIGIN record too, a record of a child is written. -/
theorem State.takeChildRecord_of_room (s : State) (p : Nat) (r : EventRec) (hroom : s.recd.ring.length + 2 ≤ s.ringSize) :
    RingGrows 2 s (s.takeChildRecord p r) ∧ (s.takeChildRecord p r).holdsChild r := by
  obtain ⟨hgrows, hholds⟩ := s.storeChild_of_room r (by omega)
  unfold State.takeChildRecord
  simp only
  split
  · obtain ⟨hgrows', -⟩ := (s.storeChild r).storeChild_of_room (s.originRec p (s.childLevel p) r) (hgrows.room (m := 1) hroom)
    exact ⟨hgrows.trans hgrows', hgrows'.holdsChild hholds⟩
  · exact ⟨hgrows.mono (by omega), hholds⟩

theorem State.takeChildRecords_of_room (s : State) (p : Nat) (recs : List EventRec)
    (hroom : s.recd.ring.length + 2 * recs.length ≤ s.ringSize) :
    RingGrows (2 * recs.length) s (recs.foldl (fun t r => t.takeChildRecord p r) s) ∧
      ∀ r ∈ recs, (recs.foldl (fun t r => t.takeChildRecord p r) s).holdsChild r := by
  induction recs generalizing s with
  | nil => exact ⟨.refl s, fun _ h => nomatch h⟩
  | cons r recs ih =>
    rw [List.length_cons] at hroom ⊢
    obtain ⟨hgrows, hholds⟩ := s.takeChildRecord_of_room p r (by omega)
    obtain ⟨ihgrows, ihholds⟩ := ih (s.takeChildRecord p r) (hgrows.room (by omega))
    refine ⟨(hgrows.trans ihgrows).mono (by omega), fun r' hr' => ?_⟩
    obtain rfl | hr' := List.mem_cons.mp hr'
    · exact ihgrows.holdsChild hholds
    · exact ihholds r' hr'

/-! ### Forwarding an alarm (01 R26, 17 R357) -/

/-- What is in the alarm buffer, then what waits outside it. -/
def State.allAlarms (s : State) : List AlarmEntry := s.sch.alarms ++ s.sch.waiting

/-- An alarm of a child goes behind those that are there, in the buffer or outside it (log entry 43). -/
theorem State.forwardIn_allAlarms (s : State) (b : Bytes) :
    (s.forwardIn b).allAlarms = s.allAlarms ++ [{ bytes := b, own := none }] := by
  unfold State.forwardIn State.allAlarms
  split
  next h =>
    obtain ⟨hwaiting, -⟩ := Bool.and_eq_true_iff.mp h
    rw [List.isEmpty_iff] at hwaiting
    simp only [State.bufferAlarm, State.syncAlarms, State.wr_sch, hwaiting, List.append_nil]
  next => simp only [List.append_assoc]

@[simp] theorem State.forwardIn_recd (s : State) (b : Bytes) : (s.forwardIn b).recd = s.recd := by
  unfold State.forwardIn
  split <;> rfl

@[simp] theorem State.forwardIn_ringSize (s : State) (b : Bytes) : (s.forwardIn b).ringSize = s.ringSize := by
  unfold State.forwardIn
  split
  · exact State.ringSize_wr _ _ _ _ _ (by decide)
  · rfl

/-- A push changes the ROOT's DAP state alone. -/
theorem State.push_only (s : State) (op : Nat) (data : Bytes) (own : Option Nat) :
    ∃ d : Dap, s.push op data own = { s with dap := d } := by
  unfold State.push
  simp only
  split_ifs <;> exact ⟨_, rfl⟩

@[simp] theorem State.push_sch (s : State) (op : Nat) (data : Bytes) (own : Option Nat) : (s.push op data own).sch = s.sch := by
  obtain ⟨_, h⟩ := s.push_only op data own
  rw [h]

@[simp] theorem State.push_recd (s : State) (op : Nat) (data : Bytes) (own : Option Nat) : (s.push op data own).recd = s.recd := by
  obtain ⟨_, h⟩ := s.push_only op data own
  rw [h]

@[simp] theorem State.push_ringSize (s : State) (op : Nat) (data : Bytes) (own : Option Nat) :
    (s.push op data own).ringSize = s.ringSize := by
  obtain ⟨_, h⟩ := s.push_only op data own
  rw [h]
  rfl

@[simp] theorem State.push_rdBytes (s : State) (op : Nat) (data : Bytes) (own : Option Nat) (o : Ob) :
    (s.push op data own).rdBytes o = s.rdBytes o := by
  obtain ⟨_, h⟩ := s.push_only op data own
  rw [h]
  rfl

/-- Where there is a conductor, every push counts (15 R331). -/
theorem State.push_counts {s : State} (op : Nat) (data : Bytes) (own : Option Nat) (h : ∃ b ∈ s.rdBytes Dict.conductorAddr, b ≠ 0) :
    (s.push op data own).dap.push = s.dap.push + 1 := by
  have hconductor : (s.rdBytes Dict.conductorAddr).all (· == 0) = false := by simpa using h
  unfold State.push
  simp only [hconductor, Bool.false_eq_true, if_false]
  split_ifs <;> rfl

/-- Below the ROOT an alarm of a child, with its ORIGIN record behind it, follows the alarms that are there. -/
theorem State.forwardAlarm_allAlarms (s : State) (p : Nat) (r : EventRec) (hrole : s.role ≠ .root) :
    (s.forwardAlarm p r).allAlarms = s.allAlarms ++
      { bytes := r.bytes, own := none } :: (if r.source = s.childLevel p ∧ r.typ ≠ recOrigin then
        [{ bytes := (s.originRec p (s.childLevel p) r).bytes, own := none }] else []) := by
  have hroot : (s.role == .root) = false := by simpa using hrole
  unfold State.forwardAlarm
  simp only [hroot, Bool.false_eq_true, if_false]
  split
  · rw [State.forwardIn_allAlarms, State.forwardIn_allAlarms, List.append_assoc, List.singleton_append]
  · rw [State.forwardIn_allAlarms]

/-- The ROOT pushes an alarm of a child, and its ORIGIN record behind it, to the conductor. -/
theorem State.forwardAlarm_root (s : State) (p : Nat) (r : EventRec) (hrole : s.role = .root)
    (h : ∃ b ∈ s.rdBytes Dict.conductorAddr, b ≠ 0) :
    (s.forwardAlarm p r).sch = s.sch ∧
      (s.forwardAlarm p r).dap.push = s.dap.push + (if r.source = s.childLevel p ∧ r.typ ≠ recOrigin then 2 else 1) := by
  have hroot : (s.role == .root) = true := by simpa using hrole
  unfold State.forwardAlarm
  simp only [hroot, if_true]
  split
  · refine ⟨by simp only [State.push_sch], ?_⟩
    rw [State.push_counts _ _ _ (by rwa [State.push_rdBytes]), State.push_counts _ _ _ h]
  · exact ⟨State.push_sch .., State.push_counts _ _ _ h⟩

/-- Forwarding does not touch the store. -/
theorem State.forwardAlarm_keepsRing (s : State) (p : Nat) (r : EventRec) :
    (s.forwardAlarm p r).recd = s.recd ∧ (s.forwardAlarm p r).ringSize = s.ringSize := by
  unfold State.forwardAlarm
  cases s.role == .root with
  | false =>
    simp only [Bool.false_eq_true, if_false]
    split <;> simp only [State.forwardIn_recd, State.forwardIn_ringSize, and_self]
  | true =>
    simp only [if_true]
    split <;> simp only [State.push_recd, State.push_ringSize, and_self]

/-! ### Space frees in the alarm buffer (14 R299, 17 R353) -/

@[simp] theorem State.fitAlarms_recd (s : State) (l : List AlarmEntry) : (s.fitAlarms l).recd = s.recd := rfl

theorem State.fitAlarms_alarms (s : State) (l : List AlarmEntry) :
    (s.fitAlarms l).sch.alarms = l.take (s.rd Dict.alarmBufSize / 32) := rfl

theorem State.fitAlarms_bufSize (s : State) (l : List AlarmEntry) :
    (s.fitAlarms l).rd Dict.alarmBufSize = s.rd Dict.alarmBufSize :=
  State.rd_wr_other _ Dict.alarmBufUsed Dict.alarmBufSize _ 0 0 0 0 (by decide)

/-- An own alarm goes behind those in the buffer, or to the conductor. -/
theorem State.sendOwnAlarm_alarms (s : State) (r : EventRec) (num : Nat) :
    s.sch.alarms <+: (s.sendOwnAlarm r num).sch.alarms := by
  unfold State.sendOwnAlarm
  split
  · rw [State.push_sch]
  · exact List.prefix_append ..

theorem KeepsQueues.alarms {s t : State} (h : KeepsQueues s t) : s.sch.alarms <+: t.sch.alarms := by rw [h.1]

theorem State.storeOwn_alarms (s : State) (r : EventRec) (alarm : Bool) : s.sch.alarms <+: (s.storeOwn r alarm).sch.alarms := by
  unfold State.storeOwn
  split
  next => exact List.prefix_rfl
  next slot t h =>
    have hwritten := fun unsent => ((KeepsQueues.takeSlot h).trans (.writeRecord t slot r alarm unsent false)).alarms
    simp only
    split_ifs
    · exact hwritten _
    · exact hwritten _
    · exact (hwritten _).trans (State.sendOwnAlarm_alarms ..)

/-- Held alarms go behind those in the buffer. -/
theorem State.queueHeld_alarms (n : Nat) (s : State) : s.sch.alarms <+: (State.queueHeld n s).sch.alarms := by
  induction n generalizing s with
  | zero => exact List.prefix_rfl
  | succ n ih =>
    unfold State.queueHeld
    split
    next => exact List.prefix_rfl
    next =>
      split
      · exact List.prefix_rfl
      · refine List.IsPrefix.trans ?_ (ih _)
        exact List.prefix_append ..

/-- The first held alarm is queued where the buffer has room. -/
theorem State.queueHeld_first {s : State} {e : Stored} (n : Nat) (hheld : s.recd.ring.find? (·.unsent) = some e)
    (hroom : s.alarmRoom = true) :
    s.sch.alarms ++ [{ bytes := e.event.bytes, own := some e.num }] <+: (State.queueHeld (n + 1) s).sch.alarms := by
  simp only [State.queueHeld, hheld, hroom, Bool.not_true, Bool.false_eq_true, if_false]
  refine List.IsPrefix.trans ?_ (State.queueHeld_alarms n _)
  exact List.prefix_rfl

theorem State.queueHeld_of_none {s : State} (n : Nat) (hheld : s.recd.ring.find? (·.unsent) = none) : State.queueHeld n s = s := by
  cases n with
  | zero => rfl
  | succ n => simp only [State.queueHeld, hheld]

/-- Tallies that are written send their alarms behind those in the buffer. -/
theorem State.writeTallies_alarms (n : Nat) (s : State) : s.sch.alarms <+: (State.writeTallies n s).sch.alarms := by
  induction n generalizing s with
  | zero => exact List.prefix_rfl
  | succ n ih =>
    unfold State.writeTallies
    simp only
    split
    next => exact List.prefix_rfl
    next =>
      split
      · exact List.prefix_rfl
      · refine List.IsPrefix.trans ?_ (ih _)
        split
        · refine List.IsPrefix.trans ?_ (KeepsQueues.storeChild _ _).alarms
          exact List.prefix_rfl
        · refine List.IsPrefix.trans ?_ (State.storeOwn_alarms _ _ _)
          exact List.prefix_rfl

/-- Control frames change neither the scheduler nor the recorder. -/
theorem State.sendCredit_keeps (s : State) (g : Nat) : (s.sendCredit g).sch = s.sch ∧ (s.sendCredit g).recd = s.recd := by
  unfold State.sendCredit State.sendCtl State.txOn State.countPort
  split_ifs <;> exact ⟨rfl, rfl⟩

theorem State.releaseCredits_keeps (s : State) : s.releaseCredits.sch = s.sch ∧ s.releaseCredits.recd = s.recd := by
  unfold State.releaseCredits
  refine List.foldlRecOn _ _ (motive := fun t : State => t.sch = s.sch ∧ t.recd = s.recd) ⟨rfl, rfl⟩ fun t ht g _ => ?_
  obtain ⟨hsch, hrecd⟩ := (t.freeCredit g).sendCredit_keeps g
  exact ⟨hsch.trans ht.1, hrecd.trans ht.2⟩

/-- The buffer as alarms that waited outside it and held ones have filled it. -/
def State.refilled (s : State) : State :=
  let s1 := s.fitAlarms (s.sch.alarms ++ s.sch.waiting)
  State.queueHeld s1.recd.ring.length s1

/-- What tallies and credits do behind it keeps the alarms in the buffer. -/
theorem State.spaceFreed_alarms (s : State) : s.refilled.sch.alarms <+: s.spaceFreed.sch.alarms := by
  show _ <+: (State.releaseCredits (State.writeTallies _ s.refilled)).sch.alarms
  rw [(State.releaseCredits_keeps _).1]
  exact State.writeTallies_alarms ..

/-- Alarms that wait outside the buffer fill it. -/
theorem State.take_prefix_spaceFreed (s : State) :
    (s.sch.alarms ++ s.sch.waiting).take (s.rd Dict.alarmBufSize / 32) <+: s.spaceFreed.sch.alarms :=
  (State.queueHeld_alarms _ (s.fitAlarms _)).trans s.spaceFreed_alarms

/-- The first held alarm follows them where the buffer has room for all. -/
theorem State.held_prefix_spaceFreed {s : State} {e : Stored} (hheld : s.recd.ring.find? (·.unsent) = some e)
    (hroom : 32 * (s.sch.alarms.length + s.sch.waiting.length + 1) ≤ s.rd Dict.alarmBufSize) :
    s.sch.alarms ++ s.sch.waiting ++ [{ bytes := e.event.bytes, own := some e.num }] <+: s.spaceFreed.sch.alarms := by
  set all := s.sch.alarms ++ s.sch.waiting with hall
  have hlen : all.length = s.sch.alarms.length + s.sch.waiting.length := List.length_append
  have halarms : (s.fitAlarms all).sch.alarms = all := by
    rw [State.fitAlarms_alarms, List.take_of_length_le (by omega)]
  have hfits : (s.fitAlarms all).alarmRoom = true := by
    rw [State.alarmRoom, halarms, State.fitAlarms_bufSize, hlen]
    exact decide_eq_true hroom
  obtain ⟨n, hn⟩ : ∃ n, s.recd.ring.length = n + 1 :=
    Nat.exists_eq_succ_of_ne_zero (List.length_pos_of_mem (List.mem_of_find?_eq_some hheld)).ne'
  have hfirst := State.queueHeld_first n (s := s.fitAlarms all) hheld hfits
  rw [halarms, ← hn] at hfirst
  exact hfirst.trans s.spaceFreed_alarms

/-- With nothing waiting, held or tallied, the buffer and the recorder stay. -/
theorem State.spaceFreed_idle {s : State} (hwaiting : s.sch.waiting = []) (hheld : s.recd.ring.find? (·.unsent) = none)
    (htallies : s.recd.tallies = []) (hfits : 32 * s.sch.alarms.length ≤ s.rd Dict.alarmBufSize) :
    s.spaceFreed.sch.alarms = s.sch.alarms ∧ s.spaceFreed.sch.waiting = [] ∧ s.spaceFreed.recd = s.recd := by
  have hlen : s.sch.alarms.length ≤ s.rd Dict.alarmBufSize / 32 := by omega
  have hfreed : s.spaceFreed = (s.fitAlarms s.sch.alarms).releaseCredits := by
    simp only [State.spaceFreed, hwaiting, List.append_nil, State.queueHeld_of_none (s := s.fitAlarms s.sch.alarms) _ hheld,
      State.fitAlarms_recd, htallies, List.length_nil, State.writeTallies]
  obtain ⟨hsch, hrecd⟩ := (s.fitAlarms s.sch.alarms).releaseCredits_keeps
  rw [hfreed, hsch, hrecd]
  exact ⟨List.take_of_length_le hlen, List.drop_of_length_le hlen, rfl⟩

/-! ### The mirror (17 R358) -/

/-- The current route does not depend on MIRROR_BEHIND. -/
theorem State.routeNow_wr_mirrorBehind (s : State) (v : Nat) : (s.wr Dict.mirrorBehind v).routeNow = s.routeNow := by
  have hframe : (s.wr Dict.mirrorBehind v).rd Dict.frameNow = s.rd Dict.frameNow := s.rd_wr_other _ _ v 0 0 0 0 (by decide)
  have huse : (s.wr Dict.mirrorBehind v).rd Dict.upUse = s.rd Dict.upUse := s.rd_wr_other _ _ v 0 0 0 0 (by decide)
  simp only [State.routeNow, State.routeGroup, State.routeBuddy, State.frameNow, State.upGroup, State.upPort?, hframe, huse]
  rfl

/-- A LANE_STATE object is none of those numbered below them. -/
theorem State.laneUp_wr_mirrorBehind (s : State) (v p : Nat) : (s.wr Dict.mirrorBehind v).laneUp p = s.laneUp p := by
  have hkey : Dict.mirrorBehind.key 0 0 ≠ Dict.laneState.key p 0 := by
    simp only [Ob.key, Dict.mirrorBehind, Dict.laneState]
    omega
  rw [State.laneUp, s.rd_wr_other _ _ v 0 0 p 0 hkey]
  rfl

theorem State.movedTo_wr_mirrorBehind (s : State) (v g : Nat) : (s.wr Dict.mirrorBehind v).movedTo g = s.movedTo g := by
  have huse : (s.wr Dict.mirrorBehind v).rd Dict.upUse = s.rd Dict.upUse := s.rd_wr_other _ _ v 0 0 0 0 (by decide)
  have hup : (s.wr Dict.mirrorBehind v).groupUp g = s.groupUp g :=
    congrArg (List.any (s.lanesOf g)) (funext (s.laneUp_wr_mirrorBehind v))
  simp only [State.movedTo, State.upGroup, State.upPort?, huse, hup]
  rfl

/-- With no runs of drops there is none to end. -/
theorem State.endRuns_of_nil {s : State} (hruns : s.sch.runs = []) (c level die : Nat) : s.endRuns c level die = s := by
  have hsame : { s.sch with runs := [] } = s.sch := by rw [← hruns]
  simp only [State.endRuns, hruns, List.filter_nil, List.foldl_nil, hsame]

/-- Where the route has not moved and no drops wait to be written, a message of class 6 is numbered and enters the queues
of the route's group. -/
theorem State.offer_class6 {s : State} {g : Nat} (kind : MsgKind) (body : Bytes) (hruns : s.sch.runs = []) (hroute : s.routeNow = some g)
    (hmoved : s.movedTo g = none) :
    (s.offer 6 kind body).recd = s.recd ∧ (s.isDie = true → ∀ n, Tbl.get? s.sch.cseq 6 = some n →
      Tbl.get? (s.offer 6 kind body).sch.cseq 6 = some ((n + 1) % 2 ^ 32)) := by
  have hmoved' (q : Sched) : State.movedTo { s with sch := q } g = none := hmoved
  unfold State.offer
  simp only [hroute, hmoved', Option.isSome_none, Bool.false_eq_true, if_false, if_true]
  rw [State.endRuns_of_nil (by exact hruns)]
  obtain ⟨q, hq⟩ := State.enqueue_only _ g 6 _
  rw [hq]
  refine ⟨rfl, fun hdie n hn => ?_⟩
  have htray : s.isTrayChip = false := by
    have hbuild : s.build = .die := by simpa [State.isDie] using hdie
    simp [State.isTrayChip, hbuild]
  simp [hn, htray, Tbl.getD]

theorem State.sendMirror_of_route {s : State} {g : Nat} (hruns : s.sch.runs = []) (hroute : s.routeNow = some g)
    (hmoved : s.movedTo g = none) :
    s.sendMirror.recd.ring = s.recd.ring.map (fun e =>
        if ((s.mirrorQueue.take 64).map (·.slot)).contains e.slot then { e with toMirror := false, gone := true } else e) ∧
      (s.isDie = true → ∀ n, Tbl.get? s.sch.cseq 6 = some n → Tbl.get? s.sendMirror.sch.cseq 6 = some ((n + 1) % 2 ^ 32)) := by
  refine (State.offer_class6 (g := g) (s := State.syncMirror { s with recd := _ }) .mirror _ hruns ?_ ?_).imp (congrArg Recorder.ring) id
  · exact (State.routeNow_wr_mirrorBehind _ _).trans hroute
  · exact (State.movedTo_wr_mirrorBehind _ _ _).trans hmoved

/-! ### The commands complete -/

/-- Settles O24: an alarm of a child goes behind those that are there, freed space adds to the buffer's end alone, and the ring takes
a child's records at its end. -/
theorem alarmCommandsComplete : Obligations.AlarmCommandsComplete := by
  unfold Obligations.AlarmCommandsComplete
  refine ⟨?_, ?_, ?_, ?_, ?_, ?_, ?_, ?_, ?_⟩
  · intro dt p r s u hu hon hdown hup hrole
    refine ⟨_, alarmRecord_of_up hu hon hdown hup, ?_⟩
    simp only [State.within_sch, (KeepsQueues.takeChildRecord ..).1]
    exact u.touch.forwardAlarm_allAlarms p r hrole
  · intro dt p r s u hu hon hdown hup hrole hconductor
    refine ⟨_, alarmRecord_of_up hu hon hdown hup, ?_⟩
    simp only [State.within_sch, State.within_dap, (KeepsQueues.takeChildRecord ..).1, (KeepsQueues.takeChildRecord ..).2]
    exact u.touch.forwardAlarm_root p r hrole hconductor
  · intro dt p r s u hu hon hdown hup hroom
    obtain ⟨hrecd, hsize⟩ := u.touch.forwardAlarm_keepsRing p r
    have hroom' : (u.touch.forwardAlarm p r).recd.ring.length + 2 ≤ (u.touch.forwardAlarm p r).ringSize := by
      rwa [hrecd, hsize, State.touch_recd, State.touch_ringSize]
    exact ⟨_, alarmRecord_of_up hu hon hdown hup, (State.takeChildRecord_of_room _ p r hroom').2⟩
  · intro dt s u hu hon
    refine ⟨_, alarmSpaceFreed_of_on hu hon, ?_⟩
    simp only [State.within_sch]
    exact u.take_prefix_spaceFreed
  · intro dt s u e hu hon hheld hroom
    refine ⟨_, alarmSpaceFreed_of_on hu hon, ?_⟩
    simp only [State.within_sch]
    exact State.held_prefix_spaceFreed hheld hroom
  · intro dt s u hu hon hwaiting hheld htallies hfits
    refine ⟨_, alarmSpaceFreed_of_on hu hon, ?_⟩
    simp only [State.within_sch, State.within_recd]
    exact State.spaceFreed_idle hwaiting hheld htallies hfits
  · intro dt s u g hu hon hdue hruns hroute hmoved
    refine ⟨_, mirrorFlush_of_on hu hon, ?_⟩
    simp only [if_pos hdue, State.within_sch, State.within_recd]
    exact State.sendMirror_of_route hruns hroute hmoved
  · intro dt s u hu hon hdue
    refine ⟨_, mirrorFlush_of_on hu hon, ?_⟩
    rw [hdue, if_neg Bool.false_ne_true]
    exact ⟨rfl, rfl⟩
  · intro dt p recs s u hu hon hdown hup
    refine ⟨_, mirrorMessage_of_up hu hon hdown hup, (KeepsQueues.takeChildRecords ..).1, fun hroom => ?_⟩
    exact (u.touch.takeChildRecords_of_room p recs hroom).2

end Sys2Proof.Machine
end

section
/-! What an operation keeps of the scalar objects, and what an event record leaves of them (chapter 17). -/

namespace Sys2Proof.Machine

open Sys2Proof

/-! ### Objects that are kept -/

/-- `t` has the build and the role of `s`, and stores the scalar objects whose numbers `P` holds of as `s` does. -/
def KeepsObjects (P : Nat → Prop) (s t : State) : Prop :=
  t.build = s.build ∧ t.role = s.role ∧ ∀ k, P k → Tbl.get? t.regs k = Tbl.get? s.regs k

/-- A scalar object has been given the value `v`, so that it reads `v` whatever its Default column. -/
def State.stores (s : State) (o : Ob) (m j v : Nat) : Prop := Tbl.get? s.regs (o.key m j) = some v

section
variable {P Q : Nat → Prop} {s t u : State}

theorem KeepsObjects.refl (P : Nat → Prop) (s : State) : KeepsObjects P s s := ⟨rfl, rfl, fun _ _ => rfl⟩

theorem KeepsObjects.trans (h : KeepsObjects P s t) (k : KeepsObjects P t u) : KeepsObjects P s u := by
  obtain ⟨hbuild, hrole, hregs⟩ := h
  obtain ⟨kbuild, krole, kregs⟩ := k
  exact ⟨kbuild.trans hbuild, krole.trans hrole, fun n hn => (kregs n hn).trans (hregs n hn)⟩

theorem KeepsObjects.mono (h : KeepsObjects P s t) (hQ : ∀ k, Q k → P k) : KeepsObjects Q s t := by
  obtain ⟨hbuild, hrole, hregs⟩ := h
  exact ⟨hbuild, hrole, fun n hn => hregs n (hQ n hn)⟩

theorem KeepsObjects.rd (h : KeepsObjects P s t) {o : Ob} {m j : Nat} (hk : P (o.key m j)) : t.rd o m j = s.rd o m j := by
  obtain ⟨hbuild, hrole, hregs⟩ := h
  simp only [State.rd, Tbl.getD, hregs _ hk, hbuild, hrole]

theorem KeepsObjects.wr (s : State) (o : Ob) (v m j : Nat) (hk : ¬ P (o.key m j)) : KeepsObjects P s (s.wr o v m j) :=
  ⟨rfl, rfl, fun _ hn => Tbl.get?_set_other _ _ _ _ fun e => hk (e ▸ hn)⟩

theorem KeepsObjects.bump (s : State) (o : Ob) (m j n : Nat) (hk : ¬ P (o.key m j)) : KeepsObjects P s (s.bump o m j n) :=
  .wr s o _ m j hk

theorem KeepsObjects.bumpSat (s : State) (o : Ob) (m j n : Nat) (hk : ¬ P (o.key m j)) :
    KeepsObjects P s (s.bumpSat o m j n) := .wr s o _ m j hk

theorem State.stores.rd {o : Ob} {m j v : Nat} (h : s.stores o m j v) : s.rd o m j = v := by
  unfold State.stores at h
  simp only [State.rd, Tbl.getD, h, Option.getD_some]

/-- What an operation keeps stays stored. -/
theorem State.stores.of_keeps {o : Ob} {m j v : Nat} (h : s.stores o m j v) (k : KeepsObjects P s t) (hk : P (o.key m j)) :
    t.stores o m j v := (k.2.2 _ hk).trans h

/-- What a command has written stands, since the queue, build and role that `within` brings back are no objects. -/
theorem State.stores.rd_within {o : Ob} {m j v : Nat} (h : t.stores o m j v) (s : State) : (t.within s).rd o m j = v :=
  State.stores.rd (s := t.within s) h

theorem State.stores_wr (s : State) (o : Ob) (v m j : Nat) : (s.wr o v m j).stores o m j (v % 2 ^ (8 * o.ty.bytes)) :=
  Tbl.get?_set_same ..

end

@[simp] theorem State.within_time (t s : State) : (t.within s).time = t.time := rfl
@[simp] theorem State.within_out (t s : State) : (t.within s).out = t.out := rfl
@[simp] theorem State.within_bar (t s : State) : (t.within s).bar = t.bar := rfl
@[simp] theorem State.within_ce (t s : State) : (t.within s).ce = t.ce := rfl
@[simp] theorem State.within_shutter (t s : State) : (t.within s).shutter = t.shutter := rfl
@[simp] theorem State.within_chan (t s : State) (c : Nat) : (t.within s).chan c = t.chan c := rfl
@[simp] theorem State.within_cmdCode (t s : State) (o : Ob) (m : Nat) : (t.within s).cmdCode o m = t.cmdCode o m := rfl
@[simp] theorem State.within_ptpLane (t s : State) (p : Nat) : (t.within s).ptpLane p = t.ptpLane p := rfl

/-! ### An event record (17 R348 to R353) -/

/-- The numbers of the objects outside 2900 to 2AFF: an event record changes none of them. -/
abbrev outsideRecorder (k : Nat) : Prop := k < 0x290000 ∨ 0x2B0000 ≤ k

/-- An event record keeps every object outside the recorder's and the alarm buffer's. -/
abbrev KeepsOutside : State → State → Prop := KeepsObjects outsideRecorder

theorem KeepsOutside.wr (s : State) (o : Ob) (v : Nat) (h : ¬ outsideRecorder (o.key 0 0)) : KeepsOutside s (s.wr o v) :=
  KeepsObjects.wr s o v 0 0 h

theorem KeepsOutside.bump (s : State) (o : Ob) (h : ¬ outsideRecorder (o.key 0 0)) : KeepsOutside s (s.bump o) :=
  KeepsOutside.wr s o _ h

theorem KeepsOutside.bumpSat (s : State) (o : Ob) (h : ¬ outsideRecorder (o.key 0 0)) : KeepsOutside s (s.bumpSat o) :=
  KeepsOutside.wr s o _ h

theorem KeepsOutside.recToStack (s : State) (slot : Nat) (r : EventRec) : KeepsOutside s (s.recToStack slot r) := by
  obtain ⟨_, _, h⟩ := s.recToStack_only slot r
  rw [h]
  exact .refl _ s

theorem nextOf_inRecorder (f : Bool) : ¬ outsideRecorder ((nextOf f).key 0 0) := by cases f <;> decide

theorem KeepsOutside.writeRecord (s : State) (slot : Nat) (r : EventRec) (alarm unsent child : Bool) :
    KeepsOutside s (s.writeRecord slot r alarm unsent child) := by
  unfold State.writeRecord State.syncMirror
  dsimp only
  refine .trans ?_ (KeepsOutside.wr _ Dict.mirrorBehind _ (by decide))
  refine .trans ?_ (KeepsOutside.bump _ _ (nextOf_inRecorder _))
  exact KeepsOutside.recToStack ..

theorem KeepsOutside.takeSlot {s t : State} {k : Nat} (h : s.takeSlot = some (k, t)) : KeepsOutside s t := by
  unfold State.takeSlot at h
  simp only at h
  split at h
  · cases h; exact .refl _ s
  · split at h
    · cases h
    · cases h
      split
      · exact KeepsOutside.bumpSat _ Dict.fOverwritten (by decide)
      · exact .refl _ s

theorem KeepsOutside.push (s : State) (op : Nat) (data : Bytes) (own : Option Nat) : KeepsOutside s (s.push op data own) := by
  obtain ⟨_, h⟩ := s.push_only op data own
  rw [h]
  exact .refl _ s

theorem KeepsOutside.bufferAlarm (s : State) (b : Bytes) (own : Option Nat) : KeepsOutside s (s.bufferAlarm b own) :=
  KeepsOutside.wr _ Dict.alarmBufUsed _ (by decide)

theorem KeepsOutside.sendOwnAlarm (s : State) (r : EventRec) (n : Nat) : KeepsOutside s (s.sendOwnAlarm r n) := by
  unfold State.sendOwnAlarm
  split
  · exact KeepsOutside.push ..
  · exact KeepsOutside.bufferAlarm ..

theorem KeepsOutside.storeOwn (s : State) (r : EventRec) (alarm : Bool) : KeepsOutside s (s.storeOwn r alarm) := by
  unfold State.storeOwn
  split
  next => exact .refl _ s
  next k t h =>
    have hwritten (unsent : Bool) := (KeepsOutside.takeSlot h).trans (KeepsOutside.writeRecord t k r alarm unsent false)
    simp only
    split
    · exact hwritten _
    · split
      · exact (hwritten _).trans (KeepsOutside.bumpSat _ Dict.alarmHeld (by decide))
      · exact (hwritten _).trans (KeepsOutside.sendOwnAlarm ..)

theorem KeepsOutside.fold (s : State) (e : Stored) : KeepsOutside s (s.fold e) := by
  unfold State.fold
  dsimp only
  refine .trans ?_ (KeepsOutside.bumpSat _ Dict.repeatsFolded (by decide))
  exact KeepsOutside.recToStack ..

theorem KeepsOutside.raiseAt (s : State) (classF alarm : Bool) (typ payload time frame : Nat) :
    KeepsOutside s (s.raiseAt classF alarm typ payload time frame) := by
  unfold State.raiseAt
  simp only
  split
  · exact KeepsOutside.fold ..
  · exact KeepsOutside.storeOwn ..

theorem KeepsOutside.raise (s : State) (classF alarm : Bool) (typ payload : Nat) :
    KeepsOutside s (s.raise classF alarm typ payload) := KeepsOutside.raiseAt ..

end Sys2Proof.Machine
end

section
/-! What the time island's operations keep of the clock, and its servo (chapter 02). -/

namespace Sys2Proof.Machine

open Sys2Proof

/-! ### What records, schedules and steps of local time leave of the clock -/

/-- The numbers of the objects before 110B: neither an event record, nor a schedule, nor a count of steps changes one of them. -/
abbrev beforeSteps (k : Nat) : Prop := k < 0x110B00

/-- `t` has the PTP state of `s`, its time base but for the records held for the core, and its objects before 110B. -/
structure KeepsClock (s t : State) : Prop where
  ptp : t.ptp = s.ptp
  time : ∃ held, t.time = { s.time with held := held }
  objects : KeepsObjects beforeSteps s t

theorem KeepsClock.refl (s : State) : KeepsClock s s := ⟨rfl, ⟨_, rfl⟩, .refl _ s⟩

theorem KeepsClock.trans {s t u : State} (h : KeepsClock s t) (k : KeepsClock t u) : KeepsClock s u := by
  obtain ⟨held, htime⟩ := h.time
  obtain ⟨held', ktime⟩ := k.time
  exact ⟨k.ptp.trans h.ptp, ⟨held', by rw [ktime, htime]⟩, h.objects.trans k.objects⟩

theorem KeepsClock.now {s t : State} (h : KeepsClock s t) : t.time.now = s.time.now := by
  obtain ⟨_, htime⟩ := h.time
  rw [htime]

theorem KeepsClock.foldl {α : Type} {f : State → α → State} (hf : ∀ t x, KeepsClock t (f t x)) (l : List α) (s : State) :
    KeepsClock s (l.foldl f s) := by
  induction l generalizing s with
  | nil => exact .refl s
  | cons x l ih => exact (hf s x).trans (ih _)

theorem KeepsClock.wr (s : State) (o : Ob) (v m j : Nat) (h : 0x110B ≤ o.idx) : KeepsClock s (s.wr o v m j) :=
  ⟨rfl, ⟨_, rfl⟩, .wr s o v m j fun hk => by unfold Ob.key at hk; omega⟩

theorem KeepsClock.bumpSat (s : State) (o : Ob) (m j n : Nat) (h : 0x110B ≤ o.idx) : KeepsClock s (s.bumpSat o m j n) :=
  .wr s o _ m j h

theorem KeepsClock.raiseAt (s : State) (classF alarm : Bool) (typ payload time frame : Nat) :
    KeepsClock s (s.raiseAt classF alarm typ payload time frame) := by
  have hobjects := KeepsOutside.raiseAt s classF alarm typ payload time frame
  obtain ⟨_, _, _, _, _, _, _, _, _, h⟩ := RaisedFrom.raiseAt s classF alarm typ payload time frame
  refine ⟨by rw [h], ⟨s.time.held, by rw [h]⟩, hobjects.mono fun k hk => .inl (by omega)⟩

/-- A record of the time or link island is written, or held for the core, which it may wake (19 R392). -/
theorem KeepsClock.raiseIsland (s : State) (classF alarm : Bool) (typ payload time frame : Nat) :
    KeepsClock s (s.raiseIsland classF alarm typ payload time frame) := by
  unfold State.raiseIsland
  split
  · exact .raiseAt ..
  · dsimp only
    split
    · obtain ⟨_, h⟩ := State.wake_only _ 8 0 0
      rw [h]
      exact ⟨rfl, ⟨_, rfl⟩, .refl _ s⟩
    · exact ⟨rfl, ⟨_, rfl⟩, .refl _ s⟩

theorem KeepsClock.clockRecord (s : State) (classF : Bool) (typ : Nat) : KeepsClock s (s.clockRecord classF typ) := .raiseIsland ..

theorem KeepsClock.adoptOne (s : State) (c : Nat) : KeepsClock s (s.adoptOne c) := by
  unfold State.adoptOne
  dsimp only
  split
  · exact .refl s
  · split
    · refine .trans ?_ (.wr _ Dict.shutterBase _ c 0 (by decide))
      refine .trans ?_ (.wr _ Dict.shutterPeriod _ c 0 (by decide))
      refine .trans ?_ (.wr _ Dict.shutterStart _ c 0 (by decide))
      split <;> exact ⟨rfl, ⟨_, rfl⟩, .refl _ s⟩
    · exact .refl s

theorem KeepsClock.skipBefore (s : State) (c limit : Nat) : KeepsClock s (s.skipBefore c limit).1 := by
  unfold State.skipBefore
  extract_lets ch sc k
  split
  · exact .refl s
  · split
    · exact .refl s
    · refine .trans ?_ (.bumpSat _ Dict.shutterMissed c 0 _ (by decide))
      exact ⟨rfl, ⟨_, rfl⟩, .refl _ s⟩

theorem KeepsClock.skipChannel (s : State) (c : Nat) : KeepsClock s (s.skipChannel c) := by
  have hskipped (cut limit : Nat) : KeepsClock s (((s.skipBefore c cut).1.adoptOne c).skipBefore c limit).1 :=
    ((KeepsClock.skipBefore ..).trans (.adoptOne ..)).trans (.skipBefore ..)
  unfold State.skipChannel
  dsimp only
  split
  · exact hskipped _ _
  · exact (hskipped _ _).trans (.raiseIsland ..)

/-- A step of local time sets it, and the next anchor; of the rest of the clock it changes the held records alone (02 R39, R46). -/
theorem State.stepTime_keepsClock (s : State) (new : Nat) :
    KeepsClock { s with time := { s.time with now := new, anchorNext := ceilDiv new secUnits } } (s.stepTime new) := by
  unfold State.stepTime
  dsimp only
  split
  · refine .trans ?_ (KeepsClock.foldl KeepsClock.skipChannel _ _)
    exact ⟨rfl, ⟨_, rfl⟩, .refl _ s⟩
  · exact ⟨rfl, ⟨_, rfl⟩, .refl _ s⟩

theorem State.stepTime_now (s : State) (new : Nat) : (s.stepTime new).time.now = new := (s.stepTime_keepsClock new).now

/-! ### The servo (02 R32) -/

/-- OFFSET, and nothing else of the clock, takes an offset. -/
theorem State.storeOffset_only (s : State) (ps : Int) : ∃ v n, s.storeOffset ps = { s.wr Dict.clockOffset v with free := n } := by
  unfold State.storeOffset
  split <;> exact ⟨_, _, rfl⟩

theorem KeepsObjects.storeOffset (s : State) (ps : Int) : KeepsObjects (· ≠ 0x110300) s (s.storeOffset ps) := by
  obtain ⟨v, n, h⟩ := s.storeOffset_only ps
  rw [h]
  exact KeepsObjects.wr s Dict.clockOffset v 0 0 fun hk => hk rfl

theorem State.storeOffset_time (s : State) (ps : Int) : (s.storeOffset ps).time = s.time := by
  obtain ⟨v, n, h⟩ := s.storeOffset_only ps
  rw [h]
  rfl

theorem State.storeOffset_now (s : State) (ps : Int) : (s.storeOffset ps).time.now = s.time.now := by rw [s.storeOffset_time]

theorem KeepsObjects.setClock (s : State) (v : Nat) : KeepsObjects (· ≠ 0x110000) s (s.setClock v) :=
  KeepsObjects.wr s Dict.clockState v 0 0 fun hk => hk rfl

theorem State.setClock_stores (s : State) (v : Nat) : (s.setClock v).stores Dict.clockState 0 0 (v % 2 ^ 8) :=
  State.stores_wr s Dict.clockState v 0 0

/-- A step of the clock by an offset: a step of local time, counted and recorded. -/
theorem State.stepBy_keepsClock (s : State) (off : Int) :
    KeepsClock (s.stepTime ((s.time.now : Int) - off).toNat) (s.stepBy off) := by
  unfold State.stepBy
  exact (KeepsClock.bumpSat _ Dict.steps 0 0 1 (by decide)).trans (.raiseIsland ..)

/-- The servo's settings, and what is relayed from the ROOT: the objects 1104 to 110A. -/
abbrev clockSetting (k : Nat) : Prop := 0x110400 ≤ k ∧ k < 0x110B00

/-- `t` has the PTP state of `s`, the time and interval of the last Sync, and the settings of the servo. -/
structure KeepsSync (s t : State) : Prop where
  ptp : t.ptp = s.ptp
  lastSync : t.time.lastSync = s.time.lastSync
  syncLog : t.time.mgmtSyncLog = s.time.mgmtSyncLog
  objects : KeepsObjects clockSetting s t

theorem KeepsSync.refl (s : State) : KeepsSync s s := ⟨rfl, rfl, rfl, .refl _ s⟩

theorem KeepsSync.trans {s t u : State} (h : KeepsSync s t) (k : KeepsSync t u) : KeepsSync s u :=
  ⟨k.ptp.trans h.ptp, k.lastSync.trans h.lastSync, k.syncLog.trans h.syncLog, h.objects.trans k.objects⟩

theorem KeepsClock.keepsSync {s t : State} (h : KeepsClock s t) : KeepsSync s t := by
  obtain ⟨_, htime⟩ := h.time
  exact ⟨h.ptp, by rw [htime], by rw [htime], h.objects.mono fun _ hk => hk.2⟩

theorem KeepsSync.storeOffset (s : State) (ps : Int) : KeepsSync s (s.storeOffset ps) := by
  have hobjects := (KeepsObjects.storeOffset s ps).mono (Q := clockSetting) fun k hk => by omega
  obtain ⟨_, _, h⟩ := s.storeOffset_only ps
  exact ⟨by rw [h]; rfl, by rw [h]; rfl, by rw [h]; rfl, hobjects⟩

theorem KeepsSync.setClock (s : State) (v : Nat) : KeepsSync s (s.setClock v) :=
  ⟨rfl, rfl, rfl, (KeepsObjects.setClock s v).mono fun k hk => by omega⟩

theorem KeepsSync.stepBy (s : State) (off : Int) : KeepsSync s (s.stepBy off) := by
  refine .trans ?_ (s.stepBy_keepsClock off).keepsSync
  have h := (s.stepTime_keepsClock ((s.time.now : Int) - off).toNat).keepsSync
  exact ⟨h.ptp, h.lastSync, h.syncLog, h.objects⟩

theorem KeepsSync.slew (s : State) : KeepsSync s s.slew := ⟨rfl, rfl, rfl, .refl _ s⟩

/-- The clock state that a measured offset brings about. -/
theorem KeepsSync.servo (s : State) (off : Int) : KeepsSync s (s.servo off) := by
  have hoffset := KeepsSync.storeOffset s (unitsPs off)
  have hend {t : State} (h : KeepsSync s t) :
      KeepsSync s (if t.rd Dict.clockState = 1 ∧ t.beyondStep off then t.stepBy off else t.slew) := by
    split
    · exact h.trans (.stepBy ..)
    · exact h.trans (.slew _)
  unfold State.servo
  refine hend (hoffset.trans ?_)
  split
  · exact .setClock ..
  · exact .setClock ..
  · split
    · exact (KeepsSync.setClock ..).trans (KeepsClock.clockRecord ..).keepsSync
    · exact .refl _
  · split
    · split
      · exact (KeepsSync.setClock ..).trans (KeepsClock.clockRecord ..).keepsSync
      · exact ⟨rfl, rfl, rfl, .refl _ _⟩
    · exact ⟨rfl, rfl, rfl, .refl _ _⟩

/-- A Sync leaves its time and its stamps, whatever the servo makes of them. -/
theorem State.takeSync_keepsSync (s : State) (p : Nat) (t2 t1 : Int) :
    KeepsSync (State.setPtp { s with time := { s.time with lastSync := some s.time.run } } p { s.ptpLane p with sync := some (t2, t1) })
      (s.takeSync p t2 t1) := by
  unfold State.takeSync
  dsimp only
  split
  · exact .refl _
  · exact .servo ..

end Sys2Proof.Machine
end

section
/-! PTP messages on a lane: what a received one counts and leaves alone (02 R27, R30). -/

namespace Sys2Proof.Machine

open Sys2Proof

/-! ### Lanes, and what a PTP message on one of them leaves (02 R27, R30) -/

/-- The numbers of the objects but the frame counters of the lanes and what the ROOT relays, GM_SOURCE and UTC_OFFSET. -/
abbrev notCounted (k : Nat) : Prop := k % 256 ≠ 7 ∧ k % 256 ≠ 8 ∧ (k < 0x110800 ∨ 0x110900 < k)

/-- `t` has the links, routes and time base of `s`, and its objects but the counters of frames and what the ROOT relays. -/
structure KeepsLanes (s t : State) : Prop where
  lnk : t.lnk = s.lnk
  rt : t.rt = s.rt
  time : t.time = s.time
  objects : KeepsObjects notCounted s t

theorem KeepsLanes.refl (s : State) : KeepsLanes s s := ⟨rfl, rfl, rfl, .refl _ s⟩

section
variable {s t u : State}

theorem KeepsLanes.trans (h : KeepsLanes s t) (k : KeepsLanes t u) : KeepsLanes s u :=
  ⟨k.lnk.trans h.lnk, k.rt.trans h.rt, k.time.trans h.time, h.objects.trans k.objects⟩

/-- An object of a lane with one of the subindices 00 to 06 or 09 to FF is none of those that are excepted. -/
theorem notCounted_lane {o : Ob} (p : Nat) (hidx : 0x1200 ≤ o.idx) (hsub : o.sub < 256) (h7 : o.sub ≠ 7) (h8 : o.sub ≠ 8) :
    notCounted (o.key p 0) := by
  unfold notCounted Ob.key
  omega

variable (h : KeepsLanes s t)
include h

theorem KeepsLanes.rdLane {o : Ob} (p : Nat) (hidx : 0x1200 ≤ o.idx) (hsub : o.sub < 256) (h7 : o.sub ≠ 7) (h8 : o.sub ≠ 8) :
    t.rd o p = s.rd o p := h.objects.rd (notCounted_lane p hidx hsub h7 h8)

theorem KeepsLanes.laneUp (p : Nat) : t.laneUp p = s.laneUp p := by
  simp only [State.laneUp, h.rdLane (o := Dict.laneState) p (by decide) (by decide) (by decide) (by decide)]

theorem KeepsLanes.isDie : t.isDie = s.isDie := by simp only [State.isDie, h.objects.1]

theorem KeepsLanes.isDown (p : Nat) : t.isDown p = s.isDown p := by simp only [State.isDown, State.isTrayChip, h.objects.1]

theorem KeepsLanes.ports : t.ports = s.ports := by simp only [State.ports, h.isDie]

theorem KeepsLanes.portGroup (v : Nat) : t.portGroup v = s.portGroup v := by simp only [State.portGroup, State.lane, h.lnk]

theorem KeepsLanes.groupOf (p : Nat) : t.groupOf p = s.groupOf p := by
  unfold State.groupOf State.lane
  rw [h.isDie, h.lnk, h.portGroup]

theorem KeepsLanes.upLanes (g : Nat) : t.upLanes g = s.upLanes g := by
  have hup : t.laneUp = s.laneUp := funext h.laneUp
  simp only [State.upLanes, State.lanesOf, h.ports, h.groupOf, hup]

theorem KeepsLanes.upGroup (buddy : Bool) : t.upGroup buddy = s.upGroup buddy := by
  have huse : t.rd Dict.upUse = s.rd Dict.upUse := h.objects.rd (by decide)
  have hgroup : t.portGroup = s.portGroup := funext h.portGroup
  simp only [State.upGroup, State.upPort?, h.isDie, h.objects.2.1, huse, hgroup]

theorem KeepsLanes.slaveLane : t.slaveLane = s.slaveLane := by
  simp only [State.slaveLane, h.objects.2.1, h.rt, h.upGroup, h.upLanes]

theorem KeepsLanes.ptpPortState (p : Nat) : t.ptpPortState p = s.ptpPortState p := by
  simp only [State.ptpPortState, h.laneUp, h.isDown, h.slaveLane]

theorem KeepsLanes.rawStamp : t.rawStamp = s.rawStamp := by simp only [State.rawStamp, h.time]

theorem KeepsLanes.ingressStamp (p : Nat) : t.ingressStamp p = s.ingressStamp p := by
  simp only [State.ingressStamp, h.rawStamp,
    h.rdLane (o := Dict.laneIngressCorr) p (by decide) (by decide) (by decide) (by decide)]

theorem KeepsLanes.egressStamp (p : Nat) : t.egressStamp p = s.egressStamp p := by
  simp only [State.egressStamp, h.rawStamp,
    h.rdLane (o := Dict.laneEgressCorr) p (by decide) (by decide) (by decide) (by decide)]

theorem KeepsLanes.asymmetry (p : Nat) : t.asymmetry p = s.asymmetry p := by
  simp only [State.asymmetry, h.rdLane (o := Dict.laneAsymmetry) p (by decide) (by decide) (by decide) (by decide)]

theorem KeepsLanes.logSync : t.logSync = s.logSync := by
  simp only [State.logSync, h.objects.rd (o := Dict.logSyncInterval) (m := 0) (j := 0) (by decide)]

theorem KeepsLanes.ptpDomain : t.rd Dict.ptpDomain = s.rd Dict.ptpDomain := h.objects.rd (by decide)

end

/-- Bytes of a port count in the counters of chapter 03 alone. -/
theorem State.countPort_only (s : State) (p dir n : Nat) : ∃ c, s.countPort p dir n = { s with cnt := c } := by
  unfold State.countPort
  split <;> exact ⟨_, rfl⟩

theorem State.rxOn_keepsLanes (s : State) (p n : Nat) : KeepsLanes s (s.rxOn p n) := by
  obtain ⟨c, h⟩ := (s.bump Dict.laneFramesRx p).countPort_only p 1 (frameBytes n)
  rw [State.rxOn, h]
  refine ⟨rfl, rfl, rfl, KeepsObjects.bump s Dict.laneFramesRx p 0 1 fun hk => ?_⟩
  unfold notCounted Ob.key at hk
  simp only [Dict.laneFramesRx] at hk
  omega

theorem State.relayed_keepsLanes (s : State) (p gm utc : Nat) : KeepsLanes s (s.relayed p gm utc) := by
  unfold State.relayed
  split
  · exact ⟨rfl, rfl, rfl, (KeepsObjects.wr s Dict.gmSource gm 0 0 (by decide)).trans (.wr _ Dict.utcOffset utc 0 0 (by decide))⟩
  · exact .refl s

/-- A PTP message has been received on a lane: the lane counts it, and on the SLAVE lane what the ROOT relays is taken (02 R29). -/
abbrev State.received (s : State) (p n gm utc : Nat) : State := (s.rxOn p n).relayed p gm utc

section
variable (s : State) (p n gm utc : Nat)

theorem State.received_keepsLanes : KeepsLanes s (s.received p n gm utc) :=
  (s.rxOn_keepsLanes p n).trans (State.relayed_keepsLanes ..)

theorem State.received_only : ∃ rg c, s.received p n gm utc = { s with regs := rg, cnt := c } := by
  obtain ⟨c, h⟩ := (s.bump Dict.laneFramesRx p).countPort_only p 1 (frameBytes n)
  rw [State.received, State.rxOn, h, State.relayed]
  split <;> exact ⟨_, _, rfl⟩

@[simp] theorem State.received_ptpLane (q : Nat) : (s.received p n gm utc).ptpLane q = s.ptpLane q := by
  obtain ⟨_, _, h⟩ := s.received_only p n gm utc
  rw [h]
  rfl

@[simp] theorem State.received_out : (s.received p n gm utc).out = s.out := by
  obtain ⟨_, _, h⟩ := s.received_only p n gm utc
  rw [h]

@[simp] theorem State.received_time : (s.received p n gm utc).time = s.time := (s.received_keepsLanes ..).time
@[simp] theorem State.received_slaveLane : (s.received p n gm utc).slaveLane = s.slaveLane := (s.received_keepsLanes ..).slaveLane
@[simp] theorem State.received_portState (q : Nat) : (s.received p n gm utc).ptpPortState q = s.ptpPortState q :=
  (s.received_keepsLanes ..).ptpPortState q
@[simp] theorem State.received_ingress (q : Nat) : (s.received p n gm utc).ingressStamp q = s.ingressStamp q :=
  (s.received_keepsLanes ..).ingressStamp q
@[simp] theorem State.received_egress (q : Nat) : (s.received p n gm utc).egressStamp q = s.egressStamp q :=
  (s.received_keepsLanes ..).egressStamp q
@[simp] theorem State.received_asymmetry (q : Nat) : (s.received p n gm utc).asymmetry q = s.asymmetry q :=
  (s.received_keepsLanes ..).asymmetry q
@[simp] theorem State.received_logSync : (s.received p n gm utc).logSync = s.logSync := (s.received_keepsLanes ..).logSync
@[simp] theorem State.received_ptpDomain : (s.received p n gm utc).rd Dict.ptpDomain = s.rd Dict.ptpDomain :=
  (s.received_keepsLanes ..).ptpDomain

end

/-- On the SLAVE lane GM_SOURCE and UTC_OFFSET are as relayed. -/
theorem State.received_stores {s : State} {p : Nat} (hslave : s.slaveLane = some p) (n gm utc : Nat) :
    (s.received p n gm utc).stores Dict.gmSource 0 0 (gm % 256) ∧ (s.received p n gm utc).stores Dict.utcOffset 0 0 (utc % 65536) := by
  have hslave' : ((s.rxOn p n).slaveLane == some p) = true := by rw [(s.rxOn_keepsLanes p n).slaveLane, hslave, beq_self_eq_true]
  rw [State.received, State.relayed, if_pos hslave']
  exact ⟨(State.stores_wr _ Dict.gmSource gm 0 0).of_keeps (.wr _ Dict.utcOffset utc 0 0 fun hk => hk rfl)
    (P := (· ≠ 0x110900)) (by decide), State.stores_wr _ Dict.utcOffset utc 0 0⟩

/-! ### The commands on a lane that is UP -/

section
variable {dt p dom gm utc clock port seq : Nat} {o c corr rcp : Int} {s u : State} (hu : u = s.elapse dt)
  (hrun : u.inChipReset = false) (hup : u.laneUp p = true) (hdom : dom = u.rd Dict.ptpDomain)
include hu hrun hup hdom

/-- PTP_SYNC on the SLAVE lane. -/
theorem ptpSync_of_slave (hslave : u.slaveLane = some p) :
    exec (.ptpSync dt p dom gm utc o c) s =
      .next (((u.received p 44 gm utc).takeSync p (u.ingressStamp p) (o + c + u.asymmetry p)).within s) := by
  subst hdom hu
  show execPtpSync .. = _
  simp [execPtpSync, s.island_of_on _ _ hrun, hup, hslave]

/-- PTP_PDELAY_REQ on a P2P lane. -/
theorem ptpPdelayReq_of_p2p (hmech : (u.ptpLane p).mech = 1) :
    exec (.ptpPdelayReq dt p dom gm utc clock port seq corr) s =
      .next (((u.received p 54 gm utc).sendPtp p (ptpMessage 3 dom p seq 5 (corr + (u.egressStamp p - u.ingressStamp p)) 127
        (zeros 10 ++ ptpIdentity clock port))).within s) := by
  subst hdom hu
  show execPtpPdelayReq .. = _
  simp [execPtpPdelayReq, s.island_of_on _ _ hrun, hup, hmech]

/-- PTP_PDELAY_RESP on a P2P lane that has asked. -/
theorem ptpPdelayResp_of_p2p (hmech : (u.ptpLane p).mech = 1) {t1 d : Int} (hreq : (u.ptpLane p).request = some (seq, t1))
    (hd : d = (u.ingressStamp p - t1 - corr - u.asymmetry p) / 2) :
    exec (.ptpPdelayResp dt p dom gm utc seq corr) s =
      .next ((((u.received p 54 gm utc).setPtp p { u.ptpLane p with request := none, p2p := some d }).storePs Dict.lanePeerDelay
        (unitsPs d) p).within s) := by
  subst hd hdom hu
  show execPtpPdelayResp .. = _
  simp [execPtpPdelayResp, s.island_of_on _ _ hrun, hup, hmech, hreq]

/-- PTP_DELAY_REQ on an E2E MASTER lane. -/
theorem ptpDelayReq_of_master (hmech : (u.ptpLane p).mech = 0) (hmaster : u.ptpPortState p = 6) :
    exec (.ptpDelayReq dt p dom gm utc clock port seq corr) s =
      .next (((u.received p 44 gm utc).sendPtp p (ptpMessage 9 dom p seq 3 (corr - (ptpTimestamp (u.ingressStamp p)).2) u.logSync
        ((ptpTimestamp (u.ingressStamp p)).1 ++ ptpIdentity clock port))).within s) := by
  subst hdom hu
  show execPtpDelayReq .. = _
  simp [execPtpDelayReq, s.island_of_on _ _ hrun, hup, hmech, hmaster]

/-- PTP_DELAY_RESP on the SLAVE lane. -/
theorem ptpDelayResp_of_slave (hslave : u.slaveLane = some p) :
    exec (.ptpDelayResp dt p dom gm utc seq rcp corr) s =
      .next (((u.received p 54 gm utc).takeDelayResp p seq rcp corr).within s) := by
  subst hdom hu
  show execPtpDelayResp .. = _
  simp [execPtpDelayResp, s.island_of_on _ _ hrun, hup, hslave]

end

end Sys2Proof.Machine
end

section
/-! The servo's clock states and the choice of the best master (Table 02-2, 02 R31, R33). -/

namespace Sys2Proof.Machine

open Sys2Proof

/-! ### The clock states that a measured offset brings about (Table 02-2) -/

section
variable {s t : State}

theorem KeepsSync.beyondStep (h : KeepsSync s t) (off : Int) : t.beyondStep off = s.beyondStep off := by
  simp only [State.beyondStep, h.objects.rd (o := Dict.stepThreshold) (m := 0) (j := 0) (by decide)]

theorem KeepsSync.withinLock (h : KeepsSync s t) (off : Int) : t.withinLock off = s.withinLock off := by
  simp only [State.withinLock, h.objects.rd (o := Dict.lockThreshold) (m := 0) (j := 0) (by decide)]

theorem State.rd_clockState_storeOffset (s : State) (ps : Int) : (s.storeOffset ps).rd Dict.clockState = s.rd Dict.clockState :=
  (KeepsObjects.storeOffset s ps).rd (by decide)

/-- What neither an event record nor a step of local time changes stays stored. -/
theorem KeepsClock.stores_clockState (h : KeepsClock s t) {v : Nat} (hs : s.stores Dict.clockState 0 0 v) :
    t.stores Dict.clockState 0 0 v := hs.of_keeps h.objects (by decide)

variable {off : Int}

/-- FREERUN: the first measured offset means ACQUIRING, and a clock within the step threshold slews. -/
theorem State.servo_of_freerun (hstate : s.rd Dict.clockState = 0) (hnear : s.beyondStep off = false) :
    (s.servo off).stores Dict.clockState 0 0 1 ∧ (s.servo off).time.now = s.time.now := by
  have hnear' : ((s.storeOffset (unitsPs off)).setClock 1).beyondStep off = false := by
    rw [((KeepsSync.storeOffset s _).trans (.setClock _ 1)).beyondStep, hnear]
  have hservo : s.servo off = ((s.storeOffset (unitsPs off)).setClock 1).slew := by
    simp only [State.servo, State.rd_clockState_storeOffset, hstate, hnear', Bool.false_eq_true, and_false, if_false]
  rw [hservo]
  exact ⟨State.setClock_stores _ 1, s.storeOffset_now _⟩

/-- ACQUIRING: the sixteenth offset in a row within the lock threshold means LOCKED. -/
theorem State.servo_of_locking (hstate : s.rd Dict.clockState = 1) (hlock : s.withinLock off = true) (hcount : 15 ≤ s.time.lockRun) :
    (s.servo off).stores Dict.clockState 0 0 2 ∧ (s.servo off).time.now = s.time.now := by
  have hkeeps := KeepsSync.storeOffset s (unitsPs off)
  have hlock' : (s.storeOffset (unitsPs off)).withinLock off = true := by rw [hkeeps.withinLock, hlock]
  have hcount' : 16 ≤ (s.storeOffset (unitsPs off)).time.lockRun + 1 := by rw [s.storeOffset_time]; omega
  have hrec := KeepsClock.clockRecord ((s.storeOffset (unitsPs off)).setClock 2) false recClockLocked
  have hlocked := hrec.stores_clockState (State.setClock_stores _ 2)
  have hservo : s.servo off = (((s.storeOffset (unitsPs off)).setClock 2).clockRecord false recClockLocked).slew := by
    simp only [State.servo, State.rd_clockState_storeOffset, hstate, hlock', hcount', if_true, hlocked.rd, Nat.reduceMod, Nat.reducePow,
      OfNat.ofNat_ne_one, false_and, if_false]
  rw [hservo]
  exact ⟨hlocked, hrec.now.trans (s.storeOffset_now _)⟩

/-- LOCKED: an offset beyond the step threshold means ACQUIRING, and the clock steps by it. -/
theorem State.servo_of_step (hstate : s.rd Dict.clockState = 2) (hfar : s.beyondStep off = true) :
    (s.servo off).stores Dict.clockState 0 0 1 ∧ (s.servo off).time.now = ((s.time.now : Int) - off).toNat := by
  have hkeeps := KeepsSync.storeOffset s (unitsPs off)
  have hrec := KeepsClock.clockRecord ((s.storeOffset (unitsPs off)).setClock 1) true recClockUnlock
  have hacquiring := hrec.stores_clockState (State.setClock_stores _ 1)
  have hfar' : (s.storeOffset (unitsPs off)).beyondStep off = true := by rw [hkeeps.beyondStep, hfar]
  have hfar'' : (((s.storeOffset (unitsPs off)).setClock 1).clockRecord true recClockUnlock).beyondStep off = true := by
    rw [hrec.keepsSync.beyondStep, (KeepsSync.setClock _ 1).beyondStep, hfar']
  have hservo : s.servo off = (((s.storeOffset (unitsPs off)).setClock 1).clockRecord true recClockUnlock).stepBy off := by
    simp only [State.servo, State.rd_clockState_storeOffset, hstate, hfar', hfar'', if_true, hacquiring.rd, Nat.reduceMod, Nat.reducePow,
      and_self]
  have hnow : (((s.storeOffset (unitsPs off)).setClock 1).clockRecord true recClockUnlock).time.now = s.time.now :=
    hrec.now.trans (s.storeOffset_now _)
  have hstep := State.stepBy_keepsClock (((s.storeOffset (unitsPs off)).setClock 1).clockRecord true recClockUnlock) off
  rw [hservo]
  refine ⟨hstep.stores_clockState ?_, by rw [hstep.now, State.stepTime_now, hnow]⟩
  exact hacquiring.of_keeps (State.stepTime_keepsClock _ _).objects (by decide)

end

/-! ### BMCA on the management port (02 R29) -/

/-- The better of the best so far and one more external clock. -/
def betterMaster (best : Option (Nat × ForeignMaster)) (e : Nat × ForeignMaster) : Option (Nat × ForeignMaster) :=
  match best with
  | none => some e
  | some x => if e.2.data < x.2.data then some e else best

theorem betterMaster_foldl_best {e : Nat × ForeignMaster} {l : List (Nat × ForeignMaster)}
    (h : ∀ x ∈ l, x = e ∨ e.2.data < x.2.data) : l.foldl betterMaster (some e) = some e := by
  induction l with
  | nil => rfl
  | cons x l ih =>
    have hx : betterMaster (some e) x = some e := by
      obtain rfl | hlt := h x List.mem_cons_self
      · simp [betterMaster]
      · exact if_neg (by omega)
    rw [List.foldl_cons, hx]
    exact ih fun y hy => h y (List.mem_cons_of_mem x hy)

/-- The one clock whose dataset is least wins, whichever was best before it. -/
theorem betterMaster_foldl {e : Nat × ForeignMaster} {l : List (Nat × ForeignMaster)} {best : Option (Nat × ForeignMaster)}
    (h : ∀ x ∈ l, x = e ∨ e.2.data < x.2.data) (he : e ∈ l) (hbest : ∀ y, best = some y → e.2.data < y.2.data) :
    l.foldl betterMaster best = some e := by
  induction l generalizing best with
  | nil => exact absurd he List.not_mem_nil
  | cons x l ih =>
    have htail : ∀ y ∈ l, y = e ∨ e.2.data < y.2.data := fun y hy => h y (List.mem_cons_of_mem x hy)
    rw [List.foldl_cons]
    obtain rfl | hlt := h x List.mem_cons_self
    · have hx : betterMaster best x = some x := by
        cases best with
        | none => rfl
        | some y => exact if_pos (hbest y rfl)
      rw [hx]
      exact betterMaster_foldl_best htail
    · have he' : e ∈ l := (List.mem_cons.mp he).resolve_left fun hex => by rw [hex] at hlt; omega
      refine ih htail he' fun y hy => ?_
      cases best with
      | none => cases hy; exact hlt
      | some z =>
        have hz := hbest z rfl
        unfold betterMaster at hy
        dsimp only at hy
        split at hy <;> cases hy
        · exact hlt
        · exact hz

/-- An external clock counts for three of its announce intervals (log entry 71). -/
def State.counts (s : State) (e : Nat × ForeignMaster) : Bool := decide (s.time.run ≤ e.2.seen + 3 * logUnits e.2.log)

theorem State.bestMaster_eq (s : State) : s.bestMaster = (s.time.masters.filter s.counts).foldl betterMaster none := rfl

/-- A clock that counts, and whose dataset is less than every other's, is the grandmaster. -/
theorem State.bestMaster_of_least {s : State} {e : Nat × ForeignMaster} (he : e ∈ s.time.masters) (hcounts : s.counts e = true)
    (hleast : ∀ x ∈ s.time.masters, x = e ∨ e.2.data < x.2.data) : s.bestMaster = some e := by
  rw [s.bestMaster_eq]
  refine betterMaster_foldl (fun x hx => hleast x (List.mem_of_mem_filter hx)) (List.mem_filter.mpr ⟨he, hcounts⟩) ?_
  intro y hy
  cases hy

/-- The grandmaster is the best of the external clocks, and nothing else of the time base changes. -/
theorem State.settleGm_time (s : State) : s.settleGm.time = { s.time with gm := s.bestMaster.map (·.1) } := by
  have hgm : (if s.bestMaster.map (·.1) == s.time.gm then s
      else State.setPtp { s with time := { s.time with gm := s.bestMaster.map (·.1) } } 48
        { s.ptpLane 48 with request := none, e2e := none, sync := none, twoStep := none }).time =
        { s.time with gm := s.bestMaster.map (·.1) } := by
    split
    next h => rw [eq_of_beq h]
    next => rfl
  unfold State.settleGm
  dsimp only
  split <;> exact hgm

theorem State.settleGm_stores {s : State} {b : Nat × ForeignMaster} (h : s.bestMaster = some b) :
    s.settleGm.stores Dict.utcOffset 0 0 (b.2.utc % 65536) := by
  simp only [State.settleGm, h]
  exact State.stores_wr _ Dict.utcOffset b.2.utc 0 0

/-- Of the lanes' PTP state BMCA changes the management port's alone. -/
theorem State.settleGm_ptpLane (s : State) {p : Nat} (hp : p ≠ 48) : s.settleGm.ptpLane p = s.ptpLane p := by
  have hlane (t : State) (l : PtpLane) : (t.setPtp 48 l).ptpLane p = t.ptpLane p := Tbl.getD_set_other _ _ _ _ _ hp.symm
  unfold State.settleGm
  dsimp only
  split
  · split
    · rfl
    · exact hlane _ _
  · split
    · rfl
    · exact hlane _ _

/-- PTP_MGMT_MESSAGE on a ROOT that takes its time from outside. -/
theorem ptpMgmtMessage_of_external {dt dom : Nat} {m : MgmtPtp} {s u : State} (hu : u = s.elapse dt) (hrun : u.inChipReset = false)
    (hext : u.external = true) (hdom : dom = u.rd Dict.ptpDomain) :
    exec (.ptpMgmtMessage dt dom m) s = .next ((u.settleGm.takeMgmtPtp m).within s) := by
  subst hdom hu
  show execPtpMgmtMessage .. = _
  simp [execPtpMgmtMessage, s.island_of_on _ _ hrun, hext]

/-- The state in which an Announce has been entered, BMCA not yet run on it. -/
def State.announced (s : State) (gm data utc : Nat) (log : Int) : State :=
  let m : ForeignMaster := { data := data, utc := utc % 65536, seen := s.time.run, log := log }
  { s.settleGm with time := { s.settleGm.time with masters := Tbl.set s.time.masters gm m } }

theorem State.takeMgmtPtp_announce (s : State) (gm data utc : Nat) (log : Int) :
    s.settleGm.takeMgmtPtp (.announce gm data utc log) = (s.announced gm data utc log).settleGm := by
  simp only [State.takeMgmtPtp, State.announced, s.settleGm_time]

theorem State.announced_run (s : State) (gm data utc : Nat) (log : Int) : (s.announced gm data utc log).time.run = s.time.run := by
  simp only [State.announced, s.settleGm_time]

end Sys2Proof.Machine

namespace Sys2Proof

variable {α : Type}

theorem Tbl.le_of_rises {t : Tbl α} {lo : Nat} (h : Tbl.rises lo t = true) : ∀ e ∈ t, lo ≤ e.1 := by
  induction t generalizing lo with
  | nil => exact fun _ he => absurd he List.not_mem_nil
  | cons x t ih =>
    obtain ⟨hx, ht⟩ := Bool.and_eq_true_iff.mp h
    have hx' := of_decide_eq_true hx
    intro e he
    obtain rfl | he := List.mem_cons.mp he
    · exact hx'
    · have := ih ht e he
      omega

theorem Tbl.mem_set_same (t : Tbl α) (k : Nat) (v : α) : (k, v) ∈ Tbl.set t k v := by
  induction t with
  | nil => exact List.mem_cons_self
  | cons x t ih =>
    simp only [Tbl.set]
    split
    · exact List.mem_cons_self
    · split
      · exact List.mem_cons_self
      · exact List.mem_cons_of_mem _ ih

/-- In a table whose keys rise, an entry put in stands alone under its key. -/
theorem Tbl.mem_set {t : Tbl α} {lo : Nat} (h : Tbl.rises lo t = true) {k : Nat} {v : α} {e : Nat × α} (he : e ∈ Tbl.set t k v) :
    e = (k, v) ∨ (e ∈ t ∧ e.1 ≠ k) := by
  induction t generalizing lo with
  | nil => exact .inl (List.mem_singleton.mp he)
  | cons x t ih =>
    obtain ⟨hx, ht⟩ := Bool.and_eq_true_iff.mp h
    have hrest := Tbl.le_of_rises ht
    simp only [Tbl.set] at he
    split at he
    next hlt =>
      obtain rfl | he := List.mem_cons.mp he
      · exact .inl rfl
      · refine .inr ⟨he, ?_⟩
        obtain rfl | he := List.mem_cons.mp he
        · omega
        · have := hrest e he
          omega
    next =>
      split at he
      next hk =>
        obtain rfl | he := List.mem_cons.mp he
        · exact .inl rfl
        · have := hrest e he
          exact .inr ⟨List.mem_cons_of_mem _ he, by omega⟩
      next hk =>
        obtain rfl | he := List.mem_cons.mp he
        · exact .inr ⟨List.mem_cons_self, fun e => hk e.symm⟩
        · exact (ih ht he).imp id fun ⟨hmem, hne⟩ => ⟨List.mem_cons_of_mem _ hmem, hne⟩

end Sys2Proof
end

section
/-! PTP messages that leave, and the commands of PTP on a lane and on the management port (02 R27 to R33). -/

namespace Sys2Proof.Machine

open Sys2Proof

/-! ### Sending a PTP message -/

theorem State.txOn_only (s : State) (p : Nat) (bytes : Bytes) :
    ∃ c, s.txOn p bytes = { (s.emit (.frame p (startBlock ++ bytes))).bump Dict.laneFramesTx p with cnt := c } :=
  ((s.emit (.frame p (startBlock ++ bytes))).bump Dict.laneFramesTx p).countPort_only p 0 bytes.length

@[simp] theorem State.sendPtp_out (s : State) (p : Nat) (msg : Bytes) :
    (s.sendPtp p msg).out = .frame p (startBlock ++ s.ptpFrame msg) :: s.out := by
  obtain ⟨_, h⟩ := s.txOn_only p (s.ptpFrame msg)
  rw [State.sendPtp, h]
  rfl

@[simp] theorem State.sendPtp_ptpLane (s : State) (p : Nat) (msg : Bytes) (q : Nat) : (s.sendPtp p msg).ptpLane q = s.ptpLane q := by
  obtain ⟨_, h⟩ := s.txOn_only p (s.ptpFrame msg)
  rw [State.sendPtp, h]
  rfl

theorem State.sendPtp_keepsLanes (s : State) (p : Nat) (msg : Bytes) : KeepsLanes s (s.sendPtp p msg) := by
  obtain ⟨_, h⟩ := s.txOn_only p (s.ptpFrame msg)
  rw [State.sendPtp, h]
  refine ⟨rfl, rfl, rfl, KeepsObjects.bump (s.emit _) Dict.laneFramesTx p 0 1 fun hk => ?_⟩
  unfold notCounted Ob.key at hk
  simp only [Dict.laneFramesTx] at hk
  omega

@[simp] theorem State.ptpLane_setPtp_same (s : State) (p : Nat) (l : PtpLane) : (s.setPtp p l).ptpLane p = l := Tbl.getD_set_same ..

theorem State.ptpLane_setPtp_other (s : State) {p q : Nat} (l : PtpLane) (h : p ≠ q) : (s.setPtp p l).ptpLane q = s.ptpLane q :=
  Tbl.getD_set_other _ _ _ _ _ h

theorem State.setPtp_keepsLanes (s : State) (p : Nat) (l : PtpLane) : KeepsLanes s (s.setPtp p l) := ⟨rfl, rfl, rfl, .refl _ s⟩

/-! ### The periodic messages of the lanes (02 R27) -/

/-- The Sync of a MASTER lane takes the next sequence number; a lane in another state sends none. -/
def State.tickSync (s : State) (p : Nat) : State :=
  if s.ptpPortState p = 6 then
    (s.setPtp p { s.ptpLane p with syncSeq := ((s.ptpLane p).syncSeq + 1) % 65536 }).sendPtp p
      (ptpMessage 0 (s.rd Dict.ptpDomain) p (s.ptpLane p).syncSeq 0 (ptpTimestamp (s.egressStamp p)).2 s.logSync
        (ptpTimestamp (s.egressStamp p)).1)
  else s

/-- After its Sync a lane sends the request of its delay mechanism, or nothing. -/
theorem State.tickLane_cases (s : State) (p : Nat) :
    (s.laneUp p = false ∧ s.tickLane p = s) ∨
    (s.laneUp p = true ∧ (s.tickLane p = s.tickSync p ∨
      ∃ rq n msg, s.tickLane p = ((s.tickSync p).setPtp p { (s.tickSync p).ptpLane p with request := rq, seq := n }).sendPtp p msg)) := by
  cases hup : s.laneUp p with
  | false => exact .inl ⟨rfl, by simp only [State.tickLane, hup, Bool.not_false, if_true]⟩
  | true =>
    refine .inr ⟨rfl, ?_⟩
    have htick : (if s.ptpPortState p = 6 then
        (s.setPtp p { s.ptpLane p with syncSeq := ((s.ptpLane p).syncSeq + 1) % 65536 }).sendPtp p
          (ptpMessage 0 (s.rd Dict.ptpDomain) p (s.ptpLane p).syncSeq 0 (ptpTimestamp (s.egressStamp p)).2 s.logSync
            (ptpTimestamp (s.egressStamp p)).1)
      else s) = s.tickSync p := rfl
    simp only [State.tickLane, hup, Bool.not_true, Bool.false_eq_true, if_false, htick]
    split
    · exact .inr ⟨_, _, _, rfl⟩
    · split
      · exact .inr ⟨_, _, _, rfl⟩
      · exact .inl rfl

theorem State.tickSync_keepsLanes (s : State) (p : Nat) : KeepsLanes s (s.tickSync p) := by
  unfold State.tickSync
  split
  · exact (s.setPtp_keepsLanes p _).trans (State.sendPtp_keepsLanes ..)
  · exact .refl s

theorem State.tickSync_ptpLane (s : State) {p q : Nat} (h : p ≠ q) : (s.tickSync p).ptpLane q = s.ptpLane q := by
  unfold State.tickSync
  split
  · rw [State.sendPtp_ptpLane, State.ptpLane_setPtp_other _ _ h]
  · rfl

theorem State.tickLane_keepsLanes (s : State) (p : Nat) : KeepsLanes s (s.tickLane p) := by
  obtain ⟨-, h⟩ | ⟨-, h | ⟨_, _, _, h⟩⟩ := s.tickLane_cases p <;> rw [h]
  · exact .refl s
  · exact s.tickSync_keepsLanes p
  · exact ((s.tickSync_keepsLanes p).trans (State.setPtp_keepsLanes ..)).trans (State.sendPtp_keepsLanes ..)

/-- The messages of one lane leave every other lane as it was. -/
theorem State.tickLane_ptpLane (s : State) {p q : Nat} (hpq : p ≠ q) : (s.tickLane p).ptpLane q = s.ptpLane q := by
  obtain ⟨-, h⟩ | ⟨-, h | ⟨_, _, _, h⟩⟩ := s.tickLane_cases p <;> rw [h]
  · exact s.tickSync_ptpLane hpq
  · rw [State.sendPtp_ptpLane, State.ptpLane_setPtp_other _ _ hpq, s.tickSync_ptpLane hpq]

/-- A MASTER lane is UP, so that it sends its Sync. -/
theorem State.tickLane_syncSeq (s : State) {p : Nat} (hmaster : s.ptpPortState p = 6) :
    ((s.tickLane p).ptpLane p).syncSeq = ((s.ptpLane p).syncSeq + 1) % 65536 := by
  have hsync : ((s.tickSync p).ptpLane p).syncSeq = ((s.ptpLane p).syncSeq + 1) % 65536 := by
    rw [State.tickSync, if_pos hmaster, State.sendPtp_ptpLane, State.ptpLane_setPtp_same]
  obtain ⟨hdown, -⟩ | ⟨-, h | ⟨_, _, _, h⟩⟩ := s.tickLane_cases p
  · simp [State.ptpPortState, hdown] at hmaster
  · rw [h, hsync]
  · rw [h, State.sendPtp_ptpLane, State.ptpLane_setPtp_same, hsync]

/-- The lanes below `n` have sent, each as it was when the tick began, and the others are as they were. -/
theorem State.tickLanes_below (s : State) (n : Nat) :
    KeepsLanes s ((List.range n).foldl State.tickLane s) ∧
    (∀ p, n ≤ p → ((List.range n).foldl State.tickLane s).ptpLane p = s.ptpLane p) ∧
    (∀ p, p < n → s.ptpPortState p = 6 →
      (((List.range n).foldl State.tickLane s).ptpLane p).syncSeq = ((s.ptpLane p).syncSeq + 1) % 65536) := by
  induction n with
  | zero => exact ⟨.refl s, fun _ _ => rfl, fun p hp => absurd hp (Nat.not_lt_zero p)⟩
  | succ n ih =>
    obtain ⟨hkeeps, hrest, hsent⟩ := ih
    rw [List.range_succ, List.foldl_append]
    generalize (List.range n).foldl State.tickLane s = t at hkeeps hrest hsent
    show KeepsLanes s (t.tickLane n) ∧ (∀ p, n + 1 ≤ p → (t.tickLane n).ptpLane p = s.ptpLane p) ∧ _
    refine ⟨hkeeps.trans (t.tickLane_keepsLanes n), fun p hp => ?_, fun p hp hmaster => ?_⟩
    · rw [t.tickLane_ptpLane (by omega), hrest p (by omega)]
    · show ((t.tickLane n).ptpLane p).syncSeq = _
      obtain rfl | hlt := Nat.eq_or_lt_of_le (Nat.le_of_lt_succ hp)
      · rw [t.tickLane_syncSeq ((hkeeps.ptpPortState p).trans hmaster), hrest p le_rfl]
      · rw [t.tickLane_ptpLane (by omega), hsent p hlt hmaster]

/-- The management port's part of the tick changes none of the lanes, and not the time of the lanes' tick. -/
theorem State.tickPort_lanes (s : State) :
    s.tickPort.time.lastTick = s.time.lastTick ∧ ∀ p, p ≠ 48 → s.tickPort.ptpLane p = s.ptpLane p := by
  have hsettle : s.settleGm.time.lastTick = s.time.lastTick ∧ ∀ p, p ≠ 48 → s.settleGm.ptpLane p = s.ptpLane p :=
    ⟨by rw [s.settleGm_time], fun p hp => s.settleGm_ptpLane hp⟩
  have hmgmt (t : State) : t.tickMgmt.time.lastTick = t.time.lastTick ∧ ∀ p, p ≠ 48 → t.tickMgmt.ptpLane p = t.ptpLane p := by
    unfold State.tickMgmt
    split
    · exact ⟨rfl, fun _ _ => rfl⟩
    · split
      · exact ⟨rfl, fun _ _ => rfl⟩
      · exact ⟨rfl, fun p hp => Tbl.getD_set_other _ _ _ _ _ hp.symm⟩
  unfold State.tickPort
  split
  · exact ⟨(hmgmt _).1.trans hsettle.1, fun p hp => ((hmgmt _).2 p hp).trans (hsettle.2 p hp)⟩
  · exact ⟨rfl, fun _ _ => rfl⟩

theorem State.ports_le (s : State) : s.ports ≤ 48 := by
  unfold State.ports
  split <;> decide

/-! ### PTP on lanes and on the management port: the commands complete -/

section
variable {dt p dom gm utc : Nat} {o c : Int} {s u : State}

/-- A Sync on the SLAVE lane that finds a path delay: the servo acts on the measured offset (02 R32). -/
theorem ptpSync_of_delay (hu : u = s.elapse dt) (hrun : u.inChipReset = false) (hup : u.laneUp p = true)
    (hslave : u.slaveLane = some p) (hdom : dom = u.rd Dict.ptpDomain) {d off : Int} (hdelay : (u.ptpLane p).delay = some d)
    (hoff : off = u.ingressStamp p - (o + c + u.asymmetry p) - d) :
    ∃ v, exec (.ptpSync dt p dom gm utc o c) s = .next ((v.servo off).within s) ∧ KeepsObjects notCounted u v ∧
      v.time.now = u.time.now ∧ v.time.lockRun = u.time.lockRun := by
  refine ⟨State.setPtp { u.received p 44 gm utc with time := { (u.received p 44 gm utc).time with
      lastSync := some (u.received p 44 gm utc).time.run } } p { u.ptpLane p with
      sync := some (u.ingressStamp p, o + c + u.asymmetry p) }, ?_, (u.received_keepsLanes p 44 gm utc).objects, ?_, ?_⟩
  · rw [ptpSync_of_slave hu hrun hup hdom hslave]
    simp only [State.takeSync, State.received_ptpLane, hdelay, hoff]
  · show (u.received p 44 gm utc).time.now = _
    rw [State.received_time]
  · show (u.received p 44 gm utc).time.lockRun = _
    rw [State.received_time]

end

/-- The settings of the servo are none of the objects that a received frame changes. -/
theorem State.beyondStep_congr {P : Nat → Prop} {s t : State} (h : KeepsObjects P s t) (hP : P (Dict.stepThreshold.key 0 0)) (off : Int) :
    t.beyondStep off = s.beyondStep off := by
  simp only [State.beyondStep, h.rd hP]

/-- Local time, less than every other dataset's clock: the announcing clock is the grandmaster. -/
theorem State.bestMaster_announced_better {s : State} {gm data : Nat} (utc : Nat) (log : Int) (hrises : Tbl.rises 0 s.time.masters = true)
    (hleast : ∀ e ∈ s.time.masters, e.1 ≠ gm → data < e.2.data) :
    (s.announced gm data utc log).bestMaster = some (gm, { data := data, utc := utc % 65536, seen := s.time.run, log := log }) := by
  refine State.bestMaster_of_least (Tbl.mem_set_same ..) ?_ fun x hx => ?_
  · simp only [State.counts, s.announced_run, Nat.le_add_right, decide_true]
  · exact (Tbl.mem_set hrises hx).imp id fun ⟨hmem, hne⟩ => hleast x hmem hne

/-- A clock that still counts, with the lesser dataset, stays the grandmaster against the one that announces itself. -/
theorem State.bestMaster_announced_worse {s : State} {g gm data : Nat} {x : ForeignMaster} (utc : Nat) (log : Int)
    (hmasters : s.time.masters = [(g, x)]) (hlt : g < gm) (hbetter : x.data < data)
    (hcounts : s.time.run ≤ x.seen + 3 * logUnits x.log) : (s.announced gm data utc log).bestMaster = some (g, x) := by
  have hset : (s.announced gm data utc log).time.masters =
      [(g, x), (gm, { data := data, utc := utc % 65536, seen := s.time.run, log := log })] := by
    show Tbl.set s.time.masters gm _ = _
    simp only [hmasters, Tbl.set, if_neg (Nat.lt_asymm hlt), if_neg (Nat.ne_of_gt hlt)]
  refine State.bestMaster_of_least (by rw [hset]; exact List.mem_cons_self) ?_ fun y hy => ?_
  · simp only [State.counts, s.announced_run, hcounts, decide_true]
  · rw [hset, List.mem_cons, List.mem_singleton] at hy
    exact hy.imp id fun e => by rw [e]; exact hbetter

/-- A one-step Sync of the grandmaster: its interval, its time and its stamps are taken. -/
theorem State.takeMgmtPtp_sync {s : State} {gm : Nat} (seq : Nat) (o c log : Int) (hgm : s.bestMaster.map (·.1) = some gm) :
    (s.settleGm.takeMgmtPtp (.sync gm seq o false c log)).time.lastSync = some s.time.run ∧
    ((s.settleGm.takeMgmtPtp (.sync gm seq o false c log)).ptpLane 48).sync = some (s.rawStamp, o + c) ∧
    (s.settleGm.takeMgmtPtp (.sync gm seq o false c log)).time.mgmtSyncLog = log := by
  have hfrom : s.settleGm.fromGm gm = true := by
    rw [State.fromGm, s.settleGm_time]
    exact beq_iff_eq.mpr hgm
  simp only [State.takeMgmtPtp, hfrom, Bool.not_true, Bool.false_eq_true, if_false]
  generalize hw : State.setPtp { s.settleGm with time := { s.settleGm.time with mgmtSyncLog := log } } 48
    { s.settleGm.ptpLane 48 with mech := 0 } = w
  have htime : w.time = { s.settleGm.time with mgmtSyncLog := log } := by rw [← hw]; rfl
  rw [s.settleGm_time] at htime
  have hraw : w.rawStamp = s.rawStamp := by rw [State.rawStamp, htime]; rfl
  have hkeeps := w.takeSync_keepsSync 48 w.rawStamp (o + c)
  refine ⟨?_, ?_, ?_⟩
  · rw [hkeeps.lastSync]
    show some w.time.run = _
    rw [htime]
  · rw [State.ptpLane, hkeeps.ptp, ← hraw]
    exact congrArg PtpLane.sync (State.ptpLane_setPtp_same ..)
  · rw [hkeeps.syncLog]
    show w.time.mgmtSyncLog = log
    rw [htime]

/-- Settles O27: what a message brings is kept by whatever the servo does after it, and the servo's own part follows from the clock
state it finds. -/
theorem ptpCommandsComplete : Obligations.PtpCommandsComplete := by
  unfold Obligations.PtpCommandsComplete
  refine ⟨?_, ?_, ?_, ?_, ?_, ?_, ?_, ?_, ?_⟩
  · intro dt p dom gm utc o c s u hu hrun hup hslave hdom
    obtain ⟨hgm, hutc⟩ := State.received_stores hslave 44 gm utc
    have hkeeps := (u.received p 44 gm utc).takeSync_keepsSync p (u.ingressStamp p) (o + c + u.asymmetry p)
    refine ⟨_, ptpSync_of_slave hu hrun hup hdom hslave, ?_, ?_, ?_, ?_⟩
    · rw [State.within_time, hkeeps.lastSync]
      exact congrArg (some ∘ TimeBase.run) (u.received_time p 44 gm utc)
    · rw [State.within_ptpLane, State.ptpLane, hkeeps.ptp]
      exact congrArg PtpLane.sync (State.ptpLane_setPtp_same ..)
    · exact (hgm.of_keeps hkeeps.objects (by decide)).rd_within s
    · exact (hutc.of_keeps hkeeps.objects (by decide)).rd_within s
  · intro dt p dom gm utc o c s u d off hu hrun hup hslave hdom hdelay hoff
    obtain ⟨v, hexec, hobjects, hnow, hcount⟩ := ptpSync_of_delay (gm := gm) (utc := utc) hu hrun hup hslave hdom hdelay hoff
    have hstate : v.rd Dict.clockState = u.rd Dict.clockState := hobjects.rd (by decide)
    have hbeyond : v.beyondStep off = u.beyondStep off := State.beyondStep_congr hobjects (by decide) off
    have hwithin : v.withinLock off = u.withinLock off := by
      simp only [State.withinLock, hobjects.rd (o := Dict.lockThreshold) (m := 0) (j := 0) (by decide)]
    refine ⟨fun h0 hnear => ?_, fun h1 _ hlock hrow => ?_, fun h2 hfar => ?_⟩
    · obtain ⟨hst, ht⟩ := State.servo_of_freerun (hstate.trans h0) (hbeyond.trans hnear)
      exact ⟨_, hexec, hst.rd_within s, ht.trans hnow⟩
    · obtain ⟨hst, ht⟩ := State.servo_of_locking (hstate.trans h1) (hwithin.trans hlock) (hcount ▸ hrow)
      exact ⟨_, hexec, hst.rd_within s, ht.trans hnow⟩
    · obtain ⟨hst, ht⟩ := State.servo_of_step (hstate.trans h2) (hbeyond.trans hfar)
      exact ⟨_, hexec, hst.rd_within s, ht.trans (by rw [hnow])⟩
  · intro dt p dom gm utc clock port seq corr s u v hu hrun hup hdom hmech hv
    refine ⟨_, ptpPdelayReq_of_p2p hu hrun hup hdom hmech, ?_⟩
    simp only [hv, State.within_out, State.sendPtp_out, State.received_out]
  · intro dt p dom gm utc seq corr s u t1 d hu hrun hup hdom hmech hreq hd hlo hhi
    refine ⟨_, ptpPdelayResp_of_p2p hu hrun hup hdom hmech hreq hd, ?_⟩
    simp only [State.storePs, hlo, hhi, and_self, if_true]
    refine ⟨congrArg PtpLane.p2p (State.ptpLane_setPtp_same ..), congrArg PtpLane.request (State.ptpLane_setPtp_same ..), ?_⟩
    rw [(State.stores_wr _ Dict.lanePeerDelay (unitsPs d).toNat p 0).rd_within]
    exact Nat.mod_eq_of_lt (by show (unitsPs d).toNat < 2 ^ 32; omega)
  · intro dt p dom gm utc clock port seq corr s u v hu hrun hup hdom hmech hmaster hv
    refine ⟨_, ptpDelayReq_of_master hu hrun hup hdom hmech hmaster, ?_⟩
    simp only [hv, State.within_out, State.sendPtp_out, State.received_out]
  · intro dt p dom gm utc seq rcp corr s u t1 t2 t3 hu hrun hup hslave hdom hmech hreq hsync
    refine ⟨_, ptpDelayResp_of_slave hu hrun hup hdom hslave, ?_⟩
    simp [State.takeDelayResp, hmech, hreq, hsync]
  · intro dt dom gm data utc log s u hu hrun hext hdom hrises hleast
    have hbest := State.bestMaster_announced_better utc log hrises hleast
    refine ⟨_, ptpMgmtMessage_of_external hu hrun hext hdom, ?_⟩
    rw [State.takeMgmtPtp_announce]
    refine ⟨?_, ?_, ?_⟩
    · rw [State.within_time, State.settleGm_time, hbest]
      rfl
    · rw [(State.settleGm_stores hbest).rd_within, Nat.mod_mod]
    · rw [State.within_time, State.settleGm_time]
      exact Tbl.get?_set_same ..
  · intro dt dom gm data utc log s u g x hu hrun hext hdom hmasters hlt hbetter hcounts
    have hbest := State.bestMaster_announced_worse utc log hmasters hlt hbetter hcounts
    refine ⟨_, ptpMgmtMessage_of_external hu hrun hext hdom, ?_⟩
    rw [State.takeMgmtPtp_announce]
    refine ⟨?_, (State.settleGm_stores hbest).rd_within s⟩
    rw [State.within_time, State.settleGm_time, hbest]
    rfl
  · intro dt dom gm seq o c log s u hu hrun hext hdom hgm
    exact ⟨_, ptpMgmtMessage_of_external hu hrun hext hdom, State.takeMgmtPtp_sync seq o c log hgm⟩

end Sys2Proof.Machine
end

section
/-! What time brings, and TIME_NOW (02 R33, R39, R51). -/

namespace Sys2Proof.Machine

open Sys2Proof

/-! ### Requests that find their target serving (15 R328) -/

/-- A request has reached a target that serves it: it has its place in the queue and is counted. -/
def State.granted (s : State) : State := s.touch.queueRequest.bump Dict.served

theorem State.granted_keeps (s : State) : KeepsObjects (· ≠ 0x102D00) s s.granted :=
  KeepsObjects.bump s.touch.queueRequest Dict.served 0 0 1 fun hk => hk rfl

@[simp] theorem State.granted_time (s : State) : s.granted.time = s.time := rfl
@[simp] theorem State.granted_shutter (s : State) : s.granted.shutter = s.shutter := rfl

theorem State.rd_granted (s : State) {o : Ob} {m j : Nat} (h : o.key m j ≠ 0x102D00) : s.granted.rd o m j = s.rd o m j :=
  s.granted_keeps.rd h

@[simp] theorem State.granted_ownReference (s : State) : s.granted.ownReference = s.ownReference := by
  have hrole : s.granted.role = s.role := rfl
  simp only [State.ownReference, hrole, s.rd_granted (o := Dict.gmSource) (m := 0) (j := 0) (by decide)]

/-- A write of an object whose target serves: the object's own rule acts. -/
theorem State.serveWrite_of_serves {u : State} {o : Ob} {m : Nat} (h : u.serves o m) (rq : Requester) (act : State → State) :
    State.serveWrite rq o m act u = act u.granted := by
  obtain ⟨-, hstatus, hroom⟩ := h
  have hstatus' : u.touch.targetStatus (o.idx + m) o.sub = 0 := hstatus
  have hroom' : u.touch.queueFull = false := hroom
  simp only [State.serveWrite, State.serveRead, State.serveAny, Requester.write, hstatus', hroom', Bool.or_self, Bool.not_false,
    Bool.and_false, Bool.false_eq_true, if_false, State.granted]

/-- A response changes the queues on its way, and nothing else. -/
theorem State.answerWrite_only (s : State) (rq : Requester) (o : Ob) (m st co : Nat) :
    ∃ rs ms qs, s.answerWrite rq o m st co =
      { s with dap := { s.dap with responses := rs }, mb := { s.mb with waiting := ms }, sch := { s.sch with groups := qs } } :=
  State.answer_only ..

theorem State.answerWrite_time (s : State) (rq : Requester) (o : Ob) (m st co : Nat) : (s.answerWrite rq o m st co).time = s.time := by
  obtain ⟨_, _, _, h⟩ := s.answerWrite_only rq o m st co
  rw [h]

/-- A command object whose action completes within the write: its code is that of the action, and the action's effect stands. -/
theorem State.serveCmd_of_serves {u : State} {o : Ob} {m : Nat} (h : u.serves o m) (rq : Requester) (act : State → State × Nat) :
    (State.serveCmd rq o m act u).cmdCode o m = (act u.granted).2 ∧
    (State.serveCmd rq o m act u).shutter = (act u.granted).1.shutter := by
  rw [State.serveCmd, State.serveWrite_of_serves h]
  obtain ⟨_, _, _, hanswer⟩ :=
    ((act u.granted).1.setCode o (act u.granted).2 m).answerWrite_only rq o m 0 (act u.granted).2
  rw [hanswer]
  exact ⟨State.cmdCode_setCode_same .., rfl⟩

/-! ### What time brings (02 R33, R39, R51) -/

theorem State.holdover_stores (s : State) :
    s.toHoldover.stores Dict.clockState 0 0 3 ∧ s.toHoldover.time.holdSince = some s.time.run := by
  have hrec := KeepsClock.clockRecord (s.setClock 3) true recClockHoldover
  obtain ⟨_, htime⟩ := hrec.time
  refine ⟨hrec.stores_clockState (s.setClock_stores 3), ?_⟩
  rw [State.toHoldover, htime]
  rfl

theorem State.freerun_stores (s : State) :
    s.toFreerun.stores Dict.clockState 0 0 (if s.ownReference then 2 else 0) ∧ s.toFreerun.time.holdSince = none := by
  unfold State.toFreerun
  split
  · exact ⟨s.setClock_stores 2, rfl⟩
  · exact ⟨s.setClock_stores 0, rfl⟩

theorem KeepsObjects.ownReference {P : Nat → Prop} {s t : State} (h : KeepsObjects P s t) (hP : P (Dict.gmSource.key 0 0)) :
    t.ownReference = s.ownReference := by
  simp only [State.ownReference, h.2.1, h.rd hP]

/-- After 60 s in HOLDOVER a record tells of FREERUN, which the ROOT's own reference leaves for LOCKED. -/
theorem State.leaveHoldover_stores (s : State) :
    ((s.setClock 0).clockRecord true recClockFreerun).toFreerun.stores Dict.clockState 0 0 (if s.ownReference then 2 else 0) ∧
    ((s.setClock 0).clockRecord true recClockFreerun).toFreerun.time.holdSince = none := by
  have hown : ((s.setClock 0).clockRecord true recClockFreerun).ownReference = s.ownReference :=
    ((KeepsClock.clockRecord ..).objects.ownReference (by decide)).trans ((KeepsObjects.setClock s 0).ownReference (by decide))
  rw [← hown]
  exact State.freerun_stores _

/-- A record of the island while the core is away is held for it. -/
theorem State.raiseIsland_held {s : State} (hoff : s.coreActive = false) (classF alarm : Bool) (typ payload time frame : Nat) :
    (s.raiseIsland classF alarm typ payload time frame).time.held.length = s.time.held.length + 1 := by
  unfold State.raiseIsland
  rw [hoff, if_neg Bool.false_ne_true]
  dsimp only
  split
  · obtain ⟨_, h⟩ := State.wake_only
      ({ s with time := { s.time with held := s.time.held ++
        [{ classF := classF, alarm := alarm, typ := typ, payload := payload, time := time, frame := frame }] } }) 8 0 0
    rw [h]
    exact List.length_append
  · exact List.length_append

/-- SYNC_LOSS_TIMEOUT once four Sync intervals have passed. -/
theorem syncLossTimeout_of_due {dt : Nat} {s u : State} (hu : u = s.elapse dt) (hrun : u.inChipReset = false)
    (hdue : u.time.lastSync.getD 0 + 4 * u.syncUnits ≤ u.time.run) :
    (u.rd Dict.clockState = 1 → exec (.syncLossTimeout dt) s = .next (u.toFreerun.within s)) ∧
    (u.rd Dict.clockState = 2 → u.ownReference = false → exec (.syncLossTimeout dt) s = .next (u.toHoldover.within s)) := by
  subst hu
  have hexec : exec (.syncLossTimeout dt) s = _ := congrArg Host.Outcome.next (s.island_of_on dt _ hrun)
  rw [hexec, if_neg (Nat.not_lt.mpr hdue)]
  exact ⟨fun hstate => by simp only [hstate], fun hstate hown => by simp only [hstate, hown, Bool.false_eq_true, if_false]⟩

/-- The record of a whole second, its anchor counted where the core can write it (02 R39). -/
def State.anchor (s : State) : State :=
  let s1 := { s with time := { s.time with anchorNext := s.time.anchorNext + 1 } }
  let s2 := if s1.coreActive then s1.bump Dict.anchors else s1
  s2.raiseIsland false false recTimeAnchor
    (packBits [(16, 0), (8, s.rd Dict.gmSource), (8, s.rd Dict.clockState), (16, s.rd Dict.utcOffset), (48, s.time.anchorNext), (32, 0)])
    (s.time.anchorNext * 1000000000 % 2 ^ 32) s.frameNow

theorem timeAnchor_of_due {dt : Nat} {s u : State} (hu : u = s.elapse dt) (hrun : u.inChipReset = false)
    (hdue : u.time.anchorNext * secUnits ≤ u.time.now) : exec (.timeAnchor dt) s = .next (u.anchor.within s) := by
  subst hu
  have hexec : exec (.timeAnchor dt) s = _ := congrArg Host.Outcome.next (s.island_of_on dt _ hrun)
  rw [hexec]
  simp only [if_neg (Nat.not_lt.mpr hdue)]
  rfl

theorem State.anchor_next (s : State) : s.anchor.time.anchorNext = s.time.anchorNext + 1 := by
  unfold State.anchor
  dsimp only
  obtain ⟨_, htime⟩ := (KeepsClock.raiseIsland _ false false _ _ _ _).time
  rw [htime]
  split <;> rfl

theorem State.anchor_counted {s : State} (hactive : s.coreActive = true) :
    s.anchor.stores Dict.anchors 0 0 ((s.rd Dict.anchors + 1) % 2 ^ (8 * Dict.anchors.ty.bytes)) := by
  have hactive' : State.coreActive { s with time := { s.time with anchorNext := s.time.anchorNext + 1 } } = true := hactive
  unfold State.anchor
  simp only [hactive', if_true]
  exact (State.stores_wr _ Dict.anchors _ 0 0).of_keeps (KeepsClock.raiseIsland ..).objects (by decide)

theorem State.anchor_held {s : State} (haway : s.coreActive = false) : s.anchor.time.held.length = s.time.held.length + 1 := by
  have haway' : State.coreActive { s with time := { s.time with anchorNext := s.time.anchorNext + 1 } } = false := haway
  unfold State.anchor
  simp only [haway', Bool.false_eq_true, if_false]
  exact State.raiseIsland_held haway' ..

/-- TIME_NOW_WRITE of a time in range, on a clock that is its own reference: local time steps to it. -/
theorem timeNowWrite_of_own {dt v : Nat} {rq : Requester} {s u : State} (hu : u = s.elapse dt) (hserves : u.serves Dict.timeNow)
    (hown : u.ownReference = true) (hrange : v / 2 ^ 48 % 2 ^ 32 < 1000000000) :
    exec (.timeNowWrite dt rq v) s =
      .next (((u.granted.stepTime (nsOfTime80 v * nsUnits)).answerWrite rq Dict.timeNow 0 0 0).within s) := by
  subst hu
  refine (congrArg Host.Outcome.next (s.asked_of_on dt rq _ _ hserves.1)).trans ?_
  rw [State.serveTimeNow, State.serveWrite_of_serves hserves]
  simp only [State.granted_ownReference, hown, if_true, State.timeOf80, if_pos hrange]

/-- Settles O28: each of time's events finds its moment come, and the record it writes leaves the clock's state and times alone. -/
theorem clockCommandsComplete : Obligations.ClockCommandsComplete := by
  unfold Obligations.ClockCommandsComplete
  refine ⟨?_, ?_, ?_, ?_, ?_, ?_⟩
  · intro dt s u hu hrun hdue
    have hexec : exec (.ptpIntervalTick dt) s = .next (u.tickLanes.tickPort.within s) := by
      subst hu
      exact congrArg Host.Outcome.next (s.island_of_on dt _ hrun)
    have hsent := State.tickLanes_below { u with time := { u.time with lastTick := u.time.run } } u.ports
    have htick : u.tickLanes = (List.range u.ports).foldl State.tickLane { u with time := { u.time with lastTick := u.time.run } } :=
      if_neg (Nat.not_lt.mpr hdue)
    rw [← htick] at hsent
    obtain ⟨hlanes, -, hseq⟩ := hsent
    obtain ⟨hlast, hport⟩ := u.tickLanes.tickPort_lanes
    refine ⟨_, hexec, ?_, fun p hp hmaster => ?_⟩
    · rw [State.within_time, hlast, hlanes.time]
    · rw [State.within_ptpLane, hport p (by have := u.ports_le; omega)]
      exact hseq p hp hmaster
  · intro dt s u hu hrun hown hstate hdue
    have hfree := u.freerun_stores.1
    rw [hown] at hfree
    exact ⟨_, (syncLossTimeout_of_due hu hrun hdue).1 hstate, hfree.rd_within s⟩
  · intro dt s u t0 hu hrun hsync hown hdue
    obtain ⟨hacquiring, hlocked⟩ := syncLossTimeout_of_due hu hrun (by rw [hsync]; exact hdue)
    refine ⟨fun hstate => ?_, fun hstate => ?_⟩
    · have hfree := u.freerun_stores.1
      rw [hown] at hfree
      exact ⟨_, hacquiring hstate, hfree.rd_within s⟩
    · obtain ⟨hst, hhold⟩ := u.holdover_stores
      exact ⟨_, hlocked hstate hown, hst.rd_within s, by rw [State.within_time]; exact hhold⟩
  · intro dt s u t0 hu hrun hhold hstate hdue
    have hexec : exec (.holdoverTimeout dt) s =
        .next ((((u.setClock 0).clockRecord true recClockFreerun).toFreerun).within s) := by
      subst hu
      refine (congrArg Host.Outcome.next (s.island_of_on dt _ hrun)).trans ?_
      simp only [hhold, hstate, bne_self_eq_false, Nat.not_lt.mpr hdue, decide_false, Bool.or_self, Bool.false_eq_true, if_false]
    obtain ⟨hst, hnone⟩ := u.leaveHoldover_stores
    exact ⟨_, hexec, hst.rd_within s, by rw [State.within_time]; exact hnone⟩
  · intro dt s u hu hrun hdue
    refine ⟨_, timeAnchor_of_due hu hrun hdue, ?_, fun hactive => (State.anchor_counted hactive).rd_within s, fun haway => ?_⟩
    · rw [State.within_time, u.anchor_next]
    · rw [State.within_time, State.anchor_held haway]
  · intro dt rq v s u hu hserves hown hrange
    refine ⟨_, timeNowWrite_of_own hu hserves hown hrange, ?_⟩
    simp only [State.within_time, State.answerWrite_time, State.stepTime_now]

end Sys2Proof.Machine
end

section
/-! A slot's reference instant, and the release that arms channel 1 (02 R44, R45, 09 R189). -/

namespace Sys2Proof.Machine

open Sys2Proof

@[simp] theorem State.chan_setChan_same (s : State) (c : Nat) (ch : ShutterChannel) : (s.setChan c ch).chan c = ch :=
  Tbl.getD_set_same ..

/-! ### A slot fires -/

/-- The pulse of a slot leaves, where the channel has a pin that no reset holds low. -/
def State.pulsed (s : State) (c time : Nat) : State :=
  if c = 0 ∨ (!s.isDie ∧ (c = 1 ∨ s.anyReset)) then s else s.emit (.pulse c (if c = 1 then 20 else s.rd Dict.shutterWidth c) time)

theorem State.pulsed_only (s : State) (c time : Nat) : ∃ o, s.pulsed c time = { s with out := o } := by
  unfold State.pulsed
  split <;> exact ⟨_, rfl⟩

/-- The slot is counted, by its channel and in FIRED. -/
def State.slotCounted (s : State) (c time : Nat) : State :=
  ((s.pulsed c time).setChan c { s.chan c with next := (s.chan c).next + 1 }).bump Dict.shutterFired c

theorem State.fireSlot_eq (s : State) (c time : Nat) : s.fireSlot c time =
    if s.rd Dict.shutterMode c = 1 then (s.slotCounted c time).wr Dict.shutterMode 0 c else s.slotCounted c time := rfl

theorem State.slotCounted_shutter (s : State) (c time : Nat) :
    (s.slotCounted c time).shutter = Tbl.set s.shutter c { s.chan c with next := (s.chan c).next + 1 } := by
  obtain ⟨_, h⟩ := s.pulsed_only c time
  rw [State.slotCounted, h]
  rfl

theorem State.slotCounted_fired (s : State) (c time : Nat) : (s.slotCounted c time).stores Dict.shutterFired c 0
    ((s.rd Dict.shutterFired c + 1) % 2 ^ (8 * Dict.shutterFired.ty.bytes)) := by
  obtain ⟨_, h⟩ := s.pulsed_only c time
  rw [State.slotCounted, h]
  exact State.stores_wr _ Dict.shutterFired _ c 0

theorem State.fireSlot_chan (s : State) (c time : Nat) :
    (s.fireSlot c time).chan c = { s.chan c with next := (s.chan c).next + 1 } := by
  have hchan : (s.slotCounted c time).chan c = { s.chan c with next := (s.chan c).next + 1 } := by
    rw [State.chan, s.slotCounted_shutter, Tbl.getD_set_same]
  rw [s.fireSlot_eq]
  split
  · exact hchan
  · exact hchan

theorem State.fireSlot_out (s : State) (c time : Nat) : (s.fireSlot c time).out = (s.pulsed c time).out := by
  rw [s.fireSlot_eq]
  split <;> rfl

theorem State.fireSlot_fired (s : State) (c time : Nat) : (s.fireSlot c time).stores Dict.shutterFired c 0
    ((s.rd Dict.shutterFired c + 1) % 2 ^ (8 * Dict.shutterFired.ty.bytes)) := by
  rw [s.fireSlot_eq]
  split
  · refine (s.slotCounted_fired c time).of_keeps (P := (· = Dict.shutterFired.key c 0)) (KeepsObjects.wr _ _ _ _ _ ?_) rfl
    show ¬ (0x1120 + c) * 256 + 1 + 0 = (0x1120 + c) * 256 + 6 + 0
    omega
  · exact s.slotCounted_fired c time

/-- A one-shot channel goes off. -/
theorem State.fireSlot_oneShot {s : State} {c : Nat} (h : s.rd Dict.shutterMode c = 1) (time : Nat) :
    (s.fireSlot c time).stores Dict.shutterMode c 0 0 := by
  rw [s.fireSlot_eq, if_pos h]
  exact State.stores_wr _ Dict.shutterMode 0 c 0

/-- A slot stores in its channel's MODE and FIRED alone. -/
theorem KeepsObjects.fireSlot {P : Nat → Prop} (s : State) (c time : Nat) (hmode : ¬ P (Dict.shutterMode.key c 0))
    (hfired : ¬ P (Dict.shutterFired.key c 0)) : KeepsObjects P s (s.fireSlot c time) := by
  have hcounted : KeepsObjects P s (s.slotCounted c time) := by
    obtain ⟨_, h⟩ := s.pulsed_only c time
    rw [State.slotCounted, h]
    exact KeepsObjects.wr _ _ _ _ _ hfired
  rw [s.fireSlot_eq]
  split
  · exact hcounted.trans (KeepsObjects.wr _ _ _ _ _ hmode)
  · exact hcounted

/-- Beside the channel, the pulse and the objects, a slot changes nothing. -/
theorem State.fireSlot_only (s : State) (c time : Nat) :
    ∃ o sh rg, s.fireSlot c time = { s with out := o, shutter := sh, regs := rg } := by
  obtain ⟨_, h⟩ := s.pulsed_only c time
  rw [s.fireSlot_eq, State.slotCounted, h]
  split <;> exact ⟨_, _, _, rfl⟩

/-! ### A test boundary (10 R225) -/

/-- Tests are issued into the evidence machine and the mailbox. -/
theorem State.testBoundary_only (s : State) : ∃ e m, s.testBoundary = { s with ev := e, mb := m } := by
  suffices h : ∀ (l : List (Nat × TestEntry)) (t : State), ∃ e m, l.foldl State.issueTest t = { t with ev := e, mb := m } from h _ s
  intro l
  induction l with
  | nil => exact fun t => ⟨_, _, rfl⟩
  | cons x l ih =>
    intro t
    obtain ⟨_, _, h⟩ := ih (t.issueTest x)
    exact ⟨_, _, h⟩

theorem State.firedRelease_only (s : State) : ∃ sh e m, s.firedRelease = { s with shutter := sh, ev := e, mb := m } := by
  unfold State.firedRelease
  split
  · obtain ⟨_, _, h⟩ := (s.setChan 1 { s.chan 1 with release := none }).testBoundary_only
    exact ⟨_, _, _, h⟩
  · exact ⟨_, _, _, rfl⟩

/-- The release that channel 1 carried is over, and its schedule goes on. -/
theorem State.firedRelease_chan (s : State) : (s.firedRelease).chan 1 = { s.chan 1 with release := none } := by
  unfold State.firedRelease
  split
  next =>
    obtain ⟨_, _, h⟩ := (s.setChan 1 { s.chan 1 with release := none }).testBoundary_only
    rw [h]
    exact State.chan_setChan_same ..
  next h => rw [← h]

end Sys2Proof.Machine
end

section
/-! Releases and broadcasts on their way down (09 R183 to R195, R202). -/

namespace Sys2Proof.Machine

open Sys2Proof

/-! ### A hop's acknowledgement -/

theorem State.hopAckOf_only (s : State) (p : Nat) (m : DownMsg) : QueuedFrom s (s.hopAckOf p m) := State.enqueue_only ..

/-- A message of an epoch in force is acknowledged by hop and acted on. -/
theorem State.leafTake_of_current {s : State} {m : DownMsg} (h : s.heldBack m = false) (p : Nat) :
    ∃ q, s.leafTake p m = State.leafAct { s with sch := { s.sch with groups := q } } m := by
  obtain ⟨q, hq⟩ := s.hopAckOf_only p m
  have hback : State.heldBack { s with sch := { s.sch with groups := q } } m = false := h
  refine ⟨q, ?_⟩
  simp only [State.leafTake, hq, hback, Bool.false_eq_true, if_false]

/-! ### RELEASE at a leaf -/

/-- The message is the release of an arrival that awaits it. -/
def State.awaits (s : State) (m : DownMsg) : Prop :=
  m.job = s.rd Dict.myJob ∧ s.bar.leaf.arrivals.any (fun a => a.awaiting && a.job == m.job && a.barrier == m.id) = true

/-- The leaf's job after a release. -/
def LeafJob.release (l : LeafJob) (m : DownMsg) (tRel : Nat) : LeafJob :=
  { l with
    arrivals := l.arrivals.map (fun (a : LeafArrival) => if a.job == m.job && a.barrier == m.id then { a with awaiting := false } else a)
    reference := some tRel, released := true, step := (l.step + 1) % 2 ^ 32 }

/-- The release is noted, counted and told to the host, and arms channel 1. -/
def State.armed (s : State) (m : DownMsg) (tRel latestDie : Nat) (late : Bool) : State :=
  ((((s.setLeaf (s.bar.leaf.release m tRel)).wrBytes Dict.lastRelease m.bytes).shiftWindow (latestDie == s.rd Dict.dieId)).ceSend
    (.releaseArmed m.id m.job late tRel)).armChannel m.job m.id tRel

/-- A late release counts, tells the recorder and fires at once. -/
def State.firedLate (s : State) (m : DownMsg) (short now : Nat) : State :=
  (((s.bumpSat Dict.lateReleases).raise true false recReleaseLate
    (packBits [(16, m.job), (12, m.id), (32, short), (68, 0)])).fireSlot 1 now).firedRelease

theorem State.leafRelease_of_awaits {s : State} {m : DownMsg} (h : s.awaits m) (tRel latestDie : Nat) :
    s.leafRelease m tRel latestDie =
      if !decide (tRel < ceilDiv s.time.now nsUnits + s.rd Dict.armMin) then
        s.armed m tRel latestDie (decide (tRel < ceilDiv s.time.now nsUnits + s.rd Dict.armMin))
      else (s.armed m tRel latestDie (decide (tRel < ceilDiv s.time.now nsUnits + s.rd Dict.armMin))).firedLate m
        (satTo 32 (ceilDiv s.time.now nsUnits + s.rd Dict.armMin - tRel)) s.nowNs := by
  obtain ⟨hjob, hany⟩ := h
  exact (if_neg (not_not.mpr hjob)).trans (if_neg (by rw [hany]; exact Bool.false_ne_true))

/-- A message in time for its T_REL arms the channel and no more. -/
theorem State.leafRelease_onTime {s : State} {m : DownMsg} {tRel : Nat} (h : s.awaits m)
    (htime : ceilDiv s.time.now nsUnits + s.rd Dict.armMin ≤ tRel) (latestDie : Nat) :
    s.leafRelease m tRel latestDie = s.armed m tRel latestDie false := by
  rw [State.leafRelease_of_awaits h, decide_eq_false (Nat.not_lt.mpr htime)]
  rfl

theorem State.leafRelease_late {s : State} {m : DownMsg} {tRel : Nat} (h : s.awaits m)
    (htime : tRel < ceilDiv s.time.now nsUnits + s.rd Dict.armMin) (latestDie : Nat) :
    s.leafRelease m tRel latestDie = (s.armed m tRel latestDie true).firedLate m
      (satTo 32 (ceilDiv s.time.now nsUnits + s.rd Dict.armMin - tRel)) s.nowNs := by
  rw [State.leafRelease_of_awaits h, decide_eq_true htime]
  rfl

/-- What a release arms channel 1 with (02 R45). -/
theorem State.armChannel_stores (s : State) (job barrier tRel : Nat) :
    (s.armChannel job barrier tRel).stores Dict.shutterMode 1 0 1 ∧
    (s.armChannel job barrier tRel).stores Dict.shutterStart 1 0 (time80OfNs tRel) ∧
    (s.armChannel job barrier tRel).stores Dict.shutterPeriod 1 0 0 ∧
    (s.armChannel job barrier tRel).stores Dict.shutterBase 1 0 ((s.chan 1).armed % 2 ^ 32) := by
  have hstart : time80OfNs tRel % 2 ^ (8 * Dict.shutterStart.ty.bytes) = time80OfNs tRel :=
    Nat.mod_eq_of_lt (by show time80OfNs tRel < 2 ^ 80; unfold time80OfNs; omega)
  have hbase : (s.chan 1).armed % 2 ^ 32 % 2 ^ (8 * Dict.shutterBase.ty.bytes) = (s.chan 1).armed % 2 ^ 32 := Nat.mod_mod ..
  refine ⟨State.stores_wr _ Dict.shutterMode 1 1 0, ?_, ?_, ?_⟩
  · rw [← hstart]
    refine State.stores.of_keeps (P := (· = Dict.shutterStart.key 1 0)) ?_ (KeepsObjects.wr _ Dict.shutterMode 1 1 0 (by decide)) rfl
    refine State.stores.of_keeps (P := (· = Dict.shutterStart.key 1 0)) ?_ (KeepsObjects.wr _ Dict.shutterBase _ 1 0 (by decide)) rfl
    refine State.stores.of_keeps (P := (· = Dict.shutterStart.key 1 0)) ?_ (KeepsObjects.wr _ Dict.shutterPeriod 0 1 0 (by decide)) rfl
    exact State.stores_wr _ Dict.shutterStart _ 1 0
  · refine State.stores.of_keeps (P := (· = Dict.shutterPeriod.key 1 0)) ?_ (KeepsObjects.wr _ Dict.shutterMode 1 1 0 (by decide)) rfl
    refine State.stores.of_keeps (P := (· = Dict.shutterPeriod.key 1 0)) ?_ (KeepsObjects.wr _ Dict.shutterBase _ 1 0 (by decide)) rfl
    exact State.stores_wr _ Dict.shutterPeriod 0 1 0
  · rw [← hbase]
    refine State.stores.of_keeps (P := (· = Dict.shutterBase.key 1 0)) ?_ (KeepsObjects.wr _ Dict.shutterMode 1 1 0 (by decide)) rfl
    exact State.stores_wr _ Dict.shutterBase _ 1 0

theorem State.armChannel_only (s : State) (job barrier tRel : Nat) : ∃ rg, s.armChannel job barrier tRel = { s with
    regs := rg
    shutter := Tbl.set s.shutter 1 { s.chan 1 with next := 0, armed := (s.chan 1).armed + 1, release := some (job, barrier) } } :=
  ⟨_, rfl⟩

theorem State.shiftWindow_only (s : State) (mine : Bool) : ∃ rg v, s.shiftWindow mine = { s with regs := rg, ver := v } := ⟨_, _, rfl⟩

/-- Beside the objects, the last release's bytes and the lateness window, a release arms the channel, notes itself and tells the host. -/
theorem State.armed_only (s : State) (m : DownMsg) (tRel latestDie : Nat) (late : Bool) :
    ∃ rg dm v, s.armed m tRel latestDie late = { s with
      regs := rg, doms := dm, ver := v
      bar := { s.bar with leaf := s.bar.leaf.release m tRel }
      ce := { s.ce with outQ := s.ce.outQ ++ [.releaseArmed m.id m.job late tRel] }
      shutter := Tbl.set s.shutter 1 { s.chan 1 with next := 0, armed := (s.chan 1).armed + 1, release := some (m.job, m.id) } } := by
  obtain ⟨_, _, hwindow⟩ := ((s.setLeaf (s.bar.leaf.release m tRel)).wrBytes Dict.lastRelease m.bytes).shiftWindow_only
    (latestDie == s.rd Dict.dieId)
  rw [State.armed, hwindow]
  obtain ⟨_, harm⟩ := State.armChannel_only (State.ceSend _ (.releaseArmed m.id m.job late tRel)) m.job m.id tRel
  exact ⟨_, _, _, harm⟩

theorem satTo_lt (n v : Nat) : satTo n v < 2 ^ n := by
  have hpos := Nat.two_pow_pos n
  unfold satTo
  omega

/-- A release keeps LATE_RELEASES. -/
abbrev KeepsLate : State → State → Prop := KeepsObjects (· = Dict.lateReleases.key 0 0)

theorem KeepsLate.armChannel (s : State) (job barrier tRel : Nat) : KeepsLate s (s.armChannel job barrier tRel) := by
  refine .trans ?_ (KeepsObjects.wr _ Dict.shutterMode 1 1 0 (by decide))
  refine .trans ?_ (KeepsObjects.wr _ Dict.shutterBase _ 1 0 (by decide))
  refine .trans ?_ (KeepsObjects.wr _ Dict.shutterPeriod 0 1 0 (by decide))
  exact KeepsObjects.wr _ Dict.shutterStart _ 1 0 (by decide)

theorem KeepsLate.shiftWindow (s : State) (mine : Bool) : KeepsLate s (s.shiftWindow mine) := by
  unfold State.shiftWindow
  dsimp only
  refine .trans ?_ (KeepsObjects.wr _ Dict.lastCount _ 0 0 (by decide))
  exact KeepsObjects.bumpSat _ Dict.barriersSeen 0 0 1 (by decide)

theorem KeepsLate.armed (s : State) (m : DownMsg) (tRel latestDie : Nat) (late : Bool) : KeepsLate s (s.armed m tRel latestDie late) := by
  unfold State.armed
  refine .trans ?_ (KeepsLate.armChannel ..)
  exact KeepsLate.shiftWindow ((s.setLeaf (s.bar.leaf.release m tRel)).wrBytes Dict.lastRelease m.bytes) _

/-- The state in which a late release fires channel 1: it has counted and has its record. -/
def State.lateNoted (s : State) (m : DownMsg) (short : Nat) : State :=
  (s.bumpSat Dict.lateReleases).raise true false recReleaseLate (packBits [(16, m.job), (12, m.id), (32, short), (68, 0)])

theorem State.lateNoted_counted (s : State) (m : DownMsg) (short : Nat) :
    (s.lateNoted m short).stores Dict.lateReleases 0 0 (satTo (8 * Dict.lateReleases.ty.bytes) (s.rd Dict.lateReleases + 1)) := by
  have hst := State.stores_wr s Dict.lateReleases (satTo (8 * Dict.lateReleases.ty.bytes) (s.rd Dict.lateReleases + 1)) 0 0
  rw [Nat.mod_eq_of_lt (satTo_lt ..)] at hst
  exact hst.of_keeps (KeepsOutside.raise ..) (by decide)

theorem State.lateNoted_mode (s : State) (m : DownMsg) (short : Nat) :
    (s.lateNoted m short).rd Dict.shutterMode 1 = s.rd Dict.shutterMode 1 :=
  ((KeepsOutside.raise ..).rd (by decide)).trans
    (KeepsObjects.rd (P := (· = Dict.shutterMode.key 1 0)) (KeepsObjects.bumpSat s Dict.lateReleases 0 0 1 (by decide)) rfl)

theorem State.firedLate_eq (s : State) (m : DownMsg) (short now : Nat) :
    s.firedLate m short now = ((s.lateNoted m short).fireSlot 1 now).firedRelease := rfl

theorem State.lateNoted_fields (s : State) (m : DownMsg) (short : Nat) :
    (s.lateNoted m short).out = s.out ∧ (s.lateNoted m short).ce = s.ce ∧ (s.lateNoted m short).isDie = s.isDie := by
  obtain ⟨_, _, _, _, _, _, _, _, _, h⟩ := RaisedFrom.raise (s.bumpSat Dict.lateReleases) true false recReleaseLate
    (packBits [(16, m.job), (12, m.id), (32, short), (68, 0)])
  rw [State.lateNoted, h]
  exact ⟨rfl, rfl, rfl⟩

/-- A late release at a leaf fires channel 1 with a pulse of 20 ns; the channel goes off and carries no release (02 R45). -/
theorem State.firedLate_effect {s : State} (hdie : s.isDie = true) (hmode : s.rd Dict.shutterMode 1 = 1) (m : DownMsg) (short now : Nat) :
    (s.firedLate m short now).stores Dict.lateReleases 0 0 (satTo (8 * Dict.lateReleases.ty.bytes) (s.rd Dict.lateReleases + 1)) ∧
    (s.firedLate m short now).out = .pulse 1 20 now :: s.out ∧ (s.firedLate m short now).stores Dict.shutterMode 1 0 0 ∧
    ((s.firedLate m short now).chan 1).release = none ∧ (s.firedLate m short now).ce = s.ce := by
  have hcount := s.lateNoted_counted m short
  have hmode' := (s.lateNoted_mode m short).trans hmode
  obtain ⟨hnotedOut, hnotedCe, hnotedDie⟩ := s.lateNoted_fields m short
  have hpulse : (s.lateNoted m short).pulsed 1 now = (s.lateNoted m short).emit (.pulse 1 20 now) := by
    simp [State.pulsed, hnotedDie, hdie]
  have hfired := hcount.of_keeps (KeepsObjects.fireSlot (P := (· = Dict.lateReleases.key 0 0)) _ 1 now (by decide) (by decide)) rfl
  have hoff := State.fireSlot_oneShot hmode' now
  have hout : ((s.lateNoted m short).fireSlot 1 now).out = .pulse 1 20 now :: s.out := by
    rw [State.fireSlot_out, hpulse, ← hnotedOut]
    rfl
  have hce : ((s.lateNoted m short).fireSlot 1 now).ce = s.ce := by
    obtain ⟨_, _, _, h⟩ := (s.lateNoted m short).fireSlot_only 1 now
    rw [h, ← hnotedCe]
  have hchan := ((s.lateNoted m short).fireSlot 1 now).firedRelease_chan
  obtain ⟨_, _, _, hrelease⟩ := ((s.lateNoted m short).fireSlot 1 now).firedRelease_only
  rw [State.firedLate_eq]
  refine ⟨?_, ?_, ?_, by rw [hchan], ?_⟩
  · rw [hrelease]; exact hfired
  · rw [hrelease]; exact hout
  · rw [hrelease]; exact hoff
  · rw [hrelease]; exact hce

/-- The state in which a message acts: the core is awake for it and its hop's acknowledgement is queued. -/
def State.acked (s : State) (q : Tbl GroupQ) : State := { s.touch with sch := { s.sch with groups := q } }

@[simp] theorem State.acked_time (s : State) (q : Tbl GroupQ) : (s.acked q).time = s.time := rfl
@[simp] theorem State.acked_out (s : State) (q : Tbl GroupQ) : (s.acked q).out = s.out := rfl
@[simp] theorem State.acked_ce (s : State) (q : Tbl GroupQ) : (s.acked q).ce = s.ce := rfl
@[simp] theorem State.acked_rd (s : State) (q : Tbl GroupQ) (o : Ob) (m j : Nat) : (s.acked q).rd o m j = s.rd o m j := rfl
@[simp] theorem State.acked_nowNs (s : State) (q : Tbl GroupQ) : (s.acked q).nowNs = s.nowNs := rfl

/-- A message from above is taken, by a leaf or by a chip. -/
def State.takeFromAbove (s : State) (p : Nat) (m : DownMsg) : State :=
  s.onLane p (fun s => if s.isDie then s.leafTake p m else s.takeDown p m (State.holdOrAct m))

/-- A message of an epoch in force reaches a leaf. -/
theorem State.takeFromAbove_leaf {u : State} {p : Nat} {m : DownMsg} (hup : u.laneUp p = true) (hdie : u.isDie = true)
    (hback : u.heldBack m = false) : ∃ q, u.takeFromAbove p m = (u.acked q).leafAct m := by
  have hdie' : u.touch.isDie = true := hdie
  have hback' : u.touch.heldBack m = false := hback
  obtain ⟨q, hq⟩ := State.leafTake_of_current hback' p
  refine ⟨q, ?_⟩
  rw [State.takeFromAbove, State.onLane, if_pos hup, if_pos hdie', hq]
  rfl

/-- A message for the children reaches a chip from its parent for the first time. -/
theorem State.takeFromAbove_chip {u : State} {p : Nat} {m : DownMsg} (hup : u.laneUp p = true) (hdie : u.isDie = false)
    (hdown : u.isDown p = false) (hissue : m.reissue = false) (hseen : u.seenDown m = false) :
    ∃ q, u.takeFromAbove p m = (u.acked q).holdOrAct m := by
  have hdie' : ¬ u.touch.isDie = true := by rw [show u.touch.isDie = false from hdie]; exact Bool.false_ne_true
  obtain ⟨q, hq⟩ := u.touch.hopAckOf_only p m
  have hdown' : (u.acked q).isDown p = false := hdown
  have hseen' : (u.acked q).seenDown m = false := hseen
  have htaken : u.touch.hopAckOf p m = u.acked q := hq
  refine ⟨q, ?_⟩
  rw [State.takeFromAbove, State.onLane, if_pos hup, if_neg hdie', State.takeDown, htaken]
  simp only [hissue, hdown', hseen', Bool.false_eq_true, if_false]

/-- A lane brings a message from above to a core that runs. -/
theorem State.fromAbove_of_on {s u : State} {dt : Nat} (hu : u = s.elapse dt) (hon : u.coreOn = true) (p : Nat) (i : Instr) (m : DownMsg) :
    s.fromLane dt p 1 i (State.takeFromAbove · p m) = (u.takeFromAbove p m).within s := by
  subst hu
  exact s.fromLane_of_on dt p 1 i _ hon

/-- The message of a RELEASE. -/
def releaseMsg (job barrier epoch level tRel die : Nat) : DownMsg :=
  { job := job, id := barrier, seq := 0, epoch := epoch, level := level, reissue := false, body := .release tRel die }

theorem exec_release (dt p job barrier epoch level tRel die : Nat) (s : State) :
    exec (.release dt p job barrier epoch level false tRel die) s =
      .next (s.fromLane dt p 1 (.release 0 p job barrier epoch level false tRel die)
        (State.takeFromAbove · p (releaseMsg job barrier epoch level tRel die))) := rfl

/-- The message of a BCAST. -/
def bcastMsg (job tree seq epoch level op : Nat) (payload : Bytes) : DownMsg :=
  { job := job, id := tree, seq := seq, epoch := epoch, level := level, reissue := false, body := .bcast op payload }

theorem exec_bcast (dt p job tree seq epoch level op : Nat) (payload : Bytes) (s : State) :
    exec (.bcast dt p job tree seq epoch level false op payload) s =
      .next (s.fromLane dt p 1 (.bcast 0 p job tree seq epoch level false op payload)
        (State.takeFromAbove · p (bcastMsg job tree seq epoch level op payload))) := rfl

/-! ### RELEASE at a leaf, its effect -/

theorem State.armed_stores (s : State) (m : DownMsg) (tRel latestDie : Nat) (late : Bool) :
    (s.armed m tRel latestDie late).stores Dict.shutterMode 1 0 1 ∧
    (s.armed m tRel latestDie late).stores Dict.shutterStart 1 0 (time80OfNs tRel) ∧
    (s.armed m tRel latestDie late).stores Dict.shutterPeriod 1 0 0 ∧
    (s.armed m tRel latestDie late).stores Dict.shutterBase 1 0 ((s.chan 1).armed % 2 ^ 32) := by
  obtain ⟨_, _, hwindow⟩ := ((s.setLeaf (s.bar.leaf.release m tRel)).wrBytes Dict.lastRelease m.bytes).shiftWindow_only
    (latestDie == s.rd Dict.dieId)
  rw [State.armed, hwindow]
  exact State.armChannel_stores (State.ceSend _ (.releaseArmed m.id m.job late tRel)) m.job m.id tRel

theorem State.awaits_of_arrival {u : State} {m : DownMsg} (hjob : m.job = u.rd Dict.myJob)
    (harr : ∃ a ∈ u.bar.leaf.arrivals, a.awaiting = true ∧ a.job = m.job ∧ a.barrier = m.id) : u.awaits m := by
  refine ⟨hjob, List.any_eq_true.mpr ?_⟩
  obtain ⟨a, hmem, hawait, hajob, habarrier⟩ := harr
  exact ⟨a, hmem, by simp [hawait, hajob, habarrier]⟩

/-- A release in time arms channel 1, which fires at T_REL (02 R45). -/
theorem State.armed_effect {s : State} {m : DownMsg} {job barrier : Nat} (hjob : m.job = job) (hid : m.id = barrier)
    (tRel latestDie : Nat) :
    ((s.armed m tRel latestDie false).chan 1).next = 0 ∧
    ((s.armed m tRel latestDie false).chan 1).release = some (job, barrier) ∧
    (s.armed m tRel latestDie false).ce.outQ = s.ce.outQ ++ [.releaseArmed barrier job false tRel] ∧
    (s.armed m tRel latestDie false).bar.leaf.reference = some tRel ∧ (s.armed m tRel latestDie false).out = s.out := by
  obtain ⟨_, _, _, h⟩ := s.armed_only m tRel latestDie false
  rw [h, ← hjob, ← hid]
  refine ⟨?_, ?_, rfl, rfl, rfl⟩
  · rw [State.chan, Tbl.getD_set_same]
  · rw [State.chan, Tbl.getD_set_same]

/-- A late release counts, fires at once and tells the host that it is late. -/
theorem State.late_effect {s : State} (hdie : s.isDie = true) (m : DownMsg) (tRel latestDie short now : Nat) :
    let t := (s.armed m tRel latestDie true).firedLate m short now
    t.stores Dict.lateReleases 0 0 (satTo (8 * Dict.lateReleases.ty.bytes) (s.rd Dict.lateReleases + 1)) ∧
    t.out = .pulse 1 20 now :: s.out ∧ t.stores Dict.shutterMode 1 0 0 ∧ (t.chan 1).release = none ∧
    t.ce.outQ = s.ce.outQ ++ [.releaseArmed m.id m.job true tRel] := by
  intro t
  obtain ⟨hmode, -⟩ := s.armed_stores m tRel latestDie true
  have hcount : (s.armed m tRel latestDie true).rd Dict.lateReleases = s.rd Dict.lateReleases := (KeepsLate.armed ..).rd rfl
  obtain ⟨_, _, _, h⟩ := s.armed_only m tRel latestDie true
  have hdie' : (s.armed m tRel latestDie true).isDie = true := by rw [h]; exact hdie
  obtain ⟨hlate, hout, hoff, hnone, hce⟩ := State.firedLate_effect hdie' hmode.rd m short now
  rw [hcount] at hlate
  refine ⟨hlate, hout.trans ?_, hoff, hnone, ?_⟩
  · rw [h]
  · rw [hce, h]

/-! ### BCAST at a leaf -/

/-- A leaf that is IDLE takes the start of its job (09 R192). -/
theorem State.leafBcast_start {s : State} {m : DownMsg} {payload : Bytes} (hbody : m.body = .bcast 1 payload)
    (hjob : m.job = s.rd Dict.myJob)
    (hidle : s.rd Dict.jobState = 0) (hseq : Tbl.get? s.bar.leaf.lastSeq m.id = none) :
    let t := s.leafBcast m 1 payload
    t.stores Dict.jobState 0 0 2 ∧ t.bar.leaf.tree = some m.id ∧ t.bar.leaf.startBarrier = some (leAt payload 0 2 % 4096) ∧
    t.bar.leaf.delivering.length = s.bar.leaf.delivering.length + 1 ∧ Tbl.get? t.bar.leaf.lastSeq m.id = some (m.seq, false) := by
  have hstart : startBarrierOf m = leAt payload 0 2 := by rw [startBarrierOf, hbody]
  have ht : s.leafBcast m 1 payload =
      (s.setLeaf { s.bar.leaf with lastSeq := Tbl.set s.bar.leaf.lastSeq m.id (m.seq, false) }).runStart m := by
    rw [State.leafBcast, hseq]
    refine (if_pos ⟨rfl, hidle⟩).trans (if_pos hjob.symm)
  intro t
  rw [show t = _ from ht, State.runStart, hstart]
  refine ⟨State.stores_wr _ Dict.jobState 2 0 0, rfl, rfl, List.length_append, Tbl.get?_set_same ..⟩

end Sys2Proof.Machine
end

section
/-! What a chip keeps of its barriers and trees as it sends a message down (09 R182, R189, R195). -/

namespace Sys2Proof.Machine

open Sys2Proof

/-- Of the barriers, only what has been sent on changes. -/
def ForwardedFrom (s t : State) : Prop := ∃ f, t.bar = { s.bar with fwd := f }

theorem ForwardedFrom.refl (s : State) : ForwardedFrom s s := ⟨_, rfl⟩

theorem ForwardedFrom.trans {s t u : State} (h : ForwardedFrom s t) (k : ForwardedFrom t u) : ForwardedFrom s u := by
  obtain ⟨_, h⟩ := h
  obtain ⟨f, k⟩ := k
  exact ⟨f, by rw [k, h]⟩

theorem ForwardedFrom.foldl {α : Type} {f : State → α → State} (hf : ∀ t a, ForwardedFrom t (f t a)) (l : List α) (s : State) :
    ForwardedFrom s (l.foldl f s) := by
  induction l generalizing s with
  | nil => exact .refl s
  | cons a l ih => exact (hf s a).trans (ih _)

theorem ForwardedFrom.sendDown (s : State) (m : DownMsg) (g : Nat) : ForwardedFrom s (s.sendDown m g) := by
  obtain ⟨_, h⟩ := s.enqueue_only g 1 { kind := m.body.kind, bytes := m.bytes, frame := s.frameNow, prec := m.body.prec }
  rw [State.sendDown, State.sendClass1, h]
  exact .refl s

theorem ForwardedFrom.addForward (s : State) (f : Forward) : ForwardedFrom s (s.addForward f) := ⟨_, rfl⟩

theorem ForwardedFrom.settle (s : State) : ForwardedFrom s s.settle := ⟨_, rfl⟩

theorem ForwardedFrom.reissueFor (s : State) (m : DownMsg) (g : Nat) : ForwardedFrom s (s.reissueFor m g) := by
  unfold State.reissueFor
  extract_lets resync target mr
  clear_value target
  cases target with
  | none => exact .refl s
  | some t =>
    dsimp only
    split
    · exact .refl s
    · exact (ForwardedFrom.sendDown ..).trans (.addForward ..)

theorem ForwardedFrom.nack (s : State) (m : DownMsg) (g : Nat) : ForwardedFrom s (s.nack m g) :=
  ForwardedFrom.reissueFor (s.bumpSat Dict.reissues) m g

theorem ForwardedFrom.sendPorts (s : State) (m : DownMsg) (ports : List Nat) : ForwardedFrom s (s.sendPorts m ports) := by
  unfold State.sendPorts
  extract_lets mm up s1
  refine .trans ?_ (.settle _)
  refine .trans ?_ (.foldl (fun t g => .nack t mm g) _ s1)
  exact (ForwardedFrom.foldl (fun t g => .sendDown t mm g) up s).trans (.addForward ..)

/-- A RELEASE or BCAST goes to the ports of its tree, which have grown. -/
theorem ForwardedFrom.fan {m : DownMsg} (h : ∀ ff seg segs resync es, m.body ≠ .epoch ff seg segs resync es) (s : State) :
    ForwardedFrom s.growTrees (s.fan m false) := by
  unfold State.fan
  extract_lets s1 ports
  split
  next ff seg segs resync es hbody => exact absurd hbody (h _ _ _ _ _)
  next => exact .sendPorts ..

@[simp] theorem State.syncBar_bar (s : State) : s.syncBar.bar = s.bar := by
  unfold State.syncBar
  split <;> rfl

@[simp] theorem State.raise_bar (s : State) (classF alarm : Bool) (typ payload : Nat) : (s.raise classF alarm typ payload).bar = s.bar := by
  obtain ⟨_, _, _, _, _, _, _, _, _, h⟩ := RaisedFrom.raise s classF alarm typ payload
  rw [h]

theorem State.liveMove_bar (s : State) (g new : Nat) : (s.liveMove g new).bar = s.bar := by
  unfold State.liveMove
  extract_lets m silence stall s1 alarm payload s2
  have hdrawn : s2.bar = s.bar := by
    unfold s2
    split <;> rfl
  split
  · exact (State.raise_bar ..).trans hdrawn
  · exact (State.raise_bar ..).trans hdrawn

theorem State.liveSettle_bar (n : Nat) (s : State) (g : Nat) : (State.liveSettle n s g).bar = s.bar := by
  induction n generalizing s with
  | zero => rfl
  | succ n ih =>
    rw [State.liveSettle]
    split
    · exact (ih _).trans (s.liveMove_bar ..)
    · rfl

@[simp] theorem State.liveUnstall_bar (s : State) (job barrier : Nat) (dies : Option (List Nat)) :
    (s.liveUnstall job barrier dies).bar = s.bar := by
  unfold State.liveUnstall
  split
  · rfl
  · refine List.foldlRecOn (motive := fun t : State => t.bar = s.bar) _ _ rfl fun t ht g _ => ?_
    extract_lets m mine
    split
    · exact ((State.liveSettle_bar ..).trans (State.liveMove_bar ..)).trans ht
    · exact ht

theorem Tbl.get?_map {α β : Type} (f : α → β) (t : Tbl α) (k : Nat) :
    Tbl.get? (t.map fun e => (e.1, f e.2)) k = (Tbl.get? t k).map f := by
  induction t with
  | nil => rfl
  | cons e t ih =>
    by_cases h : e.1 = k
    · simp [Tbl.get?, h]
    · simp [Tbl.get?, h, ih]

/-- Of the barriers, only the ports of the trees grow. -/
theorem State.growTrees_only (s : State) : ∃ trees, s.growTrees.bar = { s.bar with trees := trees } ∧
    ∀ k e, Tbl.get? s.bar.trees k = some e → ∃ ports, Tbl.get? trees k = some { e with ports := ports } := by
  unfold State.growTrees
  split
  · exact ⟨_, rfl, fun k e he => ⟨e.ports, he⟩⟩
  · extract_lets ports grow
    refine ⟨_, rfl, fun k e he => ⟨(grow e).ports, ?_⟩⟩
    rw [Tbl.get?_map, he]
    rfl

/-! ### At a chip -/

/-- A release of an epoch that is not yet in force is held. -/
theorem State.holdOrAct_held {s : State} {m : DownMsg} (h : s.heldBack m = true) : (s.holdOrAct m).bar.held = s.bar.held ++ [m] := by
  rw [State.holdOrAct, if_pos h, State.noteRelease]
  split
  · rw [State.liveUnstall_bar]
    rfl
  · rfl

/-- What sending a RELEASE or BCAST down leaves of the barriers. -/
theorem State.fan_syncBar_only {m : DownMsg} (h : ∀ ff seg segs resync es, m.body ≠ .epoch ff seg segs resync es) (s : State) :
    ∃ trees f, (s.fan m false).syncBar.bar = { s.bar with trees := trees, fwd := f } ∧
    ∀ k e, Tbl.get? s.bar.trees k = some e → ∃ ports, Tbl.get? trees k = some { e with ports := ports } := by
  obtain ⟨trees, hgrow, htrees⟩ := s.growTrees_only
  obtain ⟨f, hfan⟩ := ForwardedFrom.fan h s
  exact ⟨trees, f, by rw [State.syncBar_bar, hfan, hgrow], htrees⟩

/-- A release that is acted on is remembered for its job, and its barrier is no longer open. -/
theorem State.actDown_release {s : State} {m : DownMsg} {tRel die : Nat} (hbody : m.body = .release tRel die) :
    (∃ l, Tbl.get? (s.actDown m).bar.lastRel m.job = some ((m.id, tRel) :: l)) ∧
    ∀ b ∈ (s.actDown m).bar.openBars, ¬(b.job = m.job ∧ b.barrier = m.id) := by
  have hkind : ∀ ff seg segs resync es, m.body ≠ .epoch ff seg segs resync es := by
    rw [hbody]
    exact fun _ _ _ _ _ => nofun
  rw [State.actDown, hbody]
  dsimp only
  generalize hs1 : s.setBar _ = s1
  obtain ⟨_, _, hbar, -⟩ := State.fan_syncBar_only hkind (s1.liveUnstall m.job m.id none)
  rw [hbar, State.liveUnstall_bar, ← hs1]
  refine ⟨⟨_, Tbl.get?_set_same ..⟩, fun b hb ⟨hjob, hid⟩ => ?_⟩
  have hkept := (List.mem_filter.mp hb).2
  simp [hjob, hid] at hkept

/-- A host message that is acted on is the last broadcast of its tree. -/
theorem State.actDown_hostMessage {s : State} {m : DownMsg} {payload : Bytes} {e : Tree} (hbody : m.body = .bcast 3 payload)
    (htree : Tbl.get? s.bar.trees m.id = some e) :
    ∃ x, Tbl.get? (s.actDown m).bar.trees m.id = some x ∧ x.seq = some m.seq ∧ x.op = 3 ∧ x.job = e.job := by
  have hkind : ∀ ff seg segs resync es, m.body ≠ .epoch ff seg segs resync es := by
    rw [hbody]
    exact fun _ _ _ _ _ => nofun
  have hnoted : Tbl.get? (s.noteBcast m 3).bar.trees m.id = some { e with seq := some m.seq, op := 3 } := by
    rw [State.noteBcast, htree]
    exact Tbl.get?_set_same ..
  rw [State.actDown, hbody]
  obtain ⟨_, _, hbar, htrees⟩ := State.fan_syncBar_only hkind (s.noteBcast m 3)
  obtain ⟨ports, hgrown⟩ := htrees _ _ hnoted
  exact ⟨{ e with seq := some m.seq, op := 3, ports := ports }, (congrArg (Tbl.get? ·.trees m.id) hbar).trans hgrown, rfl, rfl, rfl⟩

/-! ### The commands -/

/-- A RELEASE of an epoch in force reaches a leaf. -/
theorem release_at_leaf {dt p job barrier epoch level tRel die : Nat} {s u : State} (hu : u = s.elapse dt) (hon : u.coreOn = true)
    (hup : u.laneUp p = true) (hdie : u.isDie = true) (hepoch : frameGt epoch (u.rd Dict.memberEpoch) = false) :
    ∃ q, exec (.release dt p job barrier epoch level false tRel die) s =
      .next (((u.acked q).leafRelease (releaseMsg job barrier epoch level tRel die) tRel die).within s) := by
  obtain ⟨q, hq⟩ := State.takeFromAbove_leaf (m := releaseMsg job barrier epoch level tRel die) hup hdie hepoch
  refine ⟨q, ?_⟩
  rw [exec_release, State.fromAbove_of_on hu hon, hq]
  rfl

/-- A BCAST of an epoch in force reaches a leaf. -/
theorem bcast_at_leaf {dt p job tree seq epoch level op : Nat} {payload : Bytes} {s u : State} (hu : u = s.elapse dt)
    (hon : u.coreOn = true) (hup : u.laneUp p = true) (hdie : u.isDie = true) (hepoch : frameGt epoch (u.rd Dict.memberEpoch) = false) :
    ∃ q, exec (.bcast dt p job tree seq epoch level false op payload) s =
      .next (((u.acked q).leafBcast (bcastMsg job tree seq epoch level op payload) op payload).within s) := by
  obtain ⟨q, hq⟩ := State.takeFromAbove_leaf (m := bcastMsg job tree seq epoch level op payload) hup hdie hepoch
  refine ⟨q, ?_⟩
  rw [exec_bcast, State.fromAbove_of_on hu hon, hq]
  rfl

/-- A message of an epoch in force is acted on at a chip. -/
theorem State.holdOrAct_of_current {s : State} {m : DownMsg} (h : s.heldBack m = false) : s.holdOrAct m = s.actDown m := by
  rw [State.holdOrAct, h, if_neg Bool.false_ne_true]

/-- Settles O38: a message of an epoch in force acts at once, at a leaf and at a chip; what follows it on the way down keeps what it
has noted. -/
theorem downwardCommandsComplete : Obligations.DownwardCommandsComplete := by
  unfold Obligations.DownwardCommandsComplete
  refine ⟨?_, ?_, ?_, ?_⟩
  · intro dt p job barrier epoch level tRel die s u hu hon hup hdie hepoch hjob harr
    obtain ⟨q, hexec⟩ := release_at_leaf (level := level) (barrier := barrier) (job := job) (tRel := tRel) (die := die)
      hu hon hup hdie hepoch
    have hawaits : (u.acked q).awaits (releaseMsg job barrier epoch level tRel die) := State.awaits_of_arrival hjob harr
    refine ⟨fun htime => ?_, fun htime => ?_⟩
    · rw [State.leafRelease_onTime hawaits (by simpa only [State.acked_time, State.acked_rd] using htime)] at hexec
      obtain ⟨hmode, hstart, hperiod, hbase⟩ :=
        (u.acked q).armed_stores (releaseMsg job barrier epoch level tRel die) tRel die false
      obtain ⟨hnext, hrelease, houtQ, href, hout⟩ := State.armed_effect (s := u.acked q)
        (m := releaseMsg job barrier epoch level tRel die) rfl rfl tRel die
      refine ⟨_, hexec, hmode.rd_within s, hstart.rd_within s, hperiod.rd_within s, hbase.rd_within s, ?_⟩
      rw [State.within_chan, State.within_ce, State.within_bar, State.within_out]
      exact ⟨hnext, hrelease, houtQ, href, hout⟩
    · rw [State.leafRelease_late hawaits (by simpa only [State.acked_time, State.acked_rd] using htime)] at hexec
      obtain ⟨hlate, hout, hoff, hnone, houtQ⟩ := State.late_effect (s := u.acked q) hdie (releaseMsg job barrier epoch level tRel die)
        tRel die (satTo 32 (ceilDiv (u.acked q).time.now nsUnits + (u.acked q).rd Dict.armMin - tRel)) (u.acked q).nowNs
      refine ⟨_, hexec, hlate.rd_within s, ?_, hoff.rd_within s, ?_, ?_⟩
      · rw [State.within_out, hout, State.acked_nowNs, State.acked_out]
      · rw [State.within_chan, hnone]
      · rw [State.within_ce, houtQ, State.acked_ce]
        rfl
  · intro dt p job barrier epoch level tRel die s u m hu hon hup hdie hdown hm hseen
    obtain ⟨q, hq⟩ := State.takeFromAbove_chip hup hdie hdown (by rw [hm]) hseen
    have hexec := exec_release dt p job barrier epoch level tRel die s
    rw [State.fromAbove_of_on hu hon, releaseMsg, ← hm, hq] at hexec
    refine ⟨fun hback => ⟨_, hexec, ?_⟩, fun hback => ⟨_, hexec, ?_⟩⟩
    · beta_reduce
      rw [State.within_bar]
      exact State.holdOrAct_held (s := u.acked q) hback
    · beta_reduce
      rw [State.within_bar, State.holdOrAct_of_current (s := u.acked q) hback]
      have hact := State.actDown_release (s := u.acked q) (m := m) (tRel := tRel) (die := die) (by rw [hm])
      rw [hm] at hact ⊢
      exact hact
  · intro dt p job tree seq epoch level payload s u hu hon hup hdie hepoch hjob hidle hseq
    obtain ⟨q, hexec⟩ := bcast_at_leaf (job := job) (tree := tree) (seq := seq) (level := level) (op := 1) (payload := payload)
      hu hon hup hdie hepoch
    obtain ⟨hstate, heffect⟩ := State.leafBcast_start (s := u.acked q)
      (m := bcastMsg job tree seq epoch level 1 payload) rfl hjob hidle hseq
    refine ⟨_, hexec, hstate.rd_within s, ?_⟩
    rw [State.within_bar]
    exact heffect
  · intro dt p job tree seq epoch level payload s u m e hu hon hup hdie hdown hm hseen hback htree
    obtain ⟨q, hq⟩ := State.takeFromAbove_chip hup hdie hdown (by rw [hm]) hseen
    have hexec := exec_bcast dt p job tree seq epoch level 3 payload s
    rw [State.fromAbove_of_on hu hon, bcastMsg, ← hm, hq] at hexec
    refine ⟨_, hexec, ?_⟩
    have hact := State.actDown_hostMessage (s := u.acked q) (m := m) (payload := payload) (e := e) (by rw [hm])
      (by rw [hm]; exact htree)
    beta_reduce
    rw [State.within_bar, State.holdOrAct_of_current (s := u.acked q) hback]
    rw [hm] at hact ⊢
    exact hact

end Sys2Proof.Machine
end

section
/-! What the core does at the pulse of channel 0 leaves the shutter channels, FRAME_NOW and FIRED of channel 0 alone: the rules of
the shared operations. -/

namespace Sys2Proof.Machine

open Sys2Proof

/-! ### The channels and their count -/

/-- FIRED of channel 0 and FRAME_NOW, by number. -/
abbrev pulseObject (k : Nat) : Prop := k = 0x112006 ∨ k = 0x120000

/-- `t` has the shutter channels, FRAME_NOW and FIRED of channel 0 of `s`. -/
def KeepsFired (s t : State) : Prop := t.shutter = s.shutter ∧ KeepsObjects pulseObject s t

theorem pulseObject_of_idx {o : Ob} (h : 0x1200 < o.idx) (m j : Nat) : ¬ pulseObject (o.key m j) := by
  unfold Ob.key
  omega

theorem outsideRecorder_of_pulseObject (k : Nat) (h : pulseObject k) : outsideRecorder k := by omega

namespace KeepsFired

theorem refl (s : State) : KeepsFired s s := ⟨rfl, .refl _ s⟩

theorem trans {s t u : State} (h : KeepsFired s t) (k : KeepsFired t u) : KeepsFired s u := ⟨k.1.trans h.1, h.2.trans k.2⟩

theorem chan {s t : State} (h : KeepsFired s t) (c : Nat) : t.chan c = s.chan c := by rw [State.chan, State.chan, h.1]

theorem stores {s t : State} (h : KeepsFired s t) {o : Ob} {v : Nat} (hs : s.stores o 0 0 v) (hk : pulseObject (o.key 0 0)) :
    t.stores o 0 0 v := hs.of_keeps h.2 hk

theorem foldl {α : Type} {f : State → α → State} (hf : ∀ t a, KeepsFired t (f t a)) (l : List α) (s : State) :
    KeepsFired s (l.foldl f s) := by
  induction l generalizing s with
  | nil => exact .refl s
  | cons a l ih => exact (hf s a).trans (ih _)

/-- Another object takes a value. -/
theorem wrLow (s : State) (o : Ob) (v : Nat) (h : ¬ pulseObject (o.key 0 0)) : KeepsFired s (s.wr o v) := ⟨rfl, .wr s o v 0 0 h⟩

/-- An object past FRAME_NOW takes a value. -/
theorem wr (s : State) (o : Ob) (v m j : Nat) (h : 0x1200 < o.idx) : KeepsFired s (s.wr o v m j) :=
  ⟨rfl, .wr s o v m j (pulseObject_of_idx h m j)⟩

theorem bump (s : State) (o : Ob) (m j n : Nat) (h : 0x1200 < o.idx) : KeepsFired s (s.bump o m j n) := .wr s o _ m j h

theorem bumpSat (s : State) (o : Ob) (m j n : Nat) (h : 0x1200 < o.idx) : KeepsFired s (s.bumpSat o m j n) := .wr s o _ m j h

/-! ### Event records, queues and the stacks -/

theorem of_queued {s t : State} (h : QueuedFrom s t) : KeepsFired s t := by
  obtain ⟨_, rfl⟩ := h
  exact .refl s

theorem of_raised {s t : State} (h : RaisedFrom s t) (k : KeepsOutside s t) : KeepsFired s t := by
  refine ⟨?_, k.mono outsideRecorder_of_pulseObject⟩
  obtain ⟨_, _, _, _, _, _, _, _, _, rfl⟩ := h
  rfl

theorem raiseAt (s : State) (classF alarm : Bool) (typ payload time frame : Nat) :
    KeepsFired s (s.raiseAt classF alarm typ payload time frame) := .of_raised (.raiseAt ..) (.raiseAt ..)

theorem raise (s : State) (classF alarm : Bool) (typ payload : Nat) : KeepsFired s (s.raise classF alarm typ payload) := .raiseAt ..

theorem raiseO (s : State) (typ payload : Nat) : KeepsFired s (s.raiseO typ payload) := .raise ..

theorem raiseAlarm (s : State) (typ payload : Nat) : KeepsFired s (s.raiseAlarm typ payload) := .raise ..

theorem wake (s : State) (source detail cls : Nat) : KeepsFired s (s.wake source detail cls) := by
  obtain ⟨_, h⟩ := s.wake_only source detail cls
  rw [h]
  exact .refl s

theorem raiseIsland (s : State) (classF alarm : Bool) (typ payload time frame : Nat) :
    KeepsFired s (s.raiseIsland classF alarm typ payload time frame) := by
  unfold State.raiseIsland
  extract_lets _ s1
  split
  · exact .raiseAt ..
  · split
    · exact .wake s1 ..
    · exact .refl s

theorem enqueue (s : State) (g c : Nat) (f : QFrame) : KeepsFired s (s.enqueue g c f) := .of_queued (s.enqueue_only g c f)

theorem countStack (s : State) (a n : Nat) (write : Bool) : KeepsFired s (s.countStack a n write) := .refl s

theorem stackWrite (s : State) (a : Nat) (bs : Bytes) : KeepsFired s (s.stackWrite a bs) := by
  unfold State.stackWrite
  split
  · exact .refl s
  · exact .countStack { s with stack := s.stack.write a bs } ..

/-! ### Drops and upward traffic (13 R287, 14 R305) -/

theorem endRuns (s : State) (c level die : Nat) : KeepsFired s (s.endRuns c level die) := by
  unfold State.endRuns
  extract_lets mine
  exact .foldl (fun t r => .raiseO t ..) _ { s with sch := { s.sch with runs := s.sch.runs.filter (fun r => !mine r) } }

theorem drop (s : State) (g c level die cseq reason : Nat) : KeepsFired s (s.drop g c level die cseq reason) := by
  unfold State.drop
  extract_lets joins s1 s2
  have hcounted : KeepsFired s s1 := .bumpSat s Dict.grpDrops g c 1 (by decide)
  split
  · exact hcounted
  · exact hcounted.trans (.endRuns s1 c level die)

theorem dropMoved (s : State) (g c : Nat) (f : QFrame) : KeepsFired s (s.dropMoved g c f) := .drop ..

theorem sendRelay (s : State) (g t : Nat) (f : QFrame) : KeepsFired s (s.sendRelay g t f) := by
  unfold State.sendRelay
  extract_lets pre
  refine .trans ?_ (.foldl (fun u b => .enqueue u t 3 _) _ _)
  exact .bumpSat s Dict.relayed 0 0 1 (by decide)

theorem redirect (s : State) (g t c : Nat) (f : QFrame) : KeepsFired s (s.redirect g t c f) := by
  unfold State.redirect
  split
  case h_1 =>
    split
    · exact .enqueue ..
    · exact .sendRelay ..
  case h_2 | h_3 => exact .bumpSat s Dict.vectorsLost 0 0 _ (by decide)
  case h_4 | h_5 | h_6 | h_7 => exact .refl s
  case h_8 | h_9 | h_10 | h_11 => exact .dropMoved ..
  all_goals exact .enqueue ..

theorem enqueueUp (s : State) (frame c : Nat) (f : QFrame) : KeepsFired s (s.enqueueUp frame c f) := by
  unfold State.enqueueUp
  split
  · exact .refl s
  · split
    · exact .enqueue ..
    · exact .redirect ..

theorem police (s : State) (g c pre b : Nat) : KeepsFired s (s.police g c pre b).2 := by
  unfold State.police
  split
  · exact .refl s
  · exact .refl s

theorem offer (s : State) (c : Nat) (kind : MsgKind) (body : Bytes) : KeepsFired s (s.offer c kind body) := by
  unfold State.offer
  split
  · exact .refl s
  next g _ =>
    extract_lets die restart cseq _ s1 size send r
    have hsend (t : State) (colour : Nat) : KeepsFired t (send t colour) := (KeepsFired.endRuns ..).trans (.enqueue ..)
    have hs1 : KeepsFired s s1 := .refl s
    have hpoliced : KeepsFired s r.2 := hs1.trans (.police s1 g c 0 size)
    split
    · exact hs1.trans (.drop s1 ..)
    · split
      · exact hs1.trans (hsend s1 0)
      · split
        · exact hs1.trans (.drop s1 ..)
        · split
          · exact hpoliced.trans (.drop ..)
          · exact hpoliced.trans (hsend ..)

end KeepsFired

end Sys2Proof.Machine
end

section
/-! The same for the journal, the slots and the snapshots at the pulse of channel 0 (chapters 03, 07 and 20). -/

namespace Sys2Proof.Machine.KeepsFired

open Sys2Proof

/-! ### The journal's rings (20 R418 to R421) -/

theorem oldestOf_past (hist : Bool) : 0x1200 < (oldestOf hist).idx := by cases hist <;> decide

theorem setRing (s : State) (hist : Bool) (r : ChunkRing) : KeepsFired s (s.setRing hist r) := by
  cases hist
  · exact .refl s
  · exact .refl s

theorem endDiscards (s : State) (hist : Bool) : KeepsFired s (s.endDiscards hist) := by
  unfold State.endDiscards
  split
  · exact .refl s
  · exact (KeepsFired.setRing ..).trans (.raise ..)

theorem lostUpTo (s : State) (hist : Bool) (last : Nat) : KeepsFired s (s.lostUpTo hist last) := by
  unfold State.lostUpTo
  split
  · exact .wr s _ _ 0 0 (oldestOf_past hist)
  · exact .refl s

theorem writeRing (s : State) (hist : Bool) (addr : Nat) (bytes : Bytes) : KeepsFired s (s.writeRing hist addr bytes) := by
  unfold State.writeRing
  extract_lets s1
  have hs1 : KeepsFired s s1 := .stackWrite ..
  split
  · exact hs1
  · exact hs1

theorem writeChunk (s : State) (kind : Nat) (g : Gather) : KeepsFired s (s.writeChunk kind g) := by
  unfold State.writeChunk
  extract_lets hist r frames fst lst block bytes size pos base covers next run gone s0 s1 die c
  split
  · refine .trans ?_ (.lostUpTo ..)
    refine .trans ?_ (.bumpSat _ Dict.journalLost 0 0 1 (by decide))
    exact .setRing ..
  · refine .trans ?_ (.writeRing ..)
    refine .trans ?_ (.setRing ..)
    exact (KeepsFired.endDiscards s hist).trans (.foldl (fun t c => .lostUpTo t hist c.last) gone s0)

theorem closeGather (s : State) (kind : Nat) : KeepsFired s (s.closeGather kind) := by
  unfold State.closeGather
  split
  · exact .refl s
  · exact .writeChunk { s with jn := { s.jn with gathering := Tbl.del s.jn.gathering kind } } ..

theorem gatherEntry (kind frame : Nat) (s : State) (body : Bytes) : KeepsFired s (s.gatherEntry kind frame body) := by
  unfold State.gatherEntry
  extract_lets s1 g
  have hs1 : KeepsFired s s1 := by
    unfold s1
    split
    · split
      · exact .refl s
      · exact .closeGather ..
    · exact .refl s
  exact hs1

theorem journalEntry (s : State) (kind frame : Nat) (body : Bytes) : KeepsFired s (s.journalEntry kind frame body) := by
  unfold State.journalEntry
  split
  · exact .refl s
  · exact .foldl (fun t b => .gatherEntry kind frame t b) _ s

theorem sendLeafJournal (s : State) : KeepsFired s s.sendLeafJournal := by
  unfold State.sendLeafJournal
  split
  · exact .refl s
  · exact .offer { s with jn := { s.jn with leaf := [] } } ..

theorem leafEntry (s : State) (kind : Nat) (body : Bytes) : KeepsFired s (s.leafEntry kind body) := by
  unfold State.leafEntry
  split
  · exact .refl s
  · extract_lets es src s1
    split
    · exact .sendLeafJournal s1
    · exact .refl s

theorem ownEntry (s : State) (kind frame : Nat) (body : Bytes) : KeepsFired s (s.ownEntry kind frame body) := by
  unfold State.ownEntry
  split
  · exact .leafEntry ..
  · exact .journalEntry ..

theorem startOldest (s : State) (frame : Nat) : KeepsFired s (s.startOldest frame) := by
  unfold State.startOldest
  extract_lets one
  have hone (t : State) (hist : Bool) : KeepsFired t (one t hist) := by
    unfold one
    extract_lets r
    split
    · exact (KeepsFired.setRing ..).trans (.wr _ _ _ 0 0 (oldestOf_past hist))
    · exact .refl t
  split
  · exact (hone s false).trans (hone _ true)
  · exact .refl s

theorem journalPrograms (s : State) (frame : Nat) : KeepsFired s (s.journalPrograms frame) := by
  unfold State.journalPrograms
  extract_lets due
  exact .foldl (fun t e => (KeepsFired.journalEntry t ..).trans (.journalEntry ..)) due
    (s.setRed { s.red with programDue := s.red.programDue.filter (fun e => !(frameGe frame e.1)) })

/-! ### Slots and their queues (07 R141 to R144) -/

theorem slotEvent (s : State) (k event pred frame : Nat) (digest : Bytes) : KeepsFired s (s.slotEvent k event pred frame digest) :=
  .ownEntry ..

theorem setDslot (s : State) (k : Nat) (d : DevSlot) : KeepsFired s (s.setDslot k d) := .refl s

theorem syncQueue (s : State) (k : Nat) : KeepsFired s (s.syncQueue k) := by
  unfold State.syncQueue
  extract_lets d s1
  have hs1 : KeepsFired s s1 := .wr s Dict.slotQueued _ k 0 (by decide)
  split
  · exact hs1.trans (.setDslot ..)
  · exact hs1

theorem switchSlot (s : State) (k : Nat) : KeepsFired s (s.switchSlot k) := by
  unfold State.switchSlot
  extract_lets d
  split
  · exact .refl s
  next f pred _ =>
    extract_lets s1 s2
    have hs1 : KeepsFired s s1 := by
      unfold s1
      split
      · exact .refl s
      next q =>
        extract_lets c
        have hc : KeepsFired s c := by
          refine .trans ?_ (.wr _ Dict.slotPipeCount _ k 0 (by decide))
          refine .trans ?_ (.wr _ Dict.slotPipeFirst _ k 0 (by decide))
          refine .trans ?_ (.wr _ Dict.slotGenMask _ k 0 (by decide))
          exact .wr s Dict.slotVkind _ k 0 (by decide)
        split
        · exact hc.trans (.setDslot ..)
        · exact hc
    refine .trans ?_ (.slotEvent ..)
    refine .trans ?_ (.wr _ Dict.slotState _ k 0 (by decide))
    exact hs1.trans (.setDslot ..)

theorem reachFrame (s : State) (frame : Nat) : KeepsFired s (s.reachFrame frame) := by
  refine .foldl (fun t k => ?_) _ s
  split
  · split
    · exact .switchSlot ..
    · exact .refl t
  · exact .refl t

theorem unscoredEntry (s : State) (v : DevVec) (k reason : Nat) : KeepsFired s (s.unscoredEntry v k reason) := .journalEntry ..

theorem startBatch (s : State) (k : Nat) : KeepsFired s (s.startBatch k) := by
  unfold State.startBatch
  extract_lets d
  split
  · exact .refl s
  · have hbatch (d' : DevSlot) : KeepsFired s ((s.setDslot k d').syncQueue k) := (KeepsFired.setDslot ..).trans (.syncQueue ..)
    split
    · split
      · exact (hbatch _).trans (.countStack ..)
      · exact hbatch _
    · exact hbatch _

theorem enqueueVec (s : State) (k : Nat) (v : DevVec) : KeepsFired s (s.enqueueVec k v) := by
  unfold State.enqueueVec
  extract_lets d full s0 seen src s1
  have hs0 : KeepsFired s s0 := (KeepsFired.setDslot ..).trans (.syncQueue ..)
  have hs1 : KeepsFired s s1 := hs0.trans (.startBatch { s0 with pw := { s0.pw with queueSeen := s0.pw.queueSeen || seen } } k)
  split
  · exact hs1.trans (.unscoredEntry ..)
  · exact hs1

theorem afterRetire (s : State) (kind gen : Nat) (v : DevVec) (k : Nat) : KeepsFired s (s.afterRetire kind gen v k) := by
  unfold State.afterRetire
  extract_lets d
  split
  · split
    · exact (KeepsFired.setDslot ..).trans (.unscoredEntry ..)
    · exact .refl s
  · exact .refl s

theorem enterSlot (kind : Nat) (v : DevVec) (s : State) (k : Nat) : KeepsFired s (State.enterSlot kind v s k) := by
  unfold State.enterSlot
  split
  · split
    · exact (KeepsFired.bumpSat s Dict.streamRefused 0 0 1 (by decide)).trans (.unscoredEntry ..)
    · exact .enqueueVec ..
  · exact .afterRetire ..

theorem enterSlots (s : State) (kind : Nat) (v : DevVec) : KeepsFired s (s.enterSlots kind v) :=
  (KeepsFired.reachFrame ..).trans (.foldl (fun t k => .enterSlot kind _ t k) _ _)

/-! ### Snapshots (03 R58 to R66) -/

theorem drawn (s : State) : KeepsFired s s.drawn := .refl s

theorem setKind (s : State) (eng : Bool) (k : SnapKind) : KeepsFired s (s.setKind eng k) := by
  cases eng
  · exact .refl s
  · exact .refl s

theorem onHeaders (s : State) (frame : Nat) (f : SnapHeader → SnapHeader) : KeepsFired s (s.onHeaders frame f) := .refl s

theorem clearEvents (s : State) : KeepsFired s s.clearEvents := .refl s

theorem afterDie (s : State) (frame : Nat) (captured : Bool) : KeepsFired s (s.afterDie frame captured) := by
  unfold State.afterDie
  split
  · exact .clearEvents s
  · split
    · exact .clearEvents s
    · exact .refl s

theorem emptyFrame (s : State) (h : SnapHeader) (span : Nat) : KeepsFired s (s.emptyFrame h span) := by
  unfold State.emptyFrame
  extract_lets upd s1 k p
  refine .trans ?_ (.afterDie ..)
  refine .trans ?_ (.drawn _)
  refine .trans ?_ (.bumpSat _ Dict.dieEmpty 0 0 1 (by decide))
  exact .setKind s1 false _

theorem noEngine (s : State) (frame : Nat) : KeepsFired s (s.noEngine frame) :=
  .bumpSat (s.onHeaders frame (fun (x : SnapHeader) => { x with engine := false, engineSpan := 0 })) Dict.engineSkipped 0 0 1 (by decide)

theorem abandon (s : State) (eng : Bool) (due : Nat) : KeepsFired s (s.abandon eng due) := by
  unfold State.abandon
  extract_lets k
  split
  · exact .refl s
  · extract_lets delay upd s1
    have hs1 : KeepsFired s s1 := (KeepsFired.setKind ..).trans (.onHeaders ..)
    split
    · exact hs1.trans (.noEngine ..)
    · exact hs1.trans (.emptyFrame ..)

theorem afterCapture (s : State) (eng : Bool) : KeepsFired s (s.afterCapture eng) := by
  cases eng
  · exact .refl s
  · exact .refl s

theorem capture (s : State) (eng : Bool) (h : SnapHeader) (due span : Nat) (held overwrite : Bool) :
    KeepsFired s (s.capture eng h due span held overwrite) := by
  unfold State.capture
  extract_lets k ns delay upd new k1 tornFrame s1 s2 s3
  have hs1 : KeepsFired s s1 := (KeepsFired.setKind ..).trans (.onHeaders ..)
  have hs2 : KeepsFired s s2 := by
    unfold s2
    generalize tornFrame = torn
    cases torn with
    | none => exact hs1
    | some f => exact hs1.trans (.onHeaders ..)
  have hs3 : KeepsFired s s3 := hs2.trans (.afterCapture s2.drawn eng)
  split
  · exact hs3
  · exact hs3.trans (.afterDie ..)

theorem captureDue (s : State) (eng : Bool) (h : SnapHeader) (due : Nat) : KeepsFired s (s.captureDue eng h due) := by
  unfold State.captureDue
  extract_lets s0 k span
  have hs0 : KeepsFired s s0 := .abandon ..
  split
  · exact hs0.trans (.capture ..)
  · split
    · refine .trans ?_ (.bumpSat _ _ 0 0 1 (by cases eng <;> decide))
      exact hs0.trans ((KeepsFired.setKind ..).trans (.onHeaders ..))
    · split
      · exact hs0.trans (.noEngine ..)
      · exact hs0.trans (.emptyFrame ..)
    · exact (hs0.trans (.capture ..)).trans (.bumpSat _ _ 0 0 1 (by cases eng <;> decide))

theorem capturePulse (s : State) (n due : Nat) : KeepsFired s (s.capturePulse n due) := by
  unfold State.capturePulse
  extract_lets tick _ sc s0 stride isEng h s1 before s2 h1
  have hsc : KeepsFired s sc := by
    unfold sc
    split <;> exact .refl s
  have hs1 : KeepsFired s s1 := by
    unfold s1
    split <;> exact hsc
  split
  · exact hs1.trans (.captureDue ..)
  · exact (hs1.trans (.captureDue ..)).trans (.captureDue ..)

end Sys2Proof.Machine.KeepsFired
end

section
/-! The same for the routes, the frames, the barriers and liveness at the pulse of channel 0 (chapters 06, 08, 09 and 13). -/

namespace Sys2Proof.Machine.KeepsFired

open Sys2Proof

/-! ### Descriptors, the engine set and the verdict's loops (03 R67, 04 R86, 08 R163) -/

theorem setVer (s : State) (v : VerdictStage) : KeepsFired s (s.setVer v) := .refl s

theorem descPulse (s : State) : KeepsFired s s.descPulse := by
  unfold State.descPulse
  split
  · exact .refl s
  · exact .refl s

theorem countDecim (s : State) : KeepsFired s s.countDecim := .bumpSat s Dict.decimSets 0 0 1 (by decide)

theorem engineDecision (s : State) (frame : Nat) : KeepsFired s (s.engineDecision frame) := by
  unfold State.engineDecision
  extract_lets _ s1
  have hs1 : KeepsFired s s1 := .refl s
  split
  · exact hs1
  · rename_i b note _
    have hnote (t : State) (dec : Bool) (colour : Nat) : KeepsFired t (note t dec colour) := .refl t
    split
    · exact hs1.trans (hnote ..)
    · extract_lets queued
      split
      · exact (hs1.trans (.countDecim ..)).trans (hnote ..)
      · split
        · exact ((hs1.trans (.police ..)).trans (.countDecim ..)).trans (hnote ..)
        · exact (hs1.trans (.police ..)).trans (hnote ..)

theorem setTheta (s : State) (m : Nat) (t : Int) : KeepsFired s (s.setTheta m t) := by
  refine .trans ?_ (.wr _ Dict.loopThreshold _ m 0 (by decide))
  exact .setVer ..

theorem verdictPulse (s : State) : KeepsFired s s.verdictPulse := by
  unfold State.verdictPulse
  extract_lets due _ s1 s2
  have hs2 : KeepsFired s s2 := (KeepsFired.setVer s _).trans (.foldl (fun t m => .setTheta t m _) _ s1)
  split
  · exact hs2.trans (.wr s2 Dict.suspectThr _ 0 0 (by decide))
  · exact hs2

/-! ### Links and routes (13 R288 to R292) -/

theorem setLink (s : State) (g : Nat) (l : Link) : KeepsFired s (s.setLink g l) := .refl s

theorem txOn (s : State) (p : Nat) (bytes : Bytes) : KeepsFired s (s.txOn p bytes) := by
  unfold State.txOn State.countPort
  split
  · exact .bump (s.emit _) Dict.laneFramesTx p 0 1 (by decide)
  · exact .bump (s.emit _) Dict.laneFramesTx p 0 1 (by decide)

theorem sendSeq (s : State) (g typ cls : Nat) (q : QFrame) : KeepsFired s (s.sendSeq g typ cls q) := by
  unfold State.sendSeq
  extract_lets l f l1
  exact (KeepsFired.setLink s g l1).trans (.txOn ..)

theorem sendRoute (s : State) (g typ : Nat) (payload : Bytes) : KeepsFired s (s.sendRoute g typ payload) := by
  unfold State.sendRoute
  split
  · exact .refl s
  · split
    · exact .sendSeq ..
    · exact .setLink ..

theorem sendRoutes (s : State) (g ff kind leg : Nat) (dies : List Nat) : KeepsFired s (s.sendRoutes g ff kind leg dies) :=
  .foldl (fun t b => .sendRoute t g 7 b) _ s

theorem sendArrival (s : State) (a : LeafArrival) : KeepsFired s (s.sendArrival a) := .enqueueUp ..

theorem sendBarrier (s : State) (b : OpenBarrier) : KeepsFired s (s.sendBarrier b) := by
  unfold State.sendBarrier
  extract_lets l body bytes s1
  exact .enqueueUp ..

theorem resendBarriers (s : State) : KeepsFired s s.resendBarriers := by
  unfold State.resendBarriers
  split
  · exact .foldl (fun t a => .sendArrival t a) _ s
  · exact .foldl (fun t b => .sendBarrier t b) _ s

theorem moveTraffic (s : State) (g t : Nat) : KeepsFired s (s.moveTraffic g t) := by
  unfold State.moveTraffic
  extract_lets q fs s1
  refine .trans ?_ (.resendBarriers _)
  exact .foldl (fun u e => .redirect u g t e.1 e.2) fs s1

theorem settleMoved (s : State) : KeepsFired s s.settleMoved := by
  refine .foldl (fun t b => ?_) _ s
  split
  · split
    · exact .moveTraffic ..
    · exact .refl t
  · exact .refl t

theorem setClock (s : State) (v : Nat) : KeepsFired s (s.setClock v) := .wrLow s Dict.clockState v (by decide)

theorem toHoldover (s : State) : KeepsFired s s.toHoldover := (KeepsFired.setClock s 3).trans (.raiseIsland ..)

theorem slaveChanged (s : State) (before : Option Nat) : KeepsFired s (s.slaveChanged before) := by
  unfold State.slaveChanged
  extract_lets after s1
  have hs1 : KeepsFired s s1 := by
    unfold s1
    generalize after = q
    cases q with
    | none => exact .refl s
    | some q =>
      dsimp only
      split <;> exact .refl s
  clear_value s1 after
  split
  · exact hs1
  · split
    · split
      · exact hs1
      · split
        · exact hs1.trans (.setClock ..)
        · exact hs1.trans (.toHoldover s1)
    · exact hs1.trans (.toHoldover s1)
    · exact hs1

theorem decideMove (s : State) (buddy : Bool) (code : Nat) : KeepsFired s (s.decideMove buddy code) := by
  unfold State.decideMove
  split
  · exact .refl s
  next t _ =>
    extract_lets before old ff home _ s1 s2
    have hs2 : KeepsFired s s2 := by
      refine .trans ?_ (.raiseIsland ..)
      refine .trans ?_ (.bumpSat _ Dict.routeMoves 0 0 1 (by decide))
      exact .wr s1 Dict.routeFrom ff 0 0 (by decide)
    refine .trans ?_ (.slaveChanged ..)
    refine .trans ?_ (.settleMoved _)
    exact hs2.trans (.sendRoutes ..)

theorem decideTrigger (s : State) (m : MoveTrigger) : KeepsFired s (s.decideTrigger m) := by
  unfold State.decideTrigger
  extract_lets cur
  split
  · split
    · split
      · exact .decideMove ..
      · exact .refl s
    · split
      · exact .decideMove ..
      · exact .refl s
  · split
    · exact .decideMove ..
    · exact .refl s
  · split
    · exact .decideMove ..
    · exact .refl s
  · split
    · exact .decideMove ..
    · exact .refl s

theorem trigger (s : State) (m : MoveTrigger) : KeepsFired s (s.trigger m) := by
  unfold State.trigger
  split
  · exact .refl s
  · split
    · exact .refl s
    · exact .decideTrigger ..

theorem routePulse (s : State) (n : Nat) : KeepsFired s (s.routePulse n) := by
  unfold State.routePulse
  split
  next e o t _ =>
    refine iteInduction (motive := KeepsFired s) (fun _ => ?_) fun _ => .refl s
    extract_lets planned s1 ts
    have hs1 : KeepsFired s s1 := by
      unfold s1
      split
      · exact .resendBarriers s
      · exact .refl s
    refine hs1.trans ?_
    exact .foldl (fun t m => .trigger t m) ts
      { s1 with rt := { s1.rt with entries := { e with met := true } :: o :: t, triggers := [] } }
  · exact .refl s

/-! ### Frames (06 R147 to R151) -/

theorem journalMerge (s : State) (f : RedFrame) : KeepsFired s (s.journalMerge f) := by
  unfold State.journalMerge
  extract_lets p recs s1
  exact (KeepsFired.foldl (fun t r => .journalEntry t ..) recs s).trans (.foldl (fun t e => .journalEntry t ..) _ s1)

theorem enterMerging (s : State) (f : RedFrame) : KeepsFired s (s.enterMerging f) := by
  unfold State.enterMerging
  extract_lets p lagged r done v n s1 s2
  refine .trans ?_ (.enterSlots ..)
  exact .journalMerge (s2.setRed _) f

theorem checkFrame (s : State) (frame : Nat) : KeepsFired s (s.checkFrame frame) := by
  unfold State.checkFrame
  split
  · exact .refl s
  · split
    · exact .enterMerging ..
    · exact .refl s

theorem forceOne (s : State) (f : RedFrame) : KeepsFired s (s.forceOne f) := by
  unfold State.forceOne
  extract_lets added
  refine .trans ?_ (.raise ..)
  refine .trans ?_ (.bumpSat _ Dict.forcedCloses 0 0 1 (by decide))
  exact .enterMerging ..

theorem openFrame (s : State) (frame : Nat) (due : Option Nat) : KeepsFired s (s.openFrame frame due) := by
  unfold State.openFrame
  split
  · exact .refl s
  · extract_lets es p f s1
    have hs1 : KeepsFired s s1 := (KeepsFired.foldl (fun t f => .forceOne t f) _ s).trans (.startOldest ..)
    refine .trans ?_ (.wr _ Dict.redPending _ 0 0 (by decide))
    exact hs1.trans (.checkFrame (s1.setRed _) frame)

theorem framePulse (s : State) (n due : Nat) : KeepsFired s (s.framePulse n due) := by
  unfold State.framePulse
  split
  · exact .refl s
  · extract_lets _ s1
    have hs1 : KeepsFired s s1 := by
      unfold s1
      split <;> exact .refl s
    exact hs1.trans (.openFrame ..)

/-! ### Messages on their way down, and liveness (08 R175, R176, 09 R182) -/

theorem liveMove (s : State) (g new : Nat) : KeepsFired s (s.liveMove g new) := by
  unfold State.liveMove
  extract_lets m silence stall s1 alarm payload s2
  have hs2 : KeepsFired s s2 := by
    unfold s2
    split <;> exact .refl s
  split
  · exact hs2.trans (.raiseAlarm ..)
  · exact hs2.trans (.raiseO ..)

theorem liveSettle (n : Nat) (s : State) (g : Nat) : KeepsFired s (State.liveSettle n s g) := by
  induction n generalizing s with
  | zero => exact .refl s
  | succ n ih =>
    rw [State.liveSettle]
    split
    · exact (KeepsFired.liveMove ..).trans (ih _)
    · exact .refl s

theorem liveUnstall (s : State) (job barrier : Nat) (dies : Option (List Nat)) : KeepsFired s (s.liveUnstall job barrier dies) := by
  unfold State.liveUnstall
  split
  · exact .refl s
  · refine .foldl (fun t g => ?_) _ s
    extract_lets m mine
    split
    · exact (KeepsFired.liveMove ..).trans (.liveSettle ..)
    · exact .refl t

theorem livePulse (s : State) (n : Nat) : KeepsFired s (s.livePulse n) := by
  unfold State.livePulse
  split
  · exact .refl s
  · extract_lets frame check
    refine .foldl (fun t g => ?_) _ s
    unfold check
    extract_lets m
    split
    · exact .refl t
    · exact .liveSettle 3 { t with live := _ } g

theorem sendDown (s : State) (m : DownMsg) (g : Nat) : KeepsFired s (s.sendDown m g) := .enqueue ..

theorem addForward (s : State) (f : Forward) : KeepsFired s (s.addForward f) := .refl s

theorem reissueFor (s : State) (m : DownMsg) (g : Nat) : KeepsFired s (s.reissueFor m g) := by
  unfold State.reissueFor
  extract_lets resync target mr
  clear_value target
  cases target with
  | none => exact .refl s
  | some t =>
    dsimp only
    split
    · exact .refl s
    · exact (KeepsFired.sendDown ..).trans (.addForward ..)

theorem nack (s : State) (m : DownMsg) (g : Nat) : KeepsFired s (s.nack m g) :=
  (KeepsFired.bumpSat s Dict.reissues 0 0 1 (by decide)).trans (.reissueFor ..)

theorem settle (s : State) : KeepsFired s s.settle := .refl s

theorem sendPorts (s : State) (m : DownMsg) (ports : List Nat) : KeepsFired s (s.sendPorts m ports) := by
  unfold State.sendPorts
  extract_lets mm up s1
  refine .trans ?_ (.settle _)
  refine .trans ?_ (.foldl (fun t g => .nack t mm g) _ s1)
  exact (KeepsFired.foldl (fun t g => .sendDown t mm g) up s).trans (.addForward ..)

theorem growTrees (s : State) : KeepsFired s s.growTrees := by
  unfold State.growTrees
  split <;> exact .refl s

theorem sendLeaves (s : State) (m : DownMsg) (ports : List Nat) : KeepsFired s (s.sendLeaves m ports) := by
  refine .foldl (fun t g => ?_) _ s
  split
  · exact .sendPorts ..
  · exact .refl t

theorem fan (s : State) (m : DownMsg) (buddy : Bool) : KeepsFired s (s.fan m buddy) := by
  unfold State.fan
  extract_lets s1 ports
  have hs1 : KeepsFired s s1 := .growTrees s
  split
  · split
    · exact (hs1.trans (.sendPorts ..)).trans (.sendLeaves ..)
    · exact hs1.trans (.sendPorts ..)
  · exact hs1.trans (.sendPorts ..)

theorem syncBar (s : State) : KeepsFired s s.syncBar := by
  unfold State.syncBar
  split
  · exact .refl s
  · refine .trans ?_ (.wr _ Dict.epochBacklog _ 0 0 (by decide))
    refine .trans ?_ (.wr _ Dict.treesActive _ 0 0 (by decide))
    exact .wr s Dict.barriersOpen _ 0 0 (by decide)

theorem noteBcast (s : State) (m : DownMsg) (op : Nat) : KeepsFired s (s.noteBcast m op) := by
  unfold State.noteBcast
  extract_lets put
  split
  · exact .refl s
  · split <;> exact .refl s

theorem actDown (s : State) (m : DownMsg) : KeepsFired s (s.actDown m) := by
  unfold State.actDown
  split
  · extract_lets _ s1
    refine .trans ?_ (.syncBar _)
    refine .trans ?_ (.fan ..)
    exact .liveUnstall s1 ..
  · extract_lets s1 s2
    have hs2 : KeepsFired s s2 := by
      unfold s2
      split
      · exact .noteBcast ..
      · exact .noteBcast ..
    refine .trans ?_ (.syncBar _)
    exact hs2.trans (.fan ..)
  · exact .refl s

/-! ### Barriers and acknowledgements that cover again (09 R181, R196) -/

theorem releaseBarrier (s : State) (b : OpenBarrier) : KeepsFired s (s.releaseBarrier b) := by
  unfold State.releaseBarrier
  extract_lets die s1
  have hs1 : KeepsFired s s1 := by
    unfold s1
    split <;> exact .refl s
  exact hs1.trans (.actDown ..)

theorem checkBarrier (s : State) (b : OpenBarrier) : KeepsFired s (s.checkBarrier b) := by
  unfold State.checkBarrier
  split
  · split
    · exact .releaseBarrier ..
    · exact .refl s
  · split
    · exact .sendBarrier ..
    · exact .refl s

theorem sendUnion (s : State) (u : AckUnion) : KeepsFired s (s.sendUnion u) := by
  unfold State.sendUnion
  extract_lets body bytes s1
  exact .enqueueUp ..

theorem sendCovered (s : State) : KeepsFired s s.sendCovered := by
  unfold State.sendCovered
  split
  · exact .refl s
  · exact .foldl (fun t u => .sendUnion t u) _ s

theorem coverAgain (s : State) : KeepsFired s s.coverAgain := by
  unfold State.coverAgain
  split
  · exact .refl s
  · refine .trans ?_ (.syncBar _)
    refine .trans ?_ (.foldl (fun t b => .checkBarrier t b) _ _)
    exact .sendCovered s

/-! ### Screens, ages and the negative (08 R160, 22 R440, 18 R360) -/

theorem screenDie (s : State) (die : Nat) : KeepsFired s (s.screenDie die) := by
  unfold State.screenDie
  split
  · exact .refl s
  · extract_lets _ s1
    split
    · exact (KeepsFired.raiseO s1 ..).trans (.bumpSat _ Dict.engineFlags 0 0 1 (by decide))
    · exact .refl s

theorem screenPulse (s : State) (n : Nat) : KeepsFired s (s.screenPulse n) := by
  unfold State.screenPulse
  split
  · exact .refl s
  · refine .foldl (fun t e => ?_) _ s
    exact .screenDie t e.1

theorem ageFrames (s : State) (n : Nat) : KeepsFired s (s.ageFrames n) := .refl s

theorem negPulse (s : State) : KeepsFired s s.negPulse := by
  unfold State.negPulse
  split
  · exact .refl s
  · extract_lets seq slot img s1
    exact .stackWrite ..

/-! ### The pulse -/

theorem coreFrame (s : State) (n due : Nat) : KeepsFired s (s.coreFrame n due) := by
  unfold State.coreFrame
  extract_lets s1
  have hs1 : KeepsFired s s1 := by
    refine .trans ?_ (.journalPrograms ..)
    refine .trans ?_ (.reachFrame ..)
    refine .trans ?_ (.verdictPulse _)
    refine .trans ?_ (.engineDecision ..)
    refine .trans ?_ (.capturePulse ..)
    exact .descPulse s.latchObjects
  refine .trans ?_ (.negPulse _)
  refine .trans ?_ (.ageFrames ..)
  refine .trans ?_ (.screenPulse ..)
  refine .trans ?_ (.livePulse ..)
  refine .trans ?_ (.coverAgain _)
  refine .trans ?_ (.framePulse ..)
  exact hs1.trans (.routePulse ..)

end Sys2Proof.Machine.KeepsFired
end

section
/-! The shutter channels' commands (02 R41, R44). -/

namespace Sys2Proof.Machine

open Sys2Proof

/-! ### SHUTTER_APPLY -/

/-- What a write of APPLY does with the staged schedule: its effect and its code. -/
def State.applyStage (c : Nat) (s : State) : State × Nat :=
  let t := nsOfTime80 (s.rd Dict.stageStart c)
  if t * nsUnits < s.time.now + 100000 * nsUnits then (s, 1)
  else
    let pr : Nat × State := if s.periodOk c (s.rd Dict.stagePeriod c) then (s.rd Dict.stagePeriod c, s) else (s.freeVal % 2 ^ 32, s.drawn)
    (pr.2.setChan c { pr.2.chan c with waiting := some { t := t, p := pr.1, b := s.rd Dict.stageBase c } }, 0)

/-- A schedule whose T lies at least 100 µs ahead waits for its time. -/
theorem State.applyStage_ahead {s : State} {c : Nat} (hperiod : s.periodOk c (s.rd Dict.stagePeriod c) = true)
    (htime : s.time.now + 100000 * nsUnits ≤ nsOfTime80 (s.rd Dict.stageStart c) * nsUnits) :
    (s.applyStage c).2 = 0 ∧ Tbl.get? (s.applyStage c).1.shutter c = some { s.chan c with
      waiting := some (Schedule.mk (nsOfTime80 (s.rd Dict.stageStart c)) (s.rd Dict.stagePeriod c) (s.rd Dict.stageBase c)) } := by
  simp only [State.applyStage, if_neg (Nat.not_lt.mpr htime), hperiod, if_true]
  exact ⟨trivial, Tbl.get?_set_same ..⟩

theorem State.applyStage_late {s : State} {c : Nat}
    (htime : nsOfTime80 (s.rd Dict.stageStart c) * nsUnits < s.time.now + 100000 * nsUnits) :
    s.applyStage c = (s, 1) := if_pos htime

/-- A request that is served counts in no object of a channel. -/
theorem State.rd_granted_channel (s : State) {o : Ob} (h : o.idx = 0x1120) (c : Nat) : s.granted.rd o c = s.rd o c := by
  refine s.rd_granted ?_
  unfold Ob.key
  omega

theorem State.periodOk_granted (s : State) (c p : Nat) : s.granted.periodOk c p = s.periodOk c p := by
  simp only [State.periodOk, s.rd_granted_channel (o := Dict.shutterMode) rfl]

/-- The write of APPLY reaches its target. -/
theorem shutterApply_of_serves {dt c : Nat} {rq : Requester} {s u : State} (hu : u = s.elapse dt) (hserves : u.serves Dict.shutterApply c) :
    exec (.shutterApply dt rq c) s = .next ((State.serveCmd rq Dict.shutterApply c (State.applyStage c) u).within s) := by
  subst hu
  exact congrArg Host.Outcome.next (s.asked_of_on dt rq _ _ hserves.1)

/-! ### SHUTTER_FIRE -/

theorem shutterFire_of_due {dt c n due : Nat} {s u : State} (hu : u = s.elapse dt) (hrun : u.inChipReset = false) (hc : c < 8)
    (hdue : u.dueSlot c = some (n, due)) : exec (.shutterFire dt c) s = .next ((u.shutterFire c).within s) := by
  subst hu
  refine (congrArg Host.Outcome.next (s.island_of_on dt _ hrun)).trans ?_
  rw [if_pos hc]

/-- The pulse of channel 0 sets FRAME_NOW, and the core follows it. -/
def State.framed (s : State) (n due : Nat) : State :=
  if ((s.fireSlot 0 due).wr Dict.frameNow n).coreActive then ((s.fireSlot 0 due).wr Dict.frameNow n).coreFrame n due
  else (s.fireSlot 0 due).wr Dict.frameNow n

theorem State.framed_keeps (s : State) (n due : Nat) : KeepsFired ((s.fireSlot 0 due).wr Dict.frameNow n) (s.framed n due) := by
  unfold State.framed
  split
  · exact .coreFrame ..
  · exact .refl _

theorem State.framed_effect (s : State) (n due : Nat) :
    ((s.framed n due).chan 0).next = (s.chan 0).next + 1 ∧
    (s.framed n due).stores Dict.shutterFired 0 0 ((s.rd Dict.shutterFired 0 + 1) % 2 ^ (8 * Dict.shutterFired.ty.bytes)) ∧
    (s.framed n due).stores Dict.frameNow 0 0 (n % 2 ^ 32) := by
  have hkeeps := s.framed_keeps n due
  refine ⟨?_, ?_, ?_⟩
  · rw [hkeeps.chan]
    exact congrArg ShutterChannel.next (s.fireSlot_chan 0 due)
  · refine hkeeps.stores ?_ (by decide)
    exact (s.fireSlot_fired 0 due).of_keeps (P := (· = Dict.shutterFired.key 0 0)) (KeepsObjects.wr _ Dict.frameNow n 0 0 (by decide)) rfl
  · exact hkeeps.stores (State.stores_wr _ Dict.frameNow n 0 0) (by decide)

/-- A slot of channel 1 ends the release it carries. -/
theorem State.firedRelease_effect (s : State) (due : Nat) :
    (((s.fireSlot 1 due).firedRelease).chan 1).next = (s.chan 1).next + 1 ∧
    ((s.fireSlot 1 due).firedRelease).stores Dict.shutterFired 1 0
      ((s.rd Dict.shutterFired 1 + 1) % 2 ^ (8 * Dict.shutterFired.ty.bytes)) := by
  have hfired := s.fireSlot_fired 1 due
  have hchan := (s.fireSlot 1 due).firedRelease_chan
  obtain ⟨_, _, _, h⟩ := (s.fireSlot 1 due).firedRelease_only
  refine ⟨?_, ?_⟩
  · rw [hchan, s.fireSlot_chan]
  · rw [h]
    exact hfired

/-- Channels 2 to 7: no release, no frame. -/
theorem State.fireSlot_out_of_pin (s : State) {c : Nat} (hc : 2 ≤ c) (due : Nat) :
    (s.isDie = true ∨ s.anyReset = false → (s.fireSlot c due).out = .pulse c (s.rd Dict.shutterWidth c) due :: s.out) ∧
    (s.isDie = false → s.anyReset = true → (s.fireSlot c due).out = s.out) := by
  have h0 : c ≠ 0 := by omega
  have h1 : c ≠ 1 := by omega
  rw [s.fireSlot_out, State.pulsed]
  refine ⟨fun hpin => ?_, fun hchip hreset => ?_⟩
  · have hloud : ¬ (c = 0 ∨ (!s.isDie) = true ∧ (c = 1 ∨ s.anyReset = true)) := by
      rcases hpin with hdie | hquiet
      · simp [h0, hdie]
      · simp [h0, h1, hquiet]
    rw [if_neg hloud, if_neg h1]
    rfl
  · rw [if_pos (.inr ⟨by rw [hchip]; rfl, .inr hreset⟩)]

theorem State.shutterFire_frame {s : State} {n due : Nat} (h : s.dueSlot 0 = some (n, due)) : s.shutterFire 0 = s.framed n due := by
  rw [State.shutterFire, h]
  dsimp only
  rw [if_pos rfl, State.framed]

theorem State.shutterFire_release {s : State} {n due : Nat} (h : s.dueSlot 1 = some (n, due)) :
    s.shutterFire 1 = (s.fireSlot 1 due).firedRelease ∨ s.shutterFire 1 = s.fireSlot 1 due := by
  rw [State.shutterFire, h]
  dsimp only
  rw [if_neg Nat.one_ne_zero]
  split
  · exact .inl rfl
  · exact .inr rfl

theorem State.shutterFire_pin {s : State} {c n due : Nat} (hc : 2 ≤ c) (h : s.dueSlot c = some (n, due)) :
    s.shutterFire c = s.fireSlot c due := by
  rw [State.shutterFire, h]
  dsimp only
  rw [if_neg (by omega), if_neg (by omega)]

/-- Each slot advances its channel and is counted. -/
theorem State.shutterFire_counts {s : State} {c n due : Nat} (h : s.dueSlot c = some (n, due)) :
    ((s.shutterFire c).chan c).next = (s.chan c).next + 1 ∧
    (s.shutterFire c).stores Dict.shutterFired c 0 ((s.rd Dict.shutterFired c + 1) % 2 ^ (8 * Dict.shutterFired.ty.bytes)) := by
  have hslot : ((s.fireSlot c due).chan c).next = (s.chan c).next + 1 := by rw [s.fireSlot_chan]
  obtain rfl | rfl | hpin : c = 0 ∨ c = 1 ∨ 2 ≤ c := by omega
  · obtain ⟨hnext, hfired, -⟩ := s.framed_effect n due
    rw [State.shutterFire_frame h]
    exact ⟨hnext, hfired⟩
  · rcases State.shutterFire_release h with heq | heq
    · rw [heq]
      exact s.firedRelease_effect due
    · rw [heq]
      exact ⟨hslot, s.fireSlot_fired 1 due⟩
  · rw [State.shutterFire_pin hpin h]
    exact ⟨hslot, s.fireSlot_fired c due⟩

/-- Settles O29: a staged schedule waits or is late, and a due slot advances its channel, is counted, and names the frame or moves
the pin, whatever the core makes of the frame. -/
theorem shutterCommandsComplete : Obligations.ShutterCommandsComplete := by
  unfold Obligations.ShutterCommandsComplete
  refine ⟨?_, ?_, ?_⟩
  · intro dt rq c s u hu hserves hperiod htime
    have hstart := u.rd_granted_channel (o := Dict.stageStart) rfl c
    have hstage := u.rd_granted_channel (o := Dict.stagePeriod) rfl c
    have hbase := u.rd_granted_channel (o := Dict.stageBase) rfl c
    obtain ⟨hdone, hwaiting⟩ := State.applyStage_ahead (s := u.granted) (c := c) (by rw [hstage, u.periodOk_granted]; exact hperiod)
      (by rw [hstart, u.granted_time]; exact htime)
    rw [hstart, hstage, hbase] at hwaiting
    obtain ⟨hcode, hshutter⟩ := State.serveCmd_of_serves hserves rq (State.applyStage c)
    refine ⟨_, shutterApply_of_serves hu hserves, ?_, ?_⟩
    · rw [State.within_cmdCode, hcode, hdone]
    · rw [State.within_chan, State.chan, hshutter, Tbl.getD, hwaiting]
      rfl
  · intro dt rq c s u hu hserves htime
    have hlate := State.applyStage_late (s := u.granted) (c := c)
      (by rw [u.rd_granted_channel (o := Dict.stageStart) rfl c, u.granted_time]; exact htime)
    obtain ⟨hcode, hshutter⟩ := State.serveCmd_of_serves hserves rq (State.applyStage c)
    refine ⟨_, shutterApply_of_serves hu hserves, ?_, ?_⟩
    · rw [State.within_cmdCode, hcode, hlate]
    · rw [State.within_shutter, hshutter, hlate, u.granted_shutter]
  · intro dt c s u n due hu hrun hc hdue
    obtain ⟨hnext, hfired⟩ := State.shutterFire_counts hdue
    refine ⟨_, shutterFire_of_due hu hrun hc hdue, ?_, hfired.rd_within s,
      fun h0 => ?_, fun hpin hloud => ?_, fun hpin hchip hreset => ?_⟩
    · rw [State.within_chan, hnext]
    · subst h0
      rw [State.shutterFire_frame hdue]
      obtain ⟨-, -, hframe⟩ := u.framed_effect n due
      exact hframe.rd_within s
    · rw [State.within_out, State.shutterFire_pin hpin hdue, (u.fireSlot_out_of_pin hpin due).1 hloud]
    · rw [State.within_out, State.shutterFire_pin hpin hdue, (u.fireSlot_out_of_pin hpin due).2 hchip hreset]

end Sys2Proof.Machine
end

section
/-! Counters, health inputs and clears: what their commands bring about (chapter 03, 04 R93). -/

namespace Sys2Proof.Machine

open Sys2Proof

/-! ### Requests whose effect stands in the counters and the front stage (15 R323) -/

@[simp] theorem State.within_cnt (t s : State) : (t.within s).cnt = t.cnt := rfl

@[simp] theorem State.granted_actionOf (s : State) (key : Nat) : s.granted.actionOf key = s.actionOf key := rfl

/-- A command object whose action completes within the write: beside its code, its action's effect stands, and the response is on its
way. -/
theorem State.serveCmd_answered {u : State} {o : Ob} {m : Nat} (h : u.serves o m) (rq : Requester) (act : State → State × Nat) :
    ∃ t, t = (act u.granted).1.setCode o (act u.granted).2 m ∧ ∃ rs ms qs, State.serveCmd rq o m act u =
      { t with dap := { t.dap with responses := rs }, mb := { t.mb with waiting := ms }, sch := { t.sch with groups := qs } } := by
  rw [State.serveCmd, State.serveWrite_of_serves h]
  exact ⟨_, rfl, State.answerWrite_only ..⟩

/-- A command object whose action takes time, and for which none is in progress: the action begins. -/
theorem State.serveLong_of_serves {u : State} {o : Ob} {m : Nat} (h : u.serves o m) (hidle : u.actionOf (o.key m 0) = none)
    (rq : Requester) (v : Nat) (start : State → State) :
    State.serveLong rq o m v start u = start (u.granted.beginAction rq.src rq.reqId o m) := by
  rw [State.serveLong, State.serveWrite_of_serves h, u.granted_actionOf, hidle]
  rfl

theorem State.serveCmdTableClear_effect {u : State} (h : u.serves Dict.cmdTableClear) (rq : Requester) :
    (u.serveCmdTableClear rq).cmdCode Dict.cmdTableClear = 0 ∧ (u.serveCmdTableClear rq).cnt = { u.cnt with cmds := [] } := by
  obtain ⟨_, rfl, _, _, _, heq⟩ := State.serveCmd_answered h rq (fun s => (s.setCnt { s.cnt with cmds := [] }, 0))
  rw [State.serveCmdTableClear, heq]
  exact ⟨State.cmdCode_setCode_same .., rfl⟩

theorem State.serveDescApply_effect {u : State} (h : u.serves Dict.descApply) (rq : Requester) :
    (u.serveDescApply rq).cmdCode Dict.descApply = 0 ∧ (u.serveDescApply rq).fs = { u.fs with applyDue := true } := by
  obtain ⟨_, rfl, _, _, _, heq⟩ := State.serveCmd_answered h rq (fun s => (s.setFs { s.fs with applyDue := true }, 0))
  rw [State.serveDescApply, heq]
  exact ⟨State.cmdCode_setCode_same .., rfl⟩

/-- CLEAR_EVENTS waits for the next pulse of channel 0, in progress until then. -/
theorem State.serveClearEvents_effect {u : State} (h : u.serves Dict.clearEvents)
    (hidle : u.actionOf (Dict.clearEvents.key 0 0) = none) (rq : Requester) :
    (u.serveClearEvents rq).cmdCode Dict.clearEvents = 0xFF ∧ (u.serveClearEvents rq).cnt = { u.cnt with clearDue := true } := by
  rw [State.serveClearEvents, State.serveLong_of_serves h hidle]
  exact ⟨State.cmdCode_setCode_same .., rfl⟩

theorem cmdTableClear_of_serves {dt : Nat} {rq : Requester} {s u : State} (hu : u = s.elapse dt) (h : u.serves Dict.cmdTableClear) :
    exec (.cmdTableClear dt rq) s = .next ((u.serveCmdTableClear rq).within s) := by
  subst hu
  exact congrArg Host.Outcome.next (s.asked_of_on dt rq _ _ h.1)

theorem clearEvents_of_serves {dt : Nat} {rq : Requester} {s u : State} (hu : u = s.elapse dt) (h : u.serves Dict.clearEvents) :
    exec (.clearEvents dt rq) s = .next ((u.serveClearEvents rq).within s) := by
  subst hu
  exact congrArg Host.Outcome.next (s.asked_of_on dt rq _ _ h.1)

theorem descApply_of_serves {dt : Nat} {rq : Requester} {s u : State} (hu : u = s.elapse dt) (h : u.serves Dict.descApply) :
    exec (.descApply dt rq) s = .next ((u.serveDescApply rq).within s) := by
  subst hu
  exact congrArg Host.Outcome.next (s.asked_of_on dt rq _ _ h.1)

/-! ### Health inputs (03 R56, R57, 19 R391) -/

@[simp] theorem State.hslot_setHslot_same (s : State) (i : Nat) (h : HealthSlot) : (s.setHslot i h).hslot i = h :=
  Tbl.getD_set_same ..

/-- A pulse counts in its slot while the counter is short of its limit. -/
theorem State.strobe_pulse {s : State} {i : Nat} (v : Nat) (hopen : s.healthOpen i (s.hslot i).kind = false)
    (hkind : (s.hslot i).kind = 1) (hcount : (s.hslot i).count < 2 ^ 32 - 1) :
    s.strobe i v = s.setHslot i { s.hslot i with count := (s.hslot i).count + 1 } := by
  simp only [State.strobe, hopen, Bool.false_eq_true, if_false]
  simp only [hkind, eventInc, if_pos hcount, State.reportSat, List.foldl_cons, List.foldl_nil, Bool.false_eq_true, if_false]

/-- A gauge takes a sample. -/
theorem State.strobe_sample {s : State} {i : Nat} (v : Nat) (hopen : s.healthOpen i (s.hslot i).kind = false)
    (hkind : (s.hslot i).kind = 2 ∨ (s.hslot i).kind = 3) : s.strobe i v = s.setHslot i ((s.hslot i).sample v) := by
  simp only [State.strobe, hopen, Bool.false_eq_true, if_false]
  rcases hkind with hkind | hkind <;> simp [hkind]

/-- The crossing takes a value for an input. -/
def State.setCrossing (s : State) (i : Nat) (x : HealthCrossing) : State :=
  { s with pw := { s.pw with crossing := Tbl.set s.pw.crossing i x } }

/-- The crossing gathers a pulse while it holds fewer than 65,535 of them. -/
theorem State.crossStrobe_pulse {s : State} {i : Nat} (v : Nat) (hopen : s.healthOpen i (s.hslot i).kind = false)
    (hkind : (s.hslot i).kind = 1) (hroom : (Tbl.getD s.pw.crossing i {}).pulses < 65535) :
    s.crossStrobe i v = s.setCrossing i { Tbl.getD s.pw.crossing i {} with
      pulses := (Tbl.getD s.pw.crossing i {}).pulses + 1 } := by
  simp only [State.crossStrobe, hopen, Bool.false_eq_true, if_false]
  simp only [hkind, if_pos hroom]
  rfl

/-- A health input outside a reset of the core reaches the counters of a core that is ACTIVE, and the crossing otherwise. -/
theorem healthStrobe_of_running {dt i v : Nat} {s u : State} (hu : u = s.elapse dt) (hrun : u.inReset = false) (hi : i < 64) :
    exec (.healthStrobe dt i v) s =
      .next ((if u.coreActive then u.strobe i (u.healthData i v) else u.crossStrobe i (u.healthData i v)).within s) := by
  subst hu
  have hinput : ¬ (decide (64 ≤ i) || (s.elapse dt).inReset) = true := by simp [hrun, hi]
  exact congrArg (fun t : State => Host.Outcome.next (t.within s)) (if_neg hinput)

end Sys2Proof.Machine
end

section
/-! Captures that waited, drained snapshots, and the clears that follow a capture (03 R55, R58, R67, R73). -/

namespace Sys2Proof.Machine

open Sys2Proof

/-! ### The buffers of a kind -/

@[simp] theorem State.kindOf_setKind_same (s : State) (e : Bool) (k : SnapKind) : (s.setKind e k).kindOf e = k := by
  cases e <;> rfl

@[simp] theorem State.setKind_cnt (s : State) (e : Bool) (k : SnapKind) : (s.setKind e k).cnt = s.cnt := by cases e <;> rfl
@[simp] theorem State.setKind_nowNs (s : State) (e : Bool) (k : SnapKind) : (s.setKind e k).nowNs = s.nowNs := by cases e <;> rfl
@[simp] theorem State.onHeaders_cnt (s : State) (n : Nat) (f : SnapHeader → SnapHeader) : (s.onHeaders n f).cnt = s.cnt := rfl
@[simp] theorem State.drawn_kindOf (s : State) (e : Bool) : s.drawn.kindOf e = s.kindOf e := rfl

/-- What a change of headers leaves of the buffers of a kind: whether a capture waits, how many snapshots are pending, and when the last
capture was. -/
def SnapKind.shape (k : SnapKind) : Bool × Nat × Nat := (k.held.isSome, k.pending.length, k.lastNs)

@[simp] theorem State.onHeaders_shape (s : State) (n : Nat) (f : SnapHeader → SnapHeader) (e : Bool) :
    ((s.onHeaders n f).kindOf e).shape = (s.kindOf e).shape := by
  cases e <;> simp [State.onHeaders, State.kindOf, SnapKind.shape]

@[simp] theorem State.afterCapture_kindOf (s : State) (e e' : Bool) : (s.afterCapture e).kindOf e' = s.kindOf e' := by
  cases e <;> rfl

@[simp] theorem State.afterCapture_clearAfter (s : State) (e : Bool) : (s.afterCapture e).cnt.clearAfter = s.cnt.clearAfter := by
  cases e <;> rfl

@[simp] theorem State.afterCapture_clears (s : State) (e : Bool) : (s.afterCapture e).cnt.clears = s.cnt.clears := by
  cases e <;> rfl

/-! ### Clears (03 R55) -/

@[simp] theorem State.afterDie_kindOf (s : State) (n : Nat) (captured e : Bool) : (s.afterDie n captured).kindOf e = s.kindOf e := by
  unfold State.afterDie
  split_ifs <;> rfl

/-- After the capture of the frame that a CLEAR_EVENTS waits for, every E counter of the classes is empty. -/
theorem State.afterDie_clears {s : State} {n : Nat} (captured : Bool) (h : s.cnt.clearAfter = some n) :
    (s.afterDie n captured).cnt.clearAfter = none ∧ (s.afterDie n captured).cnt.clears = s.cnt.clears + 1 ∧
    ∀ c ∈ (s.afterDie n captured).cnt.cls, c.2.begins = 0 ∧ c.2.ends = 0 ∧ c.2.paired = 0 := by
  rw [State.afterDie, if_pos h]
  refine ⟨rfl, rfl, fun c hc => ?_⟩
  obtain ⟨_, -, rfl⟩ := List.mem_map.mp hc
  exact ⟨rfl, rfl, rfl⟩

/-! ### A capture, and one that waited (03 R58, R67) -/

/-- A capture that overwrites no buffer: one more snapshot is pending, taken now, and the clears of its frame follow it. -/
theorem State.capture_steps (s : State) (e : Bool) (h : SnapHeader) (due span : Nat) (held : Bool) :
    ∃ t, s.capture e h due span held false = (if e then t else t.afterDie h.frame true) ∧
      (t.kindOf e).shape = ((s.kindOf e).held.isSome, (s.kindOf e).pending.length + 1, s.nowNs) ∧
      t.cnt.clearAfter = s.cnt.clearAfter ∧ t.cnt.clears = s.cnt.clears := by
  unfold State.capture
  extract_lets k ns delay upd new k1 tornFrame s1 s2 s3
  have hshape : (s1.kindOf e).shape = (k.held.isSome, k.pending.length + 1, s.nowNs) := by
    rw [State.onHeaders_shape, State.kindOf_setKind_same]
    simp [SnapKind.shape, k1]
  have hcnt : s1.cnt = s.cnt := by simp [s1]
  have htorn : (s2.kindOf e).shape = (s1.kindOf e).shape ∧ s2.cnt = s1.cnt := by
    unfold s2
    generalize tornFrame = torn
    cases torn <;> simp
  refine ⟨s3, rfl, ?_, ?_, ?_⟩
  · simp [s3, htorn, hshape, k]
  · simp [s3, htorn, hcnt]
  · simp [s3, htorn, hcnt]

theorem State.takeHeld_of_free {s : State} {e : Bool} {h : HeldCapture} (hheld : (s.kindOf e).held = some h)
    (hfree : (s.kindOf e).full = false) :
    s.takeHeld e = (s.setKind e { s.kindOf e with held := none }).capture e h.hdr h.due h.span true false := by
  simp only [State.takeHeld, hheld, hfree, Bool.false_eq_true, if_false]

/-- A capture that waited takes place now, and nothing waits any more. -/
theorem State.takeHeld_captures {s : State} {e : Bool} {h : HeldCapture} (hheld : (s.kindOf e).held = some h)
    (hfree : (s.kindOf e).full = false) :
    ((s.takeHeld e).kindOf e).held = none ∧
    ((s.takeHeld e).kindOf e).pending.length = (s.kindOf e).pending.length + 1 ∧ ((s.takeHeld e).kindOf e).lastNs = s.nowNs := by
  obtain ⟨t, heq, hshape, -, -⟩ := (s.setKind e { s.kindOf e with held := none }).capture_steps e h.hdr h.due h.span true
  have hkind : ((s.takeHeld e).kindOf e) = t.kindOf e := by
    rw [State.takeHeld_of_free hheld hfree, heq]
    split_ifs <;> simp
  simpa [SnapKind.shape, hkind] using hshape

/-- The die capture that a CLEAR_EVENTS waits for is followed by the clear. -/
theorem State.takeHeld_clears {s : State} {h : HeldCapture} (hheld : (s.kindOf false).held = some h)
    (hfree : (s.kindOf false).full = false) (hclear : s.cnt.clearAfter = some h.hdr.frame) :
    (s.takeHeld false).cnt.clearAfter = none ∧ (s.takeHeld false).cnt.clears = s.cnt.clears + 1 ∧
    ∀ c ∈ (s.takeHeld false).cnt.cls, c.2.begins = 0 ∧ c.2.ends = 0 ∧ c.2.paired = 0 := by
  obtain ⟨t, heq, -, hafter, hclears⟩ :=
    (s.setKind false { s.kindOf false with held := none }).capture_steps false h.hdr h.due h.span true
  rw [State.setKind_cnt] at hafter hclears
  rw [State.takeHeld_of_free hheld hfree, heq, ← hclears]
  exact State.afterDie_clears true (hafter.trans hclear)

/-! ### A drained snapshot (03 R61, R67, R73) -/

/-- The oldest pending snapshot is drained, and the EMPTY headers right behind it go with it. -/
theorem State.drainOne_drains {s : State} {e : Bool} {p : Snapshot} {rest : List Snapshot} (h : (s.kindOf e).pending = p :: rest) :
    ((s.drainOne e).kindOf e).last = some p ∧
    ∃ more, ((s.drainOne e).kindOf e).drained = (s.kindOf e).drained ++ p :: more ∧
      rest = more ++ ((s.drainOne e).kindOf e).pending := by
  simp only [State.drainOne, h, State.kindOf_setKind_same, SnapKind.settle]
  refine ⟨trivial, rest.takeWhile (·.blank), List.append_assoc .., ?_⟩
  exact (List.prefix_iff_eq_append.mp (List.takeWhile_prefix _)).symm

/-! ### The commands complete -/

theorem heldCapture_of_on {dt : Nat} {e : Bool} {s u : State} (hu : u = s.elapse dt) (hon : u.coreOn = true) :
    exec (.heldCapture dt e) s = .next ((u.takeHeld e).within s) := by
  subst hu
  exact congrArg Host.Outcome.next (s.core_of_on dt _ hon)

theorem snapshotDrained_of_on {dt : Nat} {e : Bool} {s u : State} (hu : u = s.elapse dt) (hon : u.coreOn = true) :
    exec (.snapshotDrained dt e) s = .next ((u.drainOne e).within s) := by
  subst hu
  exact congrArg Host.Outcome.next (s.core_of_on dt _ hon)

/-- Settles O30: the requests act on the tables of a target that serves, a health input reaches its slot or the crossing, and a
capture that waited and a drained snapshot move through the buffers of their kind. -/
theorem counterCommandsComplete : Obligations.CounterCommandsComplete := by
  unfold Obligations.CounterCommandsComplete
  refine ⟨?_, ?_, ?_, ?_, ?_, ?_⟩
  · intro dt rq s u hu hserves
    obtain ⟨hcode, hcnt⟩ := State.serveCmdTableClear_effect hserves rq
    refine ⟨_, cmdTableClear_of_serves hu hserves, hcode, ?_, ?_, ?_⟩ <;> rw [State.within_cnt, hcnt]
  · intro dt i v s u hu hrun hi
    refine ⟨fun hactive hopen hkind hcount => ⟨_, healthStrobe_of_running hu hrun hi, ?_⟩,
      fun hactive hopen hkind => ⟨_, healthStrobe_of_running hu hrun hi, ?_⟩,
      fun hactive hopen hkind hroom => ⟨_, healthStrobe_of_running hu hrun hi, ?_⟩⟩
    · rw [hactive, if_pos rfl, State.strobe_pulse _ hopen hkind hcount]
      exact State.hslot_setHslot_same ..
    · rw [hactive, if_pos rfl, State.strobe_sample _ hopen hkind]
      exact State.hslot_setHslot_same ..
    · rw [hactive, if_neg Bool.false_ne_true, State.crossStrobe_pulse _ hopen hkind hroom]
      exact ⟨rfl, congrArg HealthCrossing.pulses (Tbl.getD_set_same ..)⟩
  · intro dt rq s u hu hserves hidle
    exact ⟨_, clearEvents_of_serves hu hserves, State.serveClearEvents_effect hserves hidle rq⟩
  · intro dt e s u h hu hon hheld hfree
    obtain ⟨hnone, hpending, hlast⟩ := State.takeHeld_captures hheld hfree
    refine ⟨_, heldCapture_of_on hu hon, hnone, hpending, hlast, fun hdie hclear => ?_⟩
    subst hdie
    exact State.takeHeld_clears hheld hfree hclear
  · intro dt e s u p rest hu hon hpending
    exact ⟨_, snapshotDrained_of_on hu hon, State.drainOne_drains hpending⟩
  · intro dt rq s u hu hserves
    exact ⟨_, descApply_of_serves hu hserves, State.serveDescApply_effect hserves rq⟩

end Sys2Proof.Machine
end

section
/-! What messages and journal entries can change, said once: the rules of the shared operations (chapters 13, 14, 17 and 20). -/

namespace Sys2Proof.Machine

open Sys2Proof

/-! ### Objects that no message writes -/

/-- The numbers of the objects below 2809, and elsewhere of those with a subindex from 1 to 0x87: no message, event record or journal
entry writes any of them. -/
abbrev quietObject (k : Nat) : Prop := k < 0x280900 ∨ (1 ≤ k % 256 ∧ k % 256 ≤ 0x87)

/-- `t` has the build, the role and the quiet objects of `s`. -/
abbrev KeepsQuiet : State → State → Prop := KeepsObjects quietObject

namespace KeepsQuiet

theorem recToStack (s : State) (slot : Nat) (r : EventRec) : KeepsQuiet s (s.recToStack slot r) := by
  obtain ⟨_, _, h⟩ := s.recToStack_only slot r
  rw [h]
  exact .refl _ s

theorem writeRecord (s : State) (slot : Nat) (r : EventRec) (alarm unsent child : Bool) :
    KeepsQuiet s (s.writeRecord slot r alarm unsent child) := by
  unfold State.writeRecord State.syncMirror
  dsimp only
  refine .trans ?_ (KeepsObjects.wr _ Dict.mirrorBehind _ 0 0 (by decide))
  refine .trans ?_ (KeepsObjects.bump _ (nextOf r.classF) 0 0 1 (by cases r.classF <;> decide))
  exact recToStack ..

theorem takeSlot {s t : State} {k : Nat} (h : s.takeSlot = some (k, t)) : KeepsQuiet s t := by
  unfold State.takeSlot at h
  simp only at h
  split at h
  · cases h
    exact .refl _ s
  · split at h
    · cases h
    · cases h
      split
      · exact KeepsObjects.bumpSat _ Dict.fOverwritten 0 0 1 (by decide)
      · exact .refl _ s

theorem sendOwnAlarm (s : State) (r : EventRec) (n : Nat) : KeepsQuiet s (s.sendOwnAlarm r n) := by
  unfold State.sendOwnAlarm
  split
  · obtain ⟨_, h⟩ := s.push_only 0x10 r.bytes (some n)
    rw [h]
    exact .refl _ s
  · exact KeepsObjects.wr _ Dict.alarmBufUsed _ 0 0 (by decide)

theorem storeOwn (s : State) (r : EventRec) (alarm : Bool) : KeepsQuiet s (s.storeOwn r alarm) := by
  unfold State.storeOwn
  split
  next => exact .refl _ s
  next k t h =>
    have hwritten (unsent : Bool) : KeepsQuiet s (t.writeRecord k r alarm unsent false) := (takeSlot h).trans (writeRecord ..)
    extract_lets
    split
    · exact hwritten _
    · split
      · exact (hwritten _).trans (KeepsObjects.bumpSat _ Dict.alarmHeld 0 0 1 (by decide))
      · exact (hwritten _).trans (sendOwnAlarm ..)

theorem fold (s : State) (e : Stored) : KeepsQuiet s (s.fold e) := by
  unfold State.fold
  dsimp only
  refine .trans ?_ (KeepsObjects.bumpSat _ Dict.repeatsFolded 0 0 1 (by decide))
  exact recToStack ..

theorem raise (s : State) (classF alarm : Bool) (typ payload : Nat) : KeepsQuiet s (s.raise classF alarm typ payload) := by
  unfold State.raise State.raiseAt
  extract_lets
  split
  · exact fold ..
  · exact storeOwn ..

end KeepsQuiet

/-! ### Messages, entries and records -/

/-- `t` is `s` but for what messages, event records and journal entries change: objects that are not quiet, policed colours, the levels'
byte counters, the recorder, the queues, the pushes, the journal, the stacks and the open values drawn. -/
def MessagedFrom (s t : State) : Prop :=
  (∃ rg dm lv rc sc dp jn st fr, t = { s with
    regs := rg, doms := dm, cnt := { s.cnt with level := lv }, recd := rc, sch := sc, dap := dp, jn := jn, stack := st, free := fr }) ∧
  KeepsQuiet s t

namespace MessagedFrom

theorem refl (s : State) : MessagedFrom s s := ⟨⟨_, _, _, _, _, _, _, _, _, rfl⟩, .refl _ s⟩

theorem trans {s t u : State} (h : MessagedFrom s t) (k : MessagedFrom t u) : MessagedFrom s u := by
  refine ⟨?_, h.2.trans k.2⟩
  obtain ⟨⟨_, _, _, _, _, _, _, _, _, rfl⟩, -⟩ := h
  obtain ⟨⟨_, _, _, _, _, _, _, _, _, rfl⟩, -⟩ := k
  exact ⟨_, _, _, _, _, _, _, _, _, rfl⟩

theorem foldl {α : Type} {f : State → α → State} (hf : ∀ t a, MessagedFrom t (f t a)) (l : List α) (s : State) :
    MessagedFrom s (l.foldl f s) := by
  induction l generalizing s with
  | nil => exact .refl s
  | cons a l ih => exact (hf s a).trans (ih _)

theorem wr (s : State) (o : Ob) (v m j : Nat) (h : ¬ quietObject (o.key m j)) : MessagedFrom s (s.wr o v m j) :=
  ⟨⟨_, _, _, _, _, _, _, _, _, rfl⟩, .wr s o v m j h⟩

theorem bumpSat (s : State) (o : Ob) (m j n : Nat) (h : ¬ quietObject (o.key m j)) : MessagedFrom s (s.bumpSat o m j n) :=
  .wr s o _ m j h

/-- No object changes, and of the rest only what a message or an entry can change. -/
theorem update (s : State) (dm : Tbl Bytes) (lv : Tbl Nat) (rc : Recorder) (sc : Sched) (dp : Dap) (jn : Journal) (st : Memory) (fr : Nat) :
    MessagedFrom s { s with
      doms := dm, cnt := { s.cnt with level := lv }, recd := rc, sch := sc, dap := dp, jn := jn, stack := st, free := fr } :=
  ⟨⟨_, _, _, _, _, _, _, _, _, rfl⟩, .refl _ s⟩

theorem of_queued {s t : State} (h : QueuedFrom s t) : MessagedFrom s t := by
  obtain ⟨_, rfl⟩ := h
  exact .update ..

theorem raise (s : State) (classF alarm : Bool) (typ payload : Nat) : MessagedFrom s (s.raise classF alarm typ payload) := by
  refine ⟨?_, .raise ..⟩
  obtain ⟨_, _, _, _, _, _, _, _, _, h⟩ := RaisedFrom.raise s classF alarm typ payload
  exact ⟨_, _, _, _, _, _, _, _, _, h⟩

theorem enqueue (s : State) (g c : Nat) (f : QFrame) : MessagedFrom s (s.enqueue g c f) := .of_queued (s.enqueue_only g c f)

theorem countStack (s : State) (a n : Nat) (write : Bool) : MessagedFrom s (s.countStack a n write) := .update ..

theorem stackWrite (s : State) (a : Nat) (bs : Bytes) : MessagedFrom s (s.stackWrite a bs) := by
  unfold State.stackWrite
  split
  · exact .refl s
  · exact .update ..

/-! ### Drops and upward traffic (13 R287, R290, 14 R303, R305, R312) -/

theorem endRuns (s : State) (c level die : Nat) : MessagedFrom s (s.endRuns c level die) := by
  unfold State.endRuns
  extract_lets mine
  refine .trans ?_ (.foldl (fun t r => .raise t ..) _ _)
  exact .update ..

/-- DROPS of a class is no quiet object. -/
theorem drops_not_quiet {c : Nat} (g : Nat) (hc : c < 8) : ¬ quietObject (Dict.grpDrops.key g c) := by
  show ¬ quietObject ((0x3000 + g) * 256 + 0x88 + c)
  omega

theorem drop {c : Nat} (hc : c < 8) (s : State) (g level die cseq reason : Nat) : MessagedFrom s (s.drop g c level die cseq reason) := by
  unfold State.drop
  extract_lets joins s1 s2
  have hcounted : MessagedFrom s s1 := .bumpSat s Dict.grpDrops g c 1 (drops_not_quiet g hc)
  split
  · exact hcounted.trans (.update ..)
  · exact (hcounted.trans (.endRuns s1 c level die)).trans (.update ..)

theorem sendRelay (s : State) (g t : Nat) (f : QFrame) : MessagedFrom s (s.sendRelay g t f) := by
  unfold State.sendRelay
  extract_lets pre
  refine .trans ?_ (.foldl (fun u b => .enqueue u t 3 _) _ _)
  exact .bumpSat s Dict.relayed 0 0 1 (by decide)

theorem redirect {c : Nat} (hc : c < 8) (s : State) (g t : Nat) (f : QFrame) : MessagedFrom s (s.redirect g t c f) := by
  unfold State.redirect
  split
  case h_1 =>
    split
    · exact .enqueue ..
    · exact .sendRelay ..
  case h_2 | h_3 => exact .bumpSat s Dict.vectorsLost 0 0 _ (by decide)
  case h_4 | h_5 | h_6 | h_7 => exact .refl s
  case h_8 | h_9 | h_10 | h_11 => exact .drop hc ..
  all_goals exact .enqueue ..

theorem enqueueUp {c : Nat} (hc : c < 8) (s : State) (frame : Nat) (f : QFrame) : MessagedFrom s (s.enqueueUp frame c f) := by
  unfold State.enqueueUp
  split
  · exact .refl s
  · split
    · exact .enqueue ..
    · exact .redirect hc ..

theorem police (s : State) (g c pre b : Nat) : MessagedFrom s (s.police g c pre b).2 := by
  unfold State.police
  split
  · exact .refl s
  · exact .update ..

theorem offer {c : Nat} (hc : c < 8) (s : State) (kind : MsgKind) (body : Bytes) : MessagedFrom s (s.offer c kind body) := by
  unfold State.offer
  split
  · exact .refl s
  next g _ =>
    extract_lets die restart cseq _ s1 size send r
    have hsend (t : State) (colour : Nat) : MessagedFrom t (send t colour) := (MessagedFrom.endRuns ..).trans (.enqueue ..)
    have hs1 : MessagedFrom s s1 := .update ..
    have hpoliced : MessagedFrom s r.2 := hs1.trans (.police s1 g c 0 size)
    split
    · exact hs1.trans (.drop hc s1 ..)
    · split
      · exact hs1.trans (hsend s1 0)
      · split
        · exact hs1.trans (.drop hc s1 ..)
        · split
          · exact hpoliced.trans (.drop hc ..)
          · exact hpoliced.trans (hsend ..)

/-! ### The journal and the history (20 R411 to R421) -/

theorem setRing (s : State) (hist : Bool) (r : ChunkRing) : MessagedFrom s (s.setRing hist r) := by
  cases hist <;> exact .update ..

theorem endDiscards (s : State) (hist : Bool) : MessagedFrom s (s.endDiscards hist) := by
  unfold State.endDiscards
  split
  · exact .refl s
  · exact (MessagedFrom.setRing ..).trans (.raise ..)

theorem lostUpTo (s : State) (hist : Bool) (last : Nat) : MessagedFrom s (s.lostUpTo hist last) := by
  unfold State.lostUpTo
  split
  · exact .wr s _ _ 0 0 (by cases hist <;> decide)
  · exact .refl s

theorem writeRing (s : State) (hist : Bool) (addr : Nat) (bytes : Bytes) : MessagedFrom s (s.writeRing hist addr bytes) := by
  unfold State.writeRing
  extract_lets s1
  have hs1 : MessagedFrom s s1 := .stackWrite ..
  split
  · exact hs1.trans (.update ..)
  · exact hs1

theorem writeChunk (s : State) (kind : Nat) (g : Gather) : MessagedFrom s (s.writeChunk kind g) := by
  unfold State.writeChunk
  extract_lets hist r frames fst lst block bytes size pos base covers next run gone s0 s1 die c
  split
  · refine .trans ?_ (.lostUpTo ..)
    refine .trans ?_ (.bumpSat _ Dict.journalLost 0 0 1 (by decide))
    exact .setRing ..
  · refine .trans ?_ (.writeRing ..)
    refine .trans ?_ (.setRing ..)
    exact (MessagedFrom.endDiscards s hist).trans (.foldl (fun t c => .lostUpTo t hist c.last) gone s0)

theorem closeGather (s : State) (kind : Nat) : MessagedFrom s (s.closeGather kind) := by
  unfold State.closeGather
  split
  · exact .refl s
  · exact .trans (.update ..) (.writeChunk ..)

theorem gatherEntry (kind frame : Nat) (s : State) (body : Bytes) : MessagedFrom s (s.gatherEntry kind frame body) := by
  unfold State.gatherEntry
  extract_lets s1 g
  have hs1 : MessagedFrom s s1 := by
    unfold s1
    split
    · split
      · exact .refl s
      · exact .closeGather ..
    · exact .refl s
  exact hs1.trans (.update ..)

theorem journalEntry (s : State) (kind frame : Nat) (body : Bytes) : MessagedFrom s (s.journalEntry kind frame body) := by
  unfold State.journalEntry
  split
  · exact .refl s
  · exact .foldl (fun t b => .gatherEntry kind frame t b) _ s

theorem sendLeafJournal (s : State) : MessagedFrom s s.sendLeafJournal := by
  unfold State.sendLeafJournal
  split
  · exact .refl s
  · exact .trans (.update ..) (.offer (by decide) ..)

theorem leafEntry (s : State) (kind : Nat) (body : Bytes) : MessagedFrom s (s.leafEntry kind body) := by
  unfold State.leafEntry
  split
  · exact .refl s
  · extract_lets es src s1
    have hs1 : MessagedFrom s s1 := .update ..
    split
    · exact hs1.trans (.sendLeafJournal s1)
    · exact hs1

theorem ownEntry (s : State) (kind frame : Nat) (body : Bytes) : MessagedFrom s (s.ownEntry kind frame body) := by
  unfold State.ownEntry
  split
  · exact .leafEntry ..
  · exact .journalEntry ..

end MessagedFrom

end Sys2Proof.Machine
end

section
/-! What the developer's slots change when a frame reaches their switches (06 R121). -/

namespace Sys2Proof.Machine

open Sys2Proof

/-! ### The stages beside the developer -/

/-- `t` has the snapshots, the front stage, the verdict stage and the reduction of `s`. -/
def KeepsStages (s t : State) : Prop := t.snap = s.snap ∧ t.fs = s.fs ∧ t.ver = s.ver ∧ t.red = s.red

namespace KeepsStages

theorem refl (s : State) : KeepsStages s s := ⟨rfl, rfl, rfl, rfl⟩

theorem trans {s t u : State} (h : KeepsStages s t) (k : KeepsStages t u) : KeepsStages s u := by
  obtain ⟨hsnap, hfs, hver, hred⟩ := h
  obtain ⟨ksnap, kfs, kver, kred⟩ := k
  exact ⟨ksnap.trans hsnap, kfs.trans hfs, kver.trans hver, kred.trans hred⟩

theorem foldl {α : Type} {f : State → α → State} (hf : ∀ t a, KeepsStages t (f t a)) (l : List α) (s : State) :
    KeepsStages s (l.foldl f s) := by
  induction l generalizing s with
  | nil => exact .refl s
  | cons a l ih => exact (hf s a).trans (ih _)

theorem of_messaged {s t : State} (h : MessagedFrom s t) : KeepsStages s t := by
  obtain ⟨⟨_, _, _, _, _, _, _, _, _, rfl⟩, -⟩ := h
  exact .refl s

theorem wr (s : State) (o : Ob) (v m : Nat) : KeepsStages s (s.wr o v m) := .refl s

theorem setDslot (s : State) (k : Nat) (d : DevSlot) : KeepsStages s (s.setDslot k d) := .refl s

theorem bumpSat (s : State) (o : Ob) : KeepsStages s (s.bumpSat o) := .refl s

theorem within (t s : State) : KeepsStages t (t.within s) := .refl t

/-- Open values that are drawn change no stage. -/
theorem draws (n : Nat) (s : State) : KeepsStages s ((List.range n).foldl (fun t _ => t.drawn) s) :=
  .foldl (f := fun t _ => t.drawn) (fun t _ => .refl t) _ s

end KeepsStages

/-! ### A slot reaches its switch frame (06 R121) -/

/-- A slot takes the configuration of its predecessor, which learns of its successor. -/
def State.inherit (s : State) (k f : Nat) : Option Nat → State
  | none => s
  | some q =>
    let c := (((s.wr Dict.slotVkind (s.rd Dict.slotVkind q) k).wr Dict.slotGenMask (s.rd Dict.slotGenMask q) k).wr Dict.slotPipeFirst
      (s.rd Dict.slotPipeFirst q) k).wr Dict.slotPipeCount (s.rd Dict.slotPipeCount q) k
    if s.slotSt q = 3 ∨ s.slotSt q = 4 then c.setDslot q { c.dslot q with successor := some (f, k) } else c

/-- A slot that has taken its predecessor's configuration begins. -/
def State.begun (s : State) (k f : Nat) (pred : Option Nat) : State :=
  ((s.inherit k f pred).setDslot k { s.dslot k with began := true, retired := none }).wr Dict.slotState
    (if s.flag Dict.slotResident k then 3 else 4) k

/-- A switch is the slot's beginning and its SLOT_EVENT entry. -/
theorem State.switchSlot_eq {s : State} {k f : Nat} {pred : Option Nat} (h : (s.dslot k).swap = some (f, pred)) :
    s.switchSlot k = (s.begun k f pred).slotEvent k 0 (pred.getD 0xFF) f (s.dslot k).digest := by
  simp only [State.switchSlot, h, State.begun]
  cases pred <;> rfl

theorem State.switchSlot_begun {s : State} {k f : Nat} {pred : Option Nat} (h : (s.dslot k).swap = some (f, pred)) :
    MessagedFrom (s.begun k f pred) (s.switchSlot k) := by
  rw [State.switchSlot_eq h]
  exact .ownEntry ..

theorem State.switchSlot_idle {s : State} {k : Nat} (h : (s.dslot k).swap = none) : s.switchSlot k = s := by
  simp only [State.switchSlot, h]

/-- A slot is READY, has not begun, and a frame has come to its switch frame. -/
def State.switchDue (s : State) (frame k : Nat) : Bool :=
  match (s.dslot k).swap with
  | some (f, _) => s.slotSt k == 2 && !(s.dslot k).began && frameGe frame f
  | none => false

/-- A slot whose switch is due by a frame is switched. -/
def State.reachSlot (frame : Nat) (s : State) (k : Nat) : State := if s.switchDue frame k then s.switchSlot k else s

theorem State.reachFrame_eq (s : State) (frame : Nat) : s.reachFrame frame = (List.range s.slotCount).foldl (State.reachSlot frame) s := by
  unfold State.reachFrame
  congr 1
  funext t k
  unfold State.reachSlot State.switchDue
  cases (t.dslot k).swap <;> rfl

/-- What every switch of a slot keeps is kept while frames are reached. -/
theorem State.reachFrame_keeps {R : State → State → Prop} (hrefl : ∀ t, R t t) (htrans : ∀ {t u v}, R t u → R u v → R t v)
    (hswitch : ∀ t k, R t (t.switchSlot k)) (s : State) (frame : Nat) : R s (s.reachFrame frame) := by
  rw [State.reachFrame_eq]
  generalize List.range s.slotCount = l
  induction l generalizing s with
  | nil => exact hrefl s
  | cons k l ih =>
    refine htrans ?_ (ih _)
    unfold State.reachSlot
    split
    · exact hswitch s k
    · exact hrefl s

theorem KeepsStages.inherit (s : State) (k f : Nat) (pred : Option Nat) : KeepsStages s (s.inherit k f pred) := by
  unfold State.inherit
  split
  · exact .refl s
  · extract_lets c
    have hc : KeepsStages s c := (((KeepsStages.wr ..).trans (.wr ..)).trans (.wr ..)).trans (.wr ..)
    split
    · exact hc.trans (.setDslot ..)
    · exact hc

theorem KeepsStages.switchSlot (s : State) (k : Nat) : KeepsStages s (s.switchSlot k) := by
  cases h : (s.dslot k).swap with
  | none =>
    rw [State.switchSlot_idle h]
    exact .refl s
  | some e =>
    have hbegun : KeepsStages s (s.begun k e.1 e.2) := (KeepsStages.inherit ..).trans (.trans (.setDslot ..) (.wr ..))
    exact hbegun.trans (.of_messaged (State.switchSlot_begun h))

theorem KeepsStages.reachFrame (s : State) (frame : Nat) : KeepsStages s (s.reachFrame frame) :=
  State.reachFrame_keeps .refl .trans .switchSlot s frame

/-! ### Two states whose slots agree reach a frame alike -/

/-- `t` has the slots and the quiet objects of `s`, among them what the slots are configured to. -/
def SameSlots (s t : State) : Prop := t.dev = s.dev ∧ KeepsQuiet s t

namespace SameSlots

theorem symm {s t : State} (h : SameSlots s t) : SameSlots t s := by
  obtain ⟨hdev, hbuild, hrole, hregs⟩ := h
  exact ⟨hdev.symm, hbuild.symm, hrole.symm, fun k hk => (hregs k hk).symm⟩

theorem trans {s t u : State} (h : SameSlots s t) (k : SameSlots t u) : SameSlots s u := ⟨k.1.trans h.1, h.2.trans k.2⟩

theorem of_messaged {s t : State} (h : MessagedFrom s t) : SameSlots s t := by
  refine ⟨?_, h.2⟩
  obtain ⟨⟨_, _, _, _, _, _, _, _, _, rfl⟩, -⟩ := h
  rfl

section
variable {s t : State} (h : SameSlots s t)
include h

theorem dslot (k : Nat) : t.dslot k = s.dslot k := by rw [State.dslot, State.dslot, h.1]

theorem slotCount : t.slotCount = s.slotCount := by rw [State.slotCount, State.slotCount, State.isDie, State.isDie, h.2.1]

/-- An object of a slot with a subindex from 1 to 0x87 reads the same, whatever number the slot is given. -/
theorem rd {o : Ob} (hsub : 1 ≤ o.sub ∧ o.sub ≤ 0x87) (k : Nat) : t.rd o k = s.rd o k :=
  h.2.rd (by unfold Ob.key; omega)

theorem slotSt (k : Nat) : t.slotSt k = s.slotSt k := h.rd (by decide) k

theorem switchDue (frame k : Nat) : t.switchDue frame k = s.switchDue frame k := by
  simp only [State.switchDue, h.dslot, h.slotSt]

theorem wr (o : Ob) (v m : Nat) : SameSlots (s.wr o v m) (t.wr o v m) := by
  obtain ⟨hdev, hbuild, hrole, hregs⟩ := h
  refine ⟨hdev, hbuild, hrole, fun k hk => ?_⟩
  by_cases he : o.key m 0 = k
  · subst he
    exact (Tbl.get?_set_same ..).trans (Tbl.get?_set_same ..).symm
  · exact (Tbl.get?_set_other _ _ _ _ he).trans ((hregs k hk).trans (Tbl.get?_set_other _ _ _ _ he).symm)

theorem setDslot (k : Nat) (d : DevSlot) : SameSlots (s.setDslot k d) (t.setDslot k d) := by
  refine ⟨?_, h.2⟩
  show { t.dev with slots := Tbl.set t.dev.slots k d } = { s.dev with slots := Tbl.set s.dev.slots k d }
  rw [h.1]

theorem inherit (k f : Nat) (pred : Option Nat) : SameSlots (s.inherit k f pred) (t.inherit k f pred) := by
  cases pred with
  | none => exact h
  | some q =>
    have hc := (((h.wr Dict.slotVkind (s.rd Dict.slotVkind q) k).wr Dict.slotGenMask (s.rd Dict.slotGenMask q) k).wr Dict.slotPipeFirst
      (s.rd Dict.slotPipeFirst q) k).wr Dict.slotPipeCount (s.rd Dict.slotPipeCount q) k
    simp only [State.inherit, h.slotSt, h.rd (o := Dict.slotVkind) (by decide), h.rd (o := Dict.slotGenMask) (by decide),
      h.rd (o := Dict.slotPipeFirst) (by decide), h.rd (o := Dict.slotPipeCount) (by decide)]
    split
    · rw [hc.dslot q]
      exact hc.setDslot ..
    · exact hc

theorem begun (k f : Nat) (pred : Option Nat) : SameSlots (s.begun k f pred) (t.begun k f pred) := by
  unfold State.begun State.flag
  rw [h.dslot, h.rd (by decide)]
  exact ((h.inherit ..).setDslot ..).wr ..

theorem switchSlot (k : Nat) : SameSlots (s.switchSlot k) (t.switchSlot k) := by
  cases hs : (s.dslot k).swap with
  | none =>
    rw [State.switchSlot_idle hs, State.switchSlot_idle ((congrArg DevSlot.swap (h.dslot k)).trans hs)]
    exact h
  | some e =>
    have ht : (t.dslot k).swap = some e := (congrArg DevSlot.swap (h.dslot k)).trans hs
    exact ((of_messaged (State.switchSlot_begun hs)).symm.trans (h.begun k e.1 e.2)).trans (of_messaged (State.switchSlot_begun ht))

theorem reachFrame (frame : Nat) : SameSlots (s.reachFrame frame) (t.reachFrame frame) := by
  rw [State.reachFrame_eq, State.reachFrame_eq, h.slotCount]
  generalize List.range s.slotCount = l
  induction l generalizing s t with
  | nil => exact h
  | cons k l ih =>
    refine ih ?_
    unfold State.reachSlot
    rw [h.switchDue]
    split
    · exact h.switchSlot k
    · exact h

end

end SameSlots

/-! ### Reaching a frame moves no vector -/

/-- Every slot's queue holds the vectors in `t` that it holds in `s`. -/
def KeepsVectors (s t : State) : Prop := ∀ k, (t.dslot k).queue = (s.dslot k).queue

namespace KeepsVectors

theorem refl (s : State) : KeepsVectors s s := fun _ => rfl

theorem trans {s t u : State} (h : KeepsVectors s t) (k : KeepsVectors t u) : KeepsVectors s u := fun j => (k j).trans (h j)

theorem of_messaged {s t : State} (h : MessagedFrom s t) : KeepsVectors s t := fun k =>
  congrArg DevSlot.queue ((SameSlots.of_messaged h).dslot k)

theorem wr (s : State) (o : Ob) (v m : Nat) : KeepsVectors s (s.wr o v m) := fun _ => rfl

theorem setDslot {s : State} {k : Nat} {d : DevSlot} (h : d.queue = (s.dslot k).queue) : KeepsVectors s (s.setDslot k d) := by
  intro j
  by_cases hj : k = j
  · subst hj
    exact (congrArg DevSlot.queue (Tbl.getD_set_same ..)).trans h
  · exact congrArg DevSlot.queue (Tbl.getD_set_other _ _ _ _ _ hj)

theorem inherit (s : State) (k f : Nat) (pred : Option Nat) : KeepsVectors s (s.inherit k f pred) := by
  unfold State.inherit
  split
  · exact .refl s
  · extract_lets c
    split
    · exact .trans (t := c) (.refl s) (.setDslot rfl)
    · exact .refl s

theorem switchSlot (s : State) (k : Nat) : KeepsVectors s (s.switchSlot k) := by
  cases h : (s.dslot k).swap with
  | none =>
    rw [State.switchSlot_idle h]
    exact .refl s
  | some e =>
    have hinherit := KeepsVectors.inherit s k e.1 e.2
    have hset : KeepsVectors (s.inherit k e.1 e.2) ((s.inherit k e.1 e.2).setDslot k { s.dslot k with began := true, retired := none }) :=
      .setDslot (hinherit k).symm
    have hbegun : KeepsVectors s (s.begun k e.1 e.2) := hinherit.trans (hset.trans (.wr _ _ _ _))
    exact hbegun.trans (.of_messaged (State.switchSlot_begun h))

theorem reachFrame (s : State) (frame : Nat) : KeepsVectors s (s.reachFrame frame) :=
  State.reachFrame_keeps .refl .trans .switchSlot s frame

theorem setPw (s : State) (p : Power) : KeepsVectors s (s.setPw p) := .refl s

theorem syncQueue (s : State) (k : Nat) : KeepsVectors s (s.syncQueue k) := by
  unfold State.syncQueue
  extract_lets d s1
  split
  · exact .trans (t := s1) (.refl s) (.setDslot rfl)
  · exact .refl s

end KeepsVectors

end Sys2Proof.Machine
end

section
/-! What a vector's way through the developer's slots changes, and the place it takes in a queue (05 R104 to R109, 06 R122). -/

namespace Sys2Proof.Machine

open Sys2Proof

/-! ### A vector meets one slot (05 R104 to R109) -/

/-- STATE, VKIND, GEN_MASK, PIPE_FIRST and PIPE_COUNT of the slots, by subindex, and DEV_PHASE. -/
abbrev slotObject (k : Nat) : Prop := (1 ≤ k % 256 ∧ k % 256 ≤ 5) ∨ k = 0x212300

/-- `t` is `s` but for what a vector's entry into slot `k` can change: the other slots, every slot's configuration and the stages beside
the developer are as they were. -/
structure EntersSlot (k : Nat) (s t : State) : Prop where
  stages : KeepsStages s t
  objects : KeepsObjects slotObject s t
  others : ∀ j, j ≠ k → t.dslot j = s.dslot j

namespace EntersSlot

variable {k : Nat} {s t u : State}

theorem refl (k : Nat) (s : State) : EntersSlot k s s := ⟨.refl s, .refl _ s, fun _ _ => rfl⟩

theorem trans (h : EntersSlot k s t) (h' : EntersSlot k t u) : EntersSlot k s u :=
  ⟨h.stages.trans h'.stages, h.objects.trans h'.objects, fun j hj => (h'.others j hj).trans (h.others j hj)⟩

theorem of_messaged (h : MessagedFrom s t) : EntersSlot k s t :=
  ⟨.of_messaged h, h.2.mono (by omega), fun j _ => (SameSlots.of_messaged h).dslot j⟩

theorem setDslot (s : State) (k : Nat) (d : DevSlot) : EntersSlot k s (s.setDslot k d) :=
  ⟨.refl s, .refl _ s, fun _ hj => Tbl.getD_set_other _ _ _ _ _ hj.symm⟩

theorem setPw (s : State) (p : Power) : EntersSlot k s (s.setPw p) := ⟨.refl s, .refl _ s, fun _ _ => rfl⟩

theorem syncQueue (s : State) (k : Nat) : EntersSlot k s (s.syncQueue k) := by
  unfold State.syncQueue
  extract_lets d s1
  have hqueued : ¬ slotObject (Dict.slotQueued.key k 0) := by
    show ¬ slotObject ((0x2110 + k) * 256 + 0x0C + 0)
    omega
  have hs1 : EntersSlot k s s1 := ⟨.refl s, .wr s _ _ k 0 hqueued, fun _ _ => rfl⟩
  split
  · exact hs1.trans (.setDslot ..)
  · exact hs1

end EntersSlot

/-- A batch that starts takes no vector from its queue. -/
theorem State.startBatch_keeps (s : State) (k : Nat) : EntersSlot k s (s.startBatch k) ∧ KeepsVectors s (s.startBatch k) := by
  unfold State.startBatch
  extract_lets d s1
  split
  · exact ⟨.refl k s, .refl s⟩
  · have hslot : EntersSlot k s s1 := (EntersSlot.setDslot ..).trans (.syncQueue ..)
    have hqueue : KeepsVectors s s1 := (KeepsVectors.setDslot (d := { d with batch := batchLen 1024 d.queue }) rfl).trans (.syncQueue _ k)
    have hread (b n : Nat) : MessagedFrom s1 (s1.countStack b n false) := .countStack ..
    split
    · split
      · exact ⟨hslot.trans (.of_messaged (hread ..)), hqueue.trans (.of_messaged (hread ..))⟩
      · exact ⟨hslot, hqueue⟩
    · exact ⟨hslot, hqueue⟩

/-- A vector takes its place behind those in the queue. -/
theorem State.enqueueVec_effect (s : State) (k : Nat) (v : DevVec) :
    EntersSlot k s (s.enqueueVec k v) ∧ ((s.enqueueVec k v).dslot k).queue.length = (s.dslot k).queue.length + 1 := by
  unfold State.enqueueVec
  extract_lets d full s0 seen pw s1
  have hs0 : EntersSlot k s s0 := (EntersSlot.setDslot ..).trans (.syncQueue ..)
  have hlen0 : (s0.dslot k).queue.length = (s.dslot k).queue.length + 1 := by
    rw [KeepsVectors.syncQueue _ k, State.dslot, State.setDslot, Tbl.getD_set_same]
    exact List.length_append
  obtain ⟨hbatch, hsame⟩ := State.startBatch_keeps (s0.setPw { s0.pw with queueSeen := s0.pw.queueSeen || seen }) k
  have hs1 : EntersSlot k s s1 := (hs0.trans (.setPw ..)).trans hbatch
  have hqueue : KeepsVectors s0 s1 := (KeepsVectors.setPw s0 _).trans hsame
  have hlen1 : (s1.dslot k).queue.length = (s.dslot k).queue.length + 1 := (congrArg List.length (hqueue k)).trans hlen0
  split
  · have hentry : MessagedFrom s1 (s1.unscoredEntry v k 0) := .journalEntry ..
    exact ⟨hs1.trans (.of_messaged hentry), (congrArg List.length (KeepsVectors.of_messaged hentry k)).trans hlen1⟩
  · exact ⟨hs1, hlen1⟩

theorem EntersSlot.afterRetire (s : State) (kind gen : Nat) (v : DevVec) (k : Nat) : EntersSlot k s (s.afterRetire kind gen v k) := by
  unfold State.afterRetire
  extract_lets d
  split
  · split
    · exact (EntersSlot.setDslot ..).trans (.of_messaged (.journalEntry ..))
    · exact .refl k s
  · exact .refl k s

theorem EntersSlot.enterSlot (kind : Nat) (v : DevVec) (s : State) (k : Nat) : EntersSlot k s (State.enterSlot kind v s k) := by
  unfold State.enterSlot
  split
  · split
    · have hrefused : EntersSlot k s (s.bumpSat Dict.streamRefused) :=
        ⟨.refl s, .bumpSat s Dict.streamRefused 0 0 1 (by decide), fun _ _ => rfl⟩
      exact hrefused.trans (.of_messaged (.journalEntry ..))
    · exact (State.enqueueVec_effect s k v).1
  · exact .afterRetire ..

theorem State.enterSlot_admitted {kind : Nat} {v : DevVec} {s : State} {k : Nat} (hadmits : s.admits k kind v.gen v.frame = true)
    (hopen : s.streamShut k = false) : State.enterSlot kind v s k = s.enqueueVec k v := by
  simp only [State.enterSlot, hadmits, hopen, if_true, Bool.false_eq_true, if_false]

/-! ### A vector meets every slot -/

theorem KeepsStages.enterSlots (s : State) (kind : Nat) (v : DevVec) : KeepsStages s (s.enterSlots kind v) :=
  (KeepsStages.reachFrame ..).trans (.foldl (fun t k => (EntersSlot.enterSlot kind _ t k).stages) _ _)

/-- Whether a slot lets a vector in depends on the slot and its configuration alone. -/
theorem KeepsObjects.admits {s t : State} {k : Nat} (h : KeepsObjects slotObject s t) (hslot : t.dslot k = s.dslot k)
    (kind gen frame : Nat) : t.admits k kind gen frame = s.admits k kind gen frame ∧ t.streamShut k = s.streamShut k := by
  have hrd {o : Ob} (hsub : 1 ≤ o.sub ∧ o.sub ≤ 5) : t.rd o k = s.rd o k := h.rd (by unfold Ob.key; omega)
  have hphase : t.rd Dict.devPhase = s.rd Dict.devPhase := h.rd (by decide)
  simp only [State.admits, State.streamShut, State.matches_, State.slotSt, hslot, hphase, hrd (o := Dict.slotState) (by decide),
    hrd (o := Dict.slotPipeCount) (by decide), hrd (o := Dict.slotVkind) (by decide), hrd (o := Dict.slotGenMask) (by decide), and_self]

/-- Slots other than `k` that a vector meets leave slot `k` and its configuration alone. -/
theorem State.enterSlots_others {k : Nat} (kind : Nat) (v : DevVec) (l : List Nat) (hk : k ∉ l) (s : State) :
    KeepsObjects slotObject s (l.foldl (State.enterSlot kind v) s) ∧ (l.foldl (State.enterSlot kind v) s).dslot k = s.dslot k := by
  induction l generalizing s with
  | nil => exact ⟨.refl _ s, rfl⟩
  | cons j l ih =>
    obtain ⟨hj, hl⟩ : k ≠ j ∧ k ∉ l := by simpa using hk
    obtain ⟨hobjects, hslot⟩ := ih hl (State.enterSlot kind v s j)
    have henter := EntersSlot.enterSlot kind v s j
    exact ⟨henter.objects.trans hobjects, hslot.trans (henter.others k hj)⟩

/-- A vector that a slot admits once its frame is reached takes a place in that slot's queue. -/
theorem State.enterSlots_queue {s : State} {kind k : Nat} {v : DevVec} (hk : k < s.slotCount)
    (hadmits : (s.reachFrame v.frame).admits k kind v.gen v.frame = true) (hopen : (s.reachFrame v.frame).streamShut k = false) :
    ((s.enterSlots kind v).dslot k).queue.length = (s.dslot k).queue.length + 1 := by
  obtain ⟨before, after, hsplit⟩ := List.append_of_mem (List.mem_range.mpr hk)
  have hnodup : (before ++ k :: after).Nodup := hsplit ▸ List.nodup_range
  obtain ⟨hbefore, hafter⟩ : k ∉ before ∧ k ∉ after := by
    have hrest : k ∉ before ++ after := (List.nodup_cons.mp (List.nodup_middle.mp hnodup)).1
    simpa using hrest
  unfold State.enterSlots
  rw [hsplit, List.foldl_append, List.foldl_cons]
  generalize hw : ({ v with vkind := kind } : DevVec) = w
  have hgen : w.gen = v.gen := by rw [← hw]
  have hframe : w.frame = v.frame := by rw [← hw]
  obtain ⟨hobjects, hslot⟩ := State.enterSlots_others kind w before hbefore (s.reachFrame v.frame)
  obtain ⟨hadmits', hopen'⟩ := hobjects.admits hslot kind w.gen w.frame
  rw [hgen, hframe, hadmits] at hadmits'
  rw [(State.enterSlots_others kind w after hafter _).2, State.enterSlot_admitted (by rw [hgen, hframe, hadmits']) (hopen'.trans hopen),
    (State.enqueueVec_effect ..).2, hslot, KeepsVectors.reachFrame]

end Sys2Proof.Machine
end

section
/-! The front stage's die vector and engine vectors: what completing them brings about (04 R76, 07 R139, 14 R308). -/

namespace Sys2Proof.Machine

open Sys2Proof

/-! ### Vectors and records on their way up (07 R139, 14 R308) -/

namespace KeepsStages

theorem countDecim (s : State) : KeepsStages s s.countDecim := .refl s

theorem admitDie (s : State) (frame : Nat) : KeepsStages s (s.admitDie frame).2 := by
  unfold State.admitDie
  split
  · exact .refl s
  next g _ =>
    extract_lets r
    have hpoliced : KeepsStages s r.2 := .of_messaged (.police ..)
    split
    · exact .countDecim s
    · split
      · exact hpoliced.trans (.countDecim _)
      · exact hpoliced

theorem sendDieVector (s : State) (v : FVector) : KeepsStages s (s.sendDieVector v).2 := by
  unfold State.sendDieVector
  extract_lets frame r
  have hadmitted : KeepsStages s r.2 := .admitDie ..
  split
  · exact hadmitted.trans (.of_messaged (.leafEntry ..))
  · exact hadmitted.trans (.of_messaged (.enqueueUp (by decide) ..))

/-- A leaf alone sends its vector. -/
theorem sentByLeaf {s : State} {v : FVector} {r : Bool × State} (hr : r = if s.isDie then s.sendDieVector v else (false, s)) :
    KeepsStages s r.2 := by
  rw [hr]
  split
  · exact .sendDieVector ..
  · exact .refl s

theorem sendLeafRecord (s : State) (r : RedRec) : KeepsStages s (s.sendLeafRecord r) := by
  unfold State.sendLeafRecord
  extract_lets bytes s1
  refine .trans ?_ (.of_messaged (.enqueueUp (by decide) ..))
  split <;> exact .refl s

theorem sendEngines (s : State) (frame : Nat) (all : List FVector) : KeepsStages s (s.sendEngines frame all) := by
  unfold State.sendEngines
  split
  · exact .refl s
  · split
    · exact .refl s
    · extract_lets first vs bytes s1
      have hs1 : KeepsStages s s1 := .of_messaged (.enqueueUp (by decide) ..)
      exact hs1

end KeepsStages

/-! ### The die vector (04 R76) -/

/-- On a core that runs, a core command acts on the state that time has brought about. -/
theorem State.core_from {dt : Nat} {s u : State} (hu : u = s.elapse dt) (hon : u.coreOn = true) (f : State → State) :
    s.core dt f = (f u).within s := by
  rw [hu] at hon ⊢
  exact s.core_of_on dt f hon

theorem dieVectorComplete_of_drained {dt : Nat} {s u : State} {p : Snapshot} {rest : List Snapshot} (hu : u = s.elapse dt)
    (hon : u.coreOn = true) (hdrained : u.snap.die.drained = p :: rest)
    (hroom : u.backPressed 0 (u.rdAtPulse Dict.generation % 16) p.hdr.frame = false) :
    exec (.dieVectorComplete dt) s = .next ((u.completeDie p rest).within s) := by
  refine congrArg Host.Outcome.next ((State.core_from hu hon _).trans ?_)
  simp only [hdrained, hroom, Bool.false_eq_true, if_false]

/-- The die snapshots that are left once the oldest drained one is used up. -/
def State.dieLeft (s : State) (rest : List Snapshot) : State := s.setKind false { s.snap.die with drained := rest }

theorem KeepsStages.dieLeft {s t : State} (h : KeepsStages s t) (rest : List Snapshot) : KeepsStages (s.dieLeft rest) (t.dieLeft rest) := by
  obtain ⟨hsnap, hfs, hver, hred⟩ := h
  refine ⟨?_, hfs, hver, hred⟩
  show { t.snap with die := { t.snap.die with drained := rest } } = { s.snap with die := { s.snap.die with drained := rest } }
  rw [hsnap]

/-- What comes of a die vector once it has been entered and sent: it waits at the verdict stage, and its snapshot becomes the reference of
the next deltas unless it is EMPTY. -/
theorem State.completeDie_steps (s : State) (p : Snapshot) (rest : List Snapshot) :
    ∃ (t : State) (w : VerdictWait) (f : FrontStage), t.snap.die.drained = rest ∧ t.ver.waiting = s.ver.waiting ++ [w] ∧
      w.frame = p.hdr.frame ∧ w.skip = (p.hdr.empty || p.hdr.tornDie) ∧
      f.refDie = (if p.hdr.empty then s.fs.refDie else some p) ∧ s.completeDie p rest = t.setFs f := by
  unfold State.completeDie
  extract_lets r v frame kind skip s1 die s2 s3 slots s4 s5 s6 w ver s7
  have h2 : KeepsStages (s.dieLeft rest) s2 := (KeepsStages.draws 257 s).dieLeft rest
  have h3 : KeepsStages s2 s3 := by
    unfold s3
    split
    · exact .bumpSat ..
    · exact .refl s2
  have h5 : KeepsStages s2 s5 := by
    refine (h3.trans (.enterSlots s3 kind (v.devVec kind))).trans ?_
    unfold s5
    split
    · exact .sendLeafRecord ..
    · exact .of_messaged (.journalEntry ..)
  have h6 : KeepsStages s2 s6.2 := h5.trans (.sentByLeaf (v := v) rfl)
  obtain ⟨hsnap, hfs, hver, -⟩ := h2.trans h6
  refine ⟨s7, w, _, ?_, ?_, rfl, rfl, ?_, rfl⟩
  · exact congrArg (fun n : Snaps => n.die.drained) ((State.setVer_snap ..).trans hsnap)
  · exact congrArg (fun v : VerdictStage => v.waiting ++ [w]) hver
  · exact congrArg (fun f : FrontStage => if p.hdr.empty then f.refDie else some p) ((State.setVer_fs ..).trans hfs)

theorem State.completeDie_effect {s t : State} {p : Snapshot} {rest : List Snapshot} (h : KeepsStages (s.completeDie p rest) t) :
    t.snap.die.drained = rest ∧ t.fs.refDie = (if p.hdr.empty then s.fs.refDie else some p) ∧
    ∃ w : VerdictWait, t.ver.waiting = s.ver.waiting ++ [w] ∧ w.frame = p.hdr.frame ∧ w.skip = (p.hdr.empty || p.hdr.tornDie) := by
  obtain ⟨t', w, f, hdrained, hwaiting, hframe, hskip, href, heq⟩ := s.completeDie_steps p rest
  obtain ⟨hsnap, hfs, hver, -⟩ := h
  rw [heq] at hsnap hfs hver
  refine ⟨?_, ?_, w, ?_, hframe, hskip⟩
  · exact (congrArg (fun n : Snaps => n.die.drained) hsnap).trans hdrained
  · exact (congrArg FrontStage.refDie hfs).trans href
  · exact (congrArg VerdictStage.waiting hver).trans hwaiting

/-! ### The engine vectors (04 R76) -/

theorem engineVectorComplete_of_drained {dt die : Nat} {s u : State} {p : Snapshot} {rest : List Snapshot} (hu : u = s.elapse dt)
    (hon : u.coreOn = true) (hdrained : u.snap.eng.drained = p :: rest) (hengines : p.engines ≠ 0)
    (hheader : Tbl.get? u.fs.headers p.hdr.frame = some die) (hroom : u.backPressed 1 (fieldOf die 66 63) p.hdr.frame = false) :
    exec (.engineVectorComplete dt) s = .next ((u.completeEngine p rest die).within s) := by
  refine congrArg Host.Outcome.next ((State.core_from hu hon _).trans ?_)
  simp only [hdrained, hengines, hheader, hroom, Bool.false_eq_true, if_false]

/-- What comes of an engine vector: it joins the set, or, as the last one, ends it and uses up the snapshot. -/
theorem State.completeEngine_cases (s : State) (p : Snapshot) (rest : List Snapshot) (die : Nat) :
    ∃ v t, KeepsStages (s.setFs { s.fs with refEng := Tbl.set s.fs.refEng s.fs.engSet.length (p.engineRef s.fs.engSet.length) }) t ∧
      s.completeEngine p rest die =
        if p.engines ≤ s.fs.engSet.length + 1 then
          (t.setFs { t.fs with engSet := [], prevEng := (s.fs.engSet ++ [v]).map (·.codes) }).setKind true
            { t.snap.eng with drained := rest }
        else t.setFs { t.fs with engSet := s.fs.engSet ++ [v] } := by
  unfold State.completeEngine
  extract_lets fs e v s1 s2 all last s3 fs3 s4
  have h2 : KeepsStages (s.setFs { s.fs with refEng := Tbl.set s.fs.refEng e (p.engineRef e) }) s2 :=
    (KeepsStages.draws 32 _).trans (.enterSlots ..)
  have h3 : KeepsStages (s.setFs { s.fs with refEng := Tbl.set s.fs.refEng e (p.engineRef e) }) s3 := by
    refine h2.trans ?_
    unfold s3
    split
    · exact .sendEngines ..
    · exact .refl s2
  have hset : s2.fs.engSet = s.fs.engSet := by
    rw [h2.2.1]
    rfl
  have hall : all = s.fs.engSet ++ [v] := congrArg (· ++ [v]) hset
  clear_value v s3 all
  subst hall
  refine ⟨v, s3, h3, ?_⟩
  simp only [last, decide_eq_true_eq]
  rfl

theorem State.completeEngine_joins {s t : State} {p : Snapshot} {rest : List Snapshot} {die : Nat}
    (h : KeepsStages (s.completeEngine p rest die) t) (hmore : s.fs.engSet.length + 1 < p.engines) :
    t.fs.engSet.length = s.fs.engSet.length + 1 ∧ t.snap = s.snap ∧
    t.fs.refEng = Tbl.set s.fs.refEng s.fs.engSet.length (p.engineRef s.fs.engSet.length) := by
  obtain ⟨v, t', ⟨hsnap', hfs', -, -⟩, heq⟩ := s.completeEngine_cases p rest die
  obtain ⟨hsnap, hfs, -, -⟩ := h
  rw [heq, if_neg (by omega)] at hsnap hfs
  rw [hsnap, hfs]
  exact ⟨List.length_append, hsnap', congrArg FrontStage.refEng hfs'⟩

theorem State.completeEngine_ends {s t : State} {p : Snapshot} {rest : List Snapshot} {die : Nat}
    (h : KeepsStages (s.completeEngine p rest die) t) (hlast : p.engines ≤ s.fs.engSet.length + 1) :
    t.fs.engSet = [] ∧ t.fs.refEng = Tbl.set s.fs.refEng s.fs.engSet.length (p.engineRef s.fs.engSet.length) ∧
    t.fs.prevEng.length = s.fs.engSet.length + 1 ∧ t.snap.eng.drained = rest := by
  obtain ⟨v, t', ⟨-, hfs', -, -⟩, heq⟩ := s.completeEngine_cases p rest die
  obtain ⟨hsnap, hfs, -, -⟩ := h
  rw [heq, if_pos hlast] at hsnap hfs
  rw [hsnap, hfs]
  exact ⟨rfl, congrArg FrontStage.refEng hfs', (List.length_map _).trans List.length_append, rfl⟩

/-- Settles O31: what sends a vector on and enters it in the slots leaves the snapshots, the front stage and the verdict stage alone, so
that what completing it writes there stands. -/
theorem frontCommandsComplete : Obligations.FrontCommandsComplete := by
  unfold Obligations.FrontCommandsComplete
  refine ⟨?_, ?_⟩
  · intro dt s u p rest hu hon hdrained hroom
    exact ⟨_, dieVectorComplete_of_drained hu hon hdrained hroom, State.completeDie_effect (.within _ s)⟩
  · intro dt s u p rest die hu hon hdrained hengines hheader hroom
    have hexec := engineVectorComplete_of_drained hu hon hdrained hengines hheader hroom
    exact ⟨fun hmore => ⟨_, hexec, State.completeEngine_joins (.within _ s) hmore⟩,
      fun hlast => ⟨_, hexec, State.completeEngine_ends (.within _ s) hlast⟩⟩

end Sys2Proof.Machine
end

section
/-! Centre records and feature frames at a chip: what they bring about (04 R86 to R88, 14 R309, 20 R413). -/

namespace Sys2Proof.Machine

open Sys2Proof

/-! ### Centre records (04 R86 to R88) -/

/-- On a core that runs, a message of a lane acts on the state that time has brought about. -/
theorem State.fromLane_from {dt : Nat} {s u : State} (hu : u = s.elapse dt) (hon : u.coreOn = true) (p cls : Nat) (i : Instr)
    (f : State → State) : s.fromLane dt p cls i f = (f u).within s := by
  rw [hu] at hon ⊢
  exact s.fromLane_of_on dt p cls i f hon

theorem centreRecord_of_up {dt p : Nat} {c : CentreMsg} {s u : State} (hu : u = s.elapse dt) (hon : u.coreOn = true)
    (hup : u.laneUp p = true) : exec (.centreRecord dt p c) s = .next ((u.touch.takeCentres p c).within s) := by
  refine congrArg Host.Outcome.next ((State.fromLane_from hu hon p 3 _ _).trans ?_)
  simp only [hup, if_true]

theorem State.takeCentres_leaf {s : State} {p : Nat} {c : CentreMsg} (hdie : s.isDie = true) : s.takeCentres p c =
    s.setFs { s.fs with centres :=
      ({ frame := c.frame, level := c.level, entries := c.entries, arrived := s.time.now } :: s.fs.centres).take 64 } := by
  rw [State.takeCentres, if_pos hdie]

/-- A port has a neighbour below it on a tray chip only. -/
theorem State.isDie_eq_false_of_isDown {s : State} {p : Nat} (h : s.isDown p = true) : s.isDie = false := by
  have hchip : (s.build == .trayChip) = true := (Bool.and_eq_true_iff.mp h).1
  rw [State.isDie, eq_of_beq hchip]
  rfl

/-- A frame that is neither SENT nor merged still takes what comes from below. -/
theorem State.notMerging {s : State} {frame : Nat} (hsent : s.isSent frame = false)
    (hopen : ∀ f, s.machine frame = some f → f.merged = none) :
    (s.isSent frame || (match s.machine frame with
      | some f => f.merged.isSome
      | none => false)) = false := by
  rw [hsent]
  cases hmachine : s.machine frame with
  | none => rfl
  | some f => simp [hopen f hmachine]

theorem State.takeCentres_rack {s : State} {p : Nat} {c : CentreMsg} (hdown : s.isDown p = true) (hrole : s.role = .rack)
    (hsent : s.isSent c.frame = false) (hopen : ∀ f, s.machine c.frame = some f → f.merged = none) :
    s.takeCentres p c = s.setRed { s.red with trayCentres := s.red.trayCentres ++
      [(s.groupOf p, { frame := c.frame, level := c.level, entries := c.entries, arrived := s.time.now })] } := by
  have hkeep := State.notMerging hsent hopen
  simp only [State.takeCentres, State.isDie_eq_false_of_isDown hdown, hdown, hrole, Bool.false_eq_true, if_false, if_true, beq_self_eq_true,
    State.keepTrayCentres]
  exact if_neg (Bool.eq_false_iff.mp hkeep)

/-! ### Feature frames at the TRAY (14 R309, 20 R413) -/

theorem featureFrame_of_tray {dt p : Nat} {f : FeatFrame} {s u : State} (hu : u = s.elapse dt) (hon : u.coreOn = true)
    (hup : u.laneUp p = true) (hdown : u.isDown p = true) (hrole : u.role = .tray) :
    exec (.featureFrame dt p f) s = .next
      ((f.vecs.foldl (if f.engine then State.takeEngineVector else State.takeDieVector (u.groupOf p)) u.touch).within s) := by
  refine congrArg Host.Outcome.next ((State.fromLane_from hu hon p 3 _ _).trans ?_)
  have htaken : (!(u.isDown p && u.laneUp p && u.role == .tray)) = false := by
    rw [hup, hdown, hrole]
    rfl
  simp only [htaken, Bool.false_eq_true, if_false]

/-- A die vector of a frame that is still open is held for the tray's centres. -/
theorem State.takeDieVector_held {s : State} {g n : Nat} {v : FVector} (hframe : n = fieldOf v.hdr 127 96) (hsent : s.isSent n = false)
    (hopen : ∀ m, s.machine n = some m → m.merged = none) :
    (State.takeDieVector g s v).red.vecs = s.red.vecs ++
      [{ frame := n, port := g, die := fieldOf v.hdr 95 79, codes := v.codes }] := by
  subst hframe
  unfold State.takeDieVector
  extract_lets frame s1 shut red s2
  obtain ⟨-, -, -, hred⟩ : KeepsStages s s1 := .of_messaged (.journalEntry ..)
  have hshut : shut = false := by
    refine State.notMerging ?_ ?_
    · rw [State.isSent, hred]
      exact hsent
    · rw [State.machine, hred]
      exact hopen
  obtain ⟨-, -, -, hslots⟩ := KeepsStages.enterSlots s2 0 (v.devVec 0)
  rw [hslots, ← hred]
  unfold s2
  rw [hshut]
  rfl

/-- An engine vector changes no stage but the developer. -/
theorem State.takeEngineVector_keeps (s : State) (v : FVector) : KeepsStages s (s.takeEngineVector v) :=
  (KeepsStages.of_messaged (.journalEntry ..)).trans (.enterSlots ..)

/-- An engine vector takes a place in the queue of a slot that admits it; its entry in the history changes nothing that the slots
depend on. -/
theorem State.takeEngineVector_queue {s t : State} (h : SameSlots s t) {v : FVector} {k : Nat} (hk : k < s.slotCount)
    (hadmits : (s.reachFrame (fieldOf v.hdr 127 96)).admits k 1 (fieldOf v.hdr 66 63) (fieldOf v.hdr 127 96) = true)
    (hopen : (s.reachFrame (fieldOf v.hdr 127 96)).streamShut k = false) :
    ((t.takeEngineVector v).dslot k).queue.length = (s.dslot k).queue.length + 1 := by
  have hentry : SameSlots s (t.journalEntry jnEngine (fieldOf v.hdr 127 96) v.bytes) := h.trans (.of_messaged (.journalEntry ..))
  have hreach := hentry.reachFrame (fieldOf v.hdr 127 96)
  obtain ⟨hadmits', hopen'⟩ := (hreach.2.mono (by omega)).admits (hreach.dslot k) 1 (fieldOf v.hdr 66 63) (fieldOf v.hdr 127 96)
  rw [State.takeEngineVector, State.enterSlots_queue (v := v.devVec 1) (hentry.slotCount ▸ hk) (hadmits'.trans hadmits)
    (hopen'.trans hopen), hentry.dslot]

/-- Settles O35: a centre record and a die vector are kept while their frame is open, and an engine vector, once its entry stands in the
history, meets slots that are as they were. -/
theorem featureCommandsComplete : Obligations.FeatureCommandsComplete := by
  unfold Obligations.FeatureCommandsComplete
  refine ⟨?_, ?_, ?_, ?_⟩
  · intro dt p c s u hu hon hup hdie
    refine ⟨_, centreRecord_of_up hu hon hup, ?_⟩
    rw [State.takeCentres_leaf (s := u.touch) hdie]
    rfl
  · intro dt p c s u hu hon hup hdown hrole hsent hopen
    refine ⟨_, centreRecord_of_up hu hon hup, ?_⟩
    rw [State.takeCentres_rack (s := u.touch) hdown hrole hsent hopen]
    rfl
  · intro dt p f v s u n hu hon hup hdown hrole hdie hone hframe hsent hopen
    refine ⟨_, featureFrame_of_tray hu hon hup hdown hrole, ?_⟩
    rw [hdie, hone]
    exact State.takeDieVector_held (s := u.touch) hframe hsent hopen
  · intro dt p f v s u hu hon hup hdown hrole hengine hone
    refine ⟨_, featureFrame_of_tray hu hon hup hdown hrole, ?_⟩
    rw [hengine, hone]
    obtain ⟨-, -, -, hred⟩ := u.touch.takeEngineVector_keeps v
    refine ⟨hred, fun k r hk hr hadmits hopen => ?_⟩
    subst hr
    have htouch : SameSlots u u.touch := ⟨rfl, .refl _ u⟩
    exact State.takeEngineVector_queue htouch hk hadmits hopen

end Sys2Proof.Machine
end

section
/-! Requests for the model slots, and a slot's way out of use: ACTIVATE, UNLOAD, retirement and the phase (06 R119 to R122, R124). -/

namespace Sys2Proof.Machine

open Sys2Proof

/-! ### Slots and their stored objects -/

@[simp] theorem State.within_dslot (t s : State) (k : Nat) : (t.within s).dslot k = t.dslot k := rfl

@[simp] theorem State.dslot_setDslot_same (s : State) (k : Nat) (d : DevSlot) : (s.setDslot k d).dslot k = d := Tbl.getD_set_same ..

/-- Objects whose subindices differ have different numbers, whatever members of theirs are meant. -/
theorem Ob.key_ne_of_sub {o o' : Ob} (hsub : o.sub % 256 ≠ o'.sub % 256) (m m' : Nat) : o.key m 0 ≠ o'.key m' 0 := by
  unfold Ob.key
  omega

/-- What is stored stays when an object of another subindex is written. -/
theorem State.stores.wr_other {s : State} {o o' : Ob} {m v : Nat} (h : s.stores o m 0 v) (hsub : o'.sub % 256 ≠ o.sub % 256) (v' m' : Nat) :
    (s.wr o' v' m').stores o m 0 v := (Tbl.get?_set_other _ _ _ _ (Ob.key_ne_of_sub hsub m' m)).trans h

/-- States with the same slots store the same values in the objects of a slot. -/
theorem SameSlots.stores {s t : State} (h : SameSlots s t) {o : Ob} (hsub : 1 ≤ o.sub ∧ o.sub ≤ 0x87) {k v : Nat} (hv : s.stores o k 0 v) :
    t.stores o k 0 v := hv.of_keeps h.2 (by unfold Ob.key; omega)

/-- A slot that is not EMPTY has its STATE stored. -/
theorem State.stores_slotSt {s : State} {k : Nat} (h : s.slotSt k ≠ 0) : s.stores Dict.slotState k 0 (s.slotSt k) := by
  unfold State.stores
  unfold State.slotSt State.rd Tbl.getD at h ⊢
  cases hreg : Tbl.get? s.regs (Dict.slotState.key k 0) with
  | some v => rfl
  | none =>
    rw [hreg] at h
    exact absurd (by cases s.build <;> rfl) h

/-! ### What a request that is served finds -/

@[simp] theorem State.granted_dslot (s : State) (k : Nat) : s.granted.dslot k = s.dslot k := rfl
@[simp] theorem State.granted_slotCount (s : State) : s.granted.slotCount = s.slotCount := rfl
@[simp] theorem State.granted_scheduled (s : State) (k : Nat) : s.granted.scheduled k = s.scheduled k := rfl

/-- A request that is served counts in no object of the developer. -/
theorem State.rd_granted_developer (s : State) {o : Ob} (h : 0x2110 ≤ o.idx) (k : Nat) : s.granted.rd o k = s.rd o k := by
  refine s.rd_granted ?_
  unfold Ob.key
  omega

@[simp] theorem State.granted_slotSt (s : State) (k : Nat) : s.granted.slotSt k = s.slotSt k := s.rd_granted_developer (by decide) k

@[simp] theorem State.granted_tooLate (s : State) (frame : Nat) : s.granted.tooLate frame = s.tooLate frame := by
  have hschedule : s.granted.schedule 0 = s.schedule 0 := by
    simp only [State.schedule, s.rd_granted_channel (o := Dict.shutterStart) rfl,
      s.rd_granted_channel (o := Dict.shutterPeriod) rfl, s.rd_granted_channel (o := Dict.shutterBase) rfl]
  have hdue : s.granted.frameDue frame = s.frameDue frame := by
    rw [State.frameDue, hschedule]
    rfl
  rw [State.tooLate, State.tooLate, hdue, State.granted_time]

/-- On a core that runs, a request for an object acts on the state that time has brought about. -/
theorem State.asked_from {dt : Nat} {s u : State} (hu : u = s.elapse dt) (hon : u.coreOn = true) (rq : Requester) (r : DapReq)
    (f : State → State) : s.asked dt rq r f = (f u).within s := by
  rw [hu] at hon ⊢
  exact s.asked_of_on dt rq r f hon

/-- A response that leaves changes nothing that the slots depend on. -/
theorem SameSlots.answerWrite (s : State) (rq : Requester) (o : Ob) (m st co : Nat) : SameSlots s (s.answerWrite rq o m st co) := by
  obtain ⟨_, _, _, h⟩ := s.answerWrite_only rq o m st co
  rw [h]
  exact ⟨rfl, .refl _ s⟩

/-- A command object whose action completes within the write: its code is readable, and the slots are as the action leaves them. -/
theorem State.serveCmd_slots {u t : State} {o : Ob} {m code : Nat} {act : State → State × Nat} (h : u.serves o m)
    (hact : act u.granted = (t, code)) (rq : Requester) :
    (State.serveCmd rq o m act u).cmdCode o m = code ∧ SameSlots t (State.serveCmd rq o m act u) := by
  refine ⟨(State.serveCmd_of_serves h rq act).1.trans (congrArg Prod.snd hact), ?_⟩
  rw [State.serveCmd, State.serveWrite_of_serves h, hact]
  exact SameSlots.answerWrite (t.setCode o code m) ..

/-! ### ACTIVATE (06 R120) -/

/-- The slot that an ACTIVATE names as the predecessor. -/
def namedPredecessor (v : Nat) : Option Nat := if v = 0xFF then none else some v

/-- A READY slot whose frame can still be met, and which may score in this phase, takes its switch; a predecessor that is named is in use
and in no other switch. -/
theorem State.activate_accepted {s : State} {k v : Nat} (hready : s.slotSt k = 2) (hidle : s.scheduled k = false)
    (hphase : s.flag Dict.slotResident k = true ∨ s.rd Dict.devPhase ≠ 0) (htime : s.tooLate (s.rd Dict.slotSwapFrame k) = false)
    (hpred : v = 0xFF ∨ v < s.slotCount ∧ (s.slotSt v = 3 ∨ s.slotSt v = 4) ∧ s.scheduled v = false) :
    s.activate k v =
      (s.setDslot k { s.dslot k with swap := some (s.rd Dict.slotSwapFrame k, namedPredecessor v), began := false }, 0) := by
  have hscores : ¬ (s.flag Dict.slotResident k = false ∧ s.rd Dict.devPhase = 0) := by
    rintro ⟨hres, hlive⟩
    rcases hphase with h | h
    · exact Bool.false_ne_true (hres.symm.trans h)
    · exact h hlive
  unfold State.activate namedPredecessor
  extract_lets f pred predBad predSched
  have hgood : predBad = false ∧ predSched = false := by
    by_cases hv : v = 0xFF
    · simp [predBad, predSched, pred, hv]
    · obtain ⟨hlt, hused, hfree⟩ := hpred.resolve_left hv
      simpa [predBad, predSched, pred, hv, hlt, hfree] using Decidable.or_iff_not_imp_left.mp hused
  simp [hgood, hready, hidle, hscores, f, htime, pred]

theorem activate_of_serves {dt k v : Nat} {rq : Requester} {s u : State} (hu : u = s.elapse dt) (h : u.serves Dict.slotActivate k) :
    exec (.activate dt rq k v) s = .next ((u.serveActivate rq k v).within s) :=
  congrArg Host.Outcome.next (State.asked_from hu h.1 ..)

theorem activate_completes {dt k v : Nat} {rq : Requester} {s u : State} (hu : u = s.elapse dt) (hserves : u.serves Dict.slotActivate k)
    (hready : u.slotSt k = 2) (hidle : u.scheduled k = false)
    (hphase : u.flag Dict.slotResident k = true ∨ u.rd Dict.devPhase ≠ 0) (htime : u.tooLate (u.rd Dict.slotSwapFrame k) = false)
    (hpred : v = 0xFF ∨ v < u.slotCount ∧ (u.slotSt v = 3 ∨ u.slotSt v = 4) ∧ u.scheduled v = false) :
    Does (.activate dt rq k v) s (fun t => t.cmdCode Dict.slotActivate k = 0 ∧ (t.dslot k).began = false ∧
      (t.dslot k).swap = some (u.rd Dict.slotSwapFrame k, namedPredecessor v)) := by
  have hframe : u.granted.rd Dict.slotSwapFrame k = u.rd Dict.slotSwapFrame k := u.rd_granted_developer (by decide) k
  have hact := State.activate_accepted (s := u.granted) (k := k) (v := v) (by simpa using hready) hidle
    (by simpa only [State.flag, u.rd_granted_developer (o := Dict.slotResident) (by decide),
      u.rd_granted_developer (o := Dict.devPhase) (by decide)] using hphase)
    (by simpa [hframe] using htime) (by simpa using hpred)
  obtain ⟨hcode, hsame⟩ := State.serveCmd_slots hserves hact rq
  refine ⟨_, activate_of_serves hu hserves, hcode, ?_⟩
  rw [State.within_dslot, State.serveActivate, hsame.dslot k, State.dslot_setDslot_same, hframe]
  exact ⟨rfl, rfl⟩

/-! ### UNLOAD (06 R119) -/

/-- A slot whose load has ended with a result other than OK. -/
def State.loadEnded (s : State) (k code : Nat) : State :=
  let t := (s.wr Dict.slotLoadResult code k).wr Dict.slotState 0 k
  t.setDslot k { t.dslot k with load := none }

/-- Where LOAD_STACK began the load, its action is done as well. -/
theorem SameSlots.loadFails (s : State) (k code : Nat) : SameSlots (s.loadEnded k code) (s.loadFails k code) := by
  unfold State.loadFails
  extract_lets s1 _ s2
  have hended : SameSlots (s.loadEnded k code) s2 := ⟨rfl, .refl _ s2⟩
  split
  · split
    · exact hended
    · exact hended
  · exact hended

/-- A load that ends with a result other than OK leaves the slot EMPTY. -/
theorem State.loadFails_effect (s : State) (k code : Nat) :
    (s.loadFails k code).stores Dict.slotLoadResult k 0 (code % 256) ∧ (s.loadFails k code).stores Dict.slotState k 0 0 ∧
    ((s.loadFails k code).dslot k).load = none := by
  have hsame := SameSlots.loadFails s k code
  have hresult : (s.loadEnded k code).stores Dict.slotLoadResult k 0 (code % 256) :=
    (State.stores_wr s Dict.slotLoadResult code k 0).wr_other (o' := Dict.slotState) (by decide) 0 k
  have hstate : (s.loadEnded k code).stores Dict.slotState k 0 0 :=
    State.stores_wr (s.wr Dict.slotLoadResult code k) Dict.slotState 0 k 0
  refine ⟨hsame.stores (by decide) hresult, hsame.stores (by decide) hstate, ?_⟩
  rw [hsame.dslot, State.loadEnded, State.dslot_setDslot_same]

/-- A slot that goes to EMPTY holds no image, and the objects that describe one read 0. -/
theorem State.slotEmpty_effect (s : State) (k : Nat) :
    (s.slotEmpty k).stores Dict.slotState k 0 0 ∧ (s.slotEmpty k).stores Dict.slotNodes k 0 0 ∧
    ((s.slotEmpty k).dslot k).image = none ∧ ((s.slotEmpty k).dslot k).unloading = false := by
  unfold State.slotEmpty
  extract_lets d used s1 s2
  have hstate1 : s1.stores Dict.slotState k 0 0 := State.stores_wr (s.wr Dict.nodesUsed (s.rd Dict.nodesUsed - used)) Dict.slotState 0 k 0
  have hstate : s2.stores Dict.slotState k 0 0 :=
    (((((hstate1.wr_other (o' := Dict.slotLink) (by decide) 0 k).wr_other (o' := Dict.slotTrees) (by decide) 0 k).wr_other
      (o' := Dict.slotDepth) (by decide) 0 k).wr_other (o' := Dict.slotNodes) (by decide) 0 k).wr_other
      (o' := Dict.slotModelId) (by decide) 0 k).wr_other (o' := Dict.slotResident) (by decide) 0 k
  have hnodes : s2.stores Dict.slotNodes k 0 0 :=
    ((State.stores_wr (((s1.wr Dict.slotLink 0 k).wr Dict.slotTrees 0 k).wr Dict.slotDepth 0 k) Dict.slotNodes 0 k 0).wr_other
      (o' := Dict.slotModelId) (by decide) 0 k).wr_other (o' := Dict.slotResident) (by decide) 0 k
  refine ⟨hstate, hnodes, ?_⟩
  rw [State.dslot_setDslot_same]
  exact ⟨rfl, rfl⟩

theorem MessagedFrom.slotEvent (s : State) (k event pred frame : Nat) (digest : Bytes) :
    MessagedFrom s (s.slotEvent k event pred frame digest) := .ownEntry ..

theorem State.unload_loading {s : State} {k : Nat} (h : s.slotSt k = 1) :
    s.unload k = ((s.loadFails k 8).dropWrite (Dict.slotImage.key k 0), 0) := by
  simp only [State.unload, h]

theorem State.unload_ready {s : State} {k : Nat} (h : s.slotSt k = 2) (hidle : s.scheduled k = false) :
    s.unload k = ((s.slotEvent k 2 0xFF s.frameNow (s.dslot k).digest).slotEmpty k, 0) := by
  simp only [State.unload, h, hidle, Bool.false_eq_true, if_false]

theorem State.unload_inUse {s : State} {k : Nat} (h : s.slotSt k = 3 ∨ s.slotSt k = 4) (hidle : s.scheduled k = false) :
    s.unload k = ((s.setDslot k { s.dslot k with unloading := true }).slotEvent k 2 0xFF s.frameNow (s.dslot k).digest, 0) := by
  rcases h with h | h <;> simp only [State.unload, h, hidle, Bool.false_eq_true, if_false]

theorem unload_of_serves {dt k : Nat} {rq : Requester} {s u : State} (hu : u = s.elapse dt) (h : u.serves Dict.slotUnload k) :
    exec (.unload dt rq k) s = .next ((u.serveUnload rq k).within s) :=
  congrArg Host.Outcome.next (State.asked_from hu h.1 ..)

section
variable {dt k : Nat} {rq : Requester} {s u : State} (hu : u = s.elapse dt) (hserves : u.serves Dict.slotUnload k)
include hu hserves

theorem unload_loading_completes (hstate : u.slotSt k = 1) :
    Does (.unload dt rq k) s (fun t => t.cmdCode Dict.slotUnload k = 0 ∧ t.slotSt k = 0 ∧ t.rd Dict.slotLoadResult k = 8 ∧
      (t.dslot k).load = none) := by
  obtain ⟨hcode, hsame⟩ := State.serveCmd_slots hserves (State.unload_loading (u.granted_slotSt k ▸ hstate)) rq
  obtain ⟨hresult, hempty, hload⟩ := u.granted.loadFails_effect k 8
  refine ⟨_, unload_of_serves hu hserves, hcode, (hsame.stores (by decide) hempty).rd_within s,
    (hsame.stores (by decide) hresult).rd_within s, ?_⟩
  rw [State.within_dslot, State.serveUnload, hsame.dslot]
  exact hload

theorem unload_ready_completes (hstate : u.slotSt k = 2) (hidle : u.scheduled k = false) :
    Does (.unload dt rq k) s (fun t => t.cmdCode Dict.slotUnload k = 0 ∧ t.slotSt k = 0 ∧ (t.dslot k).image = none ∧
      t.rd Dict.slotNodes k = 0) := by
  obtain ⟨hcode, hsame⟩ := State.serveCmd_slots hserves (State.unload_ready (u.granted_slotSt k ▸ hstate) hidle) rq
  obtain ⟨hempty, hnodes, himage, -⟩ :=
    (u.granted.slotEvent k 2 0xFF u.granted.frameNow (u.granted.dslot k).digest).slotEmpty_effect k
  refine ⟨_, unload_of_serves hu hserves, hcode, (hsame.stores (by decide) hempty).rd_within s, ?_,
    (hsame.stores (by decide) hnodes).rd_within s⟩
  rw [State.within_dslot, State.serveUnload, hsame.dslot]
  exact himage

theorem unload_inUse_completes (hstate : u.slotSt k = 3 ∨ u.slotSt k = 4) (hidle : u.scheduled k = false) :
    Does (.unload dt rq k) s (fun t => t.cmdCode Dict.slotUnload k = 0 ∧ t.slotSt k = u.slotSt k ∧ (t.dslot k).unloading = true) := by
  have hgranted : u.granted.slotSt k = 3 ∨ u.granted.slotSt k = 4 := by rwa [u.granted_slotSt k]
  obtain ⟨hcode, hsame⟩ := State.serveCmd_slots hserves (State.unload_inUse hgranted hidle) rq
  have hslots := (SameSlots.of_messaged (.slotEvent ..)).trans hsame
  have hstored : u.granted.stores Dict.slotState k 0 (u.slotSt k) := u.granted_slotSt k ▸ State.stores_slotSt (by omega)
  refine ⟨_, unload_of_serves hu hserves, hcode, (hslots.stores (by decide) hstored).rd_within s, ?_⟩
  rw [State.within_dslot, State.serveUnload, hslots.dslot, State.dslot_setDslot_same]

end

/-! ### A slot that has drained (06 R119, R122) -/

theorem unloadDrained_completes {dt k : Nat} {s u : State} (hu : u = s.elapse dt) (hon : u.coreOn = true) (hunload : (u.dslot k).unloading = true)
    (hqueue : (u.dslot k).queue = []) :
    Does (.unloadDrained dt k) s (fun t => t.slotSt k = 0 ∧ (t.dslot k).image = none ∧ (t.dslot k).unloading = false) := by
  have hdrained : ((u.dslot k).unloading && (u.dslot k).queue.isEmpty) = true := by rw [hunload, hqueue]; rfl
  have hexec : exec (.unloadDrained dt k) s = .next ((u.slotEmpty k).within s) :=
    congrArg Host.Outcome.next ((State.core_from hu hon _).trans (congrArg (State.within · s) (if_pos hdrained)))
  obtain ⟨hstate, -, hslot⟩ := u.slotEmpty_effect k
  exact ⟨_, hexec, hstate.rd_within s, hslot⟩

/-- A predecessor that has retired: READY, with no pipelines, and its successor's switch remembered. -/
def State.retiredSlot (s : State) (k f b : Nat) : State :=
  ((s.wr Dict.slotState 2 k).wr Dict.slotPipeCount 0 k).setDslot k { s.dslot k with successor := none, retired := some (f, b) }

/-- A predecessor in use, with nothing queued and no unload under way, retires at the pulse that ends its hold. -/
theorem State.retireSlot_of_due {s : State} {k f b : Nat} (hsucc : (s.dslot k).successor = some (f, b)) (hqueue : (s.dslot k).queue = [])
    (hstate : s.slotSt k = 3 ∨ s.slotSt k = 4) (hkept : (s.dslot k).unloading = false)
    (hpulse : frameGe s.frameNow ((f + s.rd Dict.swapHold) % 2 ^ 32) = true) :
    s.retireSlot k = (s.retiredSlot k f b).slotEvent k 1 0xFF s.frameNow (s.dslot k).digest := by
  have huse : (s.slotSt k == 3 || s.slotSt k == 4) = true := by simpa using hstate
  have hdue : ((s.slotSt k == 3 || s.slotSt k == 4) && !(s.dslot k).unloading &&
      frameGe s.frameNow ((f + s.rd Dict.swapHold) % 2 ^ 32) && (s.dslot k).queue.isEmpty) = true := by
    rw [huse, hkept, hpulse, hqueue]
    rfl
  simp only [State.retireSlot, hsucc]
  exact if_pos hdue

theorem retire_completes {dt k f b : Nat} {s u : State} (hu : u = s.elapse dt) (hon : u.coreOn = true)
    (hsucc : (u.dslot k).successor = some (f, b)) (hqueue : (u.dslot k).queue = []) (hstate : u.slotSt k = 3 ∨ u.slotSt k = 4)
    (hkept : (u.dslot k).unloading = false) (hpulse : frameGe u.frameNow ((f + u.rd Dict.swapHold) % 2 ^ 32) = true) :
    Does (.retire dt k) s (fun t => t.slotSt k = 2 ∧ t.rd Dict.slotPipeCount k = 0 ∧ (t.dslot k).successor = none ∧
      (t.dslot k).retired = some (f, b)) := by
  have hsame : SameSlots (u.retiredSlot k f b) (u.retireSlot k) := by
    rw [State.retireSlot_of_due hsucc hqueue hstate hkept hpulse]
    exact .of_messaged (.slotEvent ..)
  have hready : (u.retiredSlot k f b).stores Dict.slotState k 0 2 :=
    (State.stores_wr u Dict.slotState 2 k 0).wr_other (o' := Dict.slotPipeCount) (by decide) 0 k
  have hpipes : (u.retiredSlot k f b).stores Dict.slotPipeCount k 0 0 := State.stores_wr (u.wr Dict.slotState 2 k) Dict.slotPipeCount 0 k 0
  refine ⟨_, congrArg Host.Outcome.next (State.core_from hu hon _), (hsame.stores (by decide) hready).rd_within s,
    (hsame.stores (by decide) hpipes).rd_within s, ?_⟩
  rw [State.within_dslot, hsame.dslot, State.retiredSlot, State.dslot_setDslot_same]
  exact ⟨rfl, rfl⟩

/-! ### DEV_PHASE (06 R124) -/

theorem MessagedFrom.phaseChanged (s : State) (old : Nat) : MessagedFrom s (s.phaseChanged old) := by
  unfold State.phaseChanged
  extract_lets v
  split
  · exact .refl s
  · exact (MessagedFrom.raise ..).trans (.journalEntry ..)

theorem State.serveDevPhase_stores {u : State} {v : Nat} (h : u.serves Dict.devPhase) (hv : v ≤ 3) (rq : Requester) :
    (u.serveDevPhase rq v).stores Dict.devPhase 0 0 v := by
  have hwritten : (u.granted.wr Dict.devPhase v).stores Dict.devPhase 0 0 v := by
    have hcut : v % 2 ^ (8 * Dict.devPhase.ty.bytes) = v := Nat.mod_eq_of_lt (by show v < 256; omega)
    have hcutStored := State.stores_wr u.granted Dict.devPhase v 0 0
    rwa [hcut] at hcutStored
  have hchanged := MessagedFrom.phaseChanged (u.granted.wr Dict.devPhase v) (u.granted.rd Dict.devPhase)
  have hsame := (SameSlots.of_messaged hchanged).trans (.answerWrite _ rq Dict.devPhase 0 0 0)
  rw [State.serveDevPhase, State.serveWrite_of_serves h]
  simp only [if_pos hv]
  exact hwritten.of_keeps hsame.2 (by decide)

theorem devPhaseWrite_completes {dt v : Nat} {rq : Requester} {s u : State} (hu : u = s.elapse dt) (hserves : u.serves Dict.devPhase)
    (hv : v ≤ 3) : Does (.devPhaseWrite dt rq v) s (fun t => t.rd Dict.devPhase = v) :=
  ⟨_, congrArg Host.Outcome.next (State.asked_from hu hserves.1 ..), (State.serveDevPhase_stores hserves hv rq).rd_within s⟩

end Sys2Proof.Machine
end

section
/-! Score records: what scoring the oldest vector of a slot leaves of the queues and of VECTORS (05 R110, R111, 08 R172). -/

namespace Sys2Proof.Machine

open Sys2Proof

/-! ### Operations that neither move a vector nor count one -/

/-- The number of VECTORS of a slot, by its subindex. -/
abbrev vectorsObject (n : Nat) : Prop := n % 256 = 0x0D

/-- `t` has the vectors of `s` in its queues and VECTORS of the slots as `s` has them. -/
def KeepsScored (s t : State) : Prop := KeepsVectors s t ∧ KeepsObjects vectorsObject s t

/-- An object of another subindex has no such number. -/
theorem not_vectorsObject {o : Ob} (hsub : o.sub % 256 ≠ 0x0D) (m : Nat) : ¬ vectorsObject (o.key m 0) := by
  unfold Ob.key
  omega

namespace KeepsScored

theorem refl (s : State) : KeepsScored s s := ⟨.refl s, .refl _ s⟩

theorem trans {s t u : State} (h : KeepsScored s t) (k : KeepsScored t u) : KeepsScored s u := ⟨h.1.trans k.1, h.2.trans k.2⟩

theorem of_messaged {s t : State} (h : MessagedFrom s t) : KeepsScored s t := ⟨.of_messaged h, h.2.mono (by omega)⟩

theorem wr (s : State) (o : Ob) (v m : Nat) (hsub : o.sub % 256 ≠ 0x0D) : KeepsScored s (s.wr o v m) :=
  ⟨.wr s o v m, .wr s o v m 0 (not_vectorsObject hsub m)⟩

theorem bump (s : State) (o : Ob) (m n : Nat) (hsub : o.sub % 256 ≠ 0x0D) : KeepsScored s (s.bump o m 0 n) := .wr s o _ m hsub

theorem bumpSat (s : State) (o : Ob) (m : Nat) (hsub : o.sub % 256 ≠ 0x0D) : KeepsScored s (s.bumpSat o m) := .wr s o _ m hsub

theorem setPw (s : State) (p : Power) : KeepsScored s (s.setPw p) := .refl s

theorem wrBytes (s : State) (o : Ob) (bs : Bytes) (m : Nat) : KeepsScored s (s.wrBytes o bs m) := .refl s

theorem setDslot {s : State} {k : Nat} {d : DevSlot} (h : d.queue = (s.dslot k).queue) : KeepsScored s (s.setDslot k d) :=
  ⟨.setDslot h, .refl _ s⟩

theorem syncQueue (s : State) (k : Nat) : KeepsScored s (s.syncQueue k) := by
  unfold State.syncQueue
  extract_lets d s1
  have hs1 : KeepsScored s s1 := .wr s Dict.slotQueued _ k (by decide)
  split
  · exact hs1.trans (.setDslot rfl)
  · exact hs1

theorem startBatch (s : State) (k : Nat) : KeepsScored s (s.startBatch k) := by
  unfold State.startBatch
  extract_lets d s1
  split
  · exact .refl s
  · have hs1 : KeepsScored s s1 := .trans (.setDslot (d := { d with batch := batchLen 1024 d.queue }) rfl) (.syncQueue _ k)
    split
    · split
      · exact hs1.trans (.of_messaged (.countStack ..))
      · exact hs1
    · exact hs1

/-! ### Where a score record goes (05 R111) -/

theorem screenDie (s : State) (die : Nat) : KeepsScored s (s.screenDie die) := by
  unfold State.screenDie
  split
  · exact .refl s
  · extract_lets _ s1
    have hs1 : KeepsScored s s1 := .refl s
    split
    · exact (hs1.trans (.of_messaged (.raise ..))).trans (.bumpSat _ Dict.engineFlags 0 (by decide))
    · exact hs1

theorem screenScore (s : State) (r : ScoreRec) : KeepsScored s (s.screenScore r) := by
  unfold State.screenScore
  split
  · exact .refl s
  · extract_lets die s1 v new put
    have hs1 : KeepsScored s s1 := by
      unfold s1
      split
      · split
        · exact .screenDie ..
        · exact .refl s
      · exact .refl s
    have hput : KeepsScored s (put s1) := hs1
    split
    · exact hs1
    · split
      · exact hput
      · split
        · exact hput
        · exact hs1

theorem sheetScore (s : State) (r : ScoreRec) : KeepsScored s (s.sheetScore r) := by
  unfold State.sheetScore
  split
  · exact .refl s
  · extract_lets frames s1
    split
    · exact .refl s
    · split <;> exact .refl s

theorem deliverScore (s : State) (r : ScoreRec) : KeepsScored s (s.deliverScore r) := by
  unfold State.deliverScore
  extract_lets own waits _ s1 _ s2 t _ s3
  have hs1 : KeepsScored s s1 := by
    unfold s1
    split <;> exact .refl s
  have hs2 : KeepsScored s1 s2 := by
    unfold s2
    split
    · exact .setDslot rfl
    · exact .refl s1
  have hs3 : KeepsScored s2 s3 := by
    unfold s3
    split <;> exact .refl s2
  exact (((hs1.trans hs2).trans hs3).trans (.screenScore ..)).trans (.sheetScore ..)

end KeepsScored

/-! ### The oldest vector of a slot -/

/-- Evaluating a vector changes only which open values have been drawn. -/
theorem KeepsScored.scoreVec (s : State) (k : Nat) (v : DevVec) : KeepsScored s (s.scoreVec k v).2 := by
  unfold State.scoreVec
  extract_lets blank
  split
  · exact .refl s
  · split
    · exact .refl s
    · split
      · exact .refl s
      · split <;> exact .refl s

/-- The oldest vector of a slot has been evaluated and has left the queue. -/
def State.vectorTaken (s : State) (k : Nat) (v : DevVec) (rest : List DevVec) : State :=
  (s.scoreVec k v).2.setDslot k { s.dslot k with queue := rest, batch := (s.dslot k).batch - 1 }

/-- A slot whose predecessor has drained scores its oldest vector: once that has left, VECTORS counts it, and the rest of the scoring
moves no vector and counts none. -/
theorem State.scoreDone_counts {s : State} {k : Nat} {v : DevVec} {rest : List DevVec} (hqueue : (s.dslot k).queue = v :: rest)
    (hfree : s.predBusy k = false) :
    KeepsScored ((((s.vectorTaken k v rest).syncQueue k).startBatch k).bump Dict.slotVectors k) (s.scoreDone k) := by
  unfold State.scoreDone
  extract_lets d
  split
  next hnil => exact absurd (hnil.symm.trans hqueue) (List.cons_ne_nil v rest).symm
  next v' rest' hcons =>
    obtain ⟨rfl, rfl⟩ := List.cons.inj (hcons.symm.trans hqueue)
    rw [if_neg (Bool.eq_false_iff.mp hfree)]
    extract_lets r rd s1 s2 counted _ s3
    have hs2 : KeepsScored (s1.bump Dict.slotVectors k) s2 :=
      (KeepsScored.bump (s1.bump Dict.slotVectors k) Dict.slotDefaultRoutes k rd.routes (by decide)).trans (.wrBytes ..)
    have hs3 : KeepsScored s2 s3 := by
      unfold s3
      split
      · have hslot : KeepsScored s2 (s2.bumpSat Dict.slotUnscored k) := .bumpSat s2 _ k (by decide)
        have hcounted : KeepsScored s2 counted := hslot.trans (.bumpSat _ Dict.unscoredAll 0 (by decide))
        exact hcounted.trans (.setPw counted _)
      · exact .bump s2 Dict.devEvals 0 _ (by decide)
    exact (hs2.trans hs3).trans (.deliverScore ..)

theorem State.scoreDone_effect {s : State} {k : Nat} {v : DevVec} {rest : List DevVec} (hqueue : (s.dslot k).queue = v :: rest)
    (hfree : s.predBusy k = false) :
    ((s.scoreDone k).dslot k).queue = rest ∧
    (s.scoreDone k).stores Dict.slotVectors k 0 ((s.rd Dict.slotVectors k + 1) % 2 ^ (8 * Dict.slotVectors.ty.bytes)) := by
  have hkey : vectorsObject (Dict.slotVectors.key k 0) := by
    show ((0x2110 + k) * 256 + 0x0D + 0) % 256 = 0x0D
    omega
  have htaken : ((s.vectorTaken k v rest).dslot k).queue = rest := by rw [State.vectorTaken, State.dslot_setDslot_same]
  have hobjects : KeepsObjects vectorsObject s (s.vectorTaken k v rest) := (KeepsScored.scoreVec s k v).2
  have hbatch : KeepsScored (s.vectorTaken k v rest) (((s.vectorTaken k v rest).syncQueue k).startBatch k) :=
    (KeepsScored.syncQueue ..).trans (.startBatch ..)
  have hdone := State.scoreDone_counts hqueue hfree
  generalize ((s.vectorTaken k v rest).syncQueue k).startBatch k = t at hbatch hdone
  have hcount : t.rd Dict.slotVectors k = s.rd Dict.slotVectors k := (hobjects.trans hbatch.2).rd hkey
  refine ⟨((hdone.1 k).trans (hbatch.1 k)).trans htaken, ?_⟩
  rw [← hcount]
  exact (State.stores_wr t Dict.slotVectors _ k 0).of_keeps hdone.2 hkey

theorem scoreRecordComplete_completes {dt k : Nat} {s u : State} {v : DevVec} {rest : List DevVec} (hu : u = s.elapse dt)
    (hon : u.coreOn = true) (hk : k < u.slotCount) (hqueue : (u.dslot k).queue = v :: rest) (hfree : u.predBusy k = false) :
    Does (.scoreRecordComplete dt k) s (fun t => (t.dslot k).queue = rest ∧
      t.rd Dict.slotVectors k = (u.rd Dict.slotVectors k + 1) % 2 ^ (8 * Dict.slotVectors.ty.bytes)) := by
  have hexec : exec (.scoreRecordComplete dt k) s = .next ((u.scoreDone k).within s) :=
    congrArg Host.Outcome.next ((State.core_from hu hon _).trans (congrArg (State.within · s) (if_pos hk)))
  obtain ⟨hrest, hvectors⟩ := State.scoreDone_effect hqueue hfree
  exact ⟨_, hexec, hrest, hvectors.rd_within s⟩

/-- Settles O33: a request acts on the slots of a target that serves, and its SLOT_EVENT entry and its response leave them alone; what a
slot's score record sets off leaves the queues and VECTORS alone. -/
theorem slotCommandsComplete : Obligations.SlotCommandsComplete := by
  unfold Obligations.SlotCommandsComplete
  refine ⟨?_, ?_, ?_, ?_, ?_, ?_⟩
  · intro dt rq k s u hu hserves hready hidle hphase htime
    refine ⟨activate_completes hu hserves hready hidle hphase htime (.inl rfl), fun q hq hused hfree => ?_⟩
    have hnamed : namedPredecessor q = some q := if_neg (by unfold State.slotCount at hq; split at hq <;> omega)
    rw [← hnamed]
    exact activate_completes hu hserves hready hidle hphase htime (.inr ⟨hq, hused, hfree⟩)
  · intro dt rq k s u hu hserves
    exact ⟨unload_loading_completes hu hserves, unload_ready_completes hu hserves, unload_inUse_completes hu hserves⟩
  · intro dt k s u hu hon hunload hqueue
    exact unloadDrained_completes hu hon hunload hqueue
  · intro dt k s u f b hu hon hsucc hqueue hstate hkept hpulse
    exact retire_completes hu hon hsucc hqueue hstate hkept hpulse
  · intro dt k s u v rest hu hon hk hqueue hfree
    exact scoreRecordComplete_completes hu hon hk hqueue hfree
  · intro dt rq v s u hu hserves hv
    exact devPhaseWrite_completes hu hserves hv

end Sys2Proof.Machine
end

section
/-! The stacks' memory: what a write puts there, and what it leaves as it was (21 R431). -/

namespace Sys2Proof.Machine

open Sys2Proof

/-! ### Cells -/

/-- Cells at other addresses, in front, say nothing about an address. -/
theorem cellAt_append_right {c d : List Host.Cell} {x : Nat} (h : ∀ e ∈ c, e.1 ≠ x) : cellAt (c ++ d) x = cellAt d x := by
  induction c with
  | nil => rfl
  | cons e c ih =>
    rw [List.cons_append, cellAt, if_neg (h e List.mem_cons_self)]
    exact ih fun e he => h e (List.mem_cons_of_mem _ he)

theorem cellAt_of_unlisted {c : List Host.Cell} {x : Nat} (h : ∀ e ∈ c, e.1 ≠ x) : cellAt c x = stackDefault := by
  rw [← List.append_nil c, cellAt_append_right h, cellAt]

/-- Cells at other addresses, behind, say nothing about an address. -/
theorem cellAt_append_left {c d : List Host.Cell} {x : Nat} (h : ∀ e ∈ d, e.1 ≠ x) : cellAt (c ++ d) x = cellAt c x := by
  induction c with
  | nil => exact cellAt_of_unlisted h
  | cons e c ih => rw [List.cons_append, cellAt, cellAt, ih]

/-- A selection that keeps the cells of an address keeps its value. -/
theorem cellAt_filter {p : Host.Cell → Bool} {x : Nat} (hp : ∀ e : Host.Cell, e.1 = x → p e = true) (c : List Host.Cell) :
    cellAt (c.filter p) x = cellAt c x := by
  induction c with
  | nil => rfl
  | cons e c ih =>
    rw [List.filter_cons, cellAt]
    by_cases he : e.1 = x
    · rw [if_pos (hp e he), if_pos he, cellAt, if_pos he]
    · rw [if_neg he, ← ih]
      split
      · rw [cellAt, if_neg he]
      · rfl

theorem cellsOf_above (bs : Bytes) (a : Nat) : ∀ e ∈ cellsOf a bs, a ≤ e.1 := by
  induction bs generalizing a with
  | nil => exact fun e he => nomatch he
  | cons b bs ih =>
    have hrest : ∀ e ∈ cellsOf (a + 1) bs, a ≤ e.1 := fun e he => Nat.le_of_succ_le (ih (a + 1) e he)
    rw [cellsOf]
    split
    · exact hrest
    · exact List.forall_mem_cons.mpr ⟨le_rfl, hrest⟩

/-- The cells of a byte string hold its bytes, those that equal the unlisted value being left out. -/
theorem cellAt_cellsOf (bs : Bytes) (a i : Nat) (hi : i < bs.length) : cellAt (cellsOf a bs) (a + i) = bs[i] := by
  induction bs generalizing a i with
  | nil => exact absurd hi (Nat.not_lt_zero i)
  | cons b bs ih =>
    cases i with
    | zero =>
      rw [cellsOf]
      split
      next hb =>
        exact (cellAt_of_unlisted fun e he => (Nat.lt_of_succ_le (cellsOf_above bs (a + 1) e he)).ne').trans hb.symm
      next => exact if_pos rfl
    | succ i =>
      have hrest : cellAt (cellsOf (a + 1) bs) (a + (i + 1)) = bs[i]'(Nat.lt_of_succ_lt_succ hi) := by
        rw [← ih (a + 1) i (Nat.lt_of_succ_lt_succ hi), Nat.add_right_comm, Nat.add_assoc]
      rw [cellsOf]
      split
      · exact hrest
      · rw [cellAt, if_neg (by omega)]
        exact hrest

/-- Within a written range its bytes are listed. -/
theorem cellAt_writeCells_inside (c : List Host.Cell) (a : Nat) (bs : Bytes) (i : Nat) (hi : i < bs.length) :
    cellAt (writeCells c a bs) (a + i) = bs[i] := by
  rw [writeCells, cellAt_append_left, cellAt_append_right, cellAt_cellsOf bs a i hi]
  · intro e he
    have : e.1 < a := by simpa using (List.mem_filter.mp he).2
    omega
  · intro e he
    have : a + bs.length ≤ e.1 := by simpa using (List.mem_filter.mp he).2
    omega

/-- Outside a written range the cells stay. -/
theorem cellAt_writeCells_outside (c : List Host.Cell) {a x : Nat} {bs : Bytes} (hx : x < a ∨ a + bs.length ≤ x) :
    cellAt (writeCells c a bs) x = cellAt c x := by
  have hnew : ∀ e ∈ cellsOf a bs, e.1 ≠ x := fun e he => by
    have := cellsOf_above bs a e he
    have := cellsOf_below bs a e he
    omega
  rcases hx with hx | hx
  · have hhigh : ∀ e ∈ c.filter (fun e => decide (a + bs.length ≤ e.1)), e.1 ≠ x := fun e he => by
      have : a + bs.length ≤ e.1 := by simpa using (List.mem_filter.mp he).2
      omega
    rw [writeCells, cellAt_append_left hhigh, cellAt_append_left hnew]
    exact cellAt_filter (fun e he => by simpa [he] using hx) c
  · have hlow : ∀ e ∈ c.filter (fun e => decide (e.1 < a)), e.1 ≠ x := fun e he => by
      have : e.1 < a := by simpa using (List.mem_filter.mp he).2
      omega
    rw [writeCells, List.append_assoc, cellAt_append_right hlow, cellAt_append_right hnew]
    exact cellAt_filter (fun e he => by simpa [he] using hx) c

/-! ### Open regions (00 R6) -/

/-- A region covers an address. -/
def OpenRegion.covers (x : Nat) (r : OpenRegion) : Bool := decide (r.lo ≤ x) && decide (x < r.hi)

/-- The seed of the first region that covers an address. -/
def openSeed (regions : List OpenRegion) (x : Nat) : Option Nat := (regions.find? (OpenRegion.covers x)).map (·.seed)

theorem openSeed_append (rs qs : List OpenRegion) (x : Nat) : openSeed (rs ++ qs) x = (openSeed rs x).or (openSeed qs x) := by
  rw [openSeed, List.find?_append, Option.map_or]
  rfl

/-- A byte is the open value of its region, or what the cells list. -/
theorem Memory.read_eq (m : Memory) (x : Nat) :
    m.read x = ((openSeed m.regions x).map (Config.freeByte · x)).getD (cellAt m.cells x) := by
  have hcovers : (fun r : OpenRegion => decide (r.lo ≤ x) && decide (x < r.hi)) = OpenRegion.covers x := rfl
  rw [Memory.read, hcovers, openSeed]
  cases m.regions.find? (OpenRegion.covers x) <;> rfl

/-- No part of a region that a write leaves covers a written address. -/
theorem openSeed_carveOpen_inside (rs : List OpenRegion) {a n x : Nat} (hx : a ≤ x ∧ x < a + n) :
    openSeed (carveOpen rs a n) x = none := by
  rw [openSeed, List.find?_eq_none.mpr]
  · rfl
  · intro q hq
    obtain ⟨r, -, hpart⟩ := List.mem_flatMap.mp hq
    unfold OpenRegion.covers
    split at hpart
    next hapart =>
      rw [List.mem_singleton.mp hpart]
      simp only [Bool.or_eq_true, Bool.and_eq_true, decide_eq_true_eq] at hapart ⊢
      omega
    next =>
      simp only [Bool.and_eq_true, decide_eq_true_eq]
      rcases List.mem_append.mp hpart with hlow | hhigh
      · obtain ⟨-, rfl⟩ : r.lo < a ∧ q = { r with hi := a } := by simpa using hlow
        dsimp only
        omega
      · obtain ⟨-, rfl⟩ : a + n < r.hi ∧ q = { r with lo := a + n } := by simpa using hhigh
        dsimp only
        omega

theorem openSeed_singleton (r : OpenRegion) (x : Nat) : openSeed [r] x = if r.lo ≤ x ∧ x < r.hi then some r.seed else none := by
  unfold openSeed
  by_cases h : r.lo ≤ x ∧ x < r.hi <;> simp [OpenRegion.covers, h]

/-- A part that a write may leave counts where there is one. -/
theorem openSeed_part (c : Prop) [Decidable c] (r : OpenRegion) (x : Nat) :
    openSeed (if c then [r] else []) x = if c ∧ r.lo ≤ x ∧ x < r.hi then some r.seed else none := by
  by_cases hc : c
  · simp only [hc, if_true, true_and, openSeed_singleton]
  · simp only [hc, if_false, false_and]
    rfl

/-- The parts of a region that a write leaves cover the addresses outside the written range that the region covered. -/
theorem openSeed_carveOpen_singleton (r : OpenRegion) {a n x : Nat} (hx : x < a ∨ a + n ≤ x) :
    openSeed (carveOpen [r] a n) x = openSeed [r] x := by
  rw [carveOpen, List.flatMap_singleton]
  split
  next => rfl
  next hmeets =>
    simp only [Bool.or_eq_true, decide_eq_true_eq, not_or, Nat.not_le] at hmeets
    rw [openSeed_append, openSeed_part, openSeed_part, openSeed_singleton]
    dsimp only
    rcases hx with hx | hx
    · rw [if_neg (c := a + n < r.hi ∧ a + n ≤ x ∧ x < r.hi) (by omega), Option.or_none]
      exact if_congr (by omega) rfl rfl
    · rw [if_neg (c := r.lo < a ∧ r.lo ≤ x ∧ x < a) (by omega), Option.none_or]
      exact if_congr (by omega) rfl rfl

theorem openSeed_carveOpen_outside (rs : List OpenRegion) {a n x : Nat} (hx : x < a ∨ a + n ≤ x) :
    openSeed (carveOpen rs a n) x = openSeed rs x := by
  induction rs with
  | nil => rfl
  | cons r rs ih =>
    have hcons : carveOpen (r :: rs) a n = carveOpen [r] a n ++ carveOpen rs a n := by simp [carveOpen]
    rw [hcons, openSeed_append, openSeed_carveOpen_singleton r hx, ih]
    exact (openSeed_append [r] rs x).symm

/-! ### Reading what was written -/

theorem Memory.read_write_inside (m : Memory) (a : Nat) (bs : Bytes) (i : Nat) (hi : i < bs.length) :
    (m.write a bs).read (a + i) = bs[i] := by
  rw [Memory.read_eq, Memory.write, openSeed_carveOpen_inside _ ⟨Nat.le_add_right a i, by omega⟩]
  exact cellAt_writeCells_inside m.cells a bs i hi

/-- A write leaves every byte outside its range. -/
theorem Memory.read_write_outside (m : Memory) {a x : Nat} {bs : Bytes} (hx : x < a ∨ a + bs.length ≤ x) :
    (m.write a bs).read x = m.read x := by
  rw [Memory.read_eq, Memory.read_eq, Memory.write, openSeed_carveOpen_outside _ hx, cellAt_writeCells_outside _ hx]

theorem Memory.readBytes_eq {m : Memory} {a : Nat} {bs : Bytes} (h : ∀ i (hi : i < bs.length), m.read (a + i) = bs[i]) :
    m.readBytes a bs.length = bs := by
  induction bs generalizing a with
  | nil => rfl
  | cons b bs ih =>
    have htail : m.readBytes (a + 1) bs.length = bs := ih fun i hi => by
      rw [Nat.add_right_comm, Nat.add_assoc]
      exact h (i + 1) (Nat.succ_lt_succ hi)
    have hhead : m.read a = b := h 0 (Nat.succ_pos _)
    rw [List.length_cons, Memory.readBytes, htail, hhead]

/-- The bytes written are read back. -/
theorem Memory.readBytes_write (m : Memory) (a : Nat) (bs : Bytes) : (m.write a bs).readBytes a bs.length = bs :=
  Memory.readBytes_eq (m.read_write_inside a bs)

theorem State.stackWrite_stack (s : State) (a : Nat) {bs : Bytes} (h : bs ≠ []) : (s.stackWrite a bs).stack = s.stack.write a bs := by
  rw [State.stackWrite, if_neg (by simpa using h)]
  rfl

end Sys2Proof.Machine
end

section
/-! Images: a transfer and its segments, a load from the stacks, the model library, and the end of a load (06 R115 to R118). -/

namespace Sys2Proof.Machine

open Sys2Proof

/-! ### Writes that come in segments (15 R326) -/

/-- A segment whose target serves, and that finds a session or needs none, is taken: the object's rule acts, then the response leaves. -/
theorem State.serveSegment_taken {u v : State} {o : Ob} {m offset total : Nat} {data whole : Bytes} {rq : Requester} {e first last : Bool}
    (h : u.serves o m) (hroom : u.segBusy (o.key m 0) offset total data.length = false)
    (hseg : u.granted.segment rq (o.key m 0) offset total data = (.taken e first last whole, v)) (ended : State → State)
    (take : Bool → Bool → Bytes → State → State) :
    State.serveSegment rq o m offset total data ended take u =
      (take first last whole (if e then ended v else v)).answer rq.src { rq.write o m with offset := offset } 0 0 0 [] 0 := by
  obtain ⟨-, hstatus, hqueue⟩ := h
  have hstatus' : u.touch.targetStatus (o.idx + m) o.sub = 0 := hstatus
  have hqueue' : u.touch.queueFull = false := hqueue
  have hroom' : u.touch.segBusy (o.key m 0) offset total data.length = false := hroom
  have hseg' : (u.touch.queueRequest.bump Dict.served).segment rq (o.key m 0) offset total data = (.taken e first last whole, v) := hseg
  simp only [State.serveSegment, State.serveAny, Requester.write, hstatus', hqueue', hroom', Bool.or_self, Bool.and_false,
    Bool.false_eq_true, if_false, hseg']

/-- A segment that holds its whole value needs no session. -/
theorem State.segBusy_whole {s : State} {key total len : Nat} (h : total ≤ len) : s.segBusy key 0 total len = false := by
  simp [State.segBusy, Nat.not_lt.mpr h]

theorem State.segment_whole {s : State} {rq : Requester} {key total : Nat} {data : Bytes} (h : total ≤ data.length) :
    s.segment rq key 0 total data = (.taken false true true data, s) := by
  simp only [State.segment, if_true, if_pos h]

/-- A first segment is taken as such, and changes nothing beside the write sessions. -/
theorem State.segment_first (s : State) (rq : Requester) (key total : Nat) (data : Bytes) :
    ∃ e last ws, s.segment rq key 0 total data = (.taken e true last data, { s with dap := { s.dap with writes := ws } }) := by
  by_cases h : total ≤ data.length
  · exact ⟨_, _, _, State.segment_whole h⟩
  · exact ⟨_, _, _, by simp only [State.segment, if_true, if_neg h]; rfl⟩

/-- A response that leaves changes nothing that the slots depend on. -/
theorem SameSlots.answer (s : State) (src : DapSource) (r : DapReq) (st co total : Nat) (data : Bytes) (retry : Nat) :
    SameSlots s (s.answer src r st co total data retry) := by
  obtain ⟨_, _, _, h⟩ := s.answer_only src r st co total data retry
  rw [h]
  exact ⟨rfl, .refl _ s⟩

/-! ### A slot that loads (06 R115) -/

/-- Slot k is LOADING, its result in progress, and its load is `l`. -/
def State.loadsAs (s : State) (k : Nat) (l : SlotLoad) : Prop :=
  s.stores Dict.slotState k 0 1 ∧ s.stores Dict.slotLoadResult k 0 0xFF ∧ (s.dslot k).load = some l

theorem State.loadBegins_loads (s : State) (k : Nat) (l : SlotLoad) : (s.loadBegins k l).loadsAs k l := by
  refine ⟨?_, State.stores_wr _ Dict.slotLoadResult 0xFF k 0, ?_⟩
  · exact (State.stores_wr (s.setDslot k { s.dslot k with load := some l }) Dict.slotState 1 k 0).wr_other
      (o' := Dict.slotLoadResult) (by decide) 0xFF k
  · exact congrArg DevSlot.load (State.dslot_setDslot_same ..)

theorem SameSlots.loadsAs {s t : State} (h : SameSlots s t) {k : Nat} {l : SlotLoad} (hl : s.loadsAs k l) : t.loadsAs k l := by
  obtain ⟨hstate, hresult, hload⟩ := hl
  exact ⟨h.stores (by decide) hstate, h.stores (by decide) hresult, (congrArg DevSlot.load (h.dslot k)).trans hload⟩

/-- What a load shows once the command has ended. -/
theorem State.loadsAs.within {t : State} {k : Nat} {l : SlotLoad} (h : t.loadsAs k l) (s : State) :
    (t.within s).slotSt k = 1 ∧ (t.within s).rd Dict.slotLoadResult k = 0xFF ∧ ((t.within s).dslot k).load = some l := by
  obtain ⟨hstate, hresult, hload⟩ := h
  exact ⟨hstate.rd_within s, hresult.rd_within s, hload⟩

/-! ### IMAGE (06 R116) -/

/-- The header test of a transfer marks the load, and changes neither its bytes nor where they come from. -/
theorem State.loadsAs.testTransfer {s : State} {k : Nat} {l : SlotLoad} (h : s.loadsAs k l) :
    ∃ tested early, (s.testTransfer k).loadsAs k { l with tested := tested, early := early } := by
  obtain ⟨hstate, hresult, hload⟩ := h
  simp only [State.testTransfer, hload]
  split
  · exact ⟨l.tested, l.early, hstate, hresult, hload⟩
  · exact ⟨_, _, hstate, hresult, congrArg DevSlot.load (State.dslot_setDslot_same ..)⟩

/-- A slot that is EMPTY stays so when the session of an earlier transfer ends. -/
theorem State.imageAborted_slotSt {s : State} {k : Nat} (h : s.slotSt k = 0) : (s.imageAborted k).slotSt k = 0 := by
  unfold State.imageAborted
  split
  next l _ =>
    split
    · exact (s.loadFails_effect k (l.early.getD 8)).2.1.rd
    · exact h
  next => exact h

/-- The first segment of a transfer to a slot that is EMPTY: the slot loads with the segment's bytes. -/
theorem State.takeImage_first {s : State} {k : Nat} (h : s.slotSt k = 0) (total : Nat) (data : Bytes) (last : Bool) :
    ∃ l, (s.takeImage k total data true last).loadsAs k l ∧ l.bytes = data ∧ l.total = total ∧ l.stack = none := by
  obtain ⟨tested, early, htested⟩ :=
    (s.loadBegins_loads k { stack := none, total := total, bytes := data, session := !last }).testTransfer
  rw [State.takeImage, if_pos rfl, if_pos h]
  exact ⟨_, htested, rfl, rfl, rfl⟩

theorem State.serveImage_first {u : State} {k total : Nat} {data : Bytes} (h : u.serves Dict.slotImage k) (hempty : u.slotSt k = 0)
    (hroom : u.segBusy (Dict.slotImage.key k 0) 0 total data.length = false) (rq : Requester) :
    ∃ l, (u.serveImage rq k 0 total data).loadsAs k l ∧ l.bytes = data ∧ l.total = max total data.length ∧ l.stack = none := by
  obtain ⟨e, last, ws, hseg⟩ := u.granted.segment_first rq (Dict.slotImage.key k 0) total data
  generalize hv : ({ u.granted with dap := { u.granted.dap with writes := ws } } : State) = v at hseg
  have hv0 : v.slotSt k = 0 := by
    subst hv
    exact (u.granted_slotSt k).trans hempty
  have hstart : (if e then v.imageAborted k else v).slotSt k = 0 := by
    split
    · exact State.imageAborted_slotSt hv0
    · exact hv0
  obtain ⟨l, hloads, hl⟩ := State.takeImage_first hstart (max total data.length) data last
  refine ⟨l, ?_, hl⟩
  rw [State.serveImage, State.serveSegment_taken h hroom hseg]
  exact (SameSlots.answer ..).loadsAs hloads

theorem imageSegment_first_completes {dt k total : Nat} {rq : Requester} {data : Bytes} {s u : State} (hu : u = s.elapse dt)
    (hserves : u.serves Dict.slotImage k) (hempty : u.slotSt k = 0)
    (hroom : total ≤ data.length ∨ (u.dap.writes.filter (fun w => w.key != Dict.slotImage.key k 0)).length < u.writeCap) :
    Does (.imageSegment dt rq k 0 total data) s (fun t => t.slotSt k = 1 ∧ t.rd Dict.slotLoadResult k = 0xFF ∧
      ∃ l, (t.dslot k).load = some l ∧ l.bytes = data ∧ l.total = max total data.length ∧ l.stack = none) := by
  have hfree : u.segBusy (Dict.slotImage.key k 0) 0 total data.length = false := by
    rcases hroom with hfits | hsession
    · exact State.segBusy_whole hfits
    · simp [State.segBusy, Nat.not_le.mpr hsession]
  obtain ⟨l, hloads, hl⟩ := State.serveImage_first hserves hempty hfree rq
  obtain ⟨hstate, hresult, hload⟩ := hloads.within s
  exact ⟨_, congrArg Host.Outcome.next (State.asked_from hu hserves.1 ..), hstate, hresult, l, hload, hl⟩

/-! ### STACK_WRITE (06 R118) -/

@[simp] theorem State.granted_imageMeets (s : State) (a n : Nat) : s.granted.imageMeets a n = s.imageMeets a n := rfl
@[simp] theorem State.granted_stack (s : State) : s.granted.stack = s.stack := rfl
@[simp] theorem State.within_stack (t s : State) : (t.within s).stack = t.stack := rfl

/-- A segment inside the library that meets no image in use is stored at the write address, which advances. -/
theorem State.takeStack_accepted {s : State} {data : Bytes} (hlow : s.rd Dict.libraryBase ≤ s.rd Dict.stackWriteAddr)
    (hhigh : s.rd Dict.stackWriteAddr + data.length ≤ s.rd Dict.libraryBase + s.rd Dict.librarySize)
    (hin : inStacks (s.rd Dict.stackWriteAddr) data.length = true) (hmeets : s.imageMeets (s.rd Dict.stackWriteAddr) data.length = false) :
    s.takeStack data =
      (s.stackWrite (s.rd Dict.stackWriteAddr) data).wr Dict.stackWriteAddr (s.rd Dict.stackWriteAddr + data.length) := by
  simp [State.takeStack, hlow, hhigh, hin, hmeets]

theorem stackWrite_completes {dt total a : Nat} {rq : Requester} {data : Bytes} {s u : State} (hu : u = s.elapse dt)
    (hserves : u.serves Dict.stackWrite) (hfits : total ≤ data.length) (hdata : data ≠ []) (ha : a = u.rd Dict.stackWriteAddr)
    (hlow : u.rd Dict.libraryBase ≤ a) (hhigh : a + data.length ≤ u.rd Dict.libraryBase + u.rd Dict.librarySize)
    (hin : inStacks a data.length = true) (hmeets : u.imageMeets a data.length = false) :
    Does (.stackWrite dt rq 0 total data) s (fun t => t.stackRead a data.length = data ∧
      (∀ x, x < a ∨ a + data.length ≤ x → t.stack.read x = u.stack.read x) ∧
      t.rd Dict.stackWriteAddr = (a + data.length) % 2 ^ (8 * Dict.stackWriteAddr.ty.bytes)) := by
  have haddr : u.granted.rd Dict.stackWriteAddr = a := (u.rd_granted_developer (by decide) 0).trans ha.symm
  have hbase : u.granted.rd Dict.libraryBase = u.rd Dict.libraryBase := u.rd_granted_developer (by decide) 0
  have hsize : u.granted.rd Dict.librarySize = u.rd Dict.librarySize := u.rd_granted_developer (by decide) 0
  have htaken := State.takeStack_accepted (s := u.granted) (data := data)
  rw [haddr, hbase, hsize, u.granted_imageMeets] at htaken
  replace htaken := htaken hlow hhigh hin hmeets
  obtain ⟨_, _, _, hanswer⟩ := (u.granted.takeStack data).answer_only rq.src (rq.write Dict.stackWrite 0) 0 0 0 [] 0
  have hserved : State.serveStackWrite rq 0 total data u = _ :=
    (State.serveSegment_taken hserves (State.segBusy_whole hfits) (State.segment_whole hfits) ..).trans hanswer
  have hstack : (State.serveStackWrite rq 0 total data u).stack = u.stack.write a data := by
    rw [hserved, htaken]
    exact u.granted.stackWrite_stack a hdata
  have hnext : (State.serveStackWrite rq 0 total data u).stores Dict.stackWriteAddr 0 0
      ((a + data.length) % 2 ^ (8 * Dict.stackWriteAddr.ty.bytes)) := by
    rw [hserved, htaken]
    exact State.stores_wr (u.granted.stackWrite a data) Dict.stackWriteAddr (a + data.length) 0 0
  refine ⟨_, congrArg Host.Outcome.next (State.asked_from hu hserves.1 ..), ?_, fun x hx => ?_, hnext.rd_within s⟩
  · rw [State.stackRead, State.within_stack, hstack]
    exact u.stack.readBytes_write a data
  · rw [State.within_stack, hstack]
    exact Memory.read_write_outside u.stack hx

/-! ### LOAD_STACK (06 R117) -/

@[simp] theorem State.beginAction_rd (s : State) (src : DapSource) (reqId : Nat) (o o' : Ob) (m m' : Nat) :
    (s.beginAction src reqId o m).rd o' m' = s.rd o' m' := rfl

@[simp] theorem State.loadBegins_cmdCodes (s : State) (k : Nat) (l : SlotLoad) : (s.loadBegins k l).cmdCodes = s.cmdCodes := rfl

/-- A load from the stacks of a slot that is EMPTY begins at STACK_ADDR; no completion code changes. -/
theorem State.loadStack_empty {s : State} {k : Nat} (h : s.slotSt k = 0) :
    ∃ l, (s.loadStack k).loadsAs k l ∧ l.stack = some (s.rd Dict.slotStackAddr k) ∧ (s.loadStack k).cmdCodes = s.cmdCodes := by
  rw [State.loadStack, if_neg (not_not.mpr h)]
  extract_lets a bs s1
  have hcodes : s1.cmdCodes = s.cmdCodes := by
    unfold s1
    split <;> rfl
  exact ⟨_, s1.loadBegins_loads k _, rfl, (s1.loadBegins_cmdCodes k _).trans hcodes⟩

theorem loadStack_completes {dt k : Nat} {rq : Requester} {s u : State} (hu : u = s.elapse dt) (hserves : u.serves Dict.slotLoadStack k)
    (hidle : u.actionOf (Dict.slotLoadStack.key k 0) = none) (hempty : u.slotSt k = 0) :
    Does (.loadStack dt rq k) s (fun t => t.slotSt k = 1 ∧ t.rd Dict.slotLoadResult k = 0xFF ∧
      t.cmdCode Dict.slotLoadStack k = 0xFF ∧ ∃ l, (t.dslot k).load = some l ∧ l.stack = some (u.rd Dict.slotStackAddr k)) := by
  generalize hv : u.granted.beginAction rq.src rq.reqId Dict.slotLoadStack k = v
  have hbegun : v.slotSt k = 0 ∧ v.rd Dict.slotStackAddr k = u.rd Dict.slotStackAddr k ∧ v.cmdCode Dict.slotLoadStack k = 0xFF := by
    subst hv
    refine ⟨?_, ?_, State.cmdCode_setCode_same ..⟩
    · rw [State.slotSt, State.beginAction_rd]
      exact (u.granted_slotSt k).trans hempty
    · rw [State.beginAction_rd]
      exact u.rd_granted_developer (by decide) k
  obtain ⟨hv0, haddr, hcode⟩ := hbegun
  obtain ⟨l, hloads, hstack, hcodes⟩ := State.loadStack_empty hv0
  have hserved : u.serveLoadStack rq k = v.loadStack k := hv ▸ State.serveLong_of_serves hserves hidle ..
  obtain ⟨hstate, hresult, hload⟩ := hloads.within s
  refine ⟨_, congrArg Host.Outcome.next (State.asked_from hu hserves.1 ..), ?_⟩
  rw [hserved]
  refine ⟨hstate, hresult, ?_, l, hload, hstack.trans (congrArg some haddr)⟩
  rw [State.within_cmdCode, State.cmdCode, hcodes]
  exact hcode

/-! ### LOAD_END (06 R115, R117, Tables 06-3, 06-4) -/

theorem loadEnd_of_on {dt k : Nat} {s u : State} (hu : u = s.elapse dt) (hon : u.coreOn = true) (hk : k < u.slotCount) :
    exec (.loadEnd dt k) s = .next ((u.loadEnd k).within s) :=
  congrArg Host.Outcome.next ((State.core_from hu hon _).trans (congrArg (State.within · s) (if_pos hk)))

/-- A load that a header test has failed ends with that test's result. -/
theorem State.loadEnd_early {s : State} {k c : Nat} {l : SlotLoad} (hload : (s.dslot k).load = some l) (hearly : l.early = some c) :
    s.loadEnd k = s.loadFails k c := by
  simp only [State.loadEnd, hload, hearly]

theorem loadEnd_early_completes {dt k c : Nat} {s u : State} {l : SlotLoad} (hu : u = s.elapse dt) (hon : u.coreOn = true)
    (hk : k < u.slotCount) (hload : (u.dslot k).load = some l) (hearly : l.early = some c) :
    Does (.loadEnd dt k) s (fun t => t.rd Dict.slotLoadResult k = c % 256 ∧ t.slotSt k = 0 ∧ (t.dslot k).load = none) := by
  obtain ⟨hresult, hempty, hnone⟩ := u.loadFails_effect k c
  rw [← State.loadEnd_early hload hearly] at hresult hempty hnone
  exact ⟨_, loadEnd_of_on hu hon hk, hresult.rd_within s, hempty.rd_within s, hnone⟩

/-- A header that has arrived whole is the first 128 bytes. -/
theorem ImageHeader.read_headerBytes {bs : Bytes} (h : 128 ≤ bs.length) (seed : Nat) :
    ImageHeader.read (headerBytes bs seed) = ImageHeader.read bs := by
  have hbytes : headerBytes bs seed = bs.take 128 := by simp [headerBytes, Nat.sub_eq_zero_of_le h]
  rw [hbytes]
  simp only [ImageHeader.read, List.take_take, Nat.min_self]

/-- A transfer that is whole and whose header passes ends as the tests of its body say. -/
theorem State.loadEnd_transfer {s : State} {k : Nat} {l : SlotLoad} (hload : (s.dslot k).load = some l) (hearly : l.early = none)
    (hstack : l.stack = none) (htotal : l.total ≤ l.bytes.length) (hheader : 128 ≤ l.bytes.length)
    (hpass : s.headerTest k (ImageHeader.read l.bytes) l.total false = none) :
    s.loadEnd k = if s.bodyTest (ImageHeader.read l.bytes) l.bytes = 0 then s.loadOk k (ImageHeader.read l.bytes) l.bytes l
      else s.loadFails k (s.bodyTest (ImageHeader.read l.bytes) l.bytes) := by
  simp only [State.loadEnd, hload, hearly, hstack, if_neg (Nat.not_lt.mpr htotal), if_neg (Nat.not_lt.mpr hheader),
    ImageHeader.read_headerBytes hheader, hpass]
  split
  next hzero => rw [if_pos hzero]
  next hcode => rw [if_neg hcode]

/-- The tests of the body give 0, 5 or 6. -/
theorem State.bodyTest_le (s : State) (h : ImageHeader) (img : Bytes) : s.bodyTest h img ≤ 6 := by
  unfold State.bodyTest
  extract_lets
  split_ifs <;> decide

/-- The numbers of STATE and LOAD_RESULT of the slots, by their subindices. -/
abbrev loadObject (n : Nat) : Prop := n % 256 = 0x01 ∨ n % 256 = 0x17

theorem loadObject_of_sub {o : Ob} (hsub : o.sub = 0x01 ∨ o.sub = 0x17) (m : Nat) : loadObject (o.key m 0) := by
  unfold Ob.key
  omega

/-- `t` has STATE and LOAD_RESULT of the slots as `s` has them. -/
abbrev KeepsLoadObjects : State → State → Prop := KeepsObjects loadObject

theorem KeepsLoadObjects.wr (s : State) (o : Ob) (v m : Nat)
    (hsub : o.sub % 256 ≠ 0x01 ∧ o.sub % 256 ≠ 0x17) : KeepsLoadObjects s (s.wr o v m) :=
  KeepsObjects.wr s o v m 0 (by unfold Ob.key; omega)

/-- A slot whose load has ended with OK is READY; the image of a transfer lies in its node memory. -/
theorem State.loadOk_effect (s : State) (k : Nat) (h : ImageHeader) (img : Bytes) {l : SlotLoad} (hstack : l.stack = none) :
    (s.loadOk k h img l).stores Dict.slotLoadResult k 0 0 ∧ (s.loadOk k h img l).stores Dict.slotState k 0 2 ∧
    ∃ i, ((s.loadOk k h img l).dslot k).image = some i ∧ i.trees = h.trees ∧ i.nodes = h.nodes ∧ i.base = none := by
  unfold State.loadOk
  extract_lets resident image s1 s2 s3 d s4
  have hresident : resident = true := by simp [resident, hstack]
  have hs2 : KeepsLoadObjects s1 s2 := by
    unfold s2
    rw [if_pos hresident]
    exact (KeepsLoadObjects.wr s1 Dict.nodesUsed _ 0 (by decide)).trans (KeepsLoadObjects.wr _ Dict.slotResident 1 k (by decide))
  have hs3 : KeepsLoadObjects s2 s3 :=
    ((((KeepsLoadObjects.wr s2 Dict.slotLink _ k (by decide)).trans (KeepsLoadObjects.wr _ Dict.slotTrees _ k (by decide))).trans
      (KeepsLoadObjects.wr _ Dict.slotDepth _ k (by decide))).trans (KeepsLoadObjects.wr _ Dict.slotNodes _ k (by decide))).trans
      (KeepsLoadObjects.wr _ Dict.slotModelId _ k (by decide))
  have hs4 : KeepsLoadObjects s1 s4 := hs2.trans hs3
  have hresult : s1.stores Dict.slotLoadResult k 0 0 :=
    (State.stores_wr s Dict.slotLoadResult 0 k 0).wr_other (o' := Dict.slotState) (by decide) 2 k
  have hready : s1.stores Dict.slotState k 0 2 := State.stores_wr (s.wr Dict.slotLoadResult 0 k) Dict.slotState 2 k 0
  rw [if_neg (by simp [hstack])]
  refine ⟨hresult.of_keeps hs4 (loadObject_of_sub (.inr rfl) k), hready.of_keeps hs4 (loadObject_of_sub (.inl rfl) k), image, ?_, rfl,
    rfl, if_pos hresident⟩
  exact congrArg DevSlot.image (State.dslot_setDslot_same ..)

theorem loadEnd_transfer_completes {dt k : Nat} {s u : State} {l : SlotLoad} (hu : u = s.elapse dt) (hon : u.coreOn = true)
    (hk : k < u.slotCount) (hload : (u.dslot k).load = some l) (hearly : l.early = none) (hstack : l.stack = none)
    (htotal : l.total ≤ l.bytes.length) (hheader : 128 ≤ l.bytes.length)
    (hpass : u.headerTest k (ImageHeader.read l.bytes) l.total false = none) :
    (u.bodyTest (ImageHeader.read l.bytes) l.bytes = 0 →
      Does (.loadEnd dt k) s (fun t => t.rd Dict.slotLoadResult k = 0 ∧ t.slotSt k = 2 ∧
        ∃ i, (t.dslot k).image = some i ∧ i.trees = (ImageHeader.read l.bytes).trees ∧ i.nodes = (ImageHeader.read l.bytes).nodes ∧
          i.base = none)) ∧
    (u.bodyTest (ImageHeader.read l.bytes) l.bytes ≠ 0 →
      Does (.loadEnd dt k) s (fun t => t.rd Dict.slotLoadResult k = u.bodyTest (ImageHeader.read l.bytes) l.bytes ∧ t.slotSt k = 0)) := by
  have hend := State.loadEnd_transfer hload hearly hstack htotal hheader hpass
  refine ⟨fun hbody => ?_, fun hbody => ?_⟩
  · obtain ⟨hresult, hready, himage⟩ := u.loadOk_effect k (ImageHeader.read l.bytes) l.bytes hstack
    rw [if_pos hbody] at hend
    rw [← hend] at hresult hready himage
    exact ⟨_, loadEnd_of_on hu hon hk, hresult.rd_within s, hready.rd_within s, himage⟩
  · obtain ⟨hresult, hempty, -⟩ := u.loadFails_effect k (u.bodyTest (ImageHeader.read l.bytes) l.bytes)
    rw [if_neg hbody] at hend
    rw [← hend, Nat.mod_eq_of_lt (Nat.lt_of_le_of_lt (u.bodyTest_le ..) (by decide))] at hresult
    rw [← hend] at hempty
    exact ⟨_, loadEnd_of_on hu hon hk, hresult.rd_within s, hempty.rd_within s⟩

/-- Settles O32: a slot that is EMPTY begins to load with what its transfer or the stacks give, a segment for the library reads back from
the stacks, and a load ends with the result of its tests. -/
theorem imageCommandsComplete : Obligations.ImageCommandsComplete := by
  unfold Obligations.ImageCommandsComplete
  refine ⟨?_, ?_, ?_, ?_, ?_⟩
  · intro dt rq k total data s u hu hserves hempty hroom
    exact imageSegment_first_completes hu hserves hempty hroom
  · intro dt rq total data s u a hu hserves hfits hdata ha hlow hhigh hin hmeets
    exact stackWrite_completes hu hserves hfits hdata ha hlow hhigh hin hmeets
  · intro dt rq k s u hu hserves hidle hempty
    exact loadStack_completes hu hserves hidle hempty
  · intro dt k s u l c hu hon hk hload hearly
    exact loadEnd_early_completes hu hon hk hload hearly
  · intro dt k s u l h hu hon hk hload hearly hstack htotal hheader hh hpass
    subst hh
    exact loadEnd_transfer_completes hu hon hk hload hearly hstack htotal hheader hpass

end Sys2Proof.Machine
end

section
/-! Reduction: a program is adopted, a record is stored, a deadline closes its frame, and a merged frame leaves (07 R130, R147, R149,
R151). -/

namespace Sys2Proof.Machine

open Sys2Proof

/-! ### PROGRAM_APPLY (07 R130) -/

@[simp] theorem State.granted_stagedProgram (s : State) : s.granted.stagedProgram = s.stagedProgram := by
  have hid : s.granted.rd Dict.programId = s.rd Dict.programId := s.rd_granted_developer (by decide) 0
  have hmode : s.granted.rd Dict.redMode = s.rd Dict.redMode := s.rd_granted_developer (by decide) 0
  have hcount : s.granted.rd Dict.fieldCount = s.rd Dict.fieldCount := s.rd_granted_developer (by decide) 0
  simp only [State.stagedProgram, State.flag, hid, hmode, hcount]
  rfl

/-- A staged program that comes in time is adopted with its first frame, and its PROGRAM entries are due. -/
theorem State.applyProgram_inTime {s : State} (h : s.tooLate (s.rd Dict.applyFrame) = false) :
    s.applyProgram = (s.setRed { s.red with
      programs := (s.rd Dict.applyFrame, s.stagedProgram) :: s.red.programs
      programDue := s.red.programDue ++ [(s.rd Dict.applyFrame, s.stagedProgram)] }, 0) :=
  if_neg (Bool.eq_false_iff.mp h)

theorem State.applyProgram_late {s : State} (h : s.tooLate (s.rd Dict.applyFrame) = true) : s.applyProgram = (s, 1) := if_pos h

/-- A command object whose action completes within the write: its code is readable, and the reduction is as the action leaves it. -/
theorem State.serveCmd_red {u t : State} {o : Ob} {m code : Nat} {act : State → State × Nat} (h : u.serves o m)
    (hact : act u.granted = (t, code)) (rq : Requester) :
    (State.serveCmd rq o m act u).cmdCode o m = code ∧ (State.serveCmd rq o m act u).red = t.red := by
  obtain ⟨_, rfl, _, _, _, heq⟩ := State.serveCmd_answered h rq act
  rw [heq, hact]
  exact ⟨State.cmdCode_setCode_same .., rfl⟩

theorem programApply_of_serves {dt : Nat} {rq : Requester} {s u : State} (hu : u = s.elapse dt) (h : u.serves Dict.programApply) :
    exec (.programApply dt rq) s = .next ((u.serveProgramApply rq).within s) :=
  congrArg Host.Outcome.next (State.asked_from hu h.1 ..)

section

variable {dt : Nat} {rq : Requester} {s u : State} (hu : u = s.elapse dt) (hserves : u.serves Dict.programApply)
include hu hserves

theorem programApply_inTime_completes (htime : u.tooLate (u.rd Dict.applyFrame) = false) :
    Does (.programApply dt rq) s (fun t => t.cmdCode Dict.programApply = 0 ∧
      t.red.programs = (u.rd Dict.applyFrame, u.stagedProgram) :: u.red.programs) := by
  have hframe : u.granted.rd Dict.applyFrame = u.rd Dict.applyFrame := u.rd_granted_developer (by decide) 0
  have hact := State.applyProgram_inTime (s := u.granted) (by rw [hframe, u.granted_tooLate, htime])
  obtain ⟨hcode, hred⟩ := State.serveCmd_red hserves hact rq
  rw [hframe, u.granted_stagedProgram] at hred
  exact ⟨_, programApply_of_serves hu hserves, hcode, congrArg Reduction.programs hred⟩

theorem programApply_late_completes (htime : u.tooLate (u.rd Dict.applyFrame) = true) :
    Does (.programApply dt rq) s (fun t => t.cmdCode Dict.programApply = 1 ∧ t.red = u.red) := by
  have hframe : u.granted.rd Dict.applyFrame = u.rd Dict.applyFrame := u.rd_granted_developer (by decide) 0
  have hact := State.applyProgram_late (s := u.granted) (by rw [hframe, u.granted_tooLate, htime])
  exact ⟨_, programApply_of_serves hu hserves, State.serveCmd_red hserves hact rq⟩

end

/-! ### The closing machines (Table 07-7) -/

theorem State.machine_congr {s t : State} (h : t.red.frames = s.red.frames) (n : Nat) : t.machine n = s.machine n := by
  rw [State.machine, State.machine, h]

theorem KeepsStages.frames {s t : State} (h : KeepsStages s t) : t.red.frames = s.red.frames := by
  obtain ⟨-, -, -, hred⟩ := h
  rw [hred]

theorem State.machine_frame {s : State} {n : Nat} {f : RedFrame} (h : s.machine n = some f) : f.frame = n := by
  have hfound : (f.frame == n) = true := List.find?_some (p := fun g : RedFrame => g.frame == n) h
  exact eq_of_beq hfound

theorem State.machine_of_head {s : State} {f : RedFrame} {rest : List RedFrame} (h : s.red.frames = f :: rest) :
    s.machine f.frame = some f := by
  rw [State.machine, h]
  exact List.find?_cons_of_pos (beq_self_eq_true _)

/-- A frame that has a machine has the value that its machine takes. -/
theorem State.machine_setMachine {s : State} {f g : RedFrame} (h : s.machine f.frame = some g) :
    (s.setMachine f).machine f.frame = some f := by
  have hsame : (fun g : RedFrame => g.frame == f.frame) ∘ (fun g : RedFrame => if g.frame == f.frame then f else g) =
      fun g => g.frame == f.frame := by
    funext g
    show ((if g.frame == f.frame then f else g).frame == f.frame) = (g.frame == f.frame)
    split
    next hg => rw [hg, beq_self_eq_true]
    next => rfl
  have hframe : (g.frame == f.frame) = true := beq_iff_eq.mpr (State.machine_frame h)
  rw [State.machine] at h
  rw [State.machine, State.setMachine, State.setRed_red, List.find?_map, hsame, h, Option.map_some, if_pos hframe]

theorem State.checkFrame_incomplete {s : State} {n : Nat} {f : RedFrame} (h : s.machine n = some f) (hopen : f.complete = false) :
    s.checkFrame n = s := by
  simp only [State.checkFrame, h, hopen, Bool.and_false, Bool.false_eq_true, if_false]

/-! ### REDUCTION_RECORD (07 R147) -/

theorem reductionRecord_of_up {dt p : Nat} {r : RedRec} {s u : State} (hu : u = s.elapse dt) (hon : u.coreOn = true)
    (hdown : u.isDown p = true) (hup : u.laneUp p = true) :
    exec (.reductionRecord dt p r) s = .next ((u.touch.takeRecord (u.groupOf p) r).within s) := by
  refine congrArg Host.Outcome.next ((State.fromLane_from hu hon p 3 _ _).trans ?_)
  simp only [hdown, hup, Bool.and_self, if_true]

/-- A record has come from a port: its subject is heard, and the port's last frame is noted. -/
def State.recordSeen (s : State) (g frame : Nat) : State := (s.hearRecord g frame).wr Dict.childLastFrame frame g

/-- A record of a frame that is OPEN, where the port's record for no earlier frame is awaited, goes to that frame's machine. -/
theorem State.takeRecord_open {s : State} {g : Nat} {r : RedRec} {f : RedFrame} (hsent : s.isSent r.frame = false)
    (hgap : s.gapFrames g r.frame = []) (hmachine : s.machine r.frame = some f) (hopen : f.merged = none) :
    s.takeRecord g r = (s.recordSeen g r.frame).storeRecord g f r := by
  have hsent' : (s.recordSeen g r.frame).isSent r.frame = false := hsent
  have hgap' : (s.recordSeen g r.frame).gapFrames g r.frame = [] := hgap
  have hmachine' : (s.recordSeen g r.frame).machine r.frame = some f := hmachine
  unfold State.recordSeen at hsent' hgap' hmachine' ⊢
  simp only [State.takeRecord, hsent', hgap', List.foldl_nil, hmachine', hopen, Option.isNone_some, Option.isSome_none, Bool.false_and,
    Bool.false_eq_true, if_false]

/-- The first record of an expected port, where the frame still waits for another, is stored. -/
theorem State.storeRecord_incomplete {s : State} {g : Nat} {r : RedRec} {f : RedFrame} (hmachine : s.machine f.frame = some f)
    (hexpected : f.expected.any (fun e => e.1 == g) = true) (hfirst : f.stored.any (fun x => x.1 == g) = false)
    (hawaited : f.missing.contains g = false) (hwaits : RedFrame.complete { f with stored := f.stored ++ [(g, r)] } = false) :
    s.storeRecord g f r = s.setMachine { f with stored := f.stored ++ [(g, r)] } := by
  have hset := State.machine_setMachine (f := { f with stored := f.stored ++ [(g, r)] }) hmachine
  rw [State.storeRecord, if_pos hexpected, hfirst, hawaited, if_neg (by decide)]
  exact State.checkFrame_incomplete hset hwaits

theorem reductionRecord_completes {dt p g : Nat} {r : RedRec} {s u : State} {f : RedFrame} (hu : u = s.elapse dt) (hon : u.coreOn = true)
    (hdown : u.isDown p = true) (hup : u.laneUp p = true) (hg : g = u.groupOf p) (hsent : u.isSent r.frame = false)
    (hgap : u.gapFrames g r.frame = []) (hmachine : u.machine r.frame = some f) (hopen : f.merged = none)
    (hexpected : f.expected.any (fun e => e.1 == g) = true) (hfirst : f.stored.any (fun x => x.1 == g) = false)
    (hawaited : f.missing.contains g = false) (hwaits : RedFrame.complete { f with stored := f.stored ++ [(g, r)] } = false) :
    Does (.reductionRecord dt p r) s (fun t => t.machine r.frame = some { f with stored := f.stored ++ [(g, r)] } ∧
      t.rd Dict.childLastFrame g = r.frame % 2 ^ (8 * Dict.childLastFrame.ty.bytes)) := by
  subst hg
  have hframe : f.frame = r.frame := State.machine_frame hmachine
  rw [← hframe] at hmachine
  have hseen : (u.touch.recordSeen (u.groupOf p) r.frame).machine f.frame = some f := hmachine
  have htaken : u.touch.takeRecord (u.groupOf p) r =
      (u.touch.recordSeen (u.groupOf p) r.frame).setMachine { f with stored := f.stored ++ [(u.groupOf p, r)] } :=
    (State.takeRecord_open (s := u.touch) hsent hgap (hframe ▸ hmachine) hopen).trans
      (State.storeRecord_incomplete hseen hexpected hfirst hawaited hwaits)
  refine ⟨_, reductionRecord_of_up hu hon hdown hup, ?_⟩
  rw [htaken]
  refine ⟨?_, ?_⟩
  · rw [← hframe]
    exact State.machine_setMachine (f := { f with stored := f.stored ++ [(u.groupOf p, r)] }) hseen
  · exact (State.stores_wr (u.touch.hearRecord (u.groupOf p) r.frame) Dict.childLastFrame r.frame (u.groupOf p) 0).rd_within s

/-! ### DEADLINE (07 R149) -/

/-- RECORD and MISSING entries change what entries change. -/
theorem MessagedFrom.journalMerge (s : State) (f : RedFrame) : MessagedFrom s (s.journalMerge f) := by
  unfold State.journalMerge
  extract_lets p recs s1
  exact (MessagedFrom.foldl (fun t r => .journalEntry t ..) recs s).trans (.foldl (fun t e => .journalEntry t ..) _ s1)

/-- A frame that enters MERGING: its machine keeps what it was closed with, and holds the merged record. -/
theorem State.enterMerging_machine {s : State} {f g : RedFrame} (h : s.machine f.frame = some g) :
    ∃ r done centres n, (s.enterMerging f).machine f.frame =
      some { f with merged := some r, tsDone := done, centres := centres, scoring := n } := by
  unfold State.enterMerging
  extract_lets p lagged r done v n s1 s2
  have hentered (t : State) : ((t.journalMerge f).enterSlots 2 v).red.frames = t.red.frames :=
    ((KeepsStages.of_messaged (.journalMerge t f)).trans (.enterSlots _ 2 v)).frames
  have hs1 : s1.machine f.frame = some { f with merged := some r, tsDone := done, centres := s.formCentres f, scoring := n } :=
    State.machine_setMachine h
  refine ⟨_, _, _, _, (State.machine_congr (s := s1) ?_ f.frame).trans hs1⟩
  exact hentered _

theorem deadline_of_one {dt d : Nat} {s u : State} {f : RedFrame} (hu : u = s.elapse dt) (hon : u.coreOn = true)
    (hframes : u.red.frames = [f]) (hopen : f.merged = none) (hdeadline : f.deadline = some d) (hdue : d * nsUnits ≤ u.time.now) :
    exec (.deadline dt) s = .next ((u.deadlineOne f).within s) := by
  refine congrArg Host.Outcome.next ((State.core_from hu hon _).trans ?_)
  simp only [hframes, List.filter_cons, hopen, hdeadline, hdue, Option.isNone_none, decide_true, Bool.and_self, if_true, List.filter_nil,
    List.foldl_cons, List.foldl_nil]

theorem deadline_completes {dt d : Nat} {s u : State} {f : RedFrame} (hu : u = s.elapse dt) (hon : u.coreOn = true)
    (hframes : u.red.frames = [f]) (hopen : f.merged = none) (hdeadline : f.deadline = some d) (hdue : d * nsUnits ≤ u.time.now) :
    Does (.deadline dt) s (fun t => ∃ m, t.machine f.frame = some m ∧ m.merged.isSome = true ∧ m.byDeadline = true ∧
      m.missing = f.missing ++ f.open_) := by
  have hhead : u.machine f.frame = some f := State.machine_of_head hframes
  obtain ⟨_, _, _, _, hmachine⟩ :=
    State.enterMerging_machine (f := { f with byDeadline := true, missing := f.missing ++ f.open_ }) hhead
  exact ⟨_, deadline_of_one hu hon hframes hopen hdeadline hdue, _, hmachine, rfl, rfl, rfl⟩

/-! ### MERGE_COMPLETE (07 R151) -/

theorem MessagedFrom.sendCentres (s : State) (frame : Nat) (bytes : Bytes) (g : Nat) : MessagedFrom s (s.sendCentres frame bytes g) := by
  unfold State.sendCentres
  split
  · exact .refl s
  · exact .enqueue ..

theorem MessagedFrom.centresLeave (s : State) (frame : Nat) (c : Bytes × List Nat × Bool) : MessagedFrom s (s.centresLeave frame c) := by
  unfold State.centresLeave
  extract_lets s1
  have hs1 : MessagedFrom s s1 := .foldl (fun t g => .sendCentres t frame c.1 g) _ s
  split
  · exact hs1.trans (.enqueueUp (by decide) ..)
  · exact hs1

/-- The ROOT keeps the sheet and notes the score records it still owes; the closing machines stay. -/
theorem State.issueSheet_frames (s : State) (f : RedFrame) (bytes : Bytes) : (s.issueSheet f bytes).red.frames = s.red.frames := by
  unfold State.issueSheet
  extract_lets s1 segs need n sc owed
  split
  · rfl
  · split
    · rfl
    · unfold owed
      split <;> rfl

/-- A frame that is SENT is the last one sent, and its machine is gone. -/
theorem State.sendFrame_effect (s : State) (f : RedFrame) (r : RedRec) :
    (s.sendFrame f r).red.lastSent = some f.frame ∧
    (s.sendFrame f r).red.frames = s.red.frames.filter (fun g => g.frame != f.frame) := by
  unfold State.sendFrame
  extract_lets bytes up quiet s1 s2 s3
  have hs1 : s1.red.frames = s.red.frames := (KeepsStages.of_messaged (.foldl (fun t c => .centresLeave t f.frame c) _ s)).frames
  have hs2 : s2.red.frames = s1.red.frames := by
    unfold s2
    split
    · rfl
    · split
      · exact (KeepsStages.of_messaged (s := s1.wrBytes Dict.lastRecord bytes) (.enqueueUp (by decide) ..)).frames
      · exact State.issueSheet_frames (s1.wrBytes Dict.lastRecord bytes) f bytes
  have hs3 : s3.red.frames = s2.red.frames := (KeepsStages.of_messaged (.journalEntry ..)).frames
  exact ⟨rfl, congrArg (List.filter _) (hs3.trans (hs2.trans hs1))⟩

theorem mergeComplete_completes {dt : Nat} {s u : State} {f : RedFrame} {rest : List RedFrame} {r : RedRec} (hu : u = s.elapse dt)
    (hon : u.coreOn = true) (hframes : u.red.frames = f :: rest) (hmerged : f.merged = some r) :
    Does (.mergeComplete dt) s (fun t => t.red.lastSent = some f.frame ∧ t.red.frames = rest.filter (fun g => g.frame != f.frame)) := by
  have hexec : exec (.mergeComplete dt) s = .next ((u.sendFrame f r).within s) := by
    refine congrArg Host.Outcome.next ((State.core_from hu hon _).trans ?_)
    simp only [hframes, hmerged]
  obtain ⟨hlast, hleft⟩ := u.sendFrame_effect f r
  rw [hframes, List.filter_cons_of_neg (by simp)] at hleft
  exact ⟨_, hexec, hlast, hleft⟩

/-- Settles O34: a staged program is adopted or late, a record goes to the machine of its frame, a deadline closes a frame with what is
missing, and a frame that is sent leaves its machine. -/
theorem reductionCommandsComplete : Obligations.ReductionCommandsComplete := by
  unfold Obligations.ReductionCommandsComplete
  refine ⟨?_, ?_, ?_, ?_⟩
  · intro dt rq s u hu hserves
    exact ⟨programApply_inTime_completes hu hserves, programApply_late_completes hu hserves⟩
  · intro dt p r s u g f hu hon hdown hup hg hsent hgap hmachine hopen hexpected hfirst hawaited hwaits
    exact reductionRecord_completes hu hon hdown hup hg hsent hgap hmachine hopen hexpected hfirst hawaited hwaits
  · intro dt s u f d hu hon hframes hopen hdeadline hdue
    exact deadline_completes hu hon hframes hopen hdeadline hdue
  · intro dt s u f rest r hu hon hframes hmerged
    exact mergeComplete_completes hu hon hframes hmerged

end Sys2Proof.Machine
end

section
/-! A mismatch of a frame whose verdict is already formed: it is binned at once, and nothing waits (08 R166, R167). -/

namespace Sys2Proof.Machine

open Sys2Proof

-- one theorem after the other: each theorem that waits for the kernel would hold a thread
set_option Elab.async false

theorem State.binMismatch_mismatchWait (s : State) (n : Nat) (cell : Option Nat) :
    (s.binMismatch n cell).ver.mismatchWait = s.ver.mismatchWait := by
  cases cell <;> rfl

/-- The verdict of the current frame is formed: a mismatch enters that frame's cell, not the list of those that wait for one. -/
theorem State.countMismatch_mismatchWait_of_formed {s : State} {cell : Option Nat} (hformed : s.ver.lastCell = some (s.frameNow, cell)) :
    s.countMismatch.ver.mismatchWait = s.ver.mismatchWait := by
  unfold State.countMismatch
  extract_lets _ s1
  have hlast : s1.ver.lastCell = some (s.frameNow, cell) := hformed
  have hnow : s.frameNow = s1.frameNow := (State.rd_wr_other _ Dict.mismatches Dict.frameNow _ 0 0 0 0 (by decide)).symm
  rw [hlast]
  simp only
  rw [if_pos hnow]
  exact State.binMismatch_mismatchWait s1 1 cell

theorem mismatchNotice_of_leaf {dt p suspect : Nat} {s u : State} (hu : u = s.elapse dt) (hon : u.coreOn = true) (hdie : u.isDie = true)
    (hdown : u.isDown p = false) (hup : u.laneUp p = true) :
    exec (.mismatchNotice dt p suspect) s = .next (u.touch.countMismatch.within s) := by
  refine congrArg Host.Outcome.next ((State.fromLane_from hu hon p 4 _ _).trans ?_)
  simp only [hdown, hup, hdie, Bool.not_true, Bool.or_self, Bool.false_eq_true, if_false, if_true]

/-- A leaf with its lane 1 trained whose verdict of the current frame, frame 0, is formed and fell in cell 5. -/
def leafAfterVerdict : State := { State.reset.wr Dict.laneState 3 1 with ver := { lastCell := some (0, some 5) } }

/-- Refutes O36: a notice that arrives in a frame whose verdict is formed enters the cell of that frame at once, so the list of
mismatches that wait for a verdict stays empty and does not gain FRAME_NOW. -/
theorem not_verdictCommandsComplete : ¬ Obligations.VerdictCommandsComplete := by
  intro h
  obtain ⟨-, -, -, -, hnotice⟩ := h
  have hon : (leafAfterVerdict.elapse 0).coreOn = true := by decide +kernel
  have hdie : (leafAfterVerdict.elapse 0).isDie = true := by decide +kernel
  have hup : (leafAfterVerdict.elapse 0).laneUp 1 = true := by decide +kernel
  have hformed : (leafAfterVerdict.elapse 0).ver.lastCell = some ((leafAfterVerdict.elapse 0).frameNow, some 5) := by decide +kernel
  have hnone : (leafAfterVerdict.elapse 0).ver.mismatchWait = [] := by decide +kernel
  obtain ⟨t, hexec, -, -, hwait, -⟩ := hnotice 0 1 0 leafAfterVerdict _ rfl hon hdie hup
  rw [mismatchNotice_of_leaf rfl hon hdie (by decide +kernel) hup] at hexec
  injection hexec with hnext
  have hkept : t.ver.mismatchWait = (leafAfterVerdict.elapse 0).ver.mismatchWait := by
    rw [← hnext]
    exact State.countMismatch_mismatchWait_of_formed (s := (leafAfterVerdict.elapse 0).touch) hformed
  rw [hkept, hnone] at hwait
  exact List.cons_ne_nil _ _ hwait.symm

end Sys2Proof.Machine
end

section
/-! Membership and FAULTY: the rules of the shared operations (08 R178, Table 08-4). -/

namespace Sys2Proof.Machine

open Sys2Proof

-- one theorem after the other: each theorem that waits for the kernel would hold a thread
set_option Elab.async false

/-- `t` has the membership table of `s`, and where `p` holds, its verdict is FAULTY if that of `s` is. -/
def KeepsStanding (p : Prop) (s t : State) : Prop :=
  t.bar.member = s.bar.member ∧ (p → s.rd Dict.verdict = 3 → t.rd Dict.verdict = 3)

/-- VERDICT starts at 0 in every build and role, so what it reads depends on what is stored alone. -/
theorem State.rd_verdict_congr {s t : State} (hregs : t.regs = s.regs) : t.rd Dict.verdict = s.rd Dict.verdict := by
  have hinit (b : Build) (r : Role) : Dict.verdict.init b r 0 = 0 := by cases b <;> rfl
  simp only [State.rd, hregs, hinit]

/-- No member of the object's family has the number of VERDICT. -/
abbrev Ob.missesVerdict (o : Ob) : Prop := 0x2330 < o.idx ∨ o.sub % 256 ≠ 0

theorem Ob.missesVerdict.key {o : Ob} (ho : o.missesVerdict) (m : Nat) : o.key m 0 ≠ Dict.verdict.key 0 0 := by
  show (o.idx + m) * 256 + o.sub + 0 ≠ 0x233000
  omega

theorem Ob.key_ne_verdict_of_past {o : Ob} (ho : 0x2330 < o.idx) (m j : Nat) : o.key m j ≠ Dict.verdict.key 0 0 := by
  show (o.idx + m) * 256 + o.sub + j ≠ 0x233000
  omega

namespace KeepsStanding

theorem refl {p : Prop} (s : State) : KeepsStanding p s s := ⟨rfl, fun _ h => h⟩

section
variable {p : Prop} {s t : State} (h : KeepsStanding p s t)
include h

theorem trans {u : State} (k : KeepsStanding p t u) : KeepsStanding p s u := ⟨k.1.trans h.1, fun hp hs => k.2 hp (h.2 hp hs)⟩

/-- Nothing but what is stored and the barriers counts. -/
theorem of_same {u : State} (hbar : u.bar = t.bar) (hregs : u.regs = t.regs) : KeepsStanding p s u := by
  obtain ⟨hmember, hverdict⟩ := h
  refine ⟨(congrArg Barriers.member hbar).trans hmember, fun hp hs => ?_⟩
  exact (State.rd_verdict_congr hregs).trans (hverdict hp hs)

theorem ite {c : Prop} [Decidable c] {u : State} (k : KeepsStanding p s u) : KeepsStanding p s (if c then t else u) := by
  split
  · exact h
  · exact k

theorem foldl {α : Type} {f : State → α → State} {l : List α}
    (hf : ∀ {u : State} (a : α), KeepsStanding p s u → KeepsStanding p s (f u a)) : KeepsStanding p s (l.foldl f t) :=
  List.foldlRecOn l f h fun _ hu a _ => hf a hu

/-! ### Objects -/

/-- An object with another number takes a value. -/
theorem wrOf {o : Ob} {v m j : Nat} (ho : o.key m j ≠ Dict.verdict.key 0 0) : KeepsStanding p s (t.wr o v m j) :=
  ⟨h.1, fun hp hs => (t.rd_wr_other o Dict.verdict v m j 0 0 ho).trans (h.2 hp hs)⟩

theorem wr {o : Ob} {v m j : Nat} (ho : o.key m j ≠ Dict.verdict.key 0 0 := by decide) : KeepsStanding p s (t.wr o v m j) := h.wrOf ho

theorem bump {o : Ob} {m j n : Nat} (ho : o.key m j ≠ Dict.verdict.key 0 0 := by decide) : KeepsStanding p s (t.bump o m j n) :=
  h.wrOf ho

theorem bumpSat {o : Ob} {m j n : Nat} (ho : o.key m j ≠ Dict.verdict.key 0 0 := by decide) : KeepsStanding p s (t.bumpSat o m j n) :=
  h.wrOf ho

/-- A member of a family takes a value. -/
theorem wrAt {o : Ob} {v m : Nat} (ho : o.missesVerdict := by decide) : KeepsStanding p s (t.wr o v m) := h.wrOf (ho.key m)

theorem bumpAt {o : Ob} {m n : Nat} (ho : o.missesVerdict := by decide) : KeepsStanding p s (t.bump o m 0 n) := h.wrOf (ho.key m)

theorem bumpSatAt {o : Ob} {m n : Nat} (ho : o.missesVerdict := by decide) : KeepsStanding p s (t.bumpSat o m 0 n) := h.wrOf (ho.key m)

end

/-! ### Event records, messages and entries -/

section
variable {p : Prop} {s t : State} (h : KeepsStanding p s t)
include h

/-- What leaves, what is drawn and what is stored beside the scalar objects and the barriers is neither membership nor VERDICT. -/
theorem emit {o : Output} : KeepsStanding p s (t.emit o) := h

theorem drawn : KeepsStanding p s t.drawn := h

theorem wrBytes {o : Ob} {bs : Bytes} {m j : Nat} : KeepsStanding p s (t.wrBytes o bs m j) := h

theorem setCode {o : Ob} {code m : Nat} : KeepsStanding p s (t.setCode o code m) := h

theorem responseLeft {b : Bytes} {a : Nat} : KeepsStanding p s (t.responseLeft b a) := h

theorem setIrq {b : Nat} : KeepsStanding p s (t.setIrq b) := h

theorem countStack {a n : Nat} {write : Bool} : KeepsStanding p s (t.countStack a n write) := h

theorem touch : KeepsStanding p s t.touch := h

/-- What messages, records and journal entries change is neither membership nor VERDICT. -/
theorem messaged {u : State} (k : MessagedFrom t u) : KeepsStanding p s u := by
  refine h.trans ⟨?_, fun _ hs => (k.2.rd (by decide)).trans hs⟩
  obtain ⟨⟨_, _, _, _, _, _, _, _, _, rfl⟩, -⟩ := k
  rfl

theorem raised {u : State} (k : RaisedFrom t u) (ko : KeepsOutside t u) : KeepsStanding p s u := by
  refine h.trans ⟨?_, fun _ hs => (ko.rd (by decide)).trans hs⟩
  obtain ⟨_, _, _, _, _, _, _, _, _, rfl⟩ := k
  rfl

theorem raiseAt {f a : Bool} {ty pl tm fr : Nat} : KeepsStanding p s (t.raiseAt f a ty pl tm fr) := h.raised (.raiseAt ..) (.raiseAt ..)

theorem raise {f a : Bool} {ty pl : Nat} : KeepsStanding p s (t.raise f a ty pl) := h.raiseAt

theorem raiseO {ty pl : Nat} : KeepsStanding p s (t.raiseO ty pl) := h.raise

theorem raiseAlarm {ty pl : Nat} : KeepsStanding p s (t.raiseAlarm ty pl) := h.raise

theorem push {op own} {data : Bytes} : KeepsStanding p s (t.push op data own) := by
  obtain ⟨_, hpush⟩ := t.push_only op data own
  rw [hpush]
  exact h

theorem syncMirror : KeepsStanding p s t.syncMirror := h.wr

theorem writeRecord {slot : Nat} {r : EventRec} {a u c : Bool} : KeepsStanding p s (t.writeRecord slot r a u c) :=
  h.raised (.writeRecord ..) (.writeRecord ..)

theorem storeOwn {r : EventRec} {alarm : Bool} : KeepsStanding p s (t.storeOwn r alarm) := by
  unfold State.storeOwn
  split
  next => exact h
  next k u hslot =>
    have hu : KeepsStanding p s u := h.raised (.takeSlot t u k hslot) (.takeSlot hslot)
    exact .ite hu.writeRecord (.ite hu.writeRecord.bumpSat (hu.writeRecord.raised (.sendOwnAlarm ..) (.sendOwnAlarm ..)))

theorem storeChild {r : EventRec} : KeepsStanding p s (t.storeChild r) := by
  unfold State.storeChild
  split
  next => exact h
  next k u hslot => exact (h.raised (.takeSlot t u k hslot) (.takeSlot hslot)).writeRecord

theorem takeChildRecord {port : Nat} {r : EventRec} : KeepsStanding p s (t.takeChildRecord port r) :=
  .ite h.storeChild.storeChild h.storeChild

theorem bufferAlarm {b : Bytes} {own} : KeepsStanding p s (t.bufferAlarm b own) := h.raised (.bufferAlarm ..) (.bufferAlarm ..)

theorem forwardIn {b : Bytes} : KeepsStanding p s (t.forwardIn b) := .ite h.bufferAlarm h

theorem fitAlarms {l} : KeepsStanding p s (t.fitAlarms l) := wr (t := { t with sch := _ }) h

theorem forwardAlarm {port : Nat} {r : EventRec} : KeepsStanding p s (t.forwardAlarm port r) := by
  unfold State.forwardAlarm
  extract_lets _ send s1
  have hsend {u : State} {b} (hu : KeepsStanding p s u) : KeepsStanding p s (send u b) := .ite hu.push hu.forwardIn
  exact .ite (hsend (hsend h)) (hsend h)

end

theorem queueHeld {p : Prop} {s t : State} (h : KeepsStanding p s t) {n : Nat} : KeepsStanding p s (State.queueHeld n t) := by
  induction n generalizing t with
  | zero => exact h
  | succ n ih =>
    rw [State.queueHeld]
    split
    · exact h
    · exact .ite h (ih (bufferAlarm (t := { t with recd := _ }) h))

theorem writeTallies {p : Prop} {s t : State} (h : KeepsStanding p s t) {n : Nat} : KeepsStanding p s (State.writeTallies n t) := by
  induction n generalizing t with
  | zero => exact h
  | succ n ih =>
    rw [State.writeTallies]
    split
    · exact h
    next x _ =>
      have hx (ts) : KeepsStanding p s { t with recd := { t.recd with tallies := ts } } := h
      exact .ite h (ih (.ite (hx _).storeChild (hx _).storeOwn))

end KeepsStanding

end Sys2Proof.Machine
end

section
/-! Membership and FAULTY: links, queues and the scheduler keep both (chapters 13, 14, 17). -/

namespace Sys2Proof.Machine.KeepsStanding

open Sys2Proof

-- one theorem after the other: each theorem that waits for the kernel would hold a thread
set_option Elab.async false

section
variable {p : Prop} {s t : State} (h : KeepsStanding p s t)
include h

/-! ### Queues -/

theorem setGq {g : Nat} {q : GroupQ} : KeepsStanding p s (t.setGq g q) := h

theorem queued {u : State} (k : QueuedFrom t u) : KeepsStanding p s u := h.messaged (.of_queued k)

theorem enqueue {g c : Nat} {f : QFrame} : KeepsStanding p s (t.enqueue g c f) := h.queued (t.enqueue_only g c f)

theorem enterQueue {n g c : Nat} : KeepsStanding p s (State.enterQueue n t g c) := h.queued (.enterQueue n t g c)

theorem admitAll {g : Nat} : KeepsStanding p s (t.admitAll g) := h.foldl fun _ hu => hu.enterQueue

theorem refresh {g : Nat} : KeepsStanding p s (t.refresh g) := h

theorem keepOld {o : Ob} {m : Nat} : KeepsStanding p s (t.keepOld o m) := by
  unfold State.keepOld
  extract_lets k
  split_ifs
  all_goals exact h

theorem police {g c pre b : Nat} : KeepsStanding p s (t.police g c pre b).2 := h.messaged (.police ..)

theorem endRuns {c level die : Nat} : KeepsStanding p s (t.endRuns c level die) := h.messaged (.endRuns ..)

/-- A count of a group's class. -/
theorem bumpClass {o : Ob} {g c n : Nat} (ho : 0x2330 < o.idx := by decide) : KeepsStanding p s (t.bump o g c n) :=
  h.wrOf (o.key_ne_verdict_of_past ho g c)

theorem bumpSatClass {o : Ob} {g c n : Nat} (ho : 0x2330 < o.idx := by decide) : KeepsStanding p s (t.bumpSat o g c n) :=
  h.wrOf (o.key_ne_verdict_of_past ho g c)

theorem drop {g c level die cseq reason : Nat} : KeepsStanding p s (t.drop g c level die cseq reason) := by
  unfold State.drop
  extract_lets joins s1 s2
  have hs1 : KeepsStanding p s s1 := h.bumpSatClass
  split
  · exact hs1
  · exact hs1.endRuns

theorem sendRelay {g r : Nat} {f : QFrame} : KeepsStanding p s (t.sendRelay g r f) := h.messaged (.sendRelay ..)

theorem redirect {g r c : Nat} {f : QFrame} : KeepsStanding p s (t.redirect g r c f) := by
  unfold State.redirect
  split
  case h_1 => exact .ite h.enqueue h.sendRelay
  case h_2 | h_3 => exact h.bumpSat
  case h_4 | h_5 | h_6 | h_7 => exact h
  case h_8 | h_9 | h_10 | h_11 => exact h.drop
  all_goals exact h.enqueue

theorem enqueueUp {frame c : Nat} {f : QFrame} : KeepsStanding p s (t.enqueueUp frame c f) := by
  unfold State.enqueueUp
  split
  · exact h
  · split
    · exact h.enqueue
    · exact h.redirect

theorem offer {c : Nat} {kind : MsgKind} {body : Bytes} : KeepsStanding p s (t.offer c kind body) := by
  unfold State.offer
  split
  next => exact h
  next g _ =>
    extract_lets die restart cseq _ s1 size send r
    have hsend {u : State} {colour : Nat} (hu : KeepsStanding p s u) : KeepsStanding p s (send u colour) := hu.endRuns.enqueue
    have hs1 : KeepsStanding p s s1 := h
    exact .ite hs1.drop (.ite (hsend hs1) (.ite hs1.drop (.ite hs1.police.drop (hsend hs1.police))))

theorem offerRequest {g : Nat} {bytes : Bytes} : KeepsStanding p s (t.offerRequest g bytes).2 := by
  unfold State.offerRequest
  split
  · exact h.bumpSat
  · extract_lets r
    split
    · exact bumpSat (t := r.2.drawn) h.police
    · exact h.police.enqueue

/-! ### Links -/

theorem txOn {q : Nat} {b : Bytes} : KeepsStanding p s (t.txOn q b) := by
  unfold State.txOn State.countPort
  exact .ite (bumpAt (t := t.emit _) h) (bumpAt (t := t.emit _) h)

theorem rxOn {q n : Nat} : KeepsStanding p s (t.rxOn q n) := by
  unfold State.rxOn State.countPort
  exact .ite h.bumpAt h.bumpAt

theorem setLink {g : Nat} {l : Link} : KeepsStanding p s (t.setLink g l) := h

theorem sendSeq {g typ cls : Nat} {q : QFrame} : KeepsStanding p s (t.sendSeq g typ cls q) := h.setLink.txOn

theorem sendCtl {g typ : Nat} {b : Bytes} : KeepsStanding p s (t.sendCtl g typ b) := .ite h.txOn h

theorem sendCredit {g : Nat} : KeepsStanding p s (t.sendCredit g) := h.setLink.sendCtl

theorem sendRoute {g typ : Nat} {b : Bytes} : KeepsStanding p s (t.sendRoute g typ b) := .ite h (.ite h.sendSeq h)

theorem freeCredit {g : Nat} : KeepsStanding p s (t.freeCredit g) := h

theorem releaseCredits : KeepsStanding p s t.releaseCredits := h.foldl fun _ hu => hu.freeCredit.sendCredit

end

theorem sendWaiting {p : Prop} {s t : State} (h : KeepsStanding p s t) {n g : Nat} : KeepsStanding p s (State.sendWaiting n t g) := by
  induction n generalizing t with
  | zero => exact h
  | succ n ih =>
    rw [State.sendWaiting]
    split
    · exact h
    · exact .ite (ih h.setLink.sendSeq) h

/-! ### DATA decisions (14 R299 to R312) -/

section
variable {p : Prop} {s t : State} (h : KeepsStanding p s t)
include h

theorem sendAlarms {g : Nat} : KeepsStanding p s (t.sendAlarms g) := by
  unfold State.sendAlarms
  extract_lets out bytes nums ring _ s1 s2
  have hs1 : KeepsStanding p s s1 := fitAlarms (t := { t with recd := _ }) h
  have hs2 : KeepsStanding p s s2 := hs1.bumpClass.sendSeq
  exact .ite hs2.setIrq hs2

theorem sendClass {g c : Nat} {f : QFrame} : KeepsStanding p s (t.sendClass g c f) := by
  unfold State.sendClass
  extract_lets q s1 s2 q2
  have hs1 : KeepsStanding p s s1 := h
  have hs2 : KeepsStanding p s s2 := hs1.bumpClass.sendSeq.admitAll.responseLeft
  exact .ite hs2 hs2.setGq

end

theorem serveDrr {p : Prop} {s t : State} (h : KeepsStanding p s t) {n g : Nat} : KeepsStanding p s (State.serveDrr n t g) := by
  induction n generalizing t with
  | zero => exact h
  | succ n ih =>
    rw [State.serveDrr]
    have hq {q : GroupQ} : KeepsStanding p s (t.setGq g q) := h
    split
    · exact h
    · extract_lets d q1
      split
      · exact h
      · exact .ite hq.sendClass (ih hq)

section
variable {p : Prop} {s t : State} (h : KeepsStanding p s t)
include h

theorem dataDecision {g : Nat} : KeepsStanding p s (t.dataDecision g) :=
  .ite h (.ite h.admitAll.refresh.sendAlarms h.admitAll.refresh.serveDrr)

theorem decide_ {g : Nat} : KeepsStanding p s (t.decide_ g) := by
  unfold State.decide_
  split
  · exact h
  · extract_lets s1
    have hs1 : KeepsStanding p s s1 := h
    split
    · split
      · exact .ite hs1.sendClass hs1
      · exact hs1
    · exact hs1.dataDecision.releaseCredits

theorem spaceFreed : KeepsStanding p s t.spaceFreed := h.fitAlarms.queueHeld.writeTallies.releaseCredits

theorem writeRun {r : DropRun} : KeepsStanding p s (t.writeRun r) := h.raiseO

theorem sendMirror : KeepsStanding p s t.sendMirror := by
  unfold State.sendMirror
  extract_lets m slots ring body _ s1
  have hs1 : KeepsStanding p s s1 := h
  exact hs1.syncMirror.offer

end

end Sys2Proof.Machine.KeepsStanding
end

section
/-! Membership and FAULTY: local time, the ways in which a command comes, and answers keep both (chapters 02, 15, 18 and 19). -/

namespace Sys2Proof.Machine.KeepsStanding

open Sys2Proof

-- one theorem after the other: each theorem that waits for the kernel would hold a thread
set_option Elab.async false

/-! ### Answers (15 R317 to R330) -/

section
variable {p : Prop} {s t : State} (h : KeepsStanding p s t)
include h

theorem answer {src : DapSource} {r : DapReq} {st co total retry : Nat} {data : Bytes} :
    KeepsStanding p s (t.answer src r st co total data retry) := by
  obtain ⟨_, _, _, hanswer⟩ := t.answer_only src r st co total data retry
  rw [hanswer]
  exact h

theorem respond {src : DapSource} {b : Bytes} : KeepsStanding p s (t.respond src b) := by
  cases src with
  | mailbox => exact h
  | lane q => exact h.enqueue
  | mgmt a q => exact h

theorem answerLost {src : DapSource} {r : DapReq} {reason : Nat} : KeepsStanding p s (t.answerLost src r reason) := h.bumpSat.answer

theorem answerWrite {rq : Requester} {o : Ob} {m st co : Nat} : KeepsStanding p s (t.answerWrite rq o m st co) := h.answer

theorem queueRequest : KeepsStanding p s t.queueRequest := h

theorem serveAny {src : DapSource} {r : DapReq} {aborts busy : State → Bool} {act : State → State}
    (hact : ∀ {u : State}, KeepsStanding p s u → KeepsStanding p s (act u)) : KeepsStanding p s (State.serveAny src r aborts busy act t) := by
  have hcounted : KeepsStanding p s (t.touch.queueRequest.bump Dict.served) := h.touch.queueRequest.bump
  unfold State.serveAny
  extract_lets s0
  split
  · exact .ite h.touch.answer (hact hcounted)
  · exact h.touch.bump.answer
  · exact h.touch.answer

theorem serveRead {src : DapSource} {r : DapReq} {act : State → State}
    (hact : ∀ {u : State}, KeepsStanding p s u → KeepsStanding p s (act u)) : KeepsStanding p s (State.serveRead src r act t) := h.serveAny hact

theorem serveWrite {rq : Requester} {o : Ob} {m : Nat} {act : State → State}
    (hact : ∀ {u : State}, KeepsStanding p s u → KeepsStanding p s (act u)) : KeepsStanding p s (State.serveWrite rq o m act t) :=
  h.serveRead hact

theorem serveCmd {rq : Requester} {o : Ob} {m : Nat} {act : State → State × Nat}
    (hact : ∀ {u : State}, KeepsStanding p s u → KeepsStanding p s (act u).1) : KeepsStanding p s (State.serveCmd rq o m act t) :=
  h.serveWrite fun hu => (hact hu).setCode.answerWrite

theorem beginAction {src : DapSource} {id : Nat} {o : Ob} {m : Nat} : KeepsStanding p s (t.beginAction src id o m) := h

theorem actionDone {o : Ob} {m code : Nat} : KeepsStanding p s (t.actionDone o m code) := h

theorem serveLong {rq : Requester} {o : Ob} {m v : Nat} {start : State → State}
    (hstart : ∀ {u : State}, KeepsStanding p s u → KeepsStanding p s (start u)) : KeepsStanding p s (State.serveLong rq o m v start t) :=
  h.serveWrite fun hu => by
    split
    · exact hu
    · exact hstart hu.beginAction

theorem dropWrite {key : Nat} : KeepsStanding p s (t.dropWrite key) := h

theorem segment {rq : Requester} {key offset total : Nat} {data : Bytes} :
    KeepsStanding p s (t.segment rq key offset total data).2 := by
  unfold State.segment
  extract_lets cur others
  clear_value cur
  split
  · split <;> exact h
  · split
    · exact h
    · split
      · exact h
      · split <;> exact h

theorem serveSegment {rq : Requester} {o : Ob} {m offset total : Nat} {data : Bytes} {ended : State → State}
    {take : Bool → Bool → Bytes → State → State} (hended : ∀ {u : State}, KeepsStanding p s u → KeepsStanding p s (ended u))
    (htake : ∀ {u : State} {first last whole}, KeepsStanding p s u → KeepsStanding p s (take first last whole u)) :
    KeepsStanding p s (State.serveSegment rq o m offset total data ended take t) := by
  refine h.serveAny fun {u} hu => ?_
  have hsegment : KeepsStanding p s (u.segment rq (o.key m 0) offset total data).2 := hu.segment
  split
  next heq =>
    rw [heq] at hsegment
    exact (ite (hended hsegment) hsegment).answer
  next heq =>
    rw [heq] at hsegment
    exact (htake (ite (hended hsegment) hsegment)).answer

theorem openRead {key : Nat} {data : Bytes} : KeepsStanding p s (t.openRead key data) := h

end

theorem drainMgmt {p : Prop} {s t : State} (h : KeepsStanding p s t) {n start : Nat} : KeepsStanding p s (State.drainMgmt n start t) := by
  induction n generalizing t with
  | zero => exact h
  | succ n ih =>
    rw [State.drainMgmt]
    split_ifs
    · exact h
    · exact h
    · split
      · exact h
      next f d _ =>
        extract_lets ring until_ _ s1
        have hs1 : KeepsStanding p s s1 := h
        exact ih hs1.responseLeft.emit

/-! ### Local time and the shutter's schedules (02 R32, R44 to R46) -/

section
variable {p : Prop} {s t : State} (h : KeepsStanding p s t)
include h

theorem wake {source detail cls : Nat} : KeepsStanding p s (t.wake source detail cls) := by
  obtain ⟨_, hwake⟩ := t.wake_only source detail cls
  rw [hwake]
  exact h

theorem raiseIsland {f a : Bool} {ty pl tm fr : Nat} : KeepsStanding p s (t.raiseIsland f a ty pl tm fr) := by
  unfold State.raiseIsland
  extract_lets _ s1
  have hs1 : KeepsStanding p s s1 := h
  exact .ite h.raiseAt (.ite hs1.wake hs1)

theorem raiseIslandNow {f a : Bool} {ty pl : Nat} : KeepsStanding p s (t.raiseIslandNow f a ty pl) := h.raiseIsland

theorem setChan {c : Nat} {ch : ShutterChannel} : KeepsStanding p s (t.setChan c ch) := h

theorem adoptOne {c : Nat} : KeepsStanding p s (t.adoptOne c) := by
  unfold State.adoptOne
  extract_lets ch
  split
  · exact h
  · split
    · extract_lets q
      have hq : KeepsStanding p s q.2 := by
        unfold q
        split <;> exact h
      exact hq.setChan.wrAt.wrAt.wrAt
    · exact h

theorem adoptSchedules : KeepsStanding p s t.adoptSchedules := h.foldl fun _ hu => hu.adoptOne

theorem skipBefore {c limit : Nat} : KeepsStanding p s (t.skipBefore c limit).1 := by
  unfold State.skipBefore
  extract_lets ch
  split
  · exact h
  · split
    · exact h
    · exact h.setChan.bumpSatAt

theorem skipChannel {c : Nat} : KeepsStanding p s (t.skipChannel c) := by
  unfold State.skipChannel
  extract_lets limit cut r1 s2 r2 rep
  have hr2 : KeepsStanding p s r2.1 := h.skipBefore.adoptOne.skipBefore
  clear_value rep
  split
  · exact hr2
  · exact hr2.raiseIslandNow

theorem stepTime {new : Nat} : KeepsStanding p s (t.stepTime new) := by
  unfold State.stepTime
  extract_lets fwd _ _ s1
  have hs1 : KeepsStanding p s s1 := h
  exact .ite (hs1.foldl fun _ hu => hu.skipChannel) hs1

/-! ### The mailbox's claims (18 R379, R382) -/

theorem setBell {k : Nat} {b : Bell} : KeepsStanding p s (t.setBell k b) := h

theorem bellLate {e : Nat × Bell} : KeepsStanding p s (t.bellLate e) := .ite h.setBell.bumpSat.raiseO.setIrq h.setBell.bumpSat.raiseO

theorem setMb {m : Mailbox} : KeepsStanding p s (t.setMb m) := h

theorem acknowledge {c : H2bClaim} : KeepsStanding p s (t.acknowledge c) := by
  unfold State.acknowledge
  extract_lets b s1
  have hs1 : KeepsStanding p s s1 := .ite h.bellLate h
  exact hs1.setMb.wr.setBell.setIrq

theorem serveClaims : KeepsStanding p s t.serveClaims := .ite h (h.setMb.foldl fun _ hu => hu.acknowledge)

/-! ### The ways in which a command comes -/

theorem elapse {dt : Nat} : KeepsStanding p s (t.elapse dt) := by
  unfold State.elapse
  extract_lets start now hours _ _ _ s1
  have hs1 : KeepsStanding p s s1 := h
  exact hs1.drainMgmt.serveClaims.adoptSchedules

theorem within {u : State} : KeepsStanding p s (t.within u) :=
  h.of_same rfl rfl

theorem park {i : Instr} : KeepsStanding p s (t.park i) := h

end

section
variable {p : Prop} {s : State} {dt : Nat} {i : Instr} {f : State → State}
  (hf : ∀ {u : State}, KeepsStanding p s u → KeepsStanding p s (f u))
include hf

theorem after : KeepsStanding p s (s.after dt f) := (hf (refl s).elapse).within

theorem core : KeepsStanding p s (s.core dt f) := after fun hu => .ite (hf hu) hu

theorem island : KeepsStanding p s (s.island dt f) := after fun hu => .ite hu (hf hu)

theorem fromHost {src : Nat} : KeepsStanding p s (s.fromHost dt src i f) :=
  after fun hu => .ite (hf hu) (.ite hu.park hu.park.wake)

theorem fromLane {q cls : Nat} : KeepsStanding p s (s.fromLane dt q cls i f) :=
  after fun hu => .ite (hf hu) (.ite hu hu.park.wake)

theorem fromMgmt {bad : Bool} : KeepsStanding p s (s.fromMgmt dt bad i f) :=
  after fun hu => .ite (hf hu) (.ite hu (.ite hu.bumpSat hu.park.wake))

theorem fromSource {src : DapSource} {bad : Bool} : KeepsStanding p s (s.fromSource dt src bad i f) := by
  cases src with
  | mailbox => exact fromHost hf
  | lane q => exact fromLane hf
  | mgmt a q => exact fromMgmt hf

theorem asked {rq : Requester} {r : DapReq} : KeepsStanding p s (s.asked dt rq r f) := fromSource hf

end

end Sys2Proof.Machine.KeepsStanding
end

section
/-! Membership and FAULTY: the recorder's and the uplink's requests and the developer's slots keep both (chapters 05, 06, 14, 17). -/

namespace Sys2Proof.Machine.KeepsStanding

open Sys2Proof

-- one theorem after the other: each theorem that waits for the kernel would hold a thread
set_option Elab.async false

section
variable {p : Prop} {s t : State} (h : KeepsStanding p s t)
include h

/-! ### Gates, clears and windows (14 R305, 17 R354 to R356) -/

theorem serveGateApply {rq : Requester} {q : Nat} : KeepsStanding p s (State.serveGateApply rq q t) := by
  refine h.serveWrite fun {u} hu => .ite hu.answerWrite (.ite hu.setCode.answerWrite ?_)
  extract_lets r _ s1
  have hr : KeepsStanding p s r.2 := by
    unfold r
    split <;> exact hu
  exact hr.setGq.refresh.setCode.answerWrite

theorem clearClass {f : Bool} : KeepsStanding p s (t.clearClass f) := by
  unfold State.clearClass
  have hring {r : Recorder} : KeepsStanding p s { t with recd := r } := h
  cases f
  · exact hring.wr.syncMirror
  · exact hring.wr.syncMirror

theorem fillFreed : KeepsStanding p s t.fillFreed := h.writeTallies

theorem serveClearF {rq : Requester} : KeepsStanding p s (State.serveClearF rq t) := h.serveCmd fun hu => hu.clearClass.fillFreed

theorem serveClearO {rq : Requester} : KeepsStanding p s (State.serveClearO rq t) := h.serveCmd fun hu => hu.clearClass.fillFreed

theorem serveClearBoth {rq : Requester} : KeepsStanding p s (State.serveClearBoth rq t) :=
  h.serveCmd fun hu => hu.clearClass.clearClass.fillFreed

theorem readWindow {src : DapSource} {r : DapReq} {f : Bool} : KeepsStanding p s (t.readWindow src r f) := by
  cases f
  · exact h.wr.answer
  · exact h.wr.answer

theorem serveWindow {rq : Requester} {f : Bool} : KeepsStanding p s (State.serveWindow rq f t) := h.serveRead fun hu => hu.readWindow

/-! ### Slots and their queues (05 R104 to R109, 06 R119 to R122) -/

theorem setDslot {k : Nat} {d : DevSlot} : KeepsStanding p s (t.setDslot k d) := h

theorem syncQueue {k : Nat} : KeepsStanding p s (t.syncQueue k) := by
  unfold State.syncQueue
  exact .ite h.wrAt.setDslot h.wrAt

theorem entry {kind frame : Nat} {b : Bytes} : KeepsStanding p s (t.journalEntry kind frame b) := h.messaged (.journalEntry ..)

theorem slotEvent {k event pred frame : Nat} {d : Bytes} : KeepsStanding p s (t.slotEvent k event pred frame d) :=
  h.messaged (.ownEntry ..)

theorem slotEmpty {k : Nat} : KeepsStanding p s (t.slotEmpty k) := h.wr.wrAt.wrAt.wrAt.wrAt.wrAt.wrAt.wrAt.setDslot

theorem inherit {k f : Nat} {pred : Option Nat} : KeepsStanding p s (t.inherit k f pred) := by
  cases pred with
  | none => exact h
  | some q => exact .ite h.wrAt.wrAt.wrAt.wrAt.setDslot h.wrAt.wrAt.wrAt.wrAt

theorem switchSlot {k : Nat} : KeepsStanding p s (t.switchSlot k) := by
  cases hswap : (t.dslot k).swap with
  | none =>
    rw [State.switchSlot_idle hswap]
    exact h
  | some e =>
    have hbegun : KeepsStanding p s (t.begun k e.1 e.2) := h.inherit.setDslot.wrAt
    exact hbegun.messaged (State.switchSlot_begun hswap)

theorem reachFrame {frame : Nat} : KeepsStanding p s (t.reachFrame frame) :=
  h.trans (State.reachFrame_keeps refl (fun hu hv => hu.trans hv) (fun u _ => (refl u).switchSlot) t frame)

theorem unscoredEntry {v : DevVec} {k reason : Nat} : KeepsStanding p s (t.unscoredEntry v k reason) := h.entry

theorem startBatch {k : Nat} : KeepsStanding p s (t.startBatch k) := by
  unfold State.startBatch
  extract_lets d
  split
  · exact h
  · split
    · split
      · exact h.setDslot.syncQueue.countStack
      · exact h.setDslot.syncQueue
    · exact h.setDslot.syncQueue

theorem enqueueVec {k : Nat} {v : DevVec} : KeepsStanding p s (t.enqueueVec k v) := by
  unfold State.enqueueVec
  extract_lets d full s0 seen _ s1
  have hs0 {pw : Power} : KeepsStanding p s { s0 with pw := pw } := h.setDslot.syncQueue
  have hs1 : KeepsStanding p s s1 := hs0.startBatch
  exact .ite hs1.unscoredEntry hs1

theorem afterRetire {kind gen : Nat} {v : DevVec} {k : Nat} : KeepsStanding p s (t.afterRetire kind gen v k) := by
  unfold State.afterRetire
  extract_lets d
  split
  · exact .ite h.setDslot.unscoredEntry h
  · exact h

theorem enterSlot {kind : Nat} {v : DevVec} {k : Nat} : KeepsStanding p s (State.enterSlot kind v t k) :=
  .ite (.ite h.bumpSat.unscoredEntry h.enqueueVec) h.afterRetire

theorem enterSlots {kind : Nat} {v : DevVec} : KeepsStanding p s (t.enterSlots kind v) := h.reachFrame.foldl fun _ hu => hu.enterSlot

/-! ### Scores (05 R110, R111, 08 R172) -/

theorem scoreVec {k : Nat} {v : DevVec} : KeepsStanding p s (t.scoreVec k v).2 := by
  unfold State.scoreVec
  extract_lets blank
  split
  · exact h
  · split
    · exact h
    · split
      · exact h
      · split <;> exact h

theorem screenDie {die : Nat} : KeepsStanding p s (t.screenDie die) := by
  unfold State.screenDie
  split
  · exact h
  next frame v engine score _ =>
    extract_lets _ s1
    have hs1 : KeepsStanding p s s1 := h
    exact .ite hs1.raiseO.bumpSat hs1

theorem screenScore {r : ScoreRec} : KeepsStanding p s (t.screenScore r) := by
  unfold State.screenScore
  split
  · exact h
  · extract_lets die s1 v new put
    have hs1 : KeepsStanding p s s1 := by
      unfold s1
      split
      · exact .ite h.screenDie h
      · exact h
    have hput : KeepsStanding p s (put s1) := hs1
    clear_value s1
    split
    · exact hs1
    · split
      · exact hput
      · split
        · exact hput
        · exact hs1

theorem sheetScore {r : ScoreRec} : KeepsStanding p s (t.sheetScore r) := by
  unfold State.sheetScore
  split
  · exact h
  · extract_lets frames
    split
    · exact h
    · split <;> exact h

theorem deliverScore {r : ScoreRec} : KeepsStanding p s (t.deliverScore r) := by
  unfold State.deliverScore
  extract_lets own waits _ s1 _ s2 x _ s3
  have hs1 : KeepsStanding p s s1 := by
    unfold s1
    split <;> exact h
  have hs2 : KeepsStanding p s s2 := .ite hs1.setDslot hs1
  have hs3 : KeepsStanding p s s3 := by
    unfold s3
    split <;> exact hs2
  exact hs3.screenScore.sheetScore

theorem scoreDone {k : Nat} : KeepsStanding p s (t.scoreDone k) := by
  unfold State.scoreDone
  extract_lets d
  split
  · exact h
  · split
    · exact h
    · extract_lets r rd s1 s2 _ _ s3
      have hs1 : KeepsStanding p s s1 := h.scoreVec.setDslot.syncQueue.startBatch
      have hs2 : KeepsStanding p s s2 := hs1.bumpAt.bumpAt.wrBytes
      clear_value s2
      have hs3 : KeepsStanding p s s3 := by
        unfold s3
        split
        · have hcounted : KeepsStanding p s ((s2.bumpSat Dict.slotUnscored k).bumpSat Dict.unscoredAll) := hs2.bumpSatAt.bumpSat
          exact hcounted.of_same rfl rfl
        · exact hs2.bump
      exact hs3.deliverScore

/-! ### Images and loads (06 R115 to R118) -/

theorem loadFails {k code : Nat} : KeepsStanding p s (t.loadFails k code) := by
  unfold State.loadFails
  extract_lets s1 _ s2
  have hs2 : KeepsStanding p s s2 := h.wrAt.wrAt.setDslot
  split
  · exact .ite hs2.actionDone hs2
  · exact hs2

theorem loadOk {k : Nat} {i : ImageHeader} {img : Bytes} {l : SlotLoad} : KeepsStanding p s (t.loadOk k i img l) := by
  unfold State.loadOk
  extract_lets resident image s1 s2 s3 d s4
  have hs1 : KeepsStanding p s s1 := h.wrAt.wrAt
  have hs2 : KeepsStanding p s s2 := .ite hs1.wr.wrAt hs1.wrAt
  have hs4 : KeepsStanding p s s4 := hs2.wrAt.wrAt.wrAt.wrAt.wrAt.setDslot
  exact .ite hs4.actionDone hs4

theorem loadEnd {k : Nat} : KeepsStanding p s (t.loadEnd k) := by
  unfold State.loadEnd
  split
  · exact h
  · split
    · exact h.loadFails
    · split
      · exact h
      · extract_lets i s1
        have hs1 : KeepsStanding p s s1 := .ite h.drawn h
        split
        · exact hs1.loadFails
        · split
          · exact hs1.loadOk
          · exact hs1.loadFails
    · extract_lets i img s1
      have hs1 : KeepsStanding p s s1 := .ite h.countStack h.drawn
      split
      · exact hs1.loadOk
      · exact hs1.loadFails

theorem testTransfer {k : Nat} : KeepsStanding p s (t.testTransfer k) := by
  unfold State.testTransfer
  split
  · exact h
  · exact .ite h h.setDslot

theorem notEmpty {k : Nat} : KeepsStanding p s (t.notEmpty k) := .ite h h.wrAt

theorem loadBegins {k : Nat} {l : SlotLoad} : KeepsStanding p s (t.loadBegins k l) := h.setDslot.wrAt.wrAt

theorem takeImage {k total : Nat} {data : Bytes} {first last : Bool} : KeepsStanding p s (State.takeImage k total data first last t) := by
  unfold State.takeImage
  split
  · exact .ite h.loadBegins.testTransfer h.notEmpty
  · split
    · exact .ite h (.ite h.setDslot h.setDslot.testTransfer)
    · exact h

theorem imageAborted {k : Nat} : KeepsStanding p s (t.imageAborted k) := by
  unfold State.imageAborted
  split
  · exact .ite h.loadFails h
  · exact h

theorem serveImage {rq : Requester} {k offset total : Nat} {data : Bytes} : KeepsStanding p s (State.serveImage rq k offset total data t) :=
  h.serveSegment (fun hu => hu.imageAborted) fun hu => hu.takeImage

theorem stackWrite {a : Nat} {bs : Bytes} : KeepsStanding p s (t.stackWrite a bs) := h.messaged (.stackWrite ..)

theorem takeStack {data : Bytes} : KeepsStanding p s (State.takeStack data t) := by
  unfold State.takeStack
  extract_lets a lib ok s1
  have hs1 : KeepsStanding p s s1 := by
    unfold s1
    split
    · exact h.stackWrite
    · exact h
  exact hs1.wr

theorem serveStackWrite {rq : Requester} {offset total : Nat} {data : Bytes} :
    KeepsStanding p s (State.serveStackWrite rq offset total data t) := h.serveSegment id fun hu => hu.takeStack

theorem loadStack {k : Nat} : KeepsStanding p s (State.loadStack k t) := by
  unfold State.loadStack
  split
  · exact h.notEmpty.actionDone
  · extract_lets a bs s1
    have hs1 : KeepsStanding p s s1 := .ite h.countStack h.drawn
    exact hs1.loadBegins

theorem serveLoadStack {rq : Requester} {k : Nat} : KeepsStanding p s (State.serveLoadStack rq k t) := h.serveLong fun hu => hu.loadStack

/-! ### Slots in use (06 R119 to R124) -/

theorem activate {k v : Nat} : KeepsStanding p s (State.activate k v t).1 := by
  unfold State.activate
  extract_lets f pred predBad predSched
  split_ifs
  all_goals exact h

theorem serveActivate {rq : Requester} {k v : Nat} : KeepsStanding p s (State.serveActivate rq k v t) := h.serveCmd fun hu => hu.activate

theorem unload {k : Nat} : KeepsStanding p s (State.unload k t).1 := by
  unfold State.unload
  split
  · exact h
  · exact h.loadFails.dropWrite
  · split
    · exact h
    · exact h.slotEvent.slotEmpty
  · split
    · exact h
    · exact h.setDslot.slotEvent

theorem serveUnload {rq : Requester} {k : Nat} : KeepsStanding p s (State.serveUnload rq k t) := h.serveCmd fun hu => hu.unload

theorem retireSlot {k : Nat} : KeepsStanding p s (t.retireSlot k) := by
  unfold State.retireSlot
  extract_lets d
  split
  · exact h
  · exact .ite h.wrAt.wrAt.setDslot.slotEvent h

theorem phaseChanged {old : Nat} : KeepsStanding p s (t.phaseChanged old) := h.messaged (.phaseChanged ..)

theorem serveDevPhase {rq : Requester} {v : Nat} : KeepsStanding p s (State.serveDevPhase rq v t) :=
  h.serveWrite fun hu => (ite hu hu.drawn).wr.phaseChanged.answerWrite

end

end Sys2Proof.Machine.KeepsStanding
end

section
/-! Membership and FAULTY: evidence of silent errors keeps both (chapter 10). -/

namespace Sys2Proof.Machine.KeepsStanding

open Sys2Proof

-- one theorem after the other: each theorem that waits for the kernel would hold a thread
set_option Elab.async false

section
variable {p : Prop} {s t : State} (h : KeepsStanding p s t)
include h

/-! ### Tags, brackets and shards (10 R208 to R220, R226 to R228) -/

theorem setEv {e : Evidence} : KeepsStanding p s (t.setEv e) := h

theorem ceSend {m : CeOut} : KeepsStanding p s (t.ceSend m) := h

theorem mbSend {door kind : Nat} {b : Bytes} : KeepsStanding p s (t.mbSend door kind b) := h

theorem binMismatch {n : Nat} {cell : Option Nat} : KeepsStanding p s (t.binMismatch n cell) := by
  cases cell with
  | none => exact h.bumpSat
  | some c => exact h

theorem countMismatch : KeepsStanding p s t.countMismatch := by
  unfold State.countMismatch
  extract_lets _ s1
  have hs1 : KeepsStanding p s s1 := bumpSat (t := { t with ver := _ }) h
  clear_value s1
  split
  · split
    · exact hs1.binMismatch
    · exact hs1
  · exact hs1

theorem emitDigest {d : DigestRec} : KeepsStanding p s (t.emitDigest d) := h.setEv.bumpSat.enqueueUp

theorem tagOpen {tag base : Nat} : KeepsStanding p s (t.tagOpen tag base) := by
  unfold State.tagOpen
  extract_lets k held slot
  split <;> exact h

theorem tagClose {tag : Nat} : KeepsStanding p s (t.tagClose tag) := by
  unfold State.tagClose
  extract_lets k found taps inc ord _ d _ s1
  have hs1 : KeepsStanding p s s1 := .ite h.setEv h
  exact hs1.bump.emitDigest

theorem bracketSelect {cmd engine cls tag tile : Nat} {dup : Bool} : KeepsStanding p s (t.bracketSelect cmd engine cls tag tile dup) := by
  unfold State.bracketSelect
  split
  · exact h
  · extract_lets _ s1
    have hs1 : KeepsStanding p s s1 := h.setEv
    split
    · split
      · exact hs1.bumpSat.ceSend
      · exact hs1.setEv.bump.ceSend.ceSend
    · exact hs1.ceSend

theorem freeSlotB {i : Nat} : KeepsStanding p s (t.freeSlotB i) := h

theorem bracketCompare {i : Nat} {b : BracketSlot} : KeepsStanding p s (t.bracketCompare i b) := by
  unfold State.bracketCompare
  extract_lets o d s1 _ s2 _ s3
  have hs2 : KeepsStanding p s s2 := h.freeSlotB.bump.setEv
  exact .ite hs2 hs2.setEv.bumpSat.raiseAlarm.countMismatch

theorem bktOpen {slot side base : Nat} : KeepsStanding p s (t.bktOpen slot side base) := by
  unfold State.bktOpen
  split
  · exact h
  · exact h.setEv

theorem bktClose {slot side engine : Nat} : KeepsStanding p s (t.bktClose slot side engine) := by
  unfold State.bktClose
  split
  · exact h
  · exact .ite h.bracketCompare h.setEv

theorem dupDecline {slot : Nat} : KeepsStanding p s (t.dupDecline slot) := .ite h.freeSlotB.bumpSat h

theorem bracketTimeout {e : Nat × BracketSlot} : KeepsStanding p s (t.bracketTimeout e) := h.freeSlotB.bumpSat.raiseO

theorem shardOpen {slot dir id : Nat} : KeepsStanding p s (t.shardOpen slot dir id) := h

theorem shardRange {slot length base : Nat} : KeepsStanding p s (t.shardRange slot length base) := by
  unfold State.shardRange
  extract_lets st q sh
  split <;> exact h

theorem shardClose {slot : Nat} {done : Bool} : KeepsStanding p s (t.shardClose slot done) := by
  unfold State.shardClose
  split
  · exact h.setEv.bumpSat.emitDigest
  · have hcounted {n : Nat} : KeepsStanding p s { t.bumpSat Dict.shardDigests with free := n } := h.bumpSat
    exact hcounted.emitDigest

/-! ### Lines at the loupes (10 R205 to R211) -/

theorem lineToTag {k : Nat} {l : TapLine} : KeepsStanding p s (t.lineToTag k l) := by
  unfold State.lineToTag
  split
  · exact h.setEv
  · exact h.bump

theorem lineToBracket {k : Nat} {l : TapLine} : KeepsStanding p s (t.lineToBracket k l) := by
  unfold State.lineToBracket
  split
  · exact h
  · exact h.setEv

theorem lineToShard {k : Nat} {l : TapLine} : KeepsStanding p s (t.lineToShard k l) := by
  unfold State.lineToShard
  split
  · exact h
  · exact .ite h (.ite h.setEv (.ite h.setEv h.setEv.drawn))

theorem overtakeCheck {k : Nat} {l : TapLine} : KeepsStanding p s (t.overtakeCheck k l) := h.setEv.bump

theorem spoilLine {l : TapLine} : KeepsStanding p s (t.spoilLine l) := h

theorem lineEnters {k : Nat} {l : TapLine} : KeepsStanding p s (t.lineEnters k l) := by
  unfold State.lineEnters
  refine .ite h.spoilLine (.ite h.lineToShard (.ite h ?_))
  extract_lets s1
  have hs1 : KeepsStanding p s s1 := .ite (.ite h.lineToBracket h.lineToTag.lineToBracket) h.lineToTag
  exact hs1.overtakeCheck

theorem countLine {k : Nat} {write : Bool} : KeepsStanding p s (t.countLine k write) := h

theorem resetLoupe {k : Nat} : KeepsStanding p s (t.resetLoupe k) := h

/-! ### Overlays (10 R212 to R216) -/

theorem serveOverlayArm {rq : Requester} : KeepsStanding p s (State.serveOverlayArm rq t) := h.serveCmd fun hu => hu.setEv.wr

theorem serveOverlayDisarm {rq : Requester} : KeepsStanding p s (State.serveOverlayDisarm rq t) := h.serveCmd fun hu => hu.setEv.wr

theorem sendNotice {suspect : Nat} : KeepsStanding p s (t.sendNotice suspect) := by
  unfold State.sendNotice
  split
  · exact h
  · exact h.drawn.enqueue

theorem overlayOutcome {i cause : Nat} {sus spa : Option DigestRec} : KeepsStanding p s (t.overlayOutcome i cause sus spa) := by
  unfold State.overlayOutcome
  refine .ite h.bump ?_
  extract_lets tag ord pr s1 s2
  have hs1 : KeepsStanding p s s1 := .ite h.bumpSat h.bumpSat
  exact .ite hs1.raiseAlarm.sendNotice hs1.raiseAlarm

theorem setUnmatched {k : Nat} {l : List (DigestRec × Nat)} : KeepsStanding p s (t.setUnmatched k l) := h

theorem overlayTimeout {i : Nat} {spare : Bool} {d : DigestRec} : KeepsStanding p s (t.overlayTimeout i spare d) := h.overlayOutcome

theorem overlayMatch {i : Nat} {spare : Bool} {d : DigestRec} : KeepsStanding p s (t.overlayMatch i spare d) := by
  unfold State.overlayMatch
  extract_lets mine other l
  clear_value l
  split
  · exact h.setUnmatched.overlayOutcome
  · split
    · split
      · exact h.setUnmatched.overlayTimeout
      · exact h
    · exact h.setUnmatched

theorem digestArrives {q : Nat} {d : DigestRec} : KeepsStanding p s (t.digestArrives q d) := by
  unfold State.digestArrives
  extract_lets up s1
  have hup {u : State} (hu : KeepsStanding p s u) : KeepsStanding p s (up u) := hu.enqueueUp
  have hs1 : KeepsStanding p s s1 := h.entry
  split
  · split
    · exact hs1
    · split
      · exact hs1.overlayMatch
      · exact .ite hs1.bumpSat (hup hs1)
  · exact .ite (.ite h.push (hup h)) h

theorem overlayExpire {k : Nat} : KeepsStanding p s (t.overlayExpire k) := h.setUnmatched.foldl fun _ hu => hu.overlayTimeout

/-! ### The bound and the tests (10 R221 to R225, R229 to R231) -/

theorem boundPeriod : KeepsStanding p s t.boundPeriod := by
  unfold State.boundPeriod
  extract_lets b enc s0 s1 fb
  have hs0 : KeepsStanding p s s0 := h.wr
  have hs1 : KeepsStanding p s s1 := .ite hs0 hs0.drawn
  exact .ite hs1 (.ite hs1.wr (.ite hs1 hs1.setEv.raiseAlarm))

theorem boundTick : KeepsStanding p s t.boundTick := h

theorem serveBoundReset {rq : Requester} : KeepsStanding p s (State.serveBoundReset rq t) := h.serveCmd fun hu => hu.setEv.wr

theorem serveBoundEnforce {rq : Requester} {v : Nat} : KeepsStanding p s (State.serveBoundEnforce rq v t) :=
  h.serveWrite fun hu => (ite (ite hu hu.drawn).wr.setEv.wr (ite hu hu.drawn).wr).answerWrite

theorem setTest {i : Nat} {e : TestEntry} : KeepsStanding p s (t.setTest i e) := h

theorem freeTest {i : Nat} : KeepsStanding p s (t.freeTest i) := h

theorem issueTest {e : Nat × TestEntry} : KeepsStanding p s (t.issueTest e) := h

theorem testBoundary : KeepsStanding p s t.testBoundary := h.foldl fun _ hu => hu.issueTest

theorem serveTestRequest {rq : Requester} {v : Nat} : KeepsStanding p s (State.serveTestRequest rq v t) := by
  refine h.serveCmd fun hu => ?_
  split
  · exact hu
  · exact .ite hu.setTest.issueTest hu.setTest

theorem serveTestCancel {rq : Requester} {e : Nat} : KeepsStanding p s (State.serveTestCancel rq e t) := by
  refine h.serveCmd fun hu => ?_
  split_ifs
  all_goals exact hu

theorem testOverdue {e : Nat × TestEntry} : KeepsStanding p s (t.testOverdue e) := h.setTest.bumpSat.raiseAlarm

theorem testDone {engine test result : Nat} : KeepsStanding p s (t.testDone engine test result) := by
  unfold State.testDone
  split
  · exact h
  · exact .ite h.freeTest.bumpSat.raiseO h.freeTest.bumpSat.raiseAlarm.countMismatch

end

end Sys2Proof.Machine.KeepsStanding
end

section
/-! Membership and FAULTY: the verdict stage and the reduction keep both, and a verdict that is formed leaves FAULTY as it is
(chapters 07 and 08). -/

namespace Sys2Proof.Machine

open Sys2Proof

-- one theorem after the other: each theorem that waits for the kernel would hold a thread
set_option Elab.async false

/-! ### How the verdict moves (Table 08-4) -/

/-- The verdict after a move is no less than the evidence. -/
theorem State.le_moveVerdict (s : State) {e : Nat} (he : e ≤ 3) : e ≤ (s.moveVerdict e).1 := by
  unfold State.moveVerdict
  dsimp only
  generalize s.rd Dict.verdict = v
  generalize (if e < v then satTo 32 (s.ver.calm + 1) else 0) = calm
  split_ifs <;> omega

/-- A move that is an alarm goes to the evidence, SUSPECT or FAULTY. -/
theorem State.moveVerdict_of_alarm (s : State) {e : Nat} (h : (s.moveVerdict e).2.1 = true) : (s.moveVerdict e).1 = e ∧ 2 ≤ e := by
  unfold State.moveVerdict at h ⊢
  dsimp only at h ⊢
  split_ifs at h ⊢ with hfaulty hsuspect
  · exact ⟨hfaulty.2.symm, by omega⟩
  · exact ⟨hsuspect.2.symm, by omega⟩

/-- No move leads out of FAULTY. -/
theorem State.moveVerdict_of_faulty (s : State) (e : Nat) (h : s.rd Dict.verdict = 3) : (s.moveVerdict e).1 = 3 := by
  simp [State.moveVerdict, h]

namespace KeepsStanding

section
variable {p : Prop} {s t : State} (h : KeepsStanding p s t)
include h

/-! ### Windows, loops and cells (08 R158 to R167) -/

theorem setVer {v : VerdictStage} : KeepsStanding p s (t.setVer v) := h

theorem shiftWindow {mine : Bool} : KeepsStanding p s (t.shiftWindow mine) := h.setVer.bumpSat.wr

theorem restartWindow : KeepsStanding p s t.restartWindow := h.setVer.wr.wr

theorem takeLateness {l : Option Nat} : KeepsStanding p s (t.takeLateness l) := by
  cases l with
  | none => exact h.setVer
  | some v => exact h.setVer.wr

theorem setTheta {m : Nat} {x : Int} : KeepsStanding p s (t.setTheta m x) := h.setVer.wrAt

theorem loopStep {m : Nat} {v : Option Nat} {frozen : Bool} : KeepsStanding p s (t.loopStep m v frozen).2 := by
  cases v with
  | none => exact h
  | some x =>
    unfold State.loopStep
    dsimp only
    have hs2 {c : Prop} [Decidable c] :
        KeepsStanding p s (if c then (t.bump Dict.loopValues m).bumpSat Dict.loopFlags m else t.bump Dict.loopValues m) :=
      .ite h.bumpAt.bumpSatAt h.bumpAt
    exact .ite hs2 (.ite hs2.setTheta.drawn hs2.setTheta)

theorem visitCell {c : Nat} {flagged : Bool} : KeepsStanding p s (t.visitCell c flagged) := h.setVer

theorem binMismatches {frame : Nat} {cell : Option Nat} : KeepsStanding p s (t.binMismatches frame cell) := by
  unfold State.binMismatches
  extract_lets due mine _ s1 s2
  have hs1 : KeepsStanding p s s1 := h.setVer
  have hs2 : KeepsStanding p s s2 := .ite hs1 hs1.binMismatch
  exact .ite hs2 hs2.binMismatch

theorem verdictPulse : KeepsStanding p s t.verdictPulse := by
  have hfold {m : VerdictStage} {l : List Nat} {f : State → Nat → Int} :
      KeepsStanding p s (l.foldl (fun u k => u.setTheta k (f u k)) (t.setVer m)) := h.setVer.foldl fun _ hu => hu.setTheta
  exact .ite hfold.wr hfold

theorem restartBaselines {features : Nat} : KeepsStanding p s (t.restartBaselines features) := h

/-! ### The verdict (08 R168, R169) -/

/-- The verdict moves. -/
theorem moves {v : VerdictStage} {e : Nat} : KeepsStanding p s ((t.setVer v).wr Dict.verdict (t.moveVerdict e).1) := by
  refine ⟨h.1, fun hp hs => ?_⟩
  rw [State.rd_wr_same, t.moveVerdict_of_faulty e (h.2 hp hs)]
  rfl

theorem verdictRecord {alarm : Bool} {payload : Nat} : KeepsStanding p s (t.verdictRecord alarm payload) := .ite h.raiseAlarm h.raiseO

theorem ownEntry {kind frame : Nat} {b : Bytes} : KeepsStanding p s (t.ownEntry kind frame b) := h.messaged (.ownEntry ..)

theorem formVerdict {w : VerdictWait} : KeepsStanding p s (t.formVerdict w) := by
  unfold State.formVerdict
  extract_lets stateSent s0 old frozen score d dv arg _ s1 l0 sv l1 flagged cell s2 s3 s4 flags recent _ s5 cause mv _ s6 hot s7 s8
  have hs0 : KeepsStanding p s s0 := .ite h.ownEntry h
  have hs1 : KeepsStanding p s s1 := hs0.setVer.wr.wr
  have hl1 : KeepsStanding p s l1.2 := hs1.loopStep.loopStep
  have hs2 : KeepsStanding p s s2 := .ite hl1 hl1.drawn
  have hs3 : KeepsStanding p s s3 := by
    unfold s3
    generalize cell = c
    cases c with
    | none => exact hs2.bumpSat
    | some c => exact hs2.visitCell
  have hs5 : KeepsStanding p s s5 := hs3.binMismatches.setVer.wr
  have hs6 : KeepsStanding p s s6 := hs5.moves
  have hs7 : KeepsStanding p s s7 := .ite hs6 hs6.verdictRecord
  exact hs7.ownEntry.setVer

theorem baselineReset : KeepsStanding p s t.baselineReset := h.setVer.setTheta

theorem serveBaselineReset {rq : Requester} : KeepsStanding p s (State.serveBaselineReset rq t) := h.serveCmd fun hu => hu.baselineReset

/-! ### Reduction (07 R130 to R154) -/

theorem setRed {r : Reduction} : KeepsStanding p s (t.setRed r) := h

theorem applyProgram : KeepsStanding p s t.applyProgram.1 := by
  cases hlate : t.tooLate (t.rd Dict.applyFrame) with
  | true =>
    rw [State.applyProgram_late hlate]
    exact h
  | false =>
    rw [State.applyProgram_inTime hlate]
    exact h

theorem serveProgramApply {rq : Requester} : KeepsStanding p s (State.serveProgramApply rq t) := h.serveCmd fun hu => hu.applyProgram

theorem journalPrograms {frame : Nat} : KeepsStanding p s (t.journalPrograms frame) := h.setRed.foldl fun _ hu => hu.entry.entry

theorem syncPending : KeepsStanding p s t.syncPending := h.wr

theorem setMachine {f : RedFrame} : KeepsStanding p s (t.setMachine f) := h

theorem enterMerging {f : RedFrame} : KeepsStanding p s (t.enterMerging f) := by
  unfold State.enterMerging
  extract_lets q lagged r done v n s1 s2
  have hs2 : KeepsStanding p s s2 := h
  exact (hs2.setRed.messaged (.journalMerge ..)).enterSlots

theorem checkFrame {frame : Nat} : KeepsStanding p s (t.checkFrame frame) := by
  unfold State.checkFrame
  split
  · exact h
  · exact .ite h.enterMerging h

theorem closeMissing {f : RedFrame} : KeepsStanding p s (t.closeMissing f) := h.enterMerging

theorem forceOne {f : RedFrame} : KeepsStanding p s (t.forceOne f) := h.closeMissing.bumpSat.raise

theorem forceOld {frame : Nat} : KeepsStanding p s (t.forceOld frame) := h.foldl fun _ hu => hu.forceOne

theorem startOldest {frame : Nat} : KeepsStanding p s (t.startOldest frame) := by
  unfold State.startOldest
  extract_lets one
  have hone {u : State} {hist : Bool} (hu : KeepsStanding p s u) : KeepsStanding p s (one u hist) := by
    have hring {r : ChunkRing} : KeepsStanding p s (u.setRing hist r) := hu.messaged (.setRing ..)
    cases hist
    · exact .ite hring.wr hu
    · exact .ite hring.wr hu
  exact .ite (hone (hone h)) h

theorem openFrame {frame : Nat} {due : Option Nat} : KeepsStanding p s (t.openFrame frame due) := by
  unfold State.openFrame
  exact .ite h h.forceOld.startOldest.setRed.checkFrame.syncPending

theorem lateRecord {g : Nat} : KeepsStanding p s (t.lateRecord g) := h.bumpSat.bumpSatAt

theorem gapOne {g : Nat} {f : RedFrame} : KeepsStanding p s (State.gapOne g t f) := h.setMachine.bumpSat.checkFrame

theorem storeRecord {g : Nat} {f : RedFrame} {r : RedRec} : KeepsStanding p s (t.storeRecord g f r) :=
  .ite (.ite h h.setMachine.checkFrame) (.ite h h.bumpSat)

theorem hearRecord {g frame : Nat} : KeepsStanding p s (t.hearRecord g frame) := h

theorem takeRecord {g : Nat} {r : RedRec} : KeepsStanding p s (t.takeRecord g r) := by
  unfold State.takeRecord
  extract_lets s1 s2 s3
  have hs1 : KeepsStanding p s s1 := h.hearRecord.wrAt
  have hs2 : KeepsStanding p s s2 := hs1.foldl fun _ hu => hu.gapOne
  have hs3 : KeepsStanding p s s3 := .ite hs2.openFrame hs2
  refine .ite hs1.lateRecord ?_
  split
  · exact hs3
  · exact .ite hs3.lateRecord hs3.storeRecord

theorem deadlineOne {f : RedFrame} : KeepsStanding p s (t.deadlineOne f) := h.closeMissing.bumpSat

theorem issueSheet {f : RedFrame} {b : Bytes} : KeepsStanding p s (t.issueSheet f b) := by
  unfold State.issueSheet
  extract_lets _ s1 segs need _ _ n sc owed
  have hs1 : KeepsStanding p s s1 := h.setRed
  clear_value s1
  split
  · exact hs1
  · split
    · exact hs1.bumpSat.of_same rfl rfl
    · exact hs1.of_same rfl rfl

theorem sendFrame {f : RedFrame} {r : RedRec} : KeepsStanding p s (t.sendFrame f r) := by
  unfold State.sendFrame
  extract_lets bytes up quiet s1 s2 s3
  have hs1 : KeepsStanding p s s1 := h.foldl fun _ hu => hu.messaged (.centresLeave ..)
  have hs2 : KeepsStanding p s s2 := .ite hs1 (.ite hs1.wrBytes.enqueueUp hs1.wrBytes.issueSheet)
  exact hs2.entry.setRed.syncPending

end

end KeepsStanding

end Sys2Proof.Machine
end

section
/-! Membership and FAULTY: barriers, trees, acknowledgements and liveness keep both (chapters 08 and 09). -/

namespace Sys2Proof.Machine.KeepsStanding

open Sys2Proof

-- one theorem after the other: each theorem that waits for the kernel would hold a thread
set_option Elab.async false

section
variable {p : Prop} {s t : State} (h : KeepsStanding p s t)
include h

/-! ### Messages down and their hops (09 R182, R195, R196) -/

/-- Of the barriers' state the membership table alone counts. -/
theorem setBar {b : Barriers} (hb : b.member = t.bar.member := by rfl) : KeepsStanding p s (t.setBar b) := ⟨hb.trans h.1, h.2⟩

theorem syncBar : KeepsStanding p s t.syncBar := .ite h h.wr.wr.wr

theorem sendClass1 {g prec : Nat} {kind : MsgKind} {b : Bytes} : KeepsStanding p s (t.sendClass1 g prec kind b) := h.enqueue

theorem sendDown {m : DownMsg} {g : Nat} : KeepsStanding p s (t.sendDown m g) := h.sendClass1

theorem hopAck {q typ job id seq : Nat} : KeepsStanding p s (t.hopAck q typ job id seq) := h.sendClass1

theorem hopAckOf {q : Nat} {m : DownMsg} : KeepsStanding p s (t.hopAckOf q m) := h.hopAck

theorem growTrees : KeepsStanding p s t.growTrees := .ite h h.setBar

theorem setUnion {u : AckUnion} : KeepsStanding p s (t.setUnion u) := h.setBar

theorem settle : KeepsStanding p s t.settle := h.setBar

theorem addForward {f : Forward} : KeepsStanding p s (t.addForward f) := h.setBar

theorem reissueFor {m : DownMsg} {g : Nat} : KeepsStanding p s (t.reissueFor m g) := by
  unfold State.reissueFor
  extract_lets resync target
  clear_value target
  split
  · exact h
  · exact .ite h h.sendDown.addForward

theorem nack {m : DownMsg} {g : Nat} : KeepsStanding p s (t.nack m g) := h.bumpSat.reissueFor

theorem sendPorts {m : DownMsg} {ports : List Nat} : KeepsStanding p s (t.sendPorts m ports) := by
  unfold State.sendPorts
  extract_lets mm up s1
  have hs1 : KeepsStanding p s s1 := (h.foldl fun _ hu => hu.sendDown).addForward
  exact (hs1.foldl fun _ hu => hu.nack).settle

theorem sendLeaves {m : DownMsg} {ports : List Nat} : KeepsStanding p s (t.sendLeaves m ports) := by
  refine h.foldl fun _ hu => ?_
  split
  · exact hu.sendPorts
  · exact hu

theorem fan {m : DownMsg} {buddy : Bool} : KeepsStanding p s (t.fan m buddy) := by
  unfold State.fan
  split
  · exact .ite h.growTrees.sendPorts.sendLeaves h.growTrees.sendPorts
  · exact h.growTrees.sendPorts

theorem giveUp {gone : Forward → List Nat} : KeepsStanding p s (t.giveUp gone) :=
  (h.setBar.foldl fun _ hu => .ite hu.reissueFor hu.nack).settle

theorem linkLost {g : Nat} : KeepsStanding p s (t.linkLost g) := h.giveUp

theorem nackTimeouts : KeepsStanding p s t.nackTimeouts := h.giveUp

theorem sendUnion {u : AckUnion} : KeepsStanding p s (t.sendUnion u) := h.enqueueUp.setUnion.settle

theorem flushUnions : KeepsStanding p s t.flushUnions := h.foldl fun _ hu => hu.sendUnion

theorem sendCovered : KeepsStanding p s t.sendCovered := .ite h (h.foldl fun _ hu => hu.sendUnion)

/-! ### Liveness (08 R175, R176) -/

theorem liveMove {g new : Nat} : KeepsStanding p s (t.liveMove g new) := by
  unfold State.liveMove
  extract_lets m silence stall s1 alarm payload s2
  have hs1 : KeepsStanding p s s1 := h
  have hs2 : KeepsStanding p s s2 := .ite hs1 hs1.drawn
  exact .ite hs2.raiseAlarm hs2.raiseO

end

theorem liveSettle {p : Prop} {s t : State} (h : KeepsStanding p s t) {n g : Nat} : KeepsStanding p s (State.liveSettle n t g) := by
  induction n generalizing t with
  | zero => exact h
  | succ n ih =>
    rw [State.liveSettle]
    split
    · exact ih h.liveMove
    · exact h

section
variable {p : Prop} {s t : State} (h : KeepsStanding p s t)
include h

theorem liveUnstall {job barrier : Nat} {dies : Option (List Nat)} : KeepsStanding p s (t.liveUnstall job barrier dies) :=
  .ite h (h.foldl fun _ hu => .ite hu.liveMove.liveSettle hu)

theorem livePulse {n : Nat} : KeepsStanding p s (t.livePulse n) := by
  refine .ite h (h.foldl fun {u} _ hu => .ite hu ?_)
  have hlive {l : Tbl LiveMachine} : KeepsStanding p s { u with live := l } := hu
  exact hlive.liveSettle

/-! ### Broadcast trees and messages acted on (09 R183, R188 to R196) -/

theorem freeTree {tree : Nat} : KeepsStanding p s (t.freeTree tree) := h.setBar

theorem noteBcast {m : DownMsg} {op : Nat} : KeepsStanding p s (t.noteBcast m op) := by
  unfold State.noteBcast
  extract_lets _ put
  have hput {x : Tree} : KeepsStanding p s (put x) := h.setBar
  split
  · exact hput
  · exact .ite hput h

theorem actDown {m : DownMsg} : KeepsStanding p s (t.actDown m) := by
  unfold State.actDown
  split
  · exact h.setBar.liveUnstall.fan.syncBar
  · exact (ite h.noteBcast.freeTree h.noteBcast).fan.syncBar
  · exact h

theorem actReissue {m : DownMsg} : KeepsStanding p s (t.actReissue m) := by
  unfold State.actReissue
  split
  · extract_lets new _ s1 s2
    have hs1 : KeepsStanding p s s1 := .ite h.setBar h
    have hs2 : KeepsStanding p s s2 := .ite hs1.freeTree hs1
    exact hs2.fan.syncBar
  · exact h.fan

theorem issueNow {m : DownMsg} : KeepsStanding p s (t.issueNow m) := by
  unfold State.issueNow
  dsimp only
  split
  · exact h.setBar.actDown
  · exact h.actDown

theorem issueFreed {tree : Nat} : KeepsStanding p s (t.issueFreed tree) := by
  unfold State.issueFreed
  extract_lets m
  exact h.setBar.actDown

theorem completeBcasts : KeepsStanding p s t.completeBcasts := .ite h (h.foldl fun _ hu => .ite hu.freeTree.issueFreed hu.setBar)

/-! ### Barriers and acknowledgements (09 R181, R193, R194, R200, R201) -/

theorem releaseBarrier {b : OpenBarrier} : KeepsStanding p s (t.releaseBarrier b) := by
  unfold State.releaseBarrier
  exact (ite h h.drawn).actDown

theorem sendBarrier {b : OpenBarrier} : KeepsStanding p s (t.sendBarrier b) := h.enqueueUp.setBar

theorem checkBarrier {b : OpenBarrier} : KeepsStanding p s (t.checkBarrier b) := .ite (.ite h.releaseBarrier h) (.ite h.sendBarrier h)

theorem checkBarriers : KeepsStanding p s t.checkBarriers := (h.foldl fun _ hu => hu.checkBarrier).syncBar

theorem coverAgain : KeepsStanding p s t.coverAgain := .ite h h.sendCovered.settle.checkBarriers

theorem takeArrival {job barrier time die : Nat} {dies : List Nat} : KeepsStanding p s (t.takeArrival job barrier time die dies) := by
  unfold State.takeArrival
  extract_lets mine keep s1
  have hs1 : KeepsStanding p s s1 := h.bumpSat
  exact .ite hs1 hs1.setBar.liveUnstall.checkBarrier.syncBar

theorem takeDown {q : Nat} {m : DownMsg} {act : State → State}
    (hact : ∀ {u : State}, KeepsStanding p s u → KeepsStanding p s (act u)) : KeepsStanding p s (t.takeDown q m act) := by
  unfold State.takeDown
  extract_lets s1 _ s2
  have hs1 : KeepsStanding p s s1 := h.hopAckOf
  have hs2 : KeepsStanding p s s2 := hs1.setBar
  exact .ite (.ite hs1.nack hs1) (.ite (.ite hs1.bumpSat (.ite hs2.setBar hs2.actReissue)) (.ite hs1.bumpSat (hact hs1)))

theorem noteRelease {m : DownMsg} : KeepsStanding p s (t.noteRelease m) := by
  unfold State.noteRelease
  split
  · exact h.setBar.liveUnstall
  · exact h

theorem holdOrAct {m : DownMsg} : KeepsStanding p s (State.holdOrAct m t) := .ite h.setBar.noteRelease h.actDown

theorem onLane {q : Nat} {f : State → State} (hf : ∀ {u : State}, KeepsStanding p s u → KeepsStanding p s (f u)) :
    KeepsStanding p s (t.onLane q f) := .ite (hf h.touch) h

theorem takeAck {job tree seq : Nat} {dies : List Nat} : KeepsStanding p s (t.takeAck job tree seq dies) := by
  unfold State.takeAck
  exact .ite h.setUnion.completeBcasts.settle.checkBarriers (.ite h.setUnion (.ite h.sendUnion h.setUnion))

end

end Sys2Proof.Machine.KeepsStanding
end

section
/-! Membership and FAULTY: counters and snapshots keep both (chapter 03). -/

namespace Sys2Proof.Machine.KeepsStanding

open Sys2Proof

-- one theorem after the other: each theorem that waits for the kernel would hold a thread
set_option Elab.async false

section
variable {p : Prop} {s t : State} (h : KeepsStanding p s t)
include h

/-! ### Counters and health inputs (03 R48 to R57) -/

theorem setCnt {c : Counters} : KeepsStanding p s (t.setCnt c) := h

theorem counterSat {engine : Option Nat} {offset : Nat} : KeepsStanding p s (t.counterSat engine offset) := h.raiseAlarm

theorem reportSat {l : List (Bool × Option Nat × Nat)} : KeepsStanding p s (t.reportSat l) := h.foldl fun _ hu => .ite hu.counterSat hu

theorem onRecords {cls engine off : Nat} {f : CmdRecord → CmdRecord × Bool} : KeepsStanding p s (t.onRecords cls engine off f) :=
  h.setCnt.reportSat

theorem countBegin {cmd engine cls arrival : Nat} : KeepsStanding p s (t.countBegin cmd engine cls arrival) := by
  unfold State.countBegin
  exact (ite h.bumpSat h).setCnt.onRecords

theorem countEnd {cmd engine cls arrival : Nat} : KeepsStanding p s (t.countEnd cmd engine cls arrival) := by
  unfold State.countEnd
  extract_lets s1
  have hs1 : KeepsStanding p s s1 := h.onRecords
  split
  · exact hs1.bumpSat
  · exact hs1.setCnt.onRecords

theorem countBytes {engine level dir count : Nat} : KeepsStanding p s (t.countBytes engine level dir count) := h

theorem countLink {link dir count : Nat} : KeepsStanding p s (t.countLink link dir count) := h

theorem serveCmdTableClear {rq : Requester} : KeepsStanding p s (State.serveCmdTableClear rq t) := h.serveCmd fun hu => hu.setCnt

theorem setHslot {i : Nat} {x : HealthSlot} : KeepsStanding p s (t.setHslot i x) := h

theorem strobe {i v : Nat} : KeepsStanding p s (t.strobe i v) := by
  unfold State.strobe
  extract_lets x
  split
  · exact h
  · split
    · exact h
    · exact h.setHslot.reportSat
    · exact .ite h.setHslot h

theorem crossStrobe {i v : Nat} : KeepsStanding p s (t.crossStrobe i v) := by
  unfold State.crossStrobe
  extract_lets x y _ set
  have hset {z : HealthCrossing} : KeepsStanding p s (set z) := h
  split
  · exact h
  · split
    · exact h
    · exact .ite hset hset
    · exact .ite hset h

theorem clearEvents : KeepsStanding p s t.clearEvents := h

theorem afterDie {frame : Nat} {captured : Bool} : KeepsStanding p s (t.afterDie frame captured) :=
  .ite h.setCnt.clearEvents.actionDone (.ite h.clearEvents h)

theorem serveClearEvents {rq : Requester} : KeepsStanding p s (State.serveClearEvents rq t) := h.serveLong fun hu => hu.setCnt

/-! ### Snapshots (03 R58 to R73) -/

theorem setKind {eng : Bool} {k : SnapKind} : KeepsStanding p s (t.setKind eng k) := by cases eng <;> exact h

theorem onHeaders {frame : Nat} {f : SnapHeader → SnapHeader} : KeepsStanding p s (t.onHeaders frame f) := h

theorem afterCapture {eng : Bool} : KeepsStanding p s (t.afterCapture eng) := by cases eng <;> exact h

theorem capture {eng : Bool} {x : SnapHeader} {due span : Nat} {held overwrite : Bool} :
    KeepsStanding p s (t.capture eng x due span held overwrite) := by
  unfold State.capture
  extract_lets k ns delay upd new k1 torn s1 s2 s3
  have hs1 : KeepsStanding p s s1 := h.setKind.onHeaders
  have hs2 : KeepsStanding p s s2 := by
    unfold s2
    generalize torn = f
    cases f with
    | none => exact hs1
    | some f => exact hs1.onHeaders
  have hs3 : KeepsStanding p s s3 := hs2.drawn.afterCapture
  exact .ite hs3 hs3.afterDie

theorem emptyFrame {x : SnapHeader} {span : Nat} : KeepsStanding p s (t.emptyFrame x span) :=
  h.onHeaders.setKind.bumpSat.drawn.afterDie

theorem noEngine {frame : Nat} : KeepsStanding p s (t.noEngine frame) := h.onHeaders.bumpSat

theorem abandon {eng : Bool} {due : Nat} : KeepsStanding p s (t.abandon eng due) := by
  unfold State.abandon
  extract_lets k
  split
  · exact h
  · exact .ite h.setKind.onHeaders.noEngine h.setKind.onHeaders.emptyFrame

theorem captureDue {eng : Bool} {x : SnapHeader} {due : Nat} : KeepsStanding p s (t.captureDue eng x due) := by
  have heldAt : (if eng then Dict.engineHeld else Dict.dieHeld).key 0 0 ≠ Dict.verdict.key 0 0 := by cases eng <;> decide
  have tornAt : (if eng then Dict.engineTorn else Dict.dieTorn).key 0 0 ≠ Dict.verdict.key 0 0 := by cases eng <;> decide
  unfold State.captureDue
  extract_lets s0 k span
  have hs0 : KeepsStanding p s s0 := h.abandon
  split
  · exact hs0.capture
  · split
    · exact hs0.setKind.onHeaders.bumpSat heldAt
    · exact .ite hs0.noEngine hs0.emptyFrame
    · exact hs0.capture.bumpSat tornAt

theorem capturePulse {n due : Nat} : KeepsStanding p s (t.capturePulse n due) := by
  unfold State.capturePulse
  extract_lets tick _ sc s0 stride isEng x s1 before s2 x1
  have hsc : KeepsStanding p s sc := .ite h.setCnt h
  have hs0 : KeepsStanding p s s0 := hsc
  have hs1 : KeepsStanding p s s1 := .ite hs0.drawn hs0
  exact .ite hs1.captureDue hs1.captureDue.captureDue

theorem takeHeld {eng : Bool} : KeepsStanding p s (t.takeHeld eng) := by
  unfold State.takeHeld
  extract_lets k
  split
  · exact h
  · exact .ite h h.setKind.capture

theorem drainOne {eng : Bool} : KeepsStanding p s (t.drainOne eng) := by
  unfold State.drainOne
  extract_lets k
  split
  · exact h
  · exact h.setKind

end

end Sys2Proof.Machine.KeepsStanding
end

section
/-! Membership and FAULTY: epochs that are issued, broadcasts, and the leaf's job keep both (chapters 02 and 09). -/

namespace Sys2Proof.Machine.KeepsStanding

open Sys2Proof

-- one theorem after the other: each theorem that waits for the kernel would hold a thread
set_option Elab.async false

section
variable {p : Prop} {s t : State} (h : KeepsStanding p s t)
include h

/-! ### What the ROOT issues (09 R185, R191, R192) -/

theorem issueEpoch : KeepsStanding p s t.issueEpoch := by
  unfold State.issueEpoch
  extract_lets n es old new sizes segs
  exact h.setBar.wr.syncBar

theorem serveEpochIssue {rq : Requester} : KeepsStanding p s (State.serveEpochIssue rq t) := h.serveCmd fun hu => hu.issueEpoch

theorem sendResync {g : Nat} : KeepsStanding p s (t.sendResync g) := by
  unfold State.sendResync
  exact .ite h (.ite h.sendLeaves (h.foldl fun _ hu => hu.sendPorts))

theorem issueBcast {op : Nat} : KeepsStanding p s (State.issueBcast op t).1 := by
  unfold State.issueBcast
  extract_lets tree job payload entry need _ ok
  have hok {x : Tree} {seq : Nat} : KeepsStanding p s (ok x seq).1 := by
    unfold ok
    dsimp only
    exact (ite h.setBar.setBar h.setBar.issueNow).completeBcasts.settle.checkBarriers.syncBar
  clear_value ok entry
  split
  · exact h.drawn
  · split
    · split_ifs
      · exact h
      · exact h
      · exact h
      · exact hok
    · split
      · exact hok
      · exact h

theorem serveBcastIssue {rq : Requester} : KeepsStanding p s (State.serveBcastIssue rq t) := by
  refine h.serveCmd fun hu => ?_
  extract_lets op
  split
  · exact hu.issueBcast
  · exact hu.drawn

theorem serveBcastOp {op : Nat} {rq : Requester} : KeepsStanding p s (State.serveBcastOp op rq t) := .ite h.serveBcastIssue h

/-! ### Slots that fire and releases (02 R41 to R45, 09 R189) -/

theorem fireSlot {c time : Nat} : KeepsStanding p s (t.fireSlot c time) := by
  unfold State.fireSlot
  extract_lets ch width s1 s2
  have hs1 : KeepsStanding p s s1 := .ite h h.emit
  have hs2 : KeepsStanding p s s2 := hs1.setChan.bumpAt
  exact .ite hs2.wrAt hs2

theorem firedRelease : KeepsStanding p s t.firedRelease := by
  unfold State.firedRelease
  split
  · exact h.setChan.testBoundary
  · exact h

theorem armChannel {job barrier tRel : Nat} : KeepsStanding p s (t.armChannel job barrier tRel) := h.setChan.wr.wr.wr.wr

/-! ### The leaf's job (09 R183, R189 to R195) -/

theorem setLeaf {l : LeafJob} : KeepsStanding p s (t.setLeaf l) := h.setBar

theorem sendLeafAck {job tree seq : Nat} : KeepsStanding p s (t.sendLeafAck job tree seq) := h.enqueueUp

theorem ackBcast {job tree seq : Nat} : KeepsStanding p s (t.ackBcast job tree seq) := h.setLeaf.sendLeafAck

theorem deliver {kind tree seq job : Nat} {b : Bytes} : KeepsStanding p s (t.deliver kind tree seq job b) := h.setLeaf.mbSend

theorem delivered {kind : Nat} : KeepsStanding p s (t.delivered kind) := by
  unfold State.delivered
  split
  · exact h
  · exact .ite h.setLeaf h.setLeaf.ackBcast

theorem runStart {m : DownMsg} : KeepsStanding p s (t.runStart m) := h.setLeaf.wr.deliver

theorem takeStart {m : DownMsg} : KeepsStanding p s (t.takeStart m) := .ite h.runStart h.setLeaf.wr

theorem leafEvent {m : DownMsg} {op : Nat} {b : Bytes} : KeepsStanding p s (t.leafEvent m op b) := by
  unfold State.leafEvent
  extract_lets st onT
  exact .ite h.takeStart (.ite h.setLeaf (.ite h.deliver (.ite h.setLeaf.wr.deliver (.ite h.setLeaf h))))

theorem leafBcast {m : DownMsg} {op : Nat} {b : Bytes} : KeepsStanding p s (t.leafBcast m op b) := by
  unfold State.leafBcast
  split
  · exact .ite (.ite h.bumpSat.sendLeafAck h.bumpSat) h.setLeaf.leafEvent
  · exact h.setLeaf.leafEvent

theorem leafRelease {m : DownMsg} {tRel die : Nat} : KeepsStanding p s (t.leafRelease m tRel die) := by
  unfold State.leafRelease
  extract_lets l armMin now late short arrivals s1 s2 s3
  have hs1 : KeepsStanding p s s1 := h.setLeaf
  have hs3 : KeepsStanding p s s3 := hs1.wrBytes.shiftWindow.ceSend.armChannel
  exact .ite h (.ite h.bumpSat (.ite hs3 hs3.bumpSat.raise.fireSlot.firedRelease))

theorem leafAct {m : DownMsg} : KeepsStanding p s (t.leafAct m) := by
  unfold State.leafAct
  split
  · exact h.leafRelease
  · exact h.leafBcast
  · exact h

theorem leafTake {q : Nat} {m : DownMsg} : KeepsStanding p s (t.leafTake q m) := by
  unfold State.leafTake
  extract_lets s1
  have hs1 : KeepsStanding p s s1 := h.hopAckOf
  exact .ite hs1.setBar hs1.leafAct

theorem leafSegment {q : Nat} {m : DownMsg} {resync : Bool} : KeepsStanding p s (t.leafSegment q m resync) := by
  unfold State.leafSegment
  extract_lets s1
  have hs1 : KeepsStanding p s s1 := h.hopAckOf
  exact .ite hs1.bumpSat hs1.setBar

theorem teardownDone : KeepsStanding p s t.teardownDone := by
  unfold State.teardownDone
  split
  · exact h.wr.drawn
  · extract_lets s1 held _ s2
    have hs2 : KeepsStanding p s s2 := h.ackBcast.setLeaf.wr
    clear_value s2 held
    split
    · exact hs2.takeStart
    · exact hs2.testBoundary

theorem sendArrival {a : LeafArrival} : KeepsStanding p s (t.sendArrival a) := h.enqueueUp

theorem ceArrive {barrier arrival : Nat} : KeepsStanding p s (t.ceArrive barrier arrival) := by
  unfold State.ceArrive
  extract_lets l x late a
  exact h.setLeaf.takeLateness.sendArrival

theorem resendBarriers : KeepsStanding p s t.resendBarriers :=
  .ite (h.foldl fun _ hu => hu.sendArrival) (h.foldl fun _ hu => hu.sendBarrier)

/-- A segment is kept until it is applied. -/
theorem keepSegment {m : DownMsg} : KeepsStanding p s ((t.setBar { t.bar with segs := t.bar.segs ++ [m] }).syncBar) := h.setBar.syncBar

end

end Sys2Proof.Machine.KeepsStanding
end

section
/-! Membership and FAULTY: trace keeps both (chapter 11). -/

namespace Sys2Proof.Machine.KeepsStanding

open Sys2Proof

-- one theorem after the other: each theorem that waits for the kernel would hold a thread
set_option Elab.async false

section
variable {p : Prop} {s t : State} (h : KeepsStanding p s t)
include h

/-! ### The store and the units (11 R236 to R245) -/

theorem setTrc {n : Nat} {x : TraceSource} : KeepsStanding p s (t.setTrc n x) := h

theorem ringWrite {base size off : Nat} {b : Bytes} : KeepsStanding p s (t.ringWrite base size off b) := .ite h h.stackWrite.stackWrite

theorem countRing {base size off len : Nat} : KeepsStanding p s (t.countRing base size off len) := .ite h h.countStack.countStack

theorem storeAppend {b : Bytes} : KeepsStanding p s (t.storeAppend b) := by
  unfold State.storeAppend
  extract_lets size c pos s1
  have hs1 : KeepsStanding p s s1 := h.ringWrite
  exact hs1.of_same rfl rfl

theorem seekStore : KeepsStanding p s t.seekStore := h

theorem sendUnit {n : Nat} : KeepsStanding p s (t.sendUnit n) := by
  unfold State.sendUnit
  exact .ite h (.ite h.setTrc.offer h.setTrc.storeAppend)

theorem gatherLine {n lseq : Nat} {line : Bytes} : KeepsStanding p s (t.gatherLine n lseq line) := by
  unfold State.gatherLine
  exact .ite h.setTrc.sendUnit h.setTrc

theorem completeLine {n : Nat} : KeepsStanding p s (t.completeLine n) := by
  unfold State.completeLine
  extract_lets x l s1 _ s2
  have hs1 : KeepsStanding p s s1 := h.setTrc
  have hs2 : KeepsStanding p s s2 := hs1
  exact .ite h (.ite (.ite hs2.gatherLine hs2) hs1.bumpAt.gatherLine)

end

theorem pushLine {p : Prop} {s t : State} (h : KeepsStanding p s t) {k n : Nat} {starts : Bool} {b : Bytes} :
    KeepsStanding p s (State.pushLine k t n starts b) := by
  induction k generalizing t starts b with
  | zero => exact h
  | succ k ih =>
    cases b with
    | nil => exact h
    | cons b bs => exact ih (ite h.setTrc.completeLine h.setTrc)

section
variable {p : Prop} {s t : State} (h : KeepsStanding p s t)
include h

theorem stallCore {n : Nat} : KeepsStanding p s (t.stallCore n) := .ite h h.setTrc.emit

theorem stallCheck {n : Nat} : KeepsStanding p s (t.stallCheck n) := by
  unfold State.stallCheck
  extract_lets x
  split
  · exact .ite h.stallCore h
  · exact .ite h.setTrc.bumpAt.emit h

/-! ### Packets (11 R246 to R252) -/

theorem rawPacket {n : Nat} {full : Bool} {b : Bytes} : KeepsStanding p s (t.rawPacket n full b) := by
  unfold State.rawPacket
  exact .ite h.setTrc.bumpSatAt.bumpAt h.pushLine.setTrc.stallCheck

theorem syncPacket {n : Nat} {full : Bool} {ns : Nat} : KeepsStanding p s (t.syncPacket n full ns) := by
  unfold State.syncPacket
  exact (ite h.drawn h).setTrc.rawPacket

theorem timePacket {n : Nat} {full : Bool} : KeepsStanding p s (t.timePacket n full) := .ite h.setTrc.rawPacket h

theorem packetLead {n : Nat} {full : Bool} {ns : Nat} : KeepsStanding p s (t.packetLead n full ns) :=
  .ite h.setTrc.rawPacket.syncPacket (.ite h.syncPacket h)

theorem leadNow {n : Nat} {full : Bool} : KeepsStanding p s (t.leadNow n full) := h.packetLead.timePacket

theorem flushAtoms {n : Nat} {full : Bool} : KeepsStanding p s (t.flushAtoms n full) :=
  .ite h (.ite h.leadNow h.leadNow.setTrc.rawPacket)

theorem branchPacket {n : Nat} {full : Bool} {b : Bytes} : KeepsStanding p s (t.branchPacket n full b) := h.flushAtoms.leadNow.rawPacket

theorem commandPacket {head ns : Nat} {b : Bytes} : KeepsStanding p s (t.commandPacket head ns b) := by
  unfold State.commandPacket
  exact h.packetLead.setTrc.rawPacket

theorem traceCommand {begins : Bool} {cmd engine cls tag arrival : Nat} :
    KeepsStanding p s (t.traceCommand begins cmd engine cls tag arrival) := .ite h (.ite h.commandPacket h.commandPacket)

theorem traceOff {n : Nat} {full : Bool} {cause index : Nat} : KeepsStanding p s (t.traceOff n full cause index) := by
  unfold State.traceOff
  exact h.branchPacket.setTrc.completeLine

theorem traceOn {n : Nat} {full : Bool} {cause index a : Nat} : KeepsStanding p s (t.traceOn n full cause index a) := by
  unfold State.traceOn
  exact h.branchPacket.setTrc

theorem powerPacket {n : Nat} {enter : Bool} {who st : Nat} : KeepsStanding p s (t.powerPacket n enter who st) :=
  h.branchPacket.completeLine

theorem tracePowerEnter {st : Nat} : KeepsStanding p s (t.tracePowerEnter st) := h.foldl fun _ hu => .ite hu.powerPacket hu

theorem tracePowerLeave {st : Nat} : KeepsStanding p s (t.tracePowerLeave st) := h.foldl fun _ hu => .ite hu.powerPacket.syncPacket hu

theorem keeperTraceOff : KeepsStanding p s t.keeperTraceOff := .ite h.traceOff h

/-! ### Instructions that retire (11 R238 to R241) -/

theorem indirect {n : Nat} {full : Bool} {target : Nat} : KeepsStanding p s (t.indirect n full target) := by
  unfold State.indirect
  exact h.flushAtoms.leadNow.rawPacket.setTrc

theorem setNextAddr {n : Nat} {a : Option Nat} : KeepsStanding p s (t.setNextAddr n a) := h.setTrc

theorem exception {n : Nat} {full : Bool} {ret handler : Nat} : KeepsStanding p s (t.exception n full ret handler) := by
  unfold State.exception
  exact h.setNextAddr.flushAtoms.leadNow.rawPacket.setTrc.indirect

theorem traceBranch {n : Nat} {full : Bool} {kind : Nat} {taken : Bool} {target : Nat} :
    KeepsStanding p s (t.traceBranch n full kind taken target) := by
  unfold State.traceBranch
  split
  · exact .ite h.setTrc.flushAtoms h.setTrc
  · exact h.indirect
  · exact h

theorem retire {n : Nat} {full : Bool} {a kind : Nat} {taken : Bool} {target : Nat} {next : Option Nat} :
    KeepsStanding p s (t.retire n full a kind taken target next) := by
  unfold State.retire
  extract_lets t0 t1 s1 act s2 s3
  have hs1 : KeepsStanding p s s1 := h.setTrc
  have hs2 : KeepsStanding p s s2 := .ite hs1.traceOn (.ite hs1.traceOff hs1)
  have hs3 : KeepsStanding p s s3 := (ite hs2.traceBranch hs2).setNextAddr
  clear_value s3
  split
  · exact hs3
  · exact .ite hs3.setTrc.traceOff hs3.setTrc

theorem retireGroup {k n : Nat} {full : Bool} {a kind : Nat} {taken : Bool} {target : Nat} :
    KeepsStanding p s (State.retireGroup k t n full a kind taken target) := by
  induction k generalizing t a with
  | zero => exact h
  | succ k ih =>
    cases k with
    | zero => exact h.retire
    | succ k => exact ih h.retire

theorem keeperRetires : KeepsStanding p s t.keeperRetires := .ite h.drawn.retire h

theorem keeperTraceOn : KeepsStanding p s t.keeperTraceOn := .ite h.syncPacket.setTrc.keeperRetires h

/-! ### Sources and the sink (11 R233 to R236) -/

theorem enableSource {n : Nat} : KeepsStanding p s (t.enableSource n) := by
  unfold State.enableSource
  extract_lets s0 s1 s2 _ s3
  have hs3 : KeepsStanding p s s3 := h.sendUnit.setTrc.syncPacket.setTrc
  exact .ite hs3.keeperRetires hs3

theorem disableSource {n : Nat} : KeepsStanding p s (t.disableSource n) := by
  unfold State.disableSource
  exact (ite h.traceOff h).completeLine.setTrc

theorem adoptSink : KeepsStanding p s t.adoptSink := by
  unfold State.adoptSink
  have hsink {x : Trace} : KeepsStanding p s { t with tr := x } := h
  exact .ite h (.ite h hsink.wr.wr)

theorem setTraceEnable {v : Nat} : KeepsStanding p s (t.setTraceEnable v) :=
  (h.foldl fun _ hu => .ite hu.enableSource (.ite hu.disableSource hu)).wr.adoptSink

/-! ### The command-event port (18 R370 to R372) -/

theorem ceProcess {m : CeMsg} {a : Nat} : KeepsStanding p s (t.ceProcess m a) := by
  cases m with
  | begin_ => exact h.countBegin.traceCommand.bracketSelect
  | end_ => exact h.countEnd.traceCommand
  | bytes => exact h.countBytes
  | linkBytes => exact h.countLink
  | arrive => exact h.ceArrive
  | tagOpen => exact h.tagOpen
  | tagClose => exact h.tagClose
  | bktOpen => exact h.bktOpen
  | bktClose => exact h.bktClose
  | dupDecline => exact h.dupDecline
  | shardOpen => exact h.shardOpen
  | shardRange => exact h.shardRange
  | shardClose => exact h.shardClose
  | ckptBoundary => exact h.testBoundary

theorem ceTransfer : KeepsStanding p s t.ceTransfer := h

theorem ceResume {n : Nat} : KeepsStanding p s (State.ceResume n t) := by
  induction n generalizing t with
  | zero => exact h
  | succ n ih =>
    rw [State.ceResume]
    split
    · exact h.ceTransfer
    · have hin {c : CePort} : KeepsStanding p s { t.ceTransfer with ce := c } := h.ceTransfer
      exact .ite h.ceTransfer (ih hin.ceProcess)

theorem ceServe : KeepsStanding p s t.ceServe := h.ceResume

end

end Sys2Proof.Machine.KeepsStanding
end

section
/-! Membership and FAULTY: the front stage, the journal's commands, job channels and the clock keep both (chapters 03, 04, 05, 12 and 20). -/

namespace Sys2Proof.Machine.KeepsStanding

open Sys2Proof

-- one theorem after the other: each theorem that waits for the kernel would hold a thread
set_option Elab.async false

section
variable {p : Prop} {s t : State} (h : KeepsStanding p s t)
include h

/-! ### The command-event port (18 R370) -/

omit t h in
theorem ceTake {dt : Nat} {m : CeMsg} : KeepsStanding p s (s.ceTake dt m) :=
  after fun {u} hu => by
    have hin {c : CePort} : KeepsStanding p s { u with ce := c } := hu
    exact .ite hu (.ite hin.touch.ceServe (.ite hin hin.wake))

theorem ceDrain {c : CePort} {o : Output} : KeepsStanding p s (State.ceServe (State.emit { t with ce := c } o)) := by
  have hout : KeepsStanding p s (State.emit { t with ce := c } o) := h
  exact hout.ceServe

/-! ### Descriptors and vectors (03 R72 to R93, 04 R76) -/

theorem setFs {f : FrontStage} : KeepsStanding p s (t.setFs f) := h

theorem descPulse : KeepsStanding p s t.descPulse := .ite h h.setFs.restartBaselines

theorem serveDescApply {rq : Requester} : KeepsStanding p s (State.serveDescApply rq t) := h.serveCmd fun hu => hu.setFs

theorem countDecim : KeepsStanding p s t.countDecim := h.bumpSat.of_same rfl rfl

theorem admitDie {frame : Nat} : KeepsStanding p s (t.admitDie frame).2 := by
  unfold State.admitDie
  split
  · exact h
  · dsimp only
    split_ifs
    · exact h.countDecim
    · exact h.police.countDecim
    · exact h.police

theorem leafEntry {kind : Nat} {b : Bytes} : KeepsStanding p s (t.leafEntry kind b) := h.messaged (.leafEntry ..)

theorem sendDieVector {v : FVector} : KeepsStanding p s (t.sendDieVector v).2 := by
  unfold State.sendDieVector
  extract_lets frame r
  have hr : KeepsStanding p s r.2 := h.admitDie
  clear_value r
  split
  · exact hr.leafEntry
  · exact hr.enqueueUp

theorem engineDecision {frame : Nat} : KeepsStanding p s (t.engineDecision frame) := by
  unfold State.engineDecision
  extract_lets _ s1 b note
  have hs1 : KeepsStanding p s s1 := h
  have hnote {u : State} {dec : Bool} {colour : Nat} (hu : KeepsStanding p s u) : KeepsStanding p s (note u dec colour) := hu
  clear_value s1 b note
  refine .ite hs1 ?_
  split
  · exact hnote hs1
  · exact .ite (hnote hs1.countDecim) (.ite (hnote hs1.police.countDecim) (hnote hs1.police))

theorem sendEngines {frame : Nat} {all : List FVector} : KeepsStanding p s (t.sendEngines frame all) := by
  unfold State.sendEngines
  split
  · exact h
  · split
    · exact h
    · exact h.enqueueUp.of_same rfl rfl

theorem sendLeafRecord {r : RedRec} : KeepsStanding p s (t.sendLeafRecord r) := by
  unfold State.sendLeafRecord
  exact (ite h.wrBytes.drawn h.wrBytes).enqueueUp

theorem completeDie {x : Snapshot} {rest : List Snapshot} : KeepsStanding p s (t.completeDie x rest) := by
  unfold State.completeDie
  extract_lets r v frame kind skip s1 _ s2 s3 slots s4 s5 s6 w
  have hs1 : KeepsStanding p s s1 := h.foldl fun _ hu => hu.drawn
  clear_value s1
  have hs3 : KeepsStanding p s s3 := .ite hs1.setKind.bumpSat hs1.setKind
  have hs4 : KeepsStanding p s s4 := hs3.enterSlots
  have hs5 : KeepsStanding p s s5 := .ite hs4.sendLeafRecord hs4.entry
  have hs6 : KeepsStanding p s s6.2 := by
    unfold s6
    split
    · exact hs5.sendDieVector
    · exact hs5
  exact hs6.setVer.setFs

theorem completeEngine {x : Snapshot} {rest : List Snapshot} {die : Nat} : KeepsStanding p s (t.completeEngine x rest die) := by
  unfold State.completeEngine
  extract_lets e v _ s1 s2 all last s3 _ s4
  have hs1 : KeepsStanding p s s1 := h.setFs.foldl fun _ hu => hu.drawn
  clear_value s1
  have hs2 : KeepsStanding p s s2 := hs1.enterSlots
  have hs3 : KeepsStanding p s s3 := .ite hs2.sendEngines hs2
  exact .ite hs3.setFs.setKind hs3.setFs

/-! ### What children bring (04 R86 to R88, 14 R309) -/

theorem keepTrayCentres {g : Nat} {c : CentreMsg} : KeepsStanding p s (t.keepTrayCentres g c) := .ite h h.setRed

theorem takeCentres {q : Nat} {c : CentreMsg} : KeepsStanding p s (t.takeCentres q c) := by
  unfold State.takeCentres
  exact .ite h.setFs (.ite (.ite h.keepTrayCentres h) (h.foldl fun _ hu => hu.messaged (.sendCentres ..)))

theorem takeDieVector {g : Nat} {v : FVector} : KeepsStanding p s (State.takeDieVector g t v) := by
  unfold State.takeDieVector
  extract_lets frame s1 shut _ s2
  have hs2 : KeepsStanding p s s2 := .ite h.entry h.entry.setRed
  exact hs2.enterSlots

theorem takeEngineVector {v : FVector} : KeepsStanding p s (t.takeEngineVector v) := h.entry.enterSlots

/-! ### The journal's commands (20 R412 to R426) -/

theorem boolWritten {v : Nat} : KeepsStanding p s (t.boolWritten v).2 := by
  unfold State.boolWritten
  split_ifs
  · exact h
  · exact h.drawn

theorem serveJournalEnable {rq : Requester} {v : Nat} : KeepsStanding p s (State.serveJournalEnable rq v t) :=
  h.serveWrite fun {u} hu => by
    have hset : KeepsStanding p s ((u.boolWritten v).2.wr Dict.journalEnable (u.boolWritten v).1) := hu.boolWritten.wr
    extract_lets r s1 _ _ s2
    have hs2 : KeepsStanding p s s2 := .ite hset (hset.of_same rfl rfl)
    exact hs2.answerWrite

theorem closeGather {k : Nat} : KeepsStanding p s (t.closeGather k) := h.messaged (.closeGather ..)

theorem endDiscards {hist : Bool} : KeepsStanding p s (t.endDiscards hist) := h.messaged (.endDiscards ..)

theorem sendLeafJournal : KeepsStanding p s t.sendLeafJournal := h.messaged (.sendLeafJournal ..)

theorem exportRecord {v : Nat} : KeepsStanding p s (t.exportRecord v) := h.raiseO

theorem serveExportFreeze {rq : Requester} : KeepsStanding p s (State.serveExportFreeze rq t) :=
  h.serveCmd fun {u} hu => by
    extract_lets first last sent j hs _ r
    have hr : KeepsStanding p s r.1 := by
      unfold r
      split_ifs <;> exact hu
    clear_value r
    exact hr.exportRecord

theorem thaw : KeepsStanding p s t.thaw := h

theorem serveExportRelease {rq : Requester} : KeepsStanding p s (State.serveExportRelease rq t) :=
  h.serveCmd fun hu => hu.thaw.exportRecord

/-! ### Job channels (12 R256 to R267) -/

theorem setPrc {l : Tbl PrcJob} : KeepsStanding p s { t with prc := l } := h

theorem prcWild {c : Nat} {j : PrcJob} : KeepsStanding p s (t.prcWild c j) := by
  unfold State.prcWild
  extract_lets s1
  have hs1 : KeepsStanding p s s1 := h
  exact hs1.wrAt.wrAt.wrAt.wrAt

theorem servePrcStart {rq : Requester} {c : Nat} : KeepsStanding p s (State.servePrcStart rq c t) :=
  h.serveCmd fun hu => by
    extract_lets st j s1
    split_ifs
    · exact hu
    · have hs1 : KeepsStanding p s s1 := hu.wrAt.wrAt.wrAt
      exact hs1.setPrc.wrAt

theorem servePrcResume {rq : Requester} {c : Nat} : KeepsStanding p s (State.servePrcResume rq c t) :=
  h.serveCmd fun hu => by
    split
    · exact hu.setPrc.wrAt
    · exact hu

end

theorem prcRun {p : Prop} {s t : State} (h : KeepsStanding p s t) {n c : Nat} : KeepsStanding p s (State.prcRun n t c) := by
  induction n generalizing t with
  | zero => exact h
  | succ n ih =>
    rw [State.prcRun]
    split
    · exact h
    · extract_lets consumed produced
      refine .ite h.wrAt (.ite h.wrAt ?_)
      split
      · extract_lets s1 s2
        have hs1 : KeepsStanding p s s1 := h.wrAt.wrAt
        have hs2 : KeepsStanding p s s2 := hs1
        exact hs2.raise
      · extract_lets s1 s2
        have hs2 : KeepsStanding p s s2 := h.countStack.stackWrite.setPrc
        exact .ite h.wrAt (ih hs2.wrAt.wrAt)

section
variable {p : Prop} {s t : State} (h : KeepsStanding p s t)
include h

theorem servePrcAbort {rq : Requester} {c : Nat} : KeepsStanding p s (State.servePrcAbort rq c t) :=
  h.serveCmd fun hu => by
    extract_lets st
    split
    · exact hu
    · extract_lets s1
      have hs1 : KeepsStanding p s s1 := .ite hu.drawn.prcRun hu.prcWild
      clear_value s1
      split_ifs
      · exact hs1.wrAt
      · exact hs1
      · exact hu.wrAt
      · exact hu

/-! ### The settings in flash (19 R402) -/

theorem persistBegin : KeepsStanding p s t.persistBegin := h

theorem persist : KeepsStanding p s t.persist := by
  have hdue : KeepsStanding p s { t with kp := { t.kp with persistDue := true } } := h
  exact .ite h (.ite hdue h.persistBegin)

/-! ### The clock (05 R46 to R63) -/

theorem setPtp {q : Nat} {l : PtpLane} : KeepsStanding p s (t.setPtp q l) := h

theorem setTime {c : TimeBase} : KeepsStanding p s { t with time := c } := h

theorem sendPtp {q : Nat} {b : Bytes} : KeepsStanding p s (t.sendPtp q b) := h.txOn

theorem relayed {q gm utc : Nat} : KeepsStanding p s (t.relayed q gm utc) := .ite h.wr.wr h

theorem clockRecord {f : Bool} {ty : Nat} : KeepsStanding p s (t.clockRecord f ty) := h.raiseIslandNow

theorem setClock {v : Nat} : KeepsStanding p s (t.setClock v) := h.wr.setTime

theorem toFreerun : KeepsStanding p s t.toFreerun := .ite h.setClock h.setClock

theorem toHoldover : KeepsStanding p s t.toHoldover := h.setClock.clockRecord

theorem slaveChanged {before : Option Nat} : KeepsStanding p s (t.slaveChanged before) := by
  unfold State.slaveChanged
  extract_lets after s1
  have hs1 : KeepsStanding p s s1 := by
    unfold s1
    clear_value after
    split
    · exact .ite h h.setPtp
    · exact h
  clear_value s1 after
  refine .ite hs1 ?_
  split
  · exact .ite hs1 (.ite hs1.setClock hs1.toHoldover)
  · exact hs1.toHoldover
  · exact hs1

theorem storeOffset {ps : Int} : KeepsStanding p s (t.storeOffset ps) := .ite h.wr h.wr.drawn

theorem storePs {o : Ob} {ps : Int} {m : Nat} (ho : o.missesVerdict) : KeepsStanding p s (t.storePs o ps m) :=
  .ite (h.wrAt ho) (h.wrAt ho).drawn

theorem slew : KeepsStanding p s t.slew := h

theorem stepBy {off : Int} : KeepsStanding p s (t.stepBy off) := h.stepTime.bumpSat.raiseIslandNow

theorem servo {off : Int} : KeepsStanding p s (t.servo off) := by
  unfold State.servo
  extract_lets s1 _ s2
  have hs1 : KeepsStanding p s s1 := h.storeOffset
  have hs2 : KeepsStanding p s s2 := by
    unfold s2
    clear_value s1
    split
    · exact hs1.setClock
    · exact hs1.setClock
    · exact .ite hs1.setClock.clockRecord hs1
    · exact .ite (.ite hs1.setClock.clockRecord hs1.setTime) hs1.setTime
  exact .ite hs2.stepBy hs2.slew

theorem takeSync {q : Nat} {t2 t1 : Int} : KeepsStanding p s (t.takeSync q t2 t1) := by
  unfold State.takeSync
  extract_lets l _ s1
  have hs1 : KeepsStanding p s s1 := h.setTime.setPtp
  clear_value s1 l
  split
  · exact hs1
  · exact hs1.servo

theorem takeDelayResp {q seq : Nat} {receipt corr : Int} : KeepsStanding p s (t.takeDelayResp q seq receipt corr) := by
  unfold State.takeDelayResp
  extract_lets l
  split
  · exact .ite h h.setPtp
  · exact h

theorem settleGm : KeepsStanding p s t.settleGm := by
  unfold State.settleGm
  extract_lets best _ _ s1
  have hs1 : KeepsStanding p s s1 := .ite h h.setTime.setPtp
  clear_value s1 best
  split
  · exact hs1
  · exact hs1.wr

theorem takeMgmtPtp {m : MgmtPtp} : KeepsStanding p s (t.takeMgmtPtp m) := by
  cases m with
  | announce => exact h.setTime.settleGm
  | sync => exact .ite h (.ite h.setTime.setPtp.setPtp h.setTime.setPtp.takeSync)
  | followUp =>
    unfold State.takeMgmtPtp
    dsimp only
    split
    · exact .ite h h.setPtp.takeSync
    · exact h
  | delayResp => exact .ite h h.setTime.takeDelayResp

theorem tickLane {q : Nat} : KeepsStanding p s (t.tickLane q) := by
  unfold State.tickLane
  extract_lets dom l t1 s1 l1
  have hs1 : KeepsStanding p s s1 := .ite h.setPtp.sendPtp h
  exact .ite h (.ite hs1.setPtp.sendPtp (.ite hs1.setPtp.sendPtp hs1))

theorem tickMgmt : KeepsStanding p s t.tickMgmt := .ite h (.ite h h.setTime.setPtp.emit)

theorem tickLanes : KeepsStanding p s t.tickLanes := .ite h (h.setTime.foldl fun _ hu => hu.tickLane)

theorem tickPort : KeepsStanding p s t.tickPort := .ite h.settleGm.tickMgmt h

theorem timeOf80 {v : Nat} : KeepsStanding p s (t.timeOf80 v).2 := by
  unfold State.timeOf80
  split_ifs
  · exact h
  · exact h.drawn

theorem serveTimeNow {rq : Requester} {v : Nat} : KeepsStanding p s (State.serveTimeNow rq v t) :=
  h.serveWrite fun hu => (ite hu.timeOf80.stepTime hu).answerWrite

/-- A command's effect, where the state it answers with is better not written out. -/
theorem serveCmdOf {rq : Requester} {o : Ob} {m : Nat} {act : State → State × Nat}
    (hact : ∀ {u v : State} {n : Nat}, KeepsStanding p s u → act u = (v, n) → KeepsStanding p s v) :
    KeepsStanding p s (State.serveCmd rq o m act t) :=
  h.serveCmd fun hu => hact hu rfl

theorem serveShutterApply {rq : Requester} {c : Nat} : KeepsStanding p s (State.serveShutterApply rq c t) := by
  unfold State.serveShutterApply
  refine h.serveCmdOf fun {u v n} hu hact => ?_
  extract_lets a pr at hact
  have hpr : KeepsStanding p s pr.2 := by
    unfold pr
    split_ifs
    · exact hu
    · exact hu.drawn
  split_ifs at hact
  · cases hact
    exact hu
  · cases hact
    exact hpr.setChan

end

end Sys2Proof.Machine.KeepsStanding
end

section
/-! Membership and FAULTY: the negative, the keeper, power, lanes and routes keep both (chapters 13, 18 and 19). -/

namespace Sys2Proof.Machine.KeepsStanding

open Sys2Proof

-- one theorem after the other: each theorem that waits for the kernel would hold a thread
set_option Elab.async false

section
variable {p : Prop} {s t : State} (h : KeepsStanding p s t)
include h

/-! ### Parts of the state beside both -/

theorem setRt {x : Routes} : KeepsStanding p s { t with rt := x } := h

theorem setDap {x : Dap} : KeepsStanding p s { t with dap := x } := h

theorem setFree {n : Nat} : KeepsStanding p s { t with free := n } := h

theorem setRst {x : Resets} : KeepsStanding p s (t.setRst x) := h

theorem setKp {x : Keeper} : KeepsStanding p s (t.setKp x) := h

theorem setPw {x : Power} : KeepsStanding p s (t.setPw x) := h

theorem setNeg {x : Negative} : KeepsStanding p s (t.setNeg x) := h

theorem setLane {q : Nat} {l : Lane} : KeepsStanding p s (t.setLane q l) := h

/-! ### What a write brings about (16 R339) -/

theorem channelOn {c : Nat} : KeepsStanding p s (t.channelOn c) := h.setChan

theorem fillPolicers {g : Nat} {l : List Nat} : KeepsStanding p s (t.fillPolicers g l) := h.setGq

theorem afterWrite {idx sub m j old : Nat} : KeepsStanding p s (t.afterWrite idx sub m j old) :=
  .ite (.ite h.channelOn h) <| .ite (.ite h.setClock h) <| .ite h.syncQueue <| .ite h.setVer <| .ite h.adoptSink <| .ite h.seekStore <|
    .ite h.fillPolicers <| .ite h.fillPolicers h

theorem afterConfig {idx sub m : Nat} : KeepsStanding p s (t.afterConfig idx sub m) := .ite h.slotEvent (.ite h.setVer h)

/-! ### The negative (18 R355 to R362) -/

theorem serveNegTake {rq : Requester} : KeepsStanding p s (State.serveNegTake rq t) :=
  h.serveCmd fun hu => by
    split_ifs
    · exact hu.setNeg
    · exact hu

theorem zeroFix {k : Nat} : KeepsStanding p s (t.zeroFix k) := h.stackWrite

theorem negPulse : KeepsStanding p s t.negPulse := by
  unfold State.negPulse
  extract_lets seq slot img s1
  have hs1 : KeepsStanding p s s1 := h.zeroFix
  exact .ite h (hs1.of_same rfl rfl)

theorem negAbandon : KeepsStanding p s t.negAbandon := by
  unfold State.negAbandon
  split
  · exact h
  · exact h.zeroFix.setNeg
  · exact h.zeroFix.setNeg

/-! ### The keeper (19 R398 to R407) -/

theorem serveKeeperImage {rq : Requester} {offset total : Nat} {data : Bytes} :
    KeepsStanding p s (State.serveKeeperImage rq offset total data t) := h.serveSegment (fun hu => hu) fun hu => hu.setKp

theorem keeperRest : KeepsStanding p s t.keeperRest := h.wr

theorem keeperStops {keys : List Nat} {cause : Nat} : KeepsStanding p s (t.keeperStops keys cause) := by
  unfold State.keeperStops
  extract_lets gone _ s1 _ s2 _ s3 pay
  have hs1 : KeepsStanding p s s1 := h.keeperTraceOff.negAbandon.setKp
  have hs2 : KeepsStanding p s s2 := hs1
  have hs3 : KeepsStanding p s s3 := hs2.setRst.wr
  exact .ite hs3.raiseAlarm hs3.raiseO

theorem keeperReset {cause : Nat} : KeepsStanding p s (t.keeperReset cause) := h.keeperStops.setKp

theorem keeperStarts : KeepsStanding p s t.keeperStarts := by
  unfold State.keeperStarts
  extract_lets _ s1 s2
  have hs1 : KeepsStanding p s s1 := h.setRst.keeperRest
  have hs2 : KeepsStanding p s s2 := .ite hs1.keeperTraceOn hs1
  exact .ite hs2.persistBegin hs2

theorem updateEnds {code : Nat} : KeepsStanding p s (t.updateEnds code) := h.setKp.actionDone

theorem updateFails {code : Nat} : KeepsStanding p s (t.updateFails code) := h.updateEnds.keeperRest

theorem updateTo {u : KeeperUpdate} {x : UpdatePhase} : KeepsStanding p s (t.updateTo u x) := h.setKp

theorem updateStart {live persist : Bool} : KeepsStanding p s (State.updateStart live persist t) := .ite h.actionDone h.setKp.wr

theorem serveKeeperUpdate {rq : Requester} {v : Nat} : KeepsStanding p s (State.serveKeeperUpdate rq v t) :=
  .ite (h.serveCmd fun hu => hu.drawn) (h.serveLong fun hu => hu.updateStart)

theorem updateSwap {u : KeeperUpdate} : KeepsStanding p s (t.updateSwap u) := .ite h.updateTo.keeperRest h.keeperStops.updateTo

theorem setSpareSlot {img : Bytes} : KeepsStanding p s (t.setSpareSlot img) := h

theorem updatedRecord {old new code : Nat} {u : KeeperUpdate} : KeepsStanding p s (t.updatedRecord old new code u) := h.raiseO

/-! ### Power (19 R386 to R394) -/

theorem enterPower {st : Nat} : KeepsStanding p s (t.enterPower st) := h.raiseO.tracePowerEnter.setPw

theorem powerEntered : KeepsStanding p s t.powerEntered := by
  unfold State.powerEntered
  split
  · exact h
  · refine .ite h ?_
    extract_lets _ s1
    have hs1 : KeepsStanding p s s1 := h.wr.setPw
    split
    · exact hs1.setPw
    · exact hs1

theorem wakeStep {n : Nat} : KeepsStanding p s (t.wakeStep n) := .ite h.setPw h

theorem crossMerge {e : Nat × HealthCrossing} : KeepsStanding p s (t.crossMerge e) := by
  unfold State.crossMerge
  exact .ite h.setHslot.reportSat (.ite h h.setHslot)

theorem writeHeld {r : HeldRecord} : KeepsStanding p s (t.writeHeld r) := by
  unfold State.writeHeld
  exact (ite h.bump h).raiseAt

theorem woken {w : WakeSource} {frm : Nat} {steps : List Nat} : KeepsStanding p s (t.woken w frm steps) := by
  unfold State.woken
  extract_lets held cross _ _ s1 s2 bits s3
  have hs1 : KeepsStanding p s s1 := h.setTime.wr.setPw
  have hs2 : KeepsStanding p s s2 := hs1.foldl fun _ hu => hu.writeHeld
  have hs3 : KeepsStanding p s s3 := hs2.wrBytes.bumpSat.raiseO
  exact (hs3.foldl fun _ hu => hu.crossMerge).tracePowerLeave.touch

/-! ### Traffic that moves (13 R287 to R292) -/

theorem sendRoutes {g ff kind leg : Nat} {dies : List Nat} : KeepsStanding p s (t.sendRoutes g ff kind leg dies) :=
  h.foldl fun _ hu => hu.sendRoute

theorem sendJoin : KeepsStanding p s t.sendJoin := by
  unfold State.sendJoin
  split
  · exact .ite h.sendRoutes h
  · exact h

theorem putBack {g : Nat} : KeepsStanding p s (t.putBack g) := h.setGq.setLink.fitAlarms

theorem moveTraffic {g k : Nat} : KeepsStanding p s (t.moveTraffic g k) := by
  unfold State.moveTraffic
  extract_lets q fs s1
  have hs1 : KeepsStanding p s s1 := h.setGq.refresh
  exact (hs1.foldl fun _ hu => hu.redirect).resendBarriers

theorem settleMoved : KeepsStanding p s t.settleMoved :=
  h.foldl fun _ hu => by
    split
    · split
      · exact hu.moveTraffic
      · exact hu
    · exact hu

theorem decideMove {buddy : Bool} {code : Nat} : KeepsStanding p s (t.decideMove buddy code) := by
  unfold State.decideMove
  split
  · exact h
  · extract_lets before old ff home _ s1 s2
    have hs2 : KeepsStanding p s s2 := h.setRt.wr.bumpSat.raiseIslandNow
    exact hs2.sendRoutes.settleMoved.slaveChanged

theorem decideTrigger {m : MoveTrigger} : KeepsStanding p s (t.decideTrigger m) := by
  unfold State.decideTrigger
  extract_lets cur
  split
  · exact .ite (.ite h.decideMove h) (.ite h.decideMove h)
  · exact .ite h.decideMove h
  · exact .ite h.decideMove h
  · exact .ite h.decideMove h

theorem trigger {m : MoveTrigger} : KeepsStanding p s (t.trigger m) := by
  unfold State.trigger
  exact .ite h (.ite h.setRt h.decideTrigger)

theorem routePulse {n : Nat} : KeepsStanding p s (t.routePulse n) := by
  unfold State.routePulse
  split
  · refine .ite ?_ h
    extract_lets planned s1 ts
    have hs1 : KeepsStanding p s s1 := .ite h.resendBarriers h
    exact hs1.setRt.foldl fun _ hu => hu.trigger
  · exact h

theorem losePendings {gone : DapPending → Bool} {reason : Nat} : KeepsStanding p s (t.losePendings gone reason) :=
  h.setDap.foldl fun _ hu => hu.answerLost

theorem sendParentLost : KeepsStanding p s t.sendParentLost := .ite h (h.foldl fun _ hu => hu.sendRoute)

theorem groupLost {g : Nat} : KeepsStanding p s (t.groupLost g) := by
  unfold State.groupLost
  extract_lets s1 q stays s2 s3 _
  have hs1 : KeepsStanding p s s1 := h.putBack.refresh.linkLost
  have hs2 : KeepsStanding p s s2 := hs1.setGq.refresh
  have hs3 : KeepsStanding p s s3 := hs1.losePendings
  clear_value s1 s2 s3
  refine .ite hs2.losePendings ?_
  split
  · exact hs3
  · extract_lets s4 s5
    have hs4 : KeepsStanding p s s4 := .ite hs3 hs3.setRt
    have hs5 : KeepsStanding p s s5 := .ite hs4.trigger hs4
    exact hs5.settleMoved.sendParentLost

theorem answerOwed {g : Nat} : KeepsStanding p s (t.answerOwed g) := h.setRst.foldl fun _ hu => hu.answerLost

theorem upwardReached {b : Bool} : KeepsStanding p s (t.upwardReached b) := by
  unfold State.upwardReached
  extract_lets first _ s2
  have hs2 : KeepsStanding p s s2 := .ite h h.setRt
  exact .ite hs2.sendJoin (.ite hs2.trigger (.ite hs2.decideMove (.ite hs2.sendJoin hs2)))

theorem groupReached {g : Nat} : KeepsStanding p s (t.groupReached g) := by
  unfold State.groupReached
  extract_lets s1
  have hs1 : KeepsStanding p s s1 := h.setLink.refresh.answerOwed
  clear_value s1
  refine releaseCredits (ite hs1.growTrees.sendResync ?_)
  split
  · exact hs1
  · exact hs1.upwardReached

/-! ### Lanes (13 R276 to R286) -/

theorem laneTo {q st step cause : Nat} : KeepsStanding p s (t.laneTo q st step cause) := h.wrAt.wrAt.setLane

theorem leaveUp {q cause st step : Nat} {alarm : Bool} : KeepsStanding p s (t.leaveUp q cause st step alarm) := by
  unfold State.leaveUp
  extract_lets before g s1 s2 _ s3
  have hs1 : KeepsStanding p s s1 := h.laneTo.bumpSatAt.wake
  have hs3 : KeepsStanding p s s3 := hs1.raiseIslandNow.setPtp
  exact (ite hs3.refresh hs3.groupLost).slaveChanged

theorem failGroup {g : Nat} : KeepsStanding p s (t.failGroup g) := h.foldl fun _ hu => hu.leaveUp

theorem laserOff {q : Nat} : KeepsStanding p s (t.laserOff q) := .ite h.wrAt h

theorem setLaneEnable {q v : Nat} : KeepsStanding p s (State.setLaneEnable q v t) := by
  unfold State.setLaneEnable
  extract_lets r s1
  have hr : KeepsStanding p s r.2 := h.boolWritten
  have hs1 : KeepsStanding p s s1 := hr.wrAt.persist
  exact .ite (ite hs1.leaveUp (.ite hs1 hs1.laneTo)).laserOff (.ite hs1.laneTo hs1)

theorem serveLaneEnable {rq : Requester} {q v : Nat} : KeepsStanding p s (State.serveLaneEnable rq q v t) :=
  h.serveWrite fun hu => hu.setLaneEnable.answerWrite

theorem calibrated {o : Ob} {n q : Nat} (ho : o.missesVerdict := by decide) : KeepsStanding p s (t.calibrated o n q) := (h.wrAt ho).drawn

theorem joinGroup {q : Nat} : KeepsStanding p s (t.joinGroup q) := by
  unfold State.joinGroup
  extract_lets u others _ s1 g0 g s2
  have hs1 : KeepsStanding p s s1 := h.setLane
  have hs2 : KeepsStanding p s s2 := hs1.foldl fun _ hu => hu.wrAt
  exact .ite h.wrAt (.ite hs2 hs2.setLink.setLink.setGq.setGq)

theorem trained {q : Nat} : KeepsStanding p s (t.trained q) := by
  unfold State.trained
  extract_lets before u g was s1 s2 s3 s4
  have hs1 : KeepsStanding p s s1 := h.joinGroup.laneTo.wake
  have hs2 : KeepsStanding p s s2 := hs1.calibrated.calibrated
  have hs4 : KeepsStanding p s s4 := hs2.setPtp.raiseIslandNow
  exact (ite hs4.refresh hs4.groupReached).slaveChanged

theorem trainFail {q : Nat} : KeepsStanding p s (t.trainFail q) := h.laneTo.bumpSatAt

theorem serveRetrain {rq : Requester} {q : Nat} : KeepsStanding p s (State.serveRetrain rq q t) := h.serveCmd fun hu => .ite hu.leaveUp hu

theorem stepFfe {q tap step : Nat} : KeepsStanding p s (t.stepFfe q tap step) := by
  unfold State.stepFfe
  exact (ite h h.wrAt).drawn

theorem takeTrain {q tap step st cause : Nat} : KeepsStanding p s (t.takeTrain q tap step st cause) :=
  .ite (.ite h.leaveUp (.ite h.leaveUp (.ite h.stepFfe h))) (.ite h.stepFfe h)

theorem sendTrain {q st : Nat} : KeepsStanding p s (t.sendTrain q st) := h.setLane.txOn.drawn

theorem sendIdent {q : Nat} : KeepsStanding p s (t.sendIdent q) := h.setLane.txOn

theorem trainOn {q : Nat} : KeepsStanding p s (t.trainOn q) := by
  unfold State.trainOn
  extract_lets v step _ s1 s2
  have hs1 : KeepsStanding p s s1 := h.wrAt.setLane.drawn
  have hs2 : KeepsStanding p s s2 := .ite hs1 hs1.sendTrain
  exact .ite hs2.sendIdent hs2

theorem adapt {q : Nat} : KeepsStanding p s (t.adapt q) := by
  unfold State.adapt
  extract_lets v s1 s2 _ s3 tap dfe cur
  have hs1 : KeepsStanding p s s1 := h.wrAt.wrAt.drawn
  have hs2 : KeepsStanding p s s2 := .ite hs1.wrAt hs1
  have hs3 : KeepsStanding p s s3 := hs2.setLane
  exact .ite (.ite hs2.sendTrain hs2) (.ite hs2 (.ite hs3.wrAt hs3.wrAt))

theorem takeAckSeq {g a : Nat} : KeepsStanding p s (t.takeAckSeq g a) := by
  unfold State.takeAckSeq
  extract_lets l
  clear_value l
  split
  · exact h
  · exact .ite h h.setLink.sendWaiting

theorem resend {g : Nat} : KeepsStanding p s (t.resend g) := by
  unfold State.resend
  extract_lets l s1 s2
  have hs1 : KeepsStanding p s s1 := h.setLink
  have hs2 : KeepsStanding p s s2 := hs1.foldl fun _ hu => hu.bumpSatAt.txOn
  exact .ite h (.ite hs2.failGroup hs2)

theorem acceptSeq {q seq n : Nat} {good : Bool} : KeepsStanding p s (t.acceptSeq q seq n good).2 := by
  unfold State.acceptSeq
  extract_lets g l s1 s2 held
  have hs2 : KeepsStanding p s s2 := .ite h h.bumpSatAt
  split_ifs
  · exact h.setLink.rxOn.sendCtl
  · exact hs2
  · exact hs2.setLink.sendCtl

theorem takeCredit {g c n : Nat} : KeepsStanding p s (t.takeCredit g c n) := h.setLink.sendCredit

/-! ### Routes and relays (13 R288 to R296, 14 R310) -/

theorem setRoute {die : Nat} {port : Option Nat} {ff : Nat} : KeepsStanding p s (t.setRoute die port ff) := h

theorem setRoutes {dies : List Nat} {port : Option Nat} {ff : Nat} : KeepsStanding p s (t.setRoutes dies port ff) := by
  unfold State.setRoutes
  extract_lets s1 s2
  have hs1 : KeepsStanding p s s1 := h.foldl fun _ hu => hu.setRoute
  have hs2 : KeepsStanding p s s2 := by
    unfold s2
    clear_value s1
    split
    · exact hs1.setMachine.drawn
    · exact hs1
  exact hs2.growTrees

theorem keepLegs : KeepsStanding p s t.keepLegs := h

theorem addLeg {l : AppliedLeg} : KeepsStanding p s (t.addLeg l) := h

theorem takeJoin {g ff : Nat} {dies : List Nat} : KeepsStanding p s (t.takeJoin g ff dies) := by
  unfold State.takeJoin
  extract_lets s1
  have hs1 : KeepsStanding p s s1 := h.setRoutes
  clear_value s1
  split
  · exact hs1.sendRoutes
  · exact hs1

theorem takeMove {g ff leg : Nat} {dies : List Nat} : KeepsStanding p s (t.takeMove g ff leg dies) := by
  unfold State.takeMove
  extract_lets s0 s1 _ _ _ _
  have hs0 : KeepsStanding p s s0 := h.keepLegs
  have hs1 : KeepsStanding p s s1 := hs0.setRoutes.addLeg
  clear_value s0 s1
  split
  · split
    · exact hs1.sendRoutes
    · exact hs1
  · exact hs0.setRoutes.foldl fun _ hu => hu.addLeg.sendRoutes
  · exact hs0.setRoutes.foldl fun _ hu => hu.addLeg

theorem discardRelay : KeepsStanding p s t.discardRelay := h.bumpSat

theorem forwardRelay {g : Option Nat} {orig : Nat} {r : RedRec} : KeepsStanding p s (t.forwardRelay g orig r) := by
  unfold State.forwardRelay
  split
  · exact h.discardRelay
  · exact .ite h.discardRelay (h.bumpSat.foldl fun _ hu => hu.enqueue)

theorem takeRelay {q orig : Nat} {r : RedRec} : KeepsStanding p s (t.takeRelay q orig r) := by
  unfold State.takeRelay
  split
  · exact h.discardRelay
  · split
    · exact h.forwardRelay
    · exact h.forwardRelay
    · exact .ite h.discardRelay h.takeRecord

theorem routeMove {v : Nat} : KeepsStanding p s (State.routeMove v t).1 := by
  unfold State.routeMove
  extract_lets b
  split_ifs
  · exact h.drawn
  · exact h
  · exact h.trigger
  · exact h
  · exact h.decideMove

theorem serveRouteMove {rq : Requester} {v : Nat} : KeepsStanding p s (State.serveRouteMove rq v t) := h.serveCmd fun hu => hu.routeMove

theorem setDieId {v : Nat} : KeepsStanding p s (State.setDieId v t) := by
  unfold State.setDieId
  exact (ite h.wr h.wr.drawn).sendJoin

theorem serveDieId {rq : Requester} {v : Nat} : KeepsStanding p s (State.serveDieId rq v t) :=
  h.serveWrite fun hu => (ite hu.setDieId hu).answerWrite

/-! ### Resets of an island (19 R396, R399) -/

theorem doneRecord {scope island cause boot : Nat} : KeepsStanding p s (t.doneRecord scope island cause boot) :=
  .ite h.raiseAlarm h.raiseO

theorem dropBuffers {g : Nat} : KeepsStanding p s (t.dropBuffers g) := h.setGq.setLink.refresh

theorem linkReset : KeepsStanding p s t.linkReset := by
  unfold State.linkReset
  extract_lets up gs gone lost s0 _ _ s1
  have hs0 : KeepsStanding p s s0 := h.foldl fun _ hu => hu.dropBuffers
  have hs1 : KeepsStanding p s s1 := hs0
  exact hs1.foldl fun _ hu => hu.leaveUp

theorem loupeIsland {k : Nat} : KeepsStanding p s (t.loupeIsland k) := h.resetLoupe.setRst

theorem resetActs {v : Nat} {b : Bytes} : KeepsStanding p s (State.resetActs v b t) := .ite (.ite h.linkReset h.loupeIsland) h.setRst

theorem serveReset {rq : Requester} {v : Nat} : KeepsStanding p s (State.serveReset rq v t) :=
  h.serveWrite fun hu => .ite hu.setCode.answerWrite.resetActs hu.setCode.answerWrite

end

/-! ### Lanes and their frames (13 R277 to R284) -/

section
variable {p : Prop} {s : State} {dt q : Nat} {f : State → State} (hf : ∀ {u : State}, KeepsStanding p s u → KeepsStanding p s (f u))
include hf

theorem laneEvent {st : Nat} : KeepsStanding p s (s.laneEvent dt q st f) := after fun hu => .ite hu (hf hu)

theorem rxFrame {n : Nat} : KeepsStanding p s (s.rxFrame dt q n f) := after fun hu => .ite hu (hf hu.rxOn)

theorem routeFrame {seq chunks : Nat} : KeepsStanding p s (s.routeFrame dt q seq chunks f) :=
  laneEvent fun hu => .ite (hf hu.acceptSeq) hu.acceptSeq

omit hf in
theorem badFrame {seq n : Nat} : KeepsStanding p s (s.badFrame dt q seq n) := after fun hu => .ite hu (.ite hu.acceptSeq hu.bumpSatAt)

end

end Sys2Proof.Machine.KeepsStanding
end

section
/-! Membership and FAULTY: trace commands, requests, the mailbox and the frame keep both (chapters 02, 11, 15, 16 and 18). -/

namespace Sys2Proof.Machine.KeepsStanding

open Sys2Proof

-- one theorem after the other: each theorem that waits for the kernel would hold a thread
set_option Elab.async false

section
variable {p : Prop} {s t : State} (h : KeepsStanding p s t)
include h

/-! ### Trace commands (11 R238 to R253) -/

theorem serveTraceEnable {rq : Requester} {v : Nat} : KeepsStanding p s (State.serveTraceEnable rq v t) :=
  h.serveWrite fun hu => hu.setTraceEnable.answerWrite

theorem takeGroup {k pc last kind target ret : Nat} {full taken : Bool} :
    KeepsStanding p s (t.takeGroup k full pc last kind taken target ret) := by
  unfold State.takeGroup
  extract_lets n s1 drops step
  have hs1 : KeepsStanding p s s1 := .ite h.stallCore h
  exact .ite h (.ite (.ite hs1.exception hs1.setNextAddr) hs1.retireGroup)

theorem setTr {x : Trace} : KeepsStanding p s { t with tr := x } := h

theorem moveCursor {a : Nat} : KeepsStanding p s (t.moveCursor a) := h.setTr.wr

theorem readStore {rq : Requester} : KeepsStanding p s (t.readStore rq) := by
  unfold State.readStore
  extract_lets r
  split
  · exact h.answer
  · extract_lets bytes s0 s1 s2
    have hs0 : KeepsStanding p s s0 := h.countRing
    have hs1 : KeepsStanding p s s1 := (ite hs0.bumpSat hs0).moveCursor
    have hs2 : KeepsStanding p s s2 := .ite hs1.openRead hs1
    exact hs2.answer

/-! ### Reads (15 R320, R325) -/

theorem countExport {off n : Nat} : KeepsStanding p s (t.countExport off n) := by
  unfold State.countExport
  refine List.foldlRecOn (motive := fun x : State × Nat => KeepsStanding p s x.1) t.exportChunks _ h ?_
  rintro ⟨u, a⟩ hu c -
  exact .ite hu.countStack hu

theorem readBytes {src : DapSource} {r : DapReq} : KeepsStanding p s (t.readBytes src r) := by
  unfold State.readBytes
  extract_lets key cap session _ v data s1 s2 copies _ s3
  have hs1 : KeepsStanding p s s1 := h
  have hs2 : KeepsStanding p s s2 := .ite hs1.countExport hs1
  have hs3 : KeepsStanding p s s3 := .ite hs2.openRead (.ite hs2.setDap hs2)
  split
  · exact h.setDap.answer
  · exact hs3.answer

theorem readStoreLive {src : DapSource} {r : DapReq} : KeepsStanding p s (t.readStoreLive src r) := by
  unfold State.readStoreLive
  split
  · exact h.answer
  · exact h.countRing.answer

theorem serveReadReq {src : DapSource} {r : DapReq} : KeepsStanding p s (State.serveReadReq src r t) :=
  h.serveRead fun hu => .ite hu.readWindow <| .ite hu.readWindow <| .ite (.ite hu.readStore (.ite hu.readBytes hu.readStoreLive)) hu.readBytes

/-! ### What a written value becomes (15 R321, 16 R339) -/

theorem scalarValue {o : Ob} {r : DapReq} : KeepsStanding p s (t.scalarValue o r).2 := by
  unfold State.scalarValue
  dsimp only
  split_ifs
  · exact h
  · exact h.drawn

theorem valueFor {o : Ob} {m v : Nat} : KeepsStanding p s (t.valueFor o m v).2 := by
  unfold State.valueFor
  dsimp only
  split_ifs
  · exact h.drawn
  · exact h

theorem written {o : Ob} {m j old : Nat} : KeepsStanding p s (t.written o m j old) :=
  .ite h.afterWrite.afterConfig.persist h.afterWrite.afterConfig

theorem domainFor {o : Ob} {whole : Bytes} : KeepsStanding p s (t.domainFor o whole).2 := by
  unfold State.domainFor
  extract_lets n
  split
  · exact h
  · exact h.setFree

theorem writeDomain {o : Ob} {m j : Nat} {whole : Bytes} : KeepsStanding p s (t.writeDomain o m j whole) :=
  .ite h h.domainFor.keepOld.wrBytes.written

theorem openCommand {rq : Requester} {o : Ob} : KeepsStanding p s (State.openCommand rq o t) := h.serveCmd fun hu => hu.drawn

theorem abortWrite {key : Nat} : KeepsStanding p s (t.abortWrite key) := by
  unfold State.abortWrite
  refine .ite ?_ h
  extract_lets s1
  have hs1 : KeepsStanding p s s1 := h.dropWrite
  split
  · exact hs1.imageAborted
  · exact hs1

theorem serveAbortReq {src : DapSource} {r : DapReq} : KeepsStanding p s (State.serveAbortReq src r t) :=
  h.serveRead fun hu => hu.abortWrite.answer

/-! ### Requests that pass (15 R317 to R330) -/

theorem forward {src : DapSource} {r : DapReq} {g : Nat} : KeepsStanding p s (t.forward src r g) := by
  unfold State.forward
  extract_lets id due e
  have hoffer : KeepsStanding p s (t.offerRequest g ({ r with reqId := id } : DapReq).bytes).2 := h.offerRequest
  refine .ite h (.ite h.answerLost (.ite h.answer ?_))
  split
  next heq =>
    rw [heq] at hoffer
    exact hoffer.answer
  next heq =>
    rw [heq] at hoffer
    exact hoffer.setDap

theorem takeResponse {q : Nat} {r : DapResp} : KeepsStanding p s (t.takeResponse q r) := by
  unfold State.takeResponse
  extract_lets mine
  split
  · exact h.setDap.respond
  · exact .ite h.bumpSat h

theorem answerAction {a : CmdAction} {code : Nat} : KeepsStanding p s (t.answerAction a code) := by
  unfold State.answerAction
  split
  · exact h.answer
  · exact h

theorem icmpAnswer {addr msg : Bytes} {bad : Bool} : KeepsStanding p s (t.icmpAnswer addr bad msg) :=
  .ite h (.ite h.bumpSat (.ite h.touch h.touch.emit))

/-! ### The mailbox (18 R379 to R383) -/

theorem accepted : KeepsStanding p s t.accepted := h.emit

theorem h2bWord {v : Nat} : KeepsStanding p s (t.h2bWord v) := .ite h.emit.bumpSat.setIrq h.setMb.accepted

theorem teardownNamed {job : Nat} : KeepsStanding p s (t.teardownNamed job) := .ite h.teardownDone h.wr.drawn

theorem ringNext : KeepsStanding p s t.ringNext := by
  unfold State.ringNext
  split
  · exact h
  · exact .ite h h.setMb.setBell.responseLeft

theorem b2hAcked {word : Nat} : KeepsStanding p s (t.b2hAcked word) := by
  unfold State.b2hAcked
  extract_lets d ret b early _ s0 _ s1 s2
  have hs0 : KeepsStanding p s s0 := by
    unfold s0
    split
    · exact h.of_same rfl rfl
    · exact h
  have hs1 : KeepsStanding p s s1 := hs0.setMb.setBell
  have hs2 : KeepsStanding p s s2 := .ite hs1 hs1.raiseO
  exact .ite h.setFree.setBell (.ite hs2.delivered hs2)

theorem irqWrite {v : Nat} : KeepsStanding p s (t.irqWrite v) := h.setMb

theorem hostRead {offset : Nat} : KeepsStanding p s (t.hostRead offset) := by
  unfold State.hostRead
  exact (ite h.setMb h).emit

/-! ### The frame (02 R41, 03 R72, 08 R172) -/

theorem screenPulse {n : Nat} : KeepsStanding p s (t.screenPulse n) := .ite h (h.foldl fun _ hu => hu.screenDie)

theorem framePulse {n due : Nat} : KeepsStanding p s (t.framePulse n due) := by
  unfold State.framePulse
  exact .ite h (ite h h.setRed).openFrame

theorem ageFrames {n : Nat} : KeepsStanding p s (t.ageFrames n) := h

theorem latchObjects : KeepsStanding p s t.latchObjects := h

theorem coreFrame {n due : Nat} : KeepsStanding p s (t.coreFrame n due) := by
  unfold State.coreFrame
  extract_lets s1
  have hs1 : KeepsStanding p s s1 := h.latchObjects.descPulse.capturePulse.engineDecision.verdictPulse.reachFrame.journalPrograms
  exact hs1.routePulse.framePulse.coverAgain.livePulse.screenPulse.ageFrames.negPulse

theorem shutterFire {c : Nat} : KeepsStanding p s (t.shutterFire c) := by
  unfold State.shutterFire
  split
  · exact h
  · extract_lets s1 s2
    have hs1 : KeepsStanding p s s1 := h.fireSlot
    have hs2 : KeepsStanding p s s2 := hs1.wr
    exact .ite (.ite hs2.coreFrame hs2) (.ite hs1.firedRelease hs1)

end

theorem onPort {p : Prop} {s : State} {dt : Nat} {i : Instr} {f : State → State}
    (hf : ∀ {u : State}, KeepsStanding p s u → KeepsStanding p s (f u)) : KeepsStanding p s (s.onPort dt i f) :=
  fromHost fun hu => .ite (hf hu.touch) hu

end Sys2Proof.Machine.KeepsStanding
end

section
/-! Membership alone: what may carry a write of VERDICT_CLEAR, or resets the block, keeps membership (08 R178). -/

namespace Sys2Proof.Machine

open Sys2Proof

-- one theorem after the other: each theorem that waits for the kernel would hold a thread
set_option Elab.async false

namespace KeepsStanding

section
variable {s t : State} (h : KeepsStanding False s t)
include h

/-- Where only membership counts, any object may take a value. -/
theorem wrAny {o : Ob} {v m j : Nat} : KeepsStanding False s (t.wr o v m j) := ⟨h.1, False.elim⟩

/-! ### VERDICT_CLEAR (08 R168) -/

theorem verdictClear : KeepsStanding False s t.verdictClear := h.restartWindow.setVer.wr.wrAny.raiseO

theorem serveVerdictClear {rq : Requester} : KeepsStanding False s (State.serveVerdictClear rq t) := h.serveCmd fun hu => hu.verdictClear

/-! ### Writes of objects (15 R321, 16 R339) -/

theorem writeScalar {o : Ob} {m j : Nat} {r : DapReq} : KeepsStanding False s (t.writeScalar o m j r) :=
  .ite h h.scalarValue.valueFor.keepOld.wrAny.written

theorem writePlain {rq : Requester} {o : Ob} {m j : Nat} {r : DapReq} : KeepsStanding False s (t.writePlain rq o m j r) := by
  unfold State.writePlain
  extract_lets ok
  have hsegment : KeepsStanding False s (t.segment rq (o.key m j) r.offset r.total r.data).2 := h.segment
  refine .ite h.answer (.ite ?_ h.writeScalar.answer)
  split
  next heq =>
    rw [heq] at hsegment
    exact hsegment.answer
  next last whole u heq =>
    rw [heq] at hsegment
    have hu : KeepsStanding False s u := hsegment
    exact (ite hu.writeDomain hu).answer

end

section
variable {s t : State} (h : KeepsStanding False s t)
include h

/-- A write of OVERLAY_ARM, of REC_CLEAR or of EXPORT is the command that its value names. -/
theorem serveOverlayWrite {rq : Requester} {v : Nat} :
    KeepsStanding False s ((if v = 1 then State.serveOverlayArm rq else if v = 0 then State.serveOverlayDisarm rq
      else State.openCommand rq Dict.overlayArm) t) := by
  split_ifs
  · exact h.serveOverlayArm
  · exact h.serveOverlayDisarm
  · exact h.openCommand

theorem serveClearWrite {rq : Requester} {v : Nat} :
    KeepsStanding False s ((if v = 0 then State.serveClearF rq else if v = 1 then State.serveClearO rq
      else if v = 2 then State.serveClearBoth rq else State.openCommand rq Dict.recClear) t) := by
  split_ifs
  · exact h.serveClearF
  · exact h.serveClearO
  · exact h.serveClearBoth
  · exact h.openCommand

theorem serveExportWrite {rq : Requester} {v : Nat} :
    KeepsStanding False s ((if v = 1 then State.serveExportFreeze rq else if v = 0 then State.serveExportRelease rq
      else State.openCommand rq Dict.exportCmd) t) := by
  split_ifs
  · exact h.serveExportFreeze
  · exact h.serveExportRelease
  · exact h.openCommand

end

/-- A write of an object with a command of its own keeps membership. -/
def OwnWriteKeeps (e : Ob × (Requester → Nat → DapReq → State → State)) : Prop :=
  ∀ (s t : State) (rq : Requester) (m : Nat) (r : DapReq), KeepsStanding False s t → KeepsStanding False s (e.2 rq m r t)

theorem OwnWriteKeeps.scalar {o : Ob} {f : Requester → Nat → Nat → State → State}
    (hf : ∀ {s t : State} {rq : Requester} {m v : Nat}, KeepsStanding False s t → KeepsStanding False s (f rq m v t)) :
    OwnWriteKeeps (ownScalar o f) :=
  fun _ _ _ _ _ h => hf h.scalarValue

theorem OwnWriteKeeps.cmd {o : Ob} {f : Requester → Nat → Nat → State → State}
    (hf : ∀ {s t : State} {rq : Requester} {m v : Nat}, KeepsStanding False s t → KeepsStanding False s (f rq m v t)) :
    OwnWriteKeeps (ownCmd o f) :=
  fun _ _ _ _ _ h => hf h

theorem OwnWriteKeeps.bytes {o : Ob} {f : Requester → Nat → Nat → Nat → Bytes → State → State}
    (hf : ∀ {s t : State} {rq : Requester} {m offset total : Nat} {b : Bytes},
      KeepsStanding False s t → KeepsStanding False s (f rq m offset total b t)) :
    OwnWriteKeeps (ownBytes o f) :=
  fun _ _ _ _ _ h => hf h

/-- Each object that has a command of its own, in the order of the model's table. -/
theorem ownWrites_keep : ∀ e ∈ ownWrites, OwnWriteKeeps e := by
  simp only [ownWrites, List.forall_mem_cons]
  exact ⟨.scalar fun h => h.serveTimeNow, .scalar fun h => h.serveDieId, .cmd fun h => h.serveShutterApply,
    .cmd fun h => h.serveClearEvents, .cmd fun h => h.serveCmdTableClear, .cmd fun h => h.serveDescApply,
    .bytes fun h => h.serveImage, .cmd fun h => h.serveActivate, .cmd fun h => h.serveLoadStack, .cmd fun h => h.serveUnload,
    .scalar fun h => h.serveDevPhase, .bytes fun h => h.serveStackWrite, .cmd fun h => h.serveProgramApply,
    .cmd fun h => h.serveBaselineReset, .cmd fun h => h.serveVerdictClear, .cmd fun h => h.serveEpochIssue,
    .cmd fun h => h.serveBcastIssue, .cmd fun h => h.serveOverlayWrite, .scalar fun h => h.serveBoundEnforce, .cmd fun h => h.serveBoundReset,
    .cmd fun h => h.serveTestRequest, .cmd fun h => h.serveTestCancel, .scalar fun h => h.serveTraceEnable,
    .cmd fun h => h.servePrcStart, .cmd fun h => h.servePrcResume, .cmd fun h => h.servePrcAbort, .cmd fun h => h.serveRouteMove,
    .cmd fun h => h.serveClearWrite, .cmd fun h => h.serveNegTake, .cmd fun h => h.serveReset, .bytes fun h => h.serveKeeperImage,
    .cmd fun h => h.serveKeeperUpdate, .scalar fun h => h.serveJournalEnable, .cmd fun h => h.serveExportWrite, .scalar fun h => h.serveLaneEnable,
    .cmd fun h => h.serveRetrain, .cmd fun h => h.serveGateApply, fun _ he => absurd he List.not_mem_nil⟩

section
variable {s t : State} (h : KeepsStanding False s t)
include h

theorem serveWriteReq {rq : Requester} {r : DapReq} : KeepsStanding False s (State.serveWriteReq rq r t) := by
  unfold State.serveWriteReq
  split
  · split
    next f hfind =>
      obtain ⟨e, he, rfl⟩ := Option.map_eq_some_iff.mp hfind
      exact ownWrites_keep e (List.mem_of_find?_eq_some he) s t rq _ r h
    next => exact h.serveAny fun hu => hu.writePlain
  · exact h.serveRead fun hu => hu.answer

theorem serveRequest {src : DapSource} {r : DapReq} : KeepsStanding False s (State.serveRequest src r t) := by
  unfold State.serveRequest
  split
  · exact h.serveReadReq
  · exact h.serveWriteReq
  · exact h.serveAbortReq
  · exact h.touch.drawn.answer

theorem dapRoute {src : DapSource} {r : DapReq} : KeepsStanding False s (t.dapRoute src r) := by
  unfold State.dapRoute
  extract_lets self
  refine .ite ?_ (.ite h.forward (.ite h.answerLost ?_))
  · split
    · exact h.serveRequest
    · exact .ite h.forward h.answerLost
  · split
    · exact .ite h.forward h.answerLost
    · exact h.answerLost

theorem takeRequest {src : DapSource} {r : DapReq} {via : Datagram} : KeepsStanding False s (t.takeRequest src r via) := by
  cases src with
  | mailbox => exact .ite h (.ite h.touch.serveRequest h.touch.answerLost)
  | lane q => exact .ite h h.touch.dapRoute
  | mgmt a q => exact .ite h (.ite h.bumpSat (.ite h.touch h.touch.dapRoute))

/-! ### Actions that end (15 R323) -/

theorem nextHeld {key : Nat} : KeepsStanding False s (t.nextHeld key) := by
  unfold State.nextHeld
  split
  · exact h
  · extract_lets _ s1 r _ s2
    have hs1 : KeepsStanding False s s1 := h.setDap
    have hs2 : KeepsStanding False s s2 := hs1.setDap.serveWriteReq
    exact hs2.setDap.wr

theorem completeAction {a : CmdAction} : KeepsStanding False s (t.completeAction a) := by
  unfold State.completeAction
  extract_lets code _ s1
  have hs1 : KeepsStanding False s s1 := h
  exact hs1.answerAction.nextHeld

/-! ### Rings from the host (18 R379 to R383) -/

theorem h2bMessage {door kind : Nat} {b : Bytes} : KeepsStanding False s (t.h2bMessage door kind b).2 := by
  unfold State.h2bMessage
  extract_lets misuse
  have hmisuse : KeepsStanding False s misuse.2 := h.drawn
  split_ifs
  · split
    · exact h.takeRequest
    · exact hmisuse
  · exact h.teardownNamed
  · exact h.testDone
  · exact hmisuse

theorem h2bRing {word : Nat} : KeepsStanding False s (t.h2bRing word) := by
  unfold State.h2bRing
  extract_lets d kind n open_ left w _ bs s1 r _
  have hs1 : KeepsStanding False s s1 := h.setBell
  have hr : KeepsStanding False s r.2 := hs1.h2bMessage
  exact .ite h.setFree.setMb.wr.setBell hr.setMb

theorem hostWrite {offset v : Nat} : KeepsStanding False s (t.hostWrite offset v) := by
  unfold State.hostWrite
  split
  · exact h.irqWrite.accepted
  · exact h.setMb.accepted
  · exact h.wr.accepted
  · exact h.h2bWord
  · exact h.h2bRing.accepted
  · exact h.b2hAcked.accepted
  · exact h.accepted

/-! ### Block-scope reset (19 R397) -/

theorem abortLoads : KeepsStanding False s t.abortLoads := h.foldl fun _ hu => .ite hu.wrAt.wrAt hu

theorem unstall : KeepsStanding False s t.unstall := h.foldl fun _ hu => hu.emit

theorem lanesReset {up : List Nat} : KeepsStanding False s (t.lanesReset up) := by
  unfold State.lanesReset
  extract_lets s1
  have hs1 : KeepsStanding False s s1 := h.foldl fun _ hu => hu.wrAt
  exact hs1.foldl fun _ hu => hu.bumpSatAt.setPtp

theorem blockReset {cause : Nat} : KeepsStanding False s (t.blockReset cause) := by
  unfold State.blockReset
  extract_lets u before up open_ _ _ n
  have hu : KeepsStanding False s u := h.negAbandon.abortLoads.unstall
  have hn : KeepsStanding False s n := ⟨hu.1, False.elim⟩
  exact hn.lanesReset.slaveChanged.keeperRest

end

end KeepsStanding

end Sys2Proof.Machine
end

section
/-! Membership and FAULTY: the commands (08 R178, Table 08-4). -/

namespace Sys2Proof.Machine

open Sys2Proof

-- one theorem after the other: each theorem that waits for the kernel would hold a thread
set_option Elab.async false

namespace KeepsStanding

/-- A command that answers a next state keeps what that state keeps. -/
theorem next {p : Prop} {s t : State} (h : KeepsStanding p s t) : KeepsStanding p s (s.served (.next t)) := h

/-- Where the verdict does not count, membership is all. -/
theorem of_member {p : Prop} {s t : State} (hp : ¬ p) (h : KeepsStanding False s t) : KeepsStanding p s t :=
  ⟨h.1, fun hyes => absurd hyes hp⟩

theorem member {p : Prop} {s t : State} (h : KeepsStanding p s t) : KeepsStanding False s t := ⟨h.1, False.elim⟩

section
variable {p : Prop} {s : State} {dt : Nat}

/-! ### Chapters 05 and 04 -/

theorem ptpPdelayResp {q domain gm utc seq : Nat} {corr : Int} :
    KeepsStanding p s (s.served (execPtpPdelayResp dt q domain gm utc seq corr s)) :=
  .next <| .island fun {u} h => by
    refine .ite h ?_
    extract_lets s1 l
    have hs1 : KeepsStanding p s s1 := h.rxOn.relayed
    clear_value s1 l
    split
    · exact hs1
    · exact .ite hs1 (hs1.setPtp.storePs (by decide))

theorem syncLossTimeout : KeepsStanding p s (s.served (execSyncLossTimeout dt s)) :=
  .next <| .island fun h => by
    refine .ite h ?_
    split
    · exact h.toFreerun
    · exact .ite h h.toHoldover
    · exact h

theorem holdoverTimeout : KeepsStanding p s (s.served (execHoldoverTimeout dt s)) :=
  .next <| .island fun h => by
    split
    · exact h
    · exact .ite h h.setClock.clockRecord.toFreerun

theorem timeAnchor : KeepsStanding p s (s.served (execTimeAnchor dt s)) :=
  .next <| .island fun {u} h => by
    have hnext {c : TimeBase} : KeepsStanding p s { u with time := c } := h
    exact .ite h (ite hnext.bump hnext).raiseIsland

theorem dieVectorComplete : KeepsStanding p s (s.served (execDieVectorComplete dt s)) :=
  .next <| .core fun h => by
    split
    · exact .ite h h.completeDie
    · exact h

theorem engineVectorComplete : KeepsStanding p s (s.served (execEngineVectorComplete dt s)) :=
  .next <| .core fun h => by
    split
    · refine .ite h.setKind ?_
      split
      · exact .ite h h.completeEngine
      · exact h
    · exact h

/-! ### Chapters 07 to 09 -/

theorem mergeComplete : KeepsStanding p s (s.served (execMergeComplete dt s)) :=
  .next <| .core fun h => by
    split
    · split
      · exact h.sendFrame
      · exact h
    · exact h

theorem featureFrame {q : Nat} {f : FeatFrame} : KeepsStanding p s (s.served (execFeatureFrame dt q f s)) :=
  .next <| .fromLane fun h => .ite h <| h.touch.foldl fun _ hu => by
    split
    · exact hu.takeEngineVector
    · exact hu.takeDieVector

theorem verdictFormed : KeepsStanding p s (s.served (execVerdictFormed dt s)) :=
  .next <| .core fun h => by
    split
    · exact .ite h.formVerdict h
    · exact h

theorem epochSegment {q epoch level firstFrame seg segs : Nat} {reissue resync : Bool} {entries : List EpochEntry} :
    KeepsStanding p s (s.served (execEpochSegment dt q epoch level reissue firstFrame seg segs resync entries s)) :=
  .next <| .fromLane fun h => h.onLane fun hu =>
    .ite hu.leafSegment (.ite hu.hopAckOf.keepSegment (hu.takeDown fun hv => hv.keepSegment))

/-! ### Chapter 11 -/

theorem sqGroup {k pc last kind target ret : Nat} {taken : Bool} :
    KeepsStanding p s (s.served (execSqGroup dt k pc last kind taken target ret s)) :=
  .next <| .after fun h => .ite h (ite h.touch h.wake).takeGroup

theorem sinkLineWritten : KeepsStanding p s (s.served (execSinkLineWritten dt s)) :=
  .next <| .after fun h => by
    split
    · exact h
    · refine .ite h ?_
      extract_lets ptr next _ s1 s2
      have hs1 : KeepsStanding p s s1 := h.setTr.emit.wr
      have hs2 : KeepsStanding p s s2 := .ite hs1.bump hs1
      exact hs2.bumpAt.stallCheck

/-! ### Chapter 12 -/

theorem prcJobStop {c : Nat} : KeepsStanding p s (s.served (execPrcJobStop dt c s)) :=
  .next <| .core fun h => by
    split
    · exact .ite h.prcRun h.prcWild
    · exact h

/-! ### Chapter 13 -/

theorem trainingComplete {q : Nat} : KeepsStanding p s (s.served (execTrainingComplete dt q s)) :=
  .next <| .laneEvent fun h => .ite h (ite h h.sendIdent).trained

theorem dataFrame {q seq cls n : Nat} {good : Bool} {ack : Option Nat} {relay : Option (Nat × RedRec)} :
    KeepsStanding p s (s.served (execDataFrame dt q good seq cls n ack relay s)) := by
  refine .next (.ite ?_ badFrame)
  refine .laneEvent fun {u} h => ?_
  extract_lets s1 r s2
  have hs1 : KeepsStanding p s s1 := by
    unfold s1
    split
    · exact h.takeAckSeq
    · exact h
  have hr : KeepsStanding p s r.2 := hs1.acceptSeq
  have hs2 : KeepsStanding p s s2 := hr.takeCredit.touch.wake
  clear_value s2
  refine .ite hr ?_
  split
  · exact .ite hs2 (.ite hs2.takeRelay hs2.park)
  · exact hs2

theorem parentLost {q seq : Nat} : KeepsStanding p s (s.served (execParentLost dt q seq s)) :=
  .next <| .laneEvent fun {u} h => by
    extract_lets r
    have hr : KeepsStanding p s r.2 := h.acceptSeq
    clear_value r
    refine .ite hr ?_
    split
    · exact hr.trigger
    · exact hr

theorem homeHold : KeepsStanding p s (s.served (execHomeHold dt s)) :=
  .next <| .island fun h => by
    split
    · exact .ite h.setRt.trigger h
    · exact h

theorem laserLoop {q : Nat} : KeepsStanding p s (s.served (execLaserLoop dt q s)) :=
  .next <| .laneEvent fun {u} h => by
    refine .ite h ?_
    extract_lets _ s1
    have hs1 : KeepsStanding p s s1 := h.setLane.wrAt.drawn
    exact .ite hs1.setLane.raiseIslandNow hs1

/-! ### Chapters 14 to 20 -/

theorem classDropFlush : KeepsStanding p s (s.served (execClassDropFlush dt s)) :=
  .next <| .core fun {u} h => by
    have hruns {x : Sched} : KeepsStanding p s { u with sch := x } := h
    exact hruns.foldl fun _ hu => hu.writeRun

theorem objectWrite {w : ObjWrite} : KeepsStanding False s (s.served (execObjectWrite dt w s)) := by
  cases w with
  | dap => exact .next (.fromSource fun h => h.takeRequest)
  | damaged => exact .next (.fromMgmt fun h => .ite h.bumpSat h)
  | register => exact .next (.onPort fun h => h.hostWrite)
  | readRegister => exact .next (.onPort fun h => h.hostRead)

theorem persistDone : KeepsStanding p s (s.served (execPersistDone dt s)) :=
  .next <| .core fun {u} h => by
    split
    · exact h
    · extract_lets seq bs _ s1
      have hs1 : KeepsStanding p s s1 := h
      exact .ite hs1.persistBegin hs1

theorem dvfsChangeDone : KeepsStanding p s (s.served (execDvfsChangeDone dt s)) :=
  .next <| .core fun h => by
    split
    · exact h.wr.setPw
    · exact h

theorem keeperVerified : KeepsStanding p s (s.served (execKeeperVerified dt s)) :=
  .next <| .core fun h => by
    split
    · exact .ite h (.ite h.updateFails (.ite h.updateFails (.ite h.updateTo.wr h.updateSwap)))
    · exact h

theorem keeperPersisted {ok : Bool} : KeepsStanding p s (s.served (execKeeperPersisted dt ok s)) :=
  .next <| .core fun h => by
    split
    · exact .ite h (.ite h.setSpareSlot.updateSwap h.updateFails)
    · exact h

theorem keeperQuiescent : KeepsStanding p s (s.served (execKeeperQuiescent dt s)) :=
  .next <| .core fun h => by
    split
    · exact .ite h (.ite h.keeperTraceOff.updateTo.wr (.ite h.updateFails h))
    · exact h

theorem keeperReady {ok : Bool} : KeepsStanding p s (s.served (execKeeperReady dt ok s)) :=
  .next <| .core fun h => by
    split
    · exact .ite h (ite h.setKp.wr h).updateEnds.keeperStarts.updatedRecord
    · exact h

theorem journalLost : KeepsStanding p s (s.served (execJournalLost dt s)) :=
  .next <| .core fun h => h.foldl fun _ hu => by
    split
    · exact .ite hu.endDiscards hu
    · exact hu

theorem ceB2hTransfer : KeepsStanding p s (s.served (execCeB2hTransfer dt s)) :=
  .next <| .core fun h => by
    split
    · exact h
    · exact h.ceDrain

end

end KeepsStanding

/-! ### Every command -/

/-- The commands that change membership: an epoch that is applied, the chip-scope resets, and the end of a reset (08 R178). -/
def movesMembership : Instr → Bool
  | .epochApplied .. | .chipScopeReset .. | .resetDelayExpiry .. | .resetEnd .. => true
  | _ => false

/-- The commands that may leave FAULTY: those that may carry a write of VERDICT_CLEAR or serve one that was held, and resets (Table 08-4). -/
def mayClearVerdict : Instr → Bool
  | .verdictClear .. | .objectWrite .. | .dapRead .. | .dapAbort .. | .cmdComplete .. | .h2bRing .. | .logicReady .. => true
  | .chipScopeReset .. | .blockScopeReset .. | .resetDelayExpiry .. | .resetEnd .. => true
  | _ => false

open KeepsStanding in
/-- Every command but those that move membership, and LOGIC_READY, which serves the commands held while the core slept. -/
theorem exec_keepsStanding_of_awake {c : Instr} (s : State) (hmoves : movesMembership c = false) (hready : ∀ dt, c ≠ .logicReady dt) :
    KeepsStanding (mayClearVerdict c = false) s (s.served (exec c s)) := by
  cases c with
  | blockScopeReset => exact .of_member nofun (.next (.after fun h => .ite h.blockReset h))
  | keeperScopeReset => exact .next (.core fun h => h.setRst.keeperReset)
  | keeperWatchdog => exact .next (.core fun h => h.keeperReset)
  | resetIslandLink | resetIslandLoupe | resetKeeper | resetBlock | resetChip => exact .next (.asked fun h => h.serveReset)
  | objectWrite => exact .of_member nofun objectWrite
  | dapRead | dapAbort => exact .of_member nofun (.next (.fromSource fun h => h.takeRequest))
  | dapResponse => exact .next (.fromLane fun h => .ite h h.touch.takeResponse)
  | pendTimeout => exact .next (.core fun h => h.losePendings)
  | segTimeout => exact .next (.core fun h => h.setDap.foldl fun _ hu => hu.abortWrite)
  | cmdInProgress => exact .next (.core fun h => h.setDap.foldl fun _ hu => hu.answerAction)
  | cmdComplete => exact .of_member nofun (.next (.core fun h => h.foldl fun _ hu => hu.completeAction))
  | neighborSolicitation | echoRequest => exact .next (.fromMgmt fun h => h.icmpAnswer)
  | ptpSync => exact .next (.island fun h => .ite h (.ite h.rxOn.relayed h.rxOn.relayed.takeSync))
  | ptpPdelayReq | ptpDelayReq => exact .next (.island fun h => .ite h (.ite h.rxOn.relayed h.rxOn.relayed.sendPtp))
  | ptpPdelayResp => exact ptpPdelayResp
  | ptpDelayResp => exact .next (.island fun h => .ite h (.ite h.rxOn.relayed h.rxOn.relayed.takeDelayResp))
  | ptpMgmtMessage => exact .next (.island fun h => .ite h h.settleGm.takeMgmtPtp)
  | ptpIntervalTick => exact .next (.island fun h => h.tickLanes.tickPort)
  | syncLossTimeout => exact syncLossTimeout
  | holdoverTimeout => exact holdoverTimeout
  | timeAnchor => exact timeAnchor
  | timeNowWrite => exact .next (.asked fun h => h.serveTimeNow)
  | shutterFire => exact .next (.island fun h => .ite h.shutterFire h)
  | shutterApply => exact .next (.asked fun h => h.serveShutterApply)
  | clearEvents => exact .next (.asked fun h => h.serveClearEvents)
  | heldCapture => exact .next (.core fun h => h.takeHeld)
  | snapshotDrained => exact .next (.core fun h => h.drainOne)
  | dieVectorComplete => exact dieVectorComplete
  | engineVectorComplete => exact engineVectorComplete
  | descApply => exact .next (.asked fun h => h.serveDescApply)
  | cmdTableClear => exact .next (.asked fun h => h.serveCmdTableClear)
  | begin_ | end_ | bytes | linkBytes | arrive | tagOpen | tagClose | bktOpen | bktClose | dupDecline | shardOpen
  | shardRange | shardClose | ckptBoundary => exact .next .ceTake
  | bracketWait => exact .next (.core fun h => h.foldl fun _ hu => hu.bracketTimeout)
  | loupeLine => exact .next (.after fun h => .ite h (.ite h.wake.touch.countLine.lineEnters h.wake))
  | healthStrobe => exact .next (.after fun h => .ite h (.ite h.strobe h.crossStrobe))
  | scoreRecordComplete => exact .next (.core fun h => .ite h.scoreDone h)
  | imageSegment => exact .next (.asked fun h => h.serveImage)
  | stackWrite => exact .next (.asked fun h => h.serveStackWrite)
  | loadStack => exact .next (.asked fun h => h.serveLoadStack)
  | loadEnd => exact .next (.core fun h => .ite h.loadEnd h)
  | activate => exact .next (.asked fun h => h.serveActivate)
  | unload => exact .next (.asked fun h => h.serveUnload)
  | unloadDrained => exact .next (.core fun h => .ite h.slotEmpty h)
  | retire => exact .next (.core fun h => h.retireSlot)
  | devPhaseWrite => exact .next (.asked fun h => h.serveDevPhase)
  | programApply => exact .next (.asked fun h => h.serveProgramApply)
  | reductionRecord => exact .next (.fromLane fun h => .ite h.touch.takeRecord h)
  | deadline => exact .next (.core fun h => h.foldl fun _ hu => hu.deadlineOne)
  | mergeComplete => exact mergeComplete
  | centreRecord => exact .next (.fromLane fun h => .ite h.touch.takeCentres h)
  | featureFrame => exact featureFrame
  | verdictFormed => exact verdictFormed
  | verdictClear => exact .of_member nofun (.next (.asked fun h => h.serveVerdictClear))
  | baselineReset => exact .next (.asked fun h => h.serveBaselineReset)
  | stallTimeout => exact .next (.core fun h => .ite h (h.foldl fun _ hu => .ite hu.liveMove hu))
  | arrival => exact .next (.fromLane fun h => h.onLane fun hu => .ite hu.takeArrival hu)
  | release | bcast => exact .next (.fromLane fun h => h.onLane fun hu => .ite hu.leafTake (hu.takeDown fun hv => hv.holdOrAct))
  | bcastAck => exact .next (.fromLane fun h => h.onLane fun hu => .ite hu.takeAck hu)
  | hopAck => exact .next (.fromLane fun h => h.onLane fun hu => hu.setBar.settle)
  | nackTimeout => exact .next (.core fun h => h.nackTimeouts)
  | ackHold => exact .next (.core fun h => .ite h h.flushUnions)
  | ackReport => exact .next (.core fun h => .ite h (h.foldl fun _ hu => hu.setBar.raiseAlarm))
  | barrierReport => exact .next (.core fun h => .ite h (h.setBar.foldl fun _ hu => hu.raiseAlarm))
  | epochSegment => exact epochSegment
  | epochIssue => exact .next (.asked fun h => h.serveEpochIssue)
  | bcastIssueJobStart | bcastIssueJobTeardown | bcastIssueHostMessage => exact .next (.asked fun h => h.serveBcastOp)
  | teardownDone => exact .next (.fromHost fun h => .ite h (.ite h.touch.teardownDone h.wr.drawn))
  | overlayArm => exact .next (.asked fun h => h.serveOverlayArm)
  | overlayDisarm => exact .next (.asked fun h => h.serveOverlayDisarm)
  | digestRecord => exact .next (.fromLane fun h => .ite h h.touch.digestArrives)
  | overlayWait => exact .next (.core fun h => h.foldl fun _ hu => hu.overlayExpire)
  | mismatchNotice => exact .next (.fromLane fun h => .ite h (.ite h.touch.countMismatch h.touch.sendNotice))
  | boundPeriod => exact .next (.core fun h => .ite h (.ite h.boundTick.boundPeriod h.boundTick))
  | boundReset => exact .next (.asked fun h => h.serveBoundReset)
  | boundEnforceWrite => exact .next (.asked fun h => h.serveBoundEnforce)
  | testRequest => exact .next (.asked fun h => h.serveTestRequest)
  | testCancel => exact .next (.asked fun h => h.serveTestCancel)
  | testDeadline => exact .next (.core fun h => h.foldl fun _ hu => hu.testOverdue)
  | testDone => exact .next (.fromHost fun h => .ite h.touch.testDone h)
  | traceEnableWrite => exact .next (.asked fun h => h.serveTraceEnable)
  | sqGroup => exact sqGroup
  | sqSleep => exact .next (.core fun h => .ite h (.ite h.setTrc (.ite h.setTrc.powerPacket h.setTrc.powerPacket.syncPacket)))
  | traceLineTimeout => exact .next (.core fun h => h.foldl fun _ hu => .ite hu.completeLine hu)
  | syncPeriod => exact .next (.core fun h => h.foldl fun _ hu => .ite hu.setTrc hu)
  | sinkLineWritten => exact sinkLineWritten
  | offloadFlush => exact .next (.core fun h => h.foldl fun _ hu => .ite hu.sendUnit hu)
  | offloadUnit => exact .next (.fromLane fun h => .ite h h.touch.storeAppend)
  | storeRead => exact .next (.asked fun h => h.serveRead fun hu => hu.readStore)
  | prcStart => exact .next (.asked fun h => h.servePrcStart)
  | prcResume => exact .next (.asked fun h => h.servePrcResume)
  | prcAbort => exact .next (.asked fun h => h.servePrcAbort)
  | prcJobStop => exact prcJobStop
  | laneEnableWrite => exact .next (.asked fun h => h.serveLaneEnable)
  | laneLock => exact .next (.laneEvent fun h => h.laneTo)
  | trainingComplete => exact trainingComplete
  | lockLost => exact .next (.laneEvent fun h => h.leaveUp)
  | trainLimit => exact .next (.island fun h => h.foldl fun _ hu => hu.trainFail)
  | failHold => exact .next (.island fun h => h.foldl fun _ hu => hu.laneTo)
  | retrain => exact .next (.asked fun h => h.serveRetrain)
  | train => exact .next (.rxFrame fun h => h.takeTrain)
  | ident => exact .next (.rxFrame fun h => .ite h h.wrBytes.setLane)
  | dataFrame => exact dataFrame
  | ack => exact .next (.laneEvent fun h => h.rxOn.takeAckSeq)
  | nak => exact .next (.laneEvent fun h => h.rxOn.takeAckSeq.resend)
  | replayTimeout => exact .next (.island fun h => h.foldl fun _ hu => hu.resend)
  | credit => exact .next (.laneEvent fun h => h.rxOn.setLink.refresh)
  | creditRefresh => exact .next (.island fun h => h.foldl fun _ hu => hu.freeCredit.sendCredit)
  | routeJoin => exact .next (.routeFrame fun h => .ite h.takeJoin h)
  | routeMoveLeg => exact .next (.routeFrame fun h => .ite h.takeMove h)
  | parentLost => exact parentLost
  | routeMove => exact .next (.asked fun h => h.serveRouteMove)
  | homeHold => exact homeHold
  | equaliserAdapt => exact .next (.laneEvent fun h => h.adapt)
  | laserLoop => exact laserLoop
  | dataDecision => exact .next (.core fun h => h.decide_)
  | gateApply => exact .next (.asked fun h => h.serveGateApply)
  | gateEntryChange => exact .next (.core fun h => .ite h h.refresh)
  | classDropFlush => exact classDropFlush
  | alarmRecord => exact .next (.fromLane fun h => .ite h h.touch.forwardAlarm.takeChildRecord)
  | alarmSpaceFreed => exact .next (.core fun h => h.spaceFreed)
  | mirrorFlush => exact .next (.core fun h => .ite h.sendMirror h)
  | mirrorMessage => exact .next (.fromLane fun h => .ite h (h.touch.foldl fun _ hu => hu.takeChildRecord))
  | clearF => exact .next (.asked fun h => h.serveClearF)
  | clearO => exact .next (.asked fun h => h.serveClearO)
  | clearBoth => exact .next (.asked fun h => h.serveClearBoth)
  | fWindow | oWindow => exact .next (.asked fun h => h.serveWindow)
  | negTake => exact .next (.asked fun h => h.serveNegTake)
  | negPeriod => exact .next (.core fun h => .ite h.setNeg h)
  | negFixed => exact .next (.core fun h => .ite h h.stackWrite.stackWrite.setNeg.wr.wr.raiseO)
  | persistDone => exact persistDone
  | h2bData => exact .next (.onPort fun h => h.h2bWord)
  | h2bRing => exact .of_member nofun (.next (.onPort fun h => h.h2bRing.accepted))
  | b2hData => exact .next (.onPort fun h => h.hostRead)
  | b2hAck => exact .next (.onPort fun h => h.b2hAcked.accepted)
  | irqStatusWrite => exact .next (.onPort fun h => h.irqWrite.accepted)
  | b2hRing => exact .next (.core fun h => .ite h.ringNext h)
  | mbTimeout => exact .next (.core fun h => h.foldl fun _ hu => hu.bellLate)
  | dimIdle => exact .next (.core fun h => .ite h.enterPower.powerEntered h)
  | safelightIdle => exact .next (.after fun h => .ite h.enterPower h)
  | powerEntryDone => exact .next (.island fun h => h.powerEntered)
  | wakeSource => exact .next (.island fun h => .ite h h.wake)
  | regGood | pllLock | memReady => exact .next (.island fun h => h.wakeStep)
  | dvfsPeriod => exact .next (.core fun h => .ite h h.setPw.drawn)
  | keeperUpdateLive | keeperUpdateRestart => exact .next (.asked fun h => h.serveKeeperUpdate)
  | keeperVerified => exact keeperVerified
  | keeperPersisted => exact keeperPersisted
  | keeperQuiescent => exact keeperQuiescent
  | keeperReady => exact keeperReady
  | dieIdWrite => exact .next (.asked fun h => h.serveDieId)
  | journalEnableWrite => exact .next (.asked fun h => h.serveJournalEnable)
  | chunkTimeout => exact .next (.core fun h => h.foldl fun _ hu => hu.closeGather)
  | journalLost => exact journalLost
  | leafJournalFlush => exact .next (.core fun h => .ite h.sendLeafJournal h)
  | leafJournalMessage => exact .next (.fromLane fun h => .ite h (h.touch.foldl fun _ hu => hu.entry))
  | exportFreeze => exact .next (.asked fun h => h.serveExportFreeze)
  | exportRelease => exact .next (.asked fun h => h.serveExportRelease)
  | trainFrameInterval => exact .next (.island fun h => .ite h (.ite h.trainOn (.ite h.sendTrain h)))
  | trainingSignalLost => exact .next (.laneEvent fun h => h.trainFail)
  | ceB2hTransfer => exact ceB2hTransfer
  | islandResetDone => exact .next (.core fun h => h.setRst.foldl fun _ hu => hu.bumpSat.doneRecord)
  | keeperResetDone => exact .next (.core fun h => .ite h.keeperStarts h)
  | dvfsChangeDone => exact dvfsChangeDone
  | epochApplied | chipScopeReset | resetDelayExpiry | resetEnd => exact absurd hmoves nofun
  | logicReady dt => exact absurd rfl (hready dt)

end Sys2Proof.Machine
end

section
/-! Only epochs and chip resets change membership, and only VERDICT_CLEAR and resets leave FAULTY (08 R178, Table 08-4). -/

namespace Sys2Proof.Machine

open Sys2Proof

-- one theorem after the other: each theorem that waits for the kernel would hold a thread
set_option Elab.async false

namespace KeepsStanding

/-! ### What a core that slept finds held (19 R391) -/

section
variable {s t : State} (h : KeepsStanding False s t)
include h

/-- A command that was held acts when the core is on again. -/
theorem served (c : Instr) (hmoves : movesMembership c = false) (hready : ∀ dt, c ≠ .logicReady dt) :
    KeepsStanding False s (t.served (exec c t)) :=
  h.trans (exec_keepsStanding_of_awake t hmoves hready).member

theorem serveOne {i : Instr} : KeepsStanding False s (t.serveOne i) := by
  cases i with
  | objectWrite _ w => exact h.served (.objectWrite 0 w) rfl nofun
  | dapRead _ src r via => exact h.served (.dapRead 0 src r via) rfl nofun
  | dapAbort _ src r via => exact h.served (.dapAbort 0 src r via) rfl nofun
  | dapResponse _ q r => exact h.served (.dapResponse 0 q r) rfl nofun
  | neighborSolicitation _ peer target bad => exact h.served (.neighborSolicitation 0 peer target bad) rfl nofun
  | echoRequest _ peer addr body bad => exact h.served (.echoRequest 0 peer addr body bad) rfl nofun
  | h2bData _ v => exact h.served (.h2bData 0 v) rfl nofun
  | h2bRing _ word => exact h.served (.h2bRing 0 word) rfl nofun
  | b2hData _ => exact h.served (.b2hData 0) rfl nofun
  | b2hAck _ word => exact h.served (.b2hAck 0 word) rfl nofun
  | irqStatusWrite _ v => exact h.served (.irqStatusWrite 0 v) rfl nofun
  | teardownDone _ job => exact h.served (.teardownDone 0 job) rfl nofun
  | testDone _ engine test result => exact h.served (.testDone 0 engine test result) rfl nofun
  | alarmRecord _ q r => exact h.served (.alarmRecord 0 q r) rfl nofun
  | mirrorMessage _ q recs => exact h.served (.mirrorMessage 0 q recs) rfl nofun
  | leafJournalMessage _ q entries => exact h.served (.leafJournalMessage 0 q entries) rfl nofun
  | digestRecord _ q d => exact h.served (.digestRecord 0 q d) rfl nofun
  | mismatchNotice _ q suspect => exact h.served (.mismatchNotice 0 q suspect) rfl nofun
  | offloadUnit _ q bytes => exact h.served (.offloadUnit 0 q bytes) rfl nofun
  | arrival _ q job barrier time die dies => exact h.served (.arrival 0 q job barrier time die dies) rfl nofun
  | release _ q job barrier epoch level reissue tRel die => exact h.served (.release 0 q job barrier epoch level reissue tRel die) rfl nofun
  | bcast _ q job tree seq epoch level reissue op b => exact h.served (.bcast 0 q job tree seq epoch level reissue op b) rfl nofun
  | bcastAck _ q job tree seq dies => exact h.served (.bcastAck 0 q job tree seq dies) rfl nofun
  | hopAck _ q typ job id seq => exact h.served (.hopAck 0 q typ job id seq) rfl nofun
  | epochSegment _ q epoch level reissue ff seg segs resync es =>
    exact h.served (.epochSegment 0 q epoch level reissue ff seg segs resync es) rfl nofun
  | reductionRecord _ q r => exact h.served (.reductionRecord 0 q r) rfl nofun
  | centreRecord _ q c => exact h.served (.centreRecord 0 q c) rfl nofun
  | featureFrame _ q f => exact h.served (.featureFrame 0 q f) rfl nofun
  | dataFrame _ q good seq cls n ack relay =>
    cases relay with
    | none => exact h
    | some r => exact h.takeRelay
  | _ => exact h

theorem serveHeld : KeepsStanding False s t.serveHeld := by
  unfold State.serveHeld
  extract_lets u
  have hheld : KeepsStanding False s { t with parked := [] } := h
  have hu : KeepsStanding False s u := hheld.foldl fun _ hv => hv.serveOne
  exact .ite hu.ceServe hu

end

theorem logicReady {dt : Nat} {s : State} : KeepsStanding False s (s.served (execLogicReady dt s)) :=
  .next <| .island fun h => by
    split
    · exact h
    · exact .ite (.ite h.woken.serveHeld h) h.woken.serveHeld

end KeepsStanding

/-! ### An epoch that is applied: membership moves, FAULTY stays (09 R186) -/

namespace KeepsStanding

section
variable {p : Prop} {s t : State} (h : KeepsStanding p s t)
include h

theorem removeFrom {dies : List Nat} {f : RedFrame} : KeepsStanding p s (State.removeFrom dies t f) := h.setMachine.checkFrame

theorem removeDies {dies : List Nat} {first : Nat} : KeepsStanding p s (t.removeDies dies first) :=
  .ite h (h.foldl fun _ hu => hu.removeFrom)

theorem shrinkAckSets : KeepsStanding p s t.shrinkAckSets := h.setBar

theorem releaseHeld : KeepsStanding p s t.releaseHeld := h.setBar.foldl fun _ hu => .ite hu.actReissue hu.actDown

theorem releaseIssues : KeepsStanding p s t.releaseIssues := h.setBar.foldl fun _ hu => hu.issueNow

theorem liveMembers : KeepsStanding p s t.liveMembers :=
  .ite h (h.foldl fun _ hu => .ite hu (.ite hu.liveMove (.ite hu.liveMove hu)))

theorem afterEpoch : KeepsStanding p s t.afterEpoch :=
  h.growTrees.shrinkAckSets.releaseHeld.releaseIssues.completeBcasts.coverAgain.liveMembers.syncBar

theorem unsized {m : DownMsg} {job : Nat} : KeepsStanding p s (t.unsized m job) := .ite h h.wr.drawn

theorem leafApply {m : DownMsg} : KeepsStanding p s (t.leafApply m) := by
  unfold State.leafApply
  extract_lets oldJob _ s0 own size s1 s2 s3 _ _ s4 go _ s5
  have hown {u : State} {e : EpochEntry} (hu : KeepsStanding p s u) : KeepsStanding p s (own u e) := by
    cases e with
    | die => exact .ite hu.wr.wr hu
    | size => exact hu
  have hsize {u : State} {e : EpochEntry} (hu : KeepsStanding p s u) : KeepsStanding p s (size u e) := by
    cases e with
    | die => exact hu
    | size => exact .ite hu.wr hu
  have hs0 : KeepsStanding p s s0 := h.setBar
  have hs1 : KeepsStanding p s s1 := hs0.foldl fun _ hu => hown hu
  have hs2 : KeepsStanding p s s2 := hs1.unsized.foldl fun _ hu => hsize hu
  have hs3 : KeepsStanding p s s3 := (ite hs2.wr hs2).wr
  have hs4 : KeepsStanding p s s4 := .ite hs3 hs3.setLeaf.setVer.restartWindow
  have hs5 : KeepsStanding p s s5 := hs4.setBar.foldl fun _ hu => hu.leafAct
  clear_value s5
  split
  · exact .ite hs5.runStart hs5
  · exact hs5

end

end KeepsStanding

/-- FAULTY stays where it was. -/
def KeepsFaulty (s t : State) : Prop := s.rd Dict.verdict = 3 → t.rd Dict.verdict = 3

theorem KeepsStanding.faulty {s t : State} (h : KeepsStanding True s t) : KeepsFaulty s t := h.2 trivial

namespace KeepsFaulty

theorem trans {s t u : State} (h : KeepsFaulty s t) (k : KeepsFaulty t u) : KeepsFaulty s u := fun hs => k (h hs)

/-- What is not a scalar object does not count. -/
theorem of_regs {s t : State} (hregs : t.regs = s.regs) : KeepsFaulty s t := (State.rd_verdict_congr hregs).trans

theorem within {s t u : State} (h : KeepsFaulty s t) : KeepsFaulty s (t.within u) := h.trans (.of_regs rfl)

theorem core {s : State} {dt : Nat} {f : State → State} (hf : ∀ u, KeepsFaulty u (f u)) : KeepsFaulty s (s.core dt f) := by
  have hpassed : KeepsFaulty s (s.elapse dt) := (KeepsStanding.refl s).elapse.faulty
  have hacted : KeepsFaulty (s.elapse dt) (if (s.elapse dt).coreOn then f (s.elapse dt) else s.elapse dt) := by
    split
    · exact hf _
    · exact id
  exact (hpassed.trans hacted).within

theorem applyEpoch (s : State) (epoch first : Nat) (resync : Bool) : KeepsFaulty s (s.applyEpoch epoch first resync) := by
  unfold State.applyEpoch
  extract_lets old new was is_ dies flips changes sizes _ s1
  have hs1 : KeepsFaulty s s1 := .trans (.of_regs rfl) (KeepsStanding.refl (s.setBar _)).wr.faulty
  clear_value s1
  split
  · exact hs1
  · exact hs1.trans (KeepsStanding.refl s1).removeDies.faulty

theorem segApplied (s : State) (m : DownMsg) : KeepsFaulty s (s.segApplied m) := by
  unfold State.segApplied
  split
  · extract_lets before _ s1 s2 _ s3 s4
    have hs1 : KeepsStanding True s s1 := (KeepsStanding.refl s).setBar
    split
    · exact hs1.fan.syncBar.faulty
    · have hs2 : KeepsFaulty s s2 := hs1.faulty.trans (applyEpoch s1 _ _ _)
      have hs4 : KeepsStanding True s2 s4 := (KeepsStanding.refl s2).setBar.fan
      exact hs2.trans hs4.sendLeaves.afterEpoch.faulty
  · exact id

theorem epochApplied (dt : Nat) (s : State) : KeepsFaulty s (s.served (execEpochApplied dt s)) := by
  refine KeepsFaulty.core fun u => ?_
  split
  · split
    · exact (KeepsStanding.refl u).leafApply.faulty
    · exact id
  · split
    · exact segApplied u _
    · exact id

end KeepsFaulty

/-! ### Every command -/

/-- Every command but an epoch that is applied, the chip-scope resets and the end of a reset keeps membership, and FAULTY too unless it
may carry or serve a VERDICT_CLEAR. -/
theorem exec_keepsStanding {c : Instr} (s : State) (hmoves : movesMembership c = false) :
    KeepsStanding (mayClearVerdict c = false) s (s.served (exec c s)) := by
  by_cases hready : ∃ dt, c = .logicReady dt
  · obtain ⟨dt, rfl⟩ := hready
    exact .of_member nofun .logicReady
  · exact exec_keepsStanding_of_awake s hmoves fun dt hc => hready ⟨dt, hc⟩

theorem KeepsStanding.of_exec {c : Instr} {s t : State} (hmoves : movesMembership c = false) (hexec : exec c s = .next t) :
    KeepsStanding (mayClearVerdict c = false) s t := by
  have h := exec_keepsStanding s hmoves
  rw [hexec] at h
  exact h

/-- Settles O7: outside epochs and chip resets no function that a command reaches writes the membership table. -/
theorem membershipChangesOnlyByEpochs : Obligations.MembershipChangesOnlyByEpochs := by
  intro c s t hexec
  have hkept (hmoves : movesMembership c = false) : t.bar.member = s.bar.member := (KeepsStanding.of_exec hmoves hexec).1
  cases c
  case epochApplied | chipScopeReset | resetDelayExpiry | resetEnd => trivial
  all_goals exact hkept rfl

/-- Settles O8: a verdict moves to its evidence or by calm, from FAULTY not at all, and what else writes VERDICT carries or serves
VERDICT_CLEAR or is a reset. -/
theorem faultyIsLeftOnlyByClear : Obligations.FaultyIsLeftOnlyByClear := by
  refine ⟨fun s _ he => s.le_moveVerdict he, fun s _ halarm => s.moveVerdict_of_alarm halarm, fun c s t hfaulty hexec => ?_⟩
  have hkept (hmoves : movesMembership c = false) (hclear : mayClearVerdict c = false) : t.rd Dict.verdict = 3 :=
    (KeepsStanding.of_exec hmoves hexec).2 hclear hfaulty
  cases c
  case verdictClear | objectWrite | dapRead | dapAbort | cmdComplete | h2bRing | logicReady => trivial
  case chipScopeReset | blockScopeReset | resetDelayExpiry | resetEnd => trivial
  case epochApplied dt =>
    have h := KeepsFaulty.epochApplied dt s hfaulty
    rw [show execEpochApplied dt s = .next t from hexec] at h
    exact h
  all_goals exact hkept rfl rfl

end Sys2Proof.Machine
end

section
/-! What epochs alone change: the rules of the shared operations, the developer's slots and the closing machines, which leave it as it
was (09 R184 to R188). -/

namespace Sys2Proof.Machine

open Sys2Proof

-- one theorem after the other: each theorem that waits for the kernel would hold a thread
set_option Elab.async false

/-- The numbers of MEMBER_EPOCH, MY_JOB, MY_MEMBER and RELEASE_MARGIN. -/
abbrev epochObject (k : Nat) : Prop := k = 0x240000 ∨ k = 0x240100 ∨ k = 0x240200 ∨ k = 0x241000

/-- `b` has the membership, the segments and the epoch being applied of `a`. -/
def Barriers.sameEpochs (a b : Barriers) : Prop :=
  b.member = a.member ∧ b.segs = a.segs ∧ b.applying = a.applying ∧ b.gathered = a.gathered

/-- `t` has the epochs' part of chapter 09, with its objects, and the clock of `s`. -/
def KeepsEpochs (s t : State) : Prop := s.bar.sameEpochs t.bar ∧ t.time = s.time ∧ KeepsObjects epochObject s t

namespace KeepsEpochs

theorem refl (s : State) : KeepsEpochs s s := ⟨⟨rfl, rfl, rfl, rfl⟩, rfl, .refl _ s⟩

section
variable {s t : State} (h : KeepsEpochs s t)
include h

theorem trans {u : State} (k : KeepsEpochs t u) : KeepsEpochs s u := by
  obtain ⟨⟨hmember, hsegs, happlying, hgathered⟩, htime, hobjects⟩ := h
  obtain ⟨⟨kmember, ksegs, kapplying, kgathered⟩, ktime, kobjects⟩ := k
  exact ⟨⟨kmember.trans hmember, ksegs.trans hsegs, kapplying.trans happlying, kgathered.trans hgathered⟩, ktime.trans htime,
    hobjects.trans kobjects⟩

theorem objects : KeepsObjects epochObject s t := h.2.2

theorem member : t.bar.member = s.bar.member := h.1.1

theorem nowNs : t.nowNs = s.nowNs := by rw [State.nowNs, State.nowNs, h.2.1]

theorem role : t.role = s.role := h.objects.2.1

theorem ite {c : Prop} [Decidable c] {u : State} (k : KeepsEpochs s u) : KeepsEpochs s (if c then t else u) := by
  split
  · exact h
  · exact k

theorem foldl {α : Type} {f : State → α → State} {l : List α} (hf : ∀ {u : State} (a : α), KeepsEpochs s u → KeepsEpochs s (f u a)) :
    KeepsEpochs s (l.foldl f t) :=
  List.foldlRecOn l f h fun _ hu a _ => hf a hu

/-! ### Objects, messages and records -/

/-- Another object takes a value. -/
theorem wr {o : Ob} {v m j : Nat} (ho : ¬ epochObject (o.key m j) := by decide) : KeepsEpochs s (t.wr o v m j) :=
  h.trans ⟨⟨rfl, rfl, rfl, rfl⟩, rfl, .wr t o v m j ho⟩

theorem bumpSat {o : Ob} {m j n : Nat} (ho : ¬ epochObject (o.key m j) := by decide) : KeepsEpochs s (t.bumpSat o m j n) := h.wr ho

/-- A member of a family with a subindex takes a value. -/
theorem wrAt {o : Ob} {v m : Nat} (ho : o.sub % 256 ≠ 0 := by decide) : KeepsEpochs s (t.wr o v m) := h.wr (by unfold Ob.key; omega)

theorem messaged {u : State} (k : MessagedFrom t u) : KeepsEpochs s u := by
  have hobjects : KeepsObjects epochObject t u := k.2.mono (by omega)
  obtain ⟨⟨_, _, _, _, _, _, _, _, _, rfl⟩, -⟩ := k
  exact h.trans ⟨⟨rfl, rfl, rfl, rfl⟩, rfl, hobjects⟩

theorem raise {f a : Bool} {ty pl : Nat} : KeepsEpochs s (t.raise f a ty pl) := h.messaged (.raise ..)

theorem enqueueUp {frame : Nat} {f : QFrame} : KeepsEpochs s (t.enqueueUp frame 1 f) := h.messaged (.enqueueUp (by decide) ..)

theorem drawn : KeepsEpochs s t.drawn := h

theorem mbSend {door kind : Nat} {b : Bytes} : KeepsEpochs s (t.mbSend door kind b) := h

/-- Chapter 09's part of the state takes a value in which the epochs' part is the same. -/
theorem setBar {b : Barriers} (hb : t.bar.sameEpochs b := by exact ⟨rfl, rfl, rfl, rfl⟩) : KeepsEpochs s (t.setBar b) :=
  h.trans ⟨hb, rfl, .refl _ t⟩

/-! ### Slots of the developer (06 R121, R122) -/

theorem setDslot {k : Nat} {d : DevSlot} : KeepsEpochs s (t.setDslot k d) := h

theorem syncQueue {k : Nat} : KeepsEpochs s (t.syncQueue k) := by
  unfold State.syncQueue
  exact .ite h.wrAt.setDslot h.wrAt

theorem entry {kind frame : Nat} {b : Bytes} : KeepsEpochs s (t.journalEntry kind frame b) := h.messaged (.journalEntry ..)

theorem switchSlot {k : Nat} : KeepsEpochs s (t.switchSlot k) := by
  cases hswap : (t.dslot k).swap with
  | none =>
    rw [State.switchSlot_idle hswap]
    exact h
  | some e =>
    have hinherit : KeepsEpochs s (t.inherit k e.1 e.2) := by
      unfold State.inherit
      split
      · exact h
      · exact .ite h.wrAt.wrAt.wrAt.wrAt.setDslot h.wrAt.wrAt.wrAt.wrAt
    have hbegun : KeepsEpochs s (t.begun k e.1 e.2) := hinherit.setDslot.wrAt
    exact hbegun.messaged (State.switchSlot_begun hswap)

theorem reachFrame {frame : Nat} : KeepsEpochs s (t.reachFrame frame) :=
  h.trans (State.reachFrame_keeps refl (fun hu hv => hu.trans hv) (fun u _ => (refl u).switchSlot) t frame)

theorem startBatch {k : Nat} : KeepsEpochs s (t.startBatch k) := by
  unfold State.startBatch
  extract_lets d s1
  have hs1 : KeepsEpochs s s1 := h.setDslot.syncQueue
  split
  · exact h
  · split
    · split
      · exact hs1.messaged (.countStack ..)
      · exact hs1
    · exact hs1

theorem enqueueVec {k : Nat} {v : DevVec} : KeepsEpochs s (t.enqueueVec k v) := by
  unfold State.enqueueVec
  extract_lets d full s0 seen pw s1
  have hs0 {pw : Power} : KeepsEpochs s (s0.setPw pw) := h.setDslot.syncQueue
  have hs1 : KeepsEpochs s s1 := hs0.startBatch
  exact .ite hs1.entry hs1

theorem enterSlot {kind : Nat} {v : DevVec} {k : Nat} : KeepsEpochs s (State.enterSlot kind v t k) := by
  unfold State.enterSlot State.afterRetire
  refine .ite (.ite h.bumpSat.entry h.enqueueVec) ?_
  extract_lets d
  split
  · exact .ite h.setDslot.entry h
  · exact h

theorem enterSlots {kind : Nat} {v : DevVec} : KeepsEpochs s (t.enterSlots kind v) := h.reachFrame.foldl fun _ hu => hu.enterSlot

/-! ### Members that leave their frames (07 R148) -/

theorem enterMerging {f : RedFrame} : KeepsEpochs s (t.enterMerging f) := by
  unfold State.enterMerging
  extract_lets p lagged r done v n s1 s2
  have hs2 {red : Reduction} : KeepsEpochs s (s2.setRed red) := h
  exact (hs2.messaged (.journalMerge ..)).enterSlots

theorem checkFrame {frame : Nat} : KeepsEpochs s (t.checkFrame frame) := by
  unfold State.checkFrame
  split
  · exact h
  · exact .ite h.enterMerging h

theorem removeFrom {dies : List Nat} {f : RedFrame} : KeepsEpochs s (State.removeFrom dies t f) := by
  have hset {g : RedFrame} : KeepsEpochs s (t.setMachine g) := h
  exact hset.checkFrame

theorem removeDies {dies : List Nat} {first : Nat} : KeepsEpochs s (t.removeDies dies first) :=
  .ite h (h.foldl fun _ hu => hu.removeFrom)

end

end KeepsEpochs

end Sys2Proof.Machine
end

section
/-! What epochs alone change: a chip's messages, trees, barriers and liveness machines leave it as it was (chapters 08 and 09). -/

namespace Sys2Proof.Machine.KeepsEpochs

open Sys2Proof

-- one theorem after the other: each theorem that waits for the kernel would hold a thread
set_option Elab.async false

section
variable {s t : State} (h : KeepsEpochs s t)
include h

/-! ### Messages down and their hops (09 R182, R195, R196) -/

theorem syncBar : KeepsEpochs s t.syncBar := .ite h h.wr.wr.wr

theorem sendDown {m : DownMsg} {g : Nat} : KeepsEpochs s (t.sendDown m g) := h.messaged (.enqueue ..)

theorem growTrees : KeepsEpochs s t.growTrees := .ite h h.setBar

theorem settle : KeepsEpochs s t.settle := h.setBar

theorem addForward {f : Forward} : KeepsEpochs s (t.addForward f) := h.setBar

theorem reissueFor {m : DownMsg} {g : Nat} : KeepsEpochs s (t.reissueFor m g) := by
  unfold State.reissueFor
  extract_lets resync target
  clear_value target
  split
  · exact h
  · exact .ite h h.sendDown.addForward

theorem nack {m : DownMsg} {g : Nat} : KeepsEpochs s (t.nack m g) := h.bumpSat.reissueFor

theorem sendPorts {m : DownMsg} {ports : List Nat} : KeepsEpochs s (t.sendPorts m ports) := by
  unfold State.sendPorts
  extract_lets mm up s1
  have hs1 : KeepsEpochs s s1 := (h.foldl fun _ hu => hu.sendDown).addForward
  exact (hs1.foldl fun _ hu => hu.nack).settle

theorem sendLeaves {m : DownMsg} {ports : List Nat} : KeepsEpochs s (t.sendLeaves m ports) := by
  refine h.foldl fun _ hu => ?_
  split
  · exact hu.sendPorts
  · exact hu

theorem fan {m : DownMsg} {buddy : Bool} : KeepsEpochs s (t.fan m buddy) := by
  unfold State.fan
  split
  · exact .ite h.growTrees.sendPorts.sendLeaves h.growTrees.sendPorts
  · exact h.growTrees.sendPorts

theorem sendUnion {u : AckUnion} : KeepsEpochs s (t.sendUnion u) := h.enqueueUp.setBar.settle

/-! ### Liveness (08 R175, R176) -/

theorem liveMove {g new : Nat} : KeepsEpochs s (t.liveMove g new) := by
  unfold State.liveMove
  extract_lets m silence stall s1 alarm payload s2
  have hs1 : KeepsEpochs s s1 := h
  have hs2 : KeepsEpochs s s2 := .ite hs1 hs1.drawn
  exact .ite hs2.raise hs2.raise

end

theorem liveSettle {s t : State} (h : KeepsEpochs s t) {n g : Nat} : KeepsEpochs s (State.liveSettle n t g) := by
  induction n generalizing t with
  | zero => exact h
  | succ n ih =>
    rw [State.liveSettle]
    split
    · exact ih h.liveMove
    · exact h

section
variable {s t : State} (h : KeepsEpochs s t)
include h

theorem liveUnstall {job barrier : Nat} {dies : Option (List Nat)} : KeepsEpochs s (t.liveUnstall job barrier dies) :=
  .ite h (h.foldl fun _ hu => .ite hu.liveMove.liveSettle hu)

theorem liveMembers : KeepsEpochs s t.liveMembers :=
  .ite h (h.foldl fun _ hu => .ite hu (.ite hu.liveMove (.ite hu.liveMove hu)))

/-! ### Broadcast trees and messages acted on (09 R183, R188 to R196) -/

theorem noteBcast {m : DownMsg} {op : Nat} : KeepsEpochs s (t.noteBcast m op) := by
  unfold State.noteBcast
  extract_lets _ put
  have hput {x : Tree} : KeepsEpochs s (put x) := h.setBar
  split
  · exact hput
  · exact .ite hput h

theorem freeTree {tree : Nat} : KeepsEpochs s (t.freeTree tree) := h.setBar

theorem actDown {m : DownMsg} : KeepsEpochs s (t.actDown m) := by
  unfold State.actDown
  split
  · exact h.setBar.liveUnstall.fan.syncBar
  · exact (ite h.noteBcast.freeTree h.noteBcast).fan.syncBar
  · exact h

theorem actReissue {m : DownMsg} : KeepsEpochs s (t.actReissue m) := by
  unfold State.actReissue
  split
  · extract_lets new _ s1 s2
    have hs1 : KeepsEpochs s s1 := .ite h.setBar h
    have hs2 : KeepsEpochs s s2 := .ite hs1.freeTree hs1
    exact hs2.fan.syncBar
  · exact h.fan

theorem issueNow {m : DownMsg} : KeepsEpochs s (t.issueNow m) := by
  unfold State.issueNow
  dsimp only
  split
  · exact h.setBar.actDown
  · exact h.actDown

theorem completeBcasts : KeepsEpochs s t.completeBcasts := by
  have hfreed {u : State} {tree : Nat} (hu : KeepsEpochs s u) : KeepsEpochs s (u.issueFreed tree) := by
    unfold State.issueFreed
    extract_lets m
    exact hu.setBar.actDown
  exact .ite h (h.foldl fun _ hu => .ite (hfreed hu.freeTree) hu.setBar)

/-! ### Barriers and acknowledgements (09 R181, R193, R194, R200, R201) -/

theorem releaseBarrier {b : OpenBarrier} : KeepsEpochs s (t.releaseBarrier b) := by
  unfold State.releaseBarrier
  exact (ite h h.drawn).actDown

theorem checkBarrier {b : OpenBarrier} : KeepsEpochs s (t.checkBarrier b) := .ite (.ite h.releaseBarrier h) (.ite h.enqueueUp.setBar h)

theorem coverAgain : KeepsEpochs s t.coverAgain := by
  have hcovered : KeepsEpochs s t.sendCovered := .ite h (h.foldl fun _ hu => hu.sendUnion)
  exact .ite h (hcovered.settle.foldl fun _ hu => hu.checkBarrier).syncBar

theorem shrinkAckSets : KeepsEpochs s t.shrinkAckSets := h.setBar

theorem releaseHeld : KeepsEpochs s t.releaseHeld := h.setBar.foldl fun _ hu => .ite hu.actReissue hu.actDown

theorem releaseIssues : KeepsEpochs s t.releaseIssues := h.setBar.foldl fun _ hu => hu.issueNow

/-- What a new membership makes possible changes no membership. -/
theorem afterEpoch : KeepsEpochs s t.afterEpoch :=
  h.growTrees.shrinkAckSets.releaseHeld.releaseIssues.completeBcasts.coverAgain.liveMembers.syncBar

end

end Sys2Proof.Machine.KeepsEpochs
end

section
/-! What epochs alone change: the leaf's job and its releases leave it as it was (02 R45, 09 R189 to R202). -/

namespace Sys2Proof.Machine.KeepsEpochs

open Sys2Proof

-- one theorem after the other: each theorem that waits for the kernel would hold a thread
set_option Elab.async false

section
variable {s t : State} (h : KeepsEpochs s t)
include h

theorem setLeaf {l : LeafJob} : KeepsEpochs s (t.setLeaf l) := h.setBar

theorem sendLeafAck {job tree seq : Nat} : KeepsEpochs s (t.sendLeafAck job tree seq) := h.enqueueUp

theorem deliver {kind tree seq job : Nat} {b : Bytes} : KeepsEpochs s (t.deliver kind tree seq job b) := h.setLeaf.mbSend

/-! ### Broadcasts (09 R192) -/

theorem runStart {m : DownMsg} : KeepsEpochs s (t.runStart m) := h.setLeaf.wr.deliver

theorem leafEvent {m : DownMsg} {op : Nat} {b : Bytes} : KeepsEpochs s (t.leafEvent m op b) := by
  have hstart : KeepsEpochs s (t.takeStart m) := .ite h.runStart h.setLeaf.wr
  unfold State.leafEvent
  extract_lets st onT
  exact .ite hstart (.ite h.setLeaf (.ite h.deliver (.ite h.setLeaf.wr.deliver (.ite h.setLeaf h))))

theorem leafBcast {m : DownMsg} {op : Nat} {b : Bytes} : KeepsEpochs s (t.leafBcast m op b) := by
  unfold State.leafBcast
  split
  · exact .ite (.ite h.bumpSat.sendLeafAck h.bumpSat) h.setLeaf.leafEvent
  · exact h.setLeaf.leafEvent

/-! ### Releases (02 R45, 09 R202) -/

theorem restartWindow : KeepsEpochs s t.restartWindow := wr (wr (t := t.setVer _) h)

theorem shiftWindow {mine : Bool} : KeepsEpochs s (t.shiftWindow mine) := wr (bumpSat (t := t.setVer _) h)

theorem armChannel {job barrier tRel : Nat} : KeepsEpochs s (t.armChannel job barrier tRel) := by
  have hset {ch : ShutterChannel} : KeepsEpochs s (t.setChan 1 ch) := h
  exact hset.wr.wr.wr.wr

theorem fireSlot {time : Nat} : KeepsEpochs s (t.fireSlot 1 time) := by
  have hobjects : KeepsObjects epochObject t (t.fireSlot 1 time) := .fireSlot t 1 time (by decide) (by decide)
  obtain ⟨_, _, _, honly⟩ := t.fireSlot_only 1 time
  rw [honly] at hobjects ⊢
  exact h.trans ⟨⟨rfl, rfl, rfl, rfl⟩, rfl, hobjects⟩

theorem firedRelease : KeepsEpochs s t.firedRelease := by
  obtain ⟨_, _, _, honly⟩ := t.firedRelease_only
  rw [honly]
  exact h

theorem leafRelease {m : DownMsg} {tRel die : Nat} : KeepsEpochs s (t.leafRelease m tRel die) := by
  unfold State.leafRelease
  extract_lets l armMin now late short arrivals s1 s2 s3
  have hs1 {b : Bytes} : KeepsEpochs s (s1.wrBytes Dict.lastRelease b) := h.setLeaf
  have hs2 : KeepsEpochs s s2 := hs1.shiftWindow
  have hs3 : KeepsEpochs s s3 := hs2.armChannel
  exact .ite h (.ite h.bumpSat (.ite hs3 hs3.bumpSat.raise.fireSlot.firedRelease))

theorem leafAct {m : DownMsg} : KeepsEpochs s (t.leafAct m) := by
  unfold State.leafAct
  split
  · exact h.leafRelease
  · exact h.leafBcast
  · exact h

end

end Sys2Proof.Machine.KeepsEpochs
end

section
/-! What a chip's broadcast trees keep while barriers are checked and released (09 R190, R200, R201). -/

namespace Sys2Proof.Machine

open Sys2Proof

theorem MessagedFrom.bar {s t : State} (h : MessagedFrom s t) : t.bar = s.bar := by
  obtain ⟨⟨_, _, _, _, _, _, _, _, _, rfl⟩, -⟩ := h
  rfl

/-- A barrier's union that is sent upward is noted at the barrier. -/
def OpenBarrier.sentBy (b x : OpenBarrier) : OpenBarrier := if x.job == b.job && x.barrier == b.barrier then { x with sent := b.arrived } else x

theorem State.sendBarrier_bar (s : State) (b : OpenBarrier) :
    (s.sendBarrier b).bar = { s.bar with openBars := s.bar.openBars.map b.sentBy } := by
  unfold State.sendBarrier
  extract_lets l body bytes s1
  have hs1 : s1.bar = s.bar := (MessagedFrom.enqueueUp (by decide : 1 < 8) ..).bar
  show { s1.bar with openBars := s1.bar.openBars.map b.sentBy } = _
  rw [hs1]

/-- The ROOT's release goes down like one from above. -/
theorem State.releaseBarrier_from (s : State) (b : OpenBarrier) : ∃ (v : State) (die : Nat), v.bar = s.bar ∧ s.releaseBarrier b =
    v.actDown (releaseMsg b.job b.barrier (s.rd Dict.memberEpoch) s.level (s.nowNs + s.rd Dict.releaseMargin) die) := by
  unfold State.releaseBarrier
  extract_lets die s1
  refine ⟨s1, die, ?_, rfl⟩
  unfold s1
  split <;> rfl

/-- `t` has the broadcasts that wait at the ROOT and the trees of `s`, of which at most the port sets have grown. -/
def TreesGrow (s t : State) : Prop :=
  t.bar.heldIssues = s.bar.heldIssues ∧
  ∃ grow : Tree → Tree, (∀ x, ∃ ports, grow x = { x with ports := ports }) ∧ t.bar.trees = s.bar.trees.map fun e => (e.1, grow e.2)

namespace TreesGrow

theorem of_same {s t : State} (hheld : t.bar.heldIssues = s.bar.heldIssues) (htrees : t.bar.trees = s.bar.trees) : TreesGrow s t :=
  ⟨hheld, id, fun x => ⟨x.ports, rfl⟩, htrees.trans (List.map_id _).symm⟩

theorem refl (s : State) : TreesGrow s s := .of_same rfl rfl

theorem trans {s t u : State} (h : TreesGrow s t) (k : TreesGrow t u) : TreesGrow s u := by
  obtain ⟨hheld, f, hf, htrees⟩ := h
  obtain ⟨kheld, g, hg, ktrees⟩ := k
  refine ⟨kheld.trans hheld, g ∘ f, fun x => ?_, by rw [ktrees, htrees, List.map_map]; rfl⟩
  obtain ⟨_, hfx⟩ := hf x
  obtain ⟨ports, hgx⟩ := hg (f x)
  exact ⟨ports, by rw [Function.comp_apply, hgx, hfx]⟩

/-- A tree that is there stays there, with its ports grown. -/
theorem get? {s t : State} (h : TreesGrow s t) {k : Nat} {x : Tree} (hx : Tbl.get? s.bar.trees k = some x) :
    ∃ ports, Tbl.get? t.bar.trees k = some { x with ports := ports } := by
  obtain ⟨-, grow, hgrow, htrees⟩ := h
  obtain ⟨ports, hports⟩ := hgrow x
  exact ⟨ports, by rw [htrees, Tbl.get?_map, hx, Option.map_some, hports]⟩

/-- Every tree is one that was there, with its ports grown. -/
theorem mem {s t : State} (h : TreesGrow s t) {e : Nat × Tree} (he : e ∈ t.bar.trees) :
    ∃ x ports, (e.1, x) ∈ s.bar.trees ∧ e.2 = { x with ports := ports } := by
  obtain ⟨-, grow, hgrow, htrees⟩ := h
  rw [htrees] at he
  obtain ⟨⟨k, x⟩, hx, rfl⟩ := List.mem_map.mp he
  obtain ⟨ports, hports⟩ := hgrow x
  exact ⟨x, ports, hx, hports⟩

theorem foldl {α : Type} {f : State → α → State} (hf : ∀ t a, TreesGrow t (f t a)) (l : List α) (s : State) :
    TreesGrow s (l.foldl f s) := by
  induction l generalizing s with
  | nil => exact .refl s
  | cons a l ih => exact (hf s a).trans (ih _)

theorem growTrees (s : State) : TreesGrow s s.growTrees := by
  unfold State.growTrees
  split
  · exact .refl s
  · extract_lets ports grow
    exact ⟨rfl, grow, fun x => ⟨(grow x).ports, rfl⟩, rfl⟩

theorem syncBar (s : State) : TreesGrow s s.syncBar := .of_same (by rw [State.syncBar_bar]) (by rw [State.syncBar_bar])

theorem settle (s : State) : TreesGrow s s.settle := .of_same rfl rfl

/-- A RELEASE or BCAST leaves for the ports of its tree. -/
theorem fan {m : DownMsg} (h : ∀ ff seg segs resync es, m.body ≠ .epoch ff seg segs resync es) (s : State) : TreesGrow s (s.fan m false) := by
  obtain ⟨_, hfan⟩ := ForwardedFrom.fan h s
  exact (TreesGrow.growTrees s).trans (.of_same (by rw [hfan]) (by rw [hfan]))

theorem actDown_release {m : DownMsg} {tRel die : Nat} (hbody : m.body = .release tRel die) (s : State) : TreesGrow s (s.actDown m) := by
  have hkind : ∀ ff seg segs resync es, m.body ≠ .epoch ff seg segs resync es := by
    rw [hbody]
    exact fun _ _ _ _ _ => nofun
  rw [State.actDown, hbody]
  dsimp only
  refine .trans ?_ (.syncBar _)
  refine .trans ?_ (.fan hkind _)
  exact .of_same (by rw [State.liveUnstall_bar]; rfl) (by rw [State.liveUnstall_bar]; rfl)

/-- A barrier that is checked may be released, or its union sent on. -/
theorem checkBarrier (s : State) (b : OpenBarrier) : TreesGrow s (s.checkBarrier b) := by
  have hreleased : TreesGrow s (s.releaseBarrier b) := by
    obtain ⟨v, die, hbar, hrelease⟩ := s.releaseBarrier_from b
    rw [hrelease]
    exact (TreesGrow.of_same (by rw [hbar]) (by rw [hbar])).trans (.actDown_release rfl v)
  have hsent : TreesGrow s (s.sendBarrier b) := .of_same (by rw [s.sendBarrier_bar]) (by rw [s.sendBarrier_bar])
  unfold State.checkBarrier
  split_ifs
  · exact hreleased
  · exact .refl s
  · exact hsent
  · exact .refl s

theorem checkBarriers (s : State) : TreesGrow s s.checkBarriers := (TreesGrow.foldl checkBarrier s.bar.openBars s).trans (.syncBar _)

end TreesGrow

end Sys2Proof.Machine
end

section
/-! Barriers and acknowledgements at a chip: what comes from its children is merged, sent on, answered or reported (09 R183, R193, R194,
R196, R200, R201). -/

namespace Sys2Proof.Machine

open Sys2Proof

/-! ### Sets of dies -/

theorem mem_insertBy {α : Type} {le : α → α → Bool} {x y : α} {l : List α} : y ∈ insertBy le x l ↔ y = x ∨ y ∈ l := by
  induction l with
  | nil => simp [insertBy]
  | cons z l ih =>
    rw [insertBy]
    split
    · rw [List.mem_cons, ih, List.mem_cons, or_left_comm]
    · exact List.mem_cons

theorem mem_unionDies {d : Nat} {a b : List Nat} : d ∈ unionDies a b ↔ d ∈ a ∨ d ∈ b := by
  unfold unionDies
  induction b generalizing a with
  | nil => simp
  | cons x b ih =>
    rw [List.foldl_cons, ih, List.mem_cons]
    split
    next hx =>
      have hx' : x ∈ a := List.contains_iff_mem.mp hx
      exact ⟨fun h => h.imp_right .inr, fun h => h.elim .inl fun h => h.elim (fun hd => .inl (hd ▸ hx')) .inr⟩
    next => rw [mem_insertBy, or_assoc, or_left_comm]

/-! ### ARRIVAL (09 R200, R201) -/

/-- Arrivals of members of the job are merged into the barrier, which is then checked. -/
theorem State.takeArrival_from {s : State} {job barrier : Nat} {dies : List Nat} (hmember : ∃ d ∈ dies, s.memberEntry d = (true, job))
    (time die : Nat) : ∃ (v : State) (b : OpenBarrier), s.takeArrival job barrier time die dies = (v.checkBarrier b).syncBar ∧
      KeepsEpochs s v ∧ v.bar.trees = s.bar.trees ∧ b ∈ v.bar.openBars ∧ b.job = job ∧ b.barrier = barrier ∧
      ∀ d ∈ dies, s.memberEntry d = (true, job) → d ∈ b.arrived := by
  unfold State.takeArrival
  extract_lets mine keep s1 b0 wins b1 others
  have hkeep {d : Nat} (hd : d ∈ dies) (hmine : s.memberEntry d = (true, job)) : d ∈ keep :=
    List.mem_filter.mpr ⟨hd, beq_iff_eq.mpr hmine⟩
  have hsome : keep.isEmpty = false := by
    obtain ⟨d, hd, hmine⟩ := hmember
    exact List.isEmpty_eq_false_iff_exists_mem.mpr ⟨d, hkeep hd hmine⟩
  have hb0 : b0.job = job ∧ b0.barrier = barrier := by
    unfold b0
    cases hfind : s1.bar.openBars.find? (fun b => b.job == job && b.barrier == barrier) with
    | none => exact ⟨rfl, rfl⟩
    | some b => simpa using List.find?_some hfind
  refine ⟨(s1.setBar { s1.bar with openBars := others ++ [b1] }).liveUnstall job barrier (some keep), b1, ?_, ?_, ?_, ?_, hb0.1, hb0.2,
    fun d hd hmine => mem_unionDies.mpr (.inr (hkeep hd hmine))⟩
  · rw [hsome]
    rfl
  · exact (KeepsEpochs.refl s).bumpSat.setBar.liveUnstall
  · rw [State.liveUnstall_bar]
    rfl
  · rw [State.liveUnstall_bar]
    exact List.mem_append_right _ (List.mem_singleton_self b1)

/-- Below the ROOT a barrier that is checked stays open, with the dies that have arrived. -/
theorem State.checkBarrier_below {s : State} {b : OpenBarrier} (hrole : s.role ≠ .root) (hb : b ∈ s.bar.openBars) :
    ∃ x ∈ (s.checkBarrier b).bar.openBars, x.job = b.job ∧ x.barrier = b.barrier ∧ x.arrived = b.arrived := by
  have hrole' : (s.role == .root) = false := beq_eq_false_iff_ne.mpr hrole
  rw [State.checkBarrier, hrole', if_neg Bool.false_ne_true]
  split
  · refine ⟨b.sentBy b, ?_, ?_⟩
    · rw [State.sendBarrier_bar]
      exact List.mem_map_of_mem hb
    · unfold OpenBarrier.sentBy
      split <;> exact ⟨rfl, rfl, rfl⟩
  · exact ⟨b, hb, rfl, rfl, rfl⟩

/-- The ROOT releases a barrier at which every die of its job has arrived and which no start holds back. -/
theorem State.checkBarrier_root {s : State} {b : OpenBarrier} (hrole : s.role = .root) (hall : ∀ d ∈ s.jobDies b.job, d ∈ b.arrived)
    (hfree : s.startHolds b = false) : s.checkBarrier b = s.releaseBarrier b := by
  have hall' : (s.jobDies b.job).all b.arrived.contains = true :=
    List.all_eq_true.mpr fun d hd => List.contains_iff_mem.mpr (hall d hd)
  rw [State.checkBarrier, hrole, hall', hfree]
  rfl

theorem arrival_from {dt p job barrier time die : Nat} {dies : List Nat} {s u : State} (hu : u = s.elapse dt) (hon : u.coreOn = true)
    (hup : u.laneUp p = true) (hdown : u.isDown p = true) :
    exec (.arrival dt p job barrier time die dies) s = .next ((u.touch.takeArrival job barrier time die dies).within s) := by
  have hdown' : u.touch.isDown p = true := hdown
  refine congrArg Host.Outcome.next ((State.fromLane_from hu hon p 1 _ _).trans ?_)
  simp only [State.onLane, hup, hdown', if_true]

section
variable {dt p job barrier time die : Nat} {dies : List Nat} {s u : State} (hu : u = s.elapse dt) (hon : u.coreOn = true)
  (hup : u.laneUp p = true) (hdown : u.isDown p = true) (hmember : ∃ d ∈ dies, u.memberEntry d = (true, job))
include hu hon hup hdown hmember

theorem arrival_below_completes (hrole : u.role ≠ .root) :
    Does (.arrival dt p job barrier time die dies) s (fun t => ∃ b ∈ t.bar.openBars, b.job = job ∧ b.barrier = barrier ∧
      ∀ d ∈ dies, u.memberEntry d = (true, job) → d ∈ b.arrived) := by
  obtain ⟨v, b, htaken, hkeeps, -, hb, rfl, rfl, harrived⟩ := State.takeArrival_from (s := u.touch) (barrier := barrier) hmember time die
  obtain ⟨x, hx, hjob, hbarrier, harr⟩ := State.checkBarrier_below (by rw [hkeeps.role]; exact hrole) hb
  refine ⟨_, arrival_from hu hon hup hdown, x, ?_, hjob, hbarrier, ?_⟩
  · rw [State.within_bar, htaken, State.syncBar_bar]
    exact hx
  · rw [harr]
    exact harrived

theorem arrival_root_completes (hrole : u.role = .root) (hall : ∀ d ∈ u.jobDies job, d ∈ dies ∧ u.memberEntry d = (true, job))
    (hfree : u.startHolds { job := job, barrier := barrier, first := 0, reportAt := 0 } = false) :
    Does (.arrival dt p job barrier time die dies) s (fun t => (∀ b ∈ t.bar.openBars, ¬(b.job = job ∧ b.barrier = barrier)) ∧
      ∃ l, Tbl.get? t.bar.lastRel job = some ((barrier, u.nowNs + u.rd Dict.releaseMargin) :: l)) := by
  obtain ⟨v, b, htaken, hkeeps, htrees, -, rfl, rfl, harrived⟩ := State.takeArrival_from (s := u.touch) (barrier := barrier) hmember time die
  have hdies : v.jobDies b.job = u.jobDies b.job := by
    rw [State.jobDies, hkeeps.member]
    rfl
  have hholds : v.startHolds b = u.startHolds { job := b.job, barrier := b.barrier, first := 0, reportAt := 0 } := by
    rw [State.startHolds, State.treeOf, htrees]
    rfl
  have hall' : ∀ d ∈ v.jobDies b.job, d ∈ b.arrived := by
    rw [hdies]
    exact fun d hd => harrived d (hall d hd).1 (hall d hd).2
  have hnow : v.nowNs = u.nowNs := hkeeps.nowNs
  have hmargin : v.rd Dict.releaseMargin = u.rd Dict.releaseMargin := hkeeps.objects.rd (by decide)
  obtain ⟨w, d, -, hrelease⟩ := v.releaseBarrier_from b
  obtain ⟨hlast, hclosed⟩ := State.actDown_release (s := w) (m := releaseMsg b.job b.barrier (v.rd Dict.memberEpoch) v.level
    (v.nowNs + v.rd Dict.releaseMargin) d) rfl
  refine ⟨_, arrival_from hu hon hup hdown, ?_⟩
  beta_reduce
  rw [State.within_bar, htaken, State.syncBar_bar, State.checkBarrier_root (hkeeps.role.trans hrole) hall' (hholds.trans hfree),
    hrelease, ← hnow, ← hmargin]
  exact ⟨hclosed, hlast⟩

end

/-! ### BCAST_ACK (09 R193, R194) -/

/-- The union of a broadcast's acknowledgements once those of some dies are merged. -/
def State.ackMerged (s : State) (job tree seq : Nat) (dies : List Nat) : AckUnion :=
  let u : AckUnion := (s.unionOf tree seq).getD { tree := tree, seq := seq, job := job }
  { u with union := unionDies u.union dies }

theorem State.ackMerged_spec (s : State) (job tree seq : Nat) (dies : List Nat) :
    (s.ackMerged job tree seq dies).tree = tree ∧ (s.ackMerged job tree seq dies).seq = seq ∧
    ∀ d ∈ dies, d ∈ (s.ackMerged job tree seq dies).union := by
  unfold State.ackMerged
  extract_lets u
  have hu : u.tree = tree ∧ u.seq = seq := by
    unfold u State.unionOf
    cases hfind : s.bar.unions.find? (fun u => u.tree == tree && u.seq == seq) with
    | none => exact ⟨rfl, rfl⟩
    | some x => simpa using List.find?_some hfind
  exact ⟨hu.1, hu.2, fun d hd => mem_unionDies.mpr (.inr hd)⟩

theorem State.takeAck_eq (s : State) (job tree seq : Nat) (dies : List Nat) : s.takeAck job tree seq dies =
    let v := s.ackMerged job tree seq dies
    if s.role == .root then (s.setUnion v).completeBcasts.settle.checkBarriers
    else if !(v.union.any (fun d => !v.sent.contains d)) then s.setUnion v
    else if (s.jobRouted job).all v.union.contains then s.sendUnion v
    else s.setUnion { v with due := some (v.due.getD (s.time.now + s.rd Dict.ackHold * nsUnits)) } := rfl

theorem State.sendUnion_unions (s : State) (u : AckUnion) : (s.sendUnion u).bar.unions =
    { u with sent := u.union, due := none } :: s.bar.unions.filter (fun v => !(v.tree == u.tree && v.seq == u.seq)) := by
  unfold State.sendUnion
  extract_lets body bytes s1
  have hs1 : s1.bar = s.bar := (MessagedFrom.enqueueUp (by decide : 1 < 8) ..).bar
  show _ :: s1.bar.unions.filter _ = _
  rw [hs1]

/-- Below the ROOT the union is held or sent on, and holds what has been merged. -/
theorem State.takeAck_below {s : State} (hrole : s.role ≠ .root) (job tree seq : Nat) (dies : List Nat) :
    ∃ v ∈ (s.takeAck job tree seq dies).bar.unions, v.tree = tree ∧ v.seq = seq ∧ ∀ d ∈ dies, d ∈ v.union := by
  have hspec := s.ackMerged_spec job tree seq dies
  have hrole' : (s.role == .root) = false := beq_eq_false_iff_ne.mpr hrole
  rw [State.takeAck_eq, hrole']
  extract_lets v
  rw [if_neg Bool.false_ne_true]
  split_ifs
  · exact ⟨v, List.mem_cons_self, hspec⟩
  · exact ⟨{ v with sent := v.union, due := none }, by rw [State.sendUnion_unions]; exact List.mem_cons_self, hspec⟩
  · exact ⟨_, List.mem_cons_self, hspec⟩

theorem State.unionOf_setUnion (s : State) (u : AckUnion) : (s.setUnion u).unionOf u.tree u.seq = some u :=
  List.find?_cons_of_pos (by simp)

/-- A broadcast whose union covers its acknowledgement set is done. -/
theorem State.bcastDone_of_covers {s : State} {tree seq : Nat} {e : Tree} {v : AckUnion} (hissued : e.issued = true)
    (hopen : e.complete = false) (hseq : e.seq = some seq) (hunion : s.unionOf tree seq = some v) (hall : ∀ d ∈ e.ackSet, d ∈ v.union) :
    s.bcastDone tree e = true := by
  simp only [State.bcastDone, hissued, hopen, hseq, hunion, Bool.not_false, Bool.and_self, Bool.true_and]
  exact List.all_eq_true.mpr fun d hd => List.contains_iff_mem.mpr (hall d hd)

/-- At the ROOT a broadcast of the only tree, no teardown, becomes complete. -/
theorem State.completeBcasts_only {s : State} {tree : Nat} {e : Tree} (hrole : s.role = .root) (htrees : s.bar.trees = [(tree, e)])
    (hdone : s.bcastDone tree e = true) (hop : e.op ≠ 2) :
    (Tbl.get? s.completeBcasts.bar.trees tree).map (·.complete) = some true := by
  have hrole' : (s.role != .root) = false := by
    rw [hrole]
    rfl
  have hdue : s.bar.trees.filter (fun e => s.bcastDone e.1 e.2) = [(tree, e)] := by simp [htrees, hdone]
  rw [State.completeBcasts, hrole', if_neg Bool.false_ne_true, hdue, List.foldl_cons, List.foldl_nil, if_neg hop]
  show (Tbl.get? (Tbl.set s.bar.trees tree _) tree).map _ = _
  rw [Tbl.get?_set_same]
  rfl

/-- At the ROOT the acknowledgement that completes the set completes the broadcast. -/
theorem State.takeAck_root {s : State} {tree seq : Nat} {e : Tree} {dies : List Nat} (hrole : s.role = .root)
    (htrees : s.bar.trees = [(tree, e)]) (hissued : e.issued = true) (hopen : e.complete = false) (hseq : e.seq = some seq)
    (hop : e.op ≠ 2) (hall : ∀ d ∈ e.ackSet, d ∈ dies) (job : Nat) :
    (Tbl.get? (s.takeAck job tree seq dies).bar.trees tree).map (·.complete) = some true := by
  obtain ⟨htree, hseq', hunion⟩ := s.ackMerged_spec job tree seq dies
  have htaken : s.takeAck job tree seq dies = (s.setUnion (s.ackMerged job tree seq dies)).completeBcasts.settle.checkBarriers := by
    rw [State.takeAck_eq, hrole]
    rfl
  have hfound := s.unionOf_setUnion (s.ackMerged job tree seq dies)
  rw [htree, hseq'] at hfound
  have hdone := State.bcastDone_of_covers hissued hopen hseq hfound fun d hd => hunion d (hall d hd)
  have hcomplete := State.completeBcasts_only (s := s.setUnion (s.ackMerged job tree seq dies)) hrole htrees hdone hop
  obtain ⟨x, hx, hxc⟩ := Option.map_eq_some_iff.mp hcomplete
  obtain ⟨ports, hports⟩ := ((TreesGrow.settle _).trans (.checkBarriers _)).get? hx
  rw [htaken, hports]
  exact congrArg some hxc

theorem bcastAck_from {dt p job tree seq : Nat} {dies : List Nat} {s u : State} (hu : u = s.elapse dt) (hon : u.coreOn = true)
    (hup : u.laneUp p = true) (hdown : u.isDown p = true) :
    exec (.bcastAck dt p job tree seq dies) s = .next ((u.touch.takeAck job tree seq dies).within s) := by
  have hdown' : u.touch.isDown p = true := hdown
  refine congrArg Host.Outcome.next ((State.fromLane_from hu hon p 1 _ _).trans ?_)
  simp only [State.onLane, hup, hdown', if_true]

/-! ### HOP_ACK (09 R183) -/

/-- The machine of a release is idle once it waits for no port. -/
theorem State.settle_release {s : State} {f : Forward} {tRel die : Nat} (hfwd : s.bar.fwd = [f]) (hbody : f.msg.body = .release tRel die) :
    s.settle.bar.fwd = if f.waits.isEmpty then [] else [f] := by
  have hsettled : s.settle.bar.fwd = [f].filterMap s.settleOne := congrArg (List.filterMap s.settleOne) hfwd
  have hone : s.settleOne f = if f.waits.isEmpty then none else some f := by
    unfold State.settleOne
    rw [hbody]
    cases f.waits.isEmpty <;> rfl
  rw [hsettled, List.filterMap_cons, hone, List.filterMap_nil]
  cases f.waits.isEmpty <;> rfl

/-- The machine of a message that waits for a port hears the port's HOP_ACK. -/
theorem ackFirst_of_waits {f : Forward} {g typ job id seq : Nat} {l : List Forward} (htyp : f.msg.body.typ = typ) (hjob : f.msg.job = job)
    (hid : f.msg.id = id) (hseq : f.msg.seq = seq) (hwaits : f.waits.any (fun w => w.1 == g) = true) :
    ackFirst g typ job id seq (f :: l) = { f with waits := f.waits.filter (fun w => w.1 != g), acked := f.acked ++ [g] } :: l := by
  simp only [ackFirst, htyp, hjob, hid, hseq, hwaits, beq_self_eq_true, Bool.and_self, if_true]

theorem hopAck_from {dt p typ job id seq : Nat} {s u : State} (hu : u = s.elapse dt) (hon : u.coreOn = true) (hup : u.laneUp p = true) :
    exec (.hopAck dt p typ job id seq) s = .next
      ((u.touch.setBar { u.bar with fwd := ackFirst (u.groupOf p) typ job id seq u.bar.fwd }).settle.within s) := by
  refine congrArg Host.Outcome.next ((State.fromLane_from hu hon p 1 _ _).trans ?_)
  simp only [State.onLane, hup, if_true]
  rfl

section
variable {dt p typ job id seq a tr d : Nat} {s u : State} {f : Forward} (hu : u = s.elapse dt) (hon : u.coreOn = true)
  (hup : u.laneUp p = true) (hfwd : u.bar.fwd = [f]) (hbody : f.msg.body = .release tr d) (htyp : typ = 2) (hjob : f.msg.job = job)
  (hid : f.msg.id = id) (hseq : f.msg.seq = seq)
include hu hon hup hfwd hbody htyp hjob hid hseq

/-- A port that the machine of a release waits for is heard, and the machine settles. -/
theorem hopAck_heard (hwaits : f.waits.any (fun w => w.1 == u.groupOf p) = true) :
    Does (.hopAck dt p typ job id seq) s (fun t => t.bar.fwd =
      if (f.waits.filter (fun w => w.1 != u.groupOf p)).isEmpty then []
      else [{ f with waits := f.waits.filter (fun w => w.1 != u.groupOf p), acked := f.acked ++ [u.groupOf p] }]) := by
  have hhead := ackFirst_of_waits (l := []) (by rw [hbody]; exact htyp.symm : f.msg.body.typ = typ) hjob hid hseq hwaits
  refine ⟨_, hopAck_from hu hon hup, ?_⟩
  rw [hfwd, hhead]
  exact State.settle_release (f := { f with
    waits := f.waits.filter (fun w => w.1 != u.groupOf p), acked := f.acked ++ [u.groupOf p] }) rfl hbody

theorem hopAck_last_completes (hwaits : f.waits = [(u.groupOf p, a)]) :
    Does (.hopAck dt p typ job id seq) s (fun t => t.bar.fwd = []) := by
  have hheard := hopAck_heard hu hon hup hfwd hbody htyp hjob hid hseq (by simp [hwaits])
  simpa [hwaits] using hheard

theorem hopAck_other_completes {h b : Nat} (hother : h ≠ u.groupOf p) (hwaits : f.waits = [(u.groupOf p, a), (h, b)]) :
    Does (.hopAck dt p typ job id seq) s (fun t =>
      t.bar.fwd = [{ f with waits := [(h, b)], acked := f.acked ++ [u.groupOf p] }]) := by
  have hheard := hopAck_heard hu hon hup hfwd hbody htyp hjob hid hseq (by simp [hwaits])
  simpa [hwaits, hother] using hheard

end

/-! ### NACK_TIMEOUT (09 R196) -/

theorem State.reissueFor_regs (s : State) (m : DownMsg) (g : Nat) : (s.reissueFor m g).regs = s.regs := by
  unfold State.reissueFor
  extract_lets resync target mr
  clear_value target
  cases target with
  | none => rfl
  | some t =>
    obtain ⟨_, hqueued⟩ := s.enqueue_only t 1 { kind := mr.body.kind, bytes := mr.bytes, frame := s.frameNow, prec := mr.body.prec }
    dsimp only
    split
    · rfl
    · rw [State.sendDown, State.sendClass1, hqueued]
      rfl

/-- REISSUES starts at 0 in every build and role, so what it reads depends on what is stored alone. -/
theorem State.rd_reissues_congr {s t : State} (hregs : t.regs = s.regs) : t.rd Dict.reissues = s.rd Dict.reissues := by
  have hinit (b : Build) (r : Role) : Dict.reissues.init b r 0 = 0 := by cases b <;> rfl
  simp only [State.rd, hregs, hinit]

/-- The only machine, a release's, gives up the only port that it waits for; if it is not itself a re-issue, the port is re-issued for. -/
theorem State.nackTimeouts_one {s : State} {f : Forward} {g a : Nat} (hfwd : s.bar.fwd = [f]) (hwaits : f.waits = [(g, a)])
    (hdue : a ≤ s.time.now) : ∃ left : Forward, left.waits = [] ∧ left.msg = f.msg ∧ s.nackTimeouts =
      ((if f.msg.reissue then [] else [g]).foldl (fun t g => t.nack f.msg g) (s.setBar { s.bar with fwd := [left] })).settle := by
  refine ⟨{ f with waits := [], acked := f.acked.filter (fun h => !decide (h = g)) }, rfl, rfl, ?_⟩
  cases hissue : f.msg.reissue <;> simp [State.nackTimeouts, State.giveUp, hfwd, hwaits, hdue, hissue]

section
variable {dt g a tr d : Nat} {s u : State} {f : Forward} (hu : u = s.elapse dt) (hon : u.coreOn = true) (hfwd : u.bar.fwd = [f])
  (hbody : f.msg.body = .release tr d) (hwaits : f.waits = [(g, a)]) (hdue : a ≤ u.time.now)
include hu hon hfwd hwaits hdue

theorem nackTimeout_reissues (hissue : f.msg.reissue = false) :
    Does (.nackTimeout dt) s (fun t => t.rd Dict.reissues = satTo (8 * Dict.reissues.ty.bytes) (u.rd Dict.reissues + 1)) := by
  obtain ⟨left, -, -, htimeouts⟩ := State.nackTimeouts_one hfwd hwaits hdue
  refine ⟨_, congrArg Host.Outcome.next (State.core_from hu hon _), ?_⟩
  rw [htimeouts, hissue]
  have hcounted := State.stores_wr (u.setBar { u.bar with fwd := [left] }) Dict.reissues
    (satTo (8 * Dict.reissues.ty.bytes) (u.rd Dict.reissues + 1)) 0 0
  rw [Nat.mod_eq_of_lt (satTo_lt ..)] at hcounted
  refine State.stores.rd_within ?_ s
  exact (congrArg (Tbl.get? · _) (State.reissueFor_regs (State.bumpSat _ Dict.reissues) f.msg g)).trans hcounted

include hbody in
theorem nackTimeout_gives_up (hissue : f.msg.reissue = true) :
    Does (.nackTimeout dt) s (fun t => t.bar.fwd = [] ∧ t.rd Dict.reissues = u.rd Dict.reissues) := by
  obtain ⟨left, hleft, hmsg, htimeouts⟩ := State.nackTimeouts_one hfwd hwaits hdue
  refine ⟨_, congrArg Host.Outcome.next (State.core_from hu hon _), ?_⟩
  rw [htimeouts, hissue]
  refine ⟨?_, State.rd_reissues_congr rfl⟩
  refine (State.settle_release (f := left) rfl (hmsg ▸ hbody)).trans ?_
  rw [hleft]
  rfl

end

/-! ### ACK_HOLD (09 R193) -/

theorem ackHold_completes {dt a : Nat} {s u : State} {v : AckUnion} (hu : u = s.elapse dt) (hon : u.coreOn = true)
    (hdie : u.isDie = false) (hrole : u.role ≠ .root) (hunions : u.bar.unions = [v]) (hdue : v.due = some a) (hpast : a ≤ u.time.now) :
    Does (.ackHold dt) s (fun t => t.bar.unions = [{ v with sent := v.union, due := none }]) := by
  have hrole' : (u.role == .root) = false := beq_eq_false_iff_ne.mpr hrole
  have hflush : u.flushUnions = u.sendUnion v := by simp [State.flushUnions, hunions, hdue, hpast]
  refine ⟨_, congrArg Host.Outcome.next (State.core_from hu hon _), ?_⟩
  simp only [hdie, hrole', Bool.or_self, Bool.false_eq_true, if_false, hflush]
  rw [State.within_bar, State.sendUnion_unions, hunions]
  simp

/-! ### Reports of the ROOT (09 R194, R201) -/

theorem State.raiseAlarm_bar (s : State) (typ payload : Nat) : (s.raiseAlarm typ payload).bar = s.bar := s.raise_bar ..

theorem ackReport_completes {dt k : Nat} {s u : State} {e : Tree} (hu : u = s.elapse dt) (hon : u.coreOn = true) (hrole : u.role = .root)
    (htrees : u.bar.trees = [(k, e)]) (hissued : e.issued = true) (hopen : e.complete = false) (hfirst : e.reported = false)
    (hdue : e.reportAt ≤ u.time.now) :
    Does (.ackReport dt) s (fun t => t.bar.trees = [(k, { e with reported := true })]) := by
  refine ⟨_, congrArg Host.Outcome.next (State.core_from hu hon _), ?_⟩
  have hrole' : (u.role != .root) = false := by
    rw [hrole]
    rfl
  simp only [hrole', htrees, hissued, hopen, hfirst, hdue, List.filter_cons, List.filter_nil, Bool.not_false, decide_true, Bool.and_self,
    Bool.false_eq_true, if_false, if_true, List.foldl_cons, List.foldl_nil]
  rw [State.within_bar, State.raiseAlarm_bar]
  simp [State.setBar, Tbl.set]

theorem barrierReport_completes {dt : Nat} {s u : State} (hu : u = s.elapse dt) (hon : u.coreOn = true) (hrole : u.role = .root) :
    Does (.barrierReport dt) s (fun t => t.bar.openBars = u.bar.openBars.map (fun b =>
      if !b.reported && decide (b.reportAt ≤ u.time.now) then { b with reported := true } else b)) := by
  refine ⟨_, congrArg Host.Outcome.next (State.core_from hu hon _), ?_⟩
  have hrole' : (u.role != .root) = false := by
    rw [hrole]
    rfl
  simp only [hrole', Bool.false_eq_true, if_false]
  rw [State.within_bar]
  refine List.foldlRecOn (motive := fun t : State => t.bar.openBars = _) _ _ rfl fun t ht b _ => ?_
  rw [State.raiseAlarm_bar, ht]

/-- Settles O37: what comes from the children is merged before anything is checked, and what a check sends or releases leaves the merged
state standing; a timer's command finds the one machine, union, tree or barrier that is due. -/
theorem barrierCommandsComplete : Obligations.BarrierCommandsComplete := by
  unfold Obligations.BarrierCommandsComplete
  refine ⟨?_, ?_, ?_, ?_, ?_, ?_, ?_⟩
  · intro dt p job barrier time die dies s u hu hon hup hdown hmember
    exact ⟨arrival_below_completes hu hon hup hdown hmember, arrival_root_completes hu hon hup hdown hmember⟩
  · intro dt p job tree seq dies s u hu hon hup hdown
    have hexec := bcastAck_from (job := job) (tree := tree) (seq := seq) (dies := dies) hu hon hup hdown
    refine ⟨fun hrole => ⟨_, hexec, ?_⟩, fun e hrole htrees hissued hopen hseq hop hall => ⟨_, hexec, ?_⟩⟩
    · exact State.takeAck_below (s := u.touch) hrole job tree seq dies
    · exact State.takeAck_root (s := u.touch) hrole htrees hissued hopen hseq (by omega) hall job
  · intro dt p typ job id seq s u f a tr d hu hon hup hfwd hbody htyp hjob hid hseq
    exact ⟨hopAck_last_completes hu hon hup hfwd hbody htyp hjob hid hseq,
      fun h b => hopAck_other_completes hu hon hup hfwd hbody htyp hjob hid hseq⟩
  · intro dt s u f g a tr d hu hon hfwd hbody hwaits hdue
    exact ⟨nackTimeout_reissues hu hon hfwd hwaits hdue, nackTimeout_gives_up hu hon hfwd hbody hwaits hdue⟩
  · intro dt s u v a hu hon hdie hrole hunions hdue hpast
    exact ackHold_completes hu hon hdie hrole hunions hdue hpast
  · intro dt s u k e hu hon hrole htrees hissued hopen hfirst hdue
    exact ackReport_completes hu hon hrole htrees hissued hopen hfirst hdue
  · intro dt s u hu hon hrole
    exact barrierReport_completes hu hon hrole

end Sys2Proof.Machine
end

section
/-! Epochs: segments arrive, are applied and are issued (09 R184 to R188). -/

namespace Sys2Proof.Machine

open Sys2Proof

/-! ### EPOCH_SEGMENT (09 R186) -/

/-- Of two epochs, the later is not reached by the earlier. -/
theorem frameGe_eq_false_of_frameGt {a b : Nat} (h : frameGt a b = true) : frameGe b a = false := by
  simp only [frameGt, frameGe, Bool.and_eq_true, decide_eq_true_eq, bne_iff_ne] at h
  simp only [frameGe, decide_eq_false_iff_not]
  omega

/-- The message of an EPOCH segment that is neither a re-issue nor part of a RESYNC. -/
def epochMsg (epoch level ff seg segs : Nat) (es : List EpochEntry) : DownMsg :=
  { job := 0xFFFF, id := 0xFFF, seq := 0, epoch := epoch, level := level, reissue := false, body := .epoch ff seg segs false es }

/-- A segment is kept until it is applied. -/
def State.keepSegment (m : DownMsg) (s : State) : State := (s.setBar { s.bar with segs := s.bar.segs ++ [m] }).syncBar

theorem State.keepSegment_segs (m : DownMsg) (s : State) : (s.keepSegment m).bar.segs = s.bar.segs ++ [m] := by
  rw [State.keepSegment, State.syncBar_bar]
  rfl

/-- A message from above that a chip has not seen acts on the state in which the hop's acknowledgement is queued. -/
theorem State.takeDown_new {s : State} {p : Nat} {m : DownMsg} (hdown : s.isDown p = false) (hissue : m.reissue = false)
    (hseen : s.seenDown m = false) (act : State → State) : ∃ q, s.takeDown p m act = act { s with sch := { s.sch with groups := q } } := by
  obtain ⟨q, hq⟩ := s.hopAckOf_only p m
  have hdown' : State.isDown { s with sch := { s.sch with groups := q } } p = false := hdown
  have hseen' : State.seenDown { s with sch := { s.sch with groups := q } } m = false := hseen
  refine ⟨q, ?_⟩
  simp only [State.takeDown, hq, hissue, hdown', hseen', Bool.false_eq_true, if_false]

/-- A leaf keeps a segment of a later epoch that it does not hold yet. -/
theorem State.leafSegment_new {s : State} {m : DownMsg} (hlater : frameGe (s.rd Dict.memberEpoch) m.epoch = false)
    (hnew : s.bar.segs.any (fun x => x.key == m.key) = false) (p : Nat) : (s.leafSegment p m false).bar.segs = s.bar.segs ++ [m] := by
  obtain ⟨q, hq⟩ := s.hopAckOf_only p m
  have hlater' : frameGe (State.rd { s with sch := { s.sch with groups := q } } Dict.memberEpoch) m.epoch = false := hlater
  simp only [State.leafSegment, hq, hlater', hnew, Bool.or_self, Bool.and_false, Bool.false_eq_true, if_false]
  rfl

/-- A segment is taken from above, by a leaf or by a chip. -/
def State.takeSegment (p : Nat) (m : DownMsg) (resync : Bool) (s : State) : State :=
  if s.isDie then s.leafSegment p m resync
  else if resync && !m.reissue && !s.isDown p then (s.hopAckOf p m).keepSegment m
  else s.takeDown p m (State.keepSegment m)

theorem exec_epochSegment (dt p epoch level ff seg segs : Nat) (es : List EpochEntry) (s : State) :
    exec (.epochSegment dt p epoch level false ff seg segs false es) s =
      .next (s.fromLane dt p 1 (.epochSegment 0 p epoch level false ff seg segs false es)
        (State.onLane · p (State.takeSegment p (epochMsg epoch level ff seg segs es) false))) := rfl

theorem State.takeSegment_leaf {s : State} (hdie : s.isDie = true) (p : Nat) (m : DownMsg) (resync : Bool) :
    s.takeSegment p m resync = s.leafSegment p m resync := if_pos hdie

theorem State.takeSegment_chip {s : State} (hdie : s.isDie = false) (p : Nat) (m : DownMsg) :
    s.takeSegment p m false = s.takeDown p m (State.keepSegment m) := if_neg (Bool.eq_false_iff.mp hdie)

theorem epochSegment_completes {dt p epoch level ff seg segs : Nat} {es : List EpochEntry} {s u : State} (hu : u = s.elapse dt)
    (hon : u.coreOn = true) (hup : u.laneUp p = true) (hdown : u.isDown p = false) (hepoch : frameGt epoch (u.rd Dict.memberEpoch) = true)
    (hnew : ∀ x ∈ u.bar.segs, x.key ≠ (epochMsg epoch level ff seg segs es).key) (hidle : u.bar.applying = none) (hheld : u.bar.held = []) :
    Does (.epochSegment dt p epoch level false ff seg segs false es) s
      (fun t => t.bar.segs = u.bar.segs ++ [epochMsg epoch level ff seg segs es]) := by
  have hlater : frameGe (u.rd Dict.memberEpoch) epoch = false := frameGe_eq_false_of_frameGt hepoch
  have hnone : u.bar.segs.any (fun x => x.key == (epochMsg epoch level ff seg segs es).key) = false :=
    List.any_eq_false.mpr fun x hx => by simpa using hnew x hx
  refine ⟨_, (exec_epochSegment ..).trans (congrArg Host.Outcome.next (State.fromLane_from hu hon ..)), ?_⟩
  beta_reduce
  rw [State.within_bar, State.onLane, if_pos hup]
  cases hdie : u.touch.isDie with
  | true =>
    rw [State.takeSegment_leaf hdie]
    exact State.leafSegment_new (s := u.touch) (m := epochMsg epoch level ff seg segs es) hlater hnone p
  | false =>
    have hseen : u.touch.seenDown (epochMsg epoch level ff seg segs es) = false := by
      have hlater' : frameGe (u.touch.rd Dict.memberEpoch) epoch = false := hlater
      simp only [State.seenDown, epochMsg] at hnone ⊢
      simp [hheld, hidle, hlater', hnone]
    obtain ⟨q, hq⟩ := State.takeDown_new (s := u.touch) (p := p) hdown rfl hseen (State.keepSegment (epochMsg epoch level ff seg segs es))
    rw [State.takeSegment_chip hdie, hq, State.keepSegment_segs]
    rfl

/-! ### EPOCH_APPLIED at a leaf (09 R184, R186) -/

/-- A leaf that applies a segment takes its own entry from it, then the epoch; what follows changes neither. -/
theorem State.leafApply_own {s : State} {m : DownMsg} {job : Nat} {member : Bool}
    (hentries : m.entries = [.die (s.rd Dict.dieId) job member]) :
    ∃ v, KeepsEpochs (((s.setBar { s.bar with segs := s.bar.segs.erase m }).wr Dict.myJob job).wr Dict.myMember (bit member)) v ∧
      KeepsEpochs (v.wr Dict.memberEpoch m.epoch) (s.leafApply m) := by
  unfold State.leafApply
  extract_lets _ oldJob s0 own size s1 s2 s3 _ _ s4 go _ s5
  have hs1 : s1 = (s0.wr Dict.myJob job).wr Dict.myMember (bit member) := by
    unfold s1
    rw [hentries]
    exact if_pos rfl
  have hsize {u : State} (e : EpochEntry) (hu : KeepsEpochs s1 u) : KeepsEpochs s1 (size u e) := by
    cases e with
    | die => exact hu
    | size => exact .ite hu.wr hu
  have hunsized : KeepsEpochs s1 (s1.unsized m oldJob) := .ite (.refl s1) (KeepsEpochs.refl s1).wr.drawn
  have hs2 : KeepsEpochs s1 s2 := hunsized.foldl hsize
  refine ⟨if s2.rd Dict.myJob = 0xFFFF then s2.wr Dict.jobSize 0 else s2, hs1 ▸ .ite hs2.wr hs2, ?_⟩
  have hjob : KeepsEpochs s3 ((s3.setLeaf { s3.bar.leaf with reference := none }).setVer { s3.ver with stateDue := true }) :=
    (KeepsEpochs.refl s3).setLeaf
  have hs4 : KeepsEpochs s3 s4 := .ite (.refl s3) hjob.restartWindow
  have hs5 : KeepsEpochs s3 s5 := hs4.setBar.foldl fun _ hu => hu.leafAct
  change KeepsEpochs s3 _
  clear_value s5
  split
  · exact .ite hs5.runStart hs5
  · exact hs5

theorem epochApplied_leaf_completes {dt ff seg segs job : Nat} {resync member : Bool} {s u : State} {m : DownMsg} (hu : u = s.elapse dt)
    (hon : u.coreOn = true) (hdie : u.isDie = true) (hnext : u.nextLeafSeg = some m)
    (hbody : m.body = .epoch ff seg segs resync [.die (u.rd Dict.dieId) job member]) :
    Does (.epochApplied dt) s (fun t => t.rd Dict.memberEpoch = m.epoch % 2 ^ 32 ∧ t.rd Dict.myJob = job % 65536 ∧
      t.rd Dict.myMember = bit member ∧ t.bar.segs = u.bar.segs.erase m) := by
  have hentries : m.entries = [.die (u.rd Dict.dieId) job member] := by rw [DownMsg.entries, hbody]
  obtain ⟨v, hown, happlied⟩ := State.leafApply_own hentries
  have hepoch : (u.leafApply m).stores Dict.memberEpoch 0 0 (m.epoch % 2 ^ 32) :=
    (State.stores_wr v Dict.memberEpoch m.epoch 0 0).of_keeps happlied.objects (by decide)
  -- what the leaf's own entry has set stands, since only the epoch's number is written between
  have hkept {o : Ob} {x : Nat} (hx : v.stores o 0 0 x) (ho : epochObject (o.key 0 0)) (hother : Dict.memberEpoch.key 0 0 ≠ o.key 0 0) :
      (u.leafApply m).stores o 0 0 x :=
    State.stores.of_keeps (s := v.wr Dict.memberEpoch m.epoch) ((Tbl.get?_set_other _ _ _ _ hother).trans hx) happlied.objects ho
  have hmember : v.stores Dict.myMember 0 0 (bit member) := by
    have hbit : bit member % 2 ^ (8 * Dict.myMember.ty.bytes) = bit member := by cases member <;> rfl
    rw [← hbit]
    exact (State.stores_wr _ Dict.myMember (bit member) 0 0).of_keeps hown.objects (by decide)
  have hjob : v.stores Dict.myJob 0 0 (job % 65536) := by
    refine State.stores.of_keeps ?_ hown.objects (by decide)
    exact (Tbl.get?_set_other _ _ _ _ (by decide)).trans (State.stores_wr _ Dict.myJob job 0 0)
  refine ⟨_, congrArg Host.Outcome.next (State.core_from hu hon _), ?_⟩
  simp only [hdie, if_true, hnext]
  refine ⟨hepoch.rd_within s, (hkept hjob (by decide) (by decide)).rd_within s, (hkept hmember (by decide) (by decide)).rd_within s, ?_⟩
  obtain ⟨⟨-, hsegs, -, -⟩, -, -⟩ := happlied
  obtain ⟨⟨-, hsegs0, -, -⟩, -, -⟩ := hown
  exact hsegs.trans hsegs0

/-! ### EPOCH_APPLIED at a chip (09 R186, R187) -/

/-- An epoch that comes into force at a chip is the membership in force, and its number is MEMBER_EPOCH. -/
theorem State.applyEpoch_effect (s : State) (epoch first : Nat) :
    (s.applyEpoch epoch first false).stores Dict.memberEpoch 0 0 (epoch % 2 ^ 32) ∧
    (s.applyEpoch epoch first false).bar.member = s.bar.gathered.foldl enterMember s.bar.member ∧
    (s.applyEpoch epoch first false).bar.applying = none ∧ (s.applyEpoch epoch first false).bar.gathered = [] := by
  unfold State.applyEpoch
  extract_lets old new was is_ dies flips changes sizes _ s1
  rw [if_neg Bool.false_ne_true]
  obtain ⟨⟨hmember, -, happlying, hgathered⟩, -, hobjects⟩ : KeepsEpochs s1 (s1.removeDies (flips.filter was) first) :=
    (KeepsEpochs.refl s1).removeDies
  refine ⟨(State.stores_wr _ Dict.memberEpoch epoch 0 0).of_keeps hobjects (by decide), ?_, happlying, hgathered⟩
  rw [hmember]
  rfl

/-- The only segment of an epoch brings the epoch into force; what becomes possible then leaves it so. -/
theorem State.segApplied_only {s : State} {m : DownMsg} {ff : Nat} {es : List EpochEntry} (hbody : m.body = .epoch ff 0 1 false es) :
    (s.segApplied m).stores Dict.memberEpoch 0 0 (m.epoch % 2 ^ 32) ∧ (s.segApplied m).bar.member = es.foldl enterMember s.bar.member ∧
    (s.segApplied m).bar.applying = none ∧ (s.segApplied m).bar.gathered = [] := by
  unfold State.segApplied
  rw [hbody]
  dsimp only
  rw [if_neg (Nat.lt_irrefl 1), if_pos rfl]
  generalize hs1 : s.setBar _ = s1
  generalize hs3 : State.setBar (s1.applyEpoch m.epoch ff false) _ = s3
  obtain ⟨hepoch, hmember, happlying, hgathered⟩ := s1.applyEpoch_effect m.epoch ff
  obtain ⟨⟨kmember, -, kapplying, kgathered⟩, -, kobjects⟩ :
      KeepsEpochs s3 ((s3.fan m false).sendLeaves m ((s3.fan m false).portsFor m false)).afterEpoch :=
    (KeepsEpochs.refl s3).fan.sendLeaves.afterEpoch
  subst hs3
  refine ⟨State.stores.of_keeps (s := State.setBar _ _) hepoch kobjects (by decide), ?_, kapplying.trans happlying,
    kgathered.trans hgathered⟩
  rw [kmember]
  refine hmember.trans ?_
  subst hs1
  rfl

theorem epochApplied_chip_completes {dt ff : Nat} {es : List EpochEntry} {s u : State} {m : DownMsg} (hu : u = s.elapse dt)
    (hon : u.coreOn = true) (hdie : u.isDie = false) (hnext : u.nextSeg = some m) (hbody : m.body = .epoch ff 0 1 false es) :
    Does (.epochApplied dt) s (fun t => t.rd Dict.memberEpoch = m.epoch % 2 ^ 32 ∧ t.bar.member = es.foldl enterMember u.bar.member ∧
      t.bar.applying = none ∧ t.bar.gathered = []) := by
  obtain ⟨hepoch, heffect⟩ := State.segApplied_only (s := u) hbody
  refine ⟨_, congrArg Host.Outcome.next (State.core_from hu hon _), ?_⟩
  simp only [hdie, Bool.false_eq_true, if_false, hnext]
  exact ⟨hepoch.rd_within s, heffect⟩

/-! ### EPOCH_ISSUE (09 R185) -/

/-- An epoch has one segment at least, and all its segments carry its number. -/
theorem epochSegs_of_epoch (epoch level ff : Nat) (resync : Bool) (es : List EpochEntry) :
    epochSegs epoch level ff resync es ≠ [] ∧ ∀ m ∈ epochSegs epoch level ff resync es, m.epoch = epoch := by
  unfold epochSegs
  extract_lets n
  have hn : n ≠ 0 := by omega
  refine ⟨by simpa using hn, fun m hm => ?_⟩
  obtain ⟨k, -, rfl⟩ := List.mem_map.mp hm
  rfl

/-- The counts of what a chip holds are not EPOCH_LAST_ISSUED. -/
theorem State.stores_lastIssued_syncBar {s : State} {v : Nat} (h : s.stores Dict.epochLastIssued 0 0 v) :
    s.syncBar.stores Dict.epochLastIssued 0 0 v := by
  refine h.of_keeps (P := (· = Dict.epochLastIssued.key 0 0)) ?_ rfl
  unfold State.syncBar
  split
  · exact .refl _ s
  · exact ((KeepsObjects.wr s Dict.barriersOpen _ 0 0 (by decide)).trans (.wr _ Dict.treesActive _ 0 0 (by decide))).trans
      (.wr _ Dict.epochBacklog _ 0 0 (by decide))

/-- The ROOT gives the staged epoch the next number and holds its segments to be applied. -/
theorem State.issueEpoch_effect (s : State) :
    s.issueEpoch.stores Dict.epochLastIssued 0 0 ((s.rd Dict.epochLastIssued + 1) % 2 ^ 32) ∧
    ∃ more, s.issueEpoch.bar.segs = s.bar.segs ++ more ∧ more ≠ [] ∧ ∀ m ∈ more, m.epoch = (s.rd Dict.epochLastIssued + 1) % 2 ^ 32 := by
  unfold State.issueEpoch
  extract_lets n es old new sizes segs
  refine ⟨State.stores_lastIssued_syncBar ?_, segs, ?_, epochSegs_of_epoch ..⟩
  · have hwritten := State.stores_wr (s.setBar { s.bar with segs := s.bar.segs ++ segs }) Dict.epochLastIssued n 0 0
    rw [show n % 2 ^ (8 * Dict.epochLastIssued.ty.bytes) = n from Nat.mod_mod ..] at hwritten
    exact hwritten
  · rw [State.syncBar_bar]
    rfl

/-- A command object whose action completes within the write: its code is readable, and chapter 09's part and the scalar objects are as
the action leaves them. -/
theorem State.serveCmd_bar {u t : State} {o : Ob} {m code : Nat} {act : State → State × Nat} (h : u.serves o m)
    (hact : act u.granted = (t, code)) (rq : Requester) :
    (State.serveCmd rq o m act u).cmdCode o m = code ∧ (State.serveCmd rq o m act u).bar = t.bar ∧
    (State.serveCmd rq o m act u).regs = t.regs := by
  obtain ⟨_, rfl, _, _, _, heq⟩ := State.serveCmd_answered h rq act
  rw [heq, hact]
  exact ⟨State.cmdCode_setCode_same .., rfl, rfl⟩

theorem epochIssue_completes {dt : Nat} {rq : Requester} {s u : State} (hu : u = s.elapse dt) (hserves : u.serves Dict.epochIssue) :
    Does (.epochIssue dt rq) s (fun t => t.cmdCode Dict.epochIssue = 0 ∧
      t.rd Dict.epochLastIssued = (u.rd Dict.epochLastIssued + 1) % 2 ^ 32 ∧
      ∃ more, t.bar.segs = u.bar.segs ++ more ∧ more ≠ [] ∧ ∀ m ∈ more, m.epoch = (u.rd Dict.epochLastIssued + 1) % 2 ^ 32) := by
  obtain ⟨hcode, hbar, hregs⟩ := State.serveCmd_bar (act := fun s => (s.issueEpoch, 0)) hserves rfl rq
  obtain ⟨hlast, hsegs⟩ := u.granted.issueEpoch_effect
  rw [u.rd_granted_developer (by decide)] at hlast hsegs
  refine ⟨_, congrArg Host.Outcome.next (State.asked_from hu hserves.1 ..), hcode, ?_, ?_⟩
  · exact State.stores.rd_within ((congrArg (Tbl.get? · _) hregs).trans hlast) s
  · rw [State.within_bar, State.serveEpochIssue, hbar]
    exact hsegs

end Sys2Proof.Machine
end

section
/-! What the ROOT broadcasts, and the end of a leaf's teardown (09 R191, R192, R194). -/

namespace Sys2Proof.Machine

open Sys2Proof

/-! ### A broadcast is written (09 R191) -/

/-- A tree's last broadcast is that of a number and an operation, for a job. -/
def Tree.carries (x : Tree) (seq op job : Nat) : Prop := x.seq = some seq ∧ x.op = op ∧ x.job = job

/-- The broadcast is the last one of its tree. -/
def State.broadcasts (s : State) (tree seq op job : Nat) : Prop := ∃ x, Tbl.get? s.bar.trees tree = some x ∧ x.carries seq op job

/-- The broadcast is the last one of its tree, and no other broadcast waits for acknowledgements. -/
def State.broadcastsOnly (s : State) (tree seq op job : Nat) : Prop :=
  s.broadcasts tree seq op job ∧
  ∀ e ∈ s.bar.trees, (e.2.complete = true ∨ e.2.issued = false) ∨ e.1 = tree ∧ e.2.carries seq op job

theorem Tbl.eq_or_mem_of_mem_set {α : Type} {t : Tbl α} {k : Nat} {v : α} {e : Nat × α} (he : e ∈ Tbl.set t k v) : e = (k, v) ∨ e ∈ t := by
  induction t with
  | nil => exact .inl (List.mem_singleton.mp he)
  | cons x t ih =>
    obtain ⟨k', w⟩ := x
    rw [Tbl.set] at he
    split at he
    · exact List.mem_cons.mp he
    · split at he
      · exact (List.mem_cons.mp he).imp_right (List.mem_cons_of_mem _)
      · rcases List.mem_cons.mp he with rfl | he
        · exact .inr List.mem_cons_self
        · exact (ih he).imp_right (List.mem_cons_of_mem _)

section
variable {s t : State} {tree seq op job : Nat}

theorem State.broadcasts.grow (h : s.broadcasts tree seq op job) (k : TreesGrow s t) : t.broadcasts tree seq op job := by
  obtain ⟨x, hx, hcarries⟩ := h
  obtain ⟨ports, hports⟩ := k.get? hx
  exact ⟨_, hports, hcarries⟩

theorem State.broadcastsOnly.grow (h : s.broadcastsOnly tree seq op job) (k : TreesGrow s t) : t.broadcastsOnly tree seq op job := by
  obtain ⟨hlast, honly⟩ := h
  refine ⟨hlast.grow k, fun e he => ?_⟩
  obtain ⟨x, ports, hx, hports⟩ := k.mem he
  rw [hports]
  exact honly _ hx

/-- The tree takes a broadcast where no other one waits. -/
theorem State.broadcastsOnly_set {x : Tree} {b : Barriers} (hb : b.trees = Tbl.set s.bar.trees tree x) (hx : x.carries seq op job)
    (honly : ∀ e ∈ s.bar.trees, (e.2.complete = true ∨ e.2.issued = false) ∨ e.1 = tree ∧ e.2.carries seq op job) :
    (s.setBar b).broadcastsOnly tree seq op job := by
  refine ⟨⟨x, (congrArg (Tbl.get? · tree) hb).trans (Tbl.get?_set_same ..), hx⟩, fun e (he : e ∈ b.trees) => ?_⟩
  rw [hb] at he
  rcases Tbl.eq_or_mem_of_mem_set he with rfl | he
  · exact .inr ⟨rfl, hx⟩
  · exact honly e he

/-- A broadcast that leaves the ROOT is still its tree's last one. -/
theorem State.broadcastsOnly.issueNow (h : s.broadcastsOnly tree seq op job) {m : DownMsg} {payload : Bytes} (hid : m.id = tree)
    (hseq : m.seq = seq) (hbody : m.body = .bcast op payload) (hop : op ≠ 4) : (s.issueNow m).broadcastsOnly tree seq op job := by
  obtain ⟨⟨x, hx, hcarries⟩, honly⟩ := h
  subst hid hseq
  unfold State.issueNow
  extract_lets mm _ s1
  have hmm : mm.body = .bcast op payload := hbody
  have hkind : ∀ ff seg segs resync es, mm.body ≠ .epoch ff seg segs resync es := by
    rw [hmm]
    exact fun _ _ _ _ _ => nofun
  have hs1 : s1.broadcastsOnly m.id m.seq op job := by
    unfold s1
    rw [hx]
    exact State.broadcastsOnly_set rfl hcarries honly
  clear_value s1
  obtain ⟨⟨y, hy, -, -, hjob⟩, honly1⟩ := hs1
  have hnoted : (s1.noteBcast mm op).broadcastsOnly m.id m.seq op job := by
    rw [State.noteBcast, show Tbl.get? s1.bar.trees mm.id = some y from hy]
    exact State.broadcastsOnly_set rfl ⟨rfl, rfl, hjob⟩ honly1
  have hsent : TreesGrow (s1.noteBcast mm op) ((s1.noteBcast mm op).fan mm false).syncBar := (TreesGrow.fan hkind _).trans (.syncBar _)
  rw [State.actDown, hmm]
  dsimp only
  rw [if_neg hop]
  exact hnoted.grow hsent

/-- A broadcast other than a teardown that is acknowledged becomes complete, and stays the last one of its tree. -/
theorem State.broadcastsOnly.completeBcasts (h : s.broadcastsOnly tree seq op job) (hop : op ≠ 2) :
    s.completeBcasts.broadcasts tree seq op job := by
  obtain ⟨hlast, honly⟩ := h
  unfold State.completeBcasts
  split
  · exact hlast
  · refine List.foldlRecOn (motive := fun t : State => t.broadcasts tree seq op job) _ _ hlast fun t _ e he => ?_
    obtain ⟨hmem, hdone⟩ := List.mem_filter.mp he
    have hwaits : ¬ (e.2.complete = true ∨ e.2.issued = false) := by
      simp only [State.bcastDone, Bool.and_eq_true, Bool.not_eq_true'] at hdone
      obtain ⟨⟨hissued, hopen⟩, -⟩ := hdone
      simp [hissued, hopen]
    obtain ⟨rfl, hseq, rfl, hjob⟩ := (honly e hmem).resolve_left hwaits
    rw [if_neg hop]
    exact ⟨_, Tbl.get?_set_same .., hseq, rfl, hjob⟩

end

/-- Where no broadcast waits for acknowledgements, none becomes complete. -/
theorem State.completeBcasts_idle {s : State} (h : ∀ e ∈ s.bar.trees, e.2.complete = true ∨ e.2.issued = false) : s.completeBcasts = s := by
  have hnone : s.bar.trees.filter (fun e => s.bcastDone e.1 e.2) = [] := by
    refine List.filter_eq_nil_iff.mpr fun e he => ?_
    rcases h e he with hc | hi
    · simp [State.bcastDone, hc]
    · simp [State.bcastDone, hi]
  unfold State.completeBcasts
  rw [hnone]
  split <;> rfl

/-- What follows a broadcast that is written: what is complete is noted, machines move on and barriers are checked. -/
def State.bcastSettled (s : State) : State := s.completeBcasts.settle.checkBarriers.syncBar

theorem TreesGrow.bcastSettled (s : State) : TreesGrow s.completeBcasts s.bcastSettled :=
  ((TreesGrow.settle _).trans (.checkBarriers _)).trans (.syncBar _)

/-- The message of a broadcast that is written. -/
def State.bcastWritten (s : State) (op seq : Nat) : DownMsg :=
  { job := s.rd Dict.bcastJob, id := s.rd Dict.bcastTree, seq := seq, epoch := s.rd Dict.epochLastIssued, level := s.level, reissue := false
    body := .bcast op (if op = 2 then [] else s.rdBytes Dict.bcastPayload) }

/-- A tree's entry once a broadcast is written for it. -/
def Tree.written (e : Tree) (op seq : Nat) : Tree :=
  { e with seq := some seq, op := op, issued := false, ackSet := [], complete := false, reported := false }

/-- A broadcast that is written is entered at its tree. -/
def State.bcastEntered (s : State) (op seq : Nat) (e : Tree) : State :=
  s.setBar { s.bar with trees := Tbl.set s.bar.trees (s.rd Dict.bcastTree) (e.written op seq) }

/-- A broadcast that is written waits for the epochs issued before it, or leaves at once. -/
def State.bcastMade (s : State) (op seq : Nat) (e : Tree) : State :=
  let s1 := s.bcastEntered op seq e
  if frameGt (s.rd Dict.epochLastIssued) (s.rd Dict.memberEpoch) then
    s1.setBar { s1.bar with heldIssues := s1.bar.heldIssues ++ [s.bcastWritten op seq] }
  else s1.issueNow (s.bcastWritten op seq)

/-- The tree that a JOB_START creates. -/
def State.startTree (s : State) : Tree := { job := s.rd Dict.bcastJob, startBarrier := leAt (s.rdBytes Dict.bcastPayload) 0 2 % 4096 }

theorem State.issueBcast_start {s : State} (htree : s.rd Dict.bcastTree < 0xFFF) (hnone : Tbl.get? s.bar.trees (s.rd Dict.bcastTree) = none) :
    s.issueBcast 1 = ((s.bcastMade 1 0 s.startTree).bcastSettled, 0) := by
  unfold State.issueBcast
  extract_lets tree job payload entry need _ ok
  have hentry : entry = none := hnone
  rw [hentry]
  exact (if_neg (Nat.not_le.mpr htree)).trans (if_pos rfl)

theorem State.issueBcast_next {s : State} {op : Nat} {e : Tree} (htree : s.rd Dict.bcastTree < 0xFFF)
    (hsome : Tbl.get? s.bar.trees (s.rd Dict.bcastTree) = some e) (hop : op ≠ 1) (hjob : e.job = s.rd Dict.bcastJob)
    (hcomplete : e.complete = true) :
    s.issueBcast op = ((s.bcastMade op ((e.seq.getD 0 + 1) % 65536) e).bcastSettled, 0) := by
  unfold State.issueBcast
  extract_lets tree job payload entry need _ ok
  have hentry : entry = some e := hsome
  rw [hentry]
  refine (if_neg (Nat.not_le.mpr htree)).trans ((if_neg hop).trans ((if_neg (not_not.mpr hjob)).trans (if_neg ?_)))
  rw [hcomplete]
  exact Bool.false_ne_true

section
variable {s : State} {op seq : Nat} {e : Tree} (hidle : ∀ x ∈ s.bar.trees, x.2.complete = true ∨ x.2.issued = false)
include hidle

/-- A start or a host message that is written, where no other broadcast waits, is the last broadcast of its tree. -/
theorem State.bcastSettled_broadcasts (hop2 : op ≠ 2) (hop4 : op ≠ 4) :
    (s.bcastMade op seq e).bcastSettled.broadcasts (s.rd Dict.bcastTree) seq op e.job := by
  have hentered : (s.bcastEntered op seq e).broadcastsOnly (s.rd Dict.bcastTree) seq op e.job :=
    State.broadcastsOnly_set rfl ⟨rfl, rfl, rfl⟩ fun x hx => .inl (hidle x hx)
  have hmade : (s.bcastMade op seq e).broadcastsOnly (s.rd Dict.bcastTree) seq op e.job := by
    unfold State.bcastMade
    split
    · exact hentered
    · exact hentered.issueNow rfl rfl rfl hop4
  exact (hmade.completeBcasts hop2).grow (.bcastSettled _)

/-- A broadcast that is written while an epoch issued before it is not yet applied waits behind the others. -/
theorem State.bcastSettled_held (hahead : frameGt (s.rd Dict.epochLastIssued) (s.rd Dict.memberEpoch) = true) :
    (s.bcastMade op seq e).bcastSettled.broadcasts (s.rd Dict.bcastTree) seq op e.job ∧
    (s.bcastMade op seq e).bcastSettled.bar.heldIssues = s.bar.heldIssues ++ [s.bcastWritten op seq] := by
  have hmade : s.bcastMade op seq e = (s.bcastEntered op seq e).setBar
      { (s.bcastEntered op seq e).bar with heldIssues := s.bar.heldIssues ++ [s.bcastWritten op seq] } := if_pos hahead
  have hnone : (s.bcastMade op seq e).completeBcasts = s.bcastMade op seq e := by
    refine State.completeBcasts_idle fun x hx => ?_
    rw [hmade] at hx
    have hx : x ∈ Tbl.set s.bar.trees (s.rd Dict.bcastTree) (e.written op seq) := hx
    rcases Tbl.eq_or_mem_of_mem_set hx with rfl | hx
    · exact .inr rfl
    · exact hidle x hx
  have hgrow := TreesGrow.bcastSettled (s.bcastMade op seq e)
  rw [hnone, hmade] at hgrow
  rw [hmade]
  exact ⟨State.broadcasts.grow ⟨e.written op seq, Tbl.get?_set_same .., rfl, rfl, rfl⟩ hgrow, hgrow.1⟩

end

/-! ### BCAST_ISSUE (09 R191) -/

/-- The write of BCAST_ISSUE is answered by the code of the operation that BCAST_OP names, and leaves what that operation leaves. -/
theorem State.serveBcastOp_effect {u t : State} {op code : Nat} (hserves : u.serves Dict.bcastIssue) (hop : u.rd Dict.bcastOp = op)
    (hknown : op = 1 ∨ op = 2 ∨ op = 3) (hact : u.granted.issueBcast op = (t, code)) (rq : Requester) :
    (State.serveBcastOp op rq u).cmdCode Dict.bcastIssue = code ∧ (State.serveBcastOp op rq u).bar = t.bar := by
  have hop' : u.granted.rd Dict.bcastOp = op := (u.rd_granted_developer (by decide) 0).trans hop
  rw [State.serveBcastOp, if_pos hop, State.serveBcastIssue]
  obtain ⟨hcode, hbar, -⟩ := State.serveCmd_bar (t := t) (code := code) (act := fun s =>
    let op := s.rd Dict.bcastOp
    if op = 1 ∨ op = 2 ∨ op = 3 then s.issueBcast op else (s.drawn, s.freeVal % 256)) hserves
    (by
      dsimp only
      rw [hop', if_pos hknown, hact]) rq
  exact ⟨hcode, hbar⟩

section
variable {dt : Nat} {rq : Requester} {s u : State} (hu : u = s.elapse dt) (hserves : u.serves Dict.bcastIssue)
  (htree : u.rd Dict.bcastTree < 0xFFF) (hidle : ∀ e ∈ u.bar.trees, e.2.complete = true ∨ e.2.issued = false)
include hu hserves htree hidle

theorem bcastIssueJobStart_completes (hop : u.rd Dict.bcastOp = 1) (hnone : Tbl.get? u.bar.trees (u.rd Dict.bcastTree) = none) :
    Does (.bcastIssueJobStart dt rq) s (fun t => t.cmdCode Dict.bcastIssue = 0 ∧
      ∃ x, Tbl.get? t.bar.trees (u.rd Dict.bcastTree) = some x ∧ x.seq = some 0 ∧ x.op = 1 ∧ x.job = u.rd Dict.bcastJob) := by
  have hkept : u.granted.rd Dict.bcastTree = u.rd Dict.bcastTree := u.rd_granted_developer (by decide) 0
  have hjob : u.granted.rd Dict.bcastJob = u.rd Dict.bcastJob := u.rd_granted_developer (by decide) 0
  have hact := State.issueBcast_start (s := u.granted) (hkept ▸ htree) (by rw [hkept]; exact hnone)
  obtain ⟨hcode, hbar⟩ := State.serveBcastOp_effect hserves hop (.inl rfl) hact rq
  have hlast := State.bcastSettled_broadcasts (s := u.granted) (op := 1) (seq := 0) (e := u.granted.startTree) hidle (by decide) (by decide)
  refine ⟨_, congrArg Host.Outcome.next (State.asked_from hu hserves.1 ..), hcode, ?_⟩
  rw [State.within_bar, hbar, ← hkept, ← hjob]
  exact hlast

theorem bcastIssueHostMessage_completes {e : Tree} (hop : u.rd Dict.bcastOp = 3)
    (hsome : Tbl.get? u.bar.trees (u.rd Dict.bcastTree) = some e) (hjob : e.job = u.rd Dict.bcastJob) (hcomplete : e.complete = true) :
    Does (.bcastIssueHostMessage dt rq) s (fun t => t.cmdCode Dict.bcastIssue = 0 ∧
      ∃ x, Tbl.get? t.bar.trees (u.rd Dict.bcastTree) = some x ∧ x.seq = some ((e.seq.getD 0 + 1) % 65536) ∧ x.op = 3) := by
  have hkept : u.granted.rd Dict.bcastTree = u.rd Dict.bcastTree := u.rd_granted_developer (by decide) 0
  have hjob' : e.job = u.granted.rd Dict.bcastJob := hjob.trans (u.rd_granted_developer (by decide) 0).symm
  have hact := State.issueBcast_next (s := u.granted) (op := 3) (hkept ▸ htree) (by rw [hkept]; exact hsome) (by decide) hjob' hcomplete
  obtain ⟨hcode, hbar⟩ := State.serveBcastOp_effect hserves hop (.inr (.inr rfl)) hact rq
  obtain ⟨x, hx, hseq, hxop, -⟩ := State.bcastSettled_broadcasts (s := u.granted) (op := 3) (seq := (e.seq.getD 0 + 1) % 65536) (e := e)
    hidle (by decide) (by decide)
  refine ⟨_, congrArg Host.Outcome.next (State.asked_from hu hserves.1 ..), hcode, x, ?_, hseq, hxop⟩
  rw [State.within_bar, hbar, ← hkept]
  exact hx

theorem bcastIssueJobTeardown_completes {e : Tree} (hop : u.rd Dict.bcastOp = 2)
    (hsome : Tbl.get? u.bar.trees (u.rd Dict.bcastTree) = some e) (hjob : e.job = u.rd Dict.bcastJob) (hcomplete : e.complete = true)
    (hahead : frameGt (u.rd Dict.epochLastIssued) (u.rd Dict.memberEpoch) = true) :
    Does (.bcastIssueJobTeardown dt rq) s (fun t => t.cmdCode Dict.bcastIssue = 0 ∧
      t.bar.heldIssues.length = u.bar.heldIssues.length + 1 ∧
      ∃ x, Tbl.get? t.bar.trees (u.rd Dict.bcastTree) = some x ∧ x.seq = some ((e.seq.getD 0 + 1) % 65536) ∧ x.op = 2) := by
  have hkept : u.granted.rd Dict.bcastTree = u.rd Dict.bcastTree := u.rd_granted_developer (by decide) 0
  have hjob' : e.job = u.granted.rd Dict.bcastJob := hjob.trans (u.rd_granted_developer (by decide) 0).symm
  have hact := State.issueBcast_next (s := u.granted) (op := 2) (hkept ▸ htree) (by rw [hkept]; exact hsome) (by decide) hjob' hcomplete
  obtain ⟨hcode, hbar⟩ := State.serveBcastOp_effect hserves hop (.inr (.inl rfl)) hact rq
  obtain ⟨⟨x, hx, hseq, hxop, -⟩, hheld⟩ := State.bcastSettled_held (s := u.granted) (op := 2) (seq := (e.seq.getD 0 + 1) % 65536) (e := e)
    hidle (by rw [u.rd_granted_developer (by decide), u.rd_granted_developer (by decide)]; exact hahead)
  refine ⟨_, congrArg Host.Outcome.next (State.asked_from hu hserves.1 ..), hcode, ?_, x, ?_, hseq, hxop⟩
  · rw [State.within_bar, hbar, hheld]
    exact List.length_append
  · rw [State.within_bar, hbar, ← hkept]
    exact hx

end

/-! ### TEARDOWN_DONE (09 R192) -/

theorem State.ackBcast_leaf (s : State) (job tree seq : Nat) :
    (s.ackBcast job tree seq).bar.leaf = { s.bar.leaf with lastSeq := Tbl.set s.bar.leaf.lastSeq tree (seq, true) } :=
  congrArg Barriers.leaf (MessagedFrom.enqueueUp (by decide : 1 < 8) ..).bar

/-- A leaf with no start held goes IDLE when its teardown is done, and has acknowledged it. -/
theorem State.teardownDone_effect {s : State} {job tree seq : Nat} (hteardown : s.bar.leaf.teardown = some (job, tree, seq))
    (hstart : s.bar.leaf.heldStart = none) :
    s.teardownDone.stores Dict.jobState 0 0 0 ∧ s.teardownDone.bar.leaf.teardown = none ∧ s.teardownDone.bar.leaf.tree = none ∧
    Tbl.get? s.teardownDone.bar.leaf.lastSeq tree = some (seq, true) := by
  have hleaf := s.ackBcast_leaf job tree seq
  unfold State.teardownDone
  rw [hteardown]
  dsimp only
  rw [hleaf, hstart]
  dsimp only
  generalize hs1 : State.setLeaf (s.ackBcast job tree seq) _ = s1
  obtain ⟨_, _, hboundary⟩ := (s1.wr Dict.jobState 0).testBoundary_only
  rw [hboundary, ← hs1]
  exact ⟨State.stores_wr _ Dict.jobState 0 0 0, rfl, rfl, Tbl.get?_set_same ..⟩

/-- On a core that runs, what the host offers acts on the state that time has brought about. -/
theorem State.fromHost_from {dt : Nat} {s u : State} (hu : u = s.elapse dt) (hon : u.coreOn = true) (src : Nat) (i : Instr)
    (f : State → State) : s.fromHost dt src i f = (f u).within s := by
  rw [hu] at hon ⊢
  exact s.fromHost_of_on dt src i f hon

theorem teardownDone_completes {dt job tree seq : Nat} {s u : State} (hu : u = s.elapse dt) (hon : u.coreOn = true) (hdie : u.isDie = true)
    (hteardown : u.bar.leaf.teardown = some (job, tree, seq)) (hstart : u.bar.leaf.heldStart = none) :
    Does (.teardownDone dt job) s (fun t => t.rd Dict.jobState = 0 ∧ t.bar.leaf.teardown = none ∧ t.bar.leaf.tree = none ∧
      Tbl.get? t.bar.leaf.lastSeq tree = some (seq, true)) := by
  obtain ⟨hidle, heffect⟩ := State.teardownDone_effect (s := u.touch) hteardown hstart
  have hmine : u.bar.leaf.teardown.any (fun t => t.1 == job) = true := by simp [hteardown]
  have hexec : exec (.teardownDone dt job) s = .next (u.touch.teardownDone.within s) := by
    refine congrArg Host.Outcome.next ((State.fromHost_from hu hon 3 _ _).trans ?_)
    simp only [hdie, hmine, Bool.not_true, Bool.false_eq_true, if_false, if_true]
  exact ⟨_, hexec, hidle.rd_within s, heffect⟩

/-- Settles O39: an epoch's segments, once kept or applied, stand in whatever they make possible, and a broadcast that is written is the
last one of its tree whatever is completed or released after it. -/
theorem epochCommandsComplete : Obligations.EpochCommandsComplete := by
  unfold Obligations.EpochCommandsComplete
  refine ⟨?_, ?_, ?_, ?_, ?_, ?_⟩
  · intro dt p epoch level ff seg segs es s u m hu hon hup hdown hm hepoch hnew hidle hheld
    subst hm
    exact epochSegment_completes hu hon hup hdown hepoch hnew hidle hheld
  · intro dt s u m ff seg segs resync job member hu hon hdie hnext hbody
    exact epochApplied_leaf_completes hu hon hdie hnext hbody
  · intro dt s u m ff es hu hon hdie hnext hbody
    exact epochApplied_chip_completes hu hon hdie hnext hbody
  · intro dt rq s u n hu hserves hn
    subst hn
    exact epochIssue_completes hu hserves
  · intro dt rq s u tree hu hserves htree hlt hidle
    subst htree
    exact ⟨bcastIssueJobStart_completes hu hserves hlt hidle, fun e => bcastIssueHostMessage_completes hu hserves hlt hidle,
      fun e => bcastIssueJobTeardown_completes hu hserves hlt hidle⟩
  · intro dt job tree seq s u hu hon hdie hteardown hstart
    exact teardownDone_completes hu hon hdie hteardown hstart

end Sys2Proof.Machine
end

section
/-! Evidence of silent errors (chapter 10): how its commands reach a core that runs, and what the operations that it shares with other
chapters leave of it. -/

namespace Sys2Proof.Machine

open Sys2Proof

-- one theorem after the other: each theorem that waits for the kernel would hold a thread
set_option Elab.async false

@[simp] theorem State.within_ev (t s : State) : (t.within s).ev = t.ev := rfl
@[simp] theorem State.within_unmatchedOf (t s : State) (k : Nat) : (t.within s).unmatchedOf k = t.unmatchedOf k := rfl

@[simp] theorem State.granted_ev (s : State) : s.granted.ev = s.ev := rfl

/-- An object whose Default column is the same in every build and role reads through `within` as before it. -/
theorem State.rd_within {o : Ob} {m d : Nat} (hinit : ∀ b r, o.init b r m = d) (t s : State) (j : Nat) :
    (t.within s).rd o m j = t.rd o m j := by
  show Tbl.getD t.regs (o.key m j) (o.init s.build s.role m) = Tbl.getD t.regs (o.key m j) (o.init t.build t.role m)
  rw [hinit, hinit]

/-! ### Commands that find the core running -/

section
variable {c : Instr} {dt : Nat} {s u : State} {P : State → Prop} (hu : u = s.elapse dt)
include hu

/-- A request completes with what its target makes of it. -/
theorem Does.of_asked {rq : Requester} {r : DapReq} {f : State → State} (hexec : exec c s = .next (s.asked dt rq r f))
    (hon : u.coreOn = true) (hP : P ((f u).within s)) : Does c s P :=
  ⟨_, hexec.trans (congrArg Host.Outcome.next (State.asked_from hu hon rq r f)), hP⟩

/-- A core command completes with its effect. -/
theorem Does.of_core {f : State → State} (hexec : exec c s = .next (s.core dt f)) (hon : u.coreOn = true) (hP : P ((f u).within s)) :
    Does c s P :=
  ⟨_, hexec.trans (congrArg Host.Outcome.next (State.core_from hu hon f)), hP⟩

end

/-! ### Requests (15 R323) -/

theorem State.answerWrite_ev (s : State) (rq : Requester) (o : Ob) (m st co : Nat) : (s.answerWrite rq o m st co).ev = s.ev := by
  obtain ⟨_, _, _, h⟩ := s.answerWrite_only rq o m st co
  rw [h]

theorem State.answerWrite_regs (s : State) (rq : Requester) (o : Ob) (m st co : Nat) : (s.answerWrite rq o m st co).regs = s.regs := by
  obtain ⟨_, _, _, h⟩ := s.answerWrite_only rq o m st co
  rw [h]

/-- A response goes behind the messages that wait for the host, or it does not go to the host. -/
theorem State.answerWrite_waiting (s : State) (rq : Requester) (o : Ob) (m st co : Nat) :
    ∃ more, (s.answerWrite rq o m st co).mb.waiting = s.mb.waiting ++ more := by
  unfold State.answerWrite State.answer State.respond
  split
  next => exact ⟨_, rfl⟩
  next =>
    obtain ⟨_, h⟩ := s.enqueue_only _ 2 _
    rw [h]
    exact ⟨[], (List.append_nil _).symm⟩
  next => exact ⟨[], (List.append_nil _).symm⟩

/-- A command object whose action completes within the write: its code is that of the action, what the action does to the evidence and
the objects stands, and the response goes behind the messages that wait for the host. -/
theorem State.serveCmd_evidence {u t : State} {o : Ob} {m code : Nat} {act : State → State × Nat} (h : u.serves o m)
    (hact : act u.granted = (t, code)) (rq : Requester) :
    (State.serveCmd rq o m act u).cmdCode o m = code ∧ (State.serveCmd rq o m act u).ev = t.ev ∧
    (State.serveCmd rq o m act u).regs = t.regs ∧ ∃ more, (State.serveCmd rq o m act u).mb.waiting = t.mb.waiting ++ more := by
  have hserved : State.serveCmd rq o m act u = (t.setCode o code m).answerWrite rq o m 0 code := by
    rw [State.serveCmd, State.serveWrite_of_serves h, hact]
  refine ⟨?_, ?_, ?_, ?_⟩
  · exact (State.serveCmd_of_serves h rq act).1.trans (congrArg Prod.snd hact)
  · rw [hserved, State.answerWrite_ev, State.setCode_ev]
  · rw [hserved, State.answerWrite_regs, State.setCode_regs]
  · rw [hserved]
    exact (t.setCode o code m).answerWrite_waiting rq o m 0 code

/-! ### Messages, records and mismatches -/

theorem State.stores_bumpSat (s : State) (o : Ob) (m j n : Nat) :
    (s.bumpSat o m j n).stores o m j (satTo (8 * o.ty.bytes) (s.rd o m j + n)) := by
  have h := s.stores_wr o (satTo (8 * o.ty.bytes) (s.rd o m j + n)) m j
  rwa [Nat.mod_eq_of_lt (satTo_lt _ _)] at h

theorem MessagedFrom.ev {s t : State} (h : MessagedFrom s t) : t.ev = s.ev := by
  obtain ⟨⟨_, _, _, _, _, _, _, _, _, rfl⟩, -⟩ := h
  rfl

theorem MessagedFrom.ce {s t : State} (h : MessagedFrom s t) : t.ce = s.ce := by
  obtain ⟨⟨_, _, _, _, _, _, _, _, _, rfl⟩, -⟩ := h
  rfl

theorem MessagedFrom.time {s t : State} (h : MessagedFrom s t) : t.time = s.time := by
  obtain ⟨⟨_, _, _, _, _, _, _, _, _, rfl⟩, -⟩ := h
  rfl

/-- A mismatch of the block is noted in the verdict stage and counted, and nothing else changes (08 R166, R167). -/
theorem State.countMismatch_only (s : State) :
    ∃ rg v, s.countMismatch = { s with regs := rg, ver := v } ∧ v.mismatched = true := by
  unfold State.countMismatch
  extract_lets _ s1
  split
  · split
    · unfold State.binMismatch
      split <;> exact ⟨_, _, rfl, rfl⟩
    · exact ⟨_, _, rfl, rfl⟩
  · exact ⟨_, _, rfl, rfl⟩

/-- A mismatch counts in MISMATCHES, and in COND_UNBINNED where its frame falls in no cell. -/
theorem KeepsObjects.countMismatch (s : State) :
    KeepsObjects (fun k => k ≠ Dict.mismatches.key 0 0 ∧ k ≠ Dict.condUnbinned.key 0 0) s s.countMismatch := by
  unfold State.countMismatch
  extract_lets _ s1
  have hs1 : KeepsObjects (fun k => k ≠ Dict.mismatches.key 0 0 ∧ k ≠ Dict.condUnbinned.key 0 0) s s1 :=
    KeepsObjects.bumpSat { s with ver := { s.ver with mismatched := true, mism := s.ver.mism + 1 } } Dict.mismatches 0 0 1 fun h => h.1 rfl
  split
  · split
    · unfold State.binMismatch
      split
      · exact hs1.trans (KeepsObjects.bumpSat s1 Dict.condUnbinned 0 0 1 fun h => h.2 rfl)
      · exact hs1
    · exact hs1
  · exact hs1

/-! ### Digest records (10 R211, R212) -/

/-- A digest record enters the ring of the last 64. -/
theorem State.emitDigest_ev (s : State) (d : DigestRec) : (s.emitDigest d).ev =
    { s.ev with ring := (s.ev.ring ++ [d]).drop ((s.ev.ring ++ [d]).length - 64) } :=
  (MessagedFrom.enqueueUp (by decide) ..).ev

theorem State.emitDigest_ce (s : State) (d : DigestRec) : (s.emitDigest d).ce = s.ce := (MessagedFrom.enqueueUp (by decide) ..).ce

theorem State.emitDigest_newest (s : State) (d : DigestRec) : (s.emitDigest d).ev.ring.getLast? = some d := by
  have hlen : (s.ev.ring ++ [d]).length - 64 ≤ s.ev.ring.length := by
    rw [List.length_append, List.length_singleton]
    omega
  rw [State.emitDigest_ev]
  show ((s.ev.ring ++ [d]).drop _).getLast? = some d
  rw [List.drop_append_of_le_length hlen, List.getLast?_concat]

/-- A digest record is counted in DIGESTS_EMITTED, and its message writes no quiet object. -/
theorem KeepsObjects.emitDigest (s : State) (d : DigestRec) :
    KeepsObjects (fun k => quietObject k ∧ k ≠ Dict.digestsEmitted.key 0 0) s (s.emitDigest d) := by
  unfold State.emitDigest
  extract_lets ring
  refine .trans (KeepsObjects.bumpSat (s.setEv _) Dict.digestsEmitted 0 0 1 fun h => h.2 rfl) ?_
  exact (MessagedFrom.enqueueUp (by decide) ..).2.mono fun _ h => h.1

end Sys2Proof.Machine
end

section
/-! The command-event port's evidence messages, and a line at a loupe (10 R207 to R209, R216, R217, R225, R227). -/

namespace Sys2Proof.Machine

open Sys2Proof

-- one theorem after the other: each theorem that waits for the kernel would hold a thread
set_option Elab.async false

/-! ### The command-event port takes a message (18 R370) -/

theorem State.ceTransfer_of_idle {s : State} (h : s.ce.offered = []) : s.ceTransfer = s := by
  have hce : { s.ce with inQ := s.ce.inQ ++ [], offered := [] } = s.ce := by rw [List.append_nil, ← h]
  unfold State.ceTransfer
  extract_lets room
  rw [h, List.take_nil, List.drop_nil, List.map_nil, hce]

theorem State.ceResume_of_idle {s : State} (hq : s.ce.inQ = []) (hoffered : s.ce.offered = []) (n : Nat) : State.ceResume n s = s := by
  cases n with
  | zero => rfl
  | succ n =>
    rw [State.ceResume, State.ceTransfer_of_idle hoffered]
    simp only [hq]

/-- The host offers a message. -/
def State.offers (s : State) (m : CeMsg) : State := { s with ce := { s.ce with offered := s.ce.offered ++ [m] } }

/-- A port that is free takes what the host offers and processes it at once. -/
theorem State.ceServe_of_free {s v : State} {m : CeMsg} (hoffered : s.ce.offered = []) (hq : s.ce.inQ = [])
    (hroom : s.ce.outQ.length < 64) (hv : s.ceProcess m s.time.now = v) (hvq : v.ce.inQ = []) (hvoffered : v.ce.offered = []) :
    (s.offers m).ceServe = v := by
  have hfuel : (s.offers m).ceServe = State.ceResume (1 + 1) (s.offers m) := by simp [State.ceServe, State.offers, hq, hoffered]
  have htransfer : (s.offers m).ceTransfer = { s with ce := { s.ce with inQ := [(m, s.time.now)] } } := by
    simp [State.ceTransfer, State.offers, hq, hoffered]
  have htaken : { s.ce with inQ := [] } = s.ce := by rw [← hq]
  rw [hfuel, State.ceResume, htransfer]
  simp only
  rw [if_neg (Nat.not_le.mpr hroom), htaken, hv, State.ceResume_of_idle hvq hvoffered]

/-- On a port that is free, a message that touches nothing of the port completes with its effect. -/
theorem Does.of_ceTake {c : Instr} {dt : Nat} {m : CeMsg} {s u v : State} {P : State → Prop} (hu : u = s.elapse dt) (hfree : u.ceFree)
    (hexec : exec c s = .next (s.ceTake dt m)) (hv : u.touch.ceProcess m u.time.now = v) (hce : v.ce = u.ce) (hP : P (v.within s)) :
    Does c s P := by
  obtain ⟨hdie, hon, hoffered, hq, hroom⟩ := hfree
  have hserve : (u.touch.offers m).ceServe = v :=
    State.ceServe_of_free hoffered hq hroom hv (by rw [hce, hq]) (by rw [hce, hoffered])
  have htake : s.ceTake dt m = (u.touch.offers m).ceServe.within s := by
    unfold State.ceTake State.after
    simp only [← hu, hdie, hon, Bool.not_true, Bool.false_eq_true, if_false, if_true]
    rfl
  rw [hserve] at htake
  exact ⟨_, hexec.trans (congrArg Host.Outcome.next htake), hP⟩

/-! ### Tags (10 R208, R209, Table 10-4) -/

theorem State.tagOpen_of_free {s : State} {tag : Nat} (h : Tbl.get? s.ev.tags (tag % 4096) = none) (base : Nat) :
    s.tagOpen tag base = s.setEv { s.ev with
      tags := Tbl.set s.ev.tags (tag % 4096) { tag := tag, base := base, incomplete := s.loupeReset } } := by
  simp only [State.tagOpen, h, Option.isSome_none, Bool.false_eq_true, if_false]

/-- TAG_CLOSE of an open slot frees it, advances ORDINAL and emits the LAYER record. -/
theorem State.tagClose_of_open {s : State} {x : TagSlot} (h : Tbl.get? s.ev.tags (x.tag % 4096) = some x) :
    s.tagClose x.tag = ((s.setEv { s.ev with tags := Tbl.del s.ev.tags (x.tag % 4096) }).bump Dict.overlayOrdinal).emitDigest
      { s.digestNow 0 x.taps (x.tag * 65536) (s.rd Dict.overlayOrdinal) x.incomplete with overlay := s.ev.armed } := by
  have hfound : (Tbl.get? s.ev.tags (x.tag % 4096)).filter (fun t => t.tag == x.tag) = some x := by simp [h]
  simp only [State.tagClose, hfound, Option.isSome_some, if_true]

theorem tagOpen_completes {dt tag base : Nat} {s u : State} (hu : u = s.elapse dt) (hfree : u.ceFree)
    (hnone : Tbl.get? u.ev.tags (tag % 4096) = none) : Does (.tagOpen dt tag base) s (fun t => t.ev =
      { u.ev with tags := Tbl.set u.ev.tags (tag % 4096) { tag := tag, base := base, incomplete := u.loupeReset } }) :=
  Does.of_ceTake hu hfree rfl (State.tagOpen_of_free (s := u.touch) hnone base) rfl rfl

theorem tagClose_completes {dt : Nat} {s u : State} {x : TagSlot} (hu : u = s.elapse dt) (hfree : u.ceFree)
    (hopen : Tbl.get? u.ev.tags (x.tag % 4096) = some x) : Does (.tagClose dt x.tag) s (fun t =>
      Tbl.get? t.ev.tags (x.tag % 4096) = none ∧
      t.rd Dict.overlayOrdinal = (u.rd Dict.overlayOrdinal + 1) % 2 ^ (8 * Dict.overlayOrdinal.ty.bytes) ∧
      ∃ d, t.ev.ring.getLast? = some d ∧ d.kind = 0 ∧ d.digest = (sumTaps x.taps).1 ∧ d.lines = (sumTaps x.taps).2 ∧
        d.ordinal = u.rd Dict.overlayOrdinal ∧ d.incomplete = x.incomplete) := by
  refine Does.of_ceTake hu hfree rfl (State.tagClose_of_open (s := u.touch) hopen) (State.emitDigest_ce ..) ⟨?_, ?_, ?_⟩
  · rw [State.within_ev, State.emitDigest_ev]
    exact Tbl.get?_del_same ..
  · refine State.stores.rd_within (State.stores.of_keeps ?_ (KeepsObjects.emitDigest ..) (by decide)) s
    exact State.stores_wr _ Dict.overlayOrdinal _ 0 0
  · exact ⟨_, State.emitDigest_newest .., rfl, rfl, rfl, rfl, rfl⟩

/-! ### Brackets (10 R216, R217, Table 10-5) -/

theorem State.bktOpen_of_armed {s : State} {slot : Nat} {b : BracketSlot} (h : Tbl.get? s.ev.bracket slot = some b) (side base : Nat) :
    s.bktOpen slot side base = s.setEv { s.ev with
      bracket := Tbl.set s.ev.bracket slot
        (if side = 0 then { b with orig := { b.orig with base := base } } else { b with dup := { b.dup with base := base } }) } := by
  simp only [State.bktOpen, h]

/-- BKT_CLOSE of the original's side: with the duplicate's closed the slot is compared, and otherwise it waits for that. -/
theorem State.bktClose_orig {s : State} {slot : Nat} {b : BracketSlot} (h : Tbl.get? s.ev.bracket slot = some b) (engine : Nat) :
    s.bktClose slot 0 engine = if b.dup.closed then s.bracketCompare slot { b with orig := { b.orig with closed := true } }
      else s.setEv { s.ev with bracket := Tbl.set s.ev.bracket slot { b with orig := { b.orig with closed := true } } } := by
  simp only [State.bktClose, h, if_true, Bool.true_and]

/-- The evidence once a slot has been compared: it is free again, and the bound's terms have advanced (10 R217, R221). -/
def Evidence.compare (e : Evidence) (slot : Nat) (differ : Bool) : Evidence :=
  { e with bracket := Tbl.del e.bracket slot, compared := (e.compared + 1) % 2 ^ 64
           mismatched := if differ then (e.mismatched + 1) % 2 ^ 32 else e.mismatched }

theorem State.bracketCompare_of_equal {s : State} {b : BracketSlot} (h : sumTaps b.orig.taps = sumTaps b.dup.taps) (slot : Nat) :
    (s.bracketCompare slot b).ev = s.ev.compare slot false ∧ (s.bracketCompare slot b).ce = s.ce := by
  unfold State.bracketCompare
  extract_lets o d s1 _ s2
  rw [if_pos h]
  exact ⟨rfl, rfl⟩

/-- Sides that differ are a mismatch of the block beside the record of it. -/
theorem State.bracketCompare_of_differing {s : State} {b : BracketSlot} (h : sumTaps b.orig.taps ≠ sumTaps b.dup.taps) (slot : Nat) :
    (s.bracketCompare slot b).ev = s.ev.compare slot true ∧ (s.bracketCompare slot b).ce = s.ce ∧
    (s.bracketCompare slot b).ver.mismatched = true := by
  unfold State.bracketCompare
  extract_lets o d s1 _ s2 _ s3
  rw [if_neg h]
  obtain ⟨_, _, hcount, hmismatched⟩ :=
    (s3.raiseAlarm recBracketMismatch (s3.bracketPayload b b.dupEngine (o.2 != d.2))).countMismatch_only
  have hraised : MessagedFrom s3 (s3.raiseAlarm recBracketMismatch (s3.bracketPayload b b.dupEngine (o.2 != d.2))) := .raise ..
  rw [hcount]
  exact ⟨hraised.ev, hraised.ce, hmismatched⟩

theorem bktOpen_completes {dt slot side base : Nat} {s u : State} {b : BracketSlot} (hu : u = s.elapse dt) (hfree : u.ceFree)
    (hb : Tbl.get? u.ev.bracket slot = some b) : Does (.bktOpen dt slot side base) s (fun t => Tbl.get? t.ev.bracket slot =
      some (if side = 0 then { b with orig := { b.orig with base := base } } else { b with dup := { b.dup with base := base } })) :=
  Does.of_ceTake hu hfree rfl (State.bktOpen_of_armed (s := u.touch) hb side base) rfl (Tbl.get?_set_same ..)

section
variable {dt slot engine : Nat} {s u : State} {b : BracketSlot} (hu : u = s.elapse dt) (hfree : u.ceFree)
  (hb : Tbl.get? u.ev.bracket slot = some b)
include hu hfree hb

theorem bktClose_waits (hopen : b.dup.closed = false) : Does (.bktClose dt slot 0 engine) s (fun t =>
    Tbl.get? t.ev.bracket slot = some { b with orig := { b.orig with closed := true } }) := by
  have hclose := State.bktClose_orig (s := u.touch) hb engine
  rw [hopen, if_neg Bool.false_ne_true] at hclose
  exact Does.of_ceTake hu hfree rfl hclose rfl (Tbl.get?_set_same ..)

theorem bktClose_equal (hclosed : b.dup.closed = true) (hsum : sumTaps b.orig.taps = sumTaps b.dup.taps) :
    Does (.bktClose dt slot 0 engine) s (fun t => Tbl.get? t.ev.bracket slot = none ∧
      t.ev.compared = (u.ev.compared + 1) % 2 ^ 64 ∧ t.ev.mismatched = u.ev.mismatched) := by
  have hclose := State.bktClose_orig (s := u.touch) hb engine
  rw [hclosed, if_pos rfl] at hclose
  obtain ⟨hev, hce⟩ := State.bracketCompare_of_equal (s := u.touch) (b := { b with orig := { b.orig with closed := true } }) hsum slot
  refine Does.of_ceTake hu hfree rfl hclose hce ?_
  rw [State.within_ev, hev]
  exact ⟨Tbl.get?_del_same .., rfl, rfl⟩

theorem bktClose_differing (hclosed : b.dup.closed = true) (hsum : sumTaps b.orig.taps ≠ sumTaps b.dup.taps) :
    Does (.bktClose dt slot 0 engine) s (fun t => Tbl.get? t.ev.bracket slot = none ∧
      t.ev.compared = (u.ev.compared + 1) % 2 ^ 64 ∧ t.ev.mismatched = (u.ev.mismatched + 1) % 2 ^ 32 ∧ t.ver.mismatched = true) := by
  have hclose := State.bktClose_orig (s := u.touch) hb engine
  rw [hclosed, if_pos rfl] at hclose
  obtain ⟨hev, hce, hver⟩ :=
    State.bracketCompare_of_differing (s := u.touch) (b := { b with orig := { b.orig with closed := true } }) hsum slot
  refine Does.of_ceTake hu hfree rfl hclose hce ?_
  rw [State.within_ev, hev]
  exact ⟨Tbl.get?_del_same .., rfl, rfl, hver⟩

/-- DUP_DECLINE frees an armed slot and counts it. -/
theorem dupDecline_completes : Does (.dupDecline dt slot) s (fun t => Tbl.get? t.ev.bracket slot = none ∧
    t.rd Dict.bracketDeclined = satTo (8 * Dict.bracketDeclined.ty.bytes) (u.rd Dict.bracketDeclined + 1)) := by
  have hdecline : u.touch.dupDecline slot = (u.touch.freeSlotB slot).bumpSat Dict.bracketDeclined := by
    rw [State.dupDecline, State.touch_ev, hb, Option.isSome_some, if_pos rfl]
  refine Does.of_ceTake hu hfree rfl hdecline rfl ⟨Tbl.get?_del_same .., ?_⟩
  exact (State.stores_bumpSat (u.touch.freeSlotB slot) Dict.bracketDeclined 0 0 1).rd_within s

end

/-! ### Checkpoint shards (10 R227, R228) -/

theorem State.shardRange_of_staged {s : State} {slot : Nat} {x : Nat × Bool} (h : Tbl.get? s.ev.staged slot = some x)
    (length base : Nat) : s.shardRange slot length base = s.setEv { s.ev with
      staged := Tbl.del s.ev.staged slot
      shards := Tbl.set s.ev.shards slot { id := x.1, write := x.2, base := base, length := length, incomplete := s.loupeReset } } := by
  simp only [State.shardRange, h, Option.isNone_some, Bool.false_eq_true, if_false]

theorem State.shardClose_of_open {s : State} {slot : Nat} {x : ShardSlot} (h : Tbl.get? s.ev.shards slot = some x) (done : Bool) :
    s.shardClose slot done = ((s.setEv { s.ev with shards := Tbl.del s.ev.shards slot }).bumpSat Dict.shardDigests).emitDigest
      { s.digestNow (if x.write then 2 else 1) x.taps x.id 0 x.incomplete with
        overtaken := x.overtaken && !x.write, copyDone := done } := by
  simp only [State.shardClose, h]

theorem shardOpen_completes {dt slot dir id : Nat} {s u : State} (hu : u = s.elapse dt) (hfree : u.ceFree) :
    Does (.shardOpen dt slot dir id) s (fun t => t.ev = { u.ev with staged := Tbl.set u.ev.staged slot (id, dir == 1) }) :=
  Does.of_ceTake hu hfree rfl rfl rfl rfl

theorem shardRange_completes {dt slot length base : Nat} {s u : State} {x : Nat × Bool} (hu : u = s.elapse dt) (hfree : u.ceFree)
    (hstaged : Tbl.get? u.ev.staged slot = some x) : Does (.shardRange dt slot length base) s (fun t =>
      Tbl.get? t.ev.staged slot = none ∧ Tbl.get? t.ev.shards slot =
        some { id := x.1, write := x.2, base := base, length := length, incomplete := u.loupeReset }) :=
  Does.of_ceTake hu hfree rfl (State.shardRange_of_staged (s := u.touch) hstaged length base) rfl
    ⟨Tbl.get?_del_same .., Tbl.get?_set_same ..⟩

theorem shardClose_completes {dt slot : Nat} {done : Bool} {s u : State} {x : ShardSlot} (hu : u = s.elapse dt) (hfree : u.ceFree)
    (hopen : Tbl.get? u.ev.shards slot = some x) : Does (.shardClose dt slot done) s (fun t => Tbl.get? t.ev.shards slot = none ∧
      ∃ d, t.ev.ring.getLast? = some d ∧ d.kind = (if x.write then 2 else 1) ∧ d.name = x.id ∧ d.copyDone = done ∧
        d.incomplete = x.incomplete ∧ d.digest = (sumTaps x.taps).1) := by
  refine Does.of_ceTake hu hfree rfl (State.shardClose_of_open (s := u.touch) hopen done) (State.emitDigest_ce ..) ⟨?_, ?_⟩
  · rw [State.within_ev, State.emitDigest_ev]
    exact Tbl.get?_del_same ..
  · exact ⟨_, State.emitDigest_newest .., rfl, rfl, rfl, rfl, rfl⟩

/-! ### A checkpoint boundary (10 R225) -/

/-- A table of one entry takes another value under its key. -/
theorem Tbl.set_singleton {α : Type} (k : Nat) (v w : α) : Tbl.set [(k, v)] k w = [(k, w)] := by simp [Tbl.set]

theorem Tbl.del_singleton {α : Type} (k : Nat) (v : α) : Tbl.del [(k, v)] k = [] := by simp [Tbl.del]

theorem State.testBoundary_of_one {s : State} {i : Nat} {e : TestEntry} (htests : s.ev.tests = [(i, e)]) (hpending : e.issued = false) :
    s.testBoundary = s.issueTest (i, e) := by
  simp [State.testBoundary, htests, hpending]

theorem ckptBoundary_completes {dt i : Nat} {s u : State} {e : TestEntry} (hu : u = s.elapse dt) (hfree : u.ceFree)
    (htests : u.ev.tests = [(i, e)]) (hpending : e.issued = false) : Does (.ckptBoundary dt) s (fun t =>
      t.ev.tests = [(i, { e with issued := true })] ∧
      t.mb.waiting = u.mb.waiting ++ [{ door := 2, kind := 0x10, bytes := leBytes 4 (e.engine * 65536 + e.test) }]) := by
  refine Does.of_ceTake hu hfree rfl (State.testBoundary_of_one (s := u.touch) htests hpending) rfl ⟨?_, rfl⟩
  show Tbl.set u.ev.tests i { e with issued := true } = _
  rw [htests, Tbl.set_singleton]

/-! ### A line at a loupe (10 R207) -/

theorem State.lineToTag_of_open {s : State} {x : TagSlot} {l : TapLine} (h : Tbl.get? s.ev.tags (l.tag % 4096) = some x)
    (htag : x.tag = l.tag) (p : Nat) : s.lineToTag p l = s.setEv { s.ev with
      tags := Tbl.set s.ev.tags (l.tag % 4096) { x with taps := enterTap x.taps p (lineHash l.data l.addr x.base) } } := by
  have hfound : (Tbl.get? s.ev.tags (l.tag % 4096)).filter (fun y => y.tag == l.tag) = some x := by simp [h, htag]
  simp only [State.lineToTag, hfound]

/-- A write line that names neither a bracket slot nor a shard slot enters its tag's slot and is checked against the shards. -/
theorem State.lineEnters_of_plain {s : State} {l : TapLine} (hbkt : l.bkt = 0) (hshd : l.shd = 0)
    (hwrite : l.write = true) (p : Nat) : s.lineEnters p l = (s.lineToTag p l).overtakeCheck p l := by
  simp only [State.lineEnters, TapLine.bktValid, TapLine.shdValid, hbkt, hshd, Nat.zero_testBit, hwrite, Bool.and_self,
    Bool.not_true, Bool.false_eq_true, if_false]

theorem State.loupeOn_runs {s : State} {p : Nat} (h : s.loupeOn p = true) :
    s.inReset = false ∧ s.isDie = true ∧ p < s.rd Dict.loupeCount := by
  simp only [State.loupeOn, Bool.and_eq_true, decide_eq_true_eq, Option.isNone_iff_eq_none] at h
  obtain ⟨⟨⟨⟨hdie, -⟩, hbusy⟩, -⟩, hcount⟩ := h
  exact ⟨by rw [State.inReset, hbusy]; rfl, hdie, hcount⟩

/-- A loupe that is on takes the line, whether or not the line wakes the core. -/
theorem loupeLine_of_on {dt p addr tag bkt shd : Nat} {data : Bytes} {write : Bool} {s u : State} (hu : u = s.elapse dt)
    (hon : u.loupeOn p = true) : ∃ pw, exec (.loupeLine dt p addr data write tag bkt shd) s =
      .next (((State.countLine { u with pw := pw } p write).lineEnters p
        { addr := 64 * addr, data := fitBytes 64 data, write := write, tag := tag, bkt := bkt, shd := shd }).within s) := by
  obtain ⟨hrun, hdie, hcount⟩ := State.loupeOn_runs hon
  obtain ⟨pw, hwake⟩ := u.wake_only 5 p 0
  have hon' : State.loupeOn { u with pw := pw } p = true := hon
  refine ⟨{ pw with idleSince := u.time.now }, congrArg (fun t : State => Host.Outcome.next (t.within s)) ?_⟩
  rw [← hu]
  simp only [hrun, hdie, Nat.not_le.mpr hcount, Bool.not_true, decide_false, Bool.or_self, Bool.false_eq_true, if_false, hwake, hon',
    if_true]
  rfl

theorem loupeLine_completes {dt p addr : Nat} {data : Bytes} {s u : State} {x : TagSlot} (hu : u = s.elapse dt)
    (hon : u.loupeOn p = true) (hopen : Tbl.get? u.ev.tags (x.tag % 4096) = some x) :
    Does (.loupeLine dt p addr data true x.tag 0 0) s (fun t =>
      Tbl.get? t.ev.tags (x.tag % 4096) =
        some { x with taps := enterTap x.taps p (lineHash (fitBytes 64 data) (64 * addr) x.base) } ∧
      Tbl.getD t.cnt.chan (2 * p + 1) 0 = (Tbl.getD u.cnt.chan (2 * p + 1) 0 + 64) % 2 ^ 64) := by
  obtain ⟨pw, hexec⟩ := loupeLine_of_on (addr := addr) (tag := x.tag) (bkt := 0) (shd := 0) (data := data) (write := true) hu hon
  refine ⟨_, hexec, ?_⟩
  rw [State.lineEnters_of_plain rfl rfl rfl, State.lineToTag_of_open (x := x) hopen rfl]
  exact ⟨Tbl.get?_set_same .., Tbl.getD_set_same ..⟩

/-- Settles O43: a free port processes each message at once, a closed slot's record is the newest of the ring, and a line that a loupe
takes enters the slot of its tag. -/
theorem evidenceMessagesComplete : Obligations.EvidenceMessagesComplete := by
  unfold Obligations.EvidenceMessagesComplete
  refine ⟨?_, ?_, ?_, ?_, ?_, ?_, ?_, ?_, ?_, ?_⟩
  · intro dt tag base s u hu hfree hnone
    exact tagOpen_completes hu hfree hnone
  · intro dt tag s u x hu hfree hopen htag
    subst htag
    exact tagClose_completes hu hfree hopen
  · intro dt slot base s u b hu hfree hb
    exact ⟨bktOpen_completes (side := 0) hu hfree hb, bktOpen_completes (side := 1) hu hfree hb⟩
  · intro dt slot engine s u b hu hfree hb _
    exact ⟨bktClose_waits hu hfree hb, bktClose_equal hu hfree hb, bktClose_differing hu hfree hb⟩
  · intro dt slot s u b hu hfree hb
    exact dupDecline_completes hu hfree hb
  · intro dt slot dir id s u hu hfree
    exact shardOpen_completes hu hfree
  · intro dt slot length base s u x hu hfree hstaged
    exact shardRange_completes hu hfree hstaged
  · intro dt slot done s u x hu hfree hopen
    exact shardClose_completes hu hfree hopen
  · intro dt s u i e hu hfree htests hpending
    exact ckptBoundary_completes hu hfree htests hpending
  · intro dt p addr data tag s u x hu hon hopen htag
    subst htag
    exact loupeLine_completes hu hon hopen

end Sys2Proof.Machine
end

section
/-! Overlay and brackets: arming, the records of a pair, and the waits that run out (10 R214 to R220). -/

namespace Sys2Proof.Machine

open Sys2Proof

-- one theorem after the other: each theorem that waits for the kernel would hold a thread
set_option Elab.async false

/-! ### OVERLAY_ARM (10 R218) -/

/-- A write of OVERLAY_ARM takes effect: the overlay is armed or disarmed, and ORDINAL restarts. -/
def State.armOverlay (on : Bool) (s : State) : State × Nat := ((s.setEv { s.ev with armed := on }).wr Dict.overlayOrdinal 0, 0)

/-- A command that writes OVERLAY_ARM on a target that serves completes with its effect. -/
theorem overlayWrite_completes {c : Instr} {dt : Nat} {rq : Requester} {r : DapReq} {s u : State} {on : Bool} (hu : u = s.elapse dt)
    (hserves : u.serves Dict.overlayArm)
    (hexec : exec c s = .next (s.asked dt rq r (State.serveCmd rq Dict.overlayArm 0 (State.armOverlay on)))) :
    Does c s (fun t => t.cmdCode Dict.overlayArm = 0 ∧ t.ev = { u.ev with armed := on } ∧ t.rd Dict.overlayOrdinal = 0) := by
  obtain ⟨hcode, hev, hregs, -⟩ := State.serveCmd_evidence hserves (act := State.armOverlay on) rfl rq
  have hordinal : (State.serveCmd rq Dict.overlayArm 0 (State.armOverlay on) u).stores Dict.overlayOrdinal 0 0 0 := by
    unfold State.stores
    rw [hregs]
    exact State.stores_wr (u.granted.setEv { u.ev with armed := on }) Dict.overlayOrdinal 0 0 0
  exact Does.of_asked hu hexec hserves.1 ⟨hcode, hev, hordinal.rd_within s⟩

/-! ### The journal stores no DOMAIN object -/

/-- `t` has the DOMAIN objects of `s`. -/
def KeepsDoms (s t : State) : Prop := t.doms = s.doms

namespace KeepsDoms

theorem refl (s : State) : KeepsDoms s s := rfl

theorem trans {s t u : State} (h : KeepsDoms s t) (k : KeepsDoms t u) : KeepsDoms s u := Eq.trans k h

theorem foldl {α : Type} {f : State → α → State} (hf : ∀ t a, KeepsDoms t (f t a)) (l : List α) (s : State) :
    KeepsDoms s (l.foldl f s) :=
  List.foldlRecOn l f (.refl s) fun t ht a _ => ht.trans (hf t a)

theorem bumpSat (s : State) (o : Ob) : KeepsDoms s (s.bumpSat o) := .refl s

theorem raise (s : State) (classF alarm : Bool) (typ payload : Nat) : KeepsDoms s (s.raise classF alarm typ payload) := by
  obtain ⟨_, _, _, _, _, _, _, _, _, h⟩ := RaisedFrom.raise s classF alarm typ payload
  rw [h]
  exact .refl s

theorem stackWrite (s : State) (a : Nat) (bs : Bytes) : KeepsDoms s (s.stackWrite a bs) := by
  unfold State.stackWrite
  split <;> exact .refl s

theorem setRing (s : State) (hist : Bool) (r : ChunkRing) : KeepsDoms s (s.setRing hist r) := by cases hist <;> exact .refl s

theorem lostUpTo (s : State) (hist : Bool) (last : Nat) : KeepsDoms s (s.lostUpTo hist last) := by
  unfold State.lostUpTo
  split <;> exact .refl s

theorem endDiscards (s : State) (hist : Bool) : KeepsDoms s (s.endDiscards hist) := by
  unfold State.endDiscards
  split
  · exact .refl s
  · exact (KeepsDoms.setRing ..).trans (.raise ..)

theorem writeRing (s : State) (hist : Bool) (addr : Nat) (bytes : Bytes) : KeepsDoms s (s.writeRing hist addr bytes) := by
  unfold State.writeRing
  extract_lets s1
  have hs1 : KeepsDoms s s1 := .stackWrite ..
  split <;> exact hs1

/-- A chunk is written over the oldest ones, or discarded. -/
theorem writeChunk (s : State) (kind : Nat) (g : Gather) : KeepsDoms s (s.writeChunk kind g) := by
  unfold State.writeChunk
  extract_lets hist r frames fst lst block bytes size pos base covers next run gone s0 s1 die c
  have hs1 : KeepsDoms s s1 := (KeepsDoms.endDiscards s hist).trans (.foldl (fun t c => .lostUpTo t hist c.last) gone s0)
  split
  · exact ((KeepsDoms.setRing ..).trans (.bumpSat ..)).trans (.lostUpTo ..)
  · exact (hs1.trans (.setRing ..)).trans (.writeRing ..)

theorem closeGather (s : State) (kind : Nat) : KeepsDoms s (s.closeGather kind) := by
  unfold State.closeGather
  split
  next => exact .refl s
  next g _ => exact .writeChunk { s with jn := { s.jn with gathering := Tbl.del s.jn.gathering kind } } kind g

theorem gatherEntry (kind frame : Nat) (s : State) (body : Bytes) : KeepsDoms s (s.gatherEntry kind frame body) := by
  unfold State.gatherEntry
  extract_lets s1 g
  show KeepsDoms s s1
  unfold s1
  split
  · split
    · exact .refl s
    · exact .closeGather ..
  · exact .refl s

theorem journalEntry (s : State) (kind frame : Nat) (body : Bytes) : KeepsDoms s (s.journalEntry kind frame body) := by
  unfold State.journalEntry
  split
  · exact .refl s
  · exact .foldl (.gatherEntry kind frame) _ s

end KeepsDoms

/-! ### Records of a pair (10 R219) -/

@[simp] theorem State.unmatchedOf_setUnmatched_same (s : State) (k : Nat) (l : List (DigestRec × Nat)) :
    (s.setUnmatched k l).unmatchedOf k = l := Tbl.getD_set_same ..

theorem State.unmatchedOf_setUnmatched_other (s : State) {k j : Nat} (h : k ≠ j) (l : List (DigestRec × Nat)) :
    (s.setUnmatched k l).unmatchedOf j = s.unmatchedOf j := Tbl.getD_set_other _ _ _ _ _ h

theorem State.pairOf_congr {s t : State} (hdoms : t.doms = s.doms) (hbuild : t.build = s.build) (die : Nat) :
    t.pairOf die = s.pairOf die := by
  have hpairs : t.rdBytes Dict.overlayPairs = s.rdBytes Dict.overlayPairs := by simp only [State.rdBytes, hdoms, hbuild]
  simp only [State.pairOf, State.overlayPair, hpairs]

/-- A record whose counterpart has not come waits for it while its side has room. -/
theorem State.overlayMatch_waits {s : State} {i : Nat} {spare : Bool} {d : DigestRec}
    (hnone : (s.unmatchedOf (2 * i + bit (!spare))).find? (fun e => e.1.ordinal == d.ordinal) = none)
    (hroom : (s.unmatchedOf (2 * i + bit spare)).length < 1024) : s.overlayMatch i spare d =
      s.setUnmatched (2 * i + bit spare) (s.unmatchedOf (2 * i + bit spare) ++ [(d, s.time.now)]) := by
  unfold State.overlayMatch
  extract_lets mine other l
  have hlen : ¬ 1024 < l.length := by
    show ¬ 1024 < (s.unmatchedOf (2 * i + bit spare) ++ [(d, s.time.now)]).length
    rw [List.length_append, List.length_singleton]
    omega
  rw [show (s.unmatchedOf other).find? _ = none from hnone]
  simp only
  rw [if_neg hlen]

/-- A record that agrees with its counterpart takes it off the other side and is counted. -/
theorem State.overlayMatch_agrees {s : State} {i : Nat} {spare : Bool} {d : DigestRec} {e : DigestRec × Nat}
    (hfound : (s.unmatchedOf (2 * i + bit (!spare))).find? (fun e => e.1.ordinal == d.ordinal) = some e)
    (hcause : overlayCause (if spare then e.1 else d) (if spare then d else e.1) = 0) : s.overlayMatch i spare d =
      (s.setUnmatched (2 * i + bit (!spare)) ((s.unmatchedOf (2 * i + bit (!spare))).erase e)).bump Dict.overlayCompared := by
  unfold State.overlayMatch
  extract_lets mine other l
  rw [show (s.unmatchedOf other).find? _ = some e from hfound]
  cases spare with
  | false => exact if_pos hcause
  | true => exact if_pos hcause

/-- The entry that a LAYER record makes in the journal. -/
def State.digestNoted (s : State) (p : Nat) (d : DigestRec) : State :=
  s.journalEntry jnDigest d.frame (leBytes 1 p ++ zeros 7 ++ d.bytes)

theorem State.digestNoted_messaged (s : State) (p : Nat) (d : DigestRec) : MessagedFrom s (s.digestNoted p d) := .journalEntry ..

@[simp] theorem State.digestNoted_unmatchedOf (s : State) (p : Nat) (d : DigestRec) (k : Nat) :
    (s.digestNoted p d).unmatchedOf k = s.unmatchedOf k :=
  congrArg (fun e : Evidence => Tbl.getD e.unmatched k []) (s.digestNoted_messaged p d).ev

@[simp] theorem State.touch_unmatchedOf (s : State) (k : Nat) : s.touch.unmatchedOf k = s.unmatchedOf k := rfl

/-- An overlay record of a die that a pair names is matched by that pair, once it stands in the journal. -/
theorem State.digestArrives_of_pair {s : State} {d : DigestRec} {i : Nat} {spare : Bool} (hkind : d.kind = 0) (hoverlay : d.overlay = true)
    (hpair : s.pairOf d.die = some (i, spare)) (p : Nat) : s.digestArrives p d = (s.digestNoted p d).overlayMatch i spare d := by
  have hpair' : (s.digestNoted p d).pairOf d.die = some (i, spare) :=
    (State.pairOf_congr (KeepsDoms.journalEntry ..) (s.digestNoted_messaged p d).2.1 d.die).trans hpair
  unfold State.digestNoted at hpair' ⊢
  simp only [State.digestArrives, hkind, hoverlay, hpair', Bool.not_true, Bool.false_eq_true, if_true, if_false]

/-- DIGEST_RECORD of an overlay record on a lane that is UP, from a child whose die a pair names. -/
theorem digestRecord_of_pair {dt p : Nat} {d : DigestRec} {s u : State} {i : Nat} {spare : Bool} (hu : u = s.elapse dt)
    (hon : u.coreOn = true) (hdown : u.isDown p = true) (hup : u.laneUp p = true) (hkind : d.kind = 0) (hoverlay : d.overlay = true)
    (hpair : u.pairOf d.die = some (i, spare)) :
    exec (.digestRecord dt p d) s = .next (((u.touch.digestNoted p d).overlayMatch i spare d).within s) := by
  refine congrArg Host.Outcome.next ((State.fromLane_from hu hon p 4 _ _).trans ?_)
  simp only [hdown, hup, Bool.not_true, Bool.or_self, Bool.false_eq_true, if_false]
  rw [State.digestArrives_of_pair (s := u.touch) hkind hoverlay hpair]

/-! ### OVERLAY_WAIT (Table 10-7) -/

/-- `t` has the evidence, the local time and the OVERLAY_WAIT of `s`. -/
def KeepsOverlay (s t : State) : Prop := t.ev = s.ev ∧ t.time = s.time ∧ t.rd Dict.overlayWait = s.rd Dict.overlayWait

/-- A record that has waited in vain is counted and reported. -/
theorem KeepsOverlay.overlayTimeout (s : State) (i : Nat) (spare : Bool) (d : DigestRec) :
    KeepsOverlay s (s.overlayTimeout i spare d) := by
  have hraised (payload : Nat) : MessagedFrom (s.bumpSat Dict.overlayTimeouts)
      ((s.bumpSat Dict.overlayTimeouts).raiseAlarm recOverlayMismatch payload) := .raise ..
  have hwait : (s.bumpSat Dict.overlayTimeouts).rd Dict.overlayWait = s.rd Dict.overlayWait :=
    s.rd_wr_other _ _ _ 0 0 0 0 (by decide)
  exact ⟨(hraised _).ev, (hraised _).time, ((hraised _).2.rd (by decide)).trans hwait⟩

/-- The record waits on: OVERLAY_WAIT has not passed since it came. -/
def State.waitsOn (s : State) (e : DigestRec × Nat) : Bool := !s.passed e.2 (s.rd Dict.overlayWait)

theorem KeepsOverlay.waitsOn {s t : State} (h : KeepsOverlay s t) : t.waitsOn = s.waitsOn := by
  obtain ⟨-, htime, hwait⟩ := h
  funext e
  simp only [State.waitsOn, State.passed, htime, hwait]

/-- A side's records that have waited in vain go, and nothing else of the overlay changes. -/
theorem KeepsOverlay.overlayExpire (s : State) (k : Nat) :
    KeepsOverlay (s.setUnmatched k ((s.unmatchedOf k).filter s.waitsOn)) (s.overlayExpire k) := by
  unfold State.overlayExpire
  extract_lets late l
  refine List.foldlRecOn _ _ ⟨rfl, rfl, rfl⟩ fun t ht e _ => ?_
  obtain ⟨hev, htime, hwait⟩ := ht
  obtain ⟨hev', htime', hwait'⟩ := KeepsOverlay.overlayTimeout t (k / 2) (k % 2 == 1) e.1
  exact ⟨hev'.trans hev, htime'.trans htime, hwait'.trans hwait⟩

theorem State.overlayExpire_unmatchedOf (s : State) (k j : Nat) : (s.overlayExpire k).unmatchedOf j =
    if j = k then (s.unmatchedOf j).filter s.waitsOn else s.unmatchedOf j := by
  obtain ⟨hev, -, -⟩ := KeepsOverlay.overlayExpire s k
  rw [State.unmatchedOf, hev]
  split
  next h =>
    subst h
    exact State.unmatchedOf_setUnmatched_same ..
  next h => exact State.unmatchedOf_setUnmatched_other _ (Ne.symm h) _

theorem State.overlayExpire_waitsOn (s : State) (k : Nat) : (s.overlayExpire k).waitsOn = s.waitsOn :=
  (KeepsOverlay.overlayExpire s k).waitsOn

/-- Each of the sides named loses the records that have waited in vain, and the others stay as they are. -/
theorem State.foldl_overlayExpire (l : List Nat) (s : State) (j : Nat) : (l.foldl State.overlayExpire s).unmatchedOf j =
    if j ∈ l then (s.unmatchedOf j).filter s.waitsOn else s.unmatchedOf j := by
  induction l generalizing s with
  | nil => rfl
  | cons k l ih =>
    rw [List.foldl_cons, ih, State.overlayExpire_unmatchedOf, State.overlayExpire_waitsOn]
    by_cases hk : j = k
    · simp [hk, List.filter_filter]
    · simp [hk]

/-! ### BRACKET_WAIT (Table 10-5) -/

/-- A slot whose wait has passed is free, and is counted. -/
theorem State.bracketTimeout_effect (s : State) (e : Nat × BracketSlot) :
    (s.bracketTimeout e).ev = { s.ev with bracket := Tbl.del s.ev.bracket e.1 } ∧
    (s.bracketTimeout e).stores Dict.bracketTimeouts 0 0
      (satTo (8 * Dict.bracketTimeouts.ty.bytes) (s.rd Dict.bracketTimeouts + 1)) := by
  have hraised : MessagedFrom ((s.freeSlotB e.1).bumpSat Dict.bracketTimeouts) (s.bracketTimeout e) := .raise ..
  exact ⟨hraised.ev, (State.stores_bumpSat (s.freeSlotB e.1) Dict.bracketTimeouts 0 0 1).of_keeps hraised.2 (by decide)⟩

/-! ### The commands complete -/

section
variable {dt p i : Nat} {d : DigestRec} {s u : State} {spare : Bool} (hu : u = s.elapse dt) (hon : u.coreOn = true)
  (hdown : u.isDown p = true) (hup : u.laneUp p = true) (hkind : d.kind = 0) (hoverlay : d.overlay = true)
  (hpair : u.pairOf d.die = some (i, spare))
include hu hon hdown hup hkind hoverlay hpair

theorem digestRecord_waits (hnone : (u.unmatchedOf (2 * i + bit (!spare))).find? (fun e => e.1.ordinal == d.ordinal) = none)
    (hroom : (u.unmatchedOf (2 * i + bit spare)).length < 1024) : Does (.digestRecord dt p d) s (fun t =>
      t.unmatchedOf (2 * i + bit spare) = u.unmatchedOf (2 * i + bit spare) ++ [(d, u.time.now)]) := by
  have hmatch := State.overlayMatch_waits (s := u.touch.digestNoted p d) (i := i) (spare := spare) (d := d) (by simpa using hnone)
    (by simpa using hroom)
  refine ⟨_, digestRecord_of_pair hu hon hdown hup hkind hoverlay hpair, ?_⟩
  rw [hmatch]
  simp [(u.touch.digestNoted_messaged p d).time]

theorem digestRecord_agrees {e : DigestRec × Nat}
    (hfound : (u.unmatchedOf (2 * i + bit (!spare))).find? (fun e => e.1.ordinal == d.ordinal) = some e)
    (hcause : overlayCause (if spare then e.1 else d) (if spare then d else e.1) = 0) : Does (.digestRecord dt p d) s (fun t =>
      t.unmatchedOf (2 * i + bit (!spare)) = (u.unmatchedOf (2 * i + bit (!spare))).erase e ∧
      t.rd Dict.overlayCompared = (u.rd Dict.overlayCompared + 1) % 2 ^ (8 * Dict.overlayCompared.ty.bytes)) := by
  have hmatch := State.overlayMatch_agrees (s := u.touch.digestNoted p d) (i := i) (spare := spare) (d := d) (by simpa using hfound) hcause
  have hcompared : (u.touch.digestNoted p d).rd Dict.overlayCompared = u.rd Dict.overlayCompared :=
    (u.touch.digestNoted_messaged p d).2.rd (by decide)
  refine ⟨_, digestRecord_of_pair hu hon hdown hup hkind hoverlay hpair, ?_⟩
  rw [hmatch, State.digestNoted_unmatchedOf, ← hcompared]
  exact ⟨State.unmatchedOf_setUnmatched_same .., (State.stores_wr _ Dict.overlayCompared _ 0 0).rd_within s⟩

end

/-- Settles O40: the journal leaves a pair and its sides alone, so a record waits on its own side or takes its counterpart off the other;
each side's expiry keeps the wait by which the next is judged. -/
theorem overlayCommandsComplete : Obligations.OverlayCommandsComplete := by
  unfold Obligations.OverlayCommandsComplete
  refine ⟨?_, ?_, ?_, ?_⟩
  · intro dt rq s u hu hserves
    exact ⟨overlayWrite_completes hu hserves rfl, overlayWrite_completes hu hserves rfl⟩
  · intro dt p d s u i spare hu hon hdown hup hkind hoverlay hpair
    exact ⟨digestRecord_waits hu hon hdown hup hkind hoverlay hpair, fun e => digestRecord_agrees hu hon hdown hup hkind hoverlay hpair⟩
  · intro dt s u k hu hon hk
    refine Does.of_core hu rfl hon ?_
    rw [State.within_unmatchedOf, State.foldl_overlayExpire, if_pos (List.mem_range.mpr hk)]
    rfl
  · intro dt s u i b hu hon hbracket hpassed
    obtain ⟨hev, hcount⟩ := u.bracketTimeout_effect (i, b)
    have hlate : (u.ev.bracket.filter (fun e => u.passed e.2.since (u.rd Dict.bracketWait))).foldl State.bracketTimeout u =
        u.bracketTimeout (i, b) := by simp [hbracket, hpassed]
    refine Does.of_core hu rfl hon ?_
    rw [hlate]
    refine ⟨?_, hcount.rd_within s⟩
    rw [State.within_ev, hev, hbracket]
    exact Tbl.del_singleton i b

end Sys2Proof.Machine
end

section
/-! The bound and the in-field tests (10 R221 to R226). -/

namespace Sys2Proof.Machine

open Sys2Proof

-- one theorem after the other: each theorem that waits for the kernel would hold a thread
set_option Elab.async false

/-! ### The last period (10 R222, R231) -/

/-- The rest of a span in whole periods reaches back from its end to a moment within the span. -/
theorem lastPeriod_mem {last now : Nat} (h : last ≤ now) (p : Nat) :
    last ≤ now - (now - last) % p ∧ now - (now - last) % p ≤ now := by
  have hmod := Nat.mod_le (now - last) p
  omega

/-- One period after that moment lies ahead. -/
theorem lt_lastPeriod_add {p : Nat} (hp : 0 < p) (last now : Nat) : now < now - (now - last) % p + p := by
  have hmod := Nat.mod_le (now - last) p
  have hlt := Nat.mod_lt (now - last) hp
  omega

theorem State.boundTick_last (s : State) : s.boundTick.ev.boundLast =
    s.time.run - (s.time.run - s.ev.boundLast) % (s.rd Dict.boundPeriod * secUnits) := rfl

/-- After the tick the next period is due at once only where BOUND_PERIOD is 0. -/
theorem State.boundTick_due (s : State) : s.boundTick.boundDue = (s.rd Dict.boundPeriod == 0) := by
  have hrd : s.boundTick.rd Dict.boundPeriod = s.rd Dict.boundPeriod := rfl
  have htime : s.boundTick.time = s.time := rfl
  rw [State.boundDue, hrd, htime, State.boundTick_last]
  rcases Nat.eq_zero_or_pos (s.rd Dict.boundPeriod) with hzero | hpos
  · simp [hzero]
  · have hahead := lt_lastPeriod_add (Nat.mul_pos hpos (show 0 < secUnits by decide)) s.ev.boundLast s.time.run
    rw [decide_eq_false (Nat.not_le.mpr hahead), beq_eq_false_iff_ne.mpr (Nat.ne_of_gt hpos)]

/-- What a computation of the bound leaves of the periods: local time, the last of them and BOUND_PERIOD. -/
structure KeepsPeriod (s t : State) : Prop where
  time : t.time = s.time
  last : t.ev.boundLast = s.ev.boundLast
  objects : KeepsObjects (· = Dict.boundPeriod.key 0 0) s t

theorem KeepsPeriod.due {s t : State} (h : KeepsPeriod s t) : t.boundDue = s.boundDue := by
  simp only [State.boundDue, h.time, h.last, h.objects.rd rfl]

theorem KeepsPeriod.trans {s t u : State} (h : KeepsPeriod s t) (k : KeepsPeriod t u) : KeepsPeriod s u :=
  ⟨k.time.trans h.time, k.last.trans h.last, h.objects.trans k.objects⟩

/-! ### The bound is computed (10 R222, R223) -/

/-- BOUND takes its value, and U has drawn the open one that it may need. -/
def State.boundFormed (s : State) : State :=
  if s.ev.compared ≤ s.ev.eligible then s.wr Dict.bound (flEncode f32 (flTo f32 s.boundNow))
  else (s.wr Dict.bound (flEncode f32 (flTo f32 s.boundNow))).drawn

theorem State.boundFormed_eq (s : State) :
    ∃ n, s.boundFormed = { s.wr Dict.bound (flEncode f32 (flTo f32 s.boundNow)) with free := n } := by
  unfold State.boundFormed
  split <;> exact ⟨_, rfl⟩

/-- BOUND_UNMET is written. -/
def State.boundUnmet (s : State) (enc : Nat) : State :=
  (s.setEv { s.ev with unmetWritten := true }).raiseAlarm recBoundUnmet (packBits [(32, enc), (16, s.rd Dict.fBound), (80, 0)])

/-- The period computes BOUND, then under BOUND_ENFORCE doubles F_BOUND or writes BOUND_UNMET where the bound misses its target. -/
theorem State.boundPeriod_eq (s : State) : s.boundPeriod =
    if !s.boundFormed.flag Dict.boundEnforce || !flLt (flDecode f32 (s.boundFormed.rd Dict.boundTarget)) s.boundNow then s.boundFormed
    else if s.boundFormed.rd Dict.fBound < 1024 then s.boundFormed.wr Dict.fBound (min 1024 (2 * s.boundFormed.rd Dict.fBound))
    else if s.boundFormed.ev.unmetWritten then s.boundFormed
    else s.boundFormed.boundUnmet (flEncode f32 (flTo f32 s.boundNow)) := rfl

theorem State.boundPeriod_cases (s : State) : s.boundPeriod = s.boundFormed ∨ (∃ v, s.boundPeriod = s.boundFormed.wr Dict.fBound v) ∨
    ∃ enc, s.boundPeriod = s.boundFormed.boundUnmet enc := by
  rw [State.boundPeriod_eq]
  split
  · exact .inl rfl
  · split
    · exact .inr (.inl ⟨_, rfl⟩)
    · split
      · exact .inl rfl
      · exact .inr (.inr ⟨_, rfl⟩)

theorem State.boundFormed_stores (s : State) :
    s.boundFormed.stores Dict.bound 0 0 (flEncode f32 (flTo f32 s.boundNow) % 2 ^ (8 * Dict.bound.ty.bytes)) := by
  obtain ⟨_, h⟩ := s.boundFormed_eq
  rw [h]
  exact State.stores_wr s Dict.bound _ 0 0

/-- Forming BOUND writes no other object. -/
theorem KeepsObjects.boundFormed (s : State) : KeepsObjects (· ≠ Dict.bound.key 0 0) s s.boundFormed := by
  obtain ⟨_, h⟩ := s.boundFormed_eq
  rw [h]
  exact KeepsObjects.wr s Dict.bound _ 0 0 fun hk => hk rfl

theorem KeepsPeriod.boundFormed (s : State) : KeepsPeriod s s.boundFormed := by
  have hobjects := (KeepsObjects.boundFormed s).mono (Q := (· = Dict.boundPeriod.key 0 0)) fun k hk => by rw [hk]; decide
  obtain ⟨_, h⟩ := s.boundFormed_eq
  rw [h] at hobjects ⊢
  exact ⟨rfl, rfl, hobjects⟩

/-- The period keeps the periods that follow, and BOUND holds what it has computed. -/
theorem State.boundPeriod_effect (s : State) : KeepsPeriod s s.boundPeriod ∧
    s.boundPeriod.stores Dict.bound 0 0 (flEncode f32 (flTo f32 s.boundNow) % 2 ^ (8 * Dict.bound.ty.bytes)) := by
  have hformed := KeepsPeriod.boundFormed s
  rcases s.boundPeriod_cases with h | ⟨v, h⟩ | ⟨enc, h⟩
  · rw [h]
    exact ⟨hformed, s.boundFormed_stores⟩
  · rw [h]
    exact ⟨hformed.trans ⟨rfl, rfl, KeepsObjects.wr _ Dict.fBound v 0 0 (by decide)⟩,
      s.boundFormed_stores.of_keeps (P := (· = Dict.bound.key 0 0)) (KeepsObjects.wr _ Dict.fBound v 0 0 (by decide)) rfl⟩
  · have hraised : MessagedFrom (s.boundFormed.setEv { s.boundFormed.ev with unmetWritten := true }) (s.boundFormed.boundUnmet enc) :=
      .raise ..
    rw [h]
    have hlast : (s.boundFormed.boundUnmet enc).ev.boundLast = s.boundFormed.ev.boundLast := by rw [hraised.ev, State.setEv_ev]
    exact ⟨hformed.trans ⟨hraised.time, hlast, hraised.2.mono fun k hk => by rw [hk]; decide⟩,
      State.stores.of_keeps (s := s.boundFormed.setEv _) s.boundFormed_stores hraised.2 (by decide)⟩

/-- A bound above its target doubles F_BOUND, up to 1,024. -/
theorem State.boundPeriod_enforces {s : State} (henforce : s.flag Dict.boundEnforce = true)
    (habove : flLt (flDecode f32 (s.rd Dict.boundTarget)) s.boundNow = true) (hroom : s.rd Dict.fBound < 1024) :
    s.boundPeriod.stores Dict.fBound 0 0 (min 1024 (2 * s.rd Dict.fBound)) := by
  have hformed := KeepsObjects.boundFormed s
  have hflag : s.boundFormed.flag Dict.boundEnforce = true := by
    rw [State.flag, hformed.rd (o := Dict.boundEnforce) (by decide)]
    exact henforce
  have hsize : min 1024 (2 * s.rd Dict.fBound) % 2 ^ (8 * Dict.fBound.ty.bytes) = min 1024 (2 * s.rd Dict.fBound) := by
    refine Nat.mod_eq_of_lt (Nat.lt_of_le_of_lt (Nat.min_le_left ..) ?_)
    decide
  have hdoubled := State.stores_wr s.boundFormed Dict.fBound (min 1024 (2 * s.rd Dict.fBound)) 0 0
  rw [hsize] at hdoubled
  rw [State.boundPeriod_eq, hflag, hformed.rd (o := Dict.boundTarget) (by decide), habove, hformed.rd (o := Dict.fBound) (by decide),
    if_neg (by decide), if_pos hroom]
  exact hdoubled

/-! ### BOUND_PERIOD (10 R222, R231) -/

theorem State.coreOn_of_keeperOn {s : State} (h : s.keeperOn = true) : s.coreOn = true := by
  simp only [State.keeperOn, Bool.and_eq_true] at h
  obtain ⟨⟨⟨hon, -⟩, -⟩, -⟩ := h
  exact hon

@[simp] theorem State.rd_within_bound (t s : State) : (t.within s).rd Dict.bound = t.rd Dict.bound :=
  State.rd_within (d := 0x7f800000) (fun b _ => by cases b <;> rfl) t s 0

@[simp] theorem State.rd_within_fBound (t s : State) : (t.within s).rd Dict.fBound = t.rd Dict.fBound :=
  State.rd_within (d := 1) (fun b _ => by cases b <;> rfl) t s 0

@[simp] theorem State.boundDue_within (t s : State) : (t.within s).boundDue = t.boundDue := by
  have hperiod : (t.within s).rd Dict.boundPeriod = t.rd Dict.boundPeriod :=
    State.rd_within (d := 60) (fun b _ => by cases b <;> rfl) t s 0
  rw [State.boundDue, hperiod]
  rfl

section
variable {dt : Nat} {s u : State} (hu : u = s.elapse dt) (hdie : u.isDie = true)
  (hdue : u.ev.boundLast + u.rd Dict.boundPeriod * secUnits ≤ u.time.run)
include hu hdie hdue

theorem boundPeriod_of_due (hon : u.coreOn = true) :
    exec (.boundPeriod dt) s = .next ((if u.keeperOn then u.boundTick.boundPeriod else u.boundTick).within s) := by
  refine congrArg Host.Outcome.next ((State.core_from hu hon _).trans ?_)
  have hdue' : u.boundDue = true := decide_eq_true hdue
  simp only [hdie, hdue', Bool.not_true, Bool.or_self, Bool.false_eq_true, if_false]

theorem boundPeriod_computes (hkeeper : u.keeperOn = true) :
    Does (.boundPeriod dt) s (fun t => u.ev.boundLast ≤ t.ev.boundLast ∧ t.ev.boundLast ≤ u.time.run ∧
      t.boundDue = (u.rd Dict.boundPeriod == 0) ∧ t.rd Dict.bound = flEncode f32 (flTo f32 u.boundNow) % 2 ^ 32) ∧
    (u.flag Dict.boundEnforce = true → flLt (flDecode f32 (u.rd Dict.boundTarget)) u.boundNow = true → u.rd Dict.fBound < 1024 →
      Does (.boundPeriod dt) s (fun t => t.rd Dict.fBound = min 1024 (2 * u.rd Dict.fBound))) := by
  have hexec := boundPeriod_of_due hu hdie hdue (State.coreOn_of_keeperOn hkeeper)
  rw [if_pos hkeeper] at hexec
  have hlast : u.ev.boundLast ≤ u.time.run := Nat.le_of_add_right_le hdue
  obtain ⟨hperiod, hbound⟩ := u.boundTick.boundPeriod_effect
  refine ⟨⟨_, hexec, ?_, ?_, ?_, hbound.rd_within s⟩, fun henforce habove hroom => ⟨_, hexec, ?_⟩⟩
  · rw [State.within_ev, hperiod.last, State.boundTick_last]
    exact (lastPeriod_mem hlast _).1
  · rw [State.within_ev, hperiod.last, State.boundTick_last]
    exact (lastPeriod_mem hlast _).2
  · rw [State.boundDue_within, hperiod.due, State.boundTick_due]
  · exact (State.boundPeriod_enforces (s := u.boundTick) henforce habove hroom).rd_within s

/-- A period that falls while the keeper does not serve is skipped. -/
theorem boundPeriod_skips (hon : u.coreOn = true) (hkeeper : u.keeperOn = false) (hpos : 0 < u.rd Dict.boundPeriod) :
    Does (.boundPeriod dt) s (fun t => t.rd Dict.bound = u.rd Dict.bound ∧ t.rd Dict.fBound = u.rd Dict.fBound ∧
      t.ev.boundLast ≤ u.time.run ∧ u.time.run < t.ev.boundLast + u.rd Dict.boundPeriod * secUnits) := by
  have hexec := boundPeriod_of_due hu hdie hdue hon
  rw [hkeeper, if_neg Bool.false_ne_true] at hexec
  have hlast : u.ev.boundLast ≤ u.time.run := Nat.le_of_add_right_le hdue
  exact ⟨_, hexec, State.rd_within_bound u.boundTick s, State.rd_within_fBound u.boundTick s, (lastPeriod_mem hlast _).2,
    lt_lastPeriod_add (Nat.mul_pos hpos (by decide)) ..⟩

end

/-! ### BOUND_RESET and BOUND_ENFORCE (10 R221, R223) -/

/-- The bound's terms start again. -/
def Evidence.restarted (e : Evidence) : Evidence :=
  { e with eligible := 0, compared := 0, mismatched := 0, runningNs := 0, unmetWritten := false }

theorem boundReset_completes {dt : Nat} {rq : Requester} {s u : State} (hu : u = s.elapse dt) (hserves : u.serves Dict.boundReset) :
    Does (.boundReset dt rq) s (fun t => t.cmdCode Dict.boundReset = 0 ∧ t.rd Dict.fBound = 1 ∧ t.ev = u.ev.restarted) := by
  obtain ⟨hcode, hev, hregs, -⟩ :=
    State.serveCmd_evidence hserves (act := fun s => ((s.setEv s.ev.restarted).wr Dict.fBound 1, 0)) rfl rq
  have hfraction : (State.serveBoundReset rq u).stores Dict.fBound 0 0 1 :=
    (congrArg (Tbl.get? · (Dict.fBound.key 0 0)) hregs).trans (State.stores_wr (u.granted.setEv u.ev.restarted) Dict.fBound 1 0 0)
  exact Does.of_asked hu rfl hserves.1 ⟨hcode, hfraction.rd_within s, hev⟩

section
variable {dt : Nat} {rq : Requester} {s u : State} (hu : u = s.elapse dt) (hserves : u.serves Dict.boundEnforce)
include hu hserves

/-- Enforcement that ends returns F_BOUND to 1 and re-arms BOUND_UNMET. -/
theorem boundEnforceWrite_off : Does (.boundEnforceWrite dt rq 0) s (fun t =>
    t.rd Dict.boundEnforce = 0 ∧ t.rd Dict.fBound = 1 ∧ t.ev.unmetWritten = false) := by
  have hserved : State.serveBoundEnforce rq 0 u = (((u.granted.wr Dict.boundEnforce 0).setEv { u.ev with unmetWritten := false }).wr
      Dict.fBound 1).answerWrite rq Dict.boundEnforce 0 0 0 := State.serveWrite_of_serves hserves rq _
  have hoff : (((u.granted.wr Dict.boundEnforce 0).setEv { u.ev with unmetWritten := false }).wr Dict.fBound 1).stores
      Dict.boundEnforce 0 0 0 :=
    (State.stores_wr u.granted Dict.boundEnforce 0 0 0).of_keeps (P := (· = Dict.boundEnforce.key 0 0))
      (KeepsObjects.wr _ Dict.fBound 1 0 0 (by decide)) rfl
  obtain ⟨_, _, _, hanswer⟩ := State.answerWrite_only
    (((u.granted.wr Dict.boundEnforce 0).setEv { u.ev with unmetWritten := false }).wr Dict.fBound 1) rq Dict.boundEnforce 0 0 0
  rw [hanswer] at hserved
  refine Does.of_asked hu rfl hserves.1 ?_
  rw [hserved]
  exact ⟨hoff.rd_within s, (State.stores_wr _ Dict.fBound 1 0 0).rd_within s, rfl⟩

theorem boundEnforceWrite_on : Does (.boundEnforceWrite dt rq 1) s (fun t =>
    t.rd Dict.boundEnforce = 1 ∧ t.rd Dict.fBound = u.rd Dict.fBound ∧ t.ev = u.ev) := by
  have hserved : State.serveBoundEnforce rq 1 u = (u.granted.wr Dict.boundEnforce 1).answerWrite rq Dict.boundEnforce 0 0 0 :=
    State.serveWrite_of_serves hserves rq _
  obtain ⟨_, _, _, hanswer⟩ := (u.granted.wr Dict.boundEnforce 1).answerWrite_only rq Dict.boundEnforce 0 0 0
  rw [hanswer] at hserved
  have hfraction : (u.granted.wr Dict.boundEnforce 1).rd Dict.fBound = u.rd Dict.fBound :=
    (State.rd_wr_other _ _ _ _ 0 0 0 0 (by decide)).trans (u.rd_granted (by decide))
  refine Does.of_asked hu rfl hserves.1 ?_
  rw [hserved]
  exact ⟨(State.stores_wr u.granted Dict.boundEnforce 1 0 0).rd_within s, (State.rd_within_fBound _ s).trans hfraction, rfl⟩

end

/-! ### TEST_REQUEST and TEST_CANCEL (10 R224 to R226) -/

/-- The entry that a TEST_REQUEST makes, PENDING. -/
def State.requestedTest (s : State) (value : Nat) : TestEntry :=
  { issued := false, engine := fieldOf value 26 16, test := value % 65536
    deadline := s.nowNs + s.rd Dict.testDeadline * 1000000, requested := s.nowNs }

/-- Lowest free test entry of the 64. -/
def State.freeEntry (s : State) : Option Nat := (List.range 64).find? (fun i => (Tbl.get? s.ev.tests i).isNone)

/-- A TEST_REQUEST takes effect: its entry is PENDING, or ISSUED while the job is IDLE; it is FULL where no entry is free. -/
def State.takeTest (value : Nat) (s : State) : State × Nat :=
  match s.freeEntry with
  | none => (s, 1)
  | some i => (if s.rd Dict.jobState = 0 then (s.setTest i (s.requestedTest value)).issueTest (i, s.requestedTest value)
      else s.setTest i (s.requestedTest value), 0)

theorem State.serveTestRequest_eq (rq : Requester) (value : Nat) (s : State) :
    s.serveTestRequest rq value = State.serveCmd rq Dict.testRequest 0 (State.takeTest value) s := rfl

theorem State.granted_requestedTest (s : State) (value : Nat) : s.granted.requestedTest value = s.requestedTest value := by
  have hwait : s.granted.rd Dict.testDeadline = s.rd Dict.testDeadline := s.rd_granted (by decide)
  unfold State.requestedTest
  rw [hwait]
  rfl

section
variable {dt value : Nat} {rq : Requester} {s u : State} (hu : u = s.elapse dt) (hserves : u.serves Dict.testRequest)
include hu hserves

theorem testRequest_full (hfull : u.freeEntry = none) :
    Does (.testRequest dt rq value) s (fun t => t.cmdCode Dict.testRequest = 1 ∧ t.ev = u.ev) := by
  have hact : State.takeTest value u.granted = (u.granted, 1) := by
    have hfull' : u.granted.freeEntry = none := hfull
    rw [State.takeTest, hfull']
  obtain ⟨hcode, hev, -, -⟩ := State.serveCmd_evidence hserves hact rq
  exact Does.of_asked hu rfl hserves.1 ⟨hcode, hev⟩

theorem testRequest_completes {i : Nat} (hfree : u.freeEntry = some i) :
    Does (.testRequest dt rq value) s (fun t => t.cmdCode Dict.testRequest = 0 ∧
      Tbl.get? t.ev.tests i = some { u.requestedTest value with issued := decide (u.rd Dict.jobState = 0) } ∧
      (u.rd Dict.jobState = 0 → ∃ more, t.mb.waiting = u.mb.waiting ++
        { door := 2, kind := 0x10, bytes := leBytes 4 (fieldOf value 26 16 * 65536 + value % 65536) } :: more)) := by
  have hfree' : u.granted.freeEntry = some i := hfree
  have hjob : u.granted.rd Dict.jobState = u.rd Dict.jobState := u.rd_granted (by decide)
  by_cases hidle : u.rd Dict.jobState = 0
  · have hact : State.takeTest value u.granted =
        ((u.granted.setTest i (u.requestedTest value)).issueTest (i, u.requestedTest value), 0) := by
      simp only [State.takeTest, hfree', hjob, hidle, if_true, State.granted_requestedTest]
    obtain ⟨hcode, hev, -, more, hwaiting⟩ := State.serveCmd_evidence hserves hact rq
    refine Does.of_asked hu rfl hserves.1 ⟨hcode, ?_, fun _ => ⟨more, hwaiting.trans (List.append_assoc ..)⟩⟩
    rw [State.within_ev, State.serveTestRequest_eq, hev, decide_eq_true hidle]
    exact Tbl.get?_set_same ..
  · have hact : State.takeTest value u.granted = (u.granted.setTest i (u.requestedTest value), 0) := by
      simp only [State.takeTest, hfree', hjob, hidle, if_false, State.granted_requestedTest]
    obtain ⟨hcode, hev, -, -⟩ := State.serveCmd_evidence hserves hact rq
    refine Does.of_asked hu rfl hserves.1 ⟨hcode, ?_, fun h => absurd h hidle⟩
    rw [State.within_ev, State.serveTestRequest_eq, hev, decide_eq_false hidle]
    exact Tbl.get?_set_same ..

end

/-- A TEST_CANCEL takes effect: its entry is FREE again; it completes with 1 where the entry was FREE already. -/
def State.cancelTest (i : Nat) (s : State) : State × Nat :=
  if 64 ≤ i then (s.drawn, s.freeVal % 256)
  else if (Tbl.get? s.ev.tests i).isSome then (s.freeTest i, 0) else (s, 1)

theorem State.serveTestCancel_eq (rq : Requester) (i : Nat) (s : State) :
    s.serveTestCancel rq i = State.serveCmd rq Dict.testCancel 0 (State.cancelTest i) s := rfl

section
variable {dt i : Nat} {rq : Requester} {s u : State} (hu : u = s.elapse dt) (hserves : u.serves Dict.testCancel) (hi : i < 64)
include hu hserves hi

theorem testCancel_frees {e : TestEntry} (he : Tbl.get? u.ev.tests i = some e) :
    Does (.testCancel dt rq i) s (fun t => t.cmdCode Dict.testCancel = 0 ∧ Tbl.get? t.ev.tests i = none) := by
  have hact : State.cancelTest i u.granted = (u.granted.freeTest i, 0) := by
    rw [State.cancelTest, if_neg (Nat.not_le.mpr hi), State.granted_ev, he, Option.isSome_some, if_pos rfl]
  obtain ⟨hcode, hev, -, -⟩ := State.serveCmd_evidence hserves hact rq
  refine Does.of_asked hu rfl hserves.1 ⟨hcode, ?_⟩
  rw [State.within_ev, State.serveTestCancel_eq, hev]
  exact Tbl.get?_del_same ..

theorem testCancel_finds_none (hnone : Tbl.get? u.ev.tests i = none) :
    Does (.testCancel dt rq i) s (fun t => t.cmdCode Dict.testCancel = 1 ∧ t.ev = u.ev) := by
  have hact : State.cancelTest i u.granted = (u.granted, 1) := by
    rw [State.cancelTest, if_neg (Nat.not_le.mpr hi), State.granted_ev, hnone, Option.isSome_none, if_neg Bool.false_ne_true]
  obtain ⟨hcode, hev, -, -⟩ := State.serveCmd_evidence hserves hact rq
  exact Does.of_asked hu rfl hserves.1 ⟨hcode, hev⟩

end

/-! ### TEST_DEADLINE and TEST_DONE (Table 10-10) -/

theorem State.testOverdue_effect {s : State} {i : Nat} {e : TestEntry} (h : s.ev.tests = [(i, e)]) :
    (s.testOverdue (i, e)).ev.tests = [(i, { e with overdue := true })] ∧
    (s.testOverdue (i, e)).stores Dict.testsOverdue 0 0 (satTo (8 * Dict.testsOverdue.ty.bytes) (s.rd Dict.testsOverdue + 1)) := by
  have hraised : MessagedFrom ((s.setTest i { e with overdue := true }).bumpSat Dict.testsOverdue) (s.testOverdue (i, e)) := .raise ..
  refine ⟨?_, (State.stores_bumpSat (s.setTest i _) Dict.testsOverdue 0 0 1).of_keeps hraised.2 (by decide)⟩
  rw [hraised.ev]
  show Tbl.set s.ev.tests i _ = _
  rw [h, Tbl.set_singleton]

/-- The host's report of an issued entry frees it; a result other than 0 is a failure and a mismatch of the block. -/
theorem State.testDone_of_issued {s : State} {i : Nat} {e : TestEntry} (h : s.ev.tests = [(i, e)]) (hissued : e.issued = true) (r : Nat) :
    s.testDone e.engine e.test r =
      if r = 0 then ((s.freeTest i).bumpSat Dict.testsPassed).raiseO recTestDone (s.testPayload i e r)
      else (((s.freeTest i).bumpSat Dict.testsFailed).raiseAlarm recTestFailed (s.testPayload i e r)).countMismatch := by
  have hfound : s.ev.tests.find? (fun x => x.2.issued && x.2.engine == e.engine && x.2.test == e.test) = some (i, e) := by
    simp [h, hissued]
  unfold State.testDone
  rw [hfound]

theorem State.freeTest_tests {s : State} {i : Nat} {e : TestEntry} (h : s.ev.tests = [(i, e)]) : (s.freeTest i).ev.tests = [] := by
  show Tbl.del s.ev.tests i = []
  rw [h, Tbl.del_singleton]

theorem State.testDone_passed {s : State} {i : Nat} {e : TestEntry} (h : s.ev.tests = [(i, e)]) (hissued : e.issued = true) :
    (s.testDone e.engine e.test 0).ev.tests = [] ∧ (s.testDone e.engine e.test 0).stores Dict.testsPassed 0 0
      (satTo (8 * Dict.testsPassed.ty.bytes) (s.rd Dict.testsPassed + 1)) := by
  rw [State.testDone_of_issued h hissued, if_pos rfl]
  have hraised : MessagedFrom ((s.freeTest i).bumpSat Dict.testsPassed)
      (((s.freeTest i).bumpSat Dict.testsPassed).raiseO recTestDone (s.testPayload i e 0)) := .raise ..
  exact ⟨(congrArg Evidence.tests hraised.ev).trans (State.freeTest_tests h),
    (State.stores_bumpSat (s.freeTest i) Dict.testsPassed 0 0 1).of_keeps hraised.2 (by decide)⟩

theorem State.testDone_failed {s : State} {i r : Nat} {e : TestEntry} (h : s.ev.tests = [(i, e)]) (hissued : e.issued = true)
    (hr : r ≠ 0) : (s.testDone e.engine e.test r).ev.tests = [] ∧ (s.testDone e.engine e.test r).ver.mismatched = true ∧
      (s.testDone e.engine e.test r).stores Dict.testsFailed 0 0
        (satTo (8 * Dict.testsFailed.ty.bytes) (s.rd Dict.testsFailed + 1)) := by
  rw [State.testDone_of_issued h hissued, if_neg hr]
  have hraised : MessagedFrom ((s.freeTest i).bumpSat Dict.testsFailed)
      (((s.freeTest i).bumpSat Dict.testsFailed).raiseAlarm recTestFailed (s.testPayload i e r)) := .raise ..
  have hcounted := ((State.stores_bumpSat (s.freeTest i) Dict.testsFailed 0 0 1).of_keeps hraised.2 (by decide)).of_keeps
    (KeepsObjects.countMismatch _) (by decide)
  obtain ⟨_, _, hmismatch, hnoted⟩ := State.countMismatch_only
    (((s.freeTest i).bumpSat Dict.testsFailed).raiseAlarm recTestFailed (s.testPayload i e r))
  rw [hmismatch] at hcounted ⊢
  exact ⟨(congrArg Evidence.tests hraised.ev).trans (State.freeTest_tests h), hnoted, hcounted⟩

theorem testDone_of_on {dt engine test result : Nat} {s u : State} (hu : u = s.elapse dt) (hon : u.coreOn = true) (hdie : u.isDie = true) :
    exec (.testDone dt engine test result) s = .next ((u.touch.testDone engine test (result % 65536)).within s) := by
  refine congrArg Host.Outcome.next ((State.fromHost_from hu hon 3 _ _).trans ?_)
  rw [if_pos hdie]

/-- Settles O41: the tick leaves less than a period since the last one whatever the bound then does, a request takes the lowest free entry
and the first place behind what waits for the host, and a report frees its entry whatever its record and its mismatch change. -/
theorem testCommandsComplete : Obligations.TestCommandsComplete := by
  unfold Obligations.TestCommandsComplete
  refine ⟨?_, ?_, ?_, ?_, ?_, ?_, ?_, ?_⟩
  · intro dt s u hu hdie hkeeper hdue
    exact boundPeriod_computes hu hdie hdue hkeeper
  · intro dt s u hu hdie hon hkeeper hdue hpos
    exact boundPeriod_skips hu hdie hdue hon hkeeper hpos
  · intro dt rq s u hu hserves
    exact boundReset_completes hu hserves
  · intro dt rq s u hu hserves
    exact ⟨boundEnforceWrite_off hu hserves, boundEnforceWrite_on hu hserves⟩
  · intro dt rq value s u hu hserves
    exact ⟨testRequest_full hu hserves, fun i => testRequest_completes hu hserves⟩
  · intro dt rq i s u hu hserves hi
    exact ⟨fun e => testCancel_frees hu hserves hi, testCancel_finds_none hu hserves hi⟩
  · intro dt s u i e hu hon htests hpending hnew hdeadline
    have hlate : (u.ev.tests.filter (fun e => !e.2.issued && !e.2.overdue && decide (e.2.deadline ≤ u.nowNs))).foldl State.testOverdue u =
        u.testOverdue (i, e) := by simp [htests, hpending, hnew, hdeadline]
    obtain ⟨hentry, hcount⟩ := State.testOverdue_effect htests
    refine Does.of_core hu rfl hon ?_
    rw [hlate]
    exact ⟨hentry, hcount.rd_within s⟩
  · intro dt r s u i e hu hon hdie htests hissued
    refine ⟨⟨_, testDone_of_on hu hon hdie, ?_⟩, fun hr => ⟨_, testDone_of_on hu hon hdie, ?_⟩⟩
    · obtain ⟨hentry, hcount⟩ := State.testDone_passed (s := u.touch) htests hissued
      exact ⟨hentry, hcount.rd_within s⟩
    · obtain ⟨hentry, hnoted, hcount⟩ := State.testDone_failed (s := u.touch) htests hissued hr
      exact ⟨hentry, hnoted, hcount.rd_within s⟩

end Sys2Proof.Machine
end

section
/-! The machine's step, and the stacks where a range becomes unpredictable (21 R431, 00 R6). -/

namespace Sys2Proof.Machine

open Sys2Proof

/-- Settles O1: a step takes the front command, and without one answers the state it was given. -/
theorem stepRunsTheFrontCommand : Obligations.StepRunsTheFrontCommand := by
  unfold Obligations.StepRunsTheFrontCommand
  exact ⟨fun _ _ _ => rfl, fun _ => step_of_nil⟩

/-- A range that becomes unpredictable leaves every byte outside it. -/
theorem Memory.read_openUp_outside (m : Memory) {lo hi x : Nat} (seed : Nat) (hx : x < lo ∨ hi ≤ x) :
    (m.openUp lo hi seed).read x = m.read x := by
  unfold Memory.openUp
  split
  next => rfl
  next hne =>
    have hx' : x < lo ∨ lo + (hi - lo) ≤ x := by omega
    have hnew : openSeed [{ lo := lo, hi := hi, seed := seed }] x = none := by
      rw [openSeed_singleton]
      exact if_neg (by dsimp only; omega)
    have hcells : cellAt (cellsOutside m.cells lo (hi - lo)) x = cellAt m.cells x :=
      cellAt_filter (fun e he => by simpa [he] using hx') m.cells
    rw [Memory.read_eq, Memory.read_eq]
    dsimp only
    rw [← List.singleton_append, openSeed_append, hnew, Option.none_or, openSeed_carveOpen_outside _ hx', hcells]

/-- Settles O6: the written range is listed whole, and cells and open regions elsewhere stay. -/
theorem stacksHoldWhatWasWritten : Obligations.StacksHoldWhatWasWritten := by
  unfold Obligations.StacksHoldWhatWasWritten
  intro m a bs
  exact ⟨m.readBytes_write a bs, fun _ => m.read_write_outside, fun _ seed _ => m.read_openUp_outside seed⟩

end Sys2Proof.Machine
end

section
/-! Zigzag (12 R253) and the status bits of the host port (18 R369). -/

namespace Sys2Proof.Machine

open Sys2Proof

/-! ### The residue of the codec -/

/-- The residue of x against p, modulo 2^w. -/
def prcResidue (w x p : Nat) : Nat := (x + 2 ^ w - p % 2 ^ w) % 2 ^ w

theorem prcResidue_lt (w x p : Nat) : prcResidue w x p < 2 ^ w := Nat.mod_lt _ (Nat.two_pow_pos w)

theorem prcZigzag_eq (w x p : Nat) :
    prcZigzag w x p = if 2 * prcResidue w x p < 2 ^ w then 2 * prcResidue w x p else 2 * (2 ^ w - prcResidue w x p) - 1 := rfl

/-- The residue read as a signed number. -/
theorem toSigned_residue {w p : Nat} (x : Nat) (hp : p < 2 ^ w) :
    toSigned w (x + 2 ^ w - p) = if 2 * prcResidue w x p < 2 ^ w then (prcResidue w x p : Int) else (prcResidue w x p : Int) - (2 ^ w : Nat) := by
  rw [prcResidue, Nat.mod_eq_of_lt hp]
  rfl

theorem prcZigzag_lt (w x p : Nat) (hw : 0 < w) : prcZigzag w x p < 2 ^ w := by
  have hlt := prcResidue_lt w x p
  have heven : 2 ^ w = 2 * 2 ^ (w - 1) := by rw [← Nat.pow_succ', Nat.succ_eq_add_one, Nat.sub_add_cancel hw]
  rw [prcZigzag_eq]
  split <;> omega

/-- The decoder's reversal gives the residue. -/
theorem prcUnzigzag_zigzag (w x p : Nat) : prcUnzigzag w (prcZigzag w x p) = prcResidue w x p := by
  have hlt := prcResidue_lt w x p
  rw [prcZigzag_eq, prcUnzigzag]
  split
  · rw [if_pos (by omega)]
    omega
  · rw [if_neg (by omega)]
    rw [Nat.mod_eq_of_lt (by omega)]
    omega

/-- A prediction and the residue against it give the element. -/
theorem add_prcResidue_mod {w x : Nat} (p : Nat) (hx : x < 2 ^ w) : (p + prcResidue w x p) % 2 ^ w = x := by
  have hp : p % 2 ^ w < 2 ^ w := Nat.mod_lt _ (Nat.two_pow_pos w)
  have hsum : p % 2 ^ w + (x + 2 ^ w - p % 2 ^ w) = x + 2 ^ w := by omega
  rw [prcResidue, Nat.add_mod_mod, ← Nat.mod_add_mod, hsum, Nat.add_mod_right, Nat.mod_eq_of_lt hx]

/-- Settles O12: zigzag sends a signed residue r to 2r or -2r - 1, and the decoder tells the two apart by their parity. -/
theorem zigzagReverses : Obligations.ZigzagReverses := by
  unfold Obligations.ZigzagReverses
  intro w x p _ hx hp
  have hlt := prcResidue_lt w x p
  rw [toSigned_residue x hp, prcUnzigzag_zigzag, prcZigzag_eq]
  refine ⟨fun hsign => ?_, fun hsign => ?_, add_prcResidue_mod p hx⟩
  · split_ifs at hsign ⊢ <;> omega
  · split_ifs at hsign ⊢ <;> omega

/-! ### Status bits -/

theorem testBit_clrBit (v i j : Nat) : (clrBit v i).testBit j = (v.testBit j && !decide (i = j)) := by
  unfold clrBit
  split
  next hi =>
    have hodd : v / 2 ^ i % 2 = 1 := by simpa [Nat.testBit_eq_decide_div_mod_eq] using hi
    have hlow : v % 2 ^ i < 2 ^ i := Nat.mod_lt _ (Nat.two_pow_pos i)
    have hv : v = 2 ^ i * (2 * (v / 2 ^ i / 2) + 1) + v % 2 ^ i := by
      rw [show 2 * (v / 2 ^ i / 2) + 1 = v / 2 ^ i by omega, Nat.div_add_mod]
    have hsub : v - 2 ^ i = 2 ^ i * (2 * (v / 2 ^ i / 2)) + v % 2 ^ i := by
      rw [Nat.mul_add_one] at hv
      omega
    rw [hsub]
    conv_rhs => rw [hv]
    rw [Nat.testBit_two_pow_mul_add _ hlow, Nat.testBit_two_pow_mul_add _ hlow]
    obtain hj | rfl | hj := Nat.lt_trichotomy j i
    · simp [hj, hj.ne']
    · simp
    · obtain ⟨k, rfl⟩ := Nat.exists_eq_add_of_lt hj
      rw [if_neg (by omega), if_neg (by omega), show i + k + 1 - i = k + 1 by omega, Nat.testBit_succ, Nat.testBit_succ]
      have hne : i ≠ i + k + 1 := by omega
      simp [hne, Nat.mul_add_div]
  next hi =>
    obtain rfl | hij := eq_or_ne i j
    · simpa using hi
    · simp [hij]

theorem testBit_setBit (v i j : Nat) : (setBit v i).testBit j = (v.testBit j || decide (j = i)) := by
  rw [setBit, Nat.testBit_or, Nat.testBit_two_pow, decide_eq_decide.mpr eq_comm]

/-- Bits cleared one after the other: a bit is left unless it is in the list and written 1. -/
theorem testBit_foldl_clrBit (w : Nat) (l : List Nat) (v j : Nat) :
    (l.foldl (fun v i => if w.testBit (i + 1) then clrBit v (i + 1) else v) v).testBit j =
      (v.testBit j && !(l.any (fun i => w.testBit (i + 1) && decide (i + 1 = j)))) := by
  induction l generalizing v with
  | nil => simp
  | cons i l ih =>
    rw [List.foldl_cons, ih, List.any_cons, Bool.not_or, ← Bool.and_assoc]
    congr 1
    split
    next hi => rw [testBit_clrBit, hi, Bool.true_and]
    next hi => rw [Bool.eq_false_iff.mpr hi]; simp

theorem testBit_irqCleared (st w i : Nat) :
    (irqCleared st w).testBit i = (st.testBit i && !(decide (1 ≤ i) && decide (i ≤ 5) && w.testBit i)) := by
  rw [irqCleared, testBit_foldl_clrBit]
  congr 2
  rw [Bool.eq_iff_iff]
  simp only [List.any_eq_true, List.mem_range, Bool.and_eq_true, decide_eq_true_eq]
  constructor
  · rintro ⟨k, hk, hw, rfl⟩
    exact ⟨⟨by omega, by omega⟩, hw⟩
  · rintro ⟨⟨hlow, hhigh⟩, hw⟩
    exact ⟨i - 1, by omega, by rwa [Nat.sub_add_cancel hlow], by omega⟩

theorem State.hbIrq_iff (s : State) : s.hbIrq = true ↔ ∃ i, s.irqStatus.testBit i = true ∧ s.mb.irqEnable.testBit i = true := by
  rw [State.hbIrq, bne_iff_ne]
  constructor
  · intro h
    obtain ⟨i, hi⟩ := Nat.exists_testBit_of_ne_zero h
    exact ⟨i, by simpa using hi⟩
  · rintro ⟨i, hi⟩ hzero
    have hbit : (s.irqStatus &&& s.mb.irqEnable).testBit i = true := by simpa using hi
    simp [hzero] at hbit

theorem State.onPort_of_on {s u : State} {dt : Nat} (hu : u = s.elapse dt) (hon : u.coreOn = true) (hdie : u.isDie = true)
    (i : Instr) (f : State → State) : s.onPort dt i f = (f u.touch).within s := by
  subst u
  rw [State.onPort, s.fromHost_of_on _ _ _ _ hon, if_pos hdie]

/-- Settles O10: each of bits 1 to 5 is cleared by its own 1, and the port writes just that. -/
theorem statusBitsClearByWritingOnes : Obligations.StatusBitsClearByWritingOnes := by
  unfold Obligations.StatusBitsClearByWritingOnes
  refine ⟨testBit_irqCleared, State.hbIrq_iff, fun s b i => testBit_setBit s.mb.irqStatus b i, ?_⟩
  intro dt w s u hu hon hdie
  refine ⟨_, congrArg Host.Outcome.next (State.onPort_of_on hu hon hdie _ _), fun i => ?_⟩
  exact testBit_irqCleared u.mb.irqStatus w i

end Sys2Proof.Machine
end

section
/-! Little-endian bytes and packed fields: what is laid out reads back (00 R10, R12, R13). -/

namespace Sys2Proof.Machine

open Sys2Proof

/-! ### Little-endian bytes -/

@[simp] theorem length_leBytes (n v : Nat) : (leBytes n v).length = n := by
  induction n generalizing v with
  | zero => rfl
  | succ n ih => rw [leBytes, List.length_cons, ih]

theorem ofLe_leBytes (n v : Nat) : ofLe (leBytes n v) = v % 2 ^ (8 * n) := by
  induction n generalizing v with
  | zero => simp [leBytes, ofLe, Nat.mod_one]
  | succ n ih =>
    have hpow : 2 ^ (8 * (n + 1)) = 256 * 2 ^ (8 * n) := by rw [Nat.mul_add_one, Nat.pow_add]; omega
    rw [leBytes, ofLe, ih, BitVec.toNat_ofNat, hpow, Nat.mod_mul]

theorem ofLe_leBytes_of_lt {n v : Nat} (h : v < 2 ^ (8 * n)) : ofLe (leBytes n v) = v := by
  rw [ofLe_leBytes, Nat.mod_eq_of_lt h]

theorem ofLe_lt (bs : Bytes) : ofLe bs < 2 ^ (8 * bs.length) := by
  induction bs with
  | nil => simp [ofLe]
  | cons b bs ih =>
    have hb : b.toNat < 256 := b.isLt
    have hpow : 2 ^ (8 * (bs.length + 1)) = 256 * 2 ^ (8 * bs.length) := by rw [Nat.mul_add_one, Nat.pow_add]; omega
    rw [ofLe, List.length_cons, hpow]
    omega

/-- A byte string is the little-endian bytes of its value. -/
theorem leBytes_ofLe (bs : Bytes) : leBytes bs.length (ofLe bs) = bs := by
  induction bs with
  | nil => rfl
  | cons b bs ih =>
    have hb : b.toNat < 256 := b.isLt
    have hhead : BitVec.ofNat 8 (b.toNat + 256 * ofLe bs) = b := by
      apply BitVec.eq_of_toNat_eq
      rw [BitVec.toNat_ofNat]
      omega
    have htail : (b.toNat + 256 * ofLe bs) / 256 = ofLe bs := by omega
    rw [List.length_cons, ofLe, leBytes, hhead, htail, ih]

/-- The bytes in front of others are read alone. -/
theorem take_leBytes_append (n v : Nat) (bs : Bytes) : (leBytes n v ++ bs).take n = leBytes n v := by
  rw [List.take_append_of_le_length (by simp), List.take_of_length_le (by simp)]

theorem drop_leBytes_append (n v : Nat) (bs : Bytes) : (leBytes n v ++ bs).drop n = bs := by
  rw [List.drop_append_of_le_length (by simp), List.drop_of_length_le (by simp), List.nil_append]

/-! ### Packed fields -/

/-- Bits that a list of fields takes. -/
def fieldsWidth (fields : List (Nat × Nat)) : Nat := (fields.map (·.1)).sum

theorem packBits_concat (fields : List (Nat × Nat)) (f : Nat × Nat) :
    packBits (fields ++ [f]) = packBits fields * 2 ^ f.1 + f.2 % 2 ^ f.1 := by
  rw [packBits, List.foldl_append]
  rfl

/-- Fields after others take the low bits. -/
theorem packBits_append (high low : List (Nat × Nat)) :
    packBits (high ++ low) = packBits high * 2 ^ fieldsWidth low + packBits low ∧ packBits low < 2 ^ fieldsWidth low := by
  induction low using List.reverseRecOn with
  | nil => simp [packBits, fieldsWidth]
  | append_singleton low f ih =>
    obtain ⟨hsum, hlt⟩ := ih
    have hwidth : fieldsWidth (low ++ [f]) = fieldsWidth low + f.1 := by simp [fieldsWidth]
    have hf : f.2 % 2 ^ f.1 < 2 ^ f.1 := Nat.mod_lt _ (Nat.two_pow_pos _)
    rw [← List.append_assoc, packBits_concat, packBits_concat, hsum, hwidth, Nat.pow_add]
    constructor
    · ring
    · calc packBits low * 2 ^ f.1 + f.2 % 2 ^ f.1 < packBits low * 2 ^ f.1 + 2 ^ f.1 := by omega
        _ = (packBits low + 1) * 2 ^ f.1 := by ring
        _ ≤ 2 ^ fieldsWidth low * 2 ^ f.1 := Nat.mul_le_mul_right _ hlt

/-- Packed fields that fill the bytes laid out are read whole. -/
theorem ofLe_leBytes_packBits {fields : List (Nat × Nat)} {n : Nat} (h : fieldsWidth fields = 8 * n) :
    ofLe (leBytes n (packBits fields)) = packBits fields := ofLe_leBytes_of_lt (h ▸ (packBits_append [] fields).2)

theorem packBits_lt (fields : List (Nat × Nat)) : packBits fields < 2 ^ fieldsWidth fields := (packBits_append [] fields).2

/-- A field is read at the bits that the fields behind it leave. -/
theorem fieldOf_packBits_append (high : List (Nat × Nat)) (n v : Nat) (low : List (Nat × Nat)) (hi lo : Nat)
    (hlo : fieldsWidth low = lo) (hhi : hi + 1 - lo = n) : fieldOf (packBits (high ++ (n, v) :: low)) hi lo = v % 2 ^ n := by
  subst hlo
  obtain ⟨hsum, hlt⟩ := packBits_append (high ++ [(n, v)]) low
  rw [List.append_assoc, List.singleton_append] at hsum
  rw [fieldOf, hhi, hsum, Nat.mul_comm, Nat.mul_add_div (Nat.two_pow_pos _), Nat.div_eq_of_lt hlt, Nat.add_zero, packBits_concat,
    Nat.mul_comm, Nat.mul_add_mod, Nat.mod_mod]

/-- Field `i` of a list, at the bits that the list gives it, where its value fits. -/
theorem fieldOf_packBits {fields : List (Nat × Nat)} (i : Nat) {n v hi lo : Nat} (hv : v < 2 ^ n) (hi' : fields[i]? = some (n, v))
    (hlo : fieldsWidth (fields.drop (i + 1)) = lo) (hhi : hi + 1 - lo = n) : fieldOf (packBits fields) hi lo = v := by
  obtain ⟨hlt, hget⟩ := List.getElem?_eq_some_iff.mp hi'
  have hsplit : fields = fields.take i ++ (n, v) :: fields.drop (i + 1) := by
    rw [← hget, List.cons_getElem_drop_succ, List.take_append_drop]
  rw [hsplit, fieldOf_packBits_append _ n v _ hi lo hlo hhi, Nat.mod_eq_of_lt hv]

theorem bit_lt_two_pow_one (b : Bool) : bit b < 2 ^ 1 := by cases b <;> decide

/-- One bit of a value, as a field. -/
theorem testBit_eq_fieldOf (v i : Nat) : v.testBit i = (fieldOf v i i == 1) := by
  rw [Nat.testBit_eq_decide_div_mod_eq, fieldOf, Nat.add_sub_cancel_left, pow_one]
  exact (beq_eq_decide _ _).symm

theorem bit_beq_one (b : Bool) : (bit b == 1) = b := by cases b <;> rfl

/-- A field within a field. -/
theorem fieldOf_fieldOf (v : Nat) {hi lo a b : Nat} (h : b + lo ≤ hi) : fieldOf (fieldOf v hi lo) b a = fieldOf v (b + lo) (a + lo) := by
  refine Nat.eq_of_testBit_eq fun i => ?_
  simp only [fieldOf, Nat.testBit_mod_two_pow, Nat.testBit_div_two_pow, Nat.add_assoc]
  by_cases hi' : i < b + 1 - a
  · have hhigh : i + a < hi + 1 - lo := by omega
    have hlow : i < b + (lo + 1) - (a + lo) := by omega
    simp only [hi', hhigh, hlow, decide_true, Bool.true_and]
  · have hlow : ¬ i < b + (lo + 1) - (a + lo) := by omega
    simp only [hi', hlow, decide_false, Bool.false_and]

/-- A field beyond the first byte lies in the rest. -/
theorem fieldOf_add_mul (b x hi lo : Nat) (hb : b < 256) : fieldOf (b + 256 * x) (hi + 8) (lo + 8) = fieldOf x hi lo := by
  have hpow : 2 ^ (lo + 8) = 256 * 2 ^ lo := by rw [Nat.pow_add, Nat.mul_comm]
  rw [fieldOf, fieldOf, hpow, ← Nat.div_div_eq_div_mul, show (b + 256 * x) / 256 = x by omega, Nat.add_right_comm, Nat.add_sub_add_right]

/-- Byte `i` of a little-endian value. -/
theorem fieldOf_ofLe (bs : Bytes) (i : Nat) : fieldOf (ofLe bs) (8 * i + 7) (8 * i) = byteAt bs i := by
  induction bs generalizing i with
  | nil => simp [ofLe, fieldOf, byteAt]
  | cons b bs ih =>
    have hb : b.toNat < 256 := b.isLt
    cases i with
    | zero =>
      show (b.toNat + 256 * ofLe bs) / 2 ^ 0 % 2 ^ 8 = b.toNat
      omega
    | succ i =>
      have hstep := fieldOf_add_mul b.toNat (ofLe bs) (8 * i + 7) (8 * i) hb
      rw [ofLe, show 8 * (i + 1) + 7 = 8 * i + 7 + 8 by ring, show 8 * (i + 1) = 8 * i + 8 by ring, hstep, ih]
      rfl

/-! ### Messages (Tables 15-1, 09-4, 07-1, 18-4) -/

/-- The path of a request is read back byte by byte. -/
theorem path_bytes {path : List Nat} (hlen : path.length ≤ 6) (hfits : ∀ x ∈ path, x < 2 ^ 8) {i : Nat} (hi : i < path.length) :
    byteAt ((path.take 6).map (BitVec.ofNat 8)) i = path[i] := by
  have hx : path[i] < 256 := hfits _ (List.getElem_mem hi)
  rw [List.take_of_length_le hlen, byteAt, List.getD_eq_getElem?_getD, List.getElem?_map, List.getElem?_eq_getElem hi]
  exact Nat.mod_eq_of_lt hx

/-- The value of a request's path, hop by hop. -/
def DapReq.pathVal (r : DapReq) : Nat := ofLe ((r.path.take 6).map (BitVec.ofNat 8))

/-- The fields of a request's header (Table 15-1). -/
def DapReq.fields (r : DapReq) : List (Nat × Nat) := [(8, 1), (2, 0), (6, r.op), (16, r.reqId), (16, r.idx), (8, r.sub), (8, 0), (8, 0),
  (3, r.tlevel), (17, r.tdie), (4, r.path.length), (48, r.pathVal), (16, r.data.length), (32, r.offset), (32, r.total), (32, 0)]

/-- The widths of those fields. -/
def dapWidths : List Nat := [8, 2, 6, 16, 16, 8, 8, 8, 3, 17, 4, 48, 16, 32, 32, 32]

theorem DapReq.widths_eq (r : DapReq) : r.fields.map (·.1) = dapWidths := rfl

theorem DapReq.fieldsWidth_eq (r : DapReq) : fieldsWidth r.fields = 8 * 32 := by
  rw [fieldsWidth, r.widths_eq]
  decide

/-- Field `i` of a request's header, at the bits that Table 15-1 gives it. -/
theorem DapReq.field_read (r : DapReq) (i : Nat) {n v hi lo : Nat} (hv : v < 2 ^ n) (hget : r.fields[i]? = some (n, v))
    (hlo : (dapWidths.drop (i + 1)).sum = lo) (hhi : hi + 1 - lo = n) : fieldOf (packBits r.fields) hi lo = v := by
  refine fieldOf_packBits i hv hget ?_ hhi
  rw [fieldsWidth, List.map_drop, r.widths_eq, hlo]

theorem DapReq.bytes_eq (r : DapReq) : r.bytes = leBytes 32 (packBits r.fields) ++ r.data := by
  rw [DapReq.bytes, dapHeader, DapReq.fields, DapReq.pathVal]

/-- A DAP request reads back (Table 15-1). -/
theorem dapReq_readBack (r : DapReq) (h : r.ok = true) : DapReq.read? r.bytes = some r := by
  simp only [DapReq.ok, isDieId, fits, Bool.and_eq_true, decide_eq_true_eq, List.all_eq_true] at h
  obtain ⟨⟨⟨⟨⟨⟨⟨⟨⟨⟨hop, hreq⟩, hidx⟩, hsub⟩, htlevel⟩, htdie⟩, hlen⟩, hpath⟩, hoffset⟩, htotal⟩, hdata⟩ := h
  have hpathVal : r.pathVal < 2 ^ 48 := (ofLe_lt _).trans_le (Nat.pow_le_pow_right (by omega) (by simp; omega))
  have hv : ofLe (r.bytes.take 32) = packBits r.fields := by
    rw [r.bytes_eq, take_leBytes_append, ofLe_leBytes_packBits r.fieldsWidth_eq]
  have hkind : fieldOf (packBits r.fields) 255 248 = 1 := r.field_read 0 (by decide) rfl (by decide) rfl
  have hreserved : fieldOf (packBits r.fields) 247 246 = 0 := r.field_read 1 (by decide) rfl (by decide) rfl
  have hop' : fieldOf (packBits r.fields) 245 240 = r.op := r.field_read 2 hop rfl (by decide) rfl
  have hreq' : fieldOf (packBits r.fields) 239 224 = r.reqId := r.field_read 3 hreq rfl (by decide) rfl
  have hidx' : fieldOf (packBits r.fields) 223 208 = r.idx := r.field_read 4 hidx rfl (by decide) rfl
  have hsub' : fieldOf (packBits r.fields) 207 200 = r.sub := r.field_read 5 hsub rfl (by decide) rfl
  have htlevel' : fieldOf (packBits r.fields) 183 181 = r.tlevel := r.field_read 8 htlevel rfl (by decide) rfl
  have htdie' : fieldOf (packBits r.fields) 180 164 = r.tdie := r.field_read 9 htdie rfl (by decide) rfl
  have hlen' : fieldOf (packBits r.fields) 163 160 = r.path.length := r.field_read 10 (by omega) rfl (by decide) rfl
  have hpath' : fieldOf (packBits r.fields) 159 112 = r.pathVal := r.field_read 11 hpathVal rfl (by decide) rfl
  have hdata' : fieldOf (packBits r.fields) 111 96 = r.data.length := r.field_read 12 (by omega) rfl (by decide) rfl
  have hoffset' : fieldOf (packBits r.fields) 95 64 = r.offset := r.field_read 13 hoffset rfl (by decide) rfl
  have htotal' : fieldOf (packBits r.fields) 63 32 = r.total := r.field_read 14 htotal rfl (by decide) rfl
  have hpathBack : (List.range r.path.length).map (fun i => fieldOf (packBits r.fields) (8 * i + 119) (8 * i + 112)) = r.path := by
    refine List.ext_getElem (by simp) fun i _ hi => ?_
    rw [List.getElem_map, List.getElem_range, ← path_bytes hlen hpath hi, ← fieldOf_ofLe, ← DapReq.pathVal, ← hpath', fieldOf_fieldOf _ (by omega)]
  have hlong : ¬ r.bytes.length < 32 := by simp [r.bytes_eq]
  have hrest : (r.bytes.drop 32).take r.data.length = r.data := by rw [r.bytes_eq, drop_leBytes_append, List.take_length]
  simp only [DapReq.read?, hv, hkind, hreserved, hop', hreq', hidx', hsub', htlevel', htdie', hlen', hdata', hoffset', htotal', hpathBack, hrest,
    hlong, ne_eq, not_true_eq_false, or_self, if_false]

/-- The fields of an epoch entry (Table 09-4). -/
def EpochEntry.fields : EpochEntry → List (Nat × Nat)
  | .die id job member => [(1, 0), (17, id), (16, job), (1, bit member), (29, 0)]
  | .size job count => [(1, 1), (16, job), (18, count), (29, 0)]

theorem EpochEntry.bytes_eq (e : EpochEntry) : e.bytes = leBytes 8 (packBits e.fields) := by cases e <;> rfl

theorem EpochEntry.fieldsWidth_eq (e : EpochEntry) : fieldsWidth e.fields = 8 * 8 := by cases e <;> rfl

/-- An epoch entry reads back, whatever follows it (Table 09-4). -/
theorem epochEntry_readBack (e : EpochEntry) (rest : Bytes) (h : e.ok = true) :
    e.bytes.length = 8 ∧ EpochEntry.decode (e.bytes ++ rest) = e := by
  have hv : ofLe ((e.bytes ++ rest).take 8) = packBits e.fields := by
    rw [e.bytes_eq, take_leBytes_append, ofLe_leBytes_packBits e.fieldsWidth_eq]
  refine ⟨by rw [e.bytes_eq, length_leBytes], ?_⟩
  cases e with
  | die id job member =>
    simp only [EpochEntry.ok, isDieId, fits, Bool.and_eq_true, decide_eq_true_eq] at h
    obtain ⟨hid, hjob⟩ := h
    have hkind : fieldOf (packBits (EpochEntry.die id job member).fields) 63 63 = 0 := fieldOf_packBits 0 (by decide) rfl rfl rfl
    have hid' : fieldOf (packBits (EpochEntry.die id job member).fields) 62 46 = id := fieldOf_packBits 1 hid rfl rfl rfl
    have hjob' : fieldOf (packBits (EpochEntry.die id job member).fields) 45 30 = job := fieldOf_packBits 2 hjob rfl rfl rfl
    have hmember : fieldOf (packBits (EpochEntry.die id job member).fields) 29 29 = bit member :=
      fieldOf_packBits 3 (bit_lt_two_pow_one member) rfl rfl rfl
    simp only [EpochEntry.decode, hv, testBit_eq_fieldOf, hkind, hid', hjob', hmember, bit_beq_one]
    rfl
  | size job count =>
    simp only [EpochEntry.ok, fits, Bool.and_eq_true, decide_eq_true_eq] at h
    obtain ⟨hjob, hcount⟩ := h
    have hkind : fieldOf (packBits (EpochEntry.size job count).fields) 63 63 = 1 := fieldOf_packBits 0 (by decide) rfl rfl rfl
    have hjob' : fieldOf (packBits (EpochEntry.size job count).fields) 62 47 = job := fieldOf_packBits 1 hjob rfl rfl rfl
    have hcount' : fieldOf (packBits (EpochEntry.size job count).fields) 46 29 = count := fieldOf_packBits 2 hcount rfl rfl rfl
    simp only [EpochEntry.decode, hv, testBit_eq_fieldOf, hkind, hjob', hcount']
    rfl

/-- Entries in a row are eight bytes each. -/
theorem length_entries {es : List EpochEntry} (h : ∀ e ∈ es, e.ok = true) : ((es.map EpochEntry.bytes).flatten).length = 8 * es.length := by
  induction es with
  | nil => rfl
  | cons e es ih =>
    obtain ⟨he, hes⟩ := List.forall_mem_cons.mp h
    rw [List.map_cons, List.flatten_cons, List.length_append, ih hes, (epochEntry_readBack e [] he).1, List.length_cons]
    ring

theorem entries_readBack (es : List EpochEntry) (h : ∀ e ∈ es, e.ok = true) : decodeEntries ((es.map EpochEntry.bytes).flatten) = es := by
  rw [decodeEntries, length_entries h, Nat.mul_div_cancel_left _ (by omega)]
  induction es with
  | nil => rfl
  | cons e es ih =>
    obtain ⟨he, hes⟩ := List.forall_mem_cons.mp h
    obtain ⟨hlen, -⟩ := epochEntry_readBack e [] he
    rw [List.map_cons, List.flatten_cons, List.length_cons, List.range_succ_eq_map, List.map_cons, List.map_map, Nat.mul_zero,
      List.drop_zero, (epochEntry_readBack e _ he).2]
    refine congrArg (e :: ·) (Eq.trans (List.map_congr_left fun i _ => ?_) (ih hes))
    rw [Function.comp_apply, Nat.mul_succ, Nat.add_comm, ← List.drop_drop, List.drop_left' hlen]

/-- A signed number within its width reads back from its pattern in the low bits. -/
theorem toSigned_of_mod {n v : Nat} (hn : 0 < n) {i : Int} (hv : v % 2 ^ n = ofSigned n i) (hlow : -(2 ^ (n - 1) : Int) ≤ i)
    (hhigh : i < 2 ^ (n - 1)) : toSigned n v = i := by
  have htwo : (2 ^ n : Nat) = 2 * 2 ^ (n - 1) := by rw [← Nat.pow_succ', Nat.succ_eq_add_one, Nat.sub_add_cancel hn]
  have hcast : ((2 ^ (n - 1) : Nat) : Int) = 2 ^ (n - 1) := by push_cast; rfl
  rw [← hcast] at hlow hhigh
  rw [toSigned, hv, ofSigned, htwo]
  generalize 2 ^ (n - 1) = m at hlow hhigh
  have hmod : i % ((2 * m : Nat) : Int) = if 0 ≤ i then i else i + 2 * m := by
    split
    · exact Int.emod_eq_of_lt (by omega) (by push_cast; omega)
    · rw [← Int.add_emod_right]
      exact Int.emod_eq_of_lt (by push_cast; omega) (by push_cast; omega)
  rw [hmod]
  split_ifs <;> omega

/-- The fields of a field descriptor (Table 07-1). -/
def FieldDesc.fields (d : FieldDesc) : List (Nat × Nat) :=
  [(4, d.op), (4, d.srcKind), (12, d.srcIndex), (2, d.codeMode), (6, d.hshift), (36, 0), (64, ofSigned 64 d.hbase)]

theorem FieldDesc.bytes_eq (d : FieldDesc) : d.bytes = leBytes 16 (packBits d.fields) := by rw [FieldDesc.bytes, FieldDesc.fields]

theorem ofSigned_lt (n : Nat) (i : Int) : ofSigned n i < 2 ^ n := by
  have hpos : (0 : Int) < ((2 ^ n : Nat) : Int) := mod_cast Nat.two_pow_pos n
  have := Int.emod_nonneg i hpos.ne'
  have := Int.emod_lt_of_pos i hpos
  rw [ofSigned]
  omega

theorem fieldDesc_readBack (d : FieldDesc) (hop : d.op < 16) (hkind : d.srcKind < 16) (hindex : d.srcIndex < 4096) (hmode : d.codeMode < 4)
    (hshift : d.hshift < 64) (hlow : -(2 ^ 63 : Int) ≤ d.hbase) (hhigh : d.hbase < 2 ^ 63) : FieldDesc.decode d.bytes = d := by
  have hv : ofLe (d.bytes.take 16) = packBits d.fields := by
    rw [d.bytes_eq, List.take_of_length_le (by simp), ofLe_leBytes_packBits rfl]
  have hop' : fieldOf (packBits d.fields) 127 124 = d.op := fieldOf_packBits 0 hop rfl rfl rfl
  have hkind' : fieldOf (packBits d.fields) 123 120 = d.srcKind := fieldOf_packBits 1 hkind rfl rfl rfl
  have hindex' : fieldOf (packBits d.fields) 119 108 = d.srcIndex := fieldOf_packBits 2 hindex rfl rfl rfl
  have hmode' : fieldOf (packBits d.fields) 107 106 = d.codeMode := fieldOf_packBits 3 hmode rfl rfl rfl
  have hshift' : fieldOf (packBits d.fields) 105 100 = d.hshift := fieldOf_packBits 4 hshift rfl rfl rfl
  have hbase' : fieldOf (packBits d.fields) 63 0 = ofSigned 64 d.hbase := fieldOf_packBits 6 (ofSigned_lt 64 d.hbase) rfl rfl rfl
  have hbase : toSigned 64 (packBits d.fields) = d.hbase := by
    refine toSigned_of_mod (by decide) ?_ hlow hhigh
    rw [← hbase', fieldOf, pow_zero, Nat.div_one]
  simp only [FieldDesc.decode, hv, hop', hkind', hindex', hmode', hshift', hbase]

/-! ### Messages of the command-event port (Table 18-4) -/

theorem toNat_ceBits {op : Nat} {fields : List (Nat × Nat)} (h : fieldsWidth ((8, op) :: fields) = 128) :
    (ceBits op fields).toNat = packBits ((8, op) :: fields) := by
  rw [ceBits, BitVec.toNat_ofNat, Nat.mod_eq_of_lt (h ▸ packBits_lt _)]

/-- The fields of a message of the port (Table 18-4), without its OP. -/
def CeMsg.fields : CeMsg → List (Nat × Nat)
  | .begin_ cmd engine cls tag tile dup => [(17, cmd), (11, engine), (4, cls), (16, tag), (32, tile), (1, bit dup), (39, 0)]
  | .end_ cmd engine cls => [(17, cmd), (11, engine), (4, cls), (88, 0)]
  | .bytes engine level dir count => [(17, 0), (11, engine), (2, level), (1, dir), (25, 0), (64, count)]
  | .linkBytes link dir count => [(24, 0), (6, link), (1, dir), (25, 0), (64, count)]
  | .arrive barrier => [(12, barrier), (108, 0)]
  | .tagOpen tag base => [(32, 0), (16, tag), (8, 0), (64, base)]
  | .tagClose tag => [(32, 0), (16, tag), (72, 0)]
  | .bktOpen slot side base => [(6, slot), (1, side), (49, 0), (64, base)]
  | .bktClose slot side engine => [(6, slot), (1, side), (10, 0), (11, engine), (92, 0)]
  | .dupDecline slot => [(6, slot), (114, 0)]
  | .shardOpen slot dir shardId => [(4, slot), (1, dir), (3, 0), (32, shardId), (80, 0)]
  | .shardRange slot length base => [(4, slot), (4, 0), (48, length), (64, base)]
  | .shardClose slot copyDone => [(4, slot), (1, bit copyDone), (115, 0)]
  | .ckptBoundary => [(120, 0)]

/-- The OP of a message of the port (Table 18-4). -/
def CeMsg.op : CeMsg → Nat
  | .begin_ .. => 0x01
  | .end_ .. => 0x02
  | .bytes .. => 0x03
  | .linkBytes .. => 0x04
  | .arrive .. => 0x05
  | .tagOpen .. => 0x06
  | .tagClose .. => 0x07
  | .bktOpen .. => 0x08
  | .bktClose .. => 0x09
  | .dupDecline .. => 0x0A
  | .shardOpen .. => 0x0B
  | .shardRange .. => 0x0C
  | .shardClose .. => 0x0D
  | .ckptBoundary => 0x0E

theorem CeMsg.bits_eq (m : CeMsg) : m.bits = ceBits m.op m.fields := by cases m <;> rfl

theorem CeMsg.fieldsWidth_eq (m : CeMsg) : fieldsWidth ((8, m.op) :: m.fields) = 128 := by cases m <;> rfl

theorem CeMsg.op_lt (m : CeMsg) : m.op < 2 ^ 8 := by
  cases m <;> exact Nat.lt_of_le_of_lt (by simp only [CeMsg.op]; decide : _ ≤ 0x0E) (by decide)

theorem CeMsg.opBelow_eq (m : CeMsg) : fieldsWidth m.fields = 120 := by cases m <;> rfl

theorem CeMsg.toNat_bits (m : CeMsg) : m.bits.toNat = packBits ((8, m.op) :: m.fields) := by
  rw [m.bits_eq, toNat_ceBits m.fieldsWidth_eq]

theorem CeMsg.op_read (m : CeMsg) : fieldOf m.bits.toNat 127 120 = m.op := by
  rw [m.toNat_bits]
  exact fieldOf_packBits 0 m.op_lt rfl m.opBelow_eq rfl

/-- Field `i` of a message, at the bits that Table 18-4 gives it. -/
theorem CeMsg.field_read (m : CeMsg) (i : Nat) {n v hi lo : Nat} (hv : v < 2 ^ n) (hget : m.fields[i]? = some (n, v))
    (hlo : fieldsWidth (m.fields.drop (i + 1)) = lo) (hhi : hi + 1 - lo = n) : fieldOf m.bits.toNat hi lo = v := by
  rw [m.toNat_bits]
  exact fieldOf_packBits (i + 1) hv hget hlo hhi

/-- A message of the port reads back: its OP picks the row, which reads each field where it was put. -/
theorem ceMsg_readBack (m : CeMsg) (h : m.ok = true) : CeMsg.ofBits? m.bits = some m := by
  have hop := m.op_read
  have hflag {i lo : Nat} {b : Bool} (hget : m.fields[i]? = some (1, bit b)) (hlo : fieldsWidth (m.fields.drop (i + 1)) = lo) :
      (fieldOf m.bits.toNat lo lo == 1) = b := by
    rw [m.field_read i (bit_lt_two_pow_one b) hget hlo (Nat.add_sub_cancel_left ..), bit_beq_one]
  cases m <;> simp only [CeMsg.ok, fits, Bool.and_eq_true, decide_eq_true_eq] at h <;>
    simp only [CeMsg.ofBits?, hop, CeMsg.op, Option.some.injEq]
  case begin_ cmd engine cls tag tile dup =>
    obtain ⟨⟨⟨⟨hcmd, hengine⟩, hcls⟩, htag⟩, htile⟩ := h
    rw [CeMsg.begin_.injEq]
    exact ⟨CeMsg.field_read _ 0 hcmd rfl rfl rfl, CeMsg.field_read _ 1 hengine rfl rfl rfl, CeMsg.field_read _ 2 hcls rfl rfl rfl,
      CeMsg.field_read _ 3 htag rfl rfl rfl, CeMsg.field_read _ 4 htile rfl rfl rfl, hflag (i := 5) rfl rfl⟩
  case end_ cmd engine cls =>
    obtain ⟨⟨hcmd, hengine⟩, hcls⟩ := h
    rw [CeMsg.end_.injEq]
    exact ⟨CeMsg.field_read _ 0 hcmd rfl rfl rfl, CeMsg.field_read _ 1 hengine rfl rfl rfl, CeMsg.field_read _ 2 hcls rfl rfl rfl⟩
  case bytes engine level dir count =>
    obtain ⟨⟨⟨hengine, hlevel⟩, hdir⟩, hcount⟩ := h
    rw [CeMsg.bytes.injEq]
    exact ⟨CeMsg.field_read _ 1 hengine rfl rfl rfl, CeMsg.field_read _ 2 hlevel rfl rfl rfl, CeMsg.field_read _ 3 hdir rfl rfl rfl,
      CeMsg.field_read _ 5 hcount rfl rfl rfl⟩
  case linkBytes link dir count =>
    obtain ⟨⟨hlink, hdir⟩, hcount⟩ := h
    rw [CeMsg.linkBytes.injEq]
    exact ⟨CeMsg.field_read _ 1 hlink rfl rfl rfl, CeMsg.field_read _ 2 hdir rfl rfl rfl, CeMsg.field_read _ 4 hcount rfl rfl rfl⟩
  case arrive barrier => exact congrArg CeMsg.arrive (CeMsg.field_read _ 0 h rfl rfl rfl)
  case tagOpen tag base =>
    obtain ⟨htag, hbase⟩ := h
    rw [CeMsg.tagOpen.injEq]
    exact ⟨CeMsg.field_read _ 1 htag rfl rfl rfl, CeMsg.field_read _ 3 hbase rfl rfl rfl⟩
  case tagClose tag => exact congrArg CeMsg.tagClose (CeMsg.field_read _ 1 h rfl rfl rfl)
  case bktOpen slot side base =>
    obtain ⟨⟨hslot, hside⟩, hbase⟩ := h
    rw [CeMsg.bktOpen.injEq]
    exact ⟨CeMsg.field_read _ 0 hslot rfl rfl rfl, CeMsg.field_read _ 1 hside rfl rfl rfl, CeMsg.field_read _ 3 hbase rfl rfl rfl⟩
  case bktClose slot side engine =>
    obtain ⟨⟨hslot, hside⟩, hengine⟩ := h
    rw [CeMsg.bktClose.injEq]
    exact ⟨CeMsg.field_read _ 0 hslot rfl rfl rfl, CeMsg.field_read _ 1 hside rfl rfl rfl, CeMsg.field_read _ 3 hengine rfl rfl rfl⟩
  case dupDecline slot => exact congrArg CeMsg.dupDecline (CeMsg.field_read _ 0 h rfl rfl rfl)
  case shardOpen slot dir shardId =>
    obtain ⟨⟨hslot, hdir⟩, hshard⟩ := h
    rw [CeMsg.shardOpen.injEq]
    exact ⟨CeMsg.field_read _ 0 hslot rfl rfl rfl, CeMsg.field_read _ 1 hdir rfl rfl rfl, CeMsg.field_read _ 3 hshard rfl rfl rfl⟩
  case shardRange slot length base =>
    obtain ⟨⟨hslot, hlength⟩, hbase⟩ := h
    rw [CeMsg.shardRange.injEq]
    exact ⟨CeMsg.field_read _ 0 hslot rfl rfl rfl, CeMsg.field_read _ 2 hlength rfl rfl rfl, CeMsg.field_read _ 3 hbase rfl rfl rfl⟩
  case shardClose slot copyDone =>
    rw [CeMsg.shardClose.injEq]
    exact ⟨CeMsg.field_read _ 0 h rfl rfl rfl, hflag (i := 1) rfl rfl⟩

/-- Settles O15: each message packs its fields side by side, so each field is read at its own bits. -/
theorem messagesReadBack : Obligations.MessagesReadBack := by
  unfold Obligations.MessagesReadBack
  refine ⟨dapReq_readBack, fun e h => ?_, entries_readBack, fun d => fieldDesc_readBack d, ceMsg_readBack⟩
  simpa only [List.append_nil] using epochEntry_readBack e [] h

end Sys2Proof.Machine
end

section
/-! The codec gives back every block (chapter 12): a stream of bits that ends where the next field begins, codewords, vectors, and the
block with its header. -/

namespace Sys2Proof.Machine

open Sys2Proof

/-! ### Runs of bits and their extensions -/

/-- A run's value has no bits beyond its length. -/
def BitRun.fits (r : BitRun) : Prop := r.val < 2 ^ r.len

/-- Run `t` begins with the bits of `r`. -/
def BitRun.leads (r t : BitRun) : Prop := r.len ≤ t.len ∧ t.val % 2 ^ r.len = r.val

theorem BitRun.fits.leads_self {r : BitRun} (h : r.fits) : r.leads r := ⟨le_rfl, Nat.mod_eq_of_lt h⟩

theorem BitRun.leads.trans {r t u : BitRun} (h : r.leads t) (k : t.leads u) : r.leads u := by
  refine ⟨h.1.trans k.1, ?_⟩
  rw [← h.2, ← k.2, Nat.mod_mod_of_dvd _ (Nat.pow_dvd_pow 2 h.1)]

theorem BitRun.push_len (r : BitRun) (m v : Nat) : (r.push m v).len = r.len + m := rfl

theorem BitRun.fits.push {r : BitRun} (h : r.fits) (m v : Nat) : (r.push m v).fits := by
  have hv : v % 2 ^ m < 2 ^ m := Nat.mod_lt _ (Nat.two_pow_pos m)
  have hr : r.val < 2 ^ r.len := h
  show r.val + v % 2 ^ m * 2 ^ r.len < 2 ^ (r.len + m)
  calc r.val + v % 2 ^ m * 2 ^ r.len < 2 ^ r.len + v % 2 ^ m * 2 ^ r.len := by omega
    _ = (v % 2 ^ m + 1) * 2 ^ r.len := by ring
    _ ≤ 2 ^ m * 2 ^ r.len := Nat.mul_le_mul_right _ hv
    _ = 2 ^ (r.len + m) := by rw [Nat.pow_add, Nat.mul_comm]

theorem BitRun.fits.leads_push {r : BitRun} (h : r.fits) (m v : Nat) : r.leads (r.push m v) := by
  refine ⟨Nat.le_add_right .., ?_⟩
  show (r.val + v % 2 ^ m * 2 ^ r.len) % 2 ^ r.len = r.val
  rw [Nat.add_mul_mod_self_right, Nat.mod_eq_of_lt h]

/-- Two pushes are one of both values side by side. -/
theorem BitRun.push_push (r : BitRun) (a v b w : Nat) : (r.push a v).push b w = r.push (a + b) (v % 2 ^ a + w % 2 ^ b * 2 ^ a) := by
  have hv : v % 2 ^ a < 2 ^ a := Nat.mod_lt _ (Nat.two_pow_pos a)
  have hw : w % 2 ^ b < 2 ^ b := Nat.mod_lt _ (Nat.two_pow_pos b)
  have hlt : v % 2 ^ a + w % 2 ^ b * 2 ^ a < 2 ^ (a + b) := by
    calc v % 2 ^ a + w % 2 ^ b * 2 ^ a < 2 ^ a + w % 2 ^ b * 2 ^ a := by omega
      _ = (w % 2 ^ b + 1) * 2 ^ a := by ring
      _ ≤ 2 ^ b * 2 ^ a := Nat.mul_le_mul_right _ hw
      _ = 2 ^ (a + b) := by rw [Nat.pow_add, Nat.mul_comm]
  simp only [BitRun.push, BitRun.mk.injEq]
  constructor
  · rw [Nat.mod_eq_of_lt hlt, Nat.pow_add]
    ring
  · ring

/-- A stream read at a position. -/
def BitRun.at_ (t : BitRun) (n : Nat) : BitRead := { val := t.val, len := t.len, pos := n }

/-- What was pushed is read at its place. -/
theorem BitRun.fits.get?_push {r t : BitRun} (hr : r.fits) {m v : Nat} (h : (r.push m v).leads t) :
    (t.at_ r.len).get? m = some (v % 2 ^ m, t.at_ (r.len + m)) := by
  obtain ⟨hlen, hval⟩ := h
  have hlen' : ¬ t.len < r.len + m := Nat.not_lt.mpr hlen
  have hval' : t.val % 2 ^ (r.len + m) = r.val + v % 2 ^ m * 2 ^ r.len := hval
  have hbits : t.val / 2 ^ r.len % 2 ^ m = v % 2 ^ m := by
    rw [← Nat.mod_mul_right_div_self, ← Nat.pow_add, hval', Nat.add_mul_div_right _ _ (Nat.two_pow_pos _), Nat.div_eq_of_lt hr, Nat.zero_add]
  simp only [BitRun.at_, BitRead.get?, if_neg hlen', hbits]

/-! ### Codewords (12 R254, R255) -/

/-- A row of ones and the zero behind it begin with a one. -/
theorem BitRun.push_ones_succ (r : BitRun) (m q : Nat) (hq : q ≤ m) :
    r.push (m + 1) (2 ^ (q + 1) - 1) = (r.push 1 1).push m (2 ^ q - 1) := by
  have hpos := Nat.two_pow_pos q
  have hle : 2 ^ q ≤ 2 ^ m := Nat.pow_le_pow_right (by omega) hq
  rw [BitRun.push_push, Nat.add_comm 1 m, Nat.mod_eq_of_lt (by omega : 2 ^ q - 1 < 2 ^ m)]
  congr 1
  rw [Nat.pow_succ]
  omega

/-- Fewer ones than the limit: their count, up to the zero behind them. -/
theorem prcUnary_of_stop {n q : Nat} (hq : q < n) (acc : Nat) {r t : BitRun} (hr : r.fits) (h : (r.push (q + 1) (2 ^ q - 1)).leads t) :
    prcUnary n acc (t.at_ r.len) = some (acc + q, t.at_ (r.len + (q + 1))) := by
  induction q generalizing n acc r with
  | zero =>
    obtain ⟨n, rfl⟩ : ∃ n', n = n' + 1 := ⟨n - 1, by omega⟩
    rw [prcUnary, BitRun.fits.get?_push hr h]
    rfl
  | succ q ih =>
    obtain ⟨n, rfl⟩ : ∃ n', n = n' + 1 := ⟨n - 1, by omega⟩
    rw [BitRun.push_ones_succ r (q + 1) q (by omega)] at h
    have hfirst := BitRun.fits.get?_push hr (BitRun.leads.trans (BitRun.fits.leads_push (hr.push 1 1) _ _) h)
    rw [prcUnary, hfirst]
    have hrest := ih (Nat.lt_of_succ_lt_succ hq) (acc + 1) (hr.push 1 1) h
    rw [BitRun.push_len] at hrest
    rw [show r.len + (q + 1 + 1) = r.len + 1 + (q + 1) by ring, show acc + (q + 1) = acc + 1 + q by ring]
    exact hrest

/-- As many ones as the limit end without a zero. -/
theorem prcUnary_of_full (n acc : Nat) {r t : BitRun} (hr : r.fits) (h : (r.push n (2 ^ n - 1)).leads t) :
    prcUnary n acc (t.at_ r.len) = some (acc + n, t.at_ (r.len + n)) := by
  induction n generalizing acc r with
  | zero => rfl
  | succ n ih =>
    rw [BitRun.push_ones_succ r n n le_rfl] at h
    have hfirst := BitRun.fits.get?_push hr (BitRun.leads.trans (BitRun.fits.leads_push (hr.push 1 1) _ _) h)
    rw [prcUnary, hfirst]
    have hrest := ih (acc + 1) (hr.push 1 1) h
    rw [BitRun.push_len] at hrest
    rw [show r.len + (n + 1) = r.len + 1 + n by ring, show acc + (n + 1) = acc + 1 + n by ring]
    exact hrest

theorem prcCodeword_fits {r : BitRun} (hr : r.fits) (w k u : Nat) : (prcCodeword w k r u).fits := by
  unfold prcCodeword
  dsimp only
  split <;> exact (hr.push _ _).push _ _

theorem prcCodeword_leads {r : BitRun} (hr : r.fits) (w k u : Nat) : r.leads (prcCodeword w k r u) := by
  unfold prcCodeword
  dsimp only
  split <;> exact (BitRun.fits.leads_push hr _ _).trans (BitRun.fits.leads_push (hr.push ..) _ _)

/-- A codeword gives its value back, and the quotient that moves k. -/
theorem prcReadCodeword_of_code {w k u : Nat} {r t : BitRun} (hw : w ≤ 64) (hu : u < 2 ^ w) (hr : r.fits)
    (h : (prcCodeword w k r u).leads t) :
    prcReadCodeword w k (t.at_ r.len) = .ok (u, min (u / 2 ^ k) 16, t.at_ (prcCodeword w k r u).len) := by
  have hu64 : u < 2 ^ 64 := hu.trans_le (Nat.pow_le_pow_right (by omega) hw)
  unfold prcCodeword at h ⊢
  dsimp only at h ⊢
  by_cases hq : u / 2 ^ k < 16
  · rw [if_pos hq] at h ⊢
    have hfits := hr.push (u / 2 ^ k + 1) (2 ^ (u / 2 ^ k) - 1)
    have hunary := prcUnary_of_stop hq 0 hr ((BitRun.fits.leads_push hfits _ _).trans h)
    have hlow := BitRun.fits.get?_push hfits h
    rw [BitRun.push_len] at hlow
    have hsum : (u / 2 ^ k * 2 ^ k + u % 2 ^ k) % 2 ^ 64 = u := by
      rw [Nat.mul_comm, Nat.div_add_mod, Nat.mod_eq_of_lt hu64]
    have hlegal : ¬ (w < 64 ∧ 2 ^ w ≤ u) := by omega
    simp only [prcReadCodeword, hunary, Nat.zero_add, if_pos hq, hlow, hsum, if_neg hlegal, Nat.min_eq_left hq.le, BitRun.push_len]
  · rw [if_neg hq] at h ⊢
    have hfits := hr.push 16 0xFFFF
    have hunary := prcUnary_of_full 16 0 hr ((BitRun.fits.leads_push hfits _ _).trans h)
    have hraw := BitRun.fits.get?_push hfits h
    rw [BitRun.push_len] at hraw
    simp only [prcReadCodeword, hunary, Nat.zero_add, Nat.lt_irrefl, if_false, hraw, Nat.mod_eq_of_lt hu,
      Nat.min_eq_right (Nat.not_lt.mp hq), BitRun.push_len]

/-! ### The elements of a vector (12 R253 to R255) -/

theorem prcCodeElements_leads (w : Nat) (l : List (Nat × Nat)) {k : Nat} {r : BitRun} (hr : r.fits) :
    (prcCodeElements w k r l).1.fits ∧ r.leads (prcCodeElements w k r l).1 := by
  induction l generalizing k r with
  | nil => exact ⟨hr, hr.leads_self⟩
  | cons e l ih =>
    obtain ⟨hfits, hleads⟩ := ih (k := prcNextK w k (min (prcZigzag w e.1 e.2 / 2 ^ k) 16) (prcZigzag w e.1 e.2))
      (prcCodeword_fits hr w k (prcZigzag w e.1 e.2))
    exact ⟨hfits, (prcCodeword_leads hr w k _).trans hleads⟩

/-- The pairs (element, prediction) of an encoder are those that the decoder predicts: from the element just made, or from a list. -/
def predicts (left : Bool) : List Nat → Nat → List (Nat × Nat) → Prop
  | [], _, l => l = []
  | p :: ps, prev, l => ∃ x rest, l = (x, if left then prev else p) :: rest ∧ predicts left ps x rest

/-- A vector's elements are read back, with k as the encoder left it. -/
theorem prcReadElements_of_code {w : Nat} (hw : 0 < w) (hw' : w ≤ 64) (left : Bool) {t : BitRun} (ps : List Nat) {l : List (Nat × Nat)}
    {prev k : Nat} {r : BitRun} (hpred : predicts left ps prev l) (hx : ∀ e ∈ l, e.1 < 2 ^ w) (hr : r.fits)
    (h : (prcCodeElements w k r l).1.leads t) :
    prcReadElements w left ps prev k (t.at_ r.len) =
      .ok (l.map (·.1), (prcCodeElements w k r l).2, t.at_ (prcCodeElements w k r l).1.len) := by
  induction ps generalizing l prev k r with
  | nil =>
    obtain rfl : l = [] := hpred
    rfl
  | cons p ps ih =>
    obtain ⟨x, rest, rfl, hrest⟩ := hpred
    obtain ⟨hxw, hxs⟩ := List.forall_mem_cons.mp hx
    rw [prcCodeElements] at h ⊢
    have hcode := prcCodeword_fits hr w k (prcZigzag w x (if left then prev else p))
    have hword := prcReadCodeword_of_code hw' (prcZigzag_lt w x _ hw) hr ((prcCodeElements_leads w rest hcode).2.trans h)
    have helem : ((if left then prev else p) + prcUnzigzag w (prcZigzag w x (if left then prev else p))) % 2 ^ w = x := by
      rw [prcUnzigzag_zigzag, add_prcResidue_mod _ hxw]
    have htail := ih hrest hxs hcode h
    simp only [prcReadElements, hword, helem, htail, List.map_cons]

/-! ### Predictions (Table 12-1) -/

/-- Vectors of one length, their elements within the width. -/
def vectorsOf (w vlen : Nat) (vs : List (List Nat)) : Prop := ∀ v ∈ vs, v.length = vlen ∧ ∀ x ∈ v, x < 2 ^ w

theorem predicts_zip {ps vec : List Nat} (h : ps.length = vec.length) (prev : Nat) : predicts false ps prev (vec.zip ps) := by
  induction ps generalizing vec prev with
  | nil =>
    obtain rfl := List.length_eq_zero_iff.mp h.symm
    rfl
  | cons p ps ih =>
    cases vec with
    | nil => exact absurd h (by simp)
    | cons x vec => exact ⟨x, vec.zip ps, rfl, ih (Nat.succ.inj h) x⟩

/-- LEFT predicts each element by the one before it. -/
theorem predicts_left {ps vec : List Nat} (h : ps.length = vec.length) (prev : Nat) :
    predicts true ps prev (vec.zip (prev :: vec.dropLast)) := by
  induction ps generalizing vec prev with
  | nil =>
    obtain rfl := List.length_eq_zero_iff.mp h.symm
    rfl
  | cons p ps ih =>
    cases vec with
    | nil => exact absurd h (by simp)
    | cons x vec =>
      refine ⟨x, vec.zip ((x :: vec).dropLast), rfl, ?_⟩
      cases vec with
      | nil => exact ih (Nat.succ.inj h) x
      | cons y vec => exact ih (Nat.succ.inj h) x

theorem prcPredictions_congr (w sel d : Nat) (hist : List (List Nat)) {v v' : List Nat} (h : v.length = v'.length) (hsel : sel ≠ 2) :
    prcPredictions w sel d hist v = prcPredictions w sel d hist v' := by
  unfold prcPredictions
  split <;> simp_all

theorem length_prcPredictions {w sel d vlen : Nat} {hist : List (List Nat)} {vec : List Nat} (hhist : vectorsOf w vlen hist)
    (hvec : vec.length = vlen) (hpos : 1 ≤ vlen) : (prcPredictions w sel d hist vec).length = vlen := by
  have hzero : (List.replicate vec.length 0).length = vlen := by rw [List.length_replicate, hvec]
  unfold prcPredictions
  dsimp only
  split
  · cases hist with
    | nil => exact hzero
    | cons a hist => exact (hhist a List.mem_cons_self).1
  · split
    · rw [List.length_zipWith, (hhist _ List.mem_cons_self).1, (hhist _ (List.mem_cons_of_mem _ List.mem_cons_self)).1, Nat.min_self]
    · exact (hhist _ List.mem_cons_self).1
    · exact hzero
  · rw [List.length_cons, List.length_dropLast, hvec, Nat.sub_add_cancel hpos]
  · rw [List.getD_eq_getElem?_getD]
    cases hget : hist[d - 1]? with
    | none => exact hzero
    | some a => exact (hhist a (List.mem_of_getElem? hget)).1

/-- What the encoder predicts, the decoder predicts too. -/
theorem predicts_vector {w sel d vlen : Nat} {hist : List (List Nat)} {vec : List Nat} (hhist : vectorsOf w vlen hist)
    (hvec : vec.length = vlen) (hpos : 1 ≤ vlen) :
    predicts (sel == 2) (prcPredictions w sel d hist (List.replicate vlen 0)) 0 (vec.zip (prcPredictions w sel d hist vec)) := by
  have hlen : (prcPredictions w sel d hist (List.replicate vlen 0)).length = vec.length := by
    rw [length_prcPredictions hhist List.length_replicate hpos, hvec]
  by_cases hsel : sel = 2
  · subst hsel
    exact predicts_left hlen 0
  · rw [prcPredictions_congr w sel d hist (v' := vec) (by rw [List.length_replicate, hvec]) hsel] at hlen ⊢
    rw [beq_false_of_ne hsel]
    exact predicts_zip hlen 0

/-! ### Vectors and their selectors (12 R257, R259) -/

/-- The bits of a selector, and of its distance where it has one. -/
def prcSelector (r : BitRun) (cand : Nat × Nat) : BitRun := if cand.1 = 3 then (r.push 2 cand.1).push 8 cand.2 else r.push 2 cand.1

theorem prcCodeVector_eq (w k : Nat) (r : BitRun) (hist : List (List Nat)) (vec : List Nat) (cand : Nat × Nat) :
    prcCodeVector w k r hist vec cand =
      prcCodeElements w k (prcSelector r cand) (vec.zip (prcPredictions w cand.1 cand.2 hist vec)) := rfl

theorem prcSelector_fits {r : BitRun} (hr : r.fits) (cand : Nat × Nat) : (prcSelector r cand).fits := by
  unfold prcSelector
  split
  · exact (hr.push _ _).push _ _
  · exact hr.push _ _

theorem prcSelector_leads {r : BitRun} (hr : r.fits) (cand : Nat × Nat) : r.leads (prcSelector r cand) := by
  unfold prcSelector
  split
  · exact (BitRun.fits.leads_push hr _ _).trans (BitRun.fits.leads_push (hr.push _ _) _ _)
  · exact BitRun.fits.leads_push hr _ _

/-- A candidate that the decoder admits after `n` vectors. -/
def admissible (n : Nat) (cand : Nat × Nat) : Prop := cand.1 < 3 ∧ cand.2 = 0 ∨ cand.1 = 3 ∧ 1 ≤ cand.2 ∧ cand.2 ≤ n ∧ cand.2 < 256

theorem admissible_of_mem {brSearch n : Nat} (hbr : brSearch < 256) {cand : Nat × Nat} (h : cand ∈ prcCandidates brSearch n) :
    admissible n cand := by
  rcases List.mem_append.mp h with h | h
  · simp only [List.mem_cons, List.not_mem_nil, or_false] at h
    rcases h with rfl | rfl | rfl <;> exact .inl ⟨by decide, rfl⟩
  · obtain ⟨i, hi, rfl⟩ := List.mem_map.mp h
    have hi' := List.mem_range.mp hi
    exact .inr ⟨rfl, by dsimp only; omega, by dsimp only; omega, by dsimp only; omega⟩

theorem prcReadSelector_of_code {n : Nat} {cand : Nat × Nat} (hcand : admissible n cand) {r t : BitRun} (hr : r.fits)
    (h : (prcSelector r cand).leads t) : prcReadSelector n (t.at_ r.len) = .ok (cand.1, cand.2, t.at_ (prcSelector r cand).len) := by
  obtain ⟨sel, d⟩ := cand
  unfold prcSelector at h ⊢
  rcases hcand with ⟨hsel, hd⟩ | ⟨hsel, hlow, hhist, hhigh⟩ <;> dsimp only at *
  · have hne : sel ≠ 3 := by omega
    rw [if_neg hne] at h ⊢
    have hget := BitRun.fits.get?_push hr h
    rw [Nat.mod_eq_of_lt (by omega)] at hget
    subst hd
    rw [prcReadSelector, hget]
    match sel, hsel with
    | 0, _ | 1, _ | 2, _ => rfl
  · subst hsel
    rw [if_pos rfl] at h ⊢
    have hget := BitRun.fits.get?_push hr ((BitRun.fits.leads_push (hr.push 2 3) 8 d).trans h)
    have hget' := BitRun.fits.get?_push (hr.push 2 3) h
    rw [BitRun.push_len, Nat.mod_eq_of_lt (by omega)] at hget'
    have hd : d ≠ 0 := by omega
    have hn : ¬ n < d := by omega
    simp only [prcReadSelector, hget, hget', Nat.reducePow, Nat.reduceMod, if_neg hd, if_neg hn, BitRun.push_len]

/-- The vector coded is one of a candidate's. -/
theorem prcBest_mem (w k : Nat) (r : BitRun) (hist : List (List Nat)) (vec : List Nat) (brSearch : Nat) :
    ∃ cand ∈ prcCandidates brSearch hist.length, prcBest w k r hist vec brSearch = prcCodeVector w k r hist vec cand := by
  unfold prcBest
  dsimp only
  refine List.foldlRecOn ((prcCandidates brSearch hist.length).map (prcCodeVector w k r hist vec)) _
    (motive := fun c => ∃ cand ∈ prcCandidates brSearch hist.length, c = prcCodeVector w k r hist vec cand) ⟨(0, 0), ?_, rfl⟩ ?_
  · simp [prcCandidates]
  · intro best hbest c hc
    obtain ⟨cand, hcand, rfl⟩ := List.mem_map.mp hc
    split
    · exact ⟨cand, hcand, rfl⟩
    · exact hbest

theorem prcBest_leads (w k : Nat) {r : BitRun} (hr : r.fits) (hist : List (List Nat)) (vec : List Nat) (brSearch : Nat) :
    (prcBest w k r hist vec brSearch).1.fits ∧ r.leads (prcBest w k r hist vec brSearch).1 := by
  obtain ⟨cand, -, hbest⟩ := prcBest_mem w k r hist vec brSearch
  obtain ⟨hfits, hleads⟩ := prcCodeElements_leads w (vec.zip (prcPredictions w cand.1 cand.2 hist vec)) (k := k) (prcSelector_fits hr cand)
  rw [hbest, prcCodeVector_eq]
  exact ⟨hfits, (prcSelector_leads hr cand).trans hleads⟩

theorem prcCodeVectors_leads (w brSearch : Nat) (vs : List (List Nat)) {k : Nat} {r : BitRun} (hr : r.fits) (hist : List (List Nat)) :
    (prcCodeVectors w brSearch k r hist vs).fits ∧ r.leads (prcCodeVectors w brSearch k r hist vs) := by
  induction vs generalizing k r hist with
  | nil => exact ⟨hr, hr.leads_self⟩
  | cons v vs ih =>
    obtain ⟨hbest, hlead⟩ := prcBest_leads w k hr hist v brSearch
    obtain ⟨hfits, hrest⟩ := ih hbest (v :: hist)
    exact ⟨hfits, hlead.trans hrest⟩

/-- The vectors of a block are read back, newest first. -/
theorem prcReadVectors_of_code {w vlen brSearch : Nat} (hw : 0 < w) (hw' : w ≤ 64) (hpos : 1 ≤ vlen) (hbr : brSearch < 256) {t : BitRun}
    (vs : List (List Nat)) {hist : List (List Nat)} {k : Nat} {r : BitRun} (hvs : vectorsOf w vlen vs) (hhist : vectorsOf w vlen hist)
    (hr : r.fits) (h : (prcCodeVectors w brSearch k r hist vs).leads t) :
    prcReadVectors w vlen vs.length hist k (t.at_ r.len) = .ok (vs.reverse ++ hist, t.at_ (prcCodeVectors w brSearch k r hist vs).len) := by
  induction vs generalizing hist k r with
  | nil => rfl
  | cons v vs ih =>
    obtain ⟨⟨hlen, hlt⟩, hrest⟩ := List.forall_mem_cons.mp hvs
    have hhist' : vectorsOf w vlen (v :: hist) := List.forall_mem_cons.mpr ⟨⟨hlen, hlt⟩, hhist⟩
    obtain ⟨cand, hcand, hbest⟩ := prcBest_mem w k r hist v brSearch
    rw [prcCodeVectors, hbest, prcCodeVector_eq] at h ⊢
    have hsel := prcSelector_fits hr cand
    have helems := prcCodeElements_leads w (v.zip (prcPredictions w cand.1 cand.2 hist v)) (k := k) hsel
    have hvector := (prcCodeVectors_leads w brSearch vs helems.1 (v :: hist)).2.trans h
    have hselector := prcReadSelector_of_code (admissible_of_mem hbr hcand) hr (helems.2.trans hvector)
    have hx : ∀ e ∈ v.zip (prcPredictions w cand.1 cand.2 hist v), e.1 < 2 ^ w := fun e he => hlt _ (List.of_mem_zip he).1
    have hread := prcReadElements_of_code hw hw' (cand.1 == 2) _ (predicts_vector hhist hlen hpos) hx hsel hvector
    have hback : (v.zip (prcPredictions w cand.1 cand.2 hist v)).map (·.1) = v :=
      List.map_fst_zip (by rw [hlen, length_prcPredictions hhist hlen hpos])
    rw [hback] at hread
    have htail := ih hrest hhist' helems.1 h
    rw [List.length_cons, prcReadVectors, hselector]
    dsimp only
    rw [hread]
    dsimp only
    rw [htail, List.reverse_cons, List.append_assoc, List.singleton_append]

/-! ### Bytes, elements and vectors (12 R251) -/

theorem length_prcElements (wb n : Nat) (bs : Bytes) : (prcElements wb n bs).length = n := by
  induction n generalizing bs with
  | zero => rfl
  | succ n ih => rw [prcElements, List.length_cons, ih]

theorem prcElements_lt (wb n : Nat) (bs : Bytes) : ∀ x ∈ prcElements wb n bs, x < 2 ^ (8 * wb) := by
  induction n generalizing bs with
  | zero => exact fun _ h => absurd h List.not_mem_nil
  | succ n ih =>
    refine List.forall_mem_cons.mpr ⟨(ofLe_lt _).trans_le (Nat.pow_le_pow_right (by omega) ?_), ih _⟩
    exact Nat.mul_le_mul_left 8 (List.length_take_le ..)

/-- Elements laid out give the bytes they were read from. -/
theorem flatMap_prcElements {wb n : Nat} {bs : Bytes} (h : bs.length = n * wb) : (prcElements wb n bs).flatMap (leBytes wb) = bs := by
  induction n generalizing bs with
  | zero =>
    obtain rfl := List.length_eq_zero_iff.mp (h.trans (Nat.zero_mul wb))
    rfl
  | succ n ih =>
    rw [Nat.succ_mul] at h
    have htake : (bs.take wb).length = wb := by rw [List.length_take]; omega
    have hhead := leBytes_ofLe (bs.take wb)
    rw [htake] at hhead
    rw [prcElements, List.flatMap_cons, hhead, ih (by rw [List.length_drop]; omega), List.take_append_drop]

theorem length_prcCut (vlen n : Nat) (xs : List Nat) : (prcCut vlen n xs).length = n := by
  induction n generalizing xs with
  | zero => rfl
  | succ n ih => rw [prcCut, List.length_cons, ih]

/-- Elements cut into vectors, put together again. -/
theorem flatten_prcCut {vlen n : Nat} {xs : List Nat} (h : xs.length = n * vlen) : (prcCut vlen n xs).flatten = xs := by
  induction n generalizing xs with
  | zero =>
    obtain rfl := List.length_eq_zero_iff.mp (h.trans (Nat.zero_mul vlen))
    rfl
  | succ n ih =>
    rw [Nat.succ_mul] at h
    rw [prcCut, List.flatten_cons, ih (by rw [List.length_drop]; omega), List.take_append_drop]

theorem vectorsOf_prcCut {w vlen n : Nat} {xs : List Nat} (h : xs.length = n * vlen) (hx : ∀ x ∈ xs, x < 2 ^ w) :
    vectorsOf w vlen (prcCut vlen n xs) := by
  induction n generalizing xs with
  | zero => exact fun _ hv => absurd hv List.not_mem_nil
  | succ n ih =>
    rw [Nat.succ_mul] at h
    refine List.forall_mem_cons.mpr ⟨⟨by rw [List.length_take]; omega, fun x hm => hx x (List.mem_of_mem_take hm)⟩, ?_⟩
    exact ih (by rw [List.length_drop]; omega) fun x hm => hx x (List.mem_of_mem_drop hm)

/-! ### The block and its header (Table 12-2, 12 R257, R260) -/

theorem prcWidthBits_eq {c : Nat} (hc : c < 4) :
    prcWidthBits c = 8 * (prcWidthBits c / 8) ∧ 1 ≤ prcWidthBits c / 8 ∧ prcWidthBits c ≤ 64 := by
  match c, hc with
  | 0, _ | 1, _ | 2, _ | 3, _ => decide

/-- The fields of a block's header (Table 12-2). -/
def prcHeaderFields (raw : Bool) (widthCode k0 vlen rawLen codedLen : Nat) : List (Nat × Nat) :=
  [(4, 1), (1, bit raw), (2, widthCode), (6, k0), (12, vlen - 1), (13, rawLen), (13, codedLen), (13, 0)]

theorem prcHeader_eq (raw : Bool) (widthCode k0 vlen rawLen codedLen : Nat) :
    prcHeader raw widthCode k0 vlen rawLen codedLen = leBytes 8 (packBits (prcHeaderFields raw widthCode k0 vlen rawLen codedLen)) := rfl

theorem fieldsWidth_prcHeaderFields (raw : Bool) (widthCode k0 vlen rawLen codedLen : Nat) :
    fieldsWidth (prcHeaderFields raw widthCode k0 vlen rawLen codedLen) = 8 * 8 := rfl

/-- The body of a block as the decoder takes it once its header is legal. -/
def prcDecodeBody (raw : Bool) (widthCode k0 vlen rawLen codedLen : Nat) (body : Bytes) : Except PrcFault (Bytes × Nat) :=
  if raw then if codedLen ≠ rawLen then .error .illegalCode else .ok (body.take rawLen, 8 + codedLen)
  else
    match prcReadVectors (prcWidthBits widthCode) vlen (rawLen / (vlen * (prcWidthBits widthCode / 8))) [] k0
        { val := ofLe (body.take codedLen), len := 8 * codedLen, pos := 0 } with
    | .error f => .error f
    | .ok (vs, b) =>
      if (b.pos + 7) / 8 ≠ codedLen then .error .lengthOverrun
      else .ok (vs.reverse.flatten.flatMap (leBytes (prcWidthBits widthCode / 8)), 8 + codedLen)

/-- A block behind a legal header is decoded with the header's values. -/
theorem prcDecode_of_header {raw : Bool} {widthCode k0 vlen rawLen codedLen : Nat} {body : Bytes} (hwidth : widthCode < 4)
    (hk : k0 < prcWidthBits widthCode) (hvlen : 1 ≤ vlen) (hvbytes : vlen * (prcWidthBits widthCode / 8) ≤ 4096) (hraw : 0 < rawLen)
    (hraw' : rawLen ≤ 4096) (hwhole : rawLen % (vlen * (prcWidthBits widthCode / 8)) = 0) (hcoded : codedLen ≤ 4096)
    (hbody : codedLen ≤ body.length) :
    prcDecode (prcHeader raw widthCode k0 vlen rawLen codedLen ++ body) = prcDecodeBody raw widthCode k0 vlen rawLen codedLen body := by
  obtain ⟨-, hbytes, hw64⟩ := prcWidthBits_eq hwidth
  have hvlen' : vlen ≤ 4096 := (Nat.le_mul_of_pos_right _ hbytes).trans hvbytes
  have hlen : (prcHeader raw widthCode k0 vlen rawLen codedLen ++ body).length = 8 + body.length := by
    rw [List.length_append, prcHeader_eq, length_leBytes]
  have hv : leAt (prcHeader raw widthCode k0 vlen rawLen codedLen ++ body) 0 8 =
      packBits (prcHeaderFields raw widthCode k0 vlen rawLen codedLen) := by
    rw [leAt, List.drop_zero, prcHeader_eq, take_leBytes_append, ofLe_leBytes_packBits (fieldsWidth_prcHeaderFields ..)]
  have hdrop : (prcHeader raw widthCode k0 vlen rawLen codedLen ++ body).drop 8 = body := by rw [prcHeader_eq, drop_leBytes_append]
  have hmagic : fieldOf (packBits (prcHeaderFields raw widthCode k0 vlen rawLen codedLen)) 63 60 = 1 :=
    fieldOf_packBits 0 (by decide) rfl rfl rfl
  have hraw1 : fieldOf (packBits (prcHeaderFields raw widthCode k0 vlen rawLen codedLen)) 59 59 = bit raw :=
    fieldOf_packBits 1 (bit_lt_two_pow_one raw) rfl rfl rfl
  have hwidth1 : fieldOf (packBits (prcHeaderFields raw widthCode k0 vlen rawLen codedLen)) 58 57 = widthCode :=
    fieldOf_packBits 2 hwidth rfl rfl rfl
  have hk1 : fieldOf (packBits (prcHeaderFields raw widthCode k0 vlen rawLen codedLen)) 56 51 = k0 :=
    fieldOf_packBits 3 (by omega) rfl rfl rfl
  have hvlen1 : fieldOf (packBits (prcHeaderFields raw widthCode k0 vlen rawLen codedLen)) 50 39 = vlen - 1 :=
    fieldOf_packBits 4 (by omega) rfl rfl rfl
  have hrawLen1 : fieldOf (packBits (prcHeaderFields raw widthCode k0 vlen rawLen codedLen)) 38 26 = rawLen :=
    fieldOf_packBits 5 (by omega) rfl rfl rfl
  have hcoded1 : fieldOf (packBits (prcHeaderFields raw widthCode k0 vlen rawLen codedLen)) 25 13 = codedLen :=
    fieldOf_packBits 6 (by omega) rfl rfl rfl
  have hlegal : ¬ (rawLen = 0 ∨ 4096 < rawLen ∨ 4096 < vlen * (prcWidthBits widthCode / 8) ∨ 4096 < codedLen) := by omega
  have hrawLen : rawLen ≠ 0 := by omega
  have hk2 : ¬ prcWidthBits widthCode - 1 < k0 := by omega
  have hlong : ¬ 8 + body.length < 8 := by omega
  have hlong' : ¬ 8 + body.length < 8 + codedLen := by omega
  simp only [prcDecode, hlen, if_neg hlong, hv, hmagic, hwidth1, hk1, hvlen1, hrawLen1, hcoded1, Nat.sub_add_cancel hvlen, hwhole, hrawLen,
    Nat.not_lt.mpr hraw', Nat.not_lt.mpr hvbytes, Nat.not_lt.mpr hcoded, ne_eq, not_true_eq_false, or_self, if_false, if_neg hlong',
    testBit_eq_fieldOf, hraw1, bit_beq_one, hk2, hdrop]
  rfl

/-- The vectors of a block. -/
def prcVectors (widthCode vlen : Nat) (inp : Bytes) : List (List Nat) :=
  let n := inp.length / (vlen * (prcWidthBits widthCode / 8))
  prcCut vlen n (prcElements (prcWidthBits widthCode / 8) (n * vlen) inp)

/-- The bits of a block's vectors. -/
def prcStream (widthCode vlen k0 brSearch : Nat) (inp : Bytes) : BitRun :=
  prcCodeVectors (prcWidthBits widthCode) brSearch k0 { val := 0, len := 0 } [] (prcVectors widthCode vlen inp)

theorem prcEncode_eq (widthCode vlen k0 brSearch : Nat) (inp : Bytes) : prcEncode widthCode vlen k0 brSearch inp =
    let r := prcStream widthCode vlen k0 brSearch inp
    if inp.length ≤ (r.len + 7) / 8 then prcHeader true widthCode 0 vlen inp.length inp.length ++ inp
    else prcHeader false widthCode k0 vlen inp.length ((r.len + 7) / 8) ++ leBytes ((r.len + 7) / 8) r.val := rfl

/-- A block's vectors hold its bytes, element by element. -/
theorem prcVectors_spec {widthCode vlen : Nat} {inp : Bytes} (hwidth : widthCode < 4)
    (hwhole : inp.length % (vlen * (prcWidthBits widthCode / 8)) = 0) :
    vectorsOf (prcWidthBits widthCode) vlen (prcVectors widthCode vlen inp) ∧
      (prcVectors widthCode vlen inp).length = inp.length / (vlen * (prcWidthBits widthCode / 8)) ∧
      (prcVectors widthCode vlen inp).flatten.flatMap (leBytes (prcWidthBits widthCode / 8)) = inp := by
  obtain ⟨hwidthBits, -, -⟩ := prcWidthBits_eq hwidth
  have hsize : inp.length = inp.length / (vlen * (prcWidthBits widthCode / 8)) * vlen * (prcWidthBits widthCode / 8) := by
    rw [Nat.mul_assoc, Nat.div_mul_cancel (Nat.dvd_of_mod_eq_zero hwhole)]
  refine ⟨vectorsOf_prcCut (length_prcElements ..) ?_, length_prcCut .., ?_⟩
  · rw [hwidthBits, Nat.mul_div_cancel_left _ (by omega)]
    exact prcElements_lt _ _ _
  · rw [prcVectors, flatten_prcCut (length_prcElements ..), flatMap_prcElements hsize]

/-- A run filled up to whole bytes. -/
def BitRun.padded (r : BitRun) : BitRun := { val := r.val, len := 8 * ((r.len + 7) / 8) }

theorem BitRun.leads_padded {r : BitRun} (h : r.fits) : r.leads r.padded := by
  refine ⟨?_, Nat.mod_eq_of_lt h⟩
  show r.len ≤ 8 * ((r.len + 7) / 8)
  omega

/-- Settles O14: block by block the decoder makes the encoder's choices again, since each codeword ends where the next begins. -/
theorem codecGivesBackEveryBlock : Obligations.CodecGivesBackEveryBlock := by
  unfold Obligations.CodecGivesBackEveryBlock
  intro widthCode vlen k0 brSearch inp rest hwidth hvlen hvbytes hk hbr hpos hlong hwhole
  obtain ⟨hwidthBits, hbytes, hw64⟩ := prcWidthBits_eq hwidth
  obtain ⟨hvecs, hcount, hback⟩ := prcVectors_spec hwidth hwhole
  have hstart : BitRun.fits { val := 0, len := 0 } := Nat.one_pos
  have hnone : vectorsOf (prcWidthBits widthCode) vlen [] := fun _ hv => absurd hv List.not_mem_nil
  have hread := prcReadVectors_of_code (t := (prcStream widthCode vlen k0 brSearch inp).padded) (k := k0) (by omega) hw64 hvlen hbr _
    hvecs hnone hstart
  have hfits : (prcStream widthCode vlen k0 brSearch inp).fits := (prcCodeVectors_leads _ _ _ hstart _).1
  rw [← prcStream, hcount, List.append_nil] at hread
  rw [prcEncode_eq]
  generalize prcStream widthCode vlen k0 brSearch inp = r at hread hfits ⊢
  dsimp only
  split
  next hraw =>
    rw [List.append_assoc, prcDecode_of_header hwidth (by omega) hvlen hvbytes hpos hlong hwhole hlong (by simp)]
    simp [prcDecodeBody, prcHeader_eq]
  next hcoded =>
    have hpow : r.val < 2 ^ (8 * ((r.len + 7) / 8)) := hfits.trans_le (Nat.pow_le_pow_right (by omega) (by omega))
    have hvectors := hread (BitRun.leads_padded hfits)
    rw [List.append_assoc, prcDecode_of_header hwidth hk hvlen hvbytes hpos hlong hwhole (by omega) (by simp), prcDecodeBody,
      take_leBytes_append, ofLe_leBytes_of_lt hpow]
    simp only [Bool.false_eq_true, if_false]
    have hstream : BitRead.mk r.val (8 * ((r.len + 7) / 8)) 0 = r.padded.at_ 0 := rfl
    rw [hstream, hvectors]
    simp [BitRun.at_, prcHeader_eq, hback]

end Sys2Proof.Machine
end

section
/-! What time keeps of the state, and what a command object's write leaves behind it (15 R322, R323). -/

namespace Sys2Proof.Machine

open Sys2Proof

/-! ### Build and role as time passes -/

namespace KeepsInstance

theorem refl (s : State) : KeepsInstance s s := ⟨rfl, rfl, rfl⟩

section
variable {s t : State} (h : KeepsInstance s t)
include h

theorem trans {u : State} (k : KeepsInstance t u) : KeepsInstance s u := by
  obtain ⟨hpending, hbuild, hrole⟩ := h
  obtain ⟨kpending, kbuild, krole⟩ := k
  exact ⟨kpending.trans hpending, kbuild.trans hbuild, krole.trans hrole⟩

theorem raised {u : State} (k : RaisedFrom t u) : KeepsInstance s u := by
  obtain ⟨_, _, _, _, _, _, _, _, _, rfl⟩ := k
  exact h

theorem foldl {α : Type} {f : State → α → State} {l : List α} (hf : ∀ {u : State} (a : α), KeepsInstance s u → KeepsInstance s (f u a)) :
    KeepsInstance s (l.foldl f t) := List.foldlRecOn l f h fun _ hu a _ => hf a hu

theorem ite {c : Prop} [Decidable c] {u : State} (k : KeepsInstance s u) : KeepsInstance s (if c then t else u) := by
  split
  · exact h
  · exact k

theorem raiseO {ty pl : Nat} : KeepsInstance s (t.raiseO ty pl) := h.raised (.raise ..)

theorem wr {o : Ob} {v m j : Nat} : KeepsInstance s (t.wr o v m j) := h

theorem bumpSat {o : Ob} {m j n : Nat} : KeepsInstance s (t.bumpSat o m j n) := h

theorem setIrq {b : Nat} : KeepsInstance s (t.setIrq b) := h

theorem setMb {m : Mailbox} : KeepsInstance s (t.setMb m) := h

theorem setBell {k : Nat} {b : Bell} : KeepsInstance s (t.setBell k b) := h

theorem setChan {c : Nat} {ch : ShutterChannel} : KeepsInstance s (t.setChan c ch) := h

theorem bellLate {e : Nat × Bell} : KeepsInstance s (t.bellLate e) := .ite h.setBell.bumpSat.raiseO.setIrq h.setBell.bumpSat.raiseO

theorem acknowledge {c : H2bClaim} : KeepsInstance s (t.acknowledge c) := by
  unfold State.acknowledge
  extract_lets b s1
  have hs1 : KeepsInstance s s1 := .ite h.bellLate h
  exact hs1.setMb.wr.setBell.setIrq

theorem serveClaims : KeepsInstance s t.serveClaims := .ite h (h.setMb.foldl fun _ hu => hu.acknowledge)

theorem adoptOne {c : Nat} : KeepsInstance s (t.adoptOne c) := by
  unfold State.adoptOne
  extract_lets ch
  split
  · exact h
  · split
    · extract_lets q
      have hq : KeepsInstance s q.2 := by
        unfold q
        split <;> exact h
      exact hq.setChan.wr.wr.wr
    · exact h

end

theorem drainMgmt {s t : State} (h : KeepsInstance s t) (n start : Nat) : KeepsInstance s (State.drainMgmt n start t) := by
  induction n generalizing t with
  | zero => exact h
  | succ n ih =>
    rw [State.drainMgmt]
    split_ifs
    · exact h
    · exact h
    · split
      · exact h
      next f d _ =>
        extract_lets ring until_ _ s1
        exact ih (t := (s1.responseLeft f.bytes until_).emit _) h

theorem elapse (s : State) (dt : Nat) : KeepsInstance s (s.elapse dt) := by
  unfold State.elapse
  extract_lets start now hours _ _ _ s1
  have hs1 : KeepsInstance s s1 := .refl s
  exact (hs1.drainMgmt _ _).serveClaims.foldl fun _ hu => hu.adoptOne

end KeepsInstance

/-- The objects that an operation keeps still read as they did once the command is done. -/
theorem KeepsObjects.within_of {P : Nat → Prop} {dt : Nat} {s u t : State} (h : KeepsObjects P u t) (hu : u = s.elapse dt) :
    KeepsObjects P u (t.within s) := by
  obtain ⟨-, hbuild, hrole⟩ := KeepsInstance.elapse s dt
  subst hu
  exact ⟨hbuild.symm, hrole.symm, h.2.2⟩

/-! ### A request that is served -/

/-- A request that names an object whose target serves: the object's own rule acts. -/
theorem State.serveRead_of_serves {u : State} {o : Ob} {m : Nat} {r : DapReq} (h : u.serves o m) (src : DapSource) (act : State → State)
    (hidx : r.idx = o.idx + m) (hsub : r.sub = o.sub) : State.serveRead src r act u = act u.granted := by
  obtain ⟨-, hstatus, hroom⟩ := h
  have hstatus' : u.touch.targetStatus r.idx r.sub = 0 := by
    rw [hidx, hsub]
    exact hstatus
  have hroom' : u.touch.queueFull = false := hroom
  simp only [State.serveRead, State.serveAny, hstatus', hroom', Bool.or_self, Bool.not_false, Bool.and_false, Bool.false_eq_true,
    if_false, State.granted]

/-! ### The write of a command object -/

/-- A state with a response on its way. -/
def State.replied (s : State) (rs : List MgmtFrame) (ms : List MbMsg) (qs : Tbl GroupQ) : State :=
  { s with dap := { s.dap with responses := rs }, mb := { s.mb with waiting := ms }, sch := { s.sch with groups := qs } }

theorem State.answer_replied (s : State) (src : DapSource) (r : DapReq) (st co total : Nat) (data : Bytes) (retry : Nat) :
    ∃ rs ms qs, s.answer src r st co total data retry = s.replied rs ms qs := s.answer_only ..

section
variable {s u v : State} {o : Ob} {m code : Nat} {rs : List MgmtFrame} {ms : List MbMsg} {qs : Tbl GroupQ}

theorem State.cmdCode_answered : (((v.setCode o code m).replied rs ms qs).within s).cmdCode o m = code := State.cmdCode_setCode_same ..

theorem State.stores.answered {o' : Ob} {m' j x : Nat} (h : v.stores o' m' j x) :
    (((v.setCode o code m).replied rs ms qs).within s).rd o' m' j = x :=
  State.stores.rd_within (t := (v.setCode o code m).replied rs ms qs) h s

theorem State.stores.replied {o' : Ob} {m' j x : Nat} (h : v.stores o' m' j x) : ((v.replied rs ms qs).within s).rd o' m' j = x :=
  State.stores.rd_within (t := v.replied rs ms qs) h s

theorem KeepsObjects.replied {P : Nat → Prop} {dt : Nat} (h : KeepsObjects P u v) (hu : u = s.elapse dt) :
    KeepsObjects P u ((v.replied rs ms qs).within s) :=
  KeepsObjects.within_of (t := v.replied rs ms qs) h hu

theorem KeepsObjects.answered {P : Nat → Prop} {dt : Nat} (h : KeepsObjects P u v) (hu : u = s.elapse dt) :
    KeepsObjects P u (((v.setCode o code m).replied rs ms qs).within s) :=
  KeepsObjects.within_of (t := (v.setCode o code m).replied rs ms qs) h hu

end

section
variable {c : Instr} {dt m code : Nat} {rq : Requester} {r : DapReq} {o : Ob} {s u v : State} {P : State → Prop} (hu : u = s.elapse dt)
  (h : u.serves o m)
include hu h

/-- A command object whose action completes within the write: the action's state, its code, and a response on its way. -/
theorem Does.of_cmd {act : State → State × Nat} (hexec : exec c s = .next (s.asked dt rq r (State.serveCmd rq o m act)))
    (hact : act u.granted = (v, code)) (hP : ∀ rs ms qs, P (((v.setCode o code m).replied rs ms qs).within s)) : Does c s P := by
  obtain ⟨rs, ms, qs, hanswer⟩ := (v.setCode o code m).answerWrite_only rq o m 0 code
  refine .of_asked hu hexec h.1 ?_
  rw [State.serveCmd, State.serveWrite_of_serves h, hact, hanswer]
  exact hP rs ms qs

/-- A write of an object with a rule of its own, behind which a response goes on its way. -/
theorem Does.of_write {act : State → State} (hexec : exec c s = .next (s.asked dt rq r (State.serveWrite rq o m act)))
    (hP : P ((act u.granted).within s)) : Does c s P := by
  refine .of_asked hu hexec h.1 ?_
  rwa [State.serveWrite_of_serves h]

end

/-! ### Objects that a record writes -/

/-- The objects that an event's record writes. -/
def recordObjects : List Ob := [Dict.mirrorBehind, Dict.fNext, Dict.oNext, Dict.fOverwritten, Dict.repeatsFolded, Dict.alarmHeld,
  Dict.alarmBufUsed]

/-- The numbers of the objects that no event's record writes. -/
abbrev unrecorded (k : Nat) : Prop := ∀ o ∈ recordObjects, k ≠ o.key 0 0

/-- `t` has the build, the role and the objects of `s` but for those that records write. -/
abbrev KeepsUnrecorded : State → State → Prop := KeepsObjects unrecorded

namespace KeepsUnrecorded

theorem wr {o : Ob} (h : o ∈ recordObjects) (s : State) (v : Nat) : KeepsUnrecorded s (s.wr o v) :=
  KeepsObjects.wr s o v 0 0 fun hk => hk o h rfl

theorem recToStack (s : State) (slot : Nat) (r : EventRec) : KeepsUnrecorded s (s.recToStack slot r) := by
  obtain ⟨_, _, h⟩ := s.recToStack_only slot r
  rw [h]
  exact .refl _ s

theorem writeRecord (s : State) (slot : Nat) (r : EventRec) (alarm unsent child : Bool) :
    KeepsUnrecorded s (s.writeRecord slot r alarm unsent child) := by
  unfold State.writeRecord State.syncMirror
  dsimp only
  refine .trans ?_ (wr (by decide) _ _)
  refine .trans ?_ (wr (o := nextOf r.classF) (by cases r.classF <;> decide) _ _)
  exact recToStack ..

theorem takeSlot {s t : State} {k : Nat} (h : s.takeSlot = some (k, t)) : KeepsUnrecorded s t := by
  unfold State.takeSlot at h
  dsimp only at h
  split at h
  · cases h
    exact .refl _ s
  · split at h
    · cases h
    · cases h
      split
      · exact wr (by decide) _ _
      · exact .refl _ s

theorem sendOwnAlarm (s : State) (r : EventRec) (n : Nat) : KeepsUnrecorded s (s.sendOwnAlarm r n) := by
  unfold State.sendOwnAlarm
  split
  · obtain ⟨_, h⟩ := s.push_only 0x10 r.bytes (some n)
    rw [h]
    exact .refl _ s
  · exact wr (o := Dict.alarmBufUsed) (by decide) _ _

theorem storeOwn (s : State) (r : EventRec) (alarm : Bool) : KeepsUnrecorded s (s.storeOwn r alarm) := by
  unfold State.storeOwn
  split
  next => exact .refl _ s
  next k t h =>
    have hwritten (unsent : Bool) : KeepsUnrecorded s (t.writeRecord k r alarm unsent false) := (takeSlot h).trans (writeRecord ..)
    extract_lets
    split
    · exact hwritten _
    · split
      · exact (hwritten _).trans (wr (o := Dict.alarmHeld) (by decide) _ _)
      · exact (hwritten _).trans (sendOwnAlarm ..)

theorem raiseAt (s : State) (classF alarm : Bool) (typ payload time frame : Nat) :
    KeepsUnrecorded s (s.raiseAt classF alarm typ payload time frame) := by
  unfold State.raiseAt
  extract_lets
  split
  next x _ =>
    unfold State.fold
    dsimp only
    refine .trans ?_ (wr (o := Dict.repeatsFolded) (by decide) _ _)
    exact recToStack ..
  next => exact storeOwn ..

theorem raise (s : State) (classF alarm : Bool) (typ payload : Nat) : KeepsUnrecorded s (s.raise classF alarm typ payload) := raiseAt ..

theorem storeChild (s : State) (r : EventRec) : KeepsUnrecorded s (s.storeChild r) := by
  unfold State.storeChild
  split
  next => exact .refl _ s
  next h => exact (takeSlot h).trans (writeRecord ..)

theorem writeTallies (n : Nat) (s : State) : KeepsUnrecorded s (State.writeTallies n s) := by
  induction n generalizing s with
  | zero => exact .refl _ s
  | succ n ih =>
    rw [State.writeTallies]
    extract_lets ts
    split
    · exact .refl _ s
    next t _ =>
      split
      · exact .refl _ s
      · extract_lets _ r s1
        have hs1 : KeepsUnrecorded s s1 := .refl _ s
        split
        · exact (hs1.trans (storeChild s1 r)).trans (ih _)
        · exact (hs1.trans (storeOwn s1 r _)).trans (ih _)

end KeepsUnrecorded

end Sys2Proof.Machine
end

section
/-! The codec's job channels (12 R262 to R264, R267). -/

namespace Sys2Proof.Machine

open Sys2Proof

/-! ### The objects of a channel -/

/-- A request that is served counts in no object of a family past the system's, whose subindices are not 0. -/
theorem State.rd_granted_of_sub (s : State) {o : Ob} (h : o.sub % 256 ≠ 0) (m : Nat) : s.granted.rd o m = s.rd o m := by
  refine s.rd_granted ?_
  unfold Ob.key
  omega

/-- What is read stays when an object of another subindex is written. -/
theorem State.rd_wr_of_sub (s : State) {o o' : Ob} (h : o.sub % 256 ≠ o'.sub % 256) (v m m' : Nat) : (s.wr o v m).rd o' m' = s.rd o' m' :=
  s.rd_wr_other o o' v m 0 m' 0 (Ob.key_ne_of_sub h m m')

theorem State.granted_prcParams (s : State) (c : Nat) : s.granted.prcParams c = s.prcParams c := by
  have h {o : Ob} (ho : o.sub % 256 ≠ 0) : s.granted.rd o c = s.rd o c := s.rd_granted_of_sub ho c
  simp only [State.prcParams, h (o := Dict.prcOp) (by decide), h (o := Dict.prcInAddr) (by decide), h (o := Dict.prcInLen) (by decide),
    h (o := Dict.prcWidth) (by decide), h (o := Dict.prcVlen) (by decide), h (o := Dict.prcK0) (by decide),
    h (o := Dict.prcOutAddr) (by decide), h (o := Dict.prcOutLen) (by decide)]

@[simp] theorem State.within_prc (t s : State) : (t.within s).prc = t.prc := rfl
@[simp] theorem State.granted_prc (s : State) : s.granted.prc = s.prc := rfl

/-! ### START, RESUME and ABORT -/

/-- A channel's job takes a value. -/
def State.setJob (s : State) (c : Nat) (j : PrcJob) : State := { s with prc := Tbl.set s.prc c j }

@[simp] theorem State.setJob_regs (s : State) (c : Nat) (j : PrcJob) : (s.setJob c j).regs = s.regs := rfl
@[simp] theorem State.setJob_prc (s : State) (c : Nat) (j : PrcJob) : (s.setJob c j).prc = Tbl.set s.prc c j := rfl

/-- Channel c with a job that begins. -/
def State.prcBegun (s : State) (c : Nat) (j : PrcJob) : State :=
  ((((s.wr Dict.prcInConsumed 0 c).wr Dict.prcOutProduced 0 c).wr Dict.prcFaultOffset 0 c).setJob c j).wr Dict.prcStatus 1 c

theorem State.prcBegun_prc (s : State) (c : Nat) (j : PrcJob) : Tbl.get? (s.prcBegun c j).prc c = some j := Tbl.get?_set_same s.prc c j

theorem State.prcBegun_stores (s : State) (c : Nat) (j : PrcJob) :
    (s.prcBegun c j).stores Dict.prcStatus c 0 1 ∧ (s.prcBegun c j).stores Dict.prcInConsumed c 0 0 ∧
      (s.prcBegun c j).stores Dict.prcOutProduced c 0 0 := by
  have hin := (s.stores_wr Dict.prcInConsumed 0 c 0).wr_other (o' := Dict.prcOutProduced) (by decide) 0 c
  have hout := (s.wr Dict.prcInConsumed 0 c).stores_wr Dict.prcOutProduced 0 c 0
  have hin' : (((s.wr Dict.prcInConsumed 0 c).wr Dict.prcOutProduced 0 c).wr Dict.prcFaultOffset 0 c |>.setJob c j).stores
    Dict.prcInConsumed c 0 0 := hin.wr_other (o' := Dict.prcFaultOffset) (by decide) 0 c
  have hout' : (((s.wr Dict.prcInConsumed 0 c).wr Dict.prcOutProduced 0 c).wr Dict.prcFaultOffset 0 c |>.setJob c j).stores
    Dict.prcOutProduced c 0 0 := hout.wr_other (o' := Dict.prcFaultOffset) (by decide) 0 c
  exact ⟨State.stores_wr .., hin'.wr_other (by decide) 1 c, hout'.wr_other (by decide) 1 c⟩

section
variable {dt c : Nat} {rq : Requester} {s u : State} (hu : u = s.elapse dt)
include hu

/-- A job on a free channel begins with the channel's parameters (12 R263, R267). -/
theorem prcStart_begins (h : u.serves Dict.prcStart c) (hrun : u.rd Dict.prcStatus c ≠ 1) (hfull : u.rd Dict.prcStatus c ≠ 4) :
    Does (.prcStart dt rq c) s (fun t => t.cmdCode Dict.prcStart c = 0 ∧ t.rd Dict.prcStatus c = 1 ∧
      Tbl.get? t.prc c = some (u.prcParams c) ∧ t.rd Dict.prcInConsumed c = 0 ∧ t.rd Dict.prcOutProduced c = 0) := by
  refine .of_cmd (v := u.granted.prcBegun c (u.prcParams c)) (code := 0) hu h rfl ?_ fun rs ms qs => ?_
  · rw [u.rd_granted_of_sub (by decide) c, if_neg (not_or.mpr ⟨hrun, hfull⟩), u.granted_prcParams]
    rfl
  · obtain ⟨hstatus, hin, hout⟩ := u.granted.prcBegun_stores c (u.prcParams c)
    exact ⟨State.cmdCode_answered, hstatus.answered, u.granted.prcBegun_prc c (u.prcParams c), hin.answered, hout.answered⟩

theorem prcStart_busy (h : u.serves Dict.prcStart c) (hbusy : u.rd Dict.prcStatus c = 1 ∨ u.rd Dict.prcStatus c = 4) :
    Does (.prcStart dt rq c) s (fun t => t.cmdCode Dict.prcStart c = 1 ∧ t.prc = u.prc) := by
  refine .of_cmd (v := u.granted) (code := 1) hu h rfl ?_ fun rs ms qs => ⟨State.cmdCode_answered, rfl⟩
  rw [u.rd_granted_of_sub (by decide) c, if_pos hbusy]

theorem prcResume_resumes {j : PrcJob} (h : u.serves Dict.prcResume c) (hfull : u.rd Dict.prcStatus c = 4) (hj : Tbl.get? u.prc c = some j) :
    Does (.prcResume dt rq c) s (fun t => t.cmdCode Dict.prcResume c = 0 ∧ t.rd Dict.prcStatus c = 1 ∧ Tbl.get? t.prc c =
        some { j with outAddr := u.rd Dict.prcOutAddr c, outLen := u.rd Dict.prcOutLen c, used := 0 }) := by
  refine .of_cmd (v := (u.granted.setJob c { j with outAddr := u.rd Dict.prcOutAddr c, outLen := u.rd Dict.prcOutLen c, used := 0 }).wr
    Dict.prcStatus 1 c) (code := 0) hu h rfl ?_ fun rs ms qs => ?_
  · rw [u.rd_granted_of_sub (o := Dict.prcStatus) (by decide) c, hfull, u.granted_prc, hj]
    dsimp only
    rw [u.rd_granted_of_sub (o := Dict.prcOutAddr) (by decide) c, u.rd_granted_of_sub (o := Dict.prcOutLen) (by decide) c]
    rfl
  · exact ⟨State.cmdCode_answered, (State.stores_wr ..).answered, Tbl.get?_set_same ..⟩

theorem prcResume_refused (h : u.serves Dict.prcResume c) (hfull : u.rd Dict.prcStatus c ≠ 4) :
    Does (.prcResume dt rq c) s (fun t => t.cmdCode Dict.prcResume c = 2 ∧ t.prc = u.prc) := by
  refine .of_cmd (v := u.granted) (code := 2) hu h rfl ?_ fun rs ms qs => ⟨State.cmdCode_answered, rfl⟩
  rw [u.rd_granted_of_sub (o := Dict.prcStatus) (by decide) c]
  split
  next hst _ => exact absurd hst hfull
  next => rfl

theorem prcAbort_aborts {j : PrcJob} (h : u.serves Dict.prcAbort c) (hfull : u.rd Dict.prcStatus c = 4) (hj : Tbl.get? u.prc c = some j) :
    Does (.prcAbort dt rq c) s (fun t => t.cmdCode Dict.prcAbort c = 0 ∧ t.rd Dict.prcStatus c = 5) := by
  refine .of_cmd (v := u.granted.wr Dict.prcStatus 5 c) (code := 0) hu h rfl ?_ fun rs ms qs => ?_
  · rw [u.rd_granted_of_sub (o := Dict.prcStatus) (by decide) c, hfull, u.granted_prc, hj]
    rfl
  · exact ⟨State.cmdCode_answered, (State.stores_wr ..).answered⟩

theorem prcAbort_refused (h : u.serves Dict.prcAbort c) (hrun : u.rd Dict.prcStatus c ≠ 1) (hfull : u.rd Dict.prcStatus c ≠ 4) :
    Does (.prcAbort dt rq c) s (fun t => t.cmdCode Dict.prcAbort c = 2 ∧ t.rd Dict.prcStatus c = u.rd Dict.prcStatus c) := by
  refine .of_cmd (v := u.granted) (code := 2) hu h rfl ?_ fun rs ms qs => ⟨State.cmdCode_answered, ?_⟩
  · rw [u.rd_granted_of_sub (o := Dict.prcStatus) (by decide) c]
    split
    · rfl
    · rw [if_neg hrun, if_neg hfull]
  · exact (u.granted_keeps.answered hu).rd (by unfold Ob.key; dsimp only [Dict.prcStatus]; omega)

end

/-! ### A job runs to its stop -/

/-- Channel c after a block has gone through: what it wrote, and how far it has come. -/
def State.prcStepped (s : State) (c : Nat) (j : PrcJob) (out : Bytes) (used : Nat) : State :=
  ((State.setJob ((s.countStack (j.inAddr + s.rd Dict.prcInConsumed c) used false).stackWrite (j.outAddr + j.used) out) c
    { j with used := j.used + out.length }).wr Dict.prcInConsumed (s.rd Dict.prcInConsumed c + used) c).wr
      Dict.prcOutProduced (s.rd Dict.prcOutProduced c + out.length) c

/-- Channel c with a block that is none. -/
def State.prcFaulted (s : State) (c : Nat) (j : PrcJob) (f : PrcFault) : State :=
  let s1 := (s.wr Dict.prcStatus f.code c).wr Dict.prcFaultOffset (s.rd Dict.prcInConsumed c) c
  { s1 with stack := s1.stack.openUp (j.outAddr + s.rd Dict.prcOutProduced c) (j.outAddr + j.outLen) s1.free, free := s1.free + 1 }

section
variable {s : State} {c : Nat} {j : PrcJob} (hj : Tbl.get? s.prc c = some j) (n : Nat)
include hj

theorem State.prcRun_done (h : s.rd Dict.prcInConsumed c = j.inLen) :
    State.prcRun (n + 1) s c = s.wr Dict.prcStatus (if j.op = 1 ∧ j.inLen ≤ s.rd Dict.prcOutProduced c then 3 else 2) c := by
  rw [State.prcRun, hj]
  dsimp only
  rw [if_pos h]

variable (hleft : s.rd Dict.prcInConsumed c < j.inLen)
include hleft

theorem State.prcRun_full (h : s.prcFull j (s.rd Dict.prcInConsumed c) = true) : State.prcRun (n + 1) s c = s.wr Dict.prcStatus 4 c := by
  rw [State.prcRun, hj]
  dsimp only
  rw [if_neg (Nat.ne_of_lt hleft), if_pos h]

theorem State.prcRun_overfull {out : Bytes} {used : Nat} (h : s.prcBlock j (s.rd Dict.prcInConsumed c) = .ok (out, used))
    (hout : j.outLen < j.used + out.length) : State.prcRun (n + 1) s c = s.wr Dict.prcStatus 4 c := by
  rw [State.prcRun, hj]
  dsimp only
  rw [if_neg (Nat.ne_of_lt hleft), h]
  dsimp only
  rw [if_pos hout, ite_self]

variable (hfull : s.prcFull j (s.rd Dict.prcInConsumed c) = false)
include hfull

theorem State.prcRun_block {out : Bytes} {used : Nat} (h : s.prcBlock j (s.rd Dict.prcInConsumed c) = .ok (out, used))
    (hout : j.used + out.length ≤ j.outLen) : State.prcRun (n + 1) s c = State.prcRun n (s.prcStepped c j out used) c := by
  rw [State.prcRun, hj]
  dsimp only
  rw [if_neg (Nat.ne_of_lt hleft), hfull, if_neg Bool.false_ne_true, h]
  dsimp only
  rw [if_neg (Nat.not_lt.mpr hout)]
  rfl

theorem State.prcRun_fault {f : PrcFault} (h : s.prcBlock j (s.rd Dict.prcInConsumed c) = .error f) : ∃ pl,
    State.prcRun (n + 1) s c = (s.prcFaulted c j f).raise true false recPrcFault pl := by
  rw [State.prcRun, hj]
  dsimp only
  rw [if_neg (Nat.ne_of_lt hleft), hfull, if_neg Bool.false_ne_true, h]
  exact ⟨_, rfl⟩

end

theorem State.prcStepped_prc (s : State) (c : Nat) (j : PrcJob) (out : Bytes) (used : Nat) :
    Tbl.get? (s.prcStepped c j out used).prc c = some { j with used := j.used + out.length } := Tbl.get?_set_same ..

theorem State.prcStepped_stack (s : State) (c : Nat) (j : PrcJob) (out : Bytes) (used : Nat) :
    (s.prcStepped c j out used).stack = ((s.countStack (j.inAddr + s.rd Dict.prcInConsumed c) used false).stackWrite (j.outAddr + j.used)
      out).stack := rfl

/-- What was written reads back. -/
theorem State.stackRead_stackWrite (s : State) (a : Nat) (bs : Bytes) : (s.stackWrite a bs).stackRead a bs.length = bs := by
  cases bs with
  | nil => rfl
  | cons b bs =>
    unfold State.stackRead
    rw [s.stackWrite_stack a (List.cons_ne_nil b bs)]
    exact Memory.readBytes_write ..

theorem State.prcStepped_stores (s : State) (c : Nat) (j : PrcJob) (out : Bytes) (used : Nat) :
    (s.prcStepped c j out used).stores Dict.prcInConsumed c 0 ((s.rd Dict.prcInConsumed c + used) % 2 ^ 64) ∧
      (s.prcStepped c j out used).stores Dict.prcOutProduced c 0 ((s.rd Dict.prcOutProduced c + out.length) % 2 ^ 64) :=
  ⟨(State.stores_wr ..).wr_other (by decide) .., State.stores_wr ..⟩

theorem State.prcPermitted_bounds {s : State} {j : PrcJob} (h : s.prcPermitted j = true) : j.inLen < 2 ^ 64 ∧ j.outLen < 2 ^ 64 := by
  unfold State.prcPermitted at h
  dsimp only at h
  simp only [Bool.and_eq_true] at h
  obtain ⟨⟨⟨⟨hin, hout⟩, -⟩, -⟩, -⟩ := h
  have hin' : j.inAddr + j.inLen ≤ 0x4000000000 := of_decide_eq_true hin
  have hout' : j.outAddr + j.outLen ≤ 0x4000000000 := of_decide_eq_true hout
  omega

section
variable {dt c : Nat} {s u : State} {j : PrcJob} {P : State → Prop} (hu : u = s.elapse dt) (hon : u.coreOn = true)
  (hrun : u.rd Dict.prcStatus c = 1) (hj : Tbl.get? u.prc c = some j) (hper : u.prcPermitted j = true)
include hu hon hrun hj hper

/-- The stop of a running job is where its run comes to. -/
theorem Does.of_prcJobStop (hP : P ((State.prcRun (j.inLen + 2) u c).within s)) : Does (.prcJobStop dt c) s P := by
  refine .of_core hu rfl hon ?_
  rw [hrun, hj]
  show P ((if u.prcPermitted j = true then State.prcRun j.fuel u c else u.prcWild c j).within s)
  rwa [if_pos hper]

/-- A job of one block is done when the block has gone through (12 R263, R264). -/
theorem prcJobStop_done {out : Bytes} (hin : u.rd Dict.prcInConsumed c = 0) (hprod : u.rd Dict.prcOutProduced c = 0) (hused : j.used = 0)
    (hlen : 0 < j.inLen) (hfull : u.prcFull j 0 = false) (hblock : u.prcBlock j 0 = .ok (out, j.inLen)) (hout : out.length ≤ j.outLen) :
    Does (.prcJobStop dt c) s (fun t => t.rd Dict.prcStatus c = (if j.op = 1 ∧ j.inLen ≤ out.length then 3 else 2) ∧
      t.rd Dict.prcInConsumed c = j.inLen ∧ t.rd Dict.prcOutProduced c = out.length ∧ t.stackRead j.outAddr out.length = out) := by
  obtain ⟨hinLen, houtLen⟩ := State.prcPermitted_bounds hper
  obtain ⟨hin1, hprod1⟩ := u.prcStepped_stores c j out j.inLen
  rw [hin, Nat.zero_add, Nat.mod_eq_of_lt hinLen] at hin1
  rw [hprod, Nat.zero_add, Nat.mod_eq_of_lt (Nat.lt_of_le_of_lt hout houtLen)] at hprod1
  have hsteps : State.prcRun (j.inLen + 2) u c = (u.prcStepped c j out j.inLen).wr Dict.prcStatus
      (if j.op = 1 ∧ j.inLen ≤ out.length then 3 else 2) c := by
    rw [State.prcRun_block hj _ (by rwa [hin]) (by rwa [hin]) (by rwa [hin]) (by omega),
      State.prcRun_done (u.prcStepped_prc c j out j.inLen) _ hin1.rd, hprod1.rd]
  refine .of_prcJobStop hu hon hrun hj hper ?_
  rw [hsteps]
  refine ⟨?_, (hin1.wr_other (by decide) ..).rd_within s, (hprod1.wr_other (by decide) ..).rd_within s, ?_⟩
  · refine ((State.stores_wr ..).rd_within s).trans ?_
    split <;> rfl
  · have hstack : (u.prcStepped c j out j.inLen).stackRead j.outAddr out.length = out := by
      unfold State.stackRead
      rw [u.prcStepped_stack, hused, Nat.add_zero]
      exact State.stackRead_stackWrite ..
    exact hstack

/-- A block that the output has no room for stops the job before it (12 R263). -/
theorem prcJobStop_overfull {out : Bytes} {n : Nat} (hleft : u.rd Dict.prcInConsumed c < j.inLen)
    (hblock : u.prcBlock j (u.rd Dict.prcInConsumed c) = .ok (out, n)) (hout : j.outLen < j.used + out.length) :
    Does (.prcJobStop dt c) s (fun t => t.rd Dict.prcStatus c = 4 ∧ t.stack = u.stack) := by
  refine .of_prcJobStop hu hon hrun hj hper ?_
  rw [State.prcRun_overfull hj _ hleft hblock hout]
  exact ⟨(State.stores_wr ..).rd_within s, rfl⟩

theorem prcJobStop_full (hleft : u.rd Dict.prcInConsumed c < j.inLen) (hfull : u.prcFull j (u.rd Dict.prcInConsumed c) = true) :
    Does (.prcJobStop dt c) s (fun t => t.rd Dict.prcStatus c = 4 ∧ t.stack = u.stack ∧
      t.rd Dict.prcInConsumed c = u.rd Dict.prcInConsumed c) := by
  refine .of_prcJobStop hu hon hrun hj hper ?_
  rw [State.prcRun_full hj _ hleft hfull]
  have hkept : KeepsObjects (fun k => k ≠ Dict.prcStatus.key c 0) u (u.wr Dict.prcStatus 4 c) :=
    .wr _ _ _ _ _ fun h => h rfl
  exact ⟨(State.stores_wr ..).rd_within s, rfl, (hkept.within_of hu).rd (Ob.key_ne_of_sub (by decide) c c)⟩

/-- A block that is none stops the job at its first byte (12 R262, R263). -/
theorem prcJobStop_fault {f : PrcFault} (hleft : u.rd Dict.prcInConsumed c < j.inLen) (hfull : u.prcFull j (u.rd Dict.prcInConsumed c) = false)
    (hblock : u.prcBlock j (u.rd Dict.prcInConsumed c) = .error f) :
    Does (.prcJobStop dt c) s (fun t => t.rd Dict.prcStatus c = f.code ∧ t.rd Dict.prcFaultOffset c = u.rd Dict.prcInConsumed c) := by
  obtain ⟨hinLen, _⟩ := State.prcPermitted_bounds hper
  have hkey {o : Ob} (ho : 1 ≤ o.sub ∧ o.sub ≤ 0x87) : quietObject (o.key c 0) := by
    unfold Ob.key
    omega
  obtain ⟨pl, hrun'⟩ := State.prcRun_fault hj (j.inLen + 1) hleft hfull hblock
  have hquiet := KeepsQuiet.raise (u.prcFaulted c j f) true false recPrcFault pl
  have hstatus : (u.prcFaulted c j f).stores Dict.prcStatus c 0 (f.code % 2 ^ 8) :=
    (u.stores_wr Dict.prcStatus f.code c 0).wr_other (o' := Dict.prcFaultOffset) (by decide) (u.rd Dict.prcInConsumed c) c
  have hoffset : (u.prcFaulted c j f).stores Dict.prcFaultOffset c 0 (u.rd Dict.prcInConsumed c % 2 ^ 64) :=
    (u.wr Dict.prcStatus f.code c).stores_wr Dict.prcFaultOffset (u.rd Dict.prcInConsumed c) c 0
  rw [Nat.mod_eq_of_lt (hleft.trans hinLen)] at hoffset
  refine .of_prcJobStop hu hon hrun hj hper ?_
  rw [hrun']
  exact ⟨((hstatus.of_keeps hquiet (hkey (by decide))).rd_within s).trans (by cases f <;> rfl), (hoffset.of_keeps hquiet (hkey (by decide))).rd_within s⟩

end

/-- Settles O45: a channel's command writes its code and moves the channel, and a running job comes to the stop that its next block
makes for it. -/
theorem codecCommandsComplete : Obligations.CodecCommandsComplete := by
  unfold Obligations.CodecCommandsComplete
  refine ⟨fun dt rq c s u hu h => ⟨prcStart_begins hu h, prcStart_busy hu h⟩, fun dt rq c s u hu h => ⟨fun j => prcResume_resumes hu h,
    prcResume_refused hu h⟩, fun dt rq c s u hu h => ⟨fun j => prcAbort_aborts hu h, prcAbort_refused hu h⟩,
    fun dt c s u j hu hon hrun hj hper => ⟨fun out => prcJobStop_done hu hon hrun hj hper, fun out n => prcJobStop_overfull hu hon hrun hj hper,
      prcJobStop_full hu hon hrun hj hper, fun f => prcJobStop_fault hu hon hrun hj hper⟩⟩

end Sys2Proof.Machine
end

section
/-! CLEAR and the windows of the recorder (17 R354 to R356). -/

namespace Sys2Proof.Machine

open Sys2Proof

/-! ### CLEAR (17 R356) -/

/-- The object that names where a class's window begins. -/
def cursorOf (f : Bool) : Ob := if f then Dict.fCursor else Dict.oSelect

theorem cursorOf_unrecorded (f : Bool) : unrecorded ((cursorOf f).key 0 0) := by cases f <;> decide

theorem State.rd_granted_cursorOf (s : State) (f : Bool) : s.granted.rd (cursorOf f) = s.rd (cursorOf f) :=
  s.rd_granted (by cases f <;> decide)

theorem State.rd_granted_nextOf (s : State) (f : Bool) : s.granted.rd (Machine.nextOf f) = s.rd (Machine.nextOf f) :=
  s.rd_granted (by cases f <;> decide)

theorem State.clearClass_eq (s : State) (f : Bool) : s.clearClass f = State.syncMirror
    (State.wr { s with recd := { s.recd with ring := s.recd.ring.filter (fun e => e.event.classF != f || e.unsent) } } (cursorOf f)
      (s.rd (Machine.nextOf f))) := rfl

theorem State.clearClass_recd (s : State) (f : Bool) :
    (s.clearClass f).recd = { s.recd with ring := s.recd.ring.filter (fun e => e.event.classF != f || e.unsent) } := rfl

theorem State.clearClass_stores (s : State) (f : Bool) : (s.clearClass f).stores (cursorOf f) 0 0 (s.rd (Machine.nextOf f) % 2 ^ 32) := by
  have h := (s.stores_wr (cursorOf f) (s.rd (Machine.nextOf f)) 0 0)
  rw [show 8 * (cursorOf f).ty.bytes = 32 by cases f <;> rfl] at h
  exact h.of_keeps (P := unrecorded) (KeepsUnrecorded.wr (o := Dict.mirrorBehind) (by decide) _ _) (cursorOf_unrecorded f)

/-- CLEAR of a class keeps the objects of the other class. -/
theorem State.clearClass_keeps (s : State) (f : Bool) :
    KeepsObjects (fun k => k ≠ (cursorOf f).key 0 0 ∧ k ≠ Dict.mirrorBehind.key 0 0) s (s.clearClass f) :=
  .trans (KeepsObjects.wr { s with recd := _ } (cursorOf f) (s.rd (Machine.nextOf f)) 0 0 fun h => h.1 rfl)
    (KeepsObjects.wr _ Dict.mirrorBehind _ 0 0 fun h => h.2 rfl)

theorem State.fillFreed_of_noTallies {s : State} (h : s.recd.tallies = []) : s.fillFreed = s := by
  unfold State.fillFreed
  rw [h]
  rfl

section
variable {dt : Nat} {rq : Requester} {s u : State} (hu : u = s.elapse dt) (h : u.serves Dict.recClear)
include hu h

/-- CLEAR of one class moves its cursor past all its records and drops those that need not be sent. -/
theorem clear_completes {c : Instr} (f : Bool) (hexec : exec c s = .next (s.asked dt rq (rq.put Dict.recClear 0 (if f then 0 else 1))
    (State.serveCmd rq Dict.recClear 0 (fun s => ((s.clearClass f).fillFreed, 0))))) :
    Does c s (fun t => t.cmdCode Dict.recClear = 0 ∧ t.rd (cursorOf f) = u.rd (Machine.nextOf f) % 2 ^ 32 ∧
      t.rd (cursorOf !f) = u.rd (cursorOf !f) ∧
      (u.recd.tallies = [] → t.recd.ring = u.recd.ring.filter (fun e => e.event.classF != f || e.unsent))) := by
  have hfilled := KeepsUnrecorded.writeTallies (u.granted.clearClass f).recd.tallies.length (u.granted.clearClass f)
  refine .of_cmd (v := (u.granted.clearClass f).fillFreed) (code := 0) hu h hexec rfl fun rs ms qs => ⟨State.cmdCode_answered, ?_, ?_, ?_⟩
  · have hcursor := (u.granted.clearClass_stores f).of_keeps hfilled (cursorOf_unrecorded f)
    rw [u.rd_granted_nextOf] at hcursor
    exact hcursor.answered
  · have hother : (cursorOf !f).key 0 0 ≠ (cursorOf f).key 0 0 ∧ (cursorOf !f).key 0 0 ≠ Dict.mirrorBehind.key 0 0 := by
      cases f <;> decide
    have hkeeps : KeepsObjects (· = (cursorOf !f).key 0 0) u (u.granted.clearClass f).fillFreed :=
      ((u.granted_keeps.mono (Q := (· = (cursorOf !f).key 0 0)) fun k hk => by rw [hk]; cases f <;> decide).trans ((u.granted.clearClass_keeps f).mono fun k hk => by rw [hk]; exact hother)).trans
        (hfilled.mono fun k hk => by rw [hk]; exact cursorOf_unrecorded _)
    exact (hkeeps.answered hu).rd rfl
  · intro htallies
    show (u.granted.clearClass f).fillFreed.recd.ring = _
    rw [State.fillFreed_of_noTallies (s := u.granted.clearClass f) htallies]
    rfl

theorem clearBoth_completes : Does (.clearBoth dt rq) s (fun t => t.cmdCode Dict.recClear = 0 ∧ t.rd Dict.oSelect = u.rd Dict.oNext % 2 ^ 32 ∧
    t.rd Dict.fCursor = u.rd Dict.fNext % 2 ^ 32 ∧ (u.recd.tallies = [] → t.recd.ring = u.recd.ring.filter (·.unsent))) := by
  have hfilled := KeepsUnrecorded.writeTallies ((u.granted.clearClass true).clearClass false).recd.tallies.length
    ((u.granted.clearClass true).clearClass false)
  refine .of_cmd (v := ((u.granted.clearClass true).clearClass false).fillFreed) (code := 0) hu h rfl rfl fun rs ms qs =>
    ⟨State.cmdCode_answered, ?_, ?_, ?_⟩
  · have hcursor := ((u.granted.clearClass true).clearClass_stores false).of_keeps hfilled (cursorOf_unrecorded false)
    rw [(u.granted.clearClass_keeps true).rd (by decide), u.rd_granted_nextOf] at hcursor
    exact hcursor.answered
  · have hcursor := ((u.granted.clearClass_stores true).of_keeps ((u.granted.clearClass true).clearClass_keeps false) (by decide)).of_keeps
      hfilled (cursorOf_unrecorded true)
    rw [u.rd_granted_nextOf] at hcursor
    exact hcursor.answered
  · intro htallies
    show ((u.granted.clearClass true).clearClass false).fillFreed.recd.ring = _
    rw [State.fillFreed_of_noTallies (s := (u.granted.clearClass true).clearClass false) htallies, State.clearClass_recd, State.clearClass_recd]
    show (u.recd.ring.filter _).filter _ = _
    rw [List.filter_filter]
    refine List.filter_congr fun e _ => ?_
    cases e.event.classF <;> cases e.unsent <;> rfl

end

/-! ### The windows (17 R354, R355) -/

theorem State.granted_windowFrom (s : State) (f : Bool) (cursor : Nat) : s.granted.windowFrom f cursor = s.windowFrom f cursor := by
  unfold State.windowFrom
  rw [s.rd_granted_nextOf f]
  rfl

/-- Where the READ of a window leaves its cursor. -/
def State.windowCursor (s : State) (src : DapSource) (f : Bool) : Nat :=
  let w := s.windowFrom f (s.rd (cursorOf f))
  if f then (match (w.2.take (readCap src / 32)).getLast? with
    | some e => (e.num + 1) % 2 ^ 32
    | none => w.1) else w.1

theorem State.readWindow_replied (s : State) (src : DapSource) (r : DapReq) (f : Bool) : ∃ rs ms qs,
    s.readWindow src r f = (s.wr (cursorOf f) (s.windowCursor src f)).replied rs ms qs := State.answer_replied ..

theorem State.granted_windowCursor (s : State) (src : DapSource) (f : Bool) : s.granted.windowCursor src f = s.windowCursor src f := by
  unfold State.windowCursor
  rw [s.rd_granted_cursorOf f, s.granted_windowFrom f]

/-- The READ of a window moves the cursor of its class and leaves the recorder (17 R354, R355). -/
theorem window_moves {dt : Nat} {rq : Requester} {s u : State} {c : Instr} {o : Ob} (f : Bool) (hu : u = s.elapse dt) (h : u.serves o)
    (ho : (if f then Dict.fWindow else Dict.oWindow) = o)
    (hexec : exec c s = .next (s.asked dt rq (rq.read o 0) (State.serveWindow rq f))) :
    Does c s (fun t => t.rd (cursorOf f) = u.windowCursor rq.src f % 2 ^ 32 ∧ t.recd = u.recd) := by
  subst ho
  obtain ⟨rs, ms, qs, hread⟩ := u.granted.readWindow_replied rq.src (rq.read (if f then Dict.fWindow else Dict.oWindow) 0) f
  have hcursor := u.granted.stores_wr (cursorOf f) (u.granted.windowCursor rq.src f) 0 0
  rw [show 8 * (cursorOf f).ty.bytes = 32 by cases f <;> rfl, u.granted_windowCursor] at hcursor
  refine .of_asked hu hexec h.1 ?_
  rw [State.serveWindow, State.serveRead_of_serves h _ _ rfl rfl, hread, u.granted_windowCursor]
  exact ⟨hcursor.replied, rfl⟩

/-- Settles O25: CLEAR keeps what is still to be sent and moves its own cursor, and a window's READ moves the cursor of its class. -/
theorem recorderCommandsComplete : Obligations.RecorderCommandsComplete := by
  unfold Obligations.RecorderCommandsComplete
  refine ⟨fun dt rq s u hu h => ?_, fun dt rq s u hu h => ?_, fun dt rq s u hu h => clearBoth_completes hu h,
    fun dt rq s u e hu h hlast => ?_, fun dt rq s u hu h => window_moves false hu h rfl rfl⟩
  · obtain ⟨t, hexec, hcode, hcursor, hother, hring⟩ := clear_completes (rq := rq) hu h (c := .clearF dt rq) true rfl
    refine ⟨t, hexec, hcode, hcursor, hother, fun htallies => (hring htallies).trans (List.filter_congr fun e _ => ?_)⟩
    cases e.event.classF <;> rfl
  · obtain ⟨t, hexec, hcode, hcursor, hother, hring⟩ := clear_completes (rq := rq) hu h (c := .clearO dt rq) false rfl
    refine ⟨t, hexec, hcode, hcursor, hother, fun htallies => (hring htallies).trans (List.filter_congr fun e _ => ?_)⟩
    cases e.event.classF <;> rfl
  · obtain ⟨t, hexec, hcursor, hrecd⟩ := window_moves (c := .fWindow dt rq) true hu h rfl rfl
    have hlast' : u.windowCursor rq.src true = (e.num + 1) % 2 ^ 32 := by
      unfold State.windowCursor
      dsimp only
      rw [if_pos rfl]
      show (match ((u.windowFrom true (u.rd Dict.fCursor)).2.take (readCap rq.src / 32)).getLast? with
        | some e => (e.num + 1) % 2 ^ 32
        | none => (u.windowFrom true (u.rd Dict.fCursor)).1) = _
      rw [hlast]
    refine ⟨t, hexec, hcursor.trans ?_, hrecd⟩
    rw [hlast', Nat.mod_mod]

end Sys2Proof.Machine
end

section
/-! The negative and the settings copy (15 R324, 17 R360, 19 R402). -/

namespace Sys2Proof.Machine

open Sys2Proof

/-- The negative with its fix: both stand in the stacks, and the machine is idle again. -/
def State.negSealed (s : State) : State :=
  State.wr (State.wr (State.setNeg ((s.stackWrite (negBase s.neg.target + 4096) s.neg.image).stackWrite (negBase s.neg.target)
    (s.fixBytes s.neg.seq s.neg.image)) { s.neg with state := .idle, image := [] }) Dict.negSeq s.neg.seq) Dict.negSlot s.neg.target

theorem State.negSealed_neg (s : State) : s.negSealed.neg = { s.neg with state := .idle, image := [] } := rfl

theorem State.negSealed_stores (s : State) :
    s.negSealed.stores Dict.negSeq 0 0 (s.neg.seq % 2 ^ 32) ∧ s.negSealed.stores Dict.negSlot 0 0 (s.neg.target % 2 ^ 8) :=
  ⟨(State.stores_wr _ Dict.negSeq s.neg.seq 0 0).of_keeps (P := (· ≠ Dict.negSlot.key 0 0)) (.wr _ _ _ _ _ fun h => h rfl) (by decide),
    State.stores_wr ..⟩

/-- The copy that is being written holds the persisted set with the next SEQ. -/
def State.persisted (s : State) (copy : Nat) : State :=
  let seq := match s.flash.settings with
    | some (_, n, _) => (n + 1) % 2 ^ 32
    | none => s.freeVal % 2 ^ 32
  let bs := settingsBytes seq (s.objectEntries .rwp)
  State.drawn <| State.emit { s with flash := s.flash.setCopy copy bs, kp := { s.kp with persisting := none } } (.flash "settings" bs)

/-- The write of a settings copy is done; what was stored since it began is written in its turn. -/
def State.persistFinished (s : State) : State :=
  match s.kp.persisting with
  | none => s
  | some (copy, _) => if (s.persisted copy).kp.persistDue then (s.persisted copy).persistBegin else s.persisted copy

theorem Flash.setCopy_copy (f : Flash) (copy : Nat) (bs : Bytes) :
    (if copy = 0 then (f.setCopy copy bs).settings0 else (f.setCopy copy bs).settings1) = bs := by
  unfold Flash.setCopy
  split <;> rfl

section
variable {dt : Nat} {s u : State} (hu : u = s.elapse dt)
include hu

theorem negTake_arms {rq : Requester} (h : u.serves Dict.negTake) (hidle : u.neg.state = .idle) :
    Does (.negTake dt rq) s (fun t => t.cmdCode Dict.negTake = 0 ∧ t.neg = { u.neg with state := .armed }) := by
  refine .of_cmd (v := u.granted.setNeg { u.neg with state := .armed }) (code := 0) hu h rfl ?_ fun rs ms qs =>
    ⟨State.cmdCode_answered, rfl⟩
  have hidle' : (u.granted.neg.state == NegState.idle) = true := beq_iff_eq.mpr hidle
  rw [if_pos hidle']
  rfl

theorem negTake_refused {rq : Requester} (h : u.serves Dict.negTake) (hbusy : u.neg.state ≠ .idle) :
    Does (.negTake dt rq) s (fun t => t.cmdCode Dict.negTake = 1 ∧ t.neg = u.neg) := by
  refine .of_cmd (v := u.granted) (code := 1) hu h rfl ?_ fun rs ms qs => ⟨State.cmdCode_answered, rfl⟩
  have hbusy' : ¬ (u.granted.neg.state == NegState.idle) = true := fun e => hbusy (beq_iff_eq.mp e)
  rw [if_neg hbusy']

/-- The period's end arms the negative. -/
theorem negPeriod_arms (htray : u.isTrayChip = true) (hkeeper : u.keeperOn = true) (hperiod : u.rd Dict.negPeriod ≠ 0)
    (hidle : u.neg.state = .idle) (hpassed : u.passed u.neg.lastCapture (u.rd Dict.negPeriod * 1000000000) = true) :
    Does (.negPeriod dt) s (fun t => t.neg = { u.neg with state := .armed }) := by
  refine .of_core hu rfl (State.coreOn_of_keeperOn hkeeper) ?_
  have hdue : (u.isTrayChip && u.keeperOn && u.rd Dict.negPeriod != 0 && u.neg.state == NegState.idle &&
      u.passed u.neg.lastCapture (u.rd Dict.negPeriod * 1000000000)) = true := by
    rw [htray, hkeeper, hpassed, hidle, bne_iff_ne.mpr hperiod]
    rfl
  dsimp only
  rw [if_pos hdue]
  rfl

/-- A captured negative is fixed: the machine is idle, and NEG_SEQ and NEG_SLOT name the negative. -/
theorem negFixed_seals (hkeeper : u.keeperOn = true) (hwriting : u.neg.state = .writing) :
    Does (.negFixed dt) s (fun t => t.neg.state = .idle ∧ t.rd Dict.negSeq = u.neg.seq % 2 ^ 32 ∧ t.rd Dict.negSlot = u.neg.target % 256) := by
  obtain ⟨hseq, hslot⟩ := u.negSealed_stores
  have hkept := KeepsUnrecorded.raise u.negSealed false false recNegFixed
  have hraised := RaisedFrom.raise u.negSealed false false recNegFixed
  refine .of_core hu rfl (State.coreOn_of_keeperOn hkeeper) ?_
  have hbusy : ¬ (u.neg.state != NegState.writing || !u.keeperOn) = true := by
    rw [hwriting, hkeeper]
    decide
  dsimp only
  rw [if_neg hbusy]
  refine ⟨?_, ((hseq.of_keeps (hkept _) (by decide)).rd_within s), ((hslot.of_keeps (hkept _) (by decide)).rd_within s)⟩
  obtain ⟨_, _, _, _, _, _, _, _, _, h⟩ := hraised (packBits [(32, u.neg.seq), (8, u.neg.target), (88, 0)])
  exact (congrArg (fun t => t.neg.state) h).trans rfl

/-- The settings copy holds the persisted set. -/
theorem persistDone_writes {copy b : Nat} (hon : u.coreOn = true) (hper : u.kp.persisting = some (copy, b)) (hdue : u.kp.persistDue = false) :
    Does (.persistDone dt) s (fun t => t.kp.persisting = none ∧
      ∃ seq, (if copy = 0 then t.flash.settings0 else t.flash.settings1) = settingsBytes seq (u.objectEntries .rwp)) := by
  have hfinished : u.persistFinished = u.persisted copy := by
    unfold State.persistFinished
    rw [hper]
    exact if_neg (by rw [show (u.persisted copy).kp.persistDue = u.kp.persistDue from rfl, hdue]; decide)
  refine .of_core (f := State.persistFinished) hu rfl hon ?_
  rw [hfinished]
  exact ⟨rfl, _, u.flash.setCopy_copy copy _⟩

end

/-- Settles O47: NEG_TAKE and the period arm an idle negative, a captured one is fixed, and the settings copy is completed. -/
theorem negativeCommandsComplete : Obligations.NegativeCommandsComplete := by
  unfold Obligations.NegativeCommandsComplete
  exact ⟨fun dt rq s u hu h => ⟨negTake_arms hu h, negTake_refused hu h⟩, fun dt s u hu => negPeriod_arms hu,
    fun dt s u hu => negFixed_seals hu, fun dt s u copy b hu => persistDone_writes hu⟩

end Sys2Proof.Machine
end

section
/-! A core that is not on (18 R367, 19 R390, R391, R407; log entry 10). -/

namespace Sys2Proof.Machine

open Sys2Proof

/-! ### What is held -/

/-- A state with commands held, a wake and discards counted. -/
def State.heldIn (u : State) (rg : Tbl Nat) (pk : List Instr) (pw : Power) : State := { u with regs := rg, parked := pk, pw := pw }

/-- Commands held, a wake and discards counted leave every other part as it was. -/
theorem Part.same_heldIn (u s : State) (rg : Tbl Nat) (pk : List Instr) (pw : Power) {p : Part} (hp : p ∉ [.parked, .power])
    (hobj : p ≠ .objects) : p.same u ((u.heldIn rg pk pw).within s) := by
  cases p with
  | parked | power => exact absurd (by decide) hp
  | objects => exact absurd rfl hobj
  | store => exact fun _ _ => rfl
  | stack => exact fun _ _ _ => rfl
  | latched | alarmBuffer | inForce | prefixes | decimation | forwarded | blockWords | irq => exact ⟨rfl, rfl⟩
  | clears | responses | hostWords => exact ⟨rfl, rfl, rfl⟩
  | pushes => exact ⟨rfl, rfl, rfl, rfl⟩
  | address => exact ⟨rfl, rfl, rfl, rfl, rfl⟩
  | _ => rfl

/-- A command that comes to a core that is away leaves it with that command held, a wake begun, or a discard counted. -/
theorem HeldFrom.heldIn {u t : State} {i : Instr} (h : HeldFrom u t i) : ∃ rg pk pw, t = u.heldIn rg pk pw ∧
    (∀ k, k ≠ Dict.mgmtDiscards.key 0 0 → Tbl.get? rg k = Tbl.get? u.regs k) ∧ (pk = u.parked ∨ pk = u.parked ++ [i]) := by
  obtain h | h | ⟨pw, h⟩ := h
  · exact ⟨u.regs, u.parked, u.pw, h, fun _ _ => rfl, .inl rfl⟩
  · exact ⟨(u.bumpSat Dict.mgmtDiscards).regs, u.parked, u.pw, h, fun k hk => Tbl.get?_set_other _ _ _ _ hk.symm, .inl rfl⟩
  · exact ⟨u.regs, u.parked ++ [i], pw, h, fun _ _ => rfl, .inr rfl⟩

/-- What a port that holds may change. -/
def State.holds (s : State) (dt : Nat) (t : State) : Prop :=
  s.leaves dt t [.parked, .power] [Dict.mgmtDiscards] ∧
    (t.parked = (s.elapse dt).parked ∨ ∃ i, t.parked = (s.elapse dt).parked ++ [i])

theorem HeldFrom.holds {dt : Nat} {s t : State} {i : Instr} (h : HeldFrom (s.elapse dt) t i) : s.holds dt (t.within s) := by
  unfold State.holds State.leaves
  generalize s.elapse dt = u at h ⊢
  obtain ⟨rg, pk, pw, rfl, hregs, hparked⟩ := h.heldIn
  refine ⟨⟨fun p hp hobj => Part.same_heldIn u s rg pk pw hp hobj, fun _ k hk => ⟨hregs k fun e => ?_, rfl⟩⟩,
    hparked.imp id fun h => ⟨i, h⟩⟩
  exact hk Dict.mgmtDiscards (List.mem_singleton_self _) ⟨0, 0, by decide, e, fun _ _ => rfl⟩

/-- A message that finds the core away is held, or not there to be taken. -/
theorem State.fromLane_of_off (s : State) (dt p cls : Nat) (i : Instr) (f : State → State) (h : (s.elapse dt).coreOn = false) :
    ∃ t, HeldFrom (s.elapse dt) t i ∧ s.fromLane dt p cls i f = t.within s := by
  unfold State.fromLane State.after
  generalize s.elapse dt = u at h
  simp only [h, Bool.false_eq_true, if_false]
  split
  · exact ⟨_, .inl rfl, rfl⟩
  · exact ⟨_, .parkWake .., rfl⟩

section
variable {c i : Instr} {dt : Nat} {s : State} {f : State → State} (hoff : (s.elapse dt).coreOn = false)
include hoff

/-- A core command that finds the core away is lost. -/
theorem exec_of_off (hexec : exec c s = .next (s.core dt f)) : exec c s = .next ((s.elapse dt).within s) := by
  rw [hexec, s.core_of_off dt f hoff]

theorem Does.of_fromSource_off {src : DapSource} {bad : Bool} (hexec : exec c s = .next (s.fromSource dt src bad i f)) :
    Does c s (s.holds dt) := by
  obtain ⟨t, hheld, ht⟩ := s.fromSource_of_off dt src bad i f hoff
  exact ⟨_, hexec.trans (congrArg Host.Outcome.next ht), hheld.holds⟩

theorem Does.of_asked_off {rq : Requester} {r : DapReq} (hexec : exec c s = .next (s.asked dt rq r f)) : Does c s (s.holds dt) :=
  .of_fromSource_off hoff hexec

theorem Does.of_fromHost_off (hexec : exec c s = .next (s.fromHost dt 3 i f)) : Does c s (s.holds dt) :=
  .of_fromSource_off (src := .mailbox) (bad := false) hoff hexec

theorem Does.of_onPort_off (hexec : exec c s = .next (s.onPort dt i f)) : Does c s (s.holds dt) := .of_fromHost_off hoff hexec

theorem Does.of_fromMgmt_off {bad : Bool} (hexec : exec c s = .next (s.fromMgmt dt bad i f)) : Does c s (s.holds dt) :=
  .of_fromSource_off (src := .mgmt 0 0) hoff hexec

theorem Does.of_fromLane_off {p cls : Nat} (hexec : exec c s = .next (s.fromLane dt p cls i f)) : Does c s (s.holds dt) := by
  obtain ⟨t, hheld, ht⟩ := s.fromLane_of_off dt p cls i f hoff
  exact ⟨_, hexec.trans (congrArg Host.Outcome.next ht), hheld.holds⟩

theorem objectWrite_of_off (w : ObjWrite) : Does (.objectWrite dt w) s (s.holds dt) := by
  cases w with
  | dap => exact .of_fromSource_off hoff rfl
  | damaged => exact .of_fromMgmt_off hoff rfl
  | register => exact .of_onPort_off hoff rfl
  | readRegister => exact .of_onPort_off hoff rfl

end

/-! ### Where what comes is held -/

theorem State.wake_parked (s : State) (a b c : Nat) : (s.wake a b c).parked = s.parked := by
  obtain ⟨_, h⟩ := s.wake_only a b c
  rw [h]

section
variable {dt : Nat} {s u : State} (hu : u = s.elapse dt) (hoff : u.coreOn = false)
include hu hoff

/-- The host's request waits as it came. -/
theorem State.asked_parked {rq : Requester} (hsrc : rq.src = .mailbox) (r : DapReq) (f : State → State) :
    ∃ via, (s.asked dt rq r f).parked = u.parked ++ [if r.op = 1 then .dapRead 0 .mailbox r via else .objectWrite 0 (.dap .mailbox r via)] := by
  refine ⟨{ dest := linkLocal s.dap.mac, port := s.dap.udpPort }, ?_⟩
  unfold State.asked State.fromSource State.fromHost State.after
  rw [hsrc, ← hu]
  dsimp only
  rw [if_neg (by rw [hoff]; decide)]
  split
  · rfl
  · exact State.wake_parked ..

variable (hreset : u.inReset = false)
include hreset

theorem State.fromLane_parked {p : Nat} (hup : u.laneUp p = true) (cls : Nat) (i : Instr) (f : State → State) :
    (s.fromLane dt p cls i f).parked = u.parked ++ [i] := by
  unfold State.fromLane State.after
  rw [← hu]
  dsimp only
  rw [if_neg (by rw [hoff]; decide), if_neg (by rw [hreset, hup]; decide)]
  exact State.wake_parked ..

theorem State.fromMgmt_parked (htray : u.isTrayChip = true) (hroom : u.mgmtHeld < 16) (i : Instr) (f : State → State) :
    (s.fromMgmt dt false i f).parked = u.parked ++ [i] := by
  unfold State.fromMgmt State.after
  rw [← hu]
  dsimp only
  rw [if_neg (by rw [hoff]; decide), if_neg (by rw [hreset, htray]; decide),
    if_neg (by rw [Bool.false_or, decide_eq_true_eq]; omega)]
  exact State.wake_parked ..

theorem State.fromMgmt_discards (htray : u.isTrayChip = true) (hfull : 16 ≤ u.mgmtHeld) (i : Instr) (f : State → State) :
    (s.fromMgmt dt false i f).parked = u.parked ∧ (s.fromMgmt dt false i f).rd Dict.mgmtDiscards =
      satTo (8 * Dict.mgmtDiscards.ty.bytes) (u.rd Dict.mgmtDiscards + 1) := by
  unfold State.fromMgmt State.after
  rw [← hu]
  dsimp only
  rw [if_neg (by rw [hoff]; decide), if_neg (by rw [hreset, htray]; decide),
    if_pos (by rw [Bool.false_or, decide_eq_true_eq]; exact hfull)]
  exact ⟨rfl, (u.stores_bumpSat Dict.mgmtDiscards 0 0 1).rd_within s⟩

end

/-- Settles O9: the core's own commands are lost, and whatever comes from outside is held by its port or island. -/
theorem sleepingCoreTakesNothing : Obligations.SleepingCoreTakesNothing := by
  unfold Obligations.SleepingCoreTakesNothing
  refine ⟨fun c s => ?_, fun dt rq r f s u hu hoff hsrc => State.asked_parked hu hoff hsrc r f,
    fun dt p cls i f s u hu hoff hreset hup => State.fromLane_parked hu hoff hreset hup cls i f,
    fun dt i f s u hu hoff hreset htray => ⟨fun hroom => State.fromMgmt_parked hu hoff hreset htray hroom i f,
      fun hfull => State.fromMgmt_discards hu hoff hreset htray hfull i f⟩⟩
  cases c with
  | keeperScopeReset | keeperWatchdog | pendTimeout | segTimeout | cmdInProgress | cmdComplete | heldCapture | snapshotDrained
    | dieVectorComplete | engineVectorComplete | bracketWait | scoreRecordComplete | loadEnd | unloadDrained | retire | deadline
    | mergeComplete | verdictFormed | stallTimeout | nackTimeout | ackHold | ackReport | barrierReport | epochApplied | overlayWait
    | boundPeriod | testDeadline | sqSleep | traceLineTimeout | syncPeriod | offloadFlush | prcJobStop | dataDecision | gateEntryChange
    | classDropFlush | alarmSpaceFreed | mirrorFlush | negPeriod | negFixed | persistDone | b2hRing | mbTimeout | dimIdle | dvfsPeriod
    | keeperVerified | keeperPersisted | keeperQuiescent | keeperReady | chunkTimeout | journalLost | leafJournalFlush | ceB2hTransfer
    | islandResetDone | keeperResetDone | dvfsChangeDone =>
    exact fun hoff => exec_of_off hoff rfl
  | objectWrite =>
    exact fun hoff => objectWrite_of_off hoff _
  | resetIslandLink | resetIslandLoupe | resetKeeper | resetBlock | resetChip | timeNowWrite | shutterApply | clearEvents | descApply
    | cmdTableClear | imageSegment | stackWrite | loadStack | activate | unload | devPhaseWrite | programApply | verdictClear
    | baselineReset | epochIssue | bcastIssueJobStart | bcastIssueJobTeardown | bcastIssueHostMessage | overlayArm | overlayDisarm
    | boundReset | boundEnforceWrite | testRequest | testCancel | traceEnableWrite | storeRead | prcStart | prcResume | prcAbort
    | laneEnableWrite | retrain | routeMove | gateApply | clearF | clearO | clearBoth | fWindow | oWindow | negTake | keeperUpdateLive
    | keeperUpdateRestart | dieIdWrite | journalEnableWrite | exportFreeze | exportRelease =>
    exact fun hoff => Does.of_asked_off hoff rfl
  | dapRead | dapAbort =>
    exact fun hoff => Does.of_fromSource_off hoff rfl
  | dapResponse | reductionRecord | centreRecord | featureFrame | arrival | release | bcast | bcastAck | hopAck | epochSegment
    | digestRecord | mismatchNotice | offloadUnit | alarmRecord | mirrorMessage | leafJournalMessage =>
    exact fun hoff => Does.of_fromLane_off hoff rfl
  | neighborSolicitation | echoRequest =>
    exact fun hoff => Does.of_fromMgmt_off hoff rfl
  | teardownDone | testDone =>
    exact fun hoff => Does.of_fromHost_off hoff rfl
  | h2bData | h2bRing | b2hData | b2hAck | irqStatusWrite =>
    exact fun hoff => Does.of_onPort_off hoff rfl
  | _ => trivial

end Sys2Proof.Machine
end

section
/-! RESET_CAUSE through the boot, and the island counter (19 R399). -/

namespace Sys2Proof.Machine

open Sys2Proof

-- one theorem after the other: each theorem that waits for the kernel would hold a thread
set_option Elab.async false

/-! ### What the boot keeps -/

/-- `t` has the resets, the held commands, the command-event port and the RESET_CAUSE of `s`. -/
def KeepsBoot (s t : State) : Prop :=
  t.rst = s.rst ∧ t.parked = s.parked ∧ t.ce = s.ce ∧ Tbl.get? t.regs (Dict.resetCause.key 0 0) = Tbl.get? s.regs (Dict.resetCause.key 0 0)

namespace KeepsBoot

theorem refl (s : State) : KeepsBoot s s := ⟨rfl, rfl, rfl, rfl⟩

theorem trans {s t u : State} (h : KeepsBoot s t) (k : KeepsBoot t u) : KeepsBoot s u := by
  obtain ⟨hrst, hparked, hce, hcause⟩ := h
  obtain ⟨krst, kparked, kce, kcause⟩ := k
  exact ⟨krst.trans hrst, kparked.trans hparked, kce.trans hce, kcause.trans hcause⟩

section
variable {s t : State} (h : KeepsBoot s t)
include h

theorem ite {c : Prop} [Decidable c] {u : State} (k : KeepsBoot s u) : KeepsBoot s (if c then t else u) := by
  split
  · exact h
  · exact k

theorem foldl {α : Type} {f : State → α → State} {l : List α} (hf : ∀ {u : State} (a : α), KeepsBoot s u → KeepsBoot s (f u a)) :
    KeepsBoot s (l.foldl f t) := List.foldlRecOn l f h fun _ hu a _ => hf a hu

theorem wr {o : Ob} {v m j : Nat} (hk : o.key m j ≠ Dict.resetCause.key 0 0) : KeepsBoot s (t.wr o v m j) := by
  obtain ⟨hrst, hparked, hce, hcause⟩ := h
  exact ⟨hrst, hparked, hce, (Tbl.get?_set_other _ _ _ _ hk).trans hcause⟩

theorem wr_sub {o : Ob} {v m : Nat} (hsub : o.sub % 256 ≠ 0) : KeepsBoot s (t.wr o v m) := h.wr (Ob.key_ne_of_sub hsub m 0)

theorem wrBytes {o : Ob} {bs : Bytes} {m j : Nat} : KeepsBoot s (t.wrBytes o bs m j) := h

theorem raiseAt {f a : Bool} {ty pl tm fr : Nat} : KeepsBoot s (t.raiseAt f a ty pl tm fr) := by
  have hcause := (KeepsUnrecorded.raiseAt t f a ty pl tm fr).2.2 (Dict.resetCause.key 0 0) (by decide)
  obtain ⟨_, _, _, _, _, _, _, _, _, hraised⟩ := RaisedFrom.raiseAt t f a ty pl tm fr
  refine h.trans ⟨?_, ?_, ?_, hcause⟩ <;> rw [hraised]

theorem raiseO {ty pl : Nat} : KeepsBoot s (t.raiseO ty pl) := h.raiseAt

theorem raiseAlarm {ty pl : Nat} : KeepsBoot s (t.raiseAlarm ty pl) := h.raiseAt

theorem raise {f a : Bool} {ty pl : Nat} : KeepsBoot s (t.raise f a ty pl) := h.raiseAt

theorem raiseIsland {f a : Bool} {ty pl tm fr : Nat} : KeepsBoot s (t.raiseIsland f a ty pl tm fr) := by
  unfold State.raiseIsland
  extract_lets _ s1
  have hs1 : KeepsBoot s s1 := h
  refine .ite h.raiseAt (.ite ?_ hs1)
  obtain ⟨pw, hwake⟩ := s1.wake_only 8 0 0
  rw [hwake]
  exact hs1

theorem raiseIslandNow {f a : Bool} {ty pl : Nat} : KeepsBoot s (t.raiseIslandNow f a ty pl) := h.raiseIsland

theorem setChan {c : Nat} {ch : ShutterChannel} : KeepsBoot s (t.setChan c ch) := h

theorem adoptOne {c : Nat} : KeepsBoot s (t.adoptOne c) := by
  unfold State.adoptOne
  extract_lets ch
  split
  · exact h
  · split
    · extract_lets q
      have hq : KeepsBoot s q.2 := by
        unfold q
        split <;> exact h
      exact ((hq.setChan.wr_sub (by decide)).wr_sub (by decide)).wr_sub (by decide)
    · exact h

theorem skipBefore {c limit : Nat} : KeepsBoot s (t.skipBefore c limit).1 := by
  unfold State.skipBefore
  extract_lets ch sc k
  split
  · exact h
  · split
    · exact h
    · exact h.setChan.wr_sub (o := Dict.shutterMissed) (by decide)

theorem skipChannel {c : Nat} : KeepsBoot s (t.skipChannel c) := by
  unfold State.skipChannel
  extract_lets limit cut r1 s2 r2 rep
  have hr2 : KeepsBoot s r2.1 := h.skipBefore.adoptOne.skipBefore
  clear_value rep
  split
  · exact hr2
  · exact hr2.raiseIslandNow

theorem stepTime {n : Nat} : KeepsBoot s (t.stepTime n) := by
  unfold State.stepTime
  extract_lets fwd _ _ s1
  have hs1 : KeepsBoot s s1 := h
  exact .ite (hs1.foldl fun _ hu => hu.skipChannel) hs1

/-! ### The journal (20 R411 to R421) -/

theorem setRing {hist : Bool} {r : ChunkRing} : KeepsBoot s (t.setRing hist r) := by
  cases hist <;> exact h

theorem lostUpTo {hist : Bool} {last : Nat} : KeepsBoot s (t.lostUpTo hist last) := .ite (h.wr (by cases hist <;> decide)) h

theorem endDiscards {hist : Bool} : KeepsBoot s (t.endDiscards hist) := by
  unfold State.endDiscards
  split
  · exact h
  · exact h.setRing.raise

theorem stackWrite {a : Nat} {bs : Bytes} : KeepsBoot s (t.stackWrite a bs) := by
  unfold State.stackWrite
  split <;> exact h

theorem writeRing {hist : Bool} {a : Nat} {bs : Bytes} : KeepsBoot s (t.writeRing hist a bs) := by
  unfold State.writeRing
  extract_lets s1
  have hs1 : KeepsBoot s s1 := h.stackWrite
  split <;> exact hs1

theorem writeChunk {kind : Nat} {g : Gather} : KeepsBoot s (t.writeChunk kind g) := by
  unfold State.writeChunk
  extract_lets hist r frames fst lst block bytes size pos base covers next run gone s0 s1 die c
  have hs1 : KeepsBoot s s1 := h.endDiscards.foldl fun _ hu => hu.lostUpTo
  exact .ite (KeepsBoot.lostUpTo (h.setRing.wr (o := Dict.journalLost) (by decide))) hs1.setRing.writeRing

theorem closeGather {kind : Nat} : KeepsBoot s (t.closeGather kind) := by
  unfold State.closeGather
  split
  · exact h
  next g _ =>
    have hdel : KeepsBoot s { t with jn := { t.jn with gathering := Tbl.del t.jn.gathering kind } } := h
    exact hdel.writeChunk

theorem gatherEntry {kind frame : Nat} {bs : Bytes} : KeepsBoot s (State.gatherEntry kind frame t bs) := by
  unfold State.gatherEntry
  extract_lets s1 g
  have hs1 : KeepsBoot s s1 := by
    unfold s1
    split
    · exact .ite h h.closeGather
    · exact h
  exact hs1

theorem journalEntry {kind frame : Nat} {bs : Bytes} : KeepsBoot s (t.journalEntry kind frame bs) :=
  .ite h (h.foldl fun _ hu => hu.gatherEntry)

/-! ### Entries and the negative (17 R363, R364, 19 R402) -/

theorem restore {o : Ob} {m j : Nat} {bs : Bytes} (hk : o.key m j ≠ Dict.resetCause.key 0 0) : KeepsBoot s (t.restore o m j bs) :=
  .ite h.stepTime (.ite h.wrBytes (h.wr hk))

theorem syncQueue {k : Nat} : KeepsBoot s (t.syncQueue k) := by
  unfold State.syncQueue
  extract_lets d s1
  have hs1 : KeepsBoot s s1 := h.wr_sub (by decide)
  split
  · exact hs1
  · exact hs1

theorem phaseChanged {old : Nat} : KeepsBoot s (t.phaseChanged old) := .ite h h.raiseO.journalEntry

theorem setTheta {m : Nat} {v : Int} : KeepsBoot s (t.setTheta m v) := by
  have hver : KeepsBoot s (t.setVer { t.ver with theta := Tbl.set t.ver.theta m v }) := h
  exact hver.wr (by unfold Ob.key; dsimp only [Dict.loopThreshold, Dict.resetCause]; omega)

theorem setClock {v : Nat} : KeepsBoot s (t.setClock v) := h.wr (o := Dict.clockState) (by decide)

end

end KeepsBoot

/-! ### The entry of an object -/

/-- The row that answers to an index and subindex has the number that they make. -/
theorem Dict.find?_key {b : Build} {r : Role} {idx sub m j : Nat} {o : Ob} (h : Dict.find? b r idx sub = some (o, m, j)) :
    o.key m j = idx * 256 + sub := by
  unfold Dict.find? at h
  obtain ⟨x, -, hx⟩ := List.exists_of_findSome?_eq_some h
  unfold Ob.locate? at hx
  split at hx
  next hle =>
    rw [Option.map_some, Option.some_inj, Prod.mk.injEq, Prod.mk.injEq] at hx
    obtain ⟨rfl, rfl, rfl⟩ := hx
    simp only [Bool.and_eq_true, decide_eq_true_eq] at hle
    obtain ⟨⟨hidx, hsub⟩, -⟩ := hle
    unfold Ob.key
    omega
  next => cases hx

/-- RESET_CAUSE is the row at its index. -/
theorem Dict.find?_resetCause (b : Build) (r : Role) : Dict.find? b r 0x2C11 0 = some (Dict.resetCause, 0, 0) := by
  cases b <;> cases r <;> decide

theorem State.accessOf_resetCause (s : State) : s.accessOf Dict.resetCause = .ro := by
  unfold State.accessOf
  rw [if_neg (by decide), if_neg (by decide)]
  cases s.build <;> rfl

namespace KeepsBoot

section
variable {s t : State} (h : KeepsBoot s t)
include h

/-- No entry of a kind other than RO is RESET_CAUSE's. -/
theorem applyEntries {acc : Access} (hacc : acc ≠ .ro) {n : Nat} {bs : Bytes} : KeepsBoot s (State.applyEntries acc n t bs) := by
  induction n generalizing t bs with
  | zero => exact h
  | succ n ih =>
    rw [State.applyEntries]
    split
    · exact h
    · extract_lets len s1
      refine ih ?_
      unfold s1
      split
      next o m j hfound =>
        split
        next haccess =>
          refine h.restore fun hk => ?_
          obtain ⟨r, -, hr⟩ := List.exists_of_findSome?_eq_some hfound
          have hkey := Dict.find?_key hr
          have hsub : leAt bs 2 1 < 256 := by
            have hlen : ((bs.drop 2).take 1).length ≤ 1 := List.length_take_le _ _
            exact (ofLe_lt _).trans_le (Nat.pow_le_pow_right (by decide) (Nat.mul_le_mul_left 8 hlen))
          have hidx : leAt bs 0 2 = 0x2C11 ∧ leAt bs 2 1 = 0 := by
            rw [hk] at hkey
            change 0x2C1100 = _ at hkey
            omega
          rw [hidx.1, hidx.2, Dict.find?_resetCause, Option.some_inj, Prod.mk.injEq] at hr
          obtain ⟨rfl, -⟩ := hr
          rw [t.accessOf_resetCause] at haccess
          exact hacc (beq_iff_eq.mp haccess).symm
        next => exact h
      next => exact h

theorem restoreObjects {bs : Bytes} : KeepsBoot s (t.restoreObjects bs) := by
  unfold State.restoreObjects
  extract_lets s1 s2 s3
  have hs2 : KeepsBoot s s2 := ((h.applyEntries (acc := .rw) (by decide)).wr (o := Dict.traceEnable) (by decide)).wr
    (o := Dict.sinkReadPtr) (by decide)
  have hs3 : KeepsBoot s s3 := hs2.foldl fun {u} c hu => by
    have hchannel : KeepsBoot s (u.channelOn c) := hu.setChan
    exact hchannel.ite hu
  refine KeepsBoot.phaseChanged (hs3.foldl fun {u} k hu => ?_)
  exact hu.syncQueue

theorem applyNegative {bs : Bytes} : KeepsBoot s (t.applyNegative bs) := by
  unfold State.applyNegative
  extract_lets bodies body s1 members change routes trees pod podTree podSeq v base cells _ _ _ s2 s3
  have hs1 : KeepsBoot s s1 := h.restoreObjects
  clear_value podTree podSeq base cells trees routes members s1
  have hs2 : KeepsBoot s s2 := hs1
  exact ((hs2.setTheta.setTheta.wr (o := Dict.verdict) (by decide)).wrBytes.wr (o := Dict.memberEpoch) (by decide)).wr (o := Dict.treesActive)
    (by decide)

theorem negRestore : KeepsBoot s t.negRestore := by
  unfold State.negRestore
  split
  extract_lets pick
  clear_value pick
  split
  · exact (h.wr (o := Dict.negRestored) (by decide)).raiseAlarm
  · extract_lets seq s1
    have hs1 : KeepsBoot s s1 := h.applyNegative
    exact (((hs1.wr (o := Dict.negRestored) (by decide)).wr (o := Dict.negSlot) (by decide)).wr (o := Dict.negSeq) (by decide)).raiseO

theorem applyStraps : KeepsBoot s t.applyStraps :=
  wrBytes (((h.wr (o := Dict.straps) (by decide)).wr (o := Dict.role) (by decide)).wr (o := Dict.downSplit) (by decide)|>.wr (o := Dict.upUse)
    (by decide))

theorem bootApply : KeepsBoot s t.bootApply := h.applyStraps.applyEntries (by decide)

theorem bootObjects : KeepsBoot s t.bootObjects := by
  unfold State.bootObjects
  extract_lets s1 _ _ _ s2
  have hrole : KeepsBoot s ({ t with role := t.bootRole } : State).drawn := h
  have hs2 : KeepsBoot s s2 := hrole.bootApply
  exact hs2.foldl fun _ hu => hu.wr_sub (by decide)

theorem bootClock : KeepsBoot s t.bootClock := .ite h.setClock h

theorem bootKeeper : KeepsBoot s t.bootKeeper := by
  unfold State.bootKeeper
  split
  extract_lets pick
  clear_value pick
  split
  · exact h.wr (o := Dict.bootResult) (by decide)
  · extract_lets s1
    have hs1 : KeepsBoot s s1 := h.wr (o := Dict.bootResult) (by decide)
    exact ((hs1.wr (o := Dict.keeperVersion) (by decide)).wr (o := Dict.keeperState) (by decide)).negRestore

theorem enableLanes : KeepsBoot s t.enableLanes := h.foldl fun _ hu => hu.wr_sub (by decide)

theorem doneRecord {scope island cause boot : Nat} : KeepsBoot s (t.doneRecord scope island cause boot) := .ite h.raiseAlarm h.raiseO

end

theorem chipEnds (s : State) (cause : Nat) : KeepsBoot (s.chipStarts cause) (s.chipEnds cause) := by
  unfold State.chipEnds
  extract_lets s2 s3
  have hs2 : KeepsBoot s2 s2 := .refl s2
  have hs3 : KeepsBoot s2 s3 := .ite hs2.bootObjects.bootClock.bootKeeper.enableLanes hs2
  exact hs3.doneRecord

end KeepsBoot

/-! ### Chip-scope resets -/

theorem State.applyReset_chip {s : State} (h : s.inChipReset = false) : s.applyReset 2 = s.chipReset 2 := by
  unfold State.inChipReset at h
  unfold State.applyReset
  split
  next hbusy => rw [hbusy] at h; cases h
  next => rfl
  next hscope => cases hscope
  next hscope => cases hscope
  next hscope _ _ => exact absurd rfl hscope

/-- A requested reset's 100 us have passed. -/
def State.ripe (s : State) (r : ResetRequest) : Bool := r.left.any (fun t => s.passed t 100000)

/-- Requested resets whose 100 us have passed take effect. -/
def State.expireResets (s : State) : State :=
  (s.rst.requested.filter s.ripe).foldl (fun t r => t.applyReset r.scope)
    (s.setRst { s.rst with requested := s.rst.requested.filter (fun r => !s.ripe r) })

theorem State.expireResets_one {s : State} {r : ResetRequest} (hreq : s.rst.requested = [r]) (hripe : s.ripe r = true) :
    s.expireResets = (s.setRst { s.rst with requested := [] }).applyReset r.scope := by
  unfold State.expireResets
  rw [hreq, List.filter_cons_of_pos hripe, List.filter_nil, List.filter_cons_of_neg (by rw [hripe]; decide), List.filter_nil,
    List.foldl_cons, List.foldl_nil]

theorem State.ripe_of_passed {s : State} {a scope : Nat} {b : Bytes} (h : s.passed a 100000 = true) :
    s.ripe { scope := scope, response := b, left := some a } = true := by
  unfold State.ripe
  rw [Option.any_some]
  exact h

/-- The one request whose time has come takes effect. -/
theorem resetDelayExpiry_applies {dt a scope : Nat} {b : Bytes} {s u : State} {P : State → Prop} (hu : u = s.elapse dt)
    (hreq : u.rst.requested = [{ scope := scope, response := b, left := some a }]) (hpassed : u.passed a 100000 = true)
    (hP : P (((u.setRst { u.rst with requested := [] }).applyReset scope).within s)) : Does (.resetDelayExpiry dt) s P := by
  refine ⟨s.after dt State.expireResets, rfl, ?_⟩
  rw [State.after, ← hu, State.expireResets_one hreq (State.ripe_of_passed hpassed)]
  exact hP

/-- Nothing held and nothing offered: the core goes on at once. -/
theorem State.serveHeld_of_idle {s : State} (hparked : s.parked = []) (hoffered : s.ce.offered = []) (hq : s.ce.inQ = []) :
    s.serveHeld = { s with parked := [] } := by
  have hserve : State.ceServe { s with parked := [] } = { s with parked := [] } :=
    State.ceResume_of_idle (s := { s with parked := [] }) hq hoffered _
  unfold State.serveHeld
  rw [hparked, List.foldl_nil]
  dsimp only
  rw [hserve]
  exact ite_self _

/-- The end of a chip-scope reset: the boot, and then what was held. -/
theorem resetEnd_chip {dt cause : Nat} {s u : State} (hu : u = s.elapse dt) (hbusy : u.rst.busy = some (2, cause)) :
    exec (.resetEnd dt) s = .next (((u.within s).chipEnds cause).serveHeld.within { s with role := ((u.within s).chipStarts cause).bootRole }) := by
  have hbusy' : (u.within s).rst.busy = some (2, cause) := hbusy
  change execResetEnd dt s = _
  unfold execResetEnd
  rw [← hu]
  dsimp only
  rw [hbusy']
  rfl

theorem resetEnd_names {dt cause : Nat} {s u : State} (hu : u = s.elapse dt) (hbusy : u.rst.busy = some (2, cause)) (hcause : cause < 3) :
    ∃ (v : State) (r : Role), v.rst.busy = none ∧ v.rd Dict.resetCause = cause ∧
      Does (.resetEnd dt) s (fun t => t = v.serveHeld.within { s with role := r } ∧
        (u.parked = [] → u.ce.offered = [] → u.ce.inQ = [] → t.rst.busy = none ∧ t.rd Dict.resetCause = cause)) := by
  obtain ⟨hrst, hparked, hce, hstored⟩ := KeepsBoot.chipEnds (u.within s) cause
  have hstores : ((u.within s).chipStarts cause).stores Dict.resetCause 0 0 (cause % 2 ^ 8) := State.stores_wr ..
  have hends : ((u.within s).chipEnds cause).stores Dict.resetCause 0 0 (cause % 2 ^ 8) := hstored.trans hstores
  rw [Nat.mod_eq_of_lt (by omega)] at hends
  refine ⟨(u.within s).chipEnds cause, _, congrArg Resets.busy hrst, hends.rd, _, resetEnd_chip hu hbusy, rfl, fun hnone hoffered hq => ?_⟩
  rw [State.serveHeld_of_idle (hparked.trans hnone) ((congrArg CePort.offered hce).trans hoffered) ((congrArg CePort.inQ hce).trans hq)]
  exact ⟨congrArg Resets.busy hrst, hends.rd_within (t := { (u.within s).chipEnds cause with parked := [] }) _⟩

/-! ### The islands -/

theorem KeepsUnrecorded.doneRecord (s : State) (scope island cause boot : Nat) : KeepsUnrecorded s (s.doneRecord scope island cause boot) := by
  unfold State.doneRecord
  extract_lets pay
  split
  · exact .raise ..
  · exact .raise ..

theorem RaisedFrom.doneRecord (s : State) (scope island cause boot : Nat) : RaisedFrom s (s.doneRecord scope island cause boot) := by
  unfold State.doneRecord
  extract_lets pay
  split
  · exact .raise ..
  · exact .raise ..

/-- A state with the resets' entries as given and one more island reset counted. -/
def State.islandCounted (s : State) (r : Resets) : State := (s.setRst r).bumpSat Dict.islandResets

theorem State.islandCounted_stores (s : State) (r : Resets) :
    (s.islandCounted r).stores Dict.islandResets 0 0 (satTo 32 (s.rd Dict.islandResets + 1)) := (s.setRst r).stores_bumpSat Dict.islandResets 0 0 1

theorem islandResetDone_counts {dt i : Nat} {s u : State} (hu : u = s.elapse dt) (hon : u.coreOn = true) (hislands : u.rst.islands = [i]) :
    Does (.islandResetDone dt) s (fun t => t.rst.islands = [] ∧ t.rd Dict.islandResets = satTo 32 (u.rd Dict.islandResets + 1)) := by
  have hrecord := KeepsUnrecorded.doneRecord (u.islandCounted { u.rst with islands := [] }) 0 i 2 0
  obtain ⟨_, _, _, _, _, _, _, _, _, hraised⟩ := RaisedFrom.doneRecord (u.islandCounted { u.rst with islands := [] }) 0 i 2 0
  have hrst := congrArg State.rst hraised
  refine .of_core hu rfl hon ?_
  dsimp only
  rw [hislands]
  exact ⟨congrArg Resets.islands hrst, ((u.islandCounted_stores _).of_keeps hrecord (by decide)).rd_within s⟩

/-- Settles O11: a chip-scope reset begins with the cause of its trigger, and its end writes that cause before anything held acts; a
completed island-scope reset is counted. -/
theorem resetCauseNamesTheTrigger : Obligations.ResetCauseNamesTheTrigger := by
  unfold Obligations.ResetCauseNamesTheTrigger
  refine ⟨fun dt s => ⟨_, rfl, rfl⟩, fun dt s => ⟨_, rfl, rfl⟩, fun dt s u a b hu hreq hchip hpassed => ?_,
    fun dt s u cause hu hbusy => resetEnd_names hu hbusy, fun dt s u i hu => islandResetDone_counts hu⟩
  have hchip' : (u.setRst { u.rst with requested := [] }).inChipReset = false := hchip
  refine resetDelayExpiry_applies hu hreq hpassed ?_
  rw [State.applyReset_chip hchip']
  rfl

end Sys2Proof.Machine
end

section
/-! The host register port and the mailbox (18 R368, R369, R379 to R383). -/

namespace Sys2Proof.Machine

open Sys2Proof

-- one theorem after the other: each theorem that waits for the kernel would hold a thread
set_option Elab.async false

/-! ### What a record leaves of the mailbox -/

/-- `t` has the mailbox, the output and the time of `s`. -/
def KeepsPort (s t : State) : Prop := t.mb = s.mb ∧ t.out = s.out ∧ t.time = s.time

namespace KeepsPort

theorem refl (s : State) : KeepsPort s s := ⟨rfl, rfl, rfl⟩

theorem trans {s t u : State} (h : KeepsPort s t) (k : KeepsPort t u) : KeepsPort s u := by
  obtain ⟨hmb, hout, htime⟩ := h
  obtain ⟨kmb, kout, ktime⟩ := k
  exact ⟨kmb.trans hmb, kout.trans hout, ktime.trans htime⟩

theorem of_raised {s t : State} (h : RaisedFrom s t) : KeepsPort s t := by
  obtain ⟨_, _, _, _, _, _, _, _, _, rfl⟩ := h
  exact .refl s

theorem countMismatch (s : State) : KeepsPort s s.countMismatch := by
  obtain ⟨_, _, h, -⟩ := s.countMismatch_only
  rw [h]
  exact .refl s

theorem testDone (s : State) (engine test result : Nat) : KeepsPort s (s.testDone engine test result) := by
  unfold State.testDone
  split
  · exact .refl s
  next i e _ =>
    extract_lets s1
    have hfreed (o : Ob) : KeepsPort s (s1.bumpSat o) := .refl s
    split
    · exact (hfreed _).trans (.of_raised (.raise ..))
    · exact ((hfreed _).trans (.of_raised (.raise ..))).trans (.countMismatch _)

end KeepsPort

/-! ### Doorbells -/

theorem State.bell_setBell_same (s : State) (k : Nat) (b : Bell) : (s.setBell k b).bell k = b := Tbl.getD_set_same ..

theorem State.bell_congr {s t : State} (h : t.mb.bells = s.mb.bells) (k : Nat) : t.bell k = s.bell k := by
  unfold State.bell
  rw [h]

theorem testBit_foldl_setBit (l : List Nat) (v j : Nat) : (l.foldl setBit v).testBit j = (v.testBit j || l.contains j) := by
  induction l generalizing v with
  | nil => simp
  | cons i l ih =>
    rw [List.foldl_cons, ih, testBit_setBit, List.contains_cons, Bool.or_assoc]
    rfl

/-- A doorbell that is not IDLE is among those that are pending. -/
theorem State.testBit_bellsPending {s : State} {dir d : Nat} (hd : d < 32) (h : (s.bell (dir + d)).state ≠ .idle) :
    (s.bellsPending dir).testBit d = true := by
  unfold State.bellsPending
  rw [testBit_foldl_setBit, List.contains_iff_mem.mpr, Bool.or_true]
  exact List.mem_filter.mpr ⟨List.mem_range.mpr hd, bne_iff_ne.mpr h⟩

theorem length_messageWords (bs : Bytes) : (messageWords bs).length = wordsOf bs.length := by
  rw [messageWords, List.length_map, List.length_range]

/-! ### A message of the host -/

/-- The state of a ring of doorbell d with a message of so many words, acknowledged with a word. -/
def State.claimed (s r : State) (d words word : Nat) : State := r.setMb { r.mb with claims := r.mb.claims ++ [s.newClaim d words word] }

theorem State.newClaim_times (s : State) (d words word : Nat) :
    s.time.now ≤ (s.newClaim d words word).readAt ∧ (s.newClaim d words word).readAt ≤ (s.newClaim d words word).ackAt ∧
    (s.mb.claims = [] → (s.newClaim d words word).readAt ≤ s.time.now + 500 * nsUnits ∧
      (s.newClaim d words word).ackAt ≤ s.time.now + 1000 * nsUnits) := by
  unfold State.newClaim
  extract_lets now past r a
  have hread : now ≤ r := (Nat.le_add_right _ _).trans (Nat.le_max_left _ _)
  refine ⟨hread, Nat.le_max_left r a, fun hnone => ?_⟩
  have hlast : past = none := by
    unfold past
    rw [hnone]
    rfl
  have hr : r ≤ now + 500 * nsUnits := by
    unfold r
    rw [hlast, Option.map_none, Option.getD_none, Nat.max_zero]
    exact Nat.add_le_add_left (Nat.le_of_lt_succ (Nat.mod_lt _ (Nat.succ_pos _))) now
  have ha : a ≤ now + 1000 * nsUnits := by
    unfold a
    rw [hlast, Option.map_none, Option.getD_none, Nat.max_zero]
    exact Nat.add_le_add_left (Nat.le_of_lt_succ (Nat.mod_lt _ (Nat.succ_pos _))) now
  exact ⟨hr, Nat.max_le.mpr ⟨hr.trans (Nat.add_le_add_left (Nat.mul_le_mul_right nsUnits (by decide)) now), ha⟩⟩

/-- A ring of doorbell 2 with kind 0x11 is a test's report. -/
theorem State.h2bRing_testDone {s : State} {word : Nat} (hdoor : fieldOf word 4 0 = 2) (hkind : fieldOf word 31 24 = 0x11)
    (hwords : wordsOf (fieldOf word 22 16) ≤ s.unclaimed.length) (hidle : (s.bell 2).state = .idle) : ∃ engine test result,
    s.h2bRing word = (s.setBell 2 { state := .rung, since := s.time.now, kind := 0x11 }).claimed
      ((s.setBell 2 { state := .rung, since := s.time.now, kind := 0x11 }).testDone engine test result) 2 (wordsOf (fieldOf word 22 16)) 2 := by
  unfold State.h2bRing
  rw [hdoor, hkind]
  dsimp only
  rw [if_neg (by rw [hidle, decide_eq_false (Nat.not_lt.mpr hwords)]; decide)]
  exact ⟨_, _, _, rfl⟩

/-! ### An acknowledgement by the host -/

/-- The acknowledged message is rung no more. -/
def State.unrung (s : State) (d : Nat) : State := (s.setMb { s.mb with rung := s.mb.rung.filter (fun m => m.door != d) }).setBell (32 + d) {}

/-- An acknowledgement in its turn, of a doorbell other than 1, changes beside its message what a record of its return code does. -/
theorem State.b2hAcked_of_read {s : State} {word d : Nat} (hd : d = word % 32) (hone : d ≠ 1) (hrung : (s.bell (32 + d)).state ≠ .idle)
    (hread : s.mb.b2h.length ≤ s.wordsAfter d) : KeepsPort (s.unrung d) (s.b2hAcked word) := by
  subst hd
  have hidle : ¬ ((s.bell (32 + word % 32)).state == .idle) = true := fun e => hrung (beq_iff_eq.mp e)
  unfold State.b2hAcked
  dsimp only
  rw [if_neg hidle, decide_eq_false (Nat.not_lt.mpr hread), if_neg Bool.false_ne_true, if_neg hone]
  split
  · exact .refl (s.unrung (word % 32))
  · exact .of_raised (.raise (s.unrung (word % 32)) ..)

/-! ### The port's commands -/

section
variable {c i : Instr} {dt : Nat} {s u : State} (hu : u = s.elapse dt) (hon : u.coreOn = true) (hdie : u.isDie = true)
include hu hon hdie

/-- What the host asks of the port completes with its effect. -/
theorem Does.of_onPort {f : State → State} {P : State → Prop} (hexec : exec c s = .next (s.onPort dt i f)) (hP : P ((f u.touch).within s)) :
    Does c s P := ⟨_, hexec.trans (congrArg Host.Outcome.next (State.onPort_of_on hu hon hdie i f)), hP⟩

theorem h2bData_queues (v : Nat) (hroom : u.mb.h2b.length < 16) : Does (.h2bData dt v) s (fun t =>
    t.mb = { u.mb with h2b := u.mb.h2b ++ [v % 2 ^ 32] } ∧ t.out = Output.hostResponse 0 false :: u.out) := by
  refine .of_onPort hu hon hdie rfl ?_
  have hroom' : ¬ 16 ≤ u.touch.mb.h2b.length := Nat.not_le.mpr hroom
  dsimp only [State.h2bWord]
  rw [if_neg hroom']
  exact ⟨rfl, rfl⟩

theorem h2bData_refused (v : Nat) (hfull : 16 ≤ u.mb.h2b.length) : Does (.h2bData dt v) s (fun t =>
    t.mb.h2b = u.mb.h2b ∧ t.out = Output.hostResponse 0 true :: u.out ∧
    t.rd Dict.mbBusErrors = satTo (8 * Dict.mbBusErrors.ty.bytes) (u.rd Dict.mbBusErrors + 1) ∧ t.mb.irqStatus = setBit u.mb.irqStatus 3) := by
  refine .of_onPort hu hon hdie rfl ?_
  have hfull' : 16 ≤ u.touch.mb.h2b.length := hfull
  have hcount := (u.touch.emit (.hostResponse 0 true)).stores_bumpSat Dict.mbBusErrors 0 0 1
  dsimp only [State.h2bWord]
  rw [if_pos hfull']
  exact ⟨rfl, rfl, hcount.rd_within (t := ((u.touch.emit (.hostResponse 0 true)).bumpSat Dict.mbBusErrors).setIrq irqBusError) s, rfl⟩

/-- The ring of a test's report claims its words and leaves its doorbell RUNG. -/
theorem h2bRing_claims {word n : Nat} (hdoor : fieldOf word 4 0 = 2) (hkind : fieldOf word 31 24 = 0x11)
    (hn : n = wordsOf (fieldOf word 22 16)) (hwords : n ≤ u.unclaimed.length) (hidle : (u.bell 2).state = .idle) :
    Does (.h2bRing dt word) s (fun t => t.mb.h2b = u.mb.h2b ∧ t.out = Output.hostResponse 0 false :: u.out ∧
      t.bell 2 = { state := .rung, since := u.time.now, kind := 0x11 } ∧ (t.bellsPending 0).testBit 2 = true ∧
      ∃ c, t.mb.claims = u.mb.claims ++ [c] ∧ c.door = 2 ∧ c.words = n ∧ c.word = 2 ∧ u.time.now ≤ c.readAt ∧ c.readAt ≤ c.ackAt ∧
        (u.mb.claims = [] → c.readAt ≤ u.time.now + 500 * nsUnits ∧ c.ackAt ≤ u.time.now + 1000 * nsUnits)) := by
  subst hn
  obtain ⟨engine, test, result, hring⟩ := State.h2bRing_testDone (s := u.touch) hdoor hkind hwords hidle
  refine .of_onPort hu hon hdie rfl ?_
  rw [hring]
  generalize hrung : u.touch.setBell 2 { state := .rung, since := u.touch.time.now, kind := 0x11 } = r
  obtain ⟨hmb, hout, -⟩ := KeepsPort.testDone r engine test result
  generalize r.testDone engine test result = d at hmb hout
  have hbells : d.mb.bells = r.mb.bells := congrArg Mailbox.bells hmb
  have hbell : d.bell 2 = { state := .rung, since := u.time.now, kind := 0x11 } := by
    rw [State.bell_congr hbells 2, ← hrung]
    exact State.bell_setBell_same ..
  have hnow : r.time.now = u.time.now := by rw [← hrung]; rfl
  have hclaims : r.mb.claims = u.mb.claims := by rw [← hrung]; rfl
  obtain ⟨hread, hack, hsoon⟩ := r.newClaim_times 2 (wordsOf (fieldOf word 22 16)) 2
  rw [hnow] at hread hsoon
  rw [hclaims] at hsoon
  refine ⟨?_, ?_, hbell, State.testBit_bellsPending (s := (r.claimed d 2 (wordsOf (fieldOf word 22 16)) 2).accepted) (by decide) ?_,
    r.newClaim 2 (wordsOf (fieldOf word 22 16)) 2, ?_, rfl, rfl, rfl, hread, hack, hsoon⟩
  · exact (congrArg Mailbox.h2b hmb).trans (by rw [← hrung]; rfl)
  · exact congrArg (Output.hostResponse 0 false :: ·) (hout.trans (by rw [← hrung]; rfl))
  · exact ne_of_eq_of_ne (congrArg Bell.state hbell) nofun
  · exact congrArg (· ++ [r.newClaim 2 (wordsOf (fieldOf word 22 16)) 2]) ((congrArg Mailbox.claims hmb).trans hclaims)

theorem b2hData_reads {w : Nat} {rest : List Nat} (hwords : u.mb.b2h = w :: rest) :
    Does (.b2hData dt) s (fun t => t.mb.b2h = rest ∧ t.out = Output.hostResponse w false :: u.out) := by
  have hvalue : u.touch.hostRegister 0x01C = w := congrArg (·.headD 0) hwords
  refine .of_onPort hu hon hdie rfl ⟨congrArg (·.drop 1) hwords, ?_⟩
  exact congrArg (Output.hostResponse · false :: u.out) hvalue

theorem readRegister_reads {offset : Nat} (h : offset ≠ 0x01C) : Does (.objectWrite dt (.readRegister offset)) s (fun t =>
    t.mb = u.mb ∧ t.out = Output.hostResponse (u.hostRegister offset) false :: u.out) := by
  have hvalue : u.touch.hostRegister offset = u.hostRegister offset := rfl
  refine .of_onPort hu hon hdie rfl ?_
  dsimp only [State.hostRead]
  rw [if_neg h, hvalue]
  exact ⟨rfl, rfl⟩

/-- An acknowledgement in its turn leaves its doorbell IDLE and its message out of those rung. -/
theorem b2hAck_idles {word d : Nat} (hd : d = word % 32) (hone : d ≠ 1) (hrung : (u.bell (32 + d)).state ≠ .idle)
    (hread : u.mb.b2h.length ≤ u.wordsAfter d) :
    Does (.b2hAck dt word) s (fun t => (t.bell (32 + d)).state = .idle ∧ t.mb.rung = u.mb.rung.filter (fun m => m.door != d) ∧
      t.mb.b2h = u.mb.b2h ∧ t.out = Output.hostResponse 0 false :: u.out) := by
  obtain ⟨hmb, hout, -⟩ := State.b2hAcked_of_read (s := u.touch) hd hone hrung hread
  have hbell : (u.touch.b2hAcked word).bell (32 + d) = {} :=
    (State.bell_congr (congrArg Mailbox.bells hmb) (32 + d)).trans (State.bell_setBell_same ..)
  exact .of_onPort hu hon hdie rfl ⟨congrArg Bell.state hbell, congrArg Mailbox.rung hmb, (congrArg Mailbox.b2h hmb).trans rfl,
    congrArg (Output.hostResponse 0 false :: ·) hout⟩

theorem irqStatusWrite_clears (v : Nat) : Does (.irqStatusWrite dt v) s (fun t =>
    t.mb = { u.mb with irqStatus := irqCleared u.mb.irqStatus v } ∧ t.out = Output.hostResponse 0 false :: u.out) :=
  .of_onPort hu hon hdie rfl ⟨rfl, rfl⟩

/-- A message that has room is rung with all its words. -/
theorem b2hRing_rings {m : MbMsg} (hnext : u.nextMessage = some m) (hroom : u.mb.b2h.length + wordsOf m.bytes.length ≤ 16) :
    Does (.b2hRing dt) s (fun t => t.mb.b2h = u.mb.b2h ++ messageWords m.bytes ∧ t.mb.rung = u.mb.rung ++ [m] ∧
      t.mb.waiting = u.mb.waiting.erase m ∧ t.bell (32 + m.door) = { state := .rung, since := u.time.now, kind := m.kind }) := by
  refine .of_core hu rfl hon ?_
  dsimp only [State.ringNext]
  rw [if_pos hdie, hnext]
  dsimp only
  rw [length_messageWords, if_neg (Nat.not_lt.mpr hroom)]
  exact ⟨rfl, rfl, rfl, Tbl.getD_set_same ..⟩

end

/-! ### Acknowledgements by the block, and timeouts (18 R379, R382) -/

theorem State.serveClaims_one {u : State} {c : H2bClaim} (hclaims : u.mb.claims = [c]) (hread : c.readAt ≤ u.time.now)
    (hack : c.ackAt ≤ u.time.now) :
    u.serveClaims = (u.setMb { u.mb with h2b := u.mb.h2b.drop c.words, claims := [] }).acknowledge c := by
  unfold State.serveClaims
  rw [hclaims]
  simp only [List.isEmpty_cons, Bool.false_eq_true, if_false, List.filter_cons, List.filter_nil, decide_eq_true hread, decide_eq_true hack,
    if_true, Bool.not_true, List.map_cons, List.map_nil, List.sum_cons, List.sum_nil, Nat.add_zero, List.foldl_cons, List.foldl_nil]

/-- A doorbell that goes LATE, with the timeout counted. -/
def State.bellTimedOut (s : State) (k : Nat) (b : Bell) : State := (s.setBell k { b with state := .late }).bumpSat Dict.mbTimeouts

/-- Beside its own effect a late doorbell is recorded, and one towards the block raises the interrupt. -/
theorem State.bellLate_eq (s : State) (k : Nat) (b : Bell) : ∃ r, KeepsPort (s.bellTimedOut k b) r ∧ KeepsUnrecorded (s.bellTimedOut k b) r ∧
    s.bellLate (k, b) = if k < 32 then r.setIrq irqH2bTimeout else r :=
  ⟨_, .of_raised (.raise ..), .raise .., rfl⟩

/-- A late doorbell leaves the words that wait. -/
theorem State.bellLate_h2b (s : State) (k : Nat) (b : Bell) :
    (s.bellLate (k, b)).mb.h2b = s.mb.h2b ∧ (s.bellLate (k, b)).mb.claims = s.mb.claims := by
  obtain ⟨r, ⟨hmb, -⟩, -, hlate⟩ := s.bellLate_eq k b
  rw [hlate]
  split
  · exact ⟨(congrArg Mailbox.h2b hmb).trans rfl, (congrArg Mailbox.claims hmb).trans rfl⟩
  · exact ⟨(congrArg Mailbox.h2b hmb).trans rfl, (congrArg Mailbox.claims hmb).trans rfl⟩

/-- The block's acknowledgement of a message: its word is stored, its doorbell is IDLE and H2B_ACKED is set. -/
theorem State.acknowledge_effect (s : State) (c : H2bClaim) :
    (s.acknowledge c).mb.h2b = s.mb.h2b ∧ (s.acknowledge c).mb.claims = s.mb.claims ∧ (s.acknowledge c).mb.h2bAck = c.word ∧
    (s.acknowledge c).rd Dict.mbLastAck = c.word % 2 ^ 32 ∧ (s.acknowledge c).mb.irqStatus.testBit 1 = true ∧
    (s.acknowledge c).bell c.door = {} := by
  unfold State.acknowledge
  extract_lets b s1
  have hs1 : s1.mb.h2b = s.mb.h2b ∧ s1.mb.claims = s.mb.claims := by
    unfold s1
    split
    · exact s.bellLate_h2b c.door b
    · exact ⟨rfl, rfl⟩
  clear_value s1
  obtain ⟨hwords, hclaims⟩ := hs1
  have hstores := (s1.setMb { s1.mb with h2bAck := c.word }).stores_wr Dict.mbLastAck c.word 0 0
  refine ⟨hwords, hclaims, rfl, State.stores.rd (s := (((s1.setMb { s1.mb with h2bAck := c.word }).wr Dict.mbLastAck c.word).setBell c.door {}).setIrq
    irqH2bAcked) hstores, ?_, Tbl.getD_set_same ..⟩
  exact (testBit_setBit ..).trans (Bool.or_true _)

theorem mbTimeout_late {dt k : Nat} {s u : State} {b : Bell} (hu : u = s.elapse dt) (hon : u.coreOn = true) (hbells : u.mb.bells = [(k, b)])
    (hrung : b.state = .rung) (hpassed : u.passed b.since (u.rd Dict.mbTimeout) = true) :
    Does (.mbTimeout dt) s (fun t => t.mb.bells = [(k, { b with state := .late })] ∧
      t.rd Dict.mbTimeouts = satTo (8 * Dict.mbTimeouts.ty.bytes) (u.rd Dict.mbTimeouts + 1) ∧
      (k < 32 → t.mb.irqStatus = setBit u.mb.irqStatus 2)) := by
  obtain ⟨r, ⟨hmb, -⟩, hkept, hlate⟩ := u.bellLate_eq k b
  have hstores := ((u.setBell k { b with state := .late }).stores_bumpSat Dict.mbTimeouts 0 0 1).of_keeps hkept (by decide)
  have hset : r.mb.bells = [(k, { b with state := .late })] := by
    rw [hmb]
    show Tbl.set u.mb.bells k { b with state := .late } = _
    rw [hbells, Tbl.set, if_neg (Nat.lt_irrefl k), if_pos rfl]
  have hdue : u.mb.bells.filter (fun e => e.2.state == .rung && u.passed e.2.since (u.rd Dict.mbTimeout)) = [(k, b)] := by
    rw [hbells, List.filter_cons_of_pos (by rw [hrung, hpassed]; rfl), List.filter_nil]
  refine .of_core hu rfl hon ?_
  rw [hdue, List.foldl_cons, List.foldl_nil, hlate]
  split
  next hk => exact ⟨hset, hstores.rd_within (t := r.setIrq irqH2bTimeout) s, fun _ => (congrArg (fun m : Mailbox => setBit m.irqStatus 2) hmb).trans rfl⟩
  next hk => exact ⟨hset, hstores.rd_within s, fun h => absurd h hk⟩

/-- Settles O46: a word, a ring, a read, an acknowledgement and a timeout each change the mailbox as their rule says. -/
theorem mailboxCommandsComplete : Obligations.MailboxCommandsComplete := by
  unfold Obligations.MailboxCommandsComplete
  refine ⟨fun dt v s u hu hon hdie => ⟨h2bData_queues hu hon hdie v, h2bData_refused hu hon hdie v⟩,
    fun dt word s u n hu hon hdie => h2bRing_claims hu hon hdie, fun u c hclaims hread hack => ?_,
    fun dt s u w rest hu hon hdie => b2hData_reads hu hon hdie, fun dt offset s u hu hon hdie => readRegister_reads hu hon hdie,
    fun dt word d s u hu hon hdie => b2hAck_idles hu hon hdie, fun dt v s u hu hon hdie => irqStatusWrite_clears hu hon hdie v,
    fun dt s u m hu hon hdie => b2hRing_rings hu hon hdie, fun dt s u k b hu hon => mbTimeout_late hu hon⟩
  rw [State.serveClaims_one hclaims hread hack]
  exact State.acknowledge_effect ..

end Sys2Proof.Machine
end

section
/-! What the packets of a trace source change, said once (11 R237 to R245, R249). -/

namespace Sys2Proof.Machine

open Sys2Proof

-- one theorem after the other: each theorem that waits for the kernel would hold a thread
set_option Elab.async false

/-! ### A source and what its packets leave -/

/-- The numbers of the quiet objects that are no source's counters. -/
abbrev traceQuiet (k : Nat) : Prop := quietObject k ∧ (k % 256 < 5 ∨ 8 < k % 256)

/-- The numbers of the scalar objects of power and resets (OD 2C00 to 2CFF). -/
abbrev systemObject (k : Nat) : Prop := 0x2C0000 ≤ k ∧ k < 0x2D0000 ∧ k % 256 = 0

/-- `t` has the objects of power and resets of `s`, and its DOMAIN objects below the ports'. -/
def KeepsSystem (s t : State) : Prop := KeepsObjects systemObject s t ∧ ∀ k, k < 0x300000 → Tbl.get? t.doms k = Tbl.get? s.doms k

/-- `t` is `s` but for what trace and messages change: of the counters the levels, of the objects those that are not quiet. -/
def TracedFrom (s t : State) : Prop :=
  (∃ rg dm lv rc sc dp jn st fr tr out, t = { s with
    regs := rg, doms := dm, cnt := { s.cnt with level := lv }, recd := rc, sch := sc, dap := dp, jn := jn, stack := st, free := fr
    tr := tr, out := out }) ∧ KeepsObjects traceQuiet s t ∧ KeepsSystem s t

/-- `t` is `s` as the packets of source `n` leave it: what `g` says of the source is as it was, and so are the other sources. -/
def SourceFrom {α : Type} (g : TraceSource → α) (n : Nat) (s t : State) : Prop :=
  g (t.trc n) = g (s.trc n) ∧ (∀ m, m ≠ n → t.trc m = s.trc m) ∧ TracedFrom s t

/-- Whether a source is enabled and its core asleep. -/
def TraceSource.status (x : TraceSource) : Bool × Bool := (x.enabled, x.asleep)

/-- The status of a source, and the address at which it goes on. -/
def TraceSource.course (x : TraceSource) : Bool × Bool × Option Nat := (x.enabled, x.asleep, x.nextAddr)

theorem State.trc_setTrc_same (s : State) (n : Nat) (x : TraceSource) : (s.setTrc n x).trc n = x := Tbl.getD_set_same ..

theorem State.trc_setTrc_other (s : State) {n m : Nat} (h : m ≠ n) (x : TraceSource) : (s.setTrc n x).trc m = s.trc m :=
  Tbl.getD_set_other _ _ _ _ _ h.symm

/-! ### Messages and DOMAIN objects -/

namespace KeepsSystem

theorem refl (s : State) : KeepsSystem s s := ⟨.refl _ s, fun _ _ => rfl⟩

section
variable {s t : State} (h : KeepsSystem s t)
include h

theorem trans {u : State} (k : KeepsSystem t u) : KeepsSystem s u := by
  obtain ⟨hobjects, hdoms⟩ := h
  obtain ⟨kobjects, kdoms⟩ := k
  exact ⟨hobjects.trans kobjects, fun key hkey => (kdoms key hkey).trans (hdoms key hkey)⟩

theorem raised {u : State} (k : RaisedFrom t u) (hkeeps : KeepsUnrecorded t u) : KeepsSystem s u := by
  have hother : ∀ o ∈ recordObjects, ¬ systemObject (o.key 0 0) := by decide
  refine h.trans ⟨hkeeps.mono fun key hkey o ho hk => hother o ho (hk ▸ hkey), ?_⟩
  · obtain ⟨_, _, _, _, _, _, _, _, _, rfl⟩ := k
    exact fun _ _ => rfl

theorem raiseAt {f a : Bool} {ty pl tm fr : Nat} : KeepsSystem s (t.raiseAt f a ty pl tm fr) :=
  h.raised (.raiseAt ..) (KeepsUnrecorded.raiseAt ..)

theorem raise {f a : Bool} {ty pl : Nat} : KeepsSystem s (t.raise f a ty pl) := h.raiseAt

theorem queued {u : State} (k : QueuedFrom t u) : KeepsSystem s u := by
  obtain ⟨_, rfl⟩ := k
  exact h

theorem wr {o : Ob} {v m j : Nat} (ho : ¬ systemObject (o.key m j)) : KeepsSystem s (t.wr o v m j) :=
  h.trans ⟨.wr t o v m j ho, fun _ _ => rfl⟩

theorem wrBytes {o : Ob} {b : Bytes} {m j : Nat} (ho : 0x3000 ≤ o.idx) : KeepsSystem s (t.wrBytes o b m j) := by
  refine h.trans ⟨.refl _ t, fun key hkey => Tbl.get?_set_other _ _ _ _ ?_⟩
  unfold Ob.key
  omega

theorem endRuns {c level die : Nat} : KeepsSystem s (t.endRuns c level die) := by
  unfold State.endRuns
  extract_lets mine
  exact List.foldlRecOn (motive := KeepsSystem s) _ _ h fun _ hu _ _ => hu.raise

theorem drop {g c level die cseq reason : Nat} : KeepsSystem s (t.drop g c level die cseq reason) := by
  unfold State.drop
  extract_lets joins s1 s2
  have hs1 : KeepsSystem s s1 := h.wr (o := Dict.grpDrops) (by
    show ¬ systemObject ((0x3000 + g) * 256 + 0x88 + c)
    omega)
  split
  · exact hs1
  · exact hs1.endRuns

theorem police {g c pre b : Nat} : KeepsSystem s (t.police g c pre b).2 := by
  unfold State.police
  split
  · exact h
  · extract_lets r q
    exact wrBytes (t := t.setGq g { q with policers := Tbl.set q.policers c r.2 }) h (by decide)

theorem offer {c : Nat} {kind : MsgKind} {body : Bytes} : KeepsSystem s (t.offer c kind body) := by
  unfold State.offer
  split
  · exact h
  next g _ =>
    extract_lets die restart cseq _ s1 size send r
    have hsend {v : State} (hv : KeepsSystem s v) (colour : Nat) : KeepsSystem s (send v colour) :=
      hv.endRuns.queued (State.enqueue_only ..)
    have hs1 : KeepsSystem s s1 := h
    split
    · exact hs1.drop
    · split
      · exact hsend hs1 0
      · split
        · exact hs1.drop
        · split
          · exact hs1.police.drop
          · exact hsend hs1.police _

theorem stackWrite {a : Nat} {b : Bytes} : KeepsSystem s (t.stackWrite a b) := by
  unfold State.stackWrite
  split
  · exact h
  · exact h

end

end KeepsSystem

namespace TracedFrom

theorem refl (s : State) : TracedFrom s s := ⟨⟨_, _, _, _, _, _, _, _, _, _, _, rfl⟩, .refl _ s, .refl s⟩

theorem trans {s t u : State} (h : TracedFrom s t) (k : TracedFrom t u) : TracedFrom s u := by
  obtain ⟨⟨_, _, _, _, _, _, _, _, _, _, _, rfl⟩, hkeeps, hsystem⟩ := h
  obtain ⟨⟨_, _, _, _, _, _, _, _, _, _, _, rfl⟩, kkeeps, ksystem⟩ := k
  exact ⟨⟨_, _, _, _, _, _, _, _, _, _, _, rfl⟩, hkeeps.trans kkeeps, hsystem.trans ksystem⟩

theorem messaged {s t : State} (h : MessagedFrom s t) (hsystem : KeepsSystem s t) : TracedFrom s t := by
  obtain ⟨⟨_, _, _, _, _, _, _, _, _, rfl⟩, hkeeps⟩ := h
  exact ⟨⟨_, _, _, _, _, _, _, _, _, _, _, rfl⟩, hkeeps.mono fun _ hk => hk.1, hsystem⟩

theorem setTr (s : State) (tr : Trace) : TracedFrom s { s with tr := tr } := ⟨⟨_, _, _, _, _, _, _, _, _, _, _, rfl⟩, .refl _ s, .refl s⟩

theorem emit (s : State) (o : Output) : TracedFrom s (s.emit o) := ⟨⟨_, _, _, _, _, _, _, _, _, _, _, rfl⟩, .refl _ s, .refl s⟩

theorem drawn (s : State) : TracedFrom s s.drawn := ⟨⟨_, _, _, _, _, _, _, _, _, _, _, rfl⟩, .refl _ s, .refl s⟩

/-- A counter of the sources counts. -/
theorem wr (s : State) {o : Ob} (ho : 5 ≤ o.sub ∧ o.sub ≤ 8) (v m : Nat) : TracedFrom s (s.wr o v m) := by
  refine ⟨⟨_, _, _, _, _, _, _, _, _, _, _, rfl⟩, .wr s o v m 0 fun hk => ?_, (KeepsSystem.refl s).wr fun hk => ?_⟩
  · have hsub := hk.2
    unfold Ob.key at hsub
    omega
  · have hsub := hk.2.2
    unfold Ob.key at hsub
    omega

section
variable {s t : State} (h : TracedFrom s t)
include h

theorem time : t.time = s.time := by
  obtain ⟨⟨_, _, _, _, _, _, _, _, _, _, _, rfl⟩, -⟩ := h
  rfl

theorem ce : t.ce = s.ce := by
  obtain ⟨⟨_, _, _, _, _, _, _, _, _, _, _, rfl⟩, -⟩ := h
  rfl

theorem pw : t.pw = s.pw := by
  obtain ⟨⟨_, _, _, _, _, _, _, _, _, _, _, rfl⟩, -⟩ := h
  rfl

theorem parked : t.parked = s.parked := by
  obtain ⟨⟨_, _, _, _, _, _, _, _, _, _, _, rfl⟩, -⟩ := h
  rfl

theorem kp : t.kp = s.kp := by
  obtain ⟨⟨_, _, _, _, _, _, _, _, _, _, _, rfl⟩, -⟩ := h
  rfl

theorem rst : t.rst = s.rst := by
  obtain ⟨⟨_, _, _, _, _, _, _, _, _, _, _, rfl⟩, -⟩ := h
  rfl

theorem flash : t.flash = s.flash := by
  obtain ⟨⟨_, _, _, _, _, _, _, _, _, _, _, rfl⟩, -⟩ := h
  rfl

theorem cnt : ∃ lv, t.cnt = { s.cnt with level := lv } := by
  obtain ⟨⟨_, _, lv, _, _, _, _, _, _, _, _, rfl⟩, -⟩ := h
  exact ⟨lv, rfl⟩

theorem objects : KeepsObjects traceQuiet s t := h.2.1

theorem system : KeepsSystem s t := h.2.2

end

end TracedFrom

/-! ### What each operation of a source leaves -/

namespace SourceFrom

section
variable {α : Type} {g : TraceSource → α} {n : Nat} {s t : State}

theorem refl (g : TraceSource → α) (n : Nat) (s : State) : SourceFrom g n s s := ⟨rfl, fun _ _ => rfl, .refl s⟩

variable (h : SourceFrom g n s t)
include h

theorem traced : TracedFrom s t := h.2.2

theorem trans {u : State} (k : SourceFrom g n t u) : SourceFrom g n s u := by
  obtain ⟨hsource, hothers, htraced⟩ := h
  obtain ⟨ksource, kothers, ktraced⟩ := k
  exact ⟨ksource.trans hsource, fun m hm => (kothers m hm).trans (hothers m hm), htraced.trans ktraced⟩

theorem ite {c : Prop} [Decidable c] {u : State} (k : SourceFrom g n s u) : SourceFrom g n s (if c then t else u) := by
  split
  · exact h
  · exact k

/-- What trace changes beside the sources. -/
theorem beside {u : State} (k : TracedFrom t u) (htr : u.tr.sources = t.tr.sources) : SourceFrom g n s u := by
  obtain ⟨hsource, hothers, htraced⟩ := h
  have hsame (m : Nat) : u.trc m = t.trc m := congrArg (fun l => Tbl.getD l m ({} : TraceSource)) htr
  exact ⟨(congrArg g (hsame n)).trans hsource, fun m hm => (hsame m).trans (hothers m hm), htraced.trans k⟩

theorem setTrc {x : TraceSource} (hx : g x = g (t.trc n)) : SourceFrom g n s (t.setTrc n x) := by
  obtain ⟨hsource, hothers, htraced⟩ := h
  refine ⟨?_, fun m hm => (t.trc_setTrc_other hm x).trans (hothers m hm), htraced.trans (.setTr t _)⟩
  rw [t.trc_setTrc_same, hx, hsource]

theorem messaged {u : State} (k : MessagedFrom t u) (hsystem : KeepsSystem t u) : SourceFrom g n s u := by
  refine h.beside (.messaged k hsystem) ?_
  obtain ⟨⟨_, _, _, _, _, _, _, _, _, rfl⟩, -⟩ := k
  rfl

theorem offer {c : Nat} (hc : c < 8) {kind : MsgKind} {body : Bytes} : SourceFrom g n s (t.offer c kind body) :=
  h.messaged (.offer hc ..) (KeepsSystem.refl t).offer

theorem bump {o : Ob} {m v : Nat} (ho : 5 ≤ o.sub ∧ o.sub ≤ 8) : SourceFrom g n s (t.bump o m 0 v) := h.beside (.wr t ho _ m) rfl

theorem bumpSat {o : Ob} {m v : Nat} (ho : 5 ≤ o.sub ∧ o.sub ≤ 8) : SourceFrom g n s (t.bumpSat o m 0 v) := h.beside (.wr t ho _ m) rfl

theorem emit {o : Output} : SourceFrom g n s (t.emit o) := h.beside (.emit t o) rfl

theorem drawn : SourceFrom g n s t.drawn := h.beside (.drawn t) rfl

/-! ### Lines and units (11 R237, R249) -/

theorem stackWrite {a : Nat} {b : Bytes} : SourceFrom g n s (t.stackWrite a b) := h.messaged (.stackWrite ..) (KeepsSystem.refl t).stackWrite

theorem ringWrite {base size off : Nat} {b : Bytes} : SourceFrom g n s (t.ringWrite base size off b) := by
  unfold State.ringWrite
  extract_lets o k
  exact .ite h h.stackWrite.stackWrite

theorem storeAppend {b : Bytes} : SourceFrom g n s (t.storeAppend b) := by
  unfold State.storeAppend
  extract_lets size c pos s1
  have hs1 : SourceFrom g n s s1 := h.ringWrite
  exact hs1.beside (.setTr s1 _) rfl

end

section
variable {α : Type} {g : TraceSource → α} (hg : ∀ (x : TraceSource) (u : OffloadUnit), g { x with unit := u } = g x)
  {n : Nat} {s t : State} (h : SourceFrom g n s t)
include hg h

/-- A unit that is gathered or sent changes of its source the unit alone. -/
theorem sendUnit : SourceFrom g n s (t.sendUnit n) := by
  unfold State.sendUnit
  extract_lets x block hd s1
  have hs1 : SourceFrom g n s s1 := h.setTrc (hg ..)
  exact .ite h (.ite (hs1.offer (by decide)) hs1.storeAppend)

theorem gatherLine {lseq : Nat} {line : Bytes} : SourceFrom g n s (t.gatherLine n lseq line) := by
  unfold State.gatherLine
  extract_lets x _ u s1
  have hs1 : SourceFrom g n s s1 := h.setTrc (hg ..)
  exact .ite (hs1.sendUnit hg) hs1

end

section
variable {n : Nat} {s t : State} (h : SourceFrom TraceSource.course n s t)
include h

theorem completeLine : SourceFrom TraceSource.course n s (t.completeLine n) := by
  unfold State.completeLine
  extract_lets x l s1 _ s2
  have hs1 : SourceFrom TraceSource.course n s s1 := h.setTrc rfl
  have hs2 : SourceFrom TraceSource.course n s s2 := hs1.beside (.setTr s1 _) rfl
  exact .ite h (.ite (.ite (hs2.gatherLine fun _ _ => rfl) hs2) ((hs1.bump (o := Dict.srcLines) (by decide)).gatherLine fun _ _ => rfl))

end

theorem pushLine {n : Nat} {s t : State} (h : SourceFrom TraceSource.course n s t) {k : Nat} {starts : Bool} {b : Bytes} :
    SourceFrom TraceSource.course n s (State.pushLine k t n starts b) := by
  induction k generalizing t starts b with
  | zero => exact h
  | succ k ih =>
    cases b with
    | nil => exact h
    | cons b bs =>
      rw [State.pushLine]
      · refine ih (ite (completeLine ?_) ?_)
        · exact h.setTrc rfl
        · exact h.setTrc rfl
      · exact List.cons_ne_nil b bs

section
variable {n : Nat} {s t : State} (h : SourceFrom TraceSource.course n s t)
include h

/-! ### Packets (11 R238 to R244) -/

theorem stallCore : SourceFrom TraceSource.course n s (t.stallCore n) :=
  .ite h (h.setTrc (x := { t.trc n with stallSince := some t.time.now }) rfl).emit

theorem stallCheck : SourceFrom TraceSource.course n s (t.stallCheck n) := by
  unfold State.stallCheck
  extract_lets x
  split
  · exact .ite h.stallCore h
  · exact .ite ((h.setTrc (x := { x with stallSince := none }) rfl).bump (o := Dict.srcStallNs) (by decide)).emit h

theorem rawPacket {full : Bool} {b : Bytes} : SourceFrom TraceSource.course n s (t.rawPacket n full b) := by
  unfold State.rawPacket
  extract_lets x s1
  have hs1 : SourceFrom TraceSource.course n s s1 := h.pushLine
  refine .ite ?_ (hs1.setTrc (x := { s1.trc n with lastPacket := s1.time.now }) rfl).stallCheck
  exact ((h.setTrc (x := { x with dropPackets := x.dropPackets + 1, dropBytes := x.dropBytes + b.length
                                  atoms := if isBranch n then [] else x.atoms }) rfl).bumpSat (o := Dict.srcDroppedPackets) (by decide)).bump
    (o := Dict.srcDroppedBytes) (by decide)

theorem syncPacket {full : Bool} {ns : Nat} : SourceFrom TraceSource.course n s (t.syncPacket n full ns) := by
  unfold State.syncPacket
  extract_lets x addr withAddr s1 bs s2
  have hs1 : SourceFrom TraceSource.course n s s1 := .ite h.drawn h
  have hx : x.course = (s1.trc n).course := by
    unfold s1
    split <;> rfl
  have hs2 : SourceFrom TraceSource.course n s s2 := hs1.setTrc hx
  exact hs2.rawPacket

theorem timePacket {full : Bool} : SourceFrom TraceSource.course n s (t.timePacket n full) := by
  unfold State.timePacket
  extract_lets x d
  exact .ite (h.setTrc (x := { x with timeRef := t.nowNs }) rfl).rawPacket h

theorem packetLead {full : Bool} {ns : Nat} : SourceFrom TraceSource.course n s (t.packetLead n full ns) := by
  unfold State.packetLead
  extract_lets x
  exact .ite (h.setTrc (x := { x with dropPackets := 0, dropBytes := 0 }) rfl).rawPacket.syncPacket (.ite h.syncPacket h)

theorem leadNow {full : Bool} : SourceFrom TraceSource.course n s (t.leadNow n full) := h.packetLead.timePacket

theorem flushAtoms {full : Bool} : SourceFrom TraceSource.course n s (t.flushAtoms n full) := by
  unfold State.flushAtoms
  extract_lets s1 atoms
  have hs1 : SourceFrom TraceSource.course n s s1 := h.leadNow
  exact .ite h (.ite hs1 (hs1.setTrc (x := { s1.trc n with atoms := [] }) rfl).rawPacket)

theorem branchPacket {full : Bool} {b : Bytes} : SourceFrom TraceSource.course n s (t.branchPacket n full b) := h.flushAtoms.leadNow.rawPacket

theorem traceOff {full : Bool} {cause index : Nat} : SourceFrom TraceSource.course n s (t.traceOff n full cause index) := by
  unfold State.traceOff
  extract_lets s1
  have hs1 : SourceFrom TraceSource.course n s s1 := h.branchPacket
  exact (hs1.setTrc (x := { s1.trc n with active := false }) rfl).completeLine

theorem traceOn {full : Bool} {cause index a : Nat} : SourceFrom TraceSource.course n s (t.traceOn n full cause index a) := by
  unfold State.traceOn
  extract_lets s1
  have hs1 : SourceFrom TraceSource.course n s s1 := h.branchPacket
  exact hs1.setTrc (x := { s1.trc n with active := true, ref := a, onCause := 2 }) rfl

theorem powerPacket {enter : Bool} {who st : Nat} : SourceFrom TraceSource.course n s (t.powerPacket n enter who st) :=
  h.branchPacket.completeLine

end

theorem commandPacket {s t : State} (h : SourceFrom TraceSource.course 0 s t) {head ns : Nat} {b : Bytes} :
    SourceFrom TraceSource.course 0 s (t.commandPacket head ns b) := by
  unfold State.commandPacket
  extract_lets lead at_ s1 x
  have hs1 : SourceFrom TraceSource.course 0 s s1 := h.packetLead
  exact (hs1.setTrc (x := { x with timeRef := at_ }) rfl).rawPacket

theorem traceCommand {s t : State} (h : SourceFrom TraceSource.course 0 s t) {begins : Bool} {cmd engine cls tag arrival : Nat} :
    SourceFrom TraceSource.course 0 s (t.traceCommand begins cmd engine cls tag arrival) := .ite h (.ite h.commandPacket h.commandPacket)

/-! ### Retirement (11 R243 to R245) -/

theorem status {n : Nat} {s t : State} (h : SourceFrom TraceSource.course n s t) : SourceFrom TraceSource.status n s t := by
  obtain ⟨hsource, hrest⟩ := h
  rw [TraceSource.course, TraceSource.course, Prod.mk.injEq, Prod.mk.injEq] at hsource
  exact ⟨Prod.ext hsource.1 hsource.2.1, hrest⟩

section
variable {n : Nat} {s t : State} (h : SourceFrom TraceSource.status n s t)
include h

/-- What the packets of a source do comes behind what has changed its course. -/
theorem packets {u : State} (k : SourceFrom TraceSource.course n t u) : SourceFrom TraceSource.status n s u := h.trans k.status

theorem setNextAddr {a : Option Nat} : SourceFrom TraceSource.status n s (t.setNextAddr n a) := h.setTrc rfl

theorem indirect {full : Bool} {target : Nat} : SourceFrom TraceSource.status n s (t.indirect n full target) := by
  unfold State.indirect
  extract_lets s2 s3
  have hs3 : SourceFrom TraceSource.course n t s3 := (refl _ n t).flushAtoms.leadNow.rawPacket
  exact (h.packets hs3).setTrc (x := { s3.trc n with ref := target, nextAddr := some target }) rfl

theorem exception {full : Bool} {ret handler : Nat} : SourceFrom TraceSource.status n s (t.exception n full ret handler) := by
  unfold State.exception
  extract_lets s2 s3
  have hs3 : SourceFrom TraceSource.course n (t.setNextAddr n (some ret)) s3 := (refl _ n _).flushAtoms.leadNow.rawPacket
  exact ((h.setNextAddr.packets hs3).setTrc (x := { s3.trc n with ref := ret, nextAddr := some handler }) rfl).indirect

theorem traceBranch {full : Bool} {kind : Nat} {taken : Bool} {target : Nat} :
    SourceFrom TraceSource.status n s (t.traceBranch n full kind taken target) := by
  unfold State.traceBranch
  split
  · extract_lets x s1
    have hs1 : SourceFrom TraceSource.status n s s1 := h.setTrc rfl
    exact .ite (hs1.packets (refl _ n s1).flushAtoms) hs1
  · exact h.indirect
  · exact h

theorem retire {full : Bool} {a kind : Nat} {taken : Bool} {target : Nat} {next : Option Nat} :
    SourceFrom TraceSource.status n s (t.retire n full a kind taken target next) := by
  unfold State.retire
  extract_lets x0 x1 s1 act s2 s3 _ s5
  have hs1 : SourceFrom TraceSource.status n s s1 := h.setTrc rfl
  have hs2 : SourceFrom TraceSource.status n s s2 := .ite (hs1.packets (refl _ n s1).traceOn) (.ite (hs1.packets (refl _ n s1).traceOff) hs1)
  have hs3 : SourceFrom TraceSource.status n s s3 := (ite hs2.traceBranch hs2).setNextAddr
  split
  · exact hs3
  · have hs5 : SourceFrom TraceSource.status n s s5 := hs3.setTrc rfl
    exact .ite (hs5.packets (refl _ n s5).traceOff) hs5

end

end SourceFrom

end Sys2Proof.Machine
end

section
/-! The commands of trace (11 R235, R237, R240, R245, R247, R249). -/

namespace Sys2Proof.Machine

open Sys2Proof

-- one theorem after the other: each theorem that waits for the kernel would hold a thread
set_option Elab.async false

/-! ### Sources one after the other -/

/-- What changes one source at a time, whatever it makes of that source. -/
abbrev SourceOnly (n : Nat) (s t : State) : Prop := SourceFrom (fun _ => ()) n s t

theorem SourceFrom.only {α : Type} {g : TraceSource → α} {n : Nat} {s t : State} (h : SourceFrom g n s t) : SourceOnly n s t := ⟨rfl, h.2⟩

/-- A source among those that are gone through is found as it was, and stays as it is left. -/
theorem State.foldl_source {f : State → Nat → State} (hf : ∀ t m, SourceOnly m t (f t m)) {l : List Nat} (hl : l.Nodup) {n : Nat} (hn : n ∈ l)
    (s : State) : ∃ t, t.trc n = s.trc n ∧ t.time = s.time ∧ KeepsObjects traceQuiet s t ∧ (l.foldl f s).trc n = (f t n).trc n := by
  induction l generalizing s with
  | nil => cases hn
  | cons m l ih =>
    rw [List.nodup_cons] at hl
    obtain ⟨hm, hl⟩ := hl
    obtain ⟨-, hothers, htraced⟩ := hf s m
    obtain rfl | hn := List.mem_cons.mp hn
    · refine ⟨s, rfl, rfl, .refl _ s, ?_⟩
      have hrest (k : List Nat) (hk : n ∉ k) (t : State) : (k.foldl f t).trc n = t.trc n := by
        induction k generalizing t with
        | nil => rfl
        | cons j k ih =>
          rw [List.mem_cons, not_or] at hk
          rw [List.foldl_cons, ih hk.2]
          exact (hf t j).2.1 n hk.1
      exact hrest l hm _
    · obtain ⟨t, hsource, htime', hkeeps', hfold⟩ := ih hl hn (f s m)
      have hne : n ≠ m := fun e => hm (e ▸ hn)
      exact ⟨t, hsource.trans (hothers n hne), htime'.trans htraced.time, htraced.objects.trans hkeeps', hfold⟩

theorem State.traceSources_nodup (s : State) : s.traceSources.Nodup := by
  unfold State.traceSources
  split
  · exact List.nodup_range
  · exact List.nodup_singleton 1

theorem State.passed_congr {s t : State} (h : t.time = s.time) (since ns : Nat) : t.passed since ns = s.passed since ns := by
  unfold State.passed
  rw [h]

/-! ### Lines, units and timeouts (11 R237, R240, R249) -/

theorem State.completeLine_line (s : State) (n : Nat) : ((s.completeLine n).trc n).line = [] := by
  unfold State.completeLine
  extract_lets x l s1 _ s2
  split
  next hempty => exact List.isEmpty_iff.mp hempty
  next =>
    have hs1 : (s1.trc n).line = [] := by rw [s.trc_setTrc_same]
    have hgather (v : State) (hv : v.trc n = s1.trc n) : ((v.gatherLine n x.lseq l).trc n).line = [] := by
      have h := (SourceFrom.refl (g := TraceSource.line) n v).gatherLine (fun _ _ => rfl) (lseq := x.lseq) (line := l)
      exact h.1.trans (by rw [hv, hs1])
    split
    · split
      · exact hgather s2 rfl
      · exact hs1
    · exact hgather _ rfl

theorem State.sendUnit_lines (s : State) (n : Nat) : ((s.sendUnit n).trc n).unit.lines = [] := by
  unfold State.sendUnit
  extract_lets x block hd s1
  split
  next hempty => exact List.isEmpty_iff.mp hempty
  next =>
    have hs1 : (s1.trc n).unit.lines = [] := by rw [s.trc_setTrc_same]
    split
    · have h := (SourceFrom.refl (fun x => x.unit.lines) n s1).offer (c := 5) (by decide) (kind := .offload) (body := hd ++ block)
      exact h.1.trans hs1
    · exact ((SourceFrom.refl (fun x => x.unit.lines) n s1).storeAppend (b := hd ++ block)).1.trans hs1

section
variable {dt : Nat} {s u : State} {n : Nat} (hu : u = s.elapse dt) (hon : u.coreOn = true)
include hu hon

theorem traceLineTimeout_completes (hn : n ∈ u.traceSources) (hpassed : u.passed (u.trc n).lastPacket 1000 = true) :
    Does (.traceLineTimeout dt) s (fun t => (t.trc n).line = []) := by
  have hf (t : State) (m : Nat) : SourceOnly m t (if t.passed (t.trc m).lastPacket 1000 then t.completeLine m else t) :=
    .ite (SourceFrom.refl _ m t).completeLine.only (.refl _ m t)
  obtain ⟨t, hsource, htime, -, hfold⟩ := State.foldl_source hf u.traceSources_nodup hn u
  refine .of_core hu rfl hon ?_
  refine (congrArg TraceSource.line hfold).trans ?_
  rw [hsource, State.passed_congr htime, if_pos hpassed]
  exact t.completeLine_line n

theorem syncPeriod_marks (hn : n ∈ u.traceSources) (henabled : (u.trc n).enabled = true)
    (hpassed : u.passed (u.trc n).lastSync (u.rd Dict.syncPeriod) = true) :
    Does (.syncPeriod dt) s (fun t => t.trc n = { u.trc n with syncDue := true }) := by
  have hf (t : State) (m : Nat) : SourceOnly m t (if (t.trc m).enabled && t.passed (t.trc m).lastSync (t.rd Dict.syncPeriod)
      then t.setTrc m { t.trc m with syncDue := true } else t) := .ite ((SourceFrom.refl _ m t).setTrc (x := { t.trc m with syncDue := true }) rfl)
      (.refl _ m t)
  obtain ⟨t, hsource, htime, hkeeps, hfold⟩ := State.foldl_source hf u.traceSources_nodup hn u
  refine .of_core hu rfl hon (hfold.trans ?_)
  rw [hsource, henabled, State.passed_congr htime, hkeeps.rd (o := Dict.syncPeriod) (by decide), hpassed, if_pos (by decide), t.trc_setTrc_same]

theorem offloadFlush_sends (hn : n ∈ u.traceSources) (hpassed : u.passed (u.trc n).unit.since (u.rd Dict.offloadFlush) = true) :
    Does (.offloadFlush dt) s (fun t => (t.trc n).unit.lines = []) := by
  have hf (t : State) (m : Nat) : SourceOnly m t (if t.passed (t.trc m).unit.since (t.rd Dict.offloadFlush) then t.sendUnit m else t) :=
    .ite ((SourceFrom.refl _ m t).sendUnit fun _ _ => rfl) (.refl _ m t)
  obtain ⟨t, hsource, htime, hkeeps, hfold⟩ := State.foldl_source hf u.traceSources_nodup hn u
  refine .of_core hu rfl hon ?_
  refine (congrArg (fun x => x.unit.lines) hfold).trans ?_
  rw [hsource, State.passed_congr htime, hkeeps.rd (o := Dict.offloadFlush) (by decide), if_pos hpassed]
  exact t.sendUnit_lines n

end

/-! ### Retirement and sleep (11 R243 to R247) -/

theorem SourceFrom.nextAddr {n : Nat} {s t : State} (h : SourceFrom TraceSource.course n s t) : (t.trc n).nextAddr = (s.trc n).nextAddr :=
  congrArg (fun x => x.2.2) h.1

theorem SourceFrom.asleep {n : Nat} {s t : State} (h : SourceFrom TraceSource.course n s t) : (t.trc n).asleep = (s.trc n).asleep :=
  congrArg (fun x => x.2.1) h.1

/-- After an instruction its source goes on where its port says. -/
theorem State.retire_nextAddr (s : State) (n : Nat) (full : Bool) (a kind : Nat) (taken : Bool) (target : Nat) (next : Option Nat) :
    ((s.retire n full a kind taken target next).trc n).nextAddr = next := by
  unfold State.retire
  extract_lets x0 x1 s1 act s2 s3 _ s5
  have hs3 : (s3.trc n).nextAddr = next := congrArg TraceSource.nextAddr (State.trc_setTrc_same ..)
  have hs5 : (s5.trc n).nextAddr = next := (congrArg TraceSource.nextAddr (State.trc_setTrc_same ..)).trans hs3
  split
  · exact hs3
  · split
    · exact ((SourceFrom.refl _ n s5).traceOff).nextAddr.trans hs5
    · exact hs5

theorem State.nextOf_congr {s t : State} {n : Nat} (h : t.rd Dict.srcAlign n = s.rd Dict.srcAlign n) (a kind : Nat) (taken : Bool) (target : Nat) :
    t.nextOf n a kind taken target = s.nextOf n a kind taken target := by
  unfold State.nextOf
  rw [h]

theorem SourceFrom.srcAlign {α : Type} {g : TraceSource → α} {n : Nat} {s t : State} (h : SourceFrom g n s t) :
    t.rd Dict.srcAlign n = s.rd Dict.srcAlign n := by
  refine h.traced.objects.rd ?_
  unfold Ob.key
  dsimp only [Dict.srcAlign]
  omega

/-- After a group its source goes on where the port says of the group's last instruction. -/
theorem State.retireGroup_nextAddr (k : Nat) (s : State) (n : Nat) (full : Bool) (a kind : Nat) (taken : Bool) (target : Nat) :
    ((State.retireGroup (k + 1) s n full a kind taken target).trc n).nextAddr =
      s.nextOf n (a + k * 2 ^ (s.rd Dict.srcAlign n % 4)) kind taken target := by
  induction k generalizing s a with
  | zero =>
    rw [State.retireGroup, State.retire_nextAddr, Nat.zero_mul, Nat.add_zero]
  | succ k ih =>
    have halign := ((SourceFrom.refl TraceSource.status n s).retire (full := full) (a := a) (kind := 0) (taken := false) (target := 0)
      (next := some (a + 2 ^ (s.rd Dict.srcAlign n % 4)))).srcAlign
    rw [State.retireGroup, ih, State.nextOf_congr halign, halign, Nat.succ_mul, Nat.add_assoc, Nat.add_comm (k * _)]

theorem State.takeGroup_nextAddr {s : State} {k pc last kind : Nat} (hdie : s.isDie = true) (hk : k < 8)
    (henabled : (s.trc (k + 2)).enabled = true) (hpc : pc ≤ last) (hstep : (last - pc) % 2 ^ (s.rd Dict.srcAlign (k + 2) % 4) = 0)
    (hkind : kind ≤ 2) (taken : Bool) (target ret : Nat) :
    ((s.takeGroup k false pc last kind taken target ret).trc (k + 2)).nextAddr = s.nextOf (k + 2) last kind taken target := by
  have hguard : ¬ (!s.isDie || decide (8 ≤ k) || !(s.trc (k + 2)).enabled) = true := by
    rw [hdie, henabled, decide_eq_false (Nat.not_le.mpr hk)]
    decide
  have hpos : 0 < 2 ^ (s.rd Dict.srcAlign (k + 2) % 4) := Nat.two_pow_pos _
  unfold State.takeGroup
  dsimp only
  rw [if_neg hguard, Bool.false_and, if_neg Bool.false_ne_true, if_neg (by omega)]
  generalize hstepdef : 2 ^ (s.rd Dict.srcAlign (k + 2) % 4) = step at hstep hpos ⊢
  have hcount : (last + step - pc) / step = (last - pc) / step + 1 := by
    rw [show last + step - pc = last - pc + step by omega, Nat.add_div_right _ hpos]
  have hlast : pc + (last - pc) / step * step = last := by
    rw [Nat.div_mul_cancel (Nat.dvd_of_mod_eq_zero hstep)]
    omega
  rw [hcount, State.retireGroup_nextAddr, hstepdef, hlast]

theorem State.indirect_nextAddr (s : State) (n : Nat) (full : Bool) (target : Nat) :
    ((s.indirect n full target).trc n).nextAddr = some target := congrArg TraceSource.nextAddr (State.trc_setTrc_same ..)

theorem State.takeGroup_exception {s : State} {k pc last : Nat} (hdie : s.isDie = true) (hk : k < 8) (henabled : (s.trc (k + 2)).enabled = true)
    (taken : Bool) (target ret : Nat) : ((s.takeGroup k false pc last 3 taken target ret).trc (k + 2)).nextAddr = some target := by
  have hguard : ¬ (!s.isDie || decide (8 ≤ k) || !(s.trc (k + 2)).enabled) = true := by
    rw [hdie, henabled, decide_eq_false (Nat.not_le.mpr hk)]
    decide
  unfold State.takeGroup
  dsimp only
  rw [if_neg hguard, Bool.false_and, if_neg Bool.false_ne_true, if_pos rfl]
  split
  · exact State.indirect_nextAddr ..
  · exact congrArg TraceSource.nextAddr (State.trc_setTrc_same ..)

/-- The packets at which a core falls asleep or awakes leave whether it is asleep. -/
theorem State.sleepPackets_asleep (s : State) (n : Nat) (asleep : Bool) : ((if !(s.trc n).enabled then s
    else if asleep then s.powerPacket n asleep 1 3
    else (s.powerPacket n asleep 1 3).syncPacket n false (s.powerPacket n asleep 1 3).nowNs).trc n).asleep = (s.trc n).asleep := by
  have hpower : SourceFrom TraceSource.course n s (s.powerPacket n asleep 1 3) := (SourceFrom.refl _ _ s).powerPacket
  split
  · rfl
  · split
    · exact hpower.asleep
    · exact hpower.syncPacket.asleep

section
variable {dt k : Nat} {s u : State} (hu : u = s.elapse dt) (hon : u.coreOn = true) (hdie : u.isDie = true) (hk : k < 8)
include hu hon hdie hk

/-- A retirement group that finds the core running acts on its source at once. -/
theorem Does.of_sqGroup {pc last kind target ret : Nat} {taken : Bool} {P : State → Prop}
    (hP : P ((u.touch.takeGroup k false pc last kind taken target ret).within s)) : Does (.sqGroup dt k pc last kind taken target ret) s P := by
  have hactive : u.coreActive = true := by
    unfold State.coreOn at hon
    exact (Bool.and_eq_true_iff.mp hon).1
  have hreset : u.inReset = false := by
    unfold State.coreActive at hactive
    have hbusy := (Bool.and_eq_true_iff.mp hactive).2
    unfold State.inReset
    rw [Option.isNone_iff_eq_none.mp hbusy]
    rfl
  refine ⟨_, rfl, ?_⟩
  unfold State.after
  rw [← hu]
  dsimp only
  rw [hreset, hdie, hon, hactive, if_neg (by rw [decide_eq_false (Nat.not_le.mpr hk)]; decide), if_pos rfl]
  exact hP

theorem sqSleep_marks (asleep : Bool) : Does (.sqSleep dt k asleep) s (fun t => (t.trc (k + 2)).asleep = asleep) := by
  refine .of_core hu rfl hon ?_
  dsimp only
  split
  next hguard =>
    rw [hdie, decide_eq_false (Nat.not_le.mpr hk), Bool.not_true, Bool.or_self, Bool.false_or] at hguard
    exact beq_iff_eq.mp hguard
  next => exact (State.sleepPackets_asleep _ (k + 2) asleep).trans (congrArg TraceSource.asleep (u.trc_setTrc_same ..))

end

/-! ### The sink, the store (11 R235, R249) -/

/-- A stall that begins or ends leaves the lines that wait, and nothing that has left comes back. -/
theorem State.stallCheck_lines (s : State) (n : Nat) : (s.stallCheck n).tr.lines = s.tr.lines ∧ ∃ more, (s.stallCheck n).out = more ++ s.out := by
  have hsame : s.tr.lines = s.tr.lines ∧ ∃ more, s.out = more ++ s.out := ⟨rfl, [], rfl⟩
  unfold State.stallCheck
  extract_lets x
  split
  · split
    · unfold State.stallCore
      split
      · exact hsame
      · exact ⟨rfl, [_], rfl⟩
    · exact hsame
  · split
    · exact ⟨rfl, [_], rfl⟩
    · exact hsame

/-- The line that the sink takes: it leaves, and the write pointer moves behind it. -/
def State.lineWritten (s : State) (rest : List (Nat × Bytes)) (line : Bytes) : State :=
  (State.emit { s with tr := { s.tr with lines := rest } } (.hostWrite (s.tr.sinkBase + s.rd Dict.sinkWritePtr) line)).wr Dict.sinkWritePtr
    ((s.rd Dict.sinkWritePtr + 64) % (s.tr.sinkSize * 1048576))

theorem sinkLineWritten_leaves {dt n : Nat} {s u : State} {line : Bytes} {rest : List (Nat × Bytes)} (hu : u = s.elapse dt)
    (hon : u.coreOn = true) (hlines : u.tr.lines = (n, line) :: rest) (hfull : u.sinkFull = false) :
    Does (.sinkLineWritten dt) s (fun t => t.tr.lines = rest ∧
      t.rd Dict.sinkWritePtr = (u.rd Dict.sinkWritePtr + 64) % (u.tr.sinkSize * 1048576) % 2 ^ 64 ∧
      ∃ more, t.out = more ++ Output.hostWrite (u.tr.sinkBase + u.rd Dict.sinkWritePtr) line :: u.out) := by
  have hguard : ¬ (u.sinkFull || !(u.coreOn || (u.pw.entering.isSome && !u.inReset))) = true := by
    rw [hfull, hon, Bool.true_or]
    decide
  have hptr : (u.lineWritten rest line).stores Dict.sinkWritePtr 0 0 ((u.rd Dict.sinkWritePtr + 64) % (u.tr.sinkSize * 1048576) % 2 ^ 64) :=
    State.stores_wr ..
  have hwritten (v : State) (hv : v.tr.lines = rest) (hout : v.out = (u.lineWritten rest line).out)
      (hkeeps : KeepsObjects (· = Dict.sinkWritePtr.key 0 0) (u.lineWritten rest line) v) :
      ((v.bump Dict.srcLines n).stallCheck n).tr.lines = rest ∧
      ((v.bump Dict.srcLines n).stallCheck n).stores Dict.sinkWritePtr 0 0
        ((u.rd Dict.sinkWritePtr + 64) % (u.tr.sinkSize * 1048576) % 2 ^ 64) ∧
      ∃ more, ((v.bump Dict.srcLines n).stallCheck n).out = more ++ (u.lineWritten rest line).out := by
    obtain ⟨hline, more, hmore⟩ := (v.bump Dict.srcLines n).stallCheck_lines n
    have hcounted : SourceFrom TraceSource.course n v ((v.bump Dict.srcLines n).stallCheck n) :=
      ((SourceFrom.refl _ n v).bump (o := Dict.srcLines) (by decide)).stallCheck
    exact ⟨hline.trans hv, (hptr.of_keeps hkeeps rfl).of_keeps hcounted.traced.objects (by decide), more, hmore.trans (congrArg (more ++ ·) hout)⟩
  refine ⟨_, rfl, ?_⟩
  unfold State.after
  rw [← hu]
  dsimp only
  rw [hlines]
  dsimp only
  rw [if_neg hguard]
  split
  next =>
    obtain ⟨hline, hstore, hmore⟩ := hwritten ((u.lineWritten rest line).bump Dict.sinkWraps) rfl rfl (.bump _ _ _ _ _ (by decide))
    exact ⟨hline, hstore.rd_within s, hmore⟩
  next =>
    obtain ⟨hline, hstore, hmore⟩ := hwritten (u.lineWritten rest line) rfl rfl (.refl _ _)
    exact ⟨hline, hstore.rd_within s, hmore⟩

/-- A unit that arrives is appended to the store. -/
theorem offloadUnit_appends {dt p : Nat} {bytes : Bytes} {s u : State} (hu : u = s.elapse dt) (hon : u.coreOn = true) (htray : u.role = .tray)
    (hdown : u.isDown p = true) (hup : u.laneUp p = true) :
    Does (.offloadUnit dt p bytes) s (fun t => t.tr.storePos = u.tr.storePos + (padTo 64 bytes).length ∧
      t.tr.store.getLast? = some (u.tr.storePos, bytes.length)) := by
  have hguard : ¬ (u.role != .tray || !u.isDown p || !u.laneUp p) = true := by
    rw [htray, hdown, hup]
    decide
  refine ⟨_, congrArg Host.Outcome.next (State.fromLane_from hu hon ..), ?_⟩
  rw [if_neg hguard]
  exact ⟨rfl, List.getLast?_concat ..⟩

section
variable {dt : Nat} {rq : Requester} {s u : State} (hu : u = s.elapse dt) (h : u.serves Dict.storeRead)
include hu h

/-- A READ of STORE_READ that is served. -/
theorem Does.of_storeRead {P : State → Prop} (hP : P ((u.granted.readStore rq).within s)) : Does (.storeRead dt rq) s P := by
  refine .of_asked hu rfl h.1 ?_
  rwa [State.serveRead_of_serves (r := rq.read Dict.storeRead 0) h rq.src _ rfl rfl]

end

theorem State.granted_storeNext (s : State) : s.granted.storeNext = s.storeNext := by
  have hsize : s.granted.rd Dict.traceStoreSize = s.rd Dict.traceStoreSize := s.rd_granted (by decide)
  unfold State.storeNext
  rw [hsize]
  rfl

theorem State.countRing_only (s : State) (base size off len : Nat) :
    ∃ lv, s.countRing base size off len = { s with cnt := { s.cnt with level := lv } } := by
  unfold State.countRing
  split
  · exact ⟨_, rfl⟩
  · exact ⟨_, rfl⟩

theorem State.moveCursor_stores (s : State) (a : Nat) :
    (s.moveCursor a).stores Dict.storeCursor 0 0 (a % s.rd Dict.traceStoreSize % 2 ^ 64) := State.stores_wr ..

/-- A READ of STORE_READ that finds an entry: the cursor moves behind it, and a response goes on its way. -/
theorem State.readStore_some {s : State} {rq : Requester} {off len : Nat} {lost : Bool} (hnext : s.storeNext = (some (off, len), lost)) :
    ∃ v rs ms qs, s.readStore rq = State.replied v rs ms qs ∧ v.tr = { s.tr with cursorAt := some (off + ceilDiv len 64 * 64) } ∧
      v.stores Dict.storeCursor 0 0 ((off + ceilDiv len 64 * 64) % s.rd Dict.traceStoreSize % 2 ^ 64) := by
  have hcounted (v : State) (htr : v.tr = s.tr) (hkeeps : KeepsObjects (· ≠ Dict.storeLost.key 0 0) s v) (b : Bytes) :
      let w := v.moveCursor (off + ceilDiv len 64 * 64)
      let x := if readCap rq.src < len then w.openRead (Dict.storeRead.key 0 0) b else w
      x.tr = { s.tr with cursorAt := some (off + ceilDiv len 64 * 64) } ∧
        x.stores Dict.storeCursor 0 0 ((off + ceilDiv len 64 * 64) % s.rd Dict.traceStoreSize % 2 ^ 64) := by
    have hstore := v.moveCursor_stores (off + ceilDiv len 64 * 64)
    rw [hkeeps.rd (o := Dict.traceStoreSize) (by decide)] at hstore
    have hmoved : (v.moveCursor (off + ceilDiv len 64 * 64)).tr = { s.tr with cursorAt := some (off + ceilDiv len 64 * 64) } := by
      rw [← htr]
      rfl
    dsimp only
    split
    · exact ⟨hmoved, hstore⟩
    · exact ⟨hmoved, hstore⟩
  obtain ⟨lv, hring⟩ := s.countRing_only (s.rd Dict.traceStoreBase) (s.rd Dict.traceStoreSize) off len
  have hread : KeepsObjects (· ≠ Dict.storeLost.key 0 0) s { s with cnt := { s.cnt with level := lv } } := .refl _ s
  unfold State.readStore
  rw [hnext]
  dsimp only
  rw [hring]
  obtain ⟨rs, ms, qs, hanswer⟩ := State.answer_replied _ rq.src (rq.read Dict.storeRead 0) 0 0 len
    ((s.ringRead (s.rd Dict.traceStoreBase) (s.rd Dict.traceStoreSize) off len).take (readCap rq.src)) 0
  refine ⟨_, rs, ms, qs, hanswer, hcounted _ ?_ ?_ _⟩
  · split
    · rfl
    · rfl
  · split
    · exact hread.trans (.bumpSat _ _ _ _ _ fun hk => hk rfl)
    · exact hread

section
variable {dt : Nat} {rq : Requester} {s u : State} (hu : u = s.elapse dt) (h : u.serves Dict.storeRead)
include hu h

theorem storeRead_empty {lost : Bool} (hnext : u.storeNext = (none, lost)) : Does (.storeRead dt rq) s (fun t =>
    t.rd Dict.storeCursor = u.rd Dict.storeCursor ∧ t.tr = u.tr) := by
  refine .of_storeRead hu h ?_
  obtain ⟨rs, ms, qs, hanswer⟩ := u.granted.answer_replied rq.src (rq.read Dict.storeRead 0) 0 0 0 [] 0
  unfold State.readStore
  dsimp only
  rw [u.granted_storeNext, hnext, hanswer]
  exact ⟨(u.granted_keeps.replied hu).rd (by decide), rfl⟩

theorem storeRead_reads {off len : Nat} {lost : Bool} (hnext : u.storeNext = (some (off, len), lost)) : Does (.storeRead dt rq) s (fun t =>
    t.tr = { u.tr with cursorAt := some (off + ceilDiv len 64 * 64) } ∧
    t.rd Dict.storeCursor = (off + ceilDiv len 64 * 64) % u.rd Dict.traceStoreSize % 2 ^ 64) := by
  obtain ⟨v, rs, ms, qs, hread, htr, hstore⟩ := State.readStore_some (rq := rq) (u.granted_storeNext.trans hnext)
  rw [u.rd_granted (o := Dict.traceStoreSize) (by decide)] at hstore
  refine .of_storeRead hu h ?_
  rw [hread]
  exact ⟨htr, hstore.replied⟩

end

/-! ### TRACE_ENABLE (11 R245) -/

theorem SourceFrom.isEnabled {n : Nat} {s t : State} (h : SourceFrom TraceSource.status n s t) : (t.trc n).enabled = (s.trc n).enabled :=
  congrArg Prod.fst h.1

theorem State.keeperRetires_status (s : State) : SourceFrom TraceSource.status 1 s s.keeperRetires :=
  .ite (SourceFrom.refl _ 1 s).drawn.retire (.refl _ 1 s)

theorem State.enableSource_only (s : State) (n : Nat) : SourceOnly n s (s.enableSource n) := by
  unfold State.enableSource
  extract_lets s0 s1 s2 _ s3
  have hs0 : SourceOnly n s s0 := (SourceFrom.refl _ n s).sendUnit fun _ _ => rfl
  have hs1 : SourceOnly n s s1 := hs0.setTrc rfl
  have hs2 : SourceOnly n s s2 := hs1.trans (SourceFrom.refl _ n s1).syncPacket.only
  have hs3 : SourceOnly n s s3 := hs2.setTrc rfl
  split
  next h =>
    subst h
    exact hs3.trans s3.keeperRetires_status.only
  next => exact hs3

theorem State.enableSource_enabled (s : State) (n : Nat) : ((s.enableSource n).trc n).enabled = true := by
  unfold State.enableSource
  extract_lets s0 s1 s2 _ s3
  have hs1 : (s1.trc n).enabled = true := congrArg TraceSource.enabled (s0.trc_setTrc_same ..)
  have hs2 : SourceFrom TraceSource.course n s1 s2 := (SourceFrom.refl _ n s1).syncPacket
  have hs3 : (s3.trc n).enabled = true := (congrArg TraceSource.enabled (s2.trc_setTrc_same ..)).trans (hs2.status.isEnabled.trans hs1)
  split
  next h =>
    subst h
    exact s3.keeperRetires_status.isEnabled.trans hs3
  next => exact hs3

theorem State.disableSource_only (s : State) (n : Nat) : SourceOnly n s (s.disableSource n) := by
  unfold State.disableSource
  extract_lets s1 s2
  have hs1 : SourceFrom TraceSource.course n s s1 := .ite (SourceFrom.refl _ n s).traceOff (.refl _ n s)
  exact hs1.completeLine.only.setTrc rfl

theorem State.disableSource_enabled (s : State) (n : Nat) : ((s.disableSource n).trc n).enabled = false :=
  congrArg TraceSource.enabled (State.trc_setTrc_same ..)

/-- A source as a value of TRACE_ENABLE leaves it. -/
def State.adoptEnable (v : Nat) (t : State) (n : Nat) : State :=
  if v.testBit n && !(t.trc n).enabled then t.enableSource n
  else if !(v.testBit n) && (t.trc n).enabled then t.disableSource n
  else t

theorem State.adoptEnable_only (v : Nat) (t : State) (n : Nat) : SourceOnly n t (State.adoptEnable v t n) :=
  .ite (t.enableSource_only n) (.ite (t.disableSource_only n) (.refl _ n t))

theorem State.adoptEnable_enabled (v : Nat) (t : State) (n : Nat) : ((State.adoptEnable v t n).trc n).enabled = v.testBit n := by
  unfold State.adoptEnable
  cases hbit : v.testBit n
  · cases henabled : (t.trc n).enabled
    · exact henabled
    · exact t.disableSource_enabled n
  · cases henabled : (t.trc n).enabled
    · exact t.enableSource_enabled n
    · exact henabled

/-- The sink's registers leave the sources and TRACE_ENABLE. -/
theorem State.adoptSink_keeps (s : State) : s.adoptSink.tr.sources = s.tr.sources ∧
    KeepsObjects (· = Dict.traceEnable.key 0 0) s s.adoptSink := by
  unfold State.adoptSink
  split
  · exact ⟨rfl, .refl _ s⟩
  · extract_lets b z m
    split
    · exact ⟨rfl, .refl _ s⟩
    · exact ⟨rfl, (KeepsObjects.wr _ _ _ _ _ (by decide)).trans (.wr _ _ _ _ _ (by decide))⟩

theorem State.setTraceEnable_eq (s : State) (v : Nat) :
    s.setTraceEnable v = ((s.traceSources.foldl (State.adoptEnable v) s).wr Dict.traceEnable v).adoptSink := rfl

theorem State.setTraceEnable_stores (s : State) (v : Nat) : (s.setTraceEnable v).stores Dict.traceEnable 0 0 (v % 2 ^ 16) := by
  obtain ⟨-, hkeeps⟩ := ((s.traceSources.foldl (State.adoptEnable v) s).wr Dict.traceEnable v).adoptSink_keeps
  exact (State.stores_wr ..).of_keeps hkeeps rfl

theorem State.setTraceEnable_enabled {s : State} {n : Nat} (hn : n ∈ s.traceSources) (v : Nat) :
    ((s.setTraceEnable v).trc n).enabled = v.testBit n := by
  obtain ⟨t, -, -, -, hfold⟩ := State.foldl_source (State.adoptEnable_only v) s.traceSources_nodup hn s
  obtain ⟨hsources, -⟩ := ((s.traceSources.foldl (State.adoptEnable v) s).wr Dict.traceEnable v).adoptSink_keeps
  have hsource : (s.setTraceEnable v).trc n = (s.traceSources.foldl (State.adoptEnable v) s).trc n :=
    congrArg (fun l => Tbl.getD l n ({} : TraceSource)) hsources
  rw [hsource, hfold]
  exact State.adoptEnable_enabled v t n

theorem State.traceSources_lt {s : State} {n : Nat} (hn : n ∈ s.traceSources) : n < 16 := by
  unfold State.traceSources at hn
  split at hn
  · have := List.mem_range.mp hn
    omega
  · have := List.mem_singleton.mp hn
    omega

theorem traceEnableWrite_sets {dt v : Nat} {rq : Requester} {s u : State} (hu : u = s.elapse dt) (h : u.serves Dict.traceEnable) :
    Does (.traceEnableWrite dt rq v) s (fun t => t.rd Dict.traceEnable = v % 65536 ∧ ∀ n ∈ u.traceSources, (t.trc n).enabled = v.testBit n) := by
  have hstore := u.granted.setTraceEnable_stores (v % 65536)
  have hsource (n : Nat) (hn : n ∈ u.traceSources) := State.setTraceEnable_enabled (s := u.granted) (n := n) hn (v % 65536)
  generalize hset : u.granted.setTraceEnable (v % 65536) = w at hstore hsource
  refine .of_write hu h rfl ?_
  obtain ⟨rs, ms, qs, hanswer⟩ := w.answerWrite_only rq Dict.traceEnable 0 0 0
  rw [hset, hanswer]
  refine ⟨(hstore.replied (rs := rs) (ms := ms) (qs := qs)).trans (Nat.mod_mod ..), fun n hn => (hsource n hn).trans ?_⟩
  rw [show (65536 : Nat) = 2 ^ 16 from rfl, Nat.testBit_mod_two_pow, decide_eq_true (State.traceSources_lt hn), Bool.true_and]

/-! ### The commands of trace -/

theorem State.touch_nextOf (s : State) (n a kind : Nat) (taken : Bool) (target : Nat) :
    s.touch.nextOf n a kind taken target = s.nextOf n a kind taken target := rfl

/-- Settles O44: what each command of trace does to its sources, found source by source. -/
theorem traceCommandsComplete : Obligations.TraceCommandsComplete := by
  unfold Obligations.TraceCommandsComplete
  refine ⟨fun _ _ _ _ _ hu h => traceEnableWrite_sets hu h, ?_,
    fun _ _ asleep _ _ hu hon hdie hk => sqSleep_marks hu hon hdie hk asleep,
    fun _ _ _ _ hu hon hn hpassed => traceLineTimeout_completes hu hon hn hpassed,
    fun _ _ _ _ hu hon hn henabled hpassed => syncPeriod_marks hu hon hn henabled hpassed,
    fun _ _ _ _ _ _ hu hon hlines hfull => sinkLineWritten_leaves hu hon hlines hfull,
    fun _ _ _ _ hu hon hn hpassed => offloadFlush_sends hu hon hn hpassed,
    fun _ _ _ _ _ hu hon htray hdown hup => offloadUnit_appends hu hon htray hdown hup,
    fun _ _ _ _ hu h => ⟨fun _ hnext => storeRead_empty hu h hnext, fun _ _ _ hnext => storeRead_reads hu h hnext⟩⟩
  intro dt k pc last kind taken target ret s u hu hon hdie hk henabled hpc hstep
  refine ⟨fun hkind => .of_sqGroup hu hon hdie hk ?_, .of_sqGroup hu hon hdie hk ?_⟩
  · exact State.takeGroup_nextAddr (s := u.touch) hdie hk henabled hpc hstep hkind taken target ret
  · exact State.takeGroup_exception (s := u.touch) hdie hk henabled taken target ret

end Sys2Proof.Machine
end

section
/-! The commands of the command-event port (18 R370 to R372, 03 R70, R71). -/

namespace Sys2Proof.Machine

open Sys2Proof

-- one theorem after the other: each theorem that waits for the kernel would hold a thread
set_option Elab.async false

/-! ### The port with a message of its own behind the host's -/

/-- On a port that is free, a message that is answered to the host alone completes with its effect. -/
theorem Does.of_ceTake_answering {c : Instr} {dt : Nat} {m : CeMsg} {s u v : State} {P : State → Prop} (hu : u = s.elapse dt) (hfree : u.ceFree)
    (hexec : exec c s = .next (s.ceTake dt m)) (hv : u.touch.ceProcess m u.time.now = v) (hq' : v.ce.inQ = []) (hoffered' : v.ce.offered = [])
    (hP : P (v.within s)) : Does c s P := by
  obtain ⟨hdie, hon, hoffered, hq, hroom⟩ := hfree
  have hserve : (u.touch.offers m).ceServe = v := State.ceServe_of_free hoffered hq hroom hv hq' hoffered'
  have htake : s.ceTake dt m = (u.touch.offers m).ceServe.within s := by
    unfold State.ceTake State.after
    simp only [← hu, hdie, hon, Bool.not_true, Bool.false_eq_true, if_false, if_true]
    rfl
  rw [hserve] at htake
  exact ⟨_, hexec.trans (congrArg Host.Outcome.next htake), hP⟩

/-! ### What reports and trace leave of the port -/

/-- The objects that BEGIN and END read or count in, where no report writes. -/
abbrev commandObject (k : Nat) : Prop := k = Dict.bracketClasses.key 0 0 ∨ k = Dict.orphanEnds.key 0 0

/-- `t` is `s` but for levels and for objects that are none of the commands': the port and the other counters are as they were. -/
def KeepsCommands (s t : State) : Prop :=
  t.ce = s.ce ∧ (∃ lv, t.cnt = { s.cnt with level := lv }) ∧ KeepsObjects commandObject s t

namespace KeepsCommands

theorem refl (s : State) : KeepsCommands s s := ⟨rfl, ⟨_, rfl⟩, .refl _ s⟩

theorem trans {s t u : State} (h : KeepsCommands s t) (k : KeepsCommands t u) : KeepsCommands s u := by
  obtain ⟨hce, ⟨lv, hcnt⟩, hkeeps⟩ := h
  obtain ⟨kce, ⟨lv', kcnt⟩, kkeeps⟩ := k
  exact ⟨kce.trans hce, ⟨lv', by rw [kcnt, hcnt]⟩, hkeeps.trans kkeeps⟩

theorem raise (s : State) (classF alarm : Bool) (typ payload : Nat) : KeepsCommands s (s.raise classF alarm typ payload) := by
  have hkeeps : KeepsObjects commandObject s (s.raise classF alarm typ payload) :=
    (KeepsUnrecorded.raise s classF alarm typ payload).mono fun k hk => by
      obtain rfl | rfl := hk <;> decide
  obtain ⟨_, lv, _, _, _, _, _, _, _, h⟩ := RaisedFrom.raise s classF alarm typ payload
  rw [h] at hkeeps ⊢
  exact ⟨rfl, ⟨lv, rfl⟩, hkeeps⟩

theorem reportSat (s : State) (l : List (Bool × Option Nat × Nat)) : KeepsCommands s (s.reportSat l) :=
  List.foldlRecOn l _ (refl s) fun t ht e _ => by
    split
    · exact ht.trans (raise ..)
    · exact ht

theorem traceCommand (s : State) (begins : Bool) (cmd engine cls tag arrival : Nat) :
    KeepsCommands s (s.traceCommand begins cmd engine cls tag arrival) := by
  have htraced : SourceFrom TraceSource.course 0 s (s.traceCommand begins cmd engine cls tag arrival) :=
    (SourceFrom.refl TraceSource.course 0 s).traceCommand
  exact ⟨htraced.traced.ce, htraced.traced.cnt, htraced.traced.objects.mono fun k hk => by
    obtain rfl | rfl := hk <;> decide⟩

end KeepsCommands

/-! ### Records of commands (03 R54, R70, R71) -/

theorem CmdRecord.begin_begins {r : CmdRecord} (h : r.begins < 2 ^ 32 - 1) : r.begin_.1.begins = r.begins + 1 := by
  unfold CmdRecord.begin_ eventInc
  rw [if_pos h]

theorem CmdRecord.end_ends {r : CmdRecord} (h : r.ends < 2 ^ 32 - 1) : r.end_.1.ends = r.ends + 1 := by
  unfold CmdRecord.end_ eventInc
  rw [if_pos h]

theorem CmdRecord.pair_paired {r : CmdRecord} (h : r.paired < 2 ^ 32 - 1) (life : Nat) : (r.pair life).1.paired = r.paired + 1 := by
  unfold CmdRecord.pair eventInc
  rw [if_pos h]

theorem CmdRecord.end_paired (r : CmdRecord) : r.end_.1.paired = r.paired := rfl

theorem CmdRecord.pair_ends (r : CmdRecord) (life : Nat) : (r.pair life).1.ends = r.ends := rfl

/-- The entry that BEGIN opens. -/
def openedCmd (engine cls arrival : Nat) : OpenCmd :=
  { begun := arrival / nsUnits % 2 ^ 40, full := arrival / nsUnits, engine := engine, cls := cls }

/-- `t` is `s` with `cmds` open and the records of classes `cls`: the port is as it was, and the commands' objects but those of `P`. -/
def CountedFrom (P : Nat → Prop) (s : State) (cmds : Tbl OpenCmd) (cls : Tbl CmdRecord) (t : State) : Prop :=
  t.ce = s.ce ∧ t.cnt.cmds = cmds ∧ t.cnt.cls = cls ∧ KeepsObjects P s t

/-- The counters with the records of a class and an engine changed. -/
def State.recorded (s : State) (cls engine : Nat) (f : CmdRecord → CmdRecord × Bool) : State :=
  s.setCnt { s.cnt with
    cls := Tbl.set s.cnt.cls cls (f (s.clsRec cls)).1
    eng := Tbl.set s.cnt.eng engine { s.engRec engine with cmd := (f (s.engRec engine).cmd).1 } }

theorem State.onRecords_counts (s : State) (cls engine off : Nat) (f : CmdRecord → CmdRecord × Bool) :
    CountedFrom commandObject s s.cnt.cmds (Tbl.set s.cnt.cls cls (f (s.clsRec cls)).1) (s.onRecords cls engine off f) := by
  obtain ⟨hce, ⟨lv, hcnt⟩, hkeeps⟩ : KeepsCommands (s.recorded cls engine f) (s.onRecords cls engine off f) := KeepsCommands.reportSat ..
  exact ⟨hce, by rw [hcnt]; rfl, by rw [hcnt]; rfl, hkeeps⟩

/-- The state with other entries open. -/
def State.withCmds (s : State) (cmds : Tbl OpenCmd) : State := s.setCnt { s.cnt with cmds := cmds }

theorem State.countBegin_counts (s : State) (cmd engine cls arrival : Nat) :
    CountedFrom commandObject s (Tbl.set s.cnt.cmds cmd (openedCmd engine cls arrival))
      (Tbl.set s.cnt.cls cls (s.clsRec cls).begin_.1) (s.countBegin cmd engine cls arrival) := by
  have hcounted (t : State) (hce : t.ce = s.ce) (hcnt : t.cnt = s.cnt) (hkeeps : KeepsObjects commandObject s t) :
      CountedFrom commandObject s (Tbl.set s.cnt.cmds cmd (openedCmd engine cls arrival)) (Tbl.set s.cnt.cls cls (s.clsRec cls).begin_.1)
        ((t.withCmds (Tbl.set t.cnt.cmds cmd (openedCmd engine cls arrival))).onRecords cls engine 0 CmdRecord.begin_) := by
    obtain ⟨kce, kcmds, kcls, kkeeps⟩ := (t.withCmds (Tbl.set t.cnt.cmds cmd (openedCmd engine cls arrival))).onRecords_counts cls engine 0
      CmdRecord.begin_
    have hrec : t.clsRec cls = s.clsRec cls := congrArg (fun c : Counters => Tbl.getD c.cls cls ({} : CmdRecord)) hcnt
    have hcls : (t.withCmds (Tbl.set t.cnt.cmds cmd (openedCmd engine cls arrival))).clsRec cls = t.clsRec cls := rfl
    have hset : Tbl.set t.cnt.cls cls (s.clsRec cls).begin_.1 = Tbl.set s.cnt.cls cls (s.clsRec cls).begin_.1 :=
      congrArg (fun c : Counters => Tbl.set c.cls cls (s.clsRec cls).begin_.1) hcnt
    rw [hcls, hrec] at kcls
    exact ⟨kce.trans hce, kcmds.trans (congrArg (fun c : Counters => Tbl.set c.cmds cmd (openedCmd engine cls arrival)) hcnt),
      kcls.trans hset, hkeeps.trans kkeeps⟩
  have hbumped : (if (Tbl.get? s.cnt.cmds cmd).isSome then s.bumpSat Dict.dupBegins else s).ce = s.ce ∧
      (if (Tbl.get? s.cnt.cmds cmd).isSome then s.bumpSat Dict.dupBegins else s).cnt = s.cnt ∧
      KeepsObjects commandObject s (if (Tbl.get? s.cnt.cmds cmd).isSome then s.bumpSat Dict.dupBegins else s) := by
    split
    · exact ⟨rfl, rfl, .bumpSat _ _ _ _ _ (by decide)⟩
    · exact ⟨rfl, rfl, .refl _ s⟩
  obtain ⟨hce, hcnt, hkeeps⟩ := hbumped
  exact hcounted _ hce hcnt hkeeps

theorem State.countEnd_pairs {s : State} {cmd : Nat} {o : OpenCmd} (hopen : Tbl.get? s.cnt.cmds cmd = some o) (engine cls arrival : Nat) :
    ∃ life, CountedFrom commandObject s (Tbl.del s.cnt.cmds cmd)
      (Tbl.set (Tbl.set s.cnt.cls cls (s.clsRec cls).end_.1) o.cls
        ((Tbl.getD (Tbl.set s.cnt.cls cls (s.clsRec cls).end_.1) o.cls {}).pair life).1) (s.countEnd cmd engine cls arrival) := by
  obtain ⟨hce, hcmds, hcls, hkeeps⟩ := s.onRecords_counts cls engine 4 CmdRecord.end_
  refine ⟨(arrival / nsUnits % 2 ^ 40 + 2 ^ 40 - o.begun) % 2 ^ 40, ?_⟩
  unfold State.countEnd
  generalize s.onRecords cls engine 4 CmdRecord.end_ = s1 at *
  dsimp only
  rw [hcmds, hopen]
  dsimp only
  obtain ⟨kce, kcmds, kcls, kkeeps⟩ := (s1.withCmds (Tbl.del s.cnt.cmds cmd)).onRecords_counts o.cls o.engine 8
    fun r => r.pair ((arrival / nsUnits % 2 ^ 40 + 2 ^ 40 - o.begun) % 2 ^ 40)
  rw [← hcls]
  exact ⟨kce.trans hce, kcmds, kcls, hkeeps.trans kkeeps⟩

theorem State.countEnd_orphan {s : State} {cmd : Nat} (hnone : Tbl.get? s.cnt.cmds cmd = none) (engine cls arrival : Nat) :
    (s.countEnd cmd engine cls arrival).ce = s.ce ∧ (s.countEnd cmd engine cls arrival).cnt.cmds = s.cnt.cmds ∧
      (s.countEnd cmd engine cls arrival).stores Dict.orphanEnds 0 0 (satTo (8 * Dict.orphanEnds.ty.bytes) (s.rd Dict.orphanEnds + 1)) := by
  obtain ⟨hce, hcmds, -, hkeeps⟩ := s.onRecords_counts cls engine 4 CmdRecord.end_
  unfold State.countEnd
  generalize s.onRecords cls engine 4 CmdRecord.end_ = s1 at *
  dsimp only
  rw [hcmds, hnone]
  have hstore := s1.stores_bumpSat Dict.orphanEnds 0 0 1
  rw [hkeeps.rd (.inr rfl)] at hstore
  exact ⟨hce, hcmds, hstore⟩

/-! ### A tile that BEGIN may select (10 R214) -/

/-- `t` has the counters of `s`, and its port what the host of `s` has sent and offers. -/
def KeepsHostSide (s t : State) : Prop := t.cnt = s.cnt ∧ t.ce.inQ = s.ce.inQ ∧ t.ce.offered = s.ce.offered

namespace KeepsHostSide

section
variable {s t : State} (h : KeepsHostSide s t)
include h

theorem ite {c : Prop} [Decidable c] {u : State} (k : KeepsHostSide s u) : KeepsHostSide s (if c then t else u) := by
  split
  · exact h
  · exact k

theorem setEv {e : Evidence} : KeepsHostSide s (t.setEv e) := h

theorem bump {o : Ob} {m j n : Nat} : KeepsHostSide s (t.bump o m j n) := h

theorem bumpSat {o : Ob} {m j n : Nat} : KeepsHostSide s (t.bumpSat o m j n) := h

theorem ceSend {m : CeOut} : KeepsHostSide s (t.ceSend m) := h

theorem bracketSelect {cmd engine cls tag tile : Nat} {dup : Bool} : KeepsHostSide s (t.bracketSelect cmd engine cls tag tile dup) := by
  unfold State.bracketSelect
  refine .ite h (.ite ?_ h.setEv.ceSend)
  split
  · exact h.setEv.bumpSat.ceSend
  · exact h.setEv.setEv.bump.ceSend.ceSend

end

end KeepsHostSide

theorem State.bracketSelect_of_exempt {s : State} {cls : Nat} {dup : Bool} (h : (s.rd Dict.bracketClasses).testBit cls = false ∨ dup = true)
    (cmd engine tag tile : Nat) : s.bracketSelect cmd engine cls tag tile dup = s := by
  unfold State.bracketSelect
  rw [if_pos]
  obtain h | h := h
  · rw [h, Bool.not_false, Bool.or_true]
  · rw [h, Bool.true_or]

/-! ### The commands -/

theorem Tbl.getD_set_of {α : Type} {t v : Tbl α} {k : Nat} {x d : α} (h : v = Tbl.set t k x) : Tbl.getD v k d = x := by
  rw [h, Tbl.getD_set_same]

section
variable {dt : Nat} {s u : State} (hu : u = s.elapse dt) (hfree : u.ceFree)
include hu hfree

theorem begin_counts (cmd engine cls tag tile : Nat) (dup : Bool) : Does (.begin_ dt cmd engine cls tag tile dup) s (fun t => t.ce.inQ = [] ∧
    Tbl.get? t.cnt.cmds cmd = some { begun := u.nowNs % 2 ^ 40, full := u.nowNs, engine := engine, cls := cls } ∧
    ((u.clsRec cls).begins < 2 ^ 32 - 1 → (t.clsRec cls).begins = (u.clsRec cls).begins + 1) ∧
    ((u.rd Dict.bracketClasses).testBit cls = false ∨ dup = true → t.ce.outQ = u.ce.outQ)) := by
  have hfree' := hfree
  obtain ⟨-, -, hoffered, hq, -⟩ := hfree'
  obtain ⟨hce, hcmds, hcls, hkeeps⟩ := u.touch.countBegin_counts cmd engine cls u.time.now
  obtain ⟨kce, ⟨lv, kcnt⟩, kkeeps⟩ := KeepsCommands.traceCommand (u.touch.countBegin cmd engine cls u.time.now) true cmd engine cls tag u.time.now
  generalize htraced : (u.touch.countBegin cmd engine cls u.time.now).traceCommand true cmd engine cls tag u.time.now = t at kce kcnt kkeeps
  obtain ⟨jcnt, jq, joffered⟩ : KeepsHostSide t (t.bracketSelect cmd engine cls tag tile dup) :=
    KeepsHostSide.bracketSelect ⟨rfl, rfl, rfl⟩
  have hport : t.ce = u.ce := kce.trans hce
  refine .of_ceTake_answering hu hfree rfl (v := t.bracketSelect cmd engine cls tag tile dup) (by rw [← htraced]; rfl)
    (jq.trans (by rw [hport, hq])) (joffered.trans (by rw [hport, hoffered])) ⟨jq.trans (by rw [hport, hq]), ?_, fun hless => ?_, fun hexempt => ?_⟩
  · have hopen : (t.bracketSelect cmd engine cls tag tile dup).cnt.cmds = Tbl.set u.cnt.cmds cmd (openedCmd engine cls u.time.now) := by
      rw [jcnt, kcnt]
      exact hcmds
    exact (congrArg (Tbl.get? · cmd) hopen).trans (Tbl.get?_set_same ..)
  · have hrec : (t.bracketSelect cmd engine cls tag tile dup).cnt.cls = Tbl.set u.cnt.cls cls (u.clsRec cls).begin_.1 := by
      rw [jcnt, kcnt]
      exact hcls
    exact (congrArg CmdRecord.begins (Tbl.getD_set_of hrec)).trans (CmdRecord.begin_begins hless)
  · have hclasses : t.rd Dict.bracketClasses = u.rd Dict.bracketClasses := (hkeeps.trans kkeeps).rd (.inl rfl)
    rw [State.bracketSelect_of_exempt (by rwa [hclasses])]
    exact congrArg CePort.outQ hport

theorem end_pairs {cmd : Nat} {o : OpenCmd} (hopen : Tbl.get? u.cnt.cmds cmd = some o) (engine cls : Nat) :
    Does (.end_ dt cmd engine cls) s (fun t => Tbl.get? t.cnt.cmds cmd = none ∧
      ((u.clsRec cls).ends < 2 ^ 32 - 1 → (t.clsRec cls).ends = (u.clsRec cls).ends + 1) ∧
      ((u.clsRec o.cls).paired < 2 ^ 32 - 1 → (t.clsRec o.cls).paired = (u.clsRec o.cls).paired + 1)) := by
  obtain ⟨life, hce, hcmds, hcls, hkeeps⟩ := State.countEnd_pairs (s := u.touch) hopen engine cls u.time.now
  obtain ⟨kce, ⟨lv, kcnt⟩, kkeeps⟩ := KeepsCommands.traceCommand (u.touch.countEnd cmd engine cls u.time.now) false cmd engine cls 0 u.time.now
  generalize htraced : (u.touch.countEnd cmd engine cls u.time.now).traceCommand false cmd engine cls 0 u.time.now = t at kce kcnt kkeeps
  have hrec : t.cnt.cls = Tbl.set (Tbl.set u.cnt.cls cls (u.clsRec cls).end_.1) o.cls
      ((Tbl.getD (Tbl.set u.cnt.cls cls (u.clsRec cls).end_.1) o.cls {}).pair life).1 := by
    rw [kcnt]
    exact hcls
  refine .of_ceTake hu hfree rfl htraced (kce.trans hce) ⟨?_, fun hless => ?_, fun hless => ?_⟩
  · have hclosed : t.cnt.cmds = Tbl.del u.cnt.cmds cmd := by
      rw [kcnt]
      exact hcmds
    exact (congrArg (Tbl.get? · cmd) hclosed).trans (Tbl.get?_del_same ..)
  · have hended : (Tbl.getD t.cnt.cls cls ({} : CmdRecord)).ends = (u.clsRec cls).end_.1.ends := by
      rw [hrec]
      by_cases hsame : o.cls = cls
      · rw [hsame, Tbl.getD_set_same, CmdRecord.pair_ends, Tbl.getD_set_same]
      · rw [Tbl.getD_set_other _ _ _ _ _ hsame, Tbl.getD_set_same]
    exact hended.trans (CmdRecord.end_ends hless)
  · have hold : (Tbl.getD (Tbl.set u.cnt.cls cls (u.clsRec cls).end_.1) o.cls ({} : CmdRecord)).paired = (u.clsRec o.cls).paired := by
      by_cases hsame : o.cls = cls
      · rw [hsame, Tbl.getD_set_same, CmdRecord.end_paired]
      · rw [Tbl.getD_set_other _ _ _ _ _ (Ne.symm hsame)]
        rfl
    refine (congrArg CmdRecord.paired (Tbl.getD_set_of hrec)).trans ((CmdRecord.pair_paired ?_ life).trans ?_)
    · rwa [hold]
    · rw [hold]

theorem end_orphan {cmd : Nat} (hnone : Tbl.get? u.cnt.cmds cmd = none) (engine cls : Nat) :
    Does (.end_ dt cmd engine cls) s (fun t => t.cnt.cmds = u.cnt.cmds ∧
      t.rd Dict.orphanEnds = satTo (8 * Dict.orphanEnds.ty.bytes) (u.rd Dict.orphanEnds + 1)) := by
  obtain ⟨hce, hcmds, hstore⟩ := State.countEnd_orphan (s := u.touch) hnone engine cls u.time.now
  obtain ⟨kce, ⟨lv, kcnt⟩, kkeeps⟩ := KeepsCommands.traceCommand (u.touch.countEnd cmd engine cls u.time.now) false cmd engine cls 0 u.time.now
  generalize htraced : (u.touch.countEnd cmd engine cls u.time.now).traceCommand false cmd engine cls 0 u.time.now = t at kce kcnt kkeeps
  refine .of_ceTake hu hfree rfl htraced (kce.trans hce) ⟨?_, (hstore.of_keeps kkeeps (.inr rfl)).rd_within s⟩
  have hsame : t.cnt.cmds = u.cnt.cmds := by
    rw [kcnt]
    exact hcmds
  exact hsame

theorem bytes_counts (engine level dir count : Nat) : Does (.bytes dt engine level dir count) s (fun t =>
    Tbl.getD t.cnt.level (2 * level + dir) 0 = (Tbl.getD u.cnt.level (2 * level + dir) 0 + count) % 2 ^ 64 ∧
    Tbl.getD (t.engRec engine).levels (2 * level + dir) 0 = (Tbl.getD (u.engRec engine).levels (2 * level + dir) 0 + count) % 2 ^ 64) := by
  refine .of_ceTake hu hfree rfl (v := u.touch.countBytes engine level dir count) rfl rfl ⟨Tbl.getD_set_same .., ?_⟩
  have hlevels : ((u.touch.countBytes engine level dir count).engRec engine).levels = Tbl.set (u.engRec engine).levels (2 * level + dir)
      ((Tbl.getD (u.engRec engine).levels (2 * level + dir) 0 + count) % 2 ^ 64) := congrArg EngineRecord.levels (Tbl.getD_set_same ..)
  exact Tbl.getD_set_of hlevels

theorem linkBytes_counts (link dir count : Nat) : Does (.linkBytes dt link dir count) s (fun t =>
    Tbl.getD t.cnt.link (2 * link + dir) 0 = (Tbl.getD u.cnt.link (2 * link + dir) 0 + count) % 2 ^ 64) :=
  .of_ceTake hu hfree rfl (v := u.touch.countLink link dir count) rfl rfl (Tbl.getD_set_same ..)

end

/-! ### Arrivals, the host's turn, a core that sleeps (09 R199, 18 R370, 19 R391) -/

/-- The arrival at a barrier that the host reports at an instant. -/
def State.arrived (s : State) (barrier arrival : Nat) : LeafArrival :=
  { barrier := barrier, time := arrival / nsUnits
    late := match s.bar.leaf.reference with
      | some r => some (satTo 32 (arrival / nsUnits - r))
      | none => if s.bar.leaf.startBarrier == some barrier && !s.bar.leaf.released then some 0 else none
    frame := s.frameOf (arrival / nsUnits), awaiting := true, job := s.rd Dict.myJob }

theorem State.takeLateness_keeps (s : State) (l : Option Nat) : (s.takeLateness l).bar = s.bar ∧ (s.takeLateness l).ce = s.ce := by
  unfold State.takeLateness
  split
  · exact ⟨rfl, rfl⟩
  · exact ⟨rfl, rfl⟩

theorem State.sendArrival_keeps (s : State) (a : LeafArrival) : (s.sendArrival a).bar = s.bar ∧ (s.sendArrival a).ce = s.ce := by
  have hsent : MessagedFrom s (s.sendArrival a) := .enqueueUp (by decide) ..
  obtain ⟨⟨_, _, _, _, _, _, _, _, _, h⟩, -⟩ := hsent
  rw [h]
  exact ⟨rfl, rfl⟩

/-- The barriers with an arrival that the host reports. -/
def State.withArrival (s : State) (barrier arrival : Nat) : State :=
  s.setLeaf { s.bar.leaf with
    arrivals := (s.bar.leaf.arrivals ++ [s.arrived barrier arrival]).drop (s.bar.leaf.arrivals.length - 63) }

theorem State.ceArrive_keeps (s : State) (barrier arrival : Nat) : (s.ceArrive barrier arrival).ce = s.ce ∧
    (s.ceArrive barrier arrival).bar = (s.withArrival barrier arrival).bar := by
  have hlate := (s.withArrival barrier arrival).takeLateness_keeps (s.arrived barrier arrival).late
  have hsent := ((s.withArrival barrier arrival).takeLateness (s.arrived barrier arrival).late).sendArrival_keeps (s.arrived barrier arrival)
  exact ⟨hsent.2.trans hlate.2, hsent.1.trans hlate.1⟩

theorem State.withArrival_last (s : State) (barrier arrival : Nat) :
    (s.withArrival barrier arrival).bar.leaf.arrivals.getLast? = some (s.arrived barrier arrival) := by
  show ((s.bar.leaf.arrivals ++ [s.arrived barrier arrival]).drop (s.bar.leaf.arrivals.length - 63)).getLast? = _
  rw [List.drop_append_of_le_length (by omega), List.getLast?_concat]

theorem arrive_notes {dt : Nat} {s u : State} (hu : u = s.elapse dt) (hfree : u.ceFree) (barrier : Nat) :
    Does (.arrive dt barrier) s (fun t => ∃ a, t.bar.leaf.arrivals.getLast? = some a ∧ a.barrier = barrier ∧ a.time = u.nowNs ∧
      a.awaiting = true) := by
  obtain ⟨hce, hbar⟩ := u.touch.ceArrive_keeps barrier u.time.now
  refine .of_ceTake hu hfree rfl (v := u.touch.ceArrive barrier u.time.now) rfl hce ⟨u.touch.arrived barrier u.time.now, ?_, rfl, rfl, rfl⟩
  exact (congrArg (fun b : Barriers => b.leaf.arrivals.getLast?) hbar).trans (u.touch.withArrival_last barrier u.time.now)

/-- The host takes the oldest message. -/
def State.hostTakes (s : State) (m : CeOut) (rest : List CeOut) : State :=
  State.emit { s with ce := { s.ce with outQ := rest } } (.hostMessage m.bits)

theorem State.hostTakes_keeps (s : State) (m : CeOut) (rest : List CeOut) : (s.hostTakes m rest).ce = { s.ce with outQ := rest } ∧
    (s.hostTakes m rest).out = Output.hostMessage m.bits :: s.out := ⟨rfl, rfl⟩

theorem ceB2hTransfer_takes {dt : Nat} {s u : State} {m : CeOut} {rest : List CeOut} (hu : u = s.elapse dt) (hon : u.coreOn = true)
    (hout : u.ce.outQ = m :: rest) (hq : u.ce.inQ = []) (hoffered : u.ce.offered = []) :
    Does (.ceB2hTransfer dt) s (fun t => t.ce.outQ = rest ∧ t.out = Output.hostMessage m.bits :: u.out) := by
  refine .of_core hu rfl hon ?_
  dsimp only
  rw [hout]
  obtain ⟨hce, htaken⟩ := u.hostTakes_keeps m rest
  have hserve : (u.hostTakes m rest).ceServe = u.hostTakes m rest :=
    State.ceResume_of_idle ((congrArg CePort.inQ hce).trans hq) ((congrArg CePort.offered hce).trans hoffered) _
  refine ⟨(congrArg (fun t : State => t.ce.outQ) hserve).trans (congrArg CePort.outQ hce), (congrArg State.out hserve).trans htaken⟩

theorem arrive_wakes {dt : Nat} {s u : State} (hu : u = s.elapse dt) (hdie : u.isDie = true) (hreset : u.inReset = false)
    (hpower : u.rd Dict.powerState ≠ 0) (hentering : u.pw.entering = none) (hwaking : u.pw.waking = none) (barrier : Nat) :
    Does (.arrive dt barrier) s (fun t => t.ce.offered = u.ce.offered ++ [.arrive barrier] ∧ t.ce.inQ = u.ce.inQ ∧ t.bar = u.bar ∧
      (t.pw.waking.map (·.source)) = some 4) := by
  have hoff : u.coreOn = false := by
    unfold State.coreOn State.coreActive
    rw [beq_eq_false_iff_ne.mpr hpower, Bool.false_and, Bool.false_and]
  refine ⟨_, rfl, ?_⟩
  unfold State.ceTake State.after
  rw [← hu]
  dsimp only
  rw [hdie, hoff, hreset, if_neg (by decide), if_neg (by decide), if_neg (by decide)]
  unfold State.wake
  dsimp only
  rw [hentering, hwaking]
  rw [if_neg (by decide), if_neg (by
    rw [Option.isSome_none, Bool.or_false, beq_iff_eq]
    exact hpower)]
  exact ⟨rfl, rfl, rfl, rfl⟩

/-- Settles O42: the messages of the command-event port, of the host and to it. -/
theorem portCommandsComplete : Obligations.PortCommandsComplete := by
  unfold Obligations.PortCommandsComplete
  exact ⟨fun _ cmd engine cls tag tile dup _ _ hu hfree => begin_counts hu hfree cmd engine cls tag tile dup,
    fun _ _ engine cls _ _ hu hfree => ⟨fun _ hopen => end_pairs hu hfree hopen engine cls, fun hnone => end_orphan hu hfree hnone engine cls⟩,
    fun _ engine level dir count _ _ hu hfree => bytes_counts hu hfree engine level dir count,
    fun _ link dir count _ _ hu hfree => linkBytes_counts hu hfree link dir count,
    fun _ barrier _ _ hu hfree => arrive_notes hu hfree barrier,
    fun _ _ _ _ _ hu hon hout hq hoffered => ceB2hTransfer_takes hu hon hout hq hoffered,
    fun _ barrier _ _ hu hdie hreset hpower hentering hwaking => arrive_wakes hu hdie hreset hpower hentering hwaking barrier⟩

end Sys2Proof.Machine
end

section
/-! The commands of the journal and of its frozen range (20 R412, R415, R418 to R421). -/

namespace Sys2Proof.Machine

open Sys2Proof

-- one theorem after the other: each theorem that waits for the kernel would hold a thread
set_option Elab.async false

/-! ### What leaves the journal as it is -/

/-- The journal is as it was. -/
def KeepsJournal (s t : State) : Prop := t.jn = s.jn

namespace KeepsJournal

section
variable {s t : State} (h : KeepsJournal s t)
include h

theorem ite {c : Prop} [Decidable c] {u : State} (k : KeepsJournal s u) : KeepsJournal s (if c then t else u) := by
  split
  · exact h
  · exact k

theorem foldl {α : Type} {f : State → α → State} {l : List α} (hf : ∀ {u : State} (a : α), KeepsJournal s u → KeepsJournal s (f u a)) :
    KeepsJournal s (l.foldl f t) := List.foldlRecOn l f h fun _ hu a _ => hf a hu

theorem raised {u : State} (k : RaisedFrom t u) : KeepsJournal s u := by
  obtain ⟨_, _, _, _, _, _, _, _, _, rfl⟩ := k
  exact h

theorem queued {u : State} (k : QueuedFrom t u) : KeepsJournal s u := by
  obtain ⟨_, rfl⟩ := k
  exact h

theorem endRuns {c level die : Nat} : KeepsJournal s (t.endRuns c level die) := by
  unfold State.endRuns
  extract_lets mine
  exact foldl (t := { t with sch := { t.sch with runs := t.sch.runs.filter (fun r => !mine r) } }) h fun _ hu => hu.raised (.raise ..)

theorem drop {g c level die cseq reason : Nat} : KeepsJournal s (t.drop g c level die cseq reason) := by
  unfold State.drop
  extract_lets joins s1 s2
  have hs1 : KeepsJournal s s1 := h
  split
  · exact hs1
  · exact hs1.endRuns

theorem police {g c pre b : Nat} : KeepsJournal s (t.police g c pre b).2 := by
  unfold State.police
  split
  · exact h
  · exact h

theorem offer {c : Nat} {kind : MsgKind} {body : Bytes} : KeepsJournal s (t.offer c kind body) := by
  unfold State.offer
  split
  · exact h
  next g _ =>
    extract_lets die restart cseq _ s1 size send r
    have hsend {v : State} (hv : KeepsJournal s v) (colour : Nat) : KeepsJournal s (send v colour) :=
      hv.endRuns.queued (State.enqueue_only ..)
    have hs1 : KeepsJournal s s1 := h
    refine .ite hs1.drop (.ite (hsend hs1 0) (.ite hs1.drop ?_))
    exact .ite (drop hs1.police) (hsend hs1.police _)

theorem stackWrite {a : Nat} {b : Bytes} : KeepsJournal s (t.stackWrite a b) := by
  unfold State.stackWrite
  split
  · exact h
  · exact h

theorem writeRing {hist : Bool} {addr : Nat} {b : Bytes} : KeepsJournal s (t.writeRing hist addr b) := by
  unfold State.writeRing
  extract_lets s1
  have hs1 : KeepsJournal s s1 := h.stackWrite
  split
  · exact hs1
  · exact hs1

theorem lostUpTo {hist : Bool} {last : Nat} : KeepsJournal s (t.lostUpTo hist last) := by
  unfold State.lostUpTo
  split
  · exact h
  · exact h

end

end KeepsJournal

/-! ### Rings (20 R411, R418, R419) -/

theorem State.ring_of_keeps {s t : State} (h : KeepsJournal s t) (hist : Bool) : t.ring hist = s.ring hist := by
  unfold State.ring
  rw [show t.jn = s.jn from h]

theorem State.ring_setRing_same (s : State) (hist : Bool) (r : ChunkRing) : (s.setRing hist r).ring hist = r := by
  cases hist <;> rfl

theorem State.ring_setRing_other (s : State) {hist other : Bool} (h : other ≠ hist) (r : ChunkRing) :
    (s.setRing hist r).ring other = s.ring other := by
  cases hist <;> cases other
  · exact absurd rfl h
  · rfl
  · rfl
  · exact absurd rfl h

theorem State.setRing_gathering (s : State) (hist : Bool) (r : ChunkRing) : (s.setRing hist r).jn.gathering = s.jn.gathering := by
  cases hist <;> rfl

/-- After a run of discards has ended the ring has none; nothing else of the journal has changed. -/
theorem State.endDiscards_jn (s : State) (hist : Bool) :
    KeepsJournal (s.setRing hist { s.ring hist with run := none }) (s.endDiscards hist) := by
  unfold State.endDiscards
  split
  next hnone =>
    have hring : { s.ring hist with run := none } = s.ring hist := by rw [← hnone]
    rw [hring]
    cases hist <;> rfl
  next => exact KeepsJournal.raised rfl (.raise ..)

theorem State.endDiscards_ring (s : State) (hist : Bool) : (s.endDiscards hist).ring hist = { s.ring hist with run := none } := by
  rw [State.ring_of_keeps (s.endDiscards_jn hist), State.ring_setRing_same]

theorem State.endDiscards_other (s : State) {hist other : Bool} (h : other ≠ hist) : (s.endDiscards hist).ring other = s.ring other := by
  rw [State.ring_of_keeps (s.endDiscards_jn hist), State.ring_setRing_other _ h]

theorem State.endDiscards_gathering (s : State) (hist : Bool) : (s.endDiscards hist).jn.gathering = s.jn.gathering :=
  (congrArg Journal.gathering (s.endDiscards_jn hist)).trans (s.setRing_gathering ..)

/-- A chunk that is written, or discarded, takes the next number of its ring; what is gathered stays. -/
theorem State.writeChunk_numbers (s : State) (kind : Nat) (g : Gather) :
    ((s.writeChunk kind g).ring (kind == jnEngine)).cseq = ((s.ring (kind == jnEngine)).cseq + 1) % 2 ^ 32 ∧
      (s.writeChunk kind g).jn.gathering = s.jn.gathering := by
  unfold State.writeChunk
  extract_lets hist r frames fst lst block bytes size pos base covers next run gone s0 s1 die c _
  clear_value bytes
  split
  · have hkeeps : KeepsJournal (s.setRing hist { r with cseq := next, run := some run })
        (((s.setRing hist { r with cseq := next, run := some run }).bumpSat Dict.journalLost).lostUpTo hist lst) :=
      KeepsJournal.lostUpTo (t := (s.setRing hist { r with cseq := next, run := some run }).bumpSat Dict.journalLost) rfl
    refine ⟨?_, (congrArg Journal.gathering hkeeps).trans (s.setRing_gathering ..)⟩
    rw [State.ring_of_keeps hkeeps, State.ring_setRing_same]
  · have hs1 : s1.jn.gathering = s.jn.gathering := by
      have hgone : KeepsJournal s0 s1 := KeepsJournal.foldl rfl fun _ hu => hu.lostUpTo
      exact (congrArg Journal.gathering hgone).trans (s.endDiscards_gathering hist)
    refine ⟨?_, (congrArg Journal.gathering (KeepsJournal.writeRing rfl)).trans ((s1.setRing_gathering ..).trans hs1)⟩
    rw [State.ring_of_keeps (KeepsJournal.writeRing rfl), State.ring_setRing_same]

/-! ### Enabling (20 R418) -/

section
variable {dt : Nat} {rq : Requester} {s u : State} (hu : u = s.elapse dt) (h : u.serves Dict.journalEnable)
include hu h

theorem journalEnableWrite_starts : Does (.journalEnableWrite dt rq 1) s (fun t => t.rd Dict.journalEnable = 1 ∧
    t.jn.journal.afresh = u.jn.journal.cseq ∧ t.jn.journal.startDue = true ∧ t.jn.journal.chunks = u.jn.journal.chunks ∧
    t.jn.history = u.jn.history) := by
  refine .of_write hu h rfl ?_
  extract_lets r s1 _ _ s2
  have hstore : s1.stores Dict.journalEnable 0 0 1 := State.stores_wr ..
  obtain ⟨rs, ms, qs, hanswer⟩ := s2.answerWrite_only rq Dict.journalEnable 0 0 0
  rw [hanswer]
  exact ⟨State.stores.replied (v := s2) hstore, rfl, rfl, rfl, rfl⟩

theorem journalEnableWrite_stops : Does (.journalEnableWrite dt rq 0) s (fun t => t.rd Dict.journalEnable = 0 ∧ t.jn = u.jn) := by
  refine .of_write hu h rfl ?_
  extract_lets r s1 _ _ s2
  have hstore : s1.stores Dict.journalEnable 0 0 0 := State.stores_wr ..
  obtain ⟨rs, ms, qs, hanswer⟩ := s2.answerWrite_only rq Dict.journalEnable 0 0 0
  rw [hanswer]
  exact ⟨State.stores.replied (v := s2) hstore, rfl⟩

end

/-! ### Chunks, runs of discards, the leaf's message (20 R412, R415, R419) -/

section
variable {dt : Nat} {s u : State} (hu : u = s.elapse dt) (hon : u.coreOn = true)
include hu hon

theorem chunkTimeout_closes {k : Nat} {g : Gather} (hgathering : u.jn.gathering = [(k, g)]) (hpassed : u.passed g.since 100000 = true) :
    Does (.chunkTimeout dt) s (fun t => t.jn.gathering = [] ∧
      (t.ring (k == jnEngine)).cseq = ((u.ring (k == jnEngine)).cseq + 1) % 2 ^ 32) := by
  refine .of_core hu rfl hon ?_
  have hdue : (u.jn.gathering.filter (fun e => u.passed e.2.since 100000)).map (·.1) = [k] := by
    rw [hgathering, List.filter_cons, if_pos hpassed]
    rfl
  have hfound : Tbl.get? u.jn.gathering k = some g := by
    rw [hgathering]
    exact if_pos rfl
  have hleft : Tbl.del u.jn.gathering k = [] := by
    rw [hgathering, Tbl.del, List.filter_cons, if_neg (by rw [bne_self_eq_false]; exact Bool.false_ne_true)]
    rfl
  rw [hdue, List.foldl_cons, List.foldl_nil]
  unfold State.closeGather
  rw [hfound, hleft]
  obtain ⟨hnumber, hrest⟩ := State.writeChunk_numbers { u with jn := { u.jn with gathering := [] } } k g
  exact ⟨hrest, hnumber⟩

/-- The run of a ring's discards ends where it is 1 ms old. -/
def State.endOldRun (t : State) (hist : Bool) : State :=
  match (t.ring hist).run with
  | some r => if t.passed r.since 1000000 then t.endDiscards hist else t
  | none => t

end

theorem State.endOldRun_other (s : State) {hist other : Bool} (h : other ≠ hist) : (s.endOldRun hist).ring other = s.ring other := by
  unfold State.endOldRun
  split
  · split
    · exact s.endDiscards_other h
    · rfl
  · rfl

theorem State.endDiscards_time (s : State) (hist : Bool) : (s.endDiscards hist).time = s.time := by
  have hring (r : ChunkRing) : (s.setRing hist r).time = s.time := by cases hist <;> rfl
  unfold State.endDiscards
  split
  · rfl
  · obtain ⟨_, _, _, _, _, _, _, _, _, h⟩ := RaisedFrom.raise (s.setRing hist { s.ring hist with run := none }) true false recJournalLost _
    rw [h]
    exact hring _

theorem State.endOldRun_time (s : State) (hist : Bool) : (s.endOldRun hist).time = s.time := by
  unfold State.endOldRun
  split
  · split
    · exact s.endDiscards_time hist
    · rfl
  · rfl

theorem State.endOldRun_ring {s : State} {hist : Bool} {r : DiscardRun} (hrun : (s.ring hist).run = some r)
    (hpassed : s.passed r.since 1000000 = true) : (s.endOldRun hist).ring hist = { s.ring hist with run := none } := by
  unfold State.endOldRun
  rw [hrun]
  dsimp only
  rw [if_pos hpassed, s.endDiscards_ring]

theorem State.endOldRuns_ring {s : State} {hist : Bool} {r : DiscardRun} (hrun : (s.ring hist).run = some r)
    (hpassed : s.passed r.since 1000000 = true) : ((s.endOldRun false).endOldRun true).ring hist = { s.ring hist with run := none } := by
  cases hist with
  | false => rw [State.endOldRun_other _ (by decide), State.endOldRun_ring hrun hpassed]
  | true =>
    have hother : (s.endOldRun false).ring true = s.ring true := State.endOldRun_other _ (by decide)
    have hstill : (s.endOldRun false).passed r.since 1000000 = true := by
      unfold State.passed
      rw [State.endOldRun_time]
      exact hpassed
    rw [State.endOldRun_ring (by rw [hother]; exact hrun) hstill, hother]

section
variable {dt : Nat} {s u : State} (hu : u = s.elapse dt) (hon : u.coreOn = true)
include hu hon

theorem journalLost_ends {hist : Bool} {r : DiscardRun} (hrun : (u.ring hist).run = some r) (hpassed : u.passed r.since 1000000 = true) :
    Does (.journalLost dt) s (fun t => (t.ring hist).run = none ∧ (t.ring hist).chunks = (u.ring hist).chunks) := by
  have hended := State.endOldRuns_ring hrun hpassed
  have hchunks : (((u.endOldRun false).endOldRun true).ring hist).chunks = (u.ring hist).chunks := by rw [hended]
  exact .of_core hu rfl hon ⟨congrArg ChunkRing.run hended, hchunks⟩

theorem leafJournalFlush_sends (hleaf : u.jn.leaf ≠ []) (hpassed : u.passed u.jn.leafSince 100000 = true) :
    Does (.leafJournalFlush dt) s (fun t => t.jn.leaf = []) := by
  refine .of_core hu rfl hon ?_
  rw [if_pos hpassed]
  unfold State.sendLeafJournal
  rw [if_neg (by rw [List.isEmpty_iff]; exact hleaf)]
  exact congrArg Journal.leaf (KeepsJournal.offer (s := { u with jn := { u.jn with leaf := [] } }) rfl)

end

/-- An entry of a kind that gathers nothing begins a chunk. -/
theorem State.journalEntry_begins {s : State} {kind frame : Nat} {body : Bytes} (htray : s.isTrayChip = true)
    (henabled : s.flag Dict.journalEnable = true) (hnone : Tbl.get? s.jn.gathering kind = none) (hlen : body.length ≤ 4096) :
    (s.journalEntry kind frame body).jn.gathering =
      Tbl.set s.jn.gathering kind { entryLen := body.length, since := s.time.now, entries := [(frame, body)] } := by
  unfold State.journalEntry
  rw [htray, henabled, if_neg (by decide), entryPieces, if_pos hlen, List.foldl_cons, List.foldl_nil]
  unfold State.gatherEntry
  rw [hnone]
  dsimp only
  rw [hnone]

theorem leafJournalMessage_gathers {dt p k : Nat} {b : Bytes} {s u : State} (hu : u = s.elapse dt) (hon : u.coreOn = true)
    (hdown : u.isDown p = true) (hup : u.laneUp p = true) (henabled : u.flag Dict.journalEnable = true)
    (hnone : Tbl.get? u.jn.gathering k = none) (hlen : b.length ≤ 4096) :
    Does (.leafJournalMessage dt p [(k, b)]) s (fun t => Tbl.get? t.jn.gathering k =
      some { entryLen := b.length, since := u.time.now, entries := [(leafEntryFrame k b, b)] }) := by
  have hguard : ¬ (!u.isDown p || !u.laneUp p) = true := by
    rw [hdown, hup]
    decide
  have htray : u.isTrayChip = true := by
    unfold State.isDown at hdown
    exact (Bool.and_eq_true_iff.mp hdown).1
  refine ⟨_, congrArg Host.Outcome.next (State.fromLane_from hu hon ..), ?_⟩
  rw [if_neg hguard, List.foldl_cons, List.foldl_nil]
  have hgathered := State.journalEntry_begins (s := u.touch) (frame := leafEntryFrame k b) htray henabled hnone hlen
  exact (congrArg (Tbl.get? · k) hgathered).trans (Tbl.get?_set_same ..)

/-! ### Export (20 R420, R421) -/

theorem KeepsJournal.exportRecord (s : State) (value : Nat) : KeepsJournal s (s.exportRecord value) := KeepsJournal.raised rfl (.raise ..)

/-- A journal whose chunks in two sets of numbers are frozen over a range of frames. -/
def State.frozen (s : State) (first last : Nat) (j h : List Nat) : State :=
  { s with jn := { s.jn with
    freeze := some (first, last)
    journal := s.jn.journal.marked (fun c => j.contains c.cseq)
    history := s.jn.history.marked (fun c => h.contains c.cseq) } }

theorem ChunkRing.frozen_marked {r : ChunkRing} {f : Chunk → Bool} {c : Chunk} (hf : ∀ (c : Chunk) (b : Bool), f { c with frozen := b } = f c)
    (hc : c ∈ (r.marked f).chunks) : c.frozen = f c := by
  obtain ⟨d, -, rfl⟩ := List.mem_map.mp hc
  exact (hf d _).symm

theorem State.granted_selectHistory (s : State) (first last : Nat) : s.granted.selectHistory first last = s.selectHistory first last := by
  unfold State.selectHistory
  rw [s.rd_granted (o := Dict.historyOldest) (by decide)]
  rfl

section
variable {dt : Nat} {rq : Requester} {s u : State} (hu : u = s.elapse dt) (h : u.serves Dict.exportCmd)
include hu h

theorem exportFreeze_freezes {f : Nat} (hfree : u.jn.freeze = none)
    (hheld : frameGt (u.rd Dict.journalOldest) (u.rd Dict.exportFirst) = false) (hsent : u.red.lastSent = some f)
    (hlast : frameGe f (u.rd Dict.exportLast) = true)
    (hlength : u.exportLength (u.selectJournal (u.rd Dict.exportFirst) (u.rd Dict.exportLast))
      (u.selectHistory (u.rd Dict.exportFirst) (u.rd Dict.exportLast)) ≤ 4294967295) :
    Does (.exportFreeze dt rq) s (fun t => t.cmdCode Dict.exportCmd = 0 ∧
      t.jn.freeze = some (u.rd Dict.exportFirst, u.rd Dict.exportLast) ∧
      ∀ c ∈ t.jn.journal.chunks, c.frozen = (u.selectJournal (u.rd Dict.exportFirst) (u.rd Dict.exportLast)).contains c.cseq) := by
  have hfirst : u.granted.rd Dict.exportFirst = u.rd Dict.exportFirst := u.rd_granted (by decide)
  have hlast' : u.granted.rd Dict.exportLast = u.rd Dict.exportLast := u.rd_granted (by decide)
  have holdest : u.granted.rd Dict.journalOldest = u.rd Dict.journalOldest := u.rd_granted (by decide)
  have hsent' : u.granted.red.lastSent = some f := hsent
  have hfree' : u.granted.jn.freeze = none := hfree
  have hlength' (j l : List Nat) : u.granted.exportLength j l = u.exportLength j l := rfl
  have hjournal (a b : Nat) : u.granted.selectJournal a b = u.selectJournal a b := rfl
  have hrecord := KeepsJournal.exportRecord (u.granted.frozen (u.rd Dict.exportFirst) (u.rd Dict.exportLast)
    (u.selectJournal (u.rd Dict.exportFirst) (u.rd Dict.exportLast)) (u.selectHistory (u.rd Dict.exportFirst) (u.rd Dict.exportLast))) 1
  generalize hv : (u.granted.frozen (u.rd Dict.exportFirst) (u.rd Dict.exportLast)
    (u.selectJournal (u.rd Dict.exportFirst) (u.rd Dict.exportLast))
    (u.selectHistory (u.rd Dict.exportFirst) (u.rd Dict.exportLast))).exportRecord 1 = v at hrecord
  refine .of_cmd (v := v) (code := 0) hu h rfl ?_ fun rs ms qs => ⟨State.cmdCode_answered, congrArg Journal.freeze hrecord, fun c hc => ?_⟩
  · dsimp only
    rw [hfirst, hlast', holdest, hsent', hfree', hheld, hlength', hjournal, u.granted_selectHistory]
    have hpassed : ¬ (false || !frameGe f (u.rd Dict.exportLast)) = true := by
      rw [hlast]
      decide
    rw [if_neg (by decide), if_neg hpassed, if_neg (Nat.not_lt.mpr hlength), ← hv]
    rfl
  · have hchunks : v.jn.journal.chunks = _ := congrArg (fun j : Journal => j.journal.chunks) hrecord
    exact ChunkRing.frozen_marked (r := u.jn.journal)
      (f := fun c => (u.selectJournal (u.rd Dict.exportFirst) (u.rd Dict.exportLast)).contains c.cseq) (fun _ _ => rfl) (hchunks ▸ hc)

theorem exportRelease_thaws : Does (.exportRelease dt rq) s (fun t => t.cmdCode Dict.exportCmd = 0 ∧ t.jn.freeze = none ∧
    (∀ c ∈ t.jn.journal.chunks, c.frozen = false) ∧ ∀ c ∈ t.jn.history.chunks, c.frozen = false) := by
  have hrecord := KeepsJournal.exportRecord u.granted.thaw 0
  generalize hv : u.granted.thaw.exportRecord 0 = v at hrecord
  have hjournal : v.jn.journal.chunks = _ := congrArg (fun j : Journal => j.journal.chunks) hrecord
  have hhistory : v.jn.history.chunks = _ := congrArg (fun j : Journal => j.history.chunks) hrecord
  refine .of_cmd (v := v) (code := 0) hu h rfl (by rw [← hv]) fun rs ms qs => ⟨State.cmdCode_answered, congrArg Journal.freeze hrecord,
    fun c hc => ?_, fun c hc => ?_⟩
  · exact ChunkRing.frozen_marked (r := u.jn.journal) (f := fun _ => false) (fun _ _ => rfl) (hjournal ▸ hc)
  · exact ChunkRing.frozen_marked (r := u.jn.history) (f := fun _ => false) (fun _ _ => rfl) (hhistory ▸ hc)

end

/-- Settles O26: the journal's rings, the leaf's messages and the frozen range. -/
theorem journalCommandsComplete : Obligations.JournalCommandsComplete := by
  unfold Obligations.JournalCommandsComplete
  exact ⟨fun _ _ _ _ hu h => journalEnableWrite_starts hu h, fun _ _ _ _ hu h => journalEnableWrite_stops hu h,
    fun _ _ _ _ _ hu hon hgathering hpassed => chunkTimeout_closes hu hon hgathering hpassed,
    fun _ _ _ _ _ hu hon hrun hpassed => journalLost_ends hu hon hrun hpassed,
    fun _ _ _ hu hon hleaf hpassed => leafJournalFlush_sends hu hon hleaf hpassed,
    fun _ _ _ _ _ _ hu hon hdown hup henabled hnone hlen => leafJournalMessage_gathers hu hon hdown hup henabled hnone hlen,
    fun _ _ _ _ _ hu h hfree hheld hsent hlast hlength => exportFreeze_freezes hu h hfree hheld hsent hlast hlength,
    fun _ _ _ _ hu h => exportRelease_thaws hu h⟩

end Sys2Proof.Machine
end

section
/-! The stacks' canonical form: the rules of the shared operations (21 R431). -/

namespace Sys2Proof.Machine

open Sys2Proof

-- one theorem after the other: each theorem that waits for the kernel would hold a thread
set_option Elab.async false

/-- The stacks of `t` have the canonical form where those of `s` have it, and `t` has the build of `s`. -/
def KeepsForm (s t : State) : Prop := (s.stackOk → t.stackOk) ∧ t.build = s.build

namespace KeepsForm

theorem refl (s : State) : KeepsForm s s := ⟨id, rfl⟩

section
variable {s t : State} (h : KeepsForm s t)
include h

theorem trans {u : State} (k : KeepsForm t u) : KeepsForm s u := ⟨fun hs => k.1 (h.1 hs), k.2.trans h.2⟩

/-- Nothing but the stacks and the build counts. -/
theorem of_same {u : State} (hstack : u.stack = t.stack) (hbuild : u.build = t.build) : KeepsForm s u := by
  obtain ⟨hform, hkept⟩ := h
  refine ⟨fun hs => ?_, hbuild.trans hkept⟩
  unfold State.stackOk
  rw [hstack]
  exact hform hs

theorem ite {c : Prop} [Decidable c] {u : State} (k : KeepsForm s u) : KeepsForm s (if c then t else u) := by
  split
  · exact h
  · exact k

theorem foldl {α : Type} {f : State → α → State} {l : List α} (hf : ∀ {u : State} (a : α), KeepsForm s u → KeepsForm s (f u a)) :
    KeepsForm s (l.foldl f t) :=
  List.foldlRecOn l f h fun _ hu a _ => hf a hu

/-! ### The stacks (21 R431) -/

theorem stackWrite {a : Nat} {bs : Bytes} : KeepsForm s (t.stackWrite a bs) := by
  refine h.trans ⟨t.stackWrite_wf a bs, ?_⟩
  unfold State.stackWrite
  split <;> rfl

/-- A range of the stacks becomes unpredictable. -/
theorem opened {lo hi seed : Nat} : KeepsForm s { t with stack := t.stack.openUp lo hi seed } :=
  h.trans ⟨t.stack.openUp_wf lo hi seed, rfl⟩

/-! ### Objects -/

theorem wr {o : Ob} {v m j : Nat} : KeepsForm s (t.wr o v m j) := h

theorem bump {o : Ob} {m j n : Nat} : KeepsForm s (t.bump o m j n) := h

theorem bumpSat {o : Ob} {m j n : Nat} : KeepsForm s (t.bumpSat o m j n) := h

theorem emit {o : Output} : KeepsForm s (t.emit o) := h

theorem drawn : KeepsForm s t.drawn := h

theorem wrBytes {o : Ob} {bs : Bytes} {m j : Nat} : KeepsForm s (t.wrBytes o bs m j) := h

theorem setCode {o : Ob} {code m : Nat} : KeepsForm s (t.setCode o code m) := h

theorem responseLeft {b : Bytes} {a : Nat} : KeepsForm s (t.responseLeft b a) := h

theorem setIrq {b : Nat} : KeepsForm s (t.setIrq b) := h

theorem countStack {a n : Nat} {write : Bool} : KeepsForm s (t.countStack a n write) := h

theorem touch : KeepsForm s t.touch := h

theorem withRecd {r : Recorder} : KeepsForm s { t with recd := r } := h

theorem withJn {j : Journal} : KeepsForm s { t with jn := j } := h

theorem withSch {x : Sched} : KeepsForm s { t with sch := x } := h

/-! ### Event records (17 R346 to R357) -/

theorem push {op own} {data : Bytes} : KeepsForm s (t.push op data own) := by
  obtain ⟨_, hpush⟩ := t.push_only op data own
  rw [hpush]
  exact h

theorem syncMirror : KeepsForm s t.syncMirror := h.wr

theorem recToStack {slot : Nat} {r : EventRec} : KeepsForm s (t.recToStack slot r) := .ite h.stackWrite h

theorem writeRecord {slot : Nat} {r : EventRec} {a u c : Bool} : KeepsForm s (t.writeRecord slot r a u c) := by
  unfold State.writeRecord
  extract_lets mir e since
  have hheld (rc : Recorder) : KeepsForm s { t with recd := rc } := h
  exact (hheld _).recToStack.bump.syncMirror

theorem takeSlot {k : Nat} {u : State} (hslot : t.takeSlot = some (k, u)) : KeepsForm s u := by
  unfold State.takeSlot at hslot
  dsimp only at hslot
  split at hslot
  · cases hslot
    exact h
  · split at hslot
    · cases hslot
    · cases hslot
      split
      · exact h
      · exact h

theorem bufferAlarm {b : Bytes} {own} : KeepsForm s (t.bufferAlarm b own) := h

theorem sendOwnAlarm {r : EventRec} {n : Nat} : KeepsForm s (t.sendOwnAlarm r n) := by
  unfold State.sendOwnAlarm
  split
  · exact h.push
  · exact h.bufferAlarm

theorem storeOwn {r : EventRec} {alarm : Bool} : KeepsForm s (t.storeOwn r alarm) := by
  unfold State.storeOwn
  split
  next => exact h
  next k u hslot =>
    have hu : KeepsForm s u := h.takeSlot hslot
    exact .ite hu.writeRecord (.ite hu.writeRecord.bumpSat hu.writeRecord.sendOwnAlarm)

theorem storeChild {r : EventRec} : KeepsForm s (t.storeChild r) := by
  unfold State.storeChild
  split
  next => exact h
  next k u hslot => exact (h.takeSlot hslot).writeRecord

theorem raiseAt {f a : Bool} {ty pl tm fr : Nat} : KeepsForm s (t.raiseAt f a ty pl tm fr) := by
  unfold State.raiseAt
  extract_lets r
  split
  next e _ =>
    unfold State.fold
    extract_lets r' ring mine alarms fix _ _ _ _ s1
    have hs1 : KeepsForm s s1 := h
    exact hs1.recToStack.bumpSat
  next => exact h.storeOwn

theorem raise {f a : Bool} {ty pl : Nat} : KeepsForm s (t.raise f a ty pl) := h.raiseAt

theorem raiseO {ty pl : Nat} : KeepsForm s (t.raiseO ty pl) := h.raise

theorem raiseAlarm {ty pl : Nat} : KeepsForm s (t.raiseAlarm ty pl) := h.raise

theorem takeChildRecord {port : Nat} {r : EventRec} : KeepsForm s (t.takeChildRecord port r) :=
  .ite h.storeChild.storeChild h.storeChild

theorem forwardIn {b : Bytes} : KeepsForm s (t.forwardIn b) := .ite h.bufferAlarm h

theorem fitAlarms {l} : KeepsForm s (t.fitAlarms l) := h

theorem forwardAlarm {port : Nat} {r : EventRec} : KeepsForm s (t.forwardAlarm port r) := by
  unfold State.forwardAlarm
  extract_lets _ send s1
  have hsend {u : State} {b} (hu : KeepsForm s u) : KeepsForm s (send u b) := .ite hu.push hu.forwardIn
  exact .ite (hsend (hsend h)) (hsend h)

end

theorem queueHeld {s t : State} (h : KeepsForm s t) {n : Nat} : KeepsForm s (State.queueHeld n t) := by
  induction n generalizing t with
  | zero => exact h
  | succ n ih =>
    rw [State.queueHeld]
    split
    · exact h
    · exact .ite h (ih h.withRecd.bufferAlarm)

theorem writeTallies {s t : State} (h : KeepsForm s t) {n : Nat} : KeepsForm s (State.writeTallies n t) := by
  induction n generalizing t with
  | zero => exact h
  | succ n ih =>
    rw [State.writeTallies]
    split
    · exact h
    next x _ =>
      have hx (ts) : KeepsForm s { t with recd := { t.recd with tallies := ts } } := h
      exact .ite h (ih (.ite (hx _).storeChild (hx _).storeOwn))

/-! ### The journal (20 R411 to R419) -/

section
variable {s t : State} (h : KeepsForm s t)
include h

theorem setRing {hist : Bool} {r : ChunkRing} : KeepsForm s (t.setRing hist r) := .ite h.withJn h.withJn

theorem lostUpTo {hist : Bool} {last : Nat} : KeepsForm s (t.lostUpTo hist last) := .ite h.wr h

theorem endDiscards {hist : Bool} : KeepsForm s (t.endDiscards hist) := by
  unfold State.endDiscards
  split
  · exact h
  · exact h.setRing.raise

theorem writeRing {hist : Bool} {addr : Nat} {b : Bytes} : KeepsForm s (t.writeRing hist addr b) := by
  unfold State.writeRing
  extract_lets s1
  have hs1 : KeepsForm s s1 := h.stackWrite
  exact .ite hs1.opened.drawn hs1

theorem writeChunk {kind : Nat} {g : Gather} : KeepsForm s (t.writeChunk kind g) := by
  unfold State.writeChunk
  extract_lets hist r frames fst lst block bytes size pos base covers next run gone s0 s1 die c
  have hs1 : KeepsForm s s1 := h.endDiscards.foldl fun _ hu => hu.lostUpTo
  exact .ite h.setRing.bumpSat.lostUpTo hs1.setRing.writeRing

theorem closeGather {k : Nat} : KeepsForm s (t.closeGather k) := by
  unfold State.closeGather
  split
  · exact h
  · exact h.withJn.writeChunk

theorem gatherEntry {kind frame : Nat} {b : Bytes} : KeepsForm s (State.gatherEntry kind frame t b) := by
  unfold State.gatherEntry
  extract_lets s1 g
  have hs1 : KeepsForm s s1 := by
    unfold s1
    split
    · exact .ite h h.closeGather
    · exact h
  exact hs1

theorem journalEntry {kind frame : Nat} {b : Bytes} : KeepsForm s (t.journalEntry kind frame b) :=
  .ite h (h.foldl fun _ hu => hu.gatherEntry)

theorem phaseChanged {old : Nat} : KeepsForm s (t.phaseChanged old) := .ite h h.raiseO.journalEntry

end

end KeepsForm

end Sys2Proof.Machine
end

section
/-! The stacks' form: links, queues and the scheduler keep it (chapters 13, 14, 17). -/

namespace Sys2Proof.Machine.KeepsForm

open Sys2Proof

-- one theorem after the other: each theorem that waits for the kernel would hold a thread
set_option Elab.async false

section
variable {s t : State} (h : KeepsForm s t)
include h

/-! ### Queues -/

theorem setGq {g : Nat} {q : GroupQ} : KeepsForm s (t.setGq g q) := h

theorem queued {u : State} (k : QueuedFrom t u) : KeepsForm s u := by
  obtain ⟨_, rfl⟩ := k
  exact h

theorem enqueue {g c : Nat} {f : QFrame} : KeepsForm s (t.enqueue g c f) := h.queued (t.enqueue_only g c f)

theorem enterQueue {n g c : Nat} : KeepsForm s (State.enterQueue n t g c) := h.queued (.enterQueue n t g c)

theorem admitAll {g : Nat} : KeepsForm s (t.admitAll g) := h.foldl fun _ hu => hu.enterQueue

theorem refresh {g : Nat} : KeepsForm s (t.refresh g) := h

theorem keepOld {o : Ob} {m : Nat} : KeepsForm s (t.keepOld o m) := by
  unfold State.keepOld
  extract_lets k
  split_ifs
  all_goals exact h

theorem police {g c pre b : Nat} : KeepsForm s (t.police g c pre b).2 := by
  unfold State.police
  split
  · exact h
  · exact h

theorem writeRun {r : DropRun} : KeepsForm s (t.writeRun r) := h.raiseO

theorem endRuns {c level die : Nat} : KeepsForm s (t.endRuns c level die) := h.withSch.foldl fun _ hu => hu.writeRun

theorem drop {g c level die cseq reason : Nat} : KeepsForm s (t.drop g c level die cseq reason) := by
  unfold State.drop
  extract_lets joins s1 s2
  have hs1 : KeepsForm s s1 := h.bumpSat
  split
  · exact hs1
  · exact hs1.endRuns

theorem sendRelay {g r : Nat} {f : QFrame} : KeepsForm s (t.sendRelay g r f) := h.bumpSat.foldl fun _ hu => hu.enqueue

theorem redirect {g r c : Nat} {f : QFrame} : KeepsForm s (t.redirect g r c f) := by
  unfold State.redirect
  split
  case h_1 => exact .ite h.enqueue h.sendRelay
  case h_2 | h_3 => exact h.bumpSat
  case h_4 | h_5 | h_6 | h_7 => exact h
  case h_8 | h_9 | h_10 | h_11 => exact h.drop
  all_goals exact h.enqueue

theorem enqueueUp {frame c : Nat} {f : QFrame} : KeepsForm s (t.enqueueUp frame c f) := by
  unfold State.enqueueUp
  split
  · exact h
  · split
    · exact h.enqueue
    · exact h.redirect

theorem offer {c : Nat} {kind : MsgKind} {body : Bytes} : KeepsForm s (t.offer c kind body) := by
  unfold State.offer
  split
  next => exact h
  next g _ =>
    extract_lets die restart cseq _ s1 size send r
    have hsend {u : State} {colour : Nat} (hu : KeepsForm s u) : KeepsForm s (send u colour) := hu.endRuns.enqueue
    have hs1 : KeepsForm s s1 := h
    exact .ite hs1.drop (.ite (hsend hs1) (.ite hs1.drop (.ite hs1.police.drop (hsend hs1.police))))

theorem offerRequest {g : Nat} {bytes : Bytes} : KeepsForm s (t.offerRequest g bytes).2 := by
  unfold State.offerRequest
  split
  · exact h.bumpSat
  · extract_lets r
    split
    · exact bumpSat (t := r.2.drawn) h.police
    · exact h.police.enqueue

/-! ### Links -/

theorem txOn {q : Nat} {b : Bytes} : KeepsForm s (t.txOn q b) := by
  unfold State.txOn State.countPort
  split
  · exact h
  · exact h

theorem rxOn {q n : Nat} : KeepsForm s (t.rxOn q n) := by
  unfold State.rxOn State.countPort
  split
  · exact h
  · exact h

theorem setLink {g : Nat} {l : Link} : KeepsForm s (t.setLink g l) := h

theorem sendSeq {g typ cls : Nat} {q : QFrame} : KeepsForm s (t.sendSeq g typ cls q) := h.setLink.txOn

theorem sendCtl {g typ : Nat} {b : Bytes} : KeepsForm s (t.sendCtl g typ b) := .ite h.txOn h

theorem sendCredit {g : Nat} : KeepsForm s (t.sendCredit g) := h.setLink.sendCtl

theorem sendRoute {g typ : Nat} {b : Bytes} : KeepsForm s (t.sendRoute g typ b) := .ite h (.ite h.sendSeq h)

theorem freeCredit {g : Nat} : KeepsForm s (t.freeCredit g) := h

theorem releaseCredits : KeepsForm s t.releaseCredits := h.foldl fun _ hu => hu.freeCredit.sendCredit

end

theorem sendWaiting {s t : State} (h : KeepsForm s t) {n g : Nat} : KeepsForm s (State.sendWaiting n t g) := by
  induction n generalizing t with
  | zero => exact h
  | succ n ih =>
    rw [State.sendWaiting]
    split
    · exact h
    · exact .ite (ih h.setLink.sendSeq) h

/-! ### DATA decisions (14 R299 to R312) -/

section
variable {s t : State} (h : KeepsForm s t)
include h

theorem sendAlarms {g : Nat} : KeepsForm s (t.sendAlarms g) := by
  unfold State.sendAlarms
  extract_lets out bytes nums ring _ s1 s2
  have hs1 : KeepsForm s s1 := h.withRecd.fitAlarms
  have hs2 : KeepsForm s s2 := hs1.bump.sendSeq
  exact .ite hs2.setIrq hs2

theorem sendClass {g c : Nat} {f : QFrame} : KeepsForm s (t.sendClass g c f) := by
  unfold State.sendClass
  extract_lets q s1 s2 q2
  have hs1 : KeepsForm s s1 := h
  have hs2 : KeepsForm s s2 := hs1.bump.sendSeq.admitAll.responseLeft
  exact .ite hs2 hs2.setGq

end

theorem serveDrr {s t : State} (h : KeepsForm s t) {n g : Nat} : KeepsForm s (State.serveDrr n t g) := by
  induction n generalizing t with
  | zero => exact h
  | succ n ih =>
    rw [State.serveDrr]
    have hq {q : GroupQ} : KeepsForm s (t.setGq g q) := h
    split
    · exact h
    · extract_lets d q1
      split
      · exact h
      · exact .ite hq.sendClass (ih hq)

section
variable {s t : State} (h : KeepsForm s t)
include h

theorem dataDecision {g : Nat} : KeepsForm s (t.dataDecision g) :=
  .ite h (.ite h.admitAll.refresh.sendAlarms h.admitAll.refresh.serveDrr)

theorem decide_ {g : Nat} : KeepsForm s (t.decide_ g) := by
  unfold State.decide_
  split
  · exact h
  · extract_lets s1
    have hs1 : KeepsForm s s1 := h
    split
    · split
      · exact .ite hs1.sendClass hs1
      · exact hs1
    · exact hs1.dataDecision.releaseCredits

theorem spaceFreed : KeepsForm s t.spaceFreed := h.fitAlarms.queueHeld.writeTallies.releaseCredits

theorem sendMirror : KeepsForm s t.sendMirror := by
  unfold State.sendMirror
  extract_lets m slots ring body _ s1
  have hs1 : KeepsForm s s1 := h
  exact hs1.syncMirror.offer

/-! ### The leaf's messages (20 R415) -/

theorem sendLeafJournal : KeepsForm s t.sendLeafJournal := .ite h h.withJn.offer

theorem leafEntry {kind : Nat} {b : Bytes} : KeepsForm s (t.leafEntry kind b) := by
  unfold State.leafEntry
  split
  · exact h
  · extract_lets es _ s1
    have hs1 : KeepsForm s s1 := h
    exact .ite hs1.sendLeafJournal hs1

theorem ownEntry {kind frame : Nat} {b : Bytes} : KeepsForm s (t.ownEntry kind frame b) := .ite h.leafEntry h.journalEntry

end

end Sys2Proof.Machine.KeepsForm
end

section
/-! The stacks' form: local time, the ways in which a command comes, and answers keep it (chapters 02, 15, 18 and 19). -/

namespace Sys2Proof.Machine.KeepsForm

open Sys2Proof

-- one theorem after the other: each theorem that waits for the kernel would hold a thread
set_option Elab.async false

/-! ### Answers (15 R317 to R330) -/

section
variable {s t : State} (h : KeepsForm s t)
include h

theorem answer {src : DapSource} {r : DapReq} {st co total retry : Nat} {data : Bytes} :
    KeepsForm s (t.answer src r st co total data retry) := by
  obtain ⟨_, _, _, hanswer⟩ := t.answer_only src r st co total data retry
  rw [hanswer]
  exact h

theorem respond {src : DapSource} {b : Bytes} : KeepsForm s (t.respond src b) := by
  cases src with
  | mailbox => exact h
  | lane q => exact h.enqueue
  | mgmt a q => exact h

theorem answerLost {src : DapSource} {r : DapReq} {reason : Nat} : KeepsForm s (t.answerLost src r reason) := h.bumpSat.answer

theorem answerWrite {rq : Requester} {o : Ob} {m st co : Nat} : KeepsForm s (t.answerWrite rq o m st co) := h.answer

theorem queueRequest : KeepsForm s t.queueRequest := h

theorem serveAny {src : DapSource} {r : DapReq} {aborts busy : State → Bool} {act : State → State}
    (hact : ∀ {u : State}, KeepsForm s u → KeepsForm s (act u)) : KeepsForm s (State.serveAny src r aborts busy act t) := by
  have hcounted : KeepsForm s (t.touch.queueRequest.bump Dict.served) := h.touch.queueRequest.bump
  unfold State.serveAny
  extract_lets s0
  split
  · exact .ite h.touch.answer (hact hcounted)
  · exact h.touch.bump.answer
  · exact h.touch.answer

theorem serveRead {src : DapSource} {r : DapReq} {act : State → State}
    (hact : ∀ {u : State}, KeepsForm s u → KeepsForm s (act u)) : KeepsForm s (State.serveRead src r act t) := h.serveAny hact

theorem serveWrite {rq : Requester} {o : Ob} {m : Nat} {act : State → State}
    (hact : ∀ {u : State}, KeepsForm s u → KeepsForm s (act u)) : KeepsForm s (State.serveWrite rq o m act t) :=
  h.serveRead hact

theorem serveCmd {rq : Requester} {o : Ob} {m : Nat} {act : State → State × Nat}
    (hact : ∀ {u : State}, KeepsForm s u → KeepsForm s (act u).1) : KeepsForm s (State.serveCmd rq o m act t) :=
  h.serveWrite fun hu => (hact hu).setCode.answerWrite

theorem beginAction {src : DapSource} {id : Nat} {o : Ob} {m : Nat} : KeepsForm s (t.beginAction src id o m) := h

theorem actionDone {o : Ob} {m code : Nat} : KeepsForm s (t.actionDone o m code) := h

theorem serveLong {rq : Requester} {o : Ob} {m v : Nat} {start : State → State}
    (hstart : ∀ {u : State}, KeepsForm s u → KeepsForm s (start u)) : KeepsForm s (State.serveLong rq o m v start t) :=
  h.serveWrite fun hu => by
    split
    · exact hu
    · exact hstart hu.beginAction

theorem dropWrite {key : Nat} : KeepsForm s (t.dropWrite key) := h

theorem segment {rq : Requester} {key offset total : Nat} {data : Bytes} :
    KeepsForm s (t.segment rq key offset total data).2 := by
  unfold State.segment
  extract_lets cur others
  clear_value cur
  split
  · split <;> exact h
  · split
    · exact h
    · split
      · exact h
      · split <;> exact h

theorem serveSegment {rq : Requester} {o : Ob} {m offset total : Nat} {data : Bytes} {ended : State → State}
    {take : Bool → Bool → Bytes → State → State} (hended : ∀ {u : State}, KeepsForm s u → KeepsForm s (ended u))
    (htake : ∀ {u : State} {first last whole}, KeepsForm s u → KeepsForm s (take first last whole u)) :
    KeepsForm s (State.serveSegment rq o m offset total data ended take t) := by
  refine h.serveAny fun {u} hu => ?_
  have hsegment : KeepsForm s (u.segment rq (o.key m 0) offset total data).2 := hu.segment
  split
  next heq =>
    rw [heq] at hsegment
    exact (ite (hended hsegment) hsegment).answer
  next heq =>
    rw [heq] at hsegment
    exact (htake (ite (hended hsegment) hsegment)).answer

theorem openRead {key : Nat} {data : Bytes} : KeepsForm s (t.openRead key data) := h

end

theorem drainMgmt {s t : State} (h : KeepsForm s t) {n start : Nat} : KeepsForm s (State.drainMgmt n start t) := by
  induction n generalizing t with
  | zero => exact h
  | succ n ih =>
    rw [State.drainMgmt]
    split_ifs
    · exact h
    · exact h
    · split
      · exact h
      next f d _ =>
        extract_lets ring until_ _ s1
        have hs1 : KeepsForm s s1 := h
        exact ih hs1.responseLeft.emit

/-! ### Local time and the shutter's schedules (02 R32, R44 to R46) -/

section
variable {s t : State} (h : KeepsForm s t)
include h

theorem wake {source detail cls : Nat} : KeepsForm s (t.wake source detail cls) := by
  obtain ⟨_, hwake⟩ := t.wake_only source detail cls
  rw [hwake]
  exact h

theorem raiseIsland {f a : Bool} {ty pl tm fr : Nat} : KeepsForm s (t.raiseIsland f a ty pl tm fr) := by
  unfold State.raiseIsland
  extract_lets _ s1
  have hs1 : KeepsForm s s1 := h
  exact .ite h.raiseAt (.ite hs1.wake hs1)

theorem raiseIslandNow {f a : Bool} {ty pl : Nat} : KeepsForm s (t.raiseIslandNow f a ty pl) := h.raiseIsland

theorem setChan {c : Nat} {ch : ShutterChannel} : KeepsForm s (t.setChan c ch) := h

theorem adoptOne {c : Nat} : KeepsForm s (t.adoptOne c) := by
  unfold State.adoptOne
  extract_lets ch
  split
  · exact h
  · split
    · extract_lets q
      have hq : KeepsForm s q.2 := by
        unfold q
        split <;> exact h
      exact hq.setChan.wr.wr.wr
    · exact h

theorem adoptSchedules : KeepsForm s t.adoptSchedules := h.foldl fun _ hu => hu.adoptOne

theorem skipBefore {c limit : Nat} : KeepsForm s (t.skipBefore c limit).1 := by
  unfold State.skipBefore
  extract_lets ch
  split
  · exact h
  · split
    · exact h
    · exact h.setChan.bumpSat

theorem skipChannel {c : Nat} : KeepsForm s (t.skipChannel c) := by
  unfold State.skipChannel
  extract_lets limit cut r1 s2 r2 rep
  have hr2 : KeepsForm s r2.1 := h.skipBefore.adoptOne.skipBefore
  clear_value rep
  split
  · exact hr2
  · exact hr2.raiseIslandNow

theorem stepTime {new : Nat} : KeepsForm s (t.stepTime new) := by
  unfold State.stepTime
  extract_lets fwd _ _ s1
  have hs1 : KeepsForm s s1 := h
  exact .ite (hs1.foldl fun _ hu => hu.skipChannel) hs1

/-! ### The mailbox's claims (18 R379, R382) -/

theorem setBell {k : Nat} {b : Bell} : KeepsForm s (t.setBell k b) := h

theorem bellLate {e : Nat × Bell} : KeepsForm s (t.bellLate e) := .ite h.setBell.bumpSat.raiseO.setIrq h.setBell.bumpSat.raiseO

theorem setMb {m : Mailbox} : KeepsForm s (t.setMb m) := h

theorem acknowledge {c : H2bClaim} : KeepsForm s (t.acknowledge c) := by
  unfold State.acknowledge
  extract_lets b s1
  have hs1 : KeepsForm s s1 := .ite h.bellLate h
  exact hs1.setMb.wr.setBell.setIrq

theorem serveClaims : KeepsForm s t.serveClaims := .ite h (h.setMb.foldl fun _ hu => hu.acknowledge)

/-! ### The ways in which a command comes -/

theorem elapse {dt : Nat} : KeepsForm s (t.elapse dt) := by
  unfold State.elapse
  extract_lets start now hours _ _ _ s1
  have hs1 : KeepsForm s s1 := h
  exact hs1.drainMgmt.serveClaims.adoptSchedules

theorem within : KeepsForm s (t.within s) := ⟨h.1, rfl⟩

theorem park {i : Instr} : KeepsForm s (t.park i) := h

end

section
variable {s : State} {dt : Nat} {i : Instr} {f : State → State}
  (hf : ∀ {u : State}, KeepsForm s u → KeepsForm s (f u))
include hf

theorem after : KeepsForm s (s.after dt f) := (hf (refl s).elapse).within

theorem core : KeepsForm s (s.core dt f) := after fun hu => .ite (hf hu) hu

theorem island : KeepsForm s (s.island dt f) := after fun hu => .ite hu (hf hu)

theorem fromHost {src : Nat} : KeepsForm s (s.fromHost dt src i f) :=
  after fun hu => .ite (hf hu) (.ite hu.park hu.park.wake)

theorem fromLane {q cls : Nat} : KeepsForm s (s.fromLane dt q cls i f) :=
  after fun hu => .ite (hf hu) (.ite hu hu.park.wake)

theorem fromMgmt {bad : Bool} : KeepsForm s (s.fromMgmt dt bad i f) :=
  after fun hu => .ite (hf hu) (.ite hu (.ite hu.bumpSat hu.park.wake))

theorem fromSource {src : DapSource} {bad : Bool} : KeepsForm s (s.fromSource dt src bad i f) := by
  cases src with
  | mailbox => exact fromHost hf
  | lane q => exact fromLane hf
  | mgmt a q => exact fromMgmt hf

theorem asked {rq : Requester} {r : DapReq} : KeepsForm s (s.asked dt rq r f) := fromSource hf

end

end Sys2Proof.Machine.KeepsForm
end

section
/-! The stacks' form: the recorder's and the uplink's requests and the developer's slots keep it (chapters 05, 06, 14, 17). -/

namespace Sys2Proof.Machine.KeepsForm

open Sys2Proof

-- one theorem after the other: each theorem that waits for the kernel would hold a thread
set_option Elab.async false

section
variable {s t : State} (h : KeepsForm s t)
include h

/-! ### Gates, clears and windows (14 R305, 17 R354 to R356) -/

theorem serveGateApply {rq : Requester} {q : Nat} : KeepsForm s (State.serveGateApply rq q t) := by
  refine h.serveWrite fun {u} hu => .ite hu.answerWrite (.ite hu.setCode.answerWrite ?_)
  extract_lets r _ s1
  have hr : KeepsForm s r.2 := by
    unfold r
    split <;> exact hu
  exact hr.setGq.refresh.setCode.answerWrite

theorem clearClass {f : Bool} : KeepsForm s (t.clearClass f) := by
  unfold State.clearClass
  have hring {r : Recorder} : KeepsForm s { t with recd := r } := h
  cases f
  · exact hring.wr.syncMirror
  · exact hring.wr.syncMirror

theorem fillFreed : KeepsForm s t.fillFreed := h.writeTallies

theorem serveClearF {rq : Requester} : KeepsForm s (State.serveClearF rq t) := h.serveCmd fun hu => hu.clearClass.fillFreed

theorem serveClearO {rq : Requester} : KeepsForm s (State.serveClearO rq t) := h.serveCmd fun hu => hu.clearClass.fillFreed

theorem serveClearBoth {rq : Requester} : KeepsForm s (State.serveClearBoth rq t) :=
  h.serveCmd fun hu => hu.clearClass.clearClass.fillFreed

theorem readWindow {src : DapSource} {r : DapReq} {f : Bool} : KeepsForm s (t.readWindow src r f) := by
  cases f
  · exact h.wr.answer
  · exact h.wr.answer

theorem serveWindow {rq : Requester} {f : Bool} : KeepsForm s (State.serveWindow rq f t) := h.serveRead fun hu => hu.readWindow

/-! ### Slots and their queues (05 R104 to R109, 06 R119 to R122) -/

theorem setDslot {k : Nat} {d : DevSlot} : KeepsForm s (t.setDslot k d) := h

theorem syncQueue {k : Nat} : KeepsForm s (t.syncQueue k) := by
  unfold State.syncQueue
  exact .ite h.wr.setDslot h.wr

theorem slotEvent {k event pred frame : Nat} {d : Bytes} : KeepsForm s (t.slotEvent k event pred frame d) :=
  h.ownEntry

theorem slotEmpty {k : Nat} : KeepsForm s (t.slotEmpty k) := h.wr.wr.wr.wr.wr.wr.wr.wr.setDslot

theorem inherit {k f : Nat} {pred : Option Nat} : KeepsForm s (t.inherit k f pred) := by
  cases pred with
  | none => exact h
  | some q => exact .ite h.wr.wr.wr.wr.setDslot h.wr.wr.wr.wr

theorem switchSlot {k : Nat} : KeepsForm s (t.switchSlot k) := by
  cases hswap : (t.dslot k).swap with
  | none =>
    rw [State.switchSlot_idle hswap]
    exact h
  | some e =>
    have hbegun : KeepsForm s (t.begun k e.1 e.2) := h.inherit.setDslot.wr
    rw [State.switchSlot_eq hswap]
    exact hbegun.slotEvent

theorem reachFrame {frame : Nat} : KeepsForm s (t.reachFrame frame) :=
  h.trans (State.reachFrame_keeps refl (fun hu hv => hu.trans hv) (fun u _ => (refl u).switchSlot) t frame)

theorem unscoredEntry {v : DevVec} {k reason : Nat} : KeepsForm s (t.unscoredEntry v k reason) := h.journalEntry

theorem startBatch {k : Nat} : KeepsForm s (t.startBatch k) := by
  unfold State.startBatch
  extract_lets d
  split
  · exact h
  · split
    · split
      · exact h.setDslot.syncQueue.countStack
      · exact h.setDslot.syncQueue
    · exact h.setDslot.syncQueue

theorem enqueueVec {k : Nat} {v : DevVec} : KeepsForm s (t.enqueueVec k v) := by
  unfold State.enqueueVec
  extract_lets d full s0 seen _ s1
  have hs0 {pw : Power} : KeepsForm s { s0 with pw := pw } := h.setDslot.syncQueue
  have hs1 : KeepsForm s s1 := hs0.startBatch
  exact .ite hs1.unscoredEntry hs1

theorem afterRetire {kind gen : Nat} {v : DevVec} {k : Nat} : KeepsForm s (t.afterRetire kind gen v k) := by
  unfold State.afterRetire
  extract_lets d
  split
  · exact .ite h.setDslot.unscoredEntry h
  · exact h

theorem enterSlot {kind : Nat} {v : DevVec} {k : Nat} : KeepsForm s (State.enterSlot kind v t k) :=
  .ite (.ite h.bumpSat.unscoredEntry h.enqueueVec) h.afterRetire

theorem enterSlots {kind : Nat} {v : DevVec} : KeepsForm s (t.enterSlots kind v) := h.reachFrame.foldl fun _ hu => hu.enterSlot

/-! ### Scores (05 R110, R111, 08 R172) -/

theorem scoreVec {k : Nat} {v : DevVec} : KeepsForm s (t.scoreVec k v).2 := by
  unfold State.scoreVec
  extract_lets blank
  split
  · exact h
  · split
    · exact h
    · split
      · exact h
      · split <;> exact h

theorem screenDie {die : Nat} : KeepsForm s (t.screenDie die) := by
  unfold State.screenDie
  split
  · exact h
  next frame v engine score _ =>
    extract_lets _ s1
    have hs1 : KeepsForm s s1 := h
    exact .ite hs1.raiseO.bumpSat hs1

theorem screenScore {r : ScoreRec} : KeepsForm s (t.screenScore r) := by
  unfold State.screenScore
  split
  · exact h
  · extract_lets die s1 v new put
    have hs1 : KeepsForm s s1 := by
      unfold s1
      split
      · exact .ite h.screenDie h
      · exact h
    have hput : KeepsForm s (put s1) := hs1
    clear_value s1
    split
    · exact hs1
    · split
      · exact hput
      · split
        · exact hput
        · exact hs1

theorem sheetScore {r : ScoreRec} : KeepsForm s (t.sheetScore r) := by
  unfold State.sheetScore
  split
  · exact h
  · extract_lets frames
    split
    · exact h
    · split <;> exact h

theorem deliverScore {r : ScoreRec} : KeepsForm s (t.deliverScore r) := by
  unfold State.deliverScore
  extract_lets own waits _ s1 _ s2 x _ s3
  have hs1 : KeepsForm s s1 := by
    unfold s1
    split <;> exact h
  have hs2 : KeepsForm s s2 := .ite hs1.setDslot hs1
  have hs3 : KeepsForm s s3 := by
    unfold s3
    split <;> exact hs2
  exact hs3.screenScore.sheetScore

theorem scoreDone {k : Nat} : KeepsForm s (t.scoreDone k) := by
  unfold State.scoreDone
  extract_lets d
  split
  · exact h
  · split
    · exact h
    · extract_lets r rd s1 s2 _ _ s3
      have hs1 : KeepsForm s s1 := h.scoreVec.setDslot.syncQueue.startBatch
      have hs2 : KeepsForm s s2 := hs1.bump.bump.wrBytes
      clear_value s2
      have hs3 : KeepsForm s s3 := by
        unfold s3
        split
        · have hcounted : KeepsForm s ((s2.bumpSat Dict.slotUnscored k).bumpSat Dict.unscoredAll) := hs2.bumpSat.bumpSat
          exact hcounted.of_same rfl rfl
        · exact hs2.bump
      exact hs3.deliverScore

/-! ### Images and loads (06 R115 to R118) -/

theorem loadFails {k code : Nat} : KeepsForm s (t.loadFails k code) := by
  unfold State.loadFails
  extract_lets s1 _ s2
  have hs2 : KeepsForm s s2 := h.wr.wr.setDslot
  split
  · exact .ite hs2.actionDone hs2
  · exact hs2

theorem loadOk {k : Nat} {i : ImageHeader} {img : Bytes} {l : SlotLoad} : KeepsForm s (t.loadOk k i img l) := by
  unfold State.loadOk
  extract_lets resident image s1 s2 s3 d s4
  have hs1 : KeepsForm s s1 := h.wr.wr
  have hs2 : KeepsForm s s2 := .ite hs1.wr.wr hs1.wr
  have hs4 : KeepsForm s s4 := hs2.wr.wr.wr.wr.wr.setDslot
  exact .ite hs4.actionDone hs4

theorem loadEnd {k : Nat} : KeepsForm s (t.loadEnd k) := by
  unfold State.loadEnd
  split
  · exact h
  · split
    · exact h.loadFails
    · split
      · exact h
      · extract_lets i s1
        have hs1 : KeepsForm s s1 := .ite h.drawn h
        split
        · exact hs1.loadFails
        · split
          · exact hs1.loadOk
          · exact hs1.loadFails
    · extract_lets i img s1
      have hs1 : KeepsForm s s1 := .ite h.countStack h.drawn
      split
      · exact hs1.loadOk
      · exact hs1.loadFails

theorem testTransfer {k : Nat} : KeepsForm s (t.testTransfer k) := by
  unfold State.testTransfer
  split
  · exact h
  · exact .ite h h.setDslot

theorem notEmpty {k : Nat} : KeepsForm s (t.notEmpty k) := .ite h h.wr

theorem loadBegins {k : Nat} {l : SlotLoad} : KeepsForm s (t.loadBegins k l) := h.setDslot.wr.wr

theorem takeImage {k total : Nat} {data : Bytes} {first last : Bool} : KeepsForm s (State.takeImage k total data first last t) := by
  unfold State.takeImage
  split
  · exact .ite h.loadBegins.testTransfer h.notEmpty
  · split
    · exact .ite h (.ite h.setDslot h.setDslot.testTransfer)
    · exact h

theorem imageAborted {k : Nat} : KeepsForm s (t.imageAborted k) := by
  unfold State.imageAborted
  split
  · exact .ite h.loadFails h
  · exact h

theorem serveImage {rq : Requester} {k offset total : Nat} {data : Bytes} : KeepsForm s (State.serveImage rq k offset total data t) :=
  h.serveSegment (fun hu => hu.imageAborted) fun hu => hu.takeImage

theorem takeStack {data : Bytes} : KeepsForm s (State.takeStack data t) := by
  unfold State.takeStack
  extract_lets a lib ok s1
  have hs1 : KeepsForm s s1 := by
    unfold s1
    split
    · exact h.stackWrite
    · exact h.opened.drawn
  exact hs1.wr

theorem serveStackWrite {rq : Requester} {offset total : Nat} {data : Bytes} :
    KeepsForm s (State.serveStackWrite rq offset total data t) := h.serveSegment id fun hu => hu.takeStack

theorem loadStack {k : Nat} : KeepsForm s (State.loadStack k t) := by
  unfold State.loadStack
  split
  · exact h.notEmpty.actionDone
  · extract_lets a bs s1
    have hs1 : KeepsForm s s1 := .ite h.countStack h.drawn
    exact hs1.loadBegins

theorem serveLoadStack {rq : Requester} {k : Nat} : KeepsForm s (State.serveLoadStack rq k t) := h.serveLong fun hu => hu.loadStack

/-! ### Slots in use (06 R119 to R124) -/

theorem activate {k v : Nat} : KeepsForm s (State.activate k v t).1 := by
  unfold State.activate
  extract_lets f pred predBad predSched
  split_ifs
  all_goals exact h

theorem serveActivate {rq : Requester} {k v : Nat} : KeepsForm s (State.serveActivate rq k v t) := h.serveCmd fun hu => hu.activate

theorem unload {k : Nat} : KeepsForm s (State.unload k t).1 := by
  unfold State.unload
  split
  · exact h
  · exact h.loadFails.dropWrite
  · split
    · exact h
    · exact h.slotEvent.slotEmpty
  · split
    · exact h
    · exact h.setDslot.slotEvent

theorem serveUnload {rq : Requester} {k : Nat} : KeepsForm s (State.serveUnload rq k t) := h.serveCmd fun hu => hu.unload

theorem retireSlot {k : Nat} : KeepsForm s (t.retireSlot k) := by
  unfold State.retireSlot
  extract_lets d
  split
  · exact h
  · exact .ite h.wr.wr.setDslot.slotEvent h

theorem serveDevPhase {rq : Requester} {v : Nat} : KeepsForm s (State.serveDevPhase rq v t) :=
  h.serveWrite fun hu => (ite hu hu.drawn).wr.phaseChanged.answerWrite

end

end Sys2Proof.Machine.KeepsForm
end

section
/-! The stacks' form: evidence of silent errors keeps it (chapter 10). -/

namespace Sys2Proof.Machine.KeepsForm

open Sys2Proof

-- one theorem after the other: each theorem that waits for the kernel would hold a thread
set_option Elab.async false

section
variable {s t : State} (h : KeepsForm s t)
include h

/-! ### Tags, brackets and shards (10 R208 to R220, R226 to R228) -/

theorem setEv {e : Evidence} : KeepsForm s (t.setEv e) := h

theorem ceSend {m : CeOut} : KeepsForm s (t.ceSend m) := h

theorem mbSend {door kind : Nat} {b : Bytes} : KeepsForm s (t.mbSend door kind b) := h

theorem binMismatch {n : Nat} {cell : Option Nat} : KeepsForm s (t.binMismatch n cell) := by
  cases cell with
  | none => exact h.bumpSat
  | some c => exact h

theorem countMismatch : KeepsForm s t.countMismatch := by
  unfold State.countMismatch
  extract_lets _ s1
  have hs1 : KeepsForm s s1 := h
  clear_value s1
  split
  · split
    · exact hs1.binMismatch
    · exact hs1
  · exact hs1

theorem emitDigest {d : DigestRec} : KeepsForm s (t.emitDigest d) := h.setEv.bumpSat.enqueueUp

theorem tagOpen {tag base : Nat} : KeepsForm s (t.tagOpen tag base) := by
  unfold State.tagOpen
  extract_lets k held slot
  split <;> exact h

theorem tagClose {tag : Nat} : KeepsForm s (t.tagClose tag) := by
  unfold State.tagClose
  extract_lets k found taps inc ord _ d _ s1
  have hs1 : KeepsForm s s1 := .ite h.setEv h
  exact hs1.bump.emitDigest

theorem bracketSelect {cmd engine cls tag tile : Nat} {dup : Bool} : KeepsForm s (t.bracketSelect cmd engine cls tag tile dup) := by
  unfold State.bracketSelect
  split
  · exact h
  · extract_lets _ s1
    have hs1 : KeepsForm s s1 := h.setEv
    split
    · split
      · exact hs1.bumpSat.ceSend
      · exact hs1.setEv.bump.ceSend.ceSend
    · exact hs1.ceSend

theorem freeSlotB {i : Nat} : KeepsForm s (t.freeSlotB i) := h

theorem bracketCompare {i : Nat} {b : BracketSlot} : KeepsForm s (t.bracketCompare i b) := by
  unfold State.bracketCompare
  extract_lets o d s1 _ s2 _ s3
  have hs2 : KeepsForm s s2 := h.freeSlotB.bump.setEv
  exact .ite hs2 hs2.setEv.bumpSat.raiseAlarm.countMismatch

theorem bktOpen {slot side base : Nat} : KeepsForm s (t.bktOpen slot side base) := by
  unfold State.bktOpen
  split
  · exact h
  · exact h.setEv

theorem bktClose {slot side engine : Nat} : KeepsForm s (t.bktClose slot side engine) := by
  unfold State.bktClose
  split
  · exact h
  · exact .ite h.bracketCompare h.setEv

theorem dupDecline {slot : Nat} : KeepsForm s (t.dupDecline slot) := .ite h.freeSlotB.bumpSat h

theorem bracketTimeout {e : Nat × BracketSlot} : KeepsForm s (t.bracketTimeout e) := h.freeSlotB.bumpSat.raiseO

theorem shardOpen {slot dir id : Nat} : KeepsForm s (t.shardOpen slot dir id) := h

theorem shardRange {slot length base : Nat} : KeepsForm s (t.shardRange slot length base) := by
  unfold State.shardRange
  extract_lets st q sh
  split <;> exact h

theorem shardClose {slot : Nat} {done : Bool} : KeepsForm s (t.shardClose slot done) := by
  unfold State.shardClose
  split
  · exact h.setEv.bumpSat.emitDigest
  · have hcounted {n : Nat} : KeepsForm s { t.bumpSat Dict.shardDigests with free := n } := h
    exact hcounted.emitDigest

/-! ### Lines at the loupes (10 R205 to R211) -/

theorem lineToTag {k : Nat} {l : TapLine} : KeepsForm s (t.lineToTag k l) := by
  unfold State.lineToTag
  split
  · exact h.setEv
  · exact h.bump

theorem lineToBracket {k : Nat} {l : TapLine} : KeepsForm s (t.lineToBracket k l) := by
  unfold State.lineToBracket
  split
  · exact h
  · exact h.setEv

theorem lineToShard {k : Nat} {l : TapLine} : KeepsForm s (t.lineToShard k l) := by
  unfold State.lineToShard
  split
  · exact h
  · exact .ite h (.ite h.setEv (.ite h.setEv h.setEv.drawn))

theorem overtakeCheck {k : Nat} {l : TapLine} : KeepsForm s (t.overtakeCheck k l) := h.setEv.bump

theorem spoilLine {l : TapLine} : KeepsForm s (t.spoilLine l) := h

theorem lineEnters {k : Nat} {l : TapLine} : KeepsForm s (t.lineEnters k l) := by
  unfold State.lineEnters
  refine .ite h.spoilLine (.ite h.lineToShard (.ite h ?_))
  extract_lets s1
  have hs1 : KeepsForm s s1 := .ite (.ite h.lineToBracket h.lineToTag.lineToBracket) h.lineToTag
  exact hs1.overtakeCheck

theorem countLine {k : Nat} {write : Bool} : KeepsForm s (t.countLine k write) := h

theorem resetLoupe {k : Nat} : KeepsForm s (t.resetLoupe k) := h

/-! ### Overlays (10 R212 to R216) -/

theorem serveOverlayArm {rq : Requester} : KeepsForm s (State.serveOverlayArm rq t) := h.serveCmd fun hu => hu.setEv.wr

theorem serveOverlayDisarm {rq : Requester} : KeepsForm s (State.serveOverlayDisarm rq t) := h.serveCmd fun hu => hu.setEv.wr

theorem sendNotice {suspect : Nat} : KeepsForm s (t.sendNotice suspect) := by
  unfold State.sendNotice
  split
  · exact h
  · exact h.drawn.enqueue

theorem overlayOutcome {i cause : Nat} {sus spa : Option DigestRec} : KeepsForm s (t.overlayOutcome i cause sus spa) := by
  unfold State.overlayOutcome
  refine .ite h.bump ?_
  extract_lets tag ord pr s1 s2
  have hs1 : KeepsForm s s1 := .ite h.bumpSat h.bumpSat
  exact .ite hs1.raiseAlarm.sendNotice hs1.raiseAlarm

theorem setUnmatched {k : Nat} {l : List (DigestRec × Nat)} : KeepsForm s (t.setUnmatched k l) := h

theorem overlayTimeout {i : Nat} {spare : Bool} {d : DigestRec} : KeepsForm s (t.overlayTimeout i spare d) := h.overlayOutcome

theorem overlayMatch {i : Nat} {spare : Bool} {d : DigestRec} : KeepsForm s (t.overlayMatch i spare d) := by
  unfold State.overlayMatch
  extract_lets mine other l
  clear_value l
  split
  · exact h.setUnmatched.overlayOutcome
  · split
    · split
      · exact h.setUnmatched.overlayTimeout
      · exact h
    · exact h.setUnmatched

theorem digestArrives {q : Nat} {d : DigestRec} : KeepsForm s (t.digestArrives q d) := by
  unfold State.digestArrives
  extract_lets up s1
  have hup {u : State} (hu : KeepsForm s u) : KeepsForm s (up u) := hu.enqueueUp
  have hs1 : KeepsForm s s1 := h.journalEntry
  split
  · split
    · exact hs1
    · split
      · exact hs1.overlayMatch
      · exact .ite hs1.bumpSat (hup hs1)
  · exact .ite (.ite h.push (hup h)) h

theorem overlayExpire {k : Nat} : KeepsForm s (t.overlayExpire k) := h.setUnmatched.foldl fun _ hu => hu.overlayTimeout

/-! ### The bound and the tests (10 R221 to R225, R229 to R231) -/

theorem boundPeriod : KeepsForm s t.boundPeriod := by
  unfold State.boundPeriod
  extract_lets b enc s0 s1 fb
  have hs0 : KeepsForm s s0 := h.wr
  have hs1 : KeepsForm s s1 := .ite hs0 hs0.drawn
  exact .ite hs1 (.ite hs1.wr (.ite hs1 hs1.setEv.raiseAlarm))

theorem boundTick : KeepsForm s t.boundTick := h

theorem serveBoundReset {rq : Requester} : KeepsForm s (State.serveBoundReset rq t) := h.serveCmd fun hu => hu.setEv.wr

theorem serveBoundEnforce {rq : Requester} {v : Nat} : KeepsForm s (State.serveBoundEnforce rq v t) :=
  h.serveWrite fun hu => (ite (ite hu hu.drawn).wr.setEv.wr (ite hu hu.drawn).wr).answerWrite

theorem setTest {i : Nat} {e : TestEntry} : KeepsForm s (t.setTest i e) := h

theorem freeTest {i : Nat} : KeepsForm s (t.freeTest i) := h

theorem issueTest {e : Nat × TestEntry} : KeepsForm s (t.issueTest e) := h

theorem testBoundary : KeepsForm s t.testBoundary := h.foldl fun _ hu => hu.issueTest

theorem serveTestRequest {rq : Requester} {v : Nat} : KeepsForm s (State.serveTestRequest rq v t) := by
  refine h.serveCmd fun hu => ?_
  split
  · exact hu
  · exact .ite hu.setTest.issueTest hu.setTest

theorem serveTestCancel {rq : Requester} {e : Nat} : KeepsForm s (State.serveTestCancel rq e t) := by
  refine h.serveCmd fun hu => ?_
  split_ifs
  all_goals exact hu

theorem testOverdue {e : Nat × TestEntry} : KeepsForm s (t.testOverdue e) := h.setTest.bumpSat.raiseAlarm

theorem testDone {engine test result : Nat} : KeepsForm s (t.testDone engine test result) := by
  unfold State.testDone
  split
  · exact h
  · exact .ite h.freeTest.bumpSat.raiseO h.freeTest.bumpSat.raiseAlarm.countMismatch

end

end Sys2Proof.Machine.KeepsForm
end

section
/-! The stacks' form: the verdict stage and the reduction keep it (chapters 07 and 08). -/

namespace Sys2Proof.Machine

open Sys2Proof

-- one theorem after the other: each theorem that waits for the kernel would hold a thread
set_option Elab.async false

namespace KeepsForm

section
variable {s t : State} (h : KeepsForm s t)
include h

/-! ### Windows, loops and cells (08 R158 to R167) -/

theorem setVer {v : VerdictStage} : KeepsForm s (t.setVer v) := h

theorem shiftWindow {mine : Bool} : KeepsForm s (t.shiftWindow mine) := h.setVer.bumpSat.wr

theorem restartWindow : KeepsForm s t.restartWindow := h.setVer.wr.wr

theorem takeLateness {l : Option Nat} : KeepsForm s (t.takeLateness l) := by
  cases l with
  | none => exact h.setVer
  | some v => exact h.setVer.wr

theorem setTheta {m : Nat} {x : Int} : KeepsForm s (t.setTheta m x) := h.setVer.wr

theorem loopStep {m : Nat} {v : Option Nat} {frozen : Bool} : KeepsForm s (t.loopStep m v frozen).2 := by
  cases v with
  | none => exact h
  | some x =>
    unfold State.loopStep
    dsimp only
    have hs2 {c : Prop} [Decidable c] :
        KeepsForm s (if c then (t.bump Dict.loopValues m).bumpSat Dict.loopFlags m else t.bump Dict.loopValues m) :=
      .ite h.bump.bumpSat h.bump
    exact .ite hs2 (.ite hs2.setTheta.drawn hs2.setTheta)

theorem visitCell {c : Nat} {flagged : Bool} : KeepsForm s (t.visitCell c flagged) := h.setVer

theorem binMismatches {frame : Nat} {cell : Option Nat} : KeepsForm s (t.binMismatches frame cell) := by
  unfold State.binMismatches
  extract_lets due mine _ s1 s2
  have hs1 : KeepsForm s s1 := h.setVer
  have hs2 : KeepsForm s s2 := .ite hs1 hs1.binMismatch
  exact .ite hs2 hs2.binMismatch

theorem verdictPulse : KeepsForm s t.verdictPulse := by
  have hfold {m : VerdictStage} {l : List Nat} {f : State → Nat → Int} :
      KeepsForm s (l.foldl (fun u k => u.setTheta k (f u k)) (t.setVer m)) := h.setVer.foldl fun _ hu => hu.setTheta
  exact .ite hfold.wr hfold

theorem restartBaselines {features : Nat} : KeepsForm s (t.restartBaselines features) := h

/-! ### The verdict (08 R168, R169) -/

theorem verdictRecord {alarm : Bool} {payload : Nat} : KeepsForm s (t.verdictRecord alarm payload) := .ite h.raiseAlarm h.raiseO

theorem formVerdict {w : VerdictWait} : KeepsForm s (t.formVerdict w) := by
  unfold State.formVerdict
  extract_lets stateSent s0 old frozen score d dv arg _ s1 l0 sv l1 flagged cell s2 s3 s4 flags recent _ s5 cause mv _ s6 hot s7 s8
  have hs0 : KeepsForm s s0 := .ite h.ownEntry h
  have hs1 : KeepsForm s s1 := hs0.setVer.wr.wr
  have hl1 : KeepsForm s l1.2 := hs1.loopStep.loopStep
  have hs2 : KeepsForm s s2 := .ite hl1 hl1.drawn
  have hs3 : KeepsForm s s3 := by
    unfold s3
    generalize cell = c
    cases c with
    | none => exact hs2.bumpSat
    | some c => exact hs2.visitCell
  have hs5 : KeepsForm s s5 := hs3.binMismatches.setVer.wr
  have hs6 : KeepsForm s s6 := hs5.setVer.wr
  have hs7 : KeepsForm s s7 := .ite hs6 hs6.verdictRecord
  exact hs7.ownEntry.setVer

theorem baselineReset : KeepsForm s t.baselineReset := h.setVer.setTheta

theorem serveBaselineReset {rq : Requester} : KeepsForm s (State.serveBaselineReset rq t) := h.serveCmd fun hu => hu.baselineReset

/-! ### Reduction (07 R130 to R154) -/

theorem setRed {r : Reduction} : KeepsForm s (t.setRed r) := h

theorem applyProgram : KeepsForm s t.applyProgram.1 := by
  cases hlate : t.tooLate (t.rd Dict.applyFrame) with
  | true =>
    rw [State.applyProgram_late hlate]
    exact h
  | false =>
    rw [State.applyProgram_inTime hlate]
    exact h

theorem serveProgramApply {rq : Requester} : KeepsForm s (State.serveProgramApply rq t) := h.serveCmd fun hu => hu.applyProgram

theorem journalPrograms {frame : Nat} : KeepsForm s (t.journalPrograms frame) := h.setRed.foldl fun _ hu => hu.journalEntry.journalEntry

theorem syncPending : KeepsForm s t.syncPending := h.wr

theorem setMachine {f : RedFrame} : KeepsForm s (t.setMachine f) := h

theorem journalMerge {f : RedFrame} : KeepsForm s (t.journalMerge f) := by
  unfold State.journalMerge
  extract_lets p recs s1
  have hs1 : KeepsForm s s1 := h.foldl fun _ hu => hu.journalEntry
  exact hs1.foldl fun _ hu => hu.journalEntry

theorem enterMerging {f : RedFrame} : KeepsForm s (t.enterMerging f) := by
  unfold State.enterMerging
  extract_lets q lagged r done v n s1 s2
  have hs2 : KeepsForm s s2 := h
  exact hs2.setRed.journalMerge.enterSlots

theorem checkFrame {frame : Nat} : KeepsForm s (t.checkFrame frame) := by
  unfold State.checkFrame
  split
  · exact h
  · exact .ite h.enterMerging h

theorem closeMissing {f : RedFrame} : KeepsForm s (t.closeMissing f) := h.enterMerging

theorem forceOne {f : RedFrame} : KeepsForm s (t.forceOne f) := h.closeMissing.bumpSat.raise

theorem forceOld {frame : Nat} : KeepsForm s (t.forceOld frame) := h.foldl fun _ hu => hu.forceOne

theorem startOldest {frame : Nat} : KeepsForm s (t.startOldest frame) := by
  unfold State.startOldest
  extract_lets one
  have hone {u : State} {hist : Bool} (hu : KeepsForm s u) : KeepsForm s (one u hist) := by
    cases hist
    · exact .ite hu.setRing.wr hu
    · exact .ite hu.setRing.wr hu
  exact .ite (hone (hone h)) h

theorem openFrame {frame : Nat} {due : Option Nat} : KeepsForm s (t.openFrame frame due) := by
  unfold State.openFrame
  exact .ite h h.forceOld.startOldest.setRed.checkFrame.syncPending

theorem lateRecord {g : Nat} : KeepsForm s (t.lateRecord g) := h.bumpSat.bumpSat

theorem gapOne {g : Nat} {f : RedFrame} : KeepsForm s (State.gapOne g t f) := h.setMachine.bumpSat.checkFrame

theorem storeRecord {g : Nat} {f : RedFrame} {r : RedRec} : KeepsForm s (t.storeRecord g f r) :=
  .ite (.ite h h.setMachine.checkFrame) (.ite h h.bumpSat)

theorem hearRecord {g frame : Nat} : KeepsForm s (t.hearRecord g frame) := h

theorem takeRecord {g : Nat} {r : RedRec} : KeepsForm s (t.takeRecord g r) := by
  unfold State.takeRecord
  extract_lets s1 s2 s3
  have hs1 : KeepsForm s s1 := h.hearRecord.wr
  have hs2 : KeepsForm s s2 := hs1.foldl fun _ hu => hu.gapOne
  have hs3 : KeepsForm s s3 := .ite hs2.openFrame hs2
  refine .ite hs1.lateRecord ?_
  split
  · exact hs3
  · exact .ite hs3.lateRecord hs3.storeRecord

theorem deadlineOne {f : RedFrame} : KeepsForm s (t.deadlineOne f) := h.closeMissing.bumpSat

theorem issueSheet {f : RedFrame} {b : Bytes} : KeepsForm s (t.issueSheet f b) := by
  unfold State.issueSheet
  extract_lets _ s1 segs need _ _ n sc owed
  have hs1 : KeepsForm s s1 := h.setRed
  clear_value s1
  split
  · exact hs1
  · split
    · exact hs1.of_same rfl rfl
    · exact hs1.of_same rfl rfl

theorem sendCentres {frame g : Nat} {b : Bytes} : KeepsForm s (t.sendCentres frame b g) := .ite h h.enqueue

theorem centresLeave {frame : Nat} {c : Bytes × List Nat × Bool} : KeepsForm s (t.centresLeave frame c) := by
  unfold State.centresLeave
  extract_lets s1
  have hs1 : KeepsForm s s1 := h.foldl fun _ hu => hu.sendCentres
  exact .ite hs1.enqueueUp hs1

theorem sendFrame {f : RedFrame} {r : RedRec} : KeepsForm s (t.sendFrame f r) := by
  unfold State.sendFrame
  extract_lets bytes up quiet s1 s2 s3
  have hs1 : KeepsForm s s1 := h.foldl fun _ hu => hu.centresLeave
  have hs2 : KeepsForm s s2 := .ite hs1 (.ite hs1.wrBytes.enqueueUp hs1.wrBytes.issueSheet)
  exact hs2.journalEntry.setRed.syncPending

end

end KeepsForm

end Sys2Proof.Machine
end

section
/-! The stacks' form: barriers, trees, acknowledgements and liveness keep it (chapters 08 and 09). -/

namespace Sys2Proof.Machine.KeepsForm

open Sys2Proof

-- one theorem after the other: each theorem that waits for the kernel would hold a thread
set_option Elab.async false

section
variable {s t : State} (h : KeepsForm s t)
include h

/-! ### Messages down and their hops (09 R182, R195, R196) -/

theorem setBar {b : Barriers} : KeepsForm s (t.setBar b) := h

theorem syncBar : KeepsForm s t.syncBar := .ite h h.wr.wr.wr

theorem sendClass1 {g prec : Nat} {kind : MsgKind} {b : Bytes} : KeepsForm s (t.sendClass1 g prec kind b) := h.enqueue

theorem sendDown {m : DownMsg} {g : Nat} : KeepsForm s (t.sendDown m g) := h.sendClass1

theorem hopAck {q typ job id seq : Nat} : KeepsForm s (t.hopAck q typ job id seq) := h.sendClass1

theorem hopAckOf {q : Nat} {m : DownMsg} : KeepsForm s (t.hopAckOf q m) := h.hopAck

theorem growTrees : KeepsForm s t.growTrees := .ite h h.setBar

theorem setUnion {u : AckUnion} : KeepsForm s (t.setUnion u) := h.setBar

theorem settle : KeepsForm s t.settle := h.setBar

theorem addForward {f : Forward} : KeepsForm s (t.addForward f) := h.setBar

theorem reissueFor {m : DownMsg} {g : Nat} : KeepsForm s (t.reissueFor m g) := by
  unfold State.reissueFor
  extract_lets resync target
  clear_value target
  split
  · exact h
  · exact .ite h h.sendDown.addForward

theorem nack {m : DownMsg} {g : Nat} : KeepsForm s (t.nack m g) := h.bumpSat.reissueFor

theorem sendPorts {m : DownMsg} {ports : List Nat} : KeepsForm s (t.sendPorts m ports) := by
  unfold State.sendPorts
  extract_lets mm up s1
  have hs1 : KeepsForm s s1 := (h.foldl fun _ hu => hu.sendDown).addForward
  exact (hs1.foldl fun _ hu => hu.nack).settle

theorem sendLeaves {m : DownMsg} {ports : List Nat} : KeepsForm s (t.sendLeaves m ports) := by
  refine h.foldl fun _ hu => ?_
  split
  · exact hu.sendPorts
  · exact hu

theorem fan {m : DownMsg} {buddy : Bool} : KeepsForm s (t.fan m buddy) := by
  unfold State.fan
  split
  · exact .ite h.growTrees.sendPorts.sendLeaves h.growTrees.sendPorts
  · exact h.growTrees.sendPorts

theorem giveUp {gone : Forward → List Nat} : KeepsForm s (t.giveUp gone) :=
  (h.setBar.foldl fun _ hu => .ite hu.reissueFor hu.nack).settle

theorem linkLost {g : Nat} : KeepsForm s (t.linkLost g) := h.giveUp

theorem nackTimeouts : KeepsForm s t.nackTimeouts := h.giveUp

theorem sendUnion {u : AckUnion} : KeepsForm s (t.sendUnion u) := h.enqueueUp.setUnion.settle

theorem flushUnions : KeepsForm s t.flushUnions := h.foldl fun _ hu => hu.sendUnion

theorem sendCovered : KeepsForm s t.sendCovered := .ite h (h.foldl fun _ hu => hu.sendUnion)

/-! ### Liveness (08 R175, R176) -/

theorem liveMove {g new : Nat} : KeepsForm s (t.liveMove g new) := by
  unfold State.liveMove
  extract_lets m silence stall s1 alarm payload s2
  have hs1 : KeepsForm s s1 := h
  have hs2 : KeepsForm s s2 := .ite hs1 hs1.drawn
  exact .ite hs2.raiseAlarm hs2.raiseO

end

theorem liveSettle {s t : State} (h : KeepsForm s t) {n g : Nat} : KeepsForm s (State.liveSettle n t g) := by
  induction n generalizing t with
  | zero => exact h
  | succ n ih =>
    rw [State.liveSettle]
    split
    · exact ih h.liveMove
    · exact h

section
variable {s t : State} (h : KeepsForm s t)
include h

theorem liveUnstall {job barrier : Nat} {dies : Option (List Nat)} : KeepsForm s (t.liveUnstall job barrier dies) :=
  .ite h (h.foldl fun _ hu => .ite hu.liveMove.liveSettle hu)

theorem livePulse {n : Nat} : KeepsForm s (t.livePulse n) := by
  refine .ite h (h.foldl fun {u} _ hu => .ite hu ?_)
  have hlive {l : Tbl LiveMachine} : KeepsForm s { u with live := l } := hu
  exact hlive.liveSettle

/-! ### Broadcast trees and messages acted on (09 R183, R188 to R196) -/

theorem freeTree {tree : Nat} : KeepsForm s (t.freeTree tree) := h.setBar

theorem noteBcast {m : DownMsg} {op : Nat} : KeepsForm s (t.noteBcast m op) := by
  unfold State.noteBcast
  extract_lets _ put
  have hput {x : Tree} : KeepsForm s (put x) := h.setBar
  split
  · exact hput
  · exact .ite hput h

theorem actDown {m : DownMsg} : KeepsForm s (t.actDown m) := by
  unfold State.actDown
  split
  · exact h.setBar.liveUnstall.fan.syncBar
  · exact (ite h.noteBcast.freeTree h.noteBcast).fan.syncBar
  · exact h

theorem actReissue {m : DownMsg} : KeepsForm s (t.actReissue m) := by
  unfold State.actReissue
  split
  · extract_lets new _ s1 s2
    have hs1 : KeepsForm s s1 := .ite h.setBar h
    have hs2 : KeepsForm s s2 := .ite hs1.freeTree hs1
    exact hs2.fan.syncBar
  · exact h.fan

theorem issueNow {m : DownMsg} : KeepsForm s (t.issueNow m) := by
  unfold State.issueNow
  dsimp only
  split
  · exact h.setBar.actDown
  · exact h.actDown

theorem issueFreed {tree : Nat} : KeepsForm s (t.issueFreed tree) := by
  unfold State.issueFreed
  extract_lets m
  exact h.setBar.actDown

theorem completeBcasts : KeepsForm s t.completeBcasts := .ite h (h.foldl fun _ hu => .ite hu.freeTree.issueFreed hu.setBar)

/-! ### Barriers and acknowledgements (09 R181, R193, R194, R200, R201) -/

theorem releaseBarrier {b : OpenBarrier} : KeepsForm s (t.releaseBarrier b) := by
  unfold State.releaseBarrier
  exact (ite h h.drawn).actDown

theorem sendBarrier {b : OpenBarrier} : KeepsForm s (t.sendBarrier b) := h.enqueueUp.setBar

theorem checkBarrier {b : OpenBarrier} : KeepsForm s (t.checkBarrier b) := .ite (.ite h.releaseBarrier h) (.ite h.sendBarrier h)

theorem checkBarriers : KeepsForm s t.checkBarriers := (h.foldl fun _ hu => hu.checkBarrier).syncBar

theorem coverAgain : KeepsForm s t.coverAgain := .ite h h.sendCovered.settle.checkBarriers

theorem takeArrival {job barrier time die : Nat} {dies : List Nat} : KeepsForm s (t.takeArrival job barrier time die dies) := by
  unfold State.takeArrival
  extract_lets mine keep s1
  have hs1 : KeepsForm s s1 := h.bumpSat
  exact .ite hs1 hs1.setBar.liveUnstall.checkBarrier.syncBar

theorem takeDown {q : Nat} {m : DownMsg} {act : State → State}
    (hact : ∀ {u : State}, KeepsForm s u → KeepsForm s (act u)) : KeepsForm s (t.takeDown q m act) := by
  unfold State.takeDown
  extract_lets s1 _ s2
  have hs1 : KeepsForm s s1 := h.hopAckOf
  have hs2 : KeepsForm s s2 := hs1.setBar
  exact .ite (.ite hs1.nack hs1) (.ite (.ite hs1.bumpSat (.ite hs2.setBar hs2.actReissue)) (.ite hs1.bumpSat (hact hs1)))

theorem noteRelease {m : DownMsg} : KeepsForm s (t.noteRelease m) := by
  unfold State.noteRelease
  split
  · exact h.setBar.liveUnstall
  · exact h

theorem holdOrAct {m : DownMsg} : KeepsForm s (State.holdOrAct m t) := .ite h.setBar.noteRelease h.actDown

theorem onLane {q : Nat} {f : State → State} (hf : ∀ {u : State}, KeepsForm s u → KeepsForm s (f u)) :
    KeepsForm s (t.onLane q f) := .ite (hf h.touch) h

theorem takeAck {job tree seq : Nat} {dies : List Nat} : KeepsForm s (t.takeAck job tree seq dies) := by
  unfold State.takeAck
  exact .ite h.setUnion.completeBcasts.settle.checkBarriers (.ite h.setUnion (.ite h.sendUnion h.setUnion))

end

end Sys2Proof.Machine.KeepsForm
end

section
/-! The stacks' form: counters and snapshots keep it (chapter 03). -/

namespace Sys2Proof.Machine.KeepsForm

open Sys2Proof

-- one theorem after the other: each theorem that waits for the kernel would hold a thread
set_option Elab.async false

section
variable {s t : State} (h : KeepsForm s t)
include h

/-! ### Counters and health inputs (03 R48 to R57) -/

theorem setCnt {c : Counters} : KeepsForm s (t.setCnt c) := h

theorem counterSat {engine : Option Nat} {offset : Nat} : KeepsForm s (t.counterSat engine offset) := h.raiseAlarm

theorem reportSat {l : List (Bool × Option Nat × Nat)} : KeepsForm s (t.reportSat l) := h.foldl fun _ hu => .ite hu.counterSat hu

theorem onRecords {cls engine off : Nat} {f : CmdRecord → CmdRecord × Bool} : KeepsForm s (t.onRecords cls engine off f) :=
  h.setCnt.reportSat

theorem countBegin {cmd engine cls arrival : Nat} : KeepsForm s (t.countBegin cmd engine cls arrival) := by
  unfold State.countBegin
  exact (ite h.bumpSat h).setCnt.onRecords

theorem countEnd {cmd engine cls arrival : Nat} : KeepsForm s (t.countEnd cmd engine cls arrival) := by
  unfold State.countEnd
  extract_lets s1
  have hs1 : KeepsForm s s1 := h.onRecords
  split
  · exact hs1.bumpSat
  · exact hs1.setCnt.onRecords

theorem countBytes {engine level dir count : Nat} : KeepsForm s (t.countBytes engine level dir count) := h

theorem countLink {link dir count : Nat} : KeepsForm s (t.countLink link dir count) := h

theorem serveCmdTableClear {rq : Requester} : KeepsForm s (State.serveCmdTableClear rq t) := h.serveCmd fun hu => hu.setCnt

theorem setHslot {i : Nat} {x : HealthSlot} : KeepsForm s (t.setHslot i x) := h

theorem strobe {i v : Nat} : KeepsForm s (t.strobe i v) := by
  unfold State.strobe
  extract_lets x
  split
  · exact h
  · split
    · exact h
    · exact h.setHslot.reportSat
    · exact .ite h.setHslot h

theorem crossStrobe {i v : Nat} : KeepsForm s (t.crossStrobe i v) := by
  unfold State.crossStrobe
  extract_lets x y _ set
  have hset {z : HealthCrossing} : KeepsForm s (set z) := h
  split
  · exact h
  · split
    · exact h
    · exact .ite hset hset
    · exact .ite hset h

theorem clearEvents : KeepsForm s t.clearEvents := h

theorem afterDie {frame : Nat} {captured : Bool} : KeepsForm s (t.afterDie frame captured) :=
  .ite h.setCnt.clearEvents.actionDone (.ite h.clearEvents h)

theorem serveClearEvents {rq : Requester} : KeepsForm s (State.serveClearEvents rq t) := h.serveLong fun hu => hu.setCnt

/-! ### Snapshots (03 R58 to R73) -/

theorem setKind {eng : Bool} {k : SnapKind} : KeepsForm s (t.setKind eng k) := by cases eng <;> exact h

theorem onHeaders {frame : Nat} {f : SnapHeader → SnapHeader} : KeepsForm s (t.onHeaders frame f) := h

theorem afterCapture {eng : Bool} : KeepsForm s (t.afterCapture eng) := by cases eng <;> exact h

theorem capture {eng : Bool} {x : SnapHeader} {due span : Nat} {held overwrite : Bool} :
    KeepsForm s (t.capture eng x due span held overwrite) := by
  unfold State.capture
  extract_lets k ns delay upd new k1 torn s1 s2 s3
  have hs1 : KeepsForm s s1 := h.setKind.onHeaders
  have hs2 : KeepsForm s s2 := by
    unfold s2
    generalize torn = f
    cases f with
    | none => exact hs1
    | some f => exact hs1.onHeaders
  have hs3 : KeepsForm s s3 := hs2.drawn.afterCapture
  exact .ite hs3 hs3.afterDie

theorem emptyFrame {x : SnapHeader} {span : Nat} : KeepsForm s (t.emptyFrame x span) :=
  h.onHeaders.setKind.bumpSat.drawn.afterDie

theorem noEngine {frame : Nat} : KeepsForm s (t.noEngine frame) := h.onHeaders.bumpSat

theorem abandon {eng : Bool} {due : Nat} : KeepsForm s (t.abandon eng due) := by
  unfold State.abandon
  extract_lets k
  split
  · exact h
  · exact .ite h.setKind.onHeaders.noEngine h.setKind.onHeaders.emptyFrame

theorem captureDue {eng : Bool} {x : SnapHeader} {due : Nat} : KeepsForm s (t.captureDue eng x due) := by
  unfold State.captureDue
  extract_lets s0 k span
  have hs0 : KeepsForm s s0 := h.abandon
  split
  · exact hs0.capture
  · split
    · exact hs0.setKind.onHeaders.bumpSat
    · exact .ite hs0.noEngine hs0.emptyFrame
    · exact hs0.capture.bumpSat

theorem capturePulse {n due : Nat} : KeepsForm s (t.capturePulse n due) := by
  unfold State.capturePulse
  extract_lets tick _ sc s0 stride isEng x s1 before s2 x1
  have hsc : KeepsForm s sc := .ite h.setCnt h
  have hs0 : KeepsForm s s0 := hsc
  have hs1 : KeepsForm s s1 := .ite hs0.drawn hs0
  exact .ite hs1.captureDue hs1.captureDue.captureDue

theorem takeHeld {eng : Bool} : KeepsForm s (t.takeHeld eng) := by
  unfold State.takeHeld
  extract_lets k
  split
  · exact h
  · exact .ite h h.setKind.capture

theorem drainOne {eng : Bool} : KeepsForm s (t.drainOne eng) := by
  unfold State.drainOne
  extract_lets k
  split
  · exact h
  · exact h.setKind

end

end Sys2Proof.Machine.KeepsForm
end

section
/-! The stacks' form: epochs that are issued, broadcasts, and the leaf's job keep it (chapters 02 and 09). -/

namespace Sys2Proof.Machine.KeepsForm

open Sys2Proof

-- one theorem after the other: each theorem that waits for the kernel would hold a thread
set_option Elab.async false

section
variable {s t : State} (h : KeepsForm s t)
include h

/-! ### What the ROOT issues (09 R185, R191, R192) -/

theorem issueEpoch : KeepsForm s t.issueEpoch := by
  unfold State.issueEpoch
  extract_lets n es old new sizes segs
  exact h.setBar.wr.syncBar

theorem serveEpochIssue {rq : Requester} : KeepsForm s (State.serveEpochIssue rq t) := h.serveCmd fun hu => hu.issueEpoch

theorem sendResync {g : Nat} : KeepsForm s (t.sendResync g) := by
  unfold State.sendResync
  exact .ite h (.ite h.sendLeaves (h.foldl fun _ hu => hu.sendPorts))

theorem issueBcast {op : Nat} : KeepsForm s (State.issueBcast op t).1 := by
  unfold State.issueBcast
  extract_lets tree job payload entry need _ ok
  have hok {x : Tree} {seq : Nat} : KeepsForm s (ok x seq).1 := by
    unfold ok
    dsimp only
    exact (ite h.setBar.setBar h.setBar.issueNow).completeBcasts.settle.checkBarriers.syncBar
  clear_value ok entry
  split
  · exact h.drawn
  · split
    · split_ifs
      · exact h
      · exact h
      · exact h
      · exact hok
    · split
      · exact hok
      · exact h

theorem serveBcastIssue {rq : Requester} : KeepsForm s (State.serveBcastIssue rq t) := by
  refine h.serveCmd fun hu => ?_
  extract_lets op
  split
  · exact hu.issueBcast
  · exact hu.drawn

theorem serveBcastOp {op : Nat} {rq : Requester} : KeepsForm s (State.serveBcastOp op rq t) := .ite h.serveBcastIssue h

/-! ### Slots that fire and releases (02 R41 to R45, 09 R189) -/

theorem fireSlot {c time : Nat} : KeepsForm s (t.fireSlot c time) := by
  unfold State.fireSlot
  extract_lets ch width s1 s2
  have hs1 : KeepsForm s s1 := .ite h h.emit
  have hs2 : KeepsForm s s2 := hs1.setChan.bump
  exact .ite hs2.wr hs2

theorem firedRelease : KeepsForm s t.firedRelease := by
  unfold State.firedRelease
  split
  · exact h.setChan.testBoundary
  · exact h

theorem armChannel {job barrier tRel : Nat} : KeepsForm s (t.armChannel job barrier tRel) := h.setChan.wr.wr.wr.wr

/-! ### The leaf's job (09 R183, R189 to R195) -/

theorem setLeaf {l : LeafJob} : KeepsForm s (t.setLeaf l) := h.setBar

theorem sendLeafAck {job tree seq : Nat} : KeepsForm s (t.sendLeafAck job tree seq) := h.enqueueUp

theorem ackBcast {job tree seq : Nat} : KeepsForm s (t.ackBcast job tree seq) := h.setLeaf.sendLeafAck

theorem deliver {kind tree seq job : Nat} {b : Bytes} : KeepsForm s (t.deliver kind tree seq job b) := h.setLeaf.mbSend

theorem delivered {kind : Nat} : KeepsForm s (t.delivered kind) := by
  unfold State.delivered
  split
  · exact h
  · exact .ite h.setLeaf h.setLeaf.ackBcast

theorem runStart {m : DownMsg} : KeepsForm s (t.runStart m) := h.setLeaf.wr.deliver

theorem takeStart {m : DownMsg} : KeepsForm s (t.takeStart m) := .ite h.runStart h.setLeaf.wr

theorem leafEvent {m : DownMsg} {op : Nat} {b : Bytes} : KeepsForm s (t.leafEvent m op b) := by
  unfold State.leafEvent
  extract_lets st onT
  exact .ite h.takeStart (.ite h.setLeaf (.ite h.deliver (.ite h.setLeaf.wr.deliver (.ite h.setLeaf h))))

theorem leafBcast {m : DownMsg} {op : Nat} {b : Bytes} : KeepsForm s (t.leafBcast m op b) := by
  unfold State.leafBcast
  split
  · exact .ite (.ite h.bumpSat.sendLeafAck h.bumpSat) h.setLeaf.leafEvent
  · exact h.setLeaf.leafEvent

theorem leafRelease {m : DownMsg} {tRel die : Nat} : KeepsForm s (t.leafRelease m tRel die) := by
  unfold State.leafRelease
  extract_lets l armMin now late short arrivals s1 s2 s3
  have hs1 : KeepsForm s s1 := h.setLeaf
  have hs3 : KeepsForm s s3 := hs1.wrBytes.shiftWindow.ceSend.armChannel
  exact .ite h (.ite h.bumpSat (.ite hs3 hs3.bumpSat.raise.fireSlot.firedRelease))

theorem leafAct {m : DownMsg} : KeepsForm s (t.leafAct m) := by
  unfold State.leafAct
  split
  · exact h.leafRelease
  · exact h.leafBcast
  · exact h

theorem leafTake {q : Nat} {m : DownMsg} : KeepsForm s (t.leafTake q m) := by
  unfold State.leafTake
  extract_lets s1
  have hs1 : KeepsForm s s1 := h.hopAckOf
  exact .ite hs1.setBar hs1.leafAct

theorem leafSegment {q : Nat} {m : DownMsg} {resync : Bool} : KeepsForm s (t.leafSegment q m resync) := by
  unfold State.leafSegment
  extract_lets s1
  have hs1 : KeepsForm s s1 := h.hopAckOf
  exact .ite hs1.bumpSat hs1.setBar

theorem teardownDone : KeepsForm s t.teardownDone := by
  unfold State.teardownDone
  split
  · exact h.wr.drawn
  · extract_lets s1 held _ s2
    have hs2 : KeepsForm s s2 := h.ackBcast.setLeaf.wr
    clear_value s2 held
    split
    · exact hs2.takeStart
    · exact hs2.testBoundary

theorem sendArrival {a : LeafArrival} : KeepsForm s (t.sendArrival a) := h.enqueueUp

theorem ceArrive {barrier arrival : Nat} : KeepsForm s (t.ceArrive barrier arrival) := by
  unfold State.ceArrive
  extract_lets l x late a
  exact h.setLeaf.takeLateness.sendArrival

theorem resendBarriers : KeepsForm s t.resendBarriers :=
  .ite (h.foldl fun _ hu => hu.sendArrival) (h.foldl fun _ hu => hu.sendBarrier)

/-- A segment is kept until it is applied. -/
theorem keepSegment {m : DownMsg} : KeepsForm s ((t.setBar { t.bar with segs := t.bar.segs ++ [m] }).syncBar) := h.setBar.syncBar

end

end Sys2Proof.Machine.KeepsForm
end

section
/-! The stacks' form: trace keeps it (chapter 11). -/

namespace Sys2Proof.Machine.KeepsForm

open Sys2Proof

-- one theorem after the other: each theorem that waits for the kernel would hold a thread
set_option Elab.async false

section
variable {s t : State} (h : KeepsForm s t)
include h

/-! ### The store and the units (11 R236 to R245) -/

theorem setTrc {n : Nat} {x : TraceSource} : KeepsForm s (t.setTrc n x) := h

theorem ringWrite {base size off : Nat} {b : Bytes} : KeepsForm s (t.ringWrite base size off b) := .ite h h.stackWrite.stackWrite

theorem countRing {base size off len : Nat} : KeepsForm s (t.countRing base size off len) := .ite h h.countStack.countStack

theorem storeAppend {b : Bytes} : KeepsForm s (t.storeAppend b) := by
  unfold State.storeAppend
  extract_lets size c pos s1
  have hs1 : KeepsForm s s1 := h.ringWrite
  exact hs1.of_same rfl rfl

theorem seekStore : KeepsForm s t.seekStore := h

theorem sendUnit {n : Nat} : KeepsForm s (t.sendUnit n) := by
  unfold State.sendUnit
  exact .ite h (.ite h.setTrc.offer h.setTrc.storeAppend)

theorem gatherLine {n lseq : Nat} {line : Bytes} : KeepsForm s (t.gatherLine n lseq line) := by
  unfold State.gatherLine
  exact .ite h.setTrc.sendUnit h.setTrc

theorem completeLine {n : Nat} : KeepsForm s (t.completeLine n) := by
  unfold State.completeLine
  extract_lets x l s1 _ s2
  have hs1 : KeepsForm s s1 := h.setTrc
  have hs2 : KeepsForm s s2 := hs1
  exact .ite h (.ite (.ite hs2.gatherLine hs2) hs1.bump.gatherLine)

end

theorem pushLine {s t : State} (h : KeepsForm s t) {k n : Nat} {starts : Bool} {b : Bytes} :
    KeepsForm s (State.pushLine k t n starts b) := by
  induction k generalizing t starts b with
  | zero => exact h
  | succ k ih =>
    cases b with
    | nil => exact h
    | cons b bs => exact ih (ite h.setTrc.completeLine h.setTrc)

section
variable {s t : State} (h : KeepsForm s t)
include h

theorem stallCore {n : Nat} : KeepsForm s (t.stallCore n) := .ite h h.setTrc.emit

theorem stallCheck {n : Nat} : KeepsForm s (t.stallCheck n) := by
  unfold State.stallCheck
  extract_lets x
  split
  · exact .ite h.stallCore h
  · exact .ite h.setTrc.bump.emit h

/-! ### Packets (11 R246 to R252) -/

theorem rawPacket {n : Nat} {full : Bool} {b : Bytes} : KeepsForm s (t.rawPacket n full b) := by
  unfold State.rawPacket
  exact .ite h.setTrc.bumpSat.bump h.pushLine.setTrc.stallCheck

theorem syncPacket {n : Nat} {full : Bool} {ns : Nat} : KeepsForm s (t.syncPacket n full ns) := by
  unfold State.syncPacket
  exact (ite h.drawn h).setTrc.rawPacket

theorem timePacket {n : Nat} {full : Bool} : KeepsForm s (t.timePacket n full) := .ite h.setTrc.rawPacket h

theorem packetLead {n : Nat} {full : Bool} {ns : Nat} : KeepsForm s (t.packetLead n full ns) :=
  .ite h.setTrc.rawPacket.syncPacket (.ite h.syncPacket h)

theorem leadNow {n : Nat} {full : Bool} : KeepsForm s (t.leadNow n full) := h.packetLead.timePacket

theorem flushAtoms {n : Nat} {full : Bool} : KeepsForm s (t.flushAtoms n full) :=
  .ite h (.ite h.leadNow h.leadNow.setTrc.rawPacket)

theorem branchPacket {n : Nat} {full : Bool} {b : Bytes} : KeepsForm s (t.branchPacket n full b) := h.flushAtoms.leadNow.rawPacket

theorem commandPacket {head ns : Nat} {b : Bytes} : KeepsForm s (t.commandPacket head ns b) := by
  unfold State.commandPacket
  exact h.packetLead.setTrc.rawPacket

theorem traceCommand {begins : Bool} {cmd engine cls tag arrival : Nat} :
    KeepsForm s (t.traceCommand begins cmd engine cls tag arrival) := .ite h (.ite h.commandPacket h.commandPacket)

theorem traceOff {n : Nat} {full : Bool} {cause index : Nat} : KeepsForm s (t.traceOff n full cause index) := by
  unfold State.traceOff
  exact h.branchPacket.setTrc.completeLine

theorem traceOn {n : Nat} {full : Bool} {cause index a : Nat} : KeepsForm s (t.traceOn n full cause index a) := by
  unfold State.traceOn
  exact h.branchPacket.setTrc

theorem powerPacket {n : Nat} {enter : Bool} {who st : Nat} : KeepsForm s (t.powerPacket n enter who st) :=
  h.branchPacket.completeLine

theorem tracePowerEnter {st : Nat} : KeepsForm s (t.tracePowerEnter st) := h.foldl fun _ hu => .ite hu.powerPacket hu

theorem tracePowerLeave {st : Nat} : KeepsForm s (t.tracePowerLeave st) := h.foldl fun _ hu => .ite hu.powerPacket.syncPacket hu

theorem keeperTraceOff : KeepsForm s t.keeperTraceOff := .ite h.traceOff h

/-! ### Instructions that retire (11 R238 to R241) -/

theorem indirect {n : Nat} {full : Bool} {target : Nat} : KeepsForm s (t.indirect n full target) := by
  unfold State.indirect
  exact h.flushAtoms.leadNow.rawPacket.setTrc

theorem setNextAddr {n : Nat} {a : Option Nat} : KeepsForm s (t.setNextAddr n a) := h.setTrc

theorem exception {n : Nat} {full : Bool} {ret handler : Nat} : KeepsForm s (t.exception n full ret handler) := by
  unfold State.exception
  exact h.setNextAddr.flushAtoms.leadNow.rawPacket.setTrc.indirect

theorem traceBranch {n : Nat} {full : Bool} {kind : Nat} {taken : Bool} {target : Nat} :
    KeepsForm s (t.traceBranch n full kind taken target) := by
  unfold State.traceBranch
  split
  · exact .ite h.setTrc.flushAtoms h.setTrc
  · exact h.indirect
  · exact h

theorem retire {n : Nat} {full : Bool} {a kind : Nat} {taken : Bool} {target : Nat} {next : Option Nat} :
    KeepsForm s (t.retire n full a kind taken target next) := by
  unfold State.retire
  extract_lets t0 t1 s1 act s2 s3
  have hs1 : KeepsForm s s1 := h.setTrc
  have hs2 : KeepsForm s s2 := .ite hs1.traceOn (.ite hs1.traceOff hs1)
  have hs3 : KeepsForm s s3 := (ite hs2.traceBranch hs2).setNextAddr
  clear_value s3
  split
  · exact hs3
  · exact .ite hs3.setTrc.traceOff hs3.setTrc

theorem retireGroup {k n : Nat} {full : Bool} {a kind : Nat} {taken : Bool} {target : Nat} :
    KeepsForm s (State.retireGroup k t n full a kind taken target) := by
  induction k generalizing t a with
  | zero => exact h
  | succ k ih =>
    cases k with
    | zero => exact h.retire
    | succ k => exact ih h.retire

theorem keeperRetires : KeepsForm s t.keeperRetires := .ite h.drawn.retire h

theorem keeperTraceOn : KeepsForm s t.keeperTraceOn := .ite h.syncPacket.setTrc.keeperRetires h

/-! ### Sources and the sink (11 R233 to R236) -/

theorem enableSource {n : Nat} : KeepsForm s (t.enableSource n) := by
  unfold State.enableSource
  extract_lets s0 s1 s2 _ s3
  have hs3 : KeepsForm s s3 := h.sendUnit.setTrc.syncPacket.setTrc
  exact .ite hs3.keeperRetires hs3

theorem disableSource {n : Nat} : KeepsForm s (t.disableSource n) := by
  unfold State.disableSource
  exact (ite h.traceOff h).completeLine.setTrc

theorem adoptSink : KeepsForm s t.adoptSink := by
  unfold State.adoptSink
  have hsink {x : Trace} : KeepsForm s { t with tr := x } := h
  exact .ite h (.ite h hsink.wr.wr)

theorem setTraceEnable {v : Nat} : KeepsForm s (t.setTraceEnable v) :=
  (h.foldl fun _ hu => .ite hu.enableSource (.ite hu.disableSource hu)).wr.adoptSink

/-! ### The command-event port (18 R370 to R372) -/

theorem ceProcess {m : CeMsg} {a : Nat} : KeepsForm s (t.ceProcess m a) := by
  cases m with
  | begin_ => exact h.countBegin.traceCommand.bracketSelect
  | end_ => exact h.countEnd.traceCommand
  | bytes => exact h.countBytes
  | linkBytes => exact h.countLink
  | arrive => exact h.ceArrive
  | tagOpen => exact h.tagOpen
  | tagClose => exact h.tagClose
  | bktOpen => exact h.bktOpen
  | bktClose => exact h.bktClose
  | dupDecline => exact h.dupDecline
  | shardOpen => exact h.shardOpen
  | shardRange => exact h.shardRange
  | shardClose => exact h.shardClose
  | ckptBoundary => exact h.testBoundary

theorem ceTransfer : KeepsForm s t.ceTransfer := h

theorem ceResume {n : Nat} : KeepsForm s (State.ceResume n t) := by
  induction n generalizing t with
  | zero => exact h
  | succ n ih =>
    rw [State.ceResume]
    split
    · exact h.ceTransfer
    · have hin {c : CePort} : KeepsForm s { t.ceTransfer with ce := c } := h.ceTransfer
      exact .ite h.ceTransfer (ih hin.ceProcess)

theorem ceServe : KeepsForm s t.ceServe := h.ceResume

end

end Sys2Proof.Machine.KeepsForm
end

section
/-! The stacks' form: the front stage, the journal's commands, job channels and the clock keep it (chapters 03, 04, 05, 12 and 20). -/

namespace Sys2Proof.Machine.KeepsForm

open Sys2Proof

-- one theorem after the other: each theorem that waits for the kernel would hold a thread
set_option Elab.async false

section
variable {s t : State} (h : KeepsForm s t)
include h

/-! ### The command-event port (18 R370) -/

omit t h in
theorem ceTake {dt : Nat} {m : CeMsg} : KeepsForm s (s.ceTake dt m) :=
  after fun {u} hu => by
    have hin {c : CePort} : KeepsForm s { u with ce := c } := hu
    exact .ite hu (.ite hin.touch.ceServe (.ite hin hin.wake))

theorem ceDrain {c : CePort} {o : Output} : KeepsForm s (State.ceServe (State.emit { t with ce := c } o)) := by
  have hout : KeepsForm s (State.emit { t with ce := c } o) := h
  exact hout.ceServe

/-! ### Descriptors and vectors (03 R72 to R93, 04 R76) -/

theorem setFs {f : FrontStage} : KeepsForm s (t.setFs f) := h

theorem descPulse : KeepsForm s t.descPulse := .ite h h.setFs.restartBaselines

theorem serveDescApply {rq : Requester} : KeepsForm s (State.serveDescApply rq t) := h.serveCmd fun hu => hu.setFs

theorem countDecim : KeepsForm s t.countDecim := h.of_same rfl rfl

theorem admitDie {frame : Nat} : KeepsForm s (t.admitDie frame).2 := by
  unfold State.admitDie
  split
  · exact h
  · dsimp only
    split_ifs
    · exact h.countDecim
    · exact h.police.countDecim
    · exact h.police

theorem sendDieVector {v : FVector} : KeepsForm s (t.sendDieVector v).2 := by
  unfold State.sendDieVector
  extract_lets frame r
  have hr : KeepsForm s r.2 := h.admitDie
  clear_value r
  split
  · exact hr.leafEntry
  · exact hr.enqueueUp

theorem engineDecision {frame : Nat} : KeepsForm s (t.engineDecision frame) := by
  unfold State.engineDecision
  extract_lets _ s1 b note
  have hs1 : KeepsForm s s1 := h
  have hnote {u : State} {dec : Bool} {colour : Nat} (hu : KeepsForm s u) : KeepsForm s (note u dec colour) := hu
  clear_value s1 b note
  refine .ite hs1 ?_
  split
  · exact hnote hs1
  · exact .ite (hnote hs1.countDecim) (.ite (hnote hs1.police.countDecim) (hnote hs1.police))

theorem sendEngines {frame : Nat} {all : List FVector} : KeepsForm s (t.sendEngines frame all) := by
  unfold State.sendEngines
  split
  · exact h
  · split
    · exact h
    · exact h.enqueueUp.of_same rfl rfl

theorem sendLeafRecord {r : RedRec} : KeepsForm s (t.sendLeafRecord r) := by
  unfold State.sendLeafRecord
  exact (ite h.wrBytes.drawn h.wrBytes).enqueueUp

theorem completeDie {x : Snapshot} {rest : List Snapshot} : KeepsForm s (t.completeDie x rest) := by
  unfold State.completeDie
  extract_lets r v frame kind skip s1 _ s2 s3 slots s4 s5 s6 w
  have hs1 : KeepsForm s s1 := h.foldl fun _ hu => hu.drawn
  clear_value s1
  have hs3 : KeepsForm s s3 := .ite hs1.setKind.bumpSat hs1.setKind
  have hs4 : KeepsForm s s4 := hs3.enterSlots
  have hs5 : KeepsForm s s5 := .ite hs4.sendLeafRecord hs4.journalEntry
  have hs6 : KeepsForm s s6.2 := by
    unfold s6
    split
    · exact hs5.sendDieVector
    · exact hs5
  exact hs6.setVer.setFs

theorem completeEngine {x : Snapshot} {rest : List Snapshot} {die : Nat} : KeepsForm s (t.completeEngine x rest die) := by
  unfold State.completeEngine
  extract_lets e v _ s1 s2 all last s3 _ s4
  have hs1 : KeepsForm s s1 := h.setFs.foldl fun _ hu => hu.drawn
  clear_value s1
  have hs2 : KeepsForm s s2 := hs1.enterSlots
  have hs3 : KeepsForm s s3 := .ite hs2.sendEngines hs2
  exact .ite hs3.setFs.setKind hs3.setFs

/-! ### What children bring (04 R86 to R88, 14 R309) -/

theorem keepTrayCentres {g : Nat} {c : CentreMsg} : KeepsForm s (t.keepTrayCentres g c) := .ite h h.setRed

theorem takeCentres {q : Nat} {c : CentreMsg} : KeepsForm s (t.takeCentres q c) := by
  unfold State.takeCentres
  exact .ite h.setFs (.ite (.ite h.keepTrayCentres h) (h.foldl fun _ hu => hu.sendCentres))

theorem takeDieVector {g : Nat} {v : FVector} : KeepsForm s (State.takeDieVector g t v) := by
  unfold State.takeDieVector
  extract_lets frame s1 shut _ s2
  have hs2 : KeepsForm s s2 := .ite h.journalEntry h.journalEntry.setRed
  exact hs2.enterSlots

theorem takeEngineVector {v : FVector} : KeepsForm s (t.takeEngineVector v) := h.journalEntry.enterSlots

/-! ### The journal's commands (20 R412 to R426) -/

theorem boolWritten {v : Nat} : KeepsForm s (t.boolWritten v).2 := by
  unfold State.boolWritten
  split_ifs
  · exact h
  · exact h.drawn

theorem serveJournalEnable {rq : Requester} {v : Nat} : KeepsForm s (State.serveJournalEnable rq v t) :=
  h.serveWrite fun {u} hu => by
    have hset : KeepsForm s ((u.boolWritten v).2.wr Dict.journalEnable (u.boolWritten v).1) := hu.boolWritten.wr
    extract_lets r s1 _ _ s2
    have hs2 : KeepsForm s s2 := .ite hset (hset.of_same rfl rfl)
    exact hs2.answerWrite

theorem exportRecord {v : Nat} : KeepsForm s (t.exportRecord v) := h.raiseO

theorem serveExportFreeze {rq : Requester} : KeepsForm s (State.serveExportFreeze rq t) :=
  h.serveCmd fun {u} hu => by
    extract_lets first last sent j hs _ r
    have hr : KeepsForm s r.1 := by
      unfold r
      split_ifs <;> exact hu
    clear_value r
    exact hr.exportRecord

theorem thaw : KeepsForm s t.thaw := h

theorem serveExportRelease {rq : Requester} : KeepsForm s (State.serveExportRelease rq t) :=
  h.serveCmd fun hu => hu.thaw.exportRecord

/-! ### Job channels (12 R256 to R267) -/

theorem setPrc {l : Tbl PrcJob} : KeepsForm s { t with prc := l } := h

theorem prcWild {c : Nat} {j : PrcJob} : KeepsForm s (t.prcWild c j) := by
  unfold State.prcWild
  extract_lets s1
  have hs1 : KeepsForm s s1 := h.opened
  exact hs1.wr.wr.wr.wr

theorem servePrcStart {rq : Requester} {c : Nat} : KeepsForm s (State.servePrcStart rq c t) :=
  h.serveCmd fun hu => by
    extract_lets st j s1
    split_ifs
    · exact hu
    · have hs1 : KeepsForm s s1 := hu.wr.wr.wr
      exact hs1.setPrc.wr

theorem servePrcResume {rq : Requester} {c : Nat} : KeepsForm s (State.servePrcResume rq c t) :=
  h.serveCmd fun hu => by
    split
    · exact hu.setPrc.wr
    · exact hu

end

theorem prcRun {s t : State} (h : KeepsForm s t) {n c : Nat} : KeepsForm s (State.prcRun n t c) := by
  induction n generalizing t with
  | zero => exact h
  | succ n ih =>
    rw [State.prcRun]
    split
    · exact h
    · extract_lets consumed produced
      refine .ite h.wr (.ite h.wr ?_)
      split
      · extract_lets s1 s2
        have hs1 : KeepsForm s s1 := h.wr.wr
        have hs2 : KeepsForm s s2 := hs1.opened
        exact hs2.raise
      · extract_lets s1 s2
        have hs2 : KeepsForm s s2 := h.countStack.stackWrite.setPrc
        exact .ite h.wr (ih hs2.wr.wr)

section
variable {s t : State} (h : KeepsForm s t)
include h

theorem servePrcAbort {rq : Requester} {c : Nat} : KeepsForm s (State.servePrcAbort rq c t) :=
  h.serveCmd fun hu => by
    extract_lets st
    split
    · exact hu
    · extract_lets s1
      have hs1 : KeepsForm s s1 := .ite hu.drawn.prcRun hu.prcWild
      clear_value s1
      split_ifs
      · exact hs1.wr
      · exact hs1
      · exact hu.wr
      · exact hu

/-! ### The settings in flash (19 R402) -/

theorem persistBegin : KeepsForm s t.persistBegin := h

theorem persist : KeepsForm s t.persist := by
  have hdue : KeepsForm s { t with kp := { t.kp with persistDue := true } } := h
  exact .ite h (.ite hdue h.persistBegin)

/-! ### The clock (05 R46 to R63) -/

theorem setPtp {q : Nat} {l : PtpLane} : KeepsForm s (t.setPtp q l) := h

theorem setTime {c : TimeBase} : KeepsForm s { t with time := c } := h

theorem sendPtp {q : Nat} {b : Bytes} : KeepsForm s (t.sendPtp q b) := h.txOn

theorem relayed {q gm utc : Nat} : KeepsForm s (t.relayed q gm utc) := .ite h.wr.wr h

theorem clockRecord {f : Bool} {ty : Nat} : KeepsForm s (t.clockRecord f ty) := h.raiseIslandNow

theorem setClock {v : Nat} : KeepsForm s (t.setClock v) := h.wr.setTime

theorem toFreerun : KeepsForm s t.toFreerun := .ite h.setClock h.setClock

theorem toHoldover : KeepsForm s t.toHoldover := h.setClock.clockRecord

theorem slaveChanged {before : Option Nat} : KeepsForm s (t.slaveChanged before) := by
  unfold State.slaveChanged
  extract_lets after s1
  have hs1 : KeepsForm s s1 := by
    unfold s1
    clear_value after
    split
    · exact .ite h h.setPtp
    · exact h
  clear_value s1 after
  refine .ite hs1 ?_
  split
  · exact .ite hs1 (.ite hs1.setClock hs1.toHoldover)
  · exact hs1.toHoldover
  · exact hs1

theorem storeOffset {ps : Int} : KeepsForm s (t.storeOffset ps) := .ite h.wr h.wr.drawn

theorem storePs {o : Ob} {ps : Int} {m : Nat} : KeepsForm s (t.storePs o ps m) :=
  .ite h.wr h.wr.drawn

theorem slew : KeepsForm s t.slew := h

theorem stepBy {off : Int} : KeepsForm s (t.stepBy off) := h.stepTime.bumpSat.raiseIslandNow

theorem servo {off : Int} : KeepsForm s (t.servo off) := by
  unfold State.servo
  extract_lets s1 _ s2
  have hs1 : KeepsForm s s1 := h.storeOffset
  have hs2 : KeepsForm s s2 := by
    unfold s2
    clear_value s1
    split
    · exact hs1.setClock
    · exact hs1.setClock
    · exact .ite hs1.setClock.clockRecord hs1
    · exact .ite (.ite hs1.setClock.clockRecord hs1.setTime) hs1.setTime
  exact .ite hs2.stepBy hs2.slew

theorem takeSync {q : Nat} {t2 t1 : Int} : KeepsForm s (t.takeSync q t2 t1) := by
  unfold State.takeSync
  extract_lets l _ s1
  have hs1 : KeepsForm s s1 := h.setTime.setPtp
  clear_value s1 l
  split
  · exact hs1
  · exact hs1.servo

theorem takeDelayResp {q seq : Nat} {receipt corr : Int} : KeepsForm s (t.takeDelayResp q seq receipt corr) := by
  unfold State.takeDelayResp
  extract_lets l
  split
  · exact .ite h h.setPtp
  · exact h

theorem settleGm : KeepsForm s t.settleGm := by
  unfold State.settleGm
  extract_lets best _ _ s1
  have hs1 : KeepsForm s s1 := .ite h h.setTime.setPtp
  clear_value s1 best
  split
  · exact hs1
  · exact hs1.wr

theorem takeMgmtPtp {m : MgmtPtp} : KeepsForm s (t.takeMgmtPtp m) := by
  cases m with
  | announce => exact h.setTime.settleGm
  | sync => exact .ite h (.ite h.setTime.setPtp.setPtp h.setTime.setPtp.takeSync)
  | followUp =>
    unfold State.takeMgmtPtp
    dsimp only
    split
    · exact .ite h h.setPtp.takeSync
    · exact h
  | delayResp => exact .ite h h.setTime.takeDelayResp

theorem tickLane {q : Nat} : KeepsForm s (t.tickLane q) := by
  unfold State.tickLane
  extract_lets dom l t1 s1 l1
  have hs1 : KeepsForm s s1 := .ite h.setPtp.sendPtp h
  exact .ite h (.ite hs1.setPtp.sendPtp (.ite hs1.setPtp.sendPtp hs1))

theorem tickMgmt : KeepsForm s t.tickMgmt := .ite h (.ite h h.setTime.setPtp.emit)

theorem tickLanes : KeepsForm s t.tickLanes := .ite h (h.setTime.foldl fun _ hu => hu.tickLane)

theorem tickPort : KeepsForm s t.tickPort := .ite h.settleGm.tickMgmt h

theorem timeOf80 {v : Nat} : KeepsForm s (t.timeOf80 v).2 := by
  unfold State.timeOf80
  split_ifs
  · exact h
  · exact h.drawn

theorem serveTimeNow {rq : Requester} {v : Nat} : KeepsForm s (State.serveTimeNow rq v t) :=
  h.serveWrite fun hu => (ite hu.timeOf80.stepTime hu).answerWrite

/-- A command's effect, where the state it answers with is better not written out. -/
theorem serveCmdOf {rq : Requester} {o : Ob} {m : Nat} {act : State → State × Nat}
    (hact : ∀ {u v : State} {n : Nat}, KeepsForm s u → act u = (v, n) → KeepsForm s v) :
    KeepsForm s (State.serveCmd rq o m act t) :=
  h.serveCmd fun hu => hact hu rfl

theorem serveShutterApply {rq : Requester} {c : Nat} : KeepsForm s (State.serveShutterApply rq c t) := by
  unfold State.serveShutterApply
  refine h.serveCmdOf fun {u v n} hu hact => ?_
  extract_lets a pr at hact
  have hpr : KeepsForm s pr.2 := by
    unfold pr
    split_ifs
    · exact hu
    · exact hu.drawn
  split_ifs at hact
  · cases hact
    exact hu
  · cases hact
    exact hpr.setChan

end

end Sys2Proof.Machine.KeepsForm
end

section
/-! The stacks' form: the negative, the keeper, power, lanes and routes keep it (chapters 13, 18 and 19). -/

namespace Sys2Proof.Machine.KeepsForm

open Sys2Proof

-- one theorem after the other: each theorem that waits for the kernel would hold a thread
set_option Elab.async false

section
variable {s t : State} (h : KeepsForm s t)
include h

/-! ### Parts of the state beside both -/

theorem setRt {x : Routes} : KeepsForm s { t with rt := x } := h

theorem setDap {x : Dap} : KeepsForm s { t with dap := x } := h

theorem setFree {n : Nat} : KeepsForm s { t with free := n } := h

theorem setRst {x : Resets} : KeepsForm s (t.setRst x) := h

theorem setKp {x : Keeper} : KeepsForm s (t.setKp x) := h

theorem setPw {x : Power} : KeepsForm s (t.setPw x) := h

theorem setNeg {x : Negative} : KeepsForm s (t.setNeg x) := h

theorem setLane {q : Nat} {l : Lane} : KeepsForm s (t.setLane q l) := h

/-! ### What a write brings about (16 R339) -/

theorem channelOn {c : Nat} : KeepsForm s (t.channelOn c) := h.setChan

theorem fillPolicers {g : Nat} {l : List Nat} : KeepsForm s (t.fillPolicers g l) := h.setGq

theorem afterWrite {idx sub m j old : Nat} : KeepsForm s (t.afterWrite idx sub m j old) :=
  .ite (.ite h.channelOn h) <| .ite (.ite h.setClock h) <| .ite h.syncQueue <| .ite h.setVer <| .ite h.adoptSink <| .ite h.seekStore <|
    .ite h.fillPolicers <| .ite h.fillPolicers h

theorem afterConfig {idx sub m : Nat} : KeepsForm s (t.afterConfig idx sub m) := .ite h.slotEvent (.ite h.setVer h)

/-! ### The negative (18 R355 to R362) -/

theorem serveNegTake {rq : Requester} : KeepsForm s (State.serveNegTake rq t) :=
  h.serveCmd fun hu => by
    split_ifs
    · exact hu.setNeg
    · exact hu

theorem zeroFix {k : Nat} : KeepsForm s (t.zeroFix k) := h.stackWrite

/-- A capture stands in the machine, and the bytes of its slot are open. -/
theorem captured {n : Negative} {lo hi seed : Nat} : KeepsForm s (State.drawn { t with neg := n, stack := t.stack.openUp lo hi seed }) :=
  KeepsForm.of_same (t := { t with stack := t.stack.openUp lo hi seed }) h.opened rfl rfl

theorem negPulse : KeepsForm s t.negPulse := by
  unfold State.negPulse
  extract_lets seq slot img s1
  have hs1 : KeepsForm s s1 := h.zeroFix
  clear_value img s1
  exact .ite h hs1.captured

theorem negAbandon : KeepsForm s t.negAbandon := by
  unfold State.negAbandon
  split
  · exact h
  · exact h.zeroFix.setNeg
  · exact h.zeroFix.setNeg

/-! ### The keeper (19 R398 to R407) -/

theorem serveKeeperImage {rq : Requester} {offset total : Nat} {data : Bytes} :
    KeepsForm s (State.serveKeeperImage rq offset total data t) := h.serveSegment (fun hu => hu) fun hu => hu.setKp

theorem keeperRest : KeepsForm s t.keeperRest := h.wr

theorem keeperStops {keys : List Nat} {cause : Nat} : KeepsForm s (t.keeperStops keys cause) := by
  unfold State.keeperStops
  extract_lets gone _ s1 _ s2 _ s3 pay
  have hs1 : KeepsForm s s1 := h.keeperTraceOff.negAbandon.setKp
  have hs2 : KeepsForm s s2 := hs1
  have hs3 : KeepsForm s s3 := hs2.setRst.wr
  exact .ite hs3.raiseAlarm hs3.raiseO

theorem keeperReset {cause : Nat} : KeepsForm s (t.keeperReset cause) := h.keeperStops.setKp

theorem keeperStarts : KeepsForm s t.keeperStarts := by
  unfold State.keeperStarts
  extract_lets _ s1 s2
  have hs1 : KeepsForm s s1 := h.setRst.keeperRest
  have hs2 : KeepsForm s s2 := .ite hs1.keeperTraceOn hs1
  exact .ite hs2.persistBegin hs2

theorem updateEnds {code : Nat} : KeepsForm s (t.updateEnds code) := h.setKp.actionDone

theorem updateFails {code : Nat} : KeepsForm s (t.updateFails code) := h.updateEnds.keeperRest

theorem updateTo {u : KeeperUpdate} {x : UpdatePhase} : KeepsForm s (t.updateTo u x) := h.setKp

theorem updateStart {live persist : Bool} : KeepsForm s (State.updateStart live persist t) := .ite h.actionDone h.setKp.wr

theorem serveKeeperUpdate {rq : Requester} {v : Nat} : KeepsForm s (State.serveKeeperUpdate rq v t) :=
  .ite (h.serveCmd fun hu => hu.drawn) (h.serveLong fun hu => hu.updateStart)

theorem updateSwap {u : KeeperUpdate} : KeepsForm s (t.updateSwap u) := .ite h.updateTo.keeperRest h.keeperStops.updateTo

theorem setSpareSlot {img : Bytes} : KeepsForm s (t.setSpareSlot img) := h

theorem updatedRecord {old new code : Nat} {u : KeeperUpdate} : KeepsForm s (t.updatedRecord old new code u) := h.raiseO

/-! ### Power (19 R386 to R394) -/

theorem enterPower {st : Nat} : KeepsForm s (t.enterPower st) := h.raiseO.tracePowerEnter.setPw

theorem powerEntered : KeepsForm s t.powerEntered := by
  unfold State.powerEntered
  split
  · exact h
  · refine .ite h ?_
    extract_lets _ s1
    have hs1 : KeepsForm s s1 := h.wr.setPw
    split
    · exact hs1.setPw
    · exact hs1

theorem wakeStep {n : Nat} : KeepsForm s (t.wakeStep n) := .ite h.setPw h

theorem crossMerge {e : Nat × HealthCrossing} : KeepsForm s (t.crossMerge e) := by
  unfold State.crossMerge
  exact .ite h.setHslot.reportSat (.ite h h.setHslot)

theorem writeHeld {r : HeldRecord} : KeepsForm s (t.writeHeld r) := by
  unfold State.writeHeld
  exact (ite h.bump h).raiseAt

theorem woken {w : WakeSource} {frm : Nat} {steps : List Nat} : KeepsForm s (t.woken w frm steps) := by
  unfold State.woken
  extract_lets held cross _ _ s1 s2 bits s3
  have hs1 : KeepsForm s s1 := h.setTime.wr.setPw
  have hs2 : KeepsForm s s2 := hs1.foldl fun _ hu => hu.writeHeld
  have hs3 : KeepsForm s s3 := hs2.wrBytes.bumpSat.raiseO
  exact (hs3.foldl fun _ hu => hu.crossMerge).tracePowerLeave.touch

/-! ### Traffic that moves (13 R287 to R292) -/

theorem sendRoutes {g ff kind leg : Nat} {dies : List Nat} : KeepsForm s (t.sendRoutes g ff kind leg dies) :=
  h.foldl fun _ hu => hu.sendRoute

theorem sendJoin : KeepsForm s t.sendJoin := by
  unfold State.sendJoin
  split
  · exact .ite h.sendRoutes h
  · exact h

theorem putBack {g : Nat} : KeepsForm s (t.putBack g) := h.setGq.setLink.fitAlarms

theorem moveTraffic {g k : Nat} : KeepsForm s (t.moveTraffic g k) := by
  unfold State.moveTraffic
  extract_lets q fs s1
  have hs1 : KeepsForm s s1 := h.setGq.refresh
  exact (hs1.foldl fun _ hu => hu.redirect).resendBarriers

theorem settleMoved : KeepsForm s t.settleMoved :=
  h.foldl fun _ hu => by
    split
    · split
      · exact hu.moveTraffic
      · exact hu
    · exact hu

theorem decideMove {buddy : Bool} {code : Nat} : KeepsForm s (t.decideMove buddy code) := by
  unfold State.decideMove
  split
  · exact h
  · extract_lets before old ff home _ s1 s2
    have hs2 : KeepsForm s s2 := h.setRt.wr.bumpSat.raiseIslandNow
    exact hs2.sendRoutes.settleMoved.slaveChanged

theorem decideTrigger {m : MoveTrigger} : KeepsForm s (t.decideTrigger m) := by
  unfold State.decideTrigger
  extract_lets cur
  split
  · exact .ite (.ite h.decideMove h) (.ite h.decideMove h)
  · exact .ite h.decideMove h
  · exact .ite h.decideMove h
  · exact .ite h.decideMove h

theorem trigger {m : MoveTrigger} : KeepsForm s (t.trigger m) := by
  unfold State.trigger
  exact .ite h (.ite h.setRt h.decideTrigger)

theorem routePulse {n : Nat} : KeepsForm s (t.routePulse n) := by
  unfold State.routePulse
  split
  · refine .ite ?_ h
    extract_lets planned s1 ts
    have hs1 : KeepsForm s s1 := .ite h.resendBarriers h
    exact hs1.setRt.foldl fun _ hu => hu.trigger
  · exact h

theorem losePendings {gone : DapPending → Bool} {reason : Nat} : KeepsForm s (t.losePendings gone reason) :=
  h.setDap.foldl fun _ hu => hu.answerLost

theorem sendParentLost : KeepsForm s t.sendParentLost := .ite h (h.foldl fun _ hu => hu.sendRoute)

theorem groupLost {g : Nat} : KeepsForm s (t.groupLost g) := by
  unfold State.groupLost
  extract_lets s1 q stays s2 s3 _
  have hs1 : KeepsForm s s1 := h.putBack.refresh.linkLost
  have hs2 : KeepsForm s s2 := hs1.setGq.refresh
  have hs3 : KeepsForm s s3 := hs1.losePendings
  clear_value s1 s2 s3
  refine .ite hs2.losePendings ?_
  split
  · exact hs3
  · extract_lets s4 s5
    have hs4 : KeepsForm s s4 := .ite hs3 hs3.setRt
    have hs5 : KeepsForm s s5 := .ite hs4.trigger hs4
    exact hs5.settleMoved.sendParentLost

theorem answerOwed {g : Nat} : KeepsForm s (t.answerOwed g) := h.setRst.foldl fun _ hu => hu.answerLost

theorem upwardReached {b : Bool} : KeepsForm s (t.upwardReached b) := by
  unfold State.upwardReached
  extract_lets first _ s2
  have hs2 : KeepsForm s s2 := .ite h h.setRt
  exact .ite hs2.sendJoin (.ite hs2.trigger (.ite hs2.decideMove (.ite hs2.sendJoin hs2)))

theorem groupReached {g : Nat} : KeepsForm s (t.groupReached g) := by
  unfold State.groupReached
  extract_lets s1
  have hs1 : KeepsForm s s1 := h.setLink.refresh.answerOwed
  clear_value s1
  refine releaseCredits (ite hs1.growTrees.sendResync ?_)
  split
  · exact hs1
  · exact hs1.upwardReached

/-! ### Lanes (13 R276 to R286) -/

theorem laneTo {q st step cause : Nat} : KeepsForm s (t.laneTo q st step cause) := h.wr.wr.setLane

theorem leaveUp {q cause st step : Nat} {alarm : Bool} : KeepsForm s (t.leaveUp q cause st step alarm) := by
  unfold State.leaveUp
  extract_lets before g s1 s2 _ s3
  have hs1 : KeepsForm s s1 := h.laneTo.bumpSat.wake
  have hs3 : KeepsForm s s3 := hs1.raiseIslandNow.setPtp
  exact (ite hs3.refresh hs3.groupLost).slaveChanged

theorem failGroup {g : Nat} : KeepsForm s (t.failGroup g) := h.foldl fun _ hu => hu.leaveUp

theorem laserOff {q : Nat} : KeepsForm s (t.laserOff q) := .ite h.wr h

theorem setLaneEnable {q v : Nat} : KeepsForm s (State.setLaneEnable q v t) := by
  unfold State.setLaneEnable
  extract_lets r s1
  have hr : KeepsForm s r.2 := h.boolWritten
  have hs1 : KeepsForm s s1 := hr.wr.persist
  exact .ite (ite hs1.leaveUp (.ite hs1 hs1.laneTo)).laserOff (.ite hs1.laneTo hs1)

theorem serveLaneEnable {rq : Requester} {q v : Nat} : KeepsForm s (State.serveLaneEnable rq q v t) :=
  h.serveWrite fun hu => hu.setLaneEnable.answerWrite

theorem calibrated {o : Ob} {n q : Nat} : KeepsForm s (t.calibrated o n q) := h.wr.drawn

theorem joinGroup {q : Nat} : KeepsForm s (t.joinGroup q) := by
  unfold State.joinGroup
  extract_lets u others _ s1 g0 g s2
  have hs1 : KeepsForm s s1 := h.setLane
  have hs2 : KeepsForm s s2 := hs1.foldl fun _ hu => hu.wr
  exact .ite h.wr (.ite hs2 hs2.setLink.setLink.setGq.setGq)

theorem trained {q : Nat} : KeepsForm s (t.trained q) := by
  unfold State.trained
  extract_lets before u g was s1 s2 s3 s4
  have hs1 : KeepsForm s s1 := h.joinGroup.laneTo.wake
  have hs2 : KeepsForm s s2 := hs1.calibrated.calibrated
  have hs4 : KeepsForm s s4 := hs2.setPtp.raiseIslandNow
  exact (ite hs4.refresh hs4.groupReached).slaveChanged

theorem trainFail {q : Nat} : KeepsForm s (t.trainFail q) := h.laneTo.bumpSat

theorem serveRetrain {rq : Requester} {q : Nat} : KeepsForm s (State.serveRetrain rq q t) := h.serveCmd fun hu => .ite hu.leaveUp hu

theorem stepFfe {q tap step : Nat} : KeepsForm s (t.stepFfe q tap step) := by
  unfold State.stepFfe
  exact (ite h h.wr).drawn

theorem takeTrain {q tap step st cause : Nat} : KeepsForm s (t.takeTrain q tap step st cause) :=
  .ite (.ite h.leaveUp (.ite h.leaveUp (.ite h.stepFfe h))) (.ite h.stepFfe h)

theorem sendTrain {q st : Nat} : KeepsForm s (t.sendTrain q st) := h.setLane.txOn.drawn

theorem sendIdent {q : Nat} : KeepsForm s (t.sendIdent q) := h.setLane.txOn

theorem trainOn {q : Nat} : KeepsForm s (t.trainOn q) := by
  unfold State.trainOn
  extract_lets v step _ s1 s2
  have hs1 : KeepsForm s s1 := h.wr.setLane.drawn
  have hs2 : KeepsForm s s2 := .ite hs1 hs1.sendTrain
  exact .ite hs2.sendIdent hs2

theorem adapt {q : Nat} : KeepsForm s (t.adapt q) := by
  unfold State.adapt
  extract_lets v s1 s2 _ s3 tap dfe cur
  have hs1 : KeepsForm s s1 := h.wr.wr.drawn
  have hs2 : KeepsForm s s2 := .ite hs1.wr hs1
  have hs3 : KeepsForm s s3 := hs2.setLane
  exact .ite (.ite hs2.sendTrain hs2) (.ite hs2 (.ite hs3.wr hs3.wr))

theorem takeAckSeq {g a : Nat} : KeepsForm s (t.takeAckSeq g a) := by
  unfold State.takeAckSeq
  extract_lets l
  clear_value l
  split
  · exact h
  · exact .ite h h.setLink.sendWaiting

theorem resend {g : Nat} : KeepsForm s (t.resend g) := by
  unfold State.resend
  extract_lets l s1 s2
  have hs1 : KeepsForm s s1 := h.setLink
  have hs2 : KeepsForm s s2 := hs1.foldl fun _ hu => hu.bumpSat.txOn
  exact .ite h (.ite hs2.failGroup hs2)

theorem acceptSeq {q seq n : Nat} {good : Bool} : KeepsForm s (t.acceptSeq q seq n good).2 := by
  unfold State.acceptSeq
  extract_lets g l s1 s2 held
  have hs2 : KeepsForm s s2 := .ite h h.bumpSat
  split_ifs
  · exact h.setLink.rxOn.sendCtl
  · exact hs2
  · exact hs2.setLink.sendCtl

theorem takeCredit {g c n : Nat} : KeepsForm s (t.takeCredit g c n) := h.setLink.sendCredit

/-! ### Routes and relays (13 R288 to R296, 14 R310) -/

theorem setRoute {die : Nat} {port : Option Nat} {ff : Nat} : KeepsForm s (t.setRoute die port ff) := h

theorem setRoutes {dies : List Nat} {port : Option Nat} {ff : Nat} : KeepsForm s (t.setRoutes dies port ff) := by
  unfold State.setRoutes
  extract_lets s1 s2
  have hs1 : KeepsForm s s1 := h.foldl fun _ hu => hu.setRoute
  have hs2 : KeepsForm s s2 := by
    unfold s2
    clear_value s1
    split
    · exact hs1.setMachine.drawn
    · exact hs1
  exact hs2.growTrees

theorem keepLegs : KeepsForm s t.keepLegs := h

theorem addLeg {l : AppliedLeg} : KeepsForm s (t.addLeg l) := h

theorem takeJoin {g ff : Nat} {dies : List Nat} : KeepsForm s (t.takeJoin g ff dies) := by
  unfold State.takeJoin
  extract_lets s1
  have hs1 : KeepsForm s s1 := h.setRoutes
  clear_value s1
  split
  · exact hs1.sendRoutes
  · exact hs1

theorem takeMove {g ff leg : Nat} {dies : List Nat} : KeepsForm s (t.takeMove g ff leg dies) := by
  unfold State.takeMove
  extract_lets s0 s1 _ _ _ _
  have hs0 : KeepsForm s s0 := h.keepLegs
  have hs1 : KeepsForm s s1 := hs0.setRoutes.addLeg
  clear_value s0 s1
  split
  · split
    · exact hs1.sendRoutes
    · exact hs1
  · exact hs0.setRoutes.foldl fun _ hu => hu.addLeg.sendRoutes
  · exact hs0.setRoutes.foldl fun _ hu => hu.addLeg

theorem discardRelay : KeepsForm s t.discardRelay := h.bumpSat

theorem forwardRelay {g : Option Nat} {orig : Nat} {r : RedRec} : KeepsForm s (t.forwardRelay g orig r) := by
  unfold State.forwardRelay
  split
  · exact h.discardRelay
  · exact .ite h.discardRelay (h.bumpSat.foldl fun _ hu => hu.enqueue)

theorem takeRelay {q orig : Nat} {r : RedRec} : KeepsForm s (t.takeRelay q orig r) := by
  unfold State.takeRelay
  split
  · exact h.discardRelay
  · split
    · exact h.forwardRelay
    · exact h.forwardRelay
    · exact .ite h.discardRelay h.takeRecord

theorem routeMove {v : Nat} : KeepsForm s (State.routeMove v t).1 := by
  unfold State.routeMove
  extract_lets b
  split_ifs
  · exact h.drawn
  · exact h
  · exact h.trigger
  · exact h
  · exact h.decideMove

theorem serveRouteMove {rq : Requester} {v : Nat} : KeepsForm s (State.serveRouteMove rq v t) := h.serveCmd fun hu => hu.routeMove

theorem setDieId {v : Nat} : KeepsForm s (State.setDieId v t) := by
  unfold State.setDieId
  exact (ite h.wr h.wr.drawn).sendJoin

theorem serveDieId {rq : Requester} {v : Nat} : KeepsForm s (State.serveDieId rq v t) :=
  h.serveWrite fun hu => (ite hu.setDieId hu).answerWrite

/-! ### Resets of an island (19 R396, R399) -/

theorem doneRecord {scope island cause boot : Nat} : KeepsForm s (t.doneRecord scope island cause boot) :=
  .ite h.raiseAlarm h.raiseO

theorem dropBuffers {g : Nat} : KeepsForm s (t.dropBuffers g) := h.setGq.setLink.refresh

theorem linkReset : KeepsForm s t.linkReset := by
  unfold State.linkReset
  extract_lets up gs gone lost s0 _ _ s1
  have hs0 : KeepsForm s s0 := h.foldl fun _ hu => hu.dropBuffers
  have hs1 : KeepsForm s s1 := hs0
  exact hs1.foldl fun _ hu => hu.leaveUp

theorem loupeIsland {k : Nat} : KeepsForm s (t.loupeIsland k) := h.resetLoupe.setRst

theorem resetActs {v : Nat} {b : Bytes} : KeepsForm s (State.resetActs v b t) := .ite (.ite h.linkReset h.loupeIsland) h.setRst

theorem serveReset {rq : Requester} {v : Nat} : KeepsForm s (State.serveReset rq v t) :=
  h.serveWrite fun hu => .ite hu.setCode.answerWrite.resetActs hu.setCode.answerWrite

end

/-! ### Lanes and their frames (13 R277 to R284) -/

section
variable {s : State} {dt q : Nat} {f : State → State} (hf : ∀ {u : State}, KeepsForm s u → KeepsForm s (f u))
include hf

theorem laneEvent {st : Nat} : KeepsForm s (s.laneEvent dt q st f) := after fun hu => .ite hu (hf hu)

theorem rxFrame {n : Nat} : KeepsForm s (s.rxFrame dt q n f) := after fun hu => .ite hu (hf hu.rxOn)

theorem routeFrame {seq chunks : Nat} : KeepsForm s (s.routeFrame dt q seq chunks f) :=
  laneEvent fun hu => .ite (hf hu.acceptSeq) hu.acceptSeq

omit hf in
theorem badFrame {seq n : Nat} : KeepsForm s (s.badFrame dt q seq n) := after fun hu => .ite hu (.ite hu.acceptSeq hu.bumpSat)

end

end Sys2Proof.Machine.KeepsForm
end

section
/-! The stacks' form: trace commands, requests, the mailbox and the frame keep it (chapters 02, 11, 15, 16 and 18). -/

namespace Sys2Proof.Machine.KeepsForm

open Sys2Proof

-- one theorem after the other: each theorem that waits for the kernel would hold a thread
set_option Elab.async false

section
variable {s t : State} (h : KeepsForm s t)
include h

/-! ### Trace commands (11 R238 to R253) -/

theorem serveTraceEnable {rq : Requester} {v : Nat} : KeepsForm s (State.serveTraceEnable rq v t) :=
  h.serveWrite fun hu => hu.setTraceEnable.answerWrite

theorem takeGroup {k pc last kind target ret : Nat} {full taken : Bool} :
    KeepsForm s (t.takeGroup k full pc last kind taken target ret) := by
  unfold State.takeGroup
  extract_lets n s1 drops step
  have hs1 : KeepsForm s s1 := .ite h.stallCore h
  exact .ite h (.ite (.ite hs1.exception hs1.setNextAddr) hs1.retireGroup)

theorem setTr {x : Trace} : KeepsForm s { t with tr := x } := h

theorem moveCursor {a : Nat} : KeepsForm s (t.moveCursor a) := h.setTr.wr

theorem readStore {rq : Requester} : KeepsForm s (t.readStore rq) := by
  unfold State.readStore
  extract_lets r
  split
  · exact h.answer
  · extract_lets bytes s0 s1 s2
    have hs0 : KeepsForm s s0 := h.countRing
    have hs1 : KeepsForm s s1 := (ite hs0.bumpSat hs0).moveCursor
    have hs2 : KeepsForm s s2 := .ite hs1.openRead hs1
    exact hs2.answer

/-! ### Reads (15 R320, R325) -/

theorem countExport {off n : Nat} : KeepsForm s (t.countExport off n) := by
  unfold State.countExport
  refine List.foldlRecOn (motive := fun x : State × Nat => KeepsForm s x.1) t.exportChunks _ h ?_
  rintro ⟨u, a⟩ hu c -
  exact .ite hu.countStack hu

theorem readBytes {src : DapSource} {r : DapReq} : KeepsForm s (t.readBytes src r) := by
  unfold State.readBytes
  extract_lets key cap session _ v data s1 s2 copies _ s3
  have hs1 : KeepsForm s s1 := h
  have hs2 : KeepsForm s s2 := .ite hs1.countExport hs1
  have hs3 : KeepsForm s s3 := .ite hs2.openRead (.ite hs2.setDap hs2)
  split
  · exact h.setDap.answer
  · exact hs3.answer

theorem readStoreLive {src : DapSource} {r : DapReq} : KeepsForm s (t.readStoreLive src r) := by
  unfold State.readStoreLive
  split
  · exact h.answer
  · exact h.countRing.answer

theorem serveReadReq {src : DapSource} {r : DapReq} : KeepsForm s (State.serveReadReq src r t) :=
  h.serveRead fun hu => .ite hu.readWindow <| .ite hu.readWindow <| .ite (.ite hu.readStore (.ite hu.readBytes hu.readStoreLive)) hu.readBytes

/-! ### What a written value becomes (15 R321, 16 R339) -/

theorem scalarValue {o : Ob} {r : DapReq} : KeepsForm s (t.scalarValue o r).2 := by
  unfold State.scalarValue
  dsimp only
  split_ifs
  · exact h
  · exact h.drawn

theorem valueFor {o : Ob} {m v : Nat} : KeepsForm s (t.valueFor o m v).2 := by
  unfold State.valueFor
  dsimp only
  split_ifs
  · exact h.drawn
  · exact h

theorem written {o : Ob} {m j old : Nat} : KeepsForm s (t.written o m j old) :=
  .ite h.afterWrite.afterConfig.persist h.afterWrite.afterConfig

theorem domainFor {o : Ob} {whole : Bytes} : KeepsForm s (t.domainFor o whole).2 := by
  unfold State.domainFor
  extract_lets n
  split
  · exact h
  · exact h.setFree

theorem writeDomain {o : Ob} {m j : Nat} {whole : Bytes} : KeepsForm s (t.writeDomain o m j whole) :=
  .ite h h.domainFor.keepOld.wrBytes.written

theorem openCommand {rq : Requester} {o : Ob} : KeepsForm s (State.openCommand rq o t) := h.serveCmd fun hu => hu.drawn

theorem abortWrite {key : Nat} : KeepsForm s (t.abortWrite key) := by
  unfold State.abortWrite
  refine .ite ?_ h
  extract_lets s1
  have hs1 : KeepsForm s s1 := h.dropWrite
  split
  · exact hs1.imageAborted
  · exact hs1

theorem serveAbortReq {src : DapSource} {r : DapReq} : KeepsForm s (State.serveAbortReq src r t) :=
  h.serveRead fun hu => hu.abortWrite.answer

/-! ### Requests that pass (15 R317 to R330) -/

theorem forward {src : DapSource} {r : DapReq} {g : Nat} : KeepsForm s (t.forward src r g) := by
  unfold State.forward
  extract_lets id due e
  have hoffer : KeepsForm s (t.offerRequest g ({ r with reqId := id } : DapReq).bytes).2 := h.offerRequest
  refine .ite h (.ite h.answerLost (.ite h.answer ?_))
  split
  next heq =>
    rw [heq] at hoffer
    exact hoffer.answer
  next heq =>
    rw [heq] at hoffer
    exact hoffer.setDap

theorem takeResponse {q : Nat} {r : DapResp} : KeepsForm s (t.takeResponse q r) := by
  unfold State.takeResponse
  extract_lets mine
  split
  · exact h.setDap.respond
  · exact .ite h.bumpSat h

theorem answerAction {a : CmdAction} {code : Nat} : KeepsForm s (t.answerAction a code) := by
  unfold State.answerAction
  split
  · exact h.answer
  · exact h

theorem icmpAnswer {addr msg : Bytes} {bad : Bool} : KeepsForm s (t.icmpAnswer addr bad msg) :=
  .ite h (.ite h.bumpSat (.ite h.touch h.touch.emit))

/-! ### The mailbox (18 R379 to R383) -/

theorem accepted : KeepsForm s t.accepted := h.emit

theorem h2bWord {v : Nat} : KeepsForm s (t.h2bWord v) := .ite h.emit.bumpSat.setIrq h.setMb.accepted

theorem teardownNamed {job : Nat} : KeepsForm s (t.teardownNamed job) := .ite h.teardownDone h.wr.drawn

theorem ringNext : KeepsForm s t.ringNext := by
  unfold State.ringNext
  split
  · exact h
  · exact .ite h h.setMb.setBell.responseLeft

theorem b2hAcked {word : Nat} : KeepsForm s (t.b2hAcked word) := by
  unfold State.b2hAcked
  extract_lets d ret b early _ s0 _ s1 s2
  have hs0 : KeepsForm s s0 := by
    unfold s0
    split
    · exact h.of_same rfl rfl
    · exact h
  have hs1 : KeepsForm s s1 := hs0.setMb.setBell
  have hs2 : KeepsForm s s2 := .ite hs1 hs1.raiseO
  exact .ite h.setFree.setBell (.ite hs2.delivered hs2)

theorem irqWrite {v : Nat} : KeepsForm s (t.irqWrite v) := h.setMb

theorem hostRead {offset : Nat} : KeepsForm s (t.hostRead offset) := by
  unfold State.hostRead
  exact (ite h.setMb h).emit

/-! ### The frame (02 R41, 03 R72, 08 R172) -/

theorem screenPulse {n : Nat} : KeepsForm s (t.screenPulse n) := .ite h (h.foldl fun _ hu => hu.screenDie)

theorem framePulse {n due : Nat} : KeepsForm s (t.framePulse n due) := by
  unfold State.framePulse
  exact .ite h (ite h h.setRed).openFrame

theorem ageFrames {n : Nat} : KeepsForm s (t.ageFrames n) := h

theorem latchObjects : KeepsForm s t.latchObjects := h

theorem coreFrame {n due : Nat} : KeepsForm s (t.coreFrame n due) := by
  unfold State.coreFrame
  extract_lets s1
  have hs1 : KeepsForm s s1 := h.latchObjects.descPulse.capturePulse.engineDecision.verdictPulse.reachFrame.journalPrograms
  exact hs1.routePulse.framePulse.coverAgain.livePulse.screenPulse.ageFrames.negPulse

theorem shutterFire {c : Nat} : KeepsForm s (t.shutterFire c) := by
  unfold State.shutterFire
  split
  · exact h
  · extract_lets s1 s2
    have hs1 : KeepsForm s s1 := h.fireSlot
    have hs2 : KeepsForm s s2 := hs1.wr
    exact .ite (.ite hs2.coreFrame hs2) (.ite hs1.firedRelease hs1)

end

theorem onPort {s : State} {dt : Nat} {i : Instr} {f : State → State}
    (hf : ∀ {u : State}, KeepsForm s u → KeepsForm s (f u)) : KeepsForm s (s.onPort dt i f) :=
  fromHost fun hu => .ite (hf hu.touch) hu

end Sys2Proof.Machine.KeepsForm
end

section
/-! Membership alone: what may carry a write of VERDICT_CLEAR, or resets the block, keeps membership (08 R178). -/

namespace Sys2Proof.Machine

open Sys2Proof

-- one theorem after the other: each theorem that waits for the kernel would hold a thread
set_option Elab.async false

namespace KeepsForm

section
variable {s t : State} (h : KeepsForm s t)
include h

/-! ### VERDICT_CLEAR (08 R168) -/

theorem verdictClear : KeepsForm s t.verdictClear := h.restartWindow.setVer.wr.wr.raiseO

theorem serveVerdictClear {rq : Requester} : KeepsForm s (State.serveVerdictClear rq t) := h.serveCmd fun hu => hu.verdictClear

/-! ### Writes of objects (15 R321, 16 R339) -/

theorem writeScalar {o : Ob} {m j : Nat} {r : DapReq} : KeepsForm s (t.writeScalar o m j r) :=
  .ite h h.scalarValue.valueFor.keepOld.wr.written

theorem writePlain {rq : Requester} {o : Ob} {m j : Nat} {r : DapReq} : KeepsForm s (t.writePlain rq o m j r) := by
  unfold State.writePlain
  extract_lets ok
  have hsegment : KeepsForm s (t.segment rq (o.key m j) r.offset r.total r.data).2 := h.segment
  refine .ite h.answer (.ite ?_ h.writeScalar.answer)
  split
  next heq =>
    rw [heq] at hsegment
    exact hsegment.answer
  next last whole u heq =>
    rw [heq] at hsegment
    have hu : KeepsForm s u := hsegment
    exact (ite hu.writeDomain hu).answer

end

section
variable {s t : State} (h : KeepsForm s t)
include h

/-- A write of OVERLAY_ARM, of REC_CLEAR or of EXPORT is the command that its value names. -/
theorem serveOverlayWrite {rq : Requester} {v : Nat} :
    KeepsForm s ((if v = 1 then State.serveOverlayArm rq else if v = 0 then State.serveOverlayDisarm rq
      else State.openCommand rq Dict.overlayArm) t) := by
  split_ifs
  · exact h.serveOverlayArm
  · exact h.serveOverlayDisarm
  · exact h.openCommand

theorem serveClearWrite {rq : Requester} {v : Nat} :
    KeepsForm s ((if v = 0 then State.serveClearF rq else if v = 1 then State.serveClearO rq
      else if v = 2 then State.serveClearBoth rq else State.openCommand rq Dict.recClear) t) := by
  split_ifs
  · exact h.serveClearF
  · exact h.serveClearO
  · exact h.serveClearBoth
  · exact h.openCommand

theorem serveExportWrite {rq : Requester} {v : Nat} :
    KeepsForm s ((if v = 1 then State.serveExportFreeze rq else if v = 0 then State.serveExportRelease rq
      else State.openCommand rq Dict.exportCmd) t) := by
  split_ifs
  · exact h.serveExportFreeze
  · exact h.serveExportRelease
  · exact h.openCommand

end

/-- A write of an object with a command of its own keeps membership. -/
def OwnWriteKeeps (e : Ob × (Requester → Nat → DapReq → State → State)) : Prop :=
  ∀ (s t : State) (rq : Requester) (m : Nat) (r : DapReq), KeepsForm s t → KeepsForm s (e.2 rq m r t)

theorem OwnWriteKeeps.scalar {o : Ob} {f : Requester → Nat → Nat → State → State}
    (hf : ∀ {s t : State} {rq : Requester} {m v : Nat}, KeepsForm s t → KeepsForm s (f rq m v t)) :
    OwnWriteKeeps (ownScalar o f) :=
  fun _ _ _ _ _ h => hf h.scalarValue

theorem OwnWriteKeeps.cmd {o : Ob} {f : Requester → Nat → Nat → State → State}
    (hf : ∀ {s t : State} {rq : Requester} {m v : Nat}, KeepsForm s t → KeepsForm s (f rq m v t)) :
    OwnWriteKeeps (ownCmd o f) :=
  fun _ _ _ _ _ h => hf h

theorem OwnWriteKeeps.bytes {o : Ob} {f : Requester → Nat → Nat → Nat → Bytes → State → State}
    (hf : ∀ {s t : State} {rq : Requester} {m offset total : Nat} {b : Bytes},
      KeepsForm s t → KeepsForm s (f rq m offset total b t)) :
    OwnWriteKeeps (ownBytes o f) :=
  fun _ _ _ _ _ h => hf h

/-- Each object that has a command of its own, in the order of the model's table. -/
theorem ownWrites_keep : ∀ e ∈ ownWrites, OwnWriteKeeps e := by
  simp only [ownWrites, List.forall_mem_cons]
  exact ⟨.scalar fun h => h.serveTimeNow, .scalar fun h => h.serveDieId, .cmd fun h => h.serveShutterApply,
    .cmd fun h => h.serveClearEvents, .cmd fun h => h.serveCmdTableClear, .cmd fun h => h.serveDescApply,
    .bytes fun h => h.serveImage, .cmd fun h => h.serveActivate, .cmd fun h => h.serveLoadStack, .cmd fun h => h.serveUnload,
    .scalar fun h => h.serveDevPhase, .bytes fun h => h.serveStackWrite, .cmd fun h => h.serveProgramApply,
    .cmd fun h => h.serveBaselineReset, .cmd fun h => h.serveVerdictClear, .cmd fun h => h.serveEpochIssue,
    .cmd fun h => h.serveBcastIssue, .cmd fun h => h.serveOverlayWrite, .scalar fun h => h.serveBoundEnforce, .cmd fun h => h.serveBoundReset,
    .cmd fun h => h.serveTestRequest, .cmd fun h => h.serveTestCancel, .scalar fun h => h.serveTraceEnable,
    .cmd fun h => h.servePrcStart, .cmd fun h => h.servePrcResume, .cmd fun h => h.servePrcAbort, .cmd fun h => h.serveRouteMove,
    .cmd fun h => h.serveClearWrite, .cmd fun h => h.serveNegTake, .cmd fun h => h.serveReset, .bytes fun h => h.serveKeeperImage,
    .cmd fun h => h.serveKeeperUpdate, .scalar fun h => h.serveJournalEnable, .cmd fun h => h.serveExportWrite, .scalar fun h => h.serveLaneEnable,
    .cmd fun h => h.serveRetrain, .cmd fun h => h.serveGateApply, fun _ he => absurd he List.not_mem_nil⟩

section
variable {s t : State} (h : KeepsForm s t)
include h

theorem serveWriteReq {rq : Requester} {r : DapReq} : KeepsForm s (State.serveWriteReq rq r t) := by
  unfold State.serveWriteReq
  split
  · split
    next f hfind =>
      obtain ⟨e, he, rfl⟩ := Option.map_eq_some_iff.mp hfind
      exact ownWrites_keep e (List.mem_of_find?_eq_some he) s t rq _ r h
    next => exact h.serveAny fun hu => hu.writePlain
  · exact h.serveRead fun hu => hu.answer

theorem serveRequest {src : DapSource} {r : DapReq} : KeepsForm s (State.serveRequest src r t) := by
  unfold State.serveRequest
  split
  · exact h.serveReadReq
  · exact h.serveWriteReq
  · exact h.serveAbortReq
  · exact h.touch.drawn.answer

theorem dapRoute {src : DapSource} {r : DapReq} : KeepsForm s (t.dapRoute src r) := by
  unfold State.dapRoute
  extract_lets self
  refine .ite ?_ (.ite h.forward (.ite h.answerLost ?_))
  · split
    · exact h.serveRequest
    · exact .ite h.forward h.answerLost
  · split
    · exact .ite h.forward h.answerLost
    · exact h.answerLost

theorem takeRequest {src : DapSource} {r : DapReq} {via : Datagram} : KeepsForm s (t.takeRequest src r via) := by
  cases src with
  | mailbox => exact .ite h (.ite h.touch.serveRequest h.touch.answerLost)
  | lane q => exact .ite h h.touch.dapRoute
  | mgmt a q => exact .ite h (.ite h.bumpSat (.ite h.touch h.touch.dapRoute))

/-! ### Actions that end (15 R323) -/

theorem nextHeld {key : Nat} : KeepsForm s (t.nextHeld key) := by
  unfold State.nextHeld
  split
  · exact h
  · extract_lets _ s1 r _ s2
    have hs1 : KeepsForm s s1 := h.setDap
    have hs2 : KeepsForm s s2 := hs1.setDap.serveWriteReq
    exact hs2.setDap.wr

theorem completeAction {a : CmdAction} : KeepsForm s (t.completeAction a) := by
  unfold State.completeAction
  extract_lets code _ s1
  have hs1 : KeepsForm s s1 := h
  exact hs1.answerAction.nextHeld

/-! ### Rings from the host (18 R379 to R383) -/

theorem h2bMessage {door kind : Nat} {b : Bytes} : KeepsForm s (t.h2bMessage door kind b).2 := by
  unfold State.h2bMessage
  extract_lets misuse
  have hmisuse : KeepsForm s misuse.2 := h.drawn
  split_ifs
  · split
    · exact h.takeRequest
    · exact hmisuse
  · exact h.teardownNamed
  · exact h.testDone
  · exact hmisuse

theorem h2bRing {word : Nat} : KeepsForm s (t.h2bRing word) := by
  unfold State.h2bRing
  extract_lets d kind n open_ left w _ bs s1 r _
  have hs1 : KeepsForm s s1 := h.setBell
  have hr : KeepsForm s r.2 := hs1.h2bMessage
  exact .ite h.setFree.setMb.wr.setBell hr.setMb

theorem hostWrite {offset v : Nat} : KeepsForm s (t.hostWrite offset v) := by
  unfold State.hostWrite
  split
  · exact h.irqWrite.accepted
  · exact h.setMb.accepted
  · exact h.wr.accepted
  · exact h.h2bWord
  · exact h.h2bRing.accepted
  · exact h.b2hAcked.accepted
  · exact h.accepted

/-! ### Block-scope reset (19 R397) -/

theorem abortLoads : KeepsForm s t.abortLoads := h.foldl fun _ hu => .ite hu.wr.wr hu

theorem unstall : KeepsForm s t.unstall := h.foldl fun _ hu => hu.emit

theorem lanesReset {up : List Nat} : KeepsForm s (t.lanesReset up) := by
  unfold State.lanesReset
  extract_lets s1
  have hs1 : KeepsForm s s1 := h.foldl fun _ hu => hu.wr
  exact hs1.foldl fun _ hu => hu.bumpSat.setPtp

theorem blockReset {cause : Nat} : KeepsForm s (t.blockReset cause) := by
  unfold State.blockReset
  extract_lets u before up open_ _ _ n
  have hu : KeepsForm s u := h.negAbandon.abortLoads.unstall
  have hn : KeepsForm s n := ⟨hu.1, hu.2⟩
  exact hn.lanesReset.slaveChanged.keeperRest

end

end KeepsForm

end Sys2Proof.Machine
end

section
/-! The stacks' form: the commands (21 R431). -/

namespace Sys2Proof.Machine

open Sys2Proof

-- one theorem after the other: each theorem that waits for the kernel would hold a thread
set_option Elab.async false

namespace KeepsForm

/-- A command that answers a next state keeps what that state keeps. -/
theorem next {s t : State} (h : KeepsForm s t) : KeepsForm s (s.served (.next t)) := h

section
variable {s : State} {dt : Nat}

/-! ### Chapters 05 and 04 -/

theorem ptpPdelayResp {q domain gm utc seq : Nat} {corr : Int} :
    KeepsForm s (s.served (execPtpPdelayResp dt q domain gm utc seq corr s)) :=
  .next <| .island fun {u} h => by
    refine .ite h ?_
    extract_lets s1 l
    have hs1 : KeepsForm s s1 := h.rxOn.relayed
    clear_value s1 l
    split
    · exact hs1
    · exact .ite hs1 (hs1.setPtp.storePs)

theorem syncLossTimeout : KeepsForm s (s.served (execSyncLossTimeout dt s)) :=
  .next <| .island fun h => by
    refine .ite h ?_
    split
    · exact h.toFreerun
    · exact .ite h h.toHoldover
    · exact h

theorem holdoverTimeout : KeepsForm s (s.served (execHoldoverTimeout dt s)) :=
  .next <| .island fun h => by
    split
    · exact h
    · exact .ite h h.setClock.clockRecord.toFreerun

theorem timeAnchor : KeepsForm s (s.served (execTimeAnchor dt s)) :=
  .next <| .island fun {u} h => by
    have hnext {c : TimeBase} : KeepsForm s { u with time := c } := h
    exact .ite h (ite hnext.bump hnext).raiseIsland

theorem dieVectorComplete : KeepsForm s (s.served (execDieVectorComplete dt s)) :=
  .next <| .core fun h => by
    split
    · exact .ite h h.completeDie
    · exact h

theorem engineVectorComplete : KeepsForm s (s.served (execEngineVectorComplete dt s)) :=
  .next <| .core fun h => by
    split
    · refine .ite h.setKind ?_
      split
      · exact .ite h h.completeEngine
      · exact h
    · exact h

/-! ### Chapters 07 to 09 -/

theorem mergeComplete : KeepsForm s (s.served (execMergeComplete dt s)) :=
  .next <| .core fun h => by
    split
    · split
      · exact h.sendFrame
      · exact h
    · exact h

theorem featureFrame {q : Nat} {f : FeatFrame} : KeepsForm s (s.served (execFeatureFrame dt q f s)) :=
  .next <| .fromLane fun h => .ite h <| h.touch.foldl fun _ hu => by
    split
    · exact hu.takeEngineVector
    · exact hu.takeDieVector

theorem verdictFormed : KeepsForm s (s.served (execVerdictFormed dt s)) :=
  .next <| .core fun h => by
    split
    · exact .ite h.formVerdict h
    · exact h

theorem epochSegment {q epoch level firstFrame seg segs : Nat} {reissue resync : Bool} {entries : List EpochEntry} :
    KeepsForm s (s.served (execEpochSegment dt q epoch level reissue firstFrame seg segs resync entries s)) :=
  .next <| .fromLane fun h => h.onLane fun hu =>
    .ite hu.leafSegment (.ite hu.hopAckOf.keepSegment (hu.takeDown fun hv => hv.keepSegment))

/-! ### Chapter 11 -/

theorem sqGroup {k pc last kind target ret : Nat} {taken : Bool} :
    KeepsForm s (s.served (execSqGroup dt k pc last kind taken target ret s)) :=
  .next <| .after fun h => .ite h (ite h.touch h.wake).takeGroup

theorem sinkLineWritten : KeepsForm s (s.served (execSinkLineWritten dt s)) :=
  .next <| .after fun h => by
    split
    · exact h
    · refine .ite h ?_
      extract_lets ptr next _ s1 s2
      have hs1 : KeepsForm s s1 := h.setTr.emit.wr
      have hs2 : KeepsForm s s2 := .ite hs1.bump hs1
      exact hs2.bump.stallCheck

/-! ### Chapter 12 -/

theorem prcJobStop {c : Nat} : KeepsForm s (s.served (execPrcJobStop dt c s)) :=
  .next <| .core fun h => by
    split
    · exact .ite h.prcRun h.prcWild
    · exact h

/-! ### Chapter 13 -/

theorem trainingComplete {q : Nat} : KeepsForm s (s.served (execTrainingComplete dt q s)) :=
  .next <| .laneEvent fun h => .ite h (ite h h.sendIdent).trained

theorem dataFrame {q seq cls n : Nat} {good : Bool} {ack : Option Nat} {relay : Option (Nat × RedRec)} :
    KeepsForm s (s.served (execDataFrame dt q good seq cls n ack relay s)) := by
  refine .next (.ite ?_ badFrame)
  refine .laneEvent fun {u} h => ?_
  extract_lets s1 r s2
  have hs1 : KeepsForm s s1 := by
    unfold s1
    split
    · exact h.takeAckSeq
    · exact h
  have hr : KeepsForm s r.2 := hs1.acceptSeq
  have hs2 : KeepsForm s s2 := hr.takeCredit.touch.wake
  clear_value s2
  refine .ite hr ?_
  split
  · exact .ite hs2 (.ite hs2.takeRelay hs2.park)
  · exact hs2

theorem parentLost {q seq : Nat} : KeepsForm s (s.served (execParentLost dt q seq s)) :=
  .next <| .laneEvent fun {u} h => by
    extract_lets r
    have hr : KeepsForm s r.2 := h.acceptSeq
    clear_value r
    refine .ite hr ?_
    split
    · exact hr.trigger
    · exact hr

theorem homeHold : KeepsForm s (s.served (execHomeHold dt s)) :=
  .next <| .island fun h => by
    split
    · exact .ite h.setRt.trigger h
    · exact h

theorem laserLoop {q : Nat} : KeepsForm s (s.served (execLaserLoop dt q s)) :=
  .next <| .laneEvent fun {u} h => by
    refine .ite h ?_
    extract_lets _ s1
    have hs1 : KeepsForm s s1 := h.setLane.wr.drawn
    exact .ite hs1.setLane.raiseIslandNow hs1

/-! ### Chapters 14 to 20 -/

theorem classDropFlush : KeepsForm s (s.served (execClassDropFlush dt s)) :=
  .next <| .core fun {u} h => by
    have hruns {x : Sched} : KeepsForm s { u with sch := x } := h
    exact hruns.foldl fun _ hu => hu.writeRun

theorem objectWrite {w : ObjWrite} : KeepsForm s (s.served (execObjectWrite dt w s)) := by
  cases w with
  | dap => exact .next (.fromSource fun h => h.takeRequest)
  | damaged => exact .next (.fromMgmt fun h => .ite h.bumpSat h)
  | register => exact .next (.onPort fun h => h.hostWrite)
  | readRegister => exact .next (.onPort fun h => h.hostRead)

theorem persistDone : KeepsForm s (s.served (execPersistDone dt s)) :=
  .next <| .core fun {u} h => by
    split
    · exact h
    · extract_lets seq bs _ s1
      have hs1 : KeepsForm s s1 := h
      exact .ite hs1.persistBegin hs1

theorem dvfsChangeDone : KeepsForm s (s.served (execDvfsChangeDone dt s)) :=
  .next <| .core fun h => by
    split
    · exact h.wr.setPw
    · exact h

theorem keeperVerified : KeepsForm s (s.served (execKeeperVerified dt s)) :=
  .next <| .core fun h => by
    split
    · exact .ite h (.ite h.updateFails (.ite h.updateFails (.ite h.updateTo.wr h.updateSwap)))
    · exact h

theorem keeperPersisted {ok : Bool} : KeepsForm s (s.served (execKeeperPersisted dt ok s)) :=
  .next <| .core fun h => by
    split
    · exact .ite h (.ite h.setSpareSlot.updateSwap h.updateFails)
    · exact h

theorem keeperQuiescent : KeepsForm s (s.served (execKeeperQuiescent dt s)) :=
  .next <| .core fun h => by
    split
    · exact .ite h (.ite h.keeperTraceOff.updateTo.wr (.ite h.updateFails h))
    · exact h

theorem keeperReady {ok : Bool} : KeepsForm s (s.served (execKeeperReady dt ok s)) :=
  .next <| .core fun h => by
    split
    · exact .ite h (ite h.setKp.wr h).updateEnds.keeperStarts.updatedRecord
    · exact h

theorem journalLost : KeepsForm s (s.served (execJournalLost dt s)) :=
  .next <| .core fun h => h.foldl fun _ hu => by
    split
    · exact .ite hu.endDiscards hu
    · exact hu

theorem ceB2hTransfer : KeepsForm s (s.served (execCeB2hTransfer dt s)) :=
  .next <| .core fun h => by
    split
    · exact h
    · exact h.ceDrain

end

end KeepsForm

/-! ### Every command -/

open KeepsForm in
/-- Every command but those that move membership, and LOGIC_READY, which serves the commands held while the core slept. -/
theorem exec_keepsForm_of_awake {c : Instr} (s : State) (hmoves : movesMembership c = false) (hready : ∀ dt, c ≠ .logicReady dt) :
    KeepsForm s (s.served (exec c s)) := by
  cases c with
  | blockScopeReset => exact .next (.after fun h => .ite h.blockReset h)
  | keeperScopeReset => exact .next (.core fun h => h.setRst.keeperReset)
  | keeperWatchdog => exact .next (.core fun h => h.keeperReset)
  | resetIslandLink | resetIslandLoupe | resetKeeper | resetBlock | resetChip => exact .next (.asked fun h => h.serveReset)
  | objectWrite => exact objectWrite
  | dapRead | dapAbort => exact .next (.fromSource fun h => h.takeRequest)
  | dapResponse => exact .next (.fromLane fun h => .ite h h.touch.takeResponse)
  | pendTimeout => exact .next (.core fun h => h.losePendings)
  | segTimeout => exact .next (.core fun h => h.setDap.foldl fun _ hu => hu.abortWrite)
  | cmdInProgress => exact .next (.core fun h => h.setDap.foldl fun _ hu => hu.answerAction)
  | cmdComplete => exact .next (.core fun h => h.foldl fun _ hu => hu.completeAction)
  | neighborSolicitation | echoRequest => exact .next (.fromMgmt fun h => h.icmpAnswer)
  | ptpSync => exact .next (.island fun h => .ite h (.ite h.rxOn.relayed h.rxOn.relayed.takeSync))
  | ptpPdelayReq | ptpDelayReq => exact .next (.island fun h => .ite h (.ite h.rxOn.relayed h.rxOn.relayed.sendPtp))
  | ptpPdelayResp => exact ptpPdelayResp
  | ptpDelayResp => exact .next (.island fun h => .ite h (.ite h.rxOn.relayed h.rxOn.relayed.takeDelayResp))
  | ptpMgmtMessage => exact .next (.island fun h => .ite h h.settleGm.takeMgmtPtp)
  | ptpIntervalTick => exact .next (.island fun h => h.tickLanes.tickPort)
  | syncLossTimeout => exact syncLossTimeout
  | holdoverTimeout => exact holdoverTimeout
  | timeAnchor => exact timeAnchor
  | timeNowWrite => exact .next (.asked fun h => h.serveTimeNow)
  | shutterFire => exact .next (.island fun h => .ite h.shutterFire h)
  | shutterApply => exact .next (.asked fun h => h.serveShutterApply)
  | clearEvents => exact .next (.asked fun h => h.serveClearEvents)
  | heldCapture => exact .next (.core fun h => h.takeHeld)
  | snapshotDrained => exact .next (.core fun h => h.drainOne)
  | dieVectorComplete => exact dieVectorComplete
  | engineVectorComplete => exact engineVectorComplete
  | descApply => exact .next (.asked fun h => h.serveDescApply)
  | cmdTableClear => exact .next (.asked fun h => h.serveCmdTableClear)
  | begin_ | end_ | bytes | linkBytes | arrive | tagOpen | tagClose | bktOpen | bktClose | dupDecline | shardOpen
  | shardRange | shardClose | ckptBoundary => exact .next .ceTake
  | bracketWait => exact .next (.core fun h => h.foldl fun _ hu => hu.bracketTimeout)
  | loupeLine => exact .next (.after fun h => .ite h (.ite h.wake.touch.countLine.lineEnters h.wake))
  | healthStrobe => exact .next (.after fun h => .ite h (.ite h.strobe h.crossStrobe))
  | scoreRecordComplete => exact .next (.core fun h => .ite h.scoreDone h)
  | imageSegment => exact .next (.asked fun h => h.serveImage)
  | stackWrite => exact .next (.asked fun h => h.serveStackWrite)
  | loadStack => exact .next (.asked fun h => h.serveLoadStack)
  | loadEnd => exact .next (.core fun h => .ite h.loadEnd h)
  | activate => exact .next (.asked fun h => h.serveActivate)
  | unload => exact .next (.asked fun h => h.serveUnload)
  | unloadDrained => exact .next (.core fun h => .ite h.slotEmpty h)
  | retire => exact .next (.core fun h => h.retireSlot)
  | devPhaseWrite => exact .next (.asked fun h => h.serveDevPhase)
  | programApply => exact .next (.asked fun h => h.serveProgramApply)
  | reductionRecord => exact .next (.fromLane fun h => .ite h.touch.takeRecord h)
  | deadline => exact .next (.core fun h => h.foldl fun _ hu => hu.deadlineOne)
  | mergeComplete => exact mergeComplete
  | centreRecord => exact .next (.fromLane fun h => .ite h.touch.takeCentres h)
  | featureFrame => exact featureFrame
  | verdictFormed => exact verdictFormed
  | verdictClear => exact .next (.asked fun h => h.serveVerdictClear)
  | baselineReset => exact .next (.asked fun h => h.serveBaselineReset)
  | stallTimeout => exact .next (.core fun h => .ite h (h.foldl fun _ hu => .ite hu.liveMove hu))
  | arrival => exact .next (.fromLane fun h => h.onLane fun hu => .ite hu.takeArrival hu)
  | release | bcast => exact .next (.fromLane fun h => h.onLane fun hu => .ite hu.leafTake (hu.takeDown fun hv => hv.holdOrAct))
  | bcastAck => exact .next (.fromLane fun h => h.onLane fun hu => .ite hu.takeAck hu)
  | hopAck => exact .next (.fromLane fun h => h.onLane fun hu => hu.setBar.settle)
  | nackTimeout => exact .next (.core fun h => h.nackTimeouts)
  | ackHold => exact .next (.core fun h => .ite h h.flushUnions)
  | ackReport => exact .next (.core fun h => .ite h (h.foldl fun _ hu => hu.setBar.raiseAlarm))
  | barrierReport => exact .next (.core fun h => .ite h (h.setBar.foldl fun _ hu => hu.raiseAlarm))
  | epochSegment => exact epochSegment
  | epochIssue => exact .next (.asked fun h => h.serveEpochIssue)
  | bcastIssueJobStart | bcastIssueJobTeardown | bcastIssueHostMessage => exact .next (.asked fun h => h.serveBcastOp)
  | teardownDone => exact .next (.fromHost fun h => .ite h (.ite h.touch.teardownDone h.wr.drawn))
  | overlayArm => exact .next (.asked fun h => h.serveOverlayArm)
  | overlayDisarm => exact .next (.asked fun h => h.serveOverlayDisarm)
  | digestRecord => exact .next (.fromLane fun h => .ite h h.touch.digestArrives)
  | overlayWait => exact .next (.core fun h => h.foldl fun _ hu => hu.overlayExpire)
  | mismatchNotice => exact .next (.fromLane fun h => .ite h (.ite h.touch.countMismatch h.touch.sendNotice))
  | boundPeriod => exact .next (.core fun h => .ite h (.ite h.boundTick.boundPeriod h.boundTick))
  | boundReset => exact .next (.asked fun h => h.serveBoundReset)
  | boundEnforceWrite => exact .next (.asked fun h => h.serveBoundEnforce)
  | testRequest => exact .next (.asked fun h => h.serveTestRequest)
  | testCancel => exact .next (.asked fun h => h.serveTestCancel)
  | testDeadline => exact .next (.core fun h => h.foldl fun _ hu => hu.testOverdue)
  | testDone => exact .next (.fromHost fun h => .ite h.touch.testDone h)
  | traceEnableWrite => exact .next (.asked fun h => h.serveTraceEnable)
  | sqGroup => exact sqGroup
  | sqSleep => exact .next (.core fun h => .ite h (.ite h.setTrc (.ite h.setTrc.powerPacket h.setTrc.powerPacket.syncPacket)))
  | traceLineTimeout => exact .next (.core fun h => h.foldl fun _ hu => .ite hu.completeLine hu)
  | syncPeriod => exact .next (.core fun h => h.foldl fun _ hu => .ite hu.setTrc hu)
  | sinkLineWritten => exact sinkLineWritten
  | offloadFlush => exact .next (.core fun h => h.foldl fun _ hu => .ite hu.sendUnit hu)
  | offloadUnit => exact .next (.fromLane fun h => .ite h h.touch.storeAppend)
  | storeRead => exact .next (.asked fun h => h.serveRead fun hu => hu.readStore)
  | prcStart => exact .next (.asked fun h => h.servePrcStart)
  | prcResume => exact .next (.asked fun h => h.servePrcResume)
  | prcAbort => exact .next (.asked fun h => h.servePrcAbort)
  | prcJobStop => exact prcJobStop
  | laneEnableWrite => exact .next (.asked fun h => h.serveLaneEnable)
  | laneLock => exact .next (.laneEvent fun h => h.laneTo)
  | trainingComplete => exact trainingComplete
  | lockLost => exact .next (.laneEvent fun h => h.leaveUp)
  | trainLimit => exact .next (.island fun h => h.foldl fun _ hu => hu.trainFail)
  | failHold => exact .next (.island fun h => h.foldl fun _ hu => hu.laneTo)
  | retrain => exact .next (.asked fun h => h.serveRetrain)
  | train => exact .next (.rxFrame fun h => h.takeTrain)
  | ident => exact .next (.rxFrame fun h => .ite h h.wrBytes.setLane)
  | dataFrame => exact dataFrame
  | ack => exact .next (.laneEvent fun h => h.rxOn.takeAckSeq)
  | nak => exact .next (.laneEvent fun h => h.rxOn.takeAckSeq.resend)
  | replayTimeout => exact .next (.island fun h => h.foldl fun _ hu => hu.resend)
  | credit => exact .next (.laneEvent fun h => h.rxOn.setLink.refresh)
  | creditRefresh => exact .next (.island fun h => h.foldl fun _ hu => hu.freeCredit.sendCredit)
  | routeJoin => exact .next (.routeFrame fun h => .ite h.takeJoin h)
  | routeMoveLeg => exact .next (.routeFrame fun h => .ite h.takeMove h)
  | parentLost => exact parentLost
  | routeMove => exact .next (.asked fun h => h.serveRouteMove)
  | homeHold => exact homeHold
  | equaliserAdapt => exact .next (.laneEvent fun h => h.adapt)
  | laserLoop => exact laserLoop
  | dataDecision => exact .next (.core fun h => h.decide_)
  | gateApply => exact .next (.asked fun h => h.serveGateApply)
  | gateEntryChange => exact .next (.core fun h => .ite h h.refresh)
  | classDropFlush => exact classDropFlush
  | alarmRecord => exact .next (.fromLane fun h => .ite h h.touch.forwardAlarm.takeChildRecord)
  | alarmSpaceFreed => exact .next (.core fun h => h.spaceFreed)
  | mirrorFlush => exact .next (.core fun h => .ite h.sendMirror h)
  | mirrorMessage => exact .next (.fromLane fun h => .ite h (h.touch.foldl fun _ hu => hu.takeChildRecord))
  | clearF => exact .next (.asked fun h => h.serveClearF)
  | clearO => exact .next (.asked fun h => h.serveClearO)
  | clearBoth => exact .next (.asked fun h => h.serveClearBoth)
  | fWindow | oWindow => exact .next (.asked fun h => h.serveWindow)
  | negTake => exact .next (.asked fun h => h.serveNegTake)
  | negPeriod => exact .next (.core fun h => .ite h.setNeg h)
  | negFixed => exact .next (.core fun h => .ite h h.stackWrite.stackWrite.setNeg.wr.wr.raiseO)
  | persistDone => exact persistDone
  | h2bData => exact .next (.onPort fun h => h.h2bWord)
  | h2bRing => exact .next (.onPort fun h => h.h2bRing.accepted)
  | b2hData => exact .next (.onPort fun h => h.hostRead)
  | b2hAck => exact .next (.onPort fun h => h.b2hAcked.accepted)
  | irqStatusWrite => exact .next (.onPort fun h => h.irqWrite.accepted)
  | b2hRing => exact .next (.core fun h => .ite h.ringNext h)
  | mbTimeout => exact .next (.core fun h => h.foldl fun _ hu => hu.bellLate)
  | dimIdle => exact .next (.core fun h => .ite h.enterPower.powerEntered h)
  | safelightIdle => exact .next (.after fun h => .ite h.enterPower h)
  | powerEntryDone => exact .next (.island fun h => h.powerEntered)
  | wakeSource => exact .next (.island fun h => .ite h h.wake)
  | regGood | pllLock | memReady => exact .next (.island fun h => h.wakeStep)
  | dvfsPeriod => exact .next (.core fun h => .ite h h.setPw.drawn)
  | keeperUpdateLive | keeperUpdateRestart => exact .next (.asked fun h => h.serveKeeperUpdate)
  | keeperVerified => exact keeperVerified
  | keeperPersisted => exact keeperPersisted
  | keeperQuiescent => exact keeperQuiescent
  | keeperReady => exact keeperReady
  | dieIdWrite => exact .next (.asked fun h => h.serveDieId)
  | journalEnableWrite => exact .next (.asked fun h => h.serveJournalEnable)
  | chunkTimeout => exact .next (.core fun h => h.foldl fun _ hu => hu.closeGather)
  | journalLost => exact journalLost
  | leafJournalFlush => exact .next (.core fun h => .ite h.sendLeafJournal h)
  | leafJournalMessage => exact .next (.fromLane fun h => .ite h (h.touch.foldl fun _ hu => hu.journalEntry))
  | exportFreeze => exact .next (.asked fun h => h.serveExportFreeze)
  | exportRelease => exact .next (.asked fun h => h.serveExportRelease)
  | trainFrameInterval => exact .next (.island fun h => .ite h (.ite h.trainOn (.ite h.sendTrain h)))
  | trainingSignalLost => exact .next (.laneEvent fun h => h.trainFail)
  | ceB2hTransfer => exact ceB2hTransfer
  | islandResetDone => exact .next (.core fun h => h.setRst.foldl fun _ hu => hu.bumpSat.doneRecord)
  | keeperResetDone => exact .next (.core fun h => .ite h.keeperStarts h)
  | dvfsChangeDone => exact dvfsChangeDone
  | epochApplied | chipScopeReset | resetDelayExpiry | resetEnd => exact absurd hmoves nofun
  | logicReady dt => exact absurd rfl (hready dt)

end Sys2Proof.Machine
end

section
/-! The stacks' form: what a core that slept finds held, epochs, resets and boot (21 R431, 19 R391, R396 to R404). -/

namespace Sys2Proof.Machine

open Sys2Proof

-- one theorem after the other: each theorem that waits for the kernel would hold a thread
set_option Elab.async false

namespace KeepsForm

/-! ### What a core that slept finds held (19 R391) -/

section
variable {s t : State} (h : KeepsForm s t)
include h

/-- A command that was held acts when the core is on again. -/
theorem served (c : Instr) (hmoves : movesMembership c = false) (hready : ∀ dt, c ≠ .logicReady dt) :
    KeepsForm s (t.served (exec c t)) :=
  h.trans (exec_keepsForm_of_awake t hmoves hready)

theorem serveOne {i : Instr} : KeepsForm s (t.serveOne i) := by
  cases i with
  | objectWrite _ w => exact h.served (.objectWrite 0 w) rfl nofun
  | dapRead _ src r via => exact h.served (.dapRead 0 src r via) rfl nofun
  | dapAbort _ src r via => exact h.served (.dapAbort 0 src r via) rfl nofun
  | dapResponse _ q r => exact h.served (.dapResponse 0 q r) rfl nofun
  | neighborSolicitation _ peer target bad => exact h.served (.neighborSolicitation 0 peer target bad) rfl nofun
  | echoRequest _ peer addr body bad => exact h.served (.echoRequest 0 peer addr body bad) rfl nofun
  | h2bData _ v => exact h.served (.h2bData 0 v) rfl nofun
  | h2bRing _ word => exact h.served (.h2bRing 0 word) rfl nofun
  | b2hData _ => exact h.served (.b2hData 0) rfl nofun
  | b2hAck _ word => exact h.served (.b2hAck 0 word) rfl nofun
  | irqStatusWrite _ v => exact h.served (.irqStatusWrite 0 v) rfl nofun
  | teardownDone _ job => exact h.served (.teardownDone 0 job) rfl nofun
  | testDone _ engine test result => exact h.served (.testDone 0 engine test result) rfl nofun
  | alarmRecord _ q r => exact h.served (.alarmRecord 0 q r) rfl nofun
  | mirrorMessage _ q recs => exact h.served (.mirrorMessage 0 q recs) rfl nofun
  | leafJournalMessage _ q entries => exact h.served (.leafJournalMessage 0 q entries) rfl nofun
  | digestRecord _ q d => exact h.served (.digestRecord 0 q d) rfl nofun
  | mismatchNotice _ q suspect => exact h.served (.mismatchNotice 0 q suspect) rfl nofun
  | offloadUnit _ q bytes => exact h.served (.offloadUnit 0 q bytes) rfl nofun
  | arrival _ q job barrier time die dies => exact h.served (.arrival 0 q job barrier time die dies) rfl nofun
  | release _ q job barrier epoch level reissue tRel die => exact h.served (.release 0 q job barrier epoch level reissue tRel die) rfl nofun
  | bcast _ q job tree seq epoch level reissue op b => exact h.served (.bcast 0 q job tree seq epoch level reissue op b) rfl nofun
  | bcastAck _ q job tree seq dies => exact h.served (.bcastAck 0 q job tree seq dies) rfl nofun
  | hopAck _ q typ job id seq => exact h.served (.hopAck 0 q typ job id seq) rfl nofun
  | epochSegment _ q epoch level reissue ff seg segs resync es =>
    exact h.served (.epochSegment 0 q epoch level reissue ff seg segs resync es) rfl nofun
  | reductionRecord _ q r => exact h.served (.reductionRecord 0 q r) rfl nofun
  | centreRecord _ q c => exact h.served (.centreRecord 0 q c) rfl nofun
  | featureFrame _ q f => exact h.served (.featureFrame 0 q f) rfl nofun
  | dataFrame _ q good seq cls n ack relay =>
    cases relay with
    | none => exact h
    | some r => exact h.takeRelay
  | _ => exact h

theorem serveHeld : KeepsForm s t.serveHeld := by
  unfold State.serveHeld
  extract_lets u
  have hheld : KeepsForm s { t with parked := [] } := h
  have hu : KeepsForm s u := hheld.foldl fun _ hv => hv.serveOne
  exact .ite hu.ceServe hu

end

theorem logicReady {dt : Nat} {s : State} : KeepsForm s (s.served (execLogicReady dt s)) :=
  .next <| .island fun h => by
    split
    · exact h
    · exact .ite (.ite h.woken.serveHeld h) h.woken.serveHeld

end KeepsForm

/-! ### An epoch that is applied (09 R186) -/

namespace KeepsForm

section
variable {s t : State} (h : KeepsForm s t)
include h

theorem removeFrom {dies : List Nat} {f : RedFrame} : KeepsForm s (State.removeFrom dies t f) := h.setMachine.checkFrame

theorem removeDies {dies : List Nat} {first : Nat} : KeepsForm s (t.removeDies dies first) :=
  .ite h (h.foldl fun _ hu => hu.removeFrom)

theorem shrinkAckSets : KeepsForm s t.shrinkAckSets := h.setBar

theorem releaseHeld : KeepsForm s t.releaseHeld := h.setBar.foldl fun _ hu => .ite hu.actReissue hu.actDown

theorem releaseIssues : KeepsForm s t.releaseIssues := h.setBar.foldl fun _ hu => hu.issueNow

theorem liveMembers : KeepsForm s t.liveMembers :=
  .ite h (h.foldl fun _ hu => .ite hu (.ite hu.liveMove (.ite hu.liveMove hu)))

theorem afterEpoch : KeepsForm s t.afterEpoch :=
  h.growTrees.shrinkAckSets.releaseHeld.releaseIssues.completeBcasts.coverAgain.liveMembers.syncBar

theorem unsized {m : DownMsg} {job : Nat} : KeepsForm s (t.unsized m job) := .ite h h.wr.drawn

theorem leafApply {m : DownMsg} : KeepsForm s (t.leafApply m) := by
  unfold State.leafApply
  extract_lets oldJob _ s0 own size s1 s2 s3 _ _ s4 go _ s5
  have hown {u : State} {e : EpochEntry} (hu : KeepsForm s u) : KeepsForm s (own u e) := by
    cases e with
    | die => exact .ite hu.wr.wr hu
    | size => exact hu
  have hsize {u : State} {e : EpochEntry} (hu : KeepsForm s u) : KeepsForm s (size u e) := by
    cases e with
    | die => exact hu
    | size => exact .ite hu.wr hu
  have hs0 : KeepsForm s s0 := h.setBar
  have hs1 : KeepsForm s s1 := hs0.foldl fun _ hu => hown hu
  have hs2 : KeepsForm s s2 := hs1.unsized.foldl fun _ hu => hsize hu
  have hs3 : KeepsForm s s3 := (ite hs2.wr hs2).wr
  have hs4 : KeepsForm s s4 := .ite hs3 hs3.setLeaf.setVer.restartWindow
  have hs5 : KeepsForm s s5 := hs4.setBar.foldl fun _ hu => hu.leafAct
  clear_value s5
  split
  · exact .ite hs5.runStart hs5
  · exact hs5

theorem applyEpoch {epoch first : Nat} {resync : Bool} : KeepsForm s (t.applyEpoch epoch first resync) := by
  unfold State.applyEpoch
  extract_lets old new was is_ dies flips changes sizes _ s1
  have hs1 : KeepsForm s s1 := h.setBar.wr
  exact .ite hs1 hs1.removeDies

theorem segApplied {m : DownMsg} : KeepsForm s (t.segApplied m) := by
  unfold State.segApplied
  split
  · extract_lets before _ s1 s2 _ s3 s4
    have hs1 : KeepsForm s s1 := h.setBar
    split
    · exact hs1.fan.syncBar
    · have hs2 : KeepsForm s s2 := hs1.applyEpoch
      have hs4 : KeepsForm s s4 := hs2.setBar.fan
      exact hs4.sendLeaves.afterEpoch
  · exact h

end

theorem epochApplied {dt : Nat} {s : State} : KeepsForm s (s.served (execEpochApplied dt s)) :=
  .next <| .core fun h => by
    split
    · split
      · exact h.leafApply
      · exact h
    · split
      · exact h.segApplied
      · exact h

/-! ### Chip-scope resets (19 R396) -/

section
variable {s t : State} (h : KeepsForm s t)
include h

/-- The stacks restart empty, or hold what they held. -/
theorem chipReset {cause : Nat} : KeepsForm s (t.chipReset cause) := by
  unfold State.chipReset
  extract_lets u
  have hu : KeepsForm s u := h.negAbandon.unstall
  clear_value u
  refine ⟨fun hs => ?_, hu.2⟩
  unfold State.stackOk
  dsimp only
  split
  · rfl
  · exact hu.1 hs

theorem applyReset {scope : Nat} : KeepsForm s (t.applyReset scope) := by
  unfold State.applyReset
  split
  · exact h
  · exact h.chipReset
  · exact h.blockReset
  · exact h.keeperReset
  · exact h

/-! ### Boot (19 R400 to R404, 17 R363, R364) -/

theorem restore {o : Ob} {m j : Nat} {bs : Bytes} : KeepsForm s (t.restore o m j bs) := .ite h.stepTime (.ite h.wrBytes h.wr)

theorem applyStraps : KeepsForm s t.applyStraps := h.wr.wr.wr.wr.wrBytes

end

theorem applyEntries {s t : State} (h : KeepsForm s t) {acc : Access} {n : Nat} {bs : Bytes} :
    KeepsForm s (State.applyEntries acc n t bs) := by
  induction n generalizing t bs with
  | zero => exact h
  | succ n ih =>
    rw [State.applyEntries]
    refine .ite h (ih ?_)
    split
    · exact .ite h.restore h
    · exact h

section
variable {s t : State} (h : KeepsForm s t)
include h

theorem bootApply : KeepsForm s t.bootApply := h.applyStraps.applyEntries

theorem withRole {r : Role} : KeepsForm s { t with role := r } := h

theorem bootObjects : KeepsForm s t.bootObjects := by
  unfold State.bootObjects
  extract_lets s1 _ _ _ s2
  have hs1 : KeepsForm s s1 := h.withRole.drawn.bootApply
  have hs2 : KeepsForm s s2 := hs1
  exact hs2.foldl fun _ hu => hu.wr

theorem bootClock : KeepsForm s t.bootClock := .ite h.setClock h

theorem restoreObjects {bs : Bytes} : KeepsForm s (t.restoreObjects bs) := by
  unfold State.restoreObjects
  extract_lets s1 s2 s3
  have hs1 : KeepsForm s s1 := h.applyEntries
  have hs3 : KeepsForm s s3 := hs1.wr.wr.foldl fun _ hu => hu.afterWrite
  exact (hs3.foldl fun _ hu => hu.afterWrite).phaseChanged

theorem applyNegative {neg : Bytes} : KeepsForm s (t.applyNegative neg) := by
  unfold State.applyNegative
  extract_lets bodies body s1 members change routes trees pod podTree podSeq v base cells _ _ _ s2 s3
  have hs1 : KeepsForm s s1 := h.restoreObjects
  clear_value podTree podSeq base cells trees routes members s1
  have hs2 : KeepsForm s s2 := hs1
  have hs3 : KeepsForm s s3 := hs2.setTheta.setTheta
  clear_value s3
  exact hs3.wr.wrBytes.wr.wr

theorem negRestore : KeepsForm s t.negRestore := by
  unfold State.negRestore
  split
  extract_lets pick
  clear_value pick
  split
  · exact h.wr.raiseAlarm
  · exact h.applyNegative.wr.wr.wr.raiseO

theorem bootKeeper : KeepsForm s t.bootKeeper := by
  unfold State.bootKeeper
  split
  extract_lets pick
  clear_value pick
  split
  · exact h.wr
  · exact h.wr.setKp.wr.wr.negRestore

theorem enableLanes : KeepsForm s t.enableLanes := h.foldl fun _ hu => hu.wr

theorem chipEnds {cause : Nat} : KeepsForm s (t.chipEnds cause) := by
  unfold State.chipEnds
  extract_lets s2 s3
  have hs2 : KeepsForm s s2 := h
  have hs3 : KeepsForm s s3 := .ite hs2.bootObjects.bootClock.bootKeeper.enableLanes hs2
  exact hs3.doneRecord

/-! ### The end of a block-scope reset (19 R397, 18 R385) -/

theorem ringAgain : KeepsForm s t.ringAgain := h.foldl fun _ hu => hu.mbSend

theorem blockEnds {cause : Nat} : KeepsForm s (t.blockEnds cause) := by
  unfold State.blockEnds
  extract_lets down held kind _ _ _ s1 s2 s3
  have hs1 : KeepsForm s s1 := .of_same h rfl rfl
  have hs2 : KeepsForm s s2 := hs1.foldl fun _ hu => hu.raiseAt
  have hs3 : KeepsForm s s3 := (hs2.foldl fun _ hu => hu.writeHeld).ringAgain.adoptSink
  exact hs3.doneRecord.keeperStarts

end

theorem resetDelayExpiry {dt : Nat} {s : State} : KeepsForm s (s.served (execResetDelayExpiry dt s)) :=
  .next <| .after fun h => by
    extract_lets ripe due _ s1
    have hs1 : KeepsForm s s1 := h.setRst
    exact hs1.foldl fun _ hu => hu.applyReset

theorem resetEnd {dt : Nat} {s : State} : KeepsForm s (s.served (execResetEnd dt s)) := by
  unfold execResetEnd
  extract_lets s1
  have hs1 : KeepsForm s s1 := (KeepsForm.refl s).elapse.within
  clear_value s1
  refine .next ?_
  split
  · exact hs1.trans <| (KeepsForm.refl s1).chipEnds.serveHeld.withRole.within
  · exact hs1.trans <| (KeepsForm.refl s1).blockEnds.serveHeld.within
  · exact hs1

end KeepsForm

/-! ### Every command -/

/-- Every command keeps the stacks' form. -/
theorem exec_keepsForm (c : Instr) (s : State) : KeepsForm s (s.served (exec c s)) := by
  by_cases hmoves : movesMembership c = true
  · cases c
    case epochApplied => exact .epochApplied
    case chipScopeReset => exact .next (.after fun h => h.chipReset)
    case resetDelayExpiry => exact .resetDelayExpiry
    case resetEnd => exact .resetEnd
    all_goals cases hmoves
  · by_cases hready : ∃ dt, c = .logicReady dt
    · obtain ⟨dt, rfl⟩ := hready
      exact .logicReady
    · exact exec_keepsForm_of_awake s (eq_false_of_ne_true hmoves) fun dt hc => hready ⟨dt, hc⟩

/-- Settles O5: every function that a command reaches writes the stacks by writes and openings alone, which keep their form; a chip-scope
reset empties or keeps them. -/
theorem everyStepKeepsTheStacksForm : Obligations.EveryStepKeepsTheStacksForm := by
  intro s t hform hstep
  cases hq : s.pending with
  | nil =>
    rw [step_of_nil hq] at hstep
    cases hstep
    exact hform
  | cons c rest =>
    have hexec : exec c { s with pending := rest } = .next t := by simpa only [step, hq] using hstep
    have hkept := (exec_keepsForm c { s with pending := rest }).1
    rw [hexec] at hkept
    exact hkept hform

end Sys2Proof.Machine
end

section
/-! Power: entry, the wake order and the tree array's clock (19 R390 to R395, 11 R247). -/

namespace Sys2Proof.Machine

open Sys2Proof

-- one theorem after the other: each theorem that waits for the kernel would hold a thread
set_option Elab.async false

section
variable {c : Instr} {dt : Nat} {s u : State} {P : State → Prop} (hu : u = s.elapse dt)
include hu

/-- A command of the islands completes with its effect outside a chip-scope reset. -/
theorem Does.of_island {f : State → State} (hexec : exec c s = .next (s.island dt f)) (hon : u.inChipReset = false)
    (hP : P ((f u).within s)) : Does c s P := by
  subst hu
  exact ⟨_, hexec.trans (congrArg Host.Outcome.next (s.island_of_on dt f hon)), hP⟩

/-- A command that acts in any state completes with its effect. -/
theorem Does.of_after {f : State → State} (hexec : exec c s = .next (s.after dt f)) (hP : P ((f u).within s)) : Does c s P := by
  subst hu
  exact ⟨_, hexec, hP⟩

end

theorem State.inChipReset_of_inReset {s : State} (h : s.inReset = false) : s.inChipReset = false := by
  cases hbusy : s.rst.busy with
  | none => simp [State.inChipReset, hbusy]
  | some _ => simp [State.inReset, hbusy] at h

/-! ### Entry into a power state (11 R247) -/

/-- A power state is entered at once where no line waits in the trace buffers; a wake source that was held begins the wake. -/
theorem State.powerEntered_enters {s : State} {st : Nat} (hentering : s.pw.entering = some st) (hlines : s.tr.lines = []) :
    s.powerEntered.stores Dict.powerState 0 0 (st % 2 ^ 8) ∧ s.powerEntered.pw.entering = none ∧ s.powerEntered.pw.heldWake = none ∧
      ∀ w, s.pw.heldWake = some w →
        s.powerEntered.pw.waking = some w ∧ s.powerEntered.pw.wakeFrom = st ∧ s.powerEntered.pw.steps = [] := by
  unfold State.powerEntered
  rw [hentering, hlines]
  dsimp only [List.isEmpty_nil, Bool.not_true, Bool.false_eq_true, if_false]
  cases s.pw.heldWake with
  | none => exact ⟨State.stores_wr .., rfl, rfl, nofun⟩
  | some w =>
    refine ⟨State.stores_wr .., rfl, rfl, fun _ hw => ?_⟩
    cases hw
    exact ⟨rfl, rfl, rfl⟩

/-- What holds of every entry and of the default holds of what a table gives. -/
theorem Tbl.getD_of_forall {α : Type} {P : α → Prop} {t : Tbl α} {d : α} (h : ∀ e ∈ t, P e.2) (hd : P d) (k : Nat) : P (Tbl.getD t k d) := by
  induction t with
  | nil => exact hd
  | cons e t ih =>
    obtain ⟨key, x⟩ := e
    rw [Tbl.getD, Tbl.get?]
    split
    · exact h _ List.mem_cons_self
    · exact ih fun e he => h e (List.mem_cons_of_mem _ he)

/-- Where no source is enabled, the entry leaves the trace buffers as they were. -/
theorem State.tracePowerEnter_of_disabled {s : State} (h : ∀ e ∈ s.tr.sources, e.2.enabled = false) (st : Nat) : s.tracePowerEnter st = s := by
  refine List.foldlRecOn (motive := fun t => t = s) _ _ rfl fun t ht n _ => ?_
  have henabled : (s.trc n).enabled = false := Tbl.getD_of_forall (P := fun x : TraceSource => x.enabled = false) h rfl n
  rw [ht, henabled]
  rfl

theorem State.enterPower_pw (s : State) (st : Nat) : (s.enterPower st).pw.entering = some st := rfl

theorem dimIdle_enters {dt : Nat} {s u : State} (hu : u = s.elapse dt) (hon : u.coreOn = true)
    (hidle : u.idleFor (u.rd Dict.dimIdle * 1000) = true) (hoff : ∀ e ∈ u.tr.sources, e.2.enabled = false) :
    Does (.dimIdle dt) s (fun t => t.rd Dict.powerState = 1 ∧ t.pw.entering = none) := by
  have hlines : u.tr.lines = [] := by
    simp only [State.idleFor, State.levelIdle, Bool.and_eq_true, List.isEmpty_iff] at hidle
    tauto
  have hraised : (u.raiseO recPowerEnter (packBits [(8, 1), (120, 0)])).tr = u.tr := by
    obtain ⟨_, _, _, _, _, _, _, _, _, h⟩ := RaisedFrom.raise u false false recPowerEnter (packBits [(8, 1), (120, 0)])
    rw [State.raiseO, h]
  have hlines' : (u.enterPower 1).tr.lines = [] := by
    unfold State.enterPower
    rw [State.tracePowerEnter_of_disabled (by rwa [hraised])]
    exact (congrArg Trace.lines hraised).trans hlines
  obtain ⟨hstored, hentered, -, -⟩ := State.powerEntered_enters (u.enterPower_pw 1) hlines'
  refine .of_core hu rfl hon ?_
  rw [if_pos hidle]
  exact ⟨hstored.rd_within s, hentered⟩

theorem safelightIdle_enters {dt : Nat} {s u : State} (hu : u = s.elapse dt) (hstate : u.rd Dict.powerState ≤ 1)
    (hidle : u.idleFor (u.rd Dict.safelightIdle * 1000000) = true) : Does (.safelightIdle dt) s (fun t => t.pw.entering = some 2) := by
  refine .of_after hu rfl ?_
  rw [hidle, decide_eq_true hstate]
  exact u.enterPower_pw 2

theorem powerEntryDone_enters {dt st : Nat} {s u : State} (hu : u = s.elapse dt) (hon : u.inChipReset = false)
    (hentering : u.pw.entering = some st) (hst : st < 3) (hlines : u.tr.lines = []) :
    Does (.powerEntryDone dt) s (fun t => t.rd Dict.powerState = st ∧ t.pw.entering = none ∧ t.pw.heldWake = none ∧
      ∀ w, u.pw.heldWake = some w → t.pw.waking = some w ∧ t.pw.wakeFrom = st ∧ t.pw.steps = []) := by
  obtain ⟨hstored, hentered, hheld, hwakes⟩ := State.powerEntered_enters hentering hlines
  rw [Nat.mod_eq_of_lt (by omega)] at hstored
  exact .of_island hu rfl hon ⟨hstored.rd_within s, hentered, hheld, hwakes⟩

/-! ### Wake sources and the wake order (19 R390 to R393) -/

section
variable {dt source detail cls : Nat} {s u : State} (hu : u = s.elapse dt) (hreset : u.inReset = false)
include hu hreset

theorem wakeSource_begins (hstate : u.rd Dict.powerState ≠ 0) (hentering : u.pw.entering = none) (hwaking : u.pw.waking = none) :
    Does (.wakeSource dt source detail cls) s (fun t =>
      t.pw.waking = some { source := source, detail := detail, cls := cls, t32 := u.t32 } ∧
      t.pw.wakeFrom = u.rd Dict.powerState ∧ t.pw.steps = []) := by
  refine .of_island hu rfl (State.inChipReset_of_inReset hreset) ?_
  have hasleep : ¬ (u.rd Dict.powerState == 0 || u.pw.waking.isSome) = true := by simp [hwaking, hstate]
  rw [hreset, if_neg Bool.false_ne_true]
  unfold State.wake
  rw [hentering, if_neg (by exact Bool.false_ne_true), if_neg hasleep]
  exact ⟨rfl, rfl, rfl⟩

theorem wakeSource_held {st : Nat} (hentering : u.pw.entering = some st) (hheld : u.pw.heldWake = none) :
    Does (.wakeSource dt source detail cls) s (fun t =>
      t.pw.heldWake = some { source := source, detail := detail, cls := cls, t32 := u.t32 }) := by
  refine .of_island hu rfl (State.inChipReset_of_inReset hreset) ?_
  rw [hreset, if_neg Bool.false_ne_true]
  unfold State.wake
  rw [hentering, hheld]
  rfl

end

theorem State.wakeStep_counts {s : State} {n : Nat} (hwaking : s.pw.waking.isSome = true) (hfrom : s.pw.wakeFrom = 2)
    (hsteps : s.pw.steps.length = n) : s.wakeStep n = s.setPw { s.pw with
      steps := s.pw.steps ++ [min 65535 ((s.time.now - s.pw.stepSince) / (100 * nsUnits))], stepSince := s.time.now } := by
  unfold State.wakeStep
  rw [if_pos (by simp [hwaking, hfrom, hsteps])]

theorem wakeStep_completes {c : Instr} {dt n : Nat} {s u : State}
    (hc : (c, n) ∈ [(Instr.regGood dt, 0), (Instr.pllLock dt, 1), (Instr.memReady dt, 2)]) (hu : u = s.elapse dt)
    (hon : u.inChipReset = false) (hwaking : u.pw.waking.isSome = true) (hfrom : u.pw.wakeFrom = 2) (hsteps : u.pw.steps.length = n) :
    Does c s (fun t => t.pw.steps = u.pw.steps ++ [min 65535 ((u.time.now - u.pw.stepSince) / (100 * nsUnits))] ∧
      t.pw.stepSince = u.time.now) := by
  have hexec : exec c s = .next (s.island dt (State.wakeStep · n)) := by
    simp only [List.mem_cons, Prod.mk.injEq, List.not_mem_nil, or_false] at hc
    obtain ⟨rfl, rfl⟩ | ⟨rfl, rfl⟩ | ⟨rfl, rfl⟩ := hc <;> rfl
  refine .of_island hu hexec hon ?_
  rw [State.wakeStep_counts hwaking hfrom hsteps]
  exact ⟨rfl, rfl⟩

/-! ### The end of a wake (19 R391 to R393) -/

/-- `t` has the power machine, the held commands, the command-event port and the objects of power and resets of `s`. -/
def KeepsPower (s t : State) : Prop := t.pw = s.pw ∧ t.parked = s.parked ∧ t.ce = s.ce ∧ KeepsSystem s t

namespace KeepsPower

theorem refl (s : State) : KeepsPower s s := ⟨rfl, rfl, rfl, .refl s⟩

section
variable {s t : State} (h : KeepsPower s t)
include h

theorem trans {u : State} (k : KeepsPower t u) : KeepsPower s u := by
  obtain ⟨hpw, hparked, hce, hsystem⟩ := h
  obtain ⟨kpw, kparked, kce, ksystem⟩ := k
  exact ⟨kpw.trans hpw, kparked.trans hparked, kce.trans hce, hsystem.trans ksystem⟩

theorem foldl {α : Type} {f : State → α → State} {l : List α} (hf : ∀ {u : State} (a : α), KeepsPower s u → KeepsPower s (f u a)) :
    KeepsPower s (l.foldl f t) :=
  List.foldlRecOn l f h fun _ hu a _ => hf a hu

theorem ite {c : Prop} [Decidable c] {u : State} (k : KeepsPower s u) : KeepsPower s (if c then t else u) := by
  split
  · exact h
  · exact k

theorem traced {u : State} (k : TracedFrom t u) : KeepsPower s u := h.trans ⟨k.pw, k.parked, k.ce, k.system⟩

theorem setHslot {i : Nat} {x : HealthSlot} : KeepsPower s (t.setHslot i x) := h

theorem raiseAt {f a : Bool} {ty pl tm fr : Nat} : KeepsPower s (t.raiseAt f a ty pl tm fr) := by
  have hsystem : KeepsSystem t (t.raiseAt f a ty pl tm fr) := (KeepsSystem.refl t).raiseAt
  obtain ⟨_, _, _, _, _, _, _, _, _, hraised⟩ := RaisedFrom.raiseAt t f a ty pl tm fr
  rw [hraised] at hsystem ⊢
  exact h.trans ⟨rfl, rfl, rfl, hsystem⟩

theorem raise {f a : Bool} {ty pl : Nat} : KeepsPower s (t.raise f a ty pl) := h.raiseAt

theorem reportSat {l : List (Bool × Option Nat × Nat)} : KeepsPower s (t.reportSat l) := h.foldl fun _ hu => .ite hu.raise hu

theorem crossMerge {e : Nat × HealthCrossing} : KeepsPower s (t.crossMerge e) := by
  unfold State.crossMerge
  extract_lets i x hs raw hit cur
  exact .ite h.setHslot.reportSat (.ite h h.setHslot)

theorem writeHeld {r : HeldRecord} : KeepsPower s (t.writeHeld r) := by
  have hbumped : KeepsPower s (t.bump Dict.anchors) := by
    obtain ⟨hpw, hparked, hce, hsystem⟩ := h
    exact ⟨hpw, hparked, hce, hsystem.wr (by decide)⟩
  exact raiseAt (.ite hbumped h)

theorem tracePowerLeave {st : Nat} : KeepsPower s (t.tracePowerLeave st) := by
  refine h.foldl fun {u} n hu => .ite ?_ hu
  have hmarked : SourceFrom TraceSource.course n u (u.powerPacket n false 0 st) := (SourceFrom.refl _ n u).powerPacket
  exact hu.traced hmarked.syncPacket.traced

end

end KeepsPower

/-- What the end of a wake leaves for the core that serves what was held. -/
theorem State.woken_wakes (s : State) (w : WakeSource) (frm : Nat) (steps : List Nat) :
    (s.woken w frm steps).rd Dict.powerState = 0 ∧ (s.woken w frm steps).pw.waking = none ∧ (s.woken w frm steps).parked = s.parked ∧
      (s.woken w frm steps).ce = s.ce ∧ (s.woken w frm steps).rdBytes Dict.lastWake = leBytes 16 (wakeBits w frm steps) := by
  unfold State.woken
  extract_lets held cross _ _ s1 s2 bits s3
  have hs2 : KeepsPower s1 s2 := (KeepsPower.refl s1).foldl fun _ hu => hu.writeHeld
  have hawake : s2.stores Dict.powerState 0 0 0 := State.stores.of_keeps (s := s1) (State.stores_wr ..) hs2.2.2.2.1 (by decide)
  have hstored : ((s2.wrBytes Dict.lastWake (leBytes 16 bits)).bumpSat Dict.wakes).stores Dict.powerState 0 0 0 :=
    (Tbl.get?_set_other _ _ _ _ (by decide)).trans hawake
  have hbits : Tbl.get? (s2.wrBytes Dict.lastWake (leBytes 16 bits)).doms (Dict.lastWake.key 0 0) = some (leBytes 16 bits) :=
    Tbl.get?_set_same ..
  obtain ⟨hpw, hparked, hce, -⟩ := hs2
  have hmarked : KeepsPower ((s2.wrBytes Dict.lastWake (leBytes 16 bits)).bumpSat Dict.wakes) ((cross.foldl State.crossMerge s3).tracePowerLeave frm) :=
    ((KeepsPower.refl _).raise.foldl fun _ hu => hu.crossMerge).tracePowerLeave
  clear_value s2 s3
  obtain ⟨kpw, kparked, kce, kobjects, kdoms⟩ := hmarked
  generalize (cross.foldl State.crossMerge s3).tracePowerLeave frm = v at kpw kparked kce kobjects kdoms ⊢
  refine ⟨(hstored.of_keeps kobjects (by decide)).rd, ?_, kparked.trans hparked, kce.trans hce, ?_⟩
  · show v.pw.waking = none
    rw [kpw]
    exact congrArg Power.waking hpw
  · show Tbl.getD v.doms (Dict.lastWake.key 0 0) _ = _
    rw [Tbl.getD, kdoms _ (by decide)]
    exact congrArg (Option.getD · _) hbits

theorem logicReady_wakes {dt : Nat} {s u : State} {w : WakeSource} (hu : u = s.elapse dt) (hon : u.inChipReset = false)
    (hwaking : u.pw.waking = some w) (hfrom : u.pw.wakeFrom = 1 ∨ u.pw.wakeFrom = 2 ∧ u.pw.steps.length = 3) :
    ∃ v : State, (v.rd Dict.powerState = 0 ∧ v.pw.waking = none ∧ v.parked = u.parked ∧ v.ce.offered = u.ce.offered ∧
      v.rdBytes Dict.lastWake = leBytes 16 (wakeBits w u.pw.wakeFrom
        ((if u.pw.wakeFrom = 2 then u.pw.steps else [0, 0, 0]) ++
          [min 65535 ((u.time.now - u.pw.stepSince) / (100 * nsUnits))]))) ∧
      Does (.logicReady dt) s (fun t => t = v.serveHeld.within s) := by
  obtain ⟨hstate, hdone, hparked, hce, hbits⟩ := u.woken_wakes w u.pw.wakeFrom
    ((if u.pw.wakeFrom = 2 then u.pw.steps else [0, 0, 0]) ++ [min 65535 ((u.time.now - u.pw.stepSince) / (100 * nsUnits))])
  refine ⟨_, ⟨hstate, hdone, hparked, congrArg CePort.offered hce, hbits⟩, .of_island hu rfl hon ?_⟩
  rw [hwaking]
  obtain hdim | ⟨hlight, hsteps⟩ := hfrom
  · rw [hdim]
    rfl
  · rw [hlight, hsteps]
    rfl

theorem State.serveHeld_one {v : State} {i : Instr} (hparked : v.parked = [i]) (hdie : v.isDie = false) :
    v.serveHeld = State.serveOne { v with parked := [] } i := by
  have hkept : (State.serveOne { v with parked := [] } i).isDie = false := by
    rw [← hdie]
    exact congrArg (· == Build.die) (KeepsForm.refl { v with parked := [] }).serveOne.2
  unfold State.serveHeld
  rw [hparked]
  dsimp only [List.foldl_cons, List.foldl_nil]
  rw [hkept, if_neg Bool.false_ne_true]

/-! ### The clock of the tree array (19 R395) -/

section
variable {s : State}

theorem State.dvfsNext_of_disabled (h : s.flag Dict.dvfsEnable = false) : s.dvfsNext.1 = 1800 := by
  unfold State.dvfsNext
  rw [h]
  rfl

variable (henabled : s.flag Dict.dvfsEnable = true) (hmin : dvfsMinOk (s.rd Dict.dvfsMin) = true)
include henabled hmin

/-- A late vector raises the clock by a step. -/
theorem State.dvfsNext_of_unscored (hlate : s.pw.unscoredSeen = true) (hlow : s.rd Dict.dvfsMin ≤ s.rd Dict.devClock) :
    s.dvfsNext.1 = min 1800 (s.rd Dict.devClock + 100) := by
  have hmax : s.rd Dict.dvfsMin ≤ 1800 := by
    simp only [dvfsMinOk, Bool.and_eq_true, decide_eq_true_eq] at hmin
    omega
  unfold State.dvfsNext
  dsimp only
  rw [henabled, hmin, hlate, Bool.or_true, if_neg (by decide), if_neg (by decide), if_pos rfl]
  dsimp only
  omega

/-- The tenth low period in a row lowers the clock by a step. -/
theorem State.dvfsNext_of_low (hlate : s.pw.unscoredSeen = false) (hseen : s.pw.queueSeen = false)
    (hqueues : ∀ q ∈ s.dvfsQueues, 64 * q.1 < q.2) (hperiods : s.pw.lowPeriods = 9)
    (hlow : s.rd Dict.dvfsMin + 100 ≤ s.rd Dict.devClock) : s.dvfsNext.1 = s.rd Dict.devClock - 100 := by
  have hnone : (s.dvfsQueues.any fun q => decide (q.2 < 8 * q.1)) = false := by
    refine List.any_eq_false.mpr fun q hq => ?_
    have := hqueues q hq
    rw [decide_eq_true_eq]
    omega
  have hall : (s.dvfsQueues.all fun q => decide (64 * q.1 < q.2)) = true := List.all_eq_true.mpr fun q hq => decide_eq_true (hqueues q hq)
  unfold State.dvfsNext
  dsimp only
  rw [henabled, hmin, hnone, hlate, hseen, hall, hperiods, if_neg (by decide), if_neg (by decide), if_neg (by decide), if_pos (by decide),
    if_pos (by decide)]
  dsimp only
  omega

end

theorem dvfsPeriod_steers {dt : Nat} {s u : State} (hu : u = s.elapse dt) (hon : u.coreOn = true) (htray : u.isDie = false)
    (hpassed : u.passed u.pw.dvfsLast 100000 = true) :
    Does (.dvfsPeriod dt) s (fun t => t.pw.dvfsLast = u.time.now ∧ (u.dvfsNext.1 ≠ u.rd Dict.devClock → t.pw.dvfsTarget = some u.dvfsNext.1)) := by
  refine .of_core hu rfl hon ?_
  rw [htray, hpassed, if_neg (by decide)]
  exact ⟨rfl, fun hother => if_neg hother⟩

theorem dvfsChangeDone_sets {dt v : Nat} {s u : State} (hu : u = s.elapse dt) (hon : u.coreOn = true) (htarget : u.pw.dvfsTarget = some v)
    (hv : v < 65536) : Does (.dvfsChangeDone dt) s (fun t => t.rd Dict.devClock = v ∧ t.pw.dvfsTarget = none) := by
  refine .of_core hu rfl hon ?_
  rw [htarget]
  refine ⟨?_, rfl⟩
  exact (State.stores.rd_within (State.stores_wr u Dict.devClock v 0 0) s).trans (Nat.mod_eq_of_lt hv)

/-- Settles O16: entry waits for the trace buffers alone, a wake goes through its steps and serves what was held, and the clock of the
tree array follows its queues. -/
theorem powerCommandsComplete : Obligations.PowerCommandsComplete := by
  unfold Obligations.PowerCommandsComplete
  refine ⟨fun _ _ _ hu hon hidle hoff => dimIdle_enters hu hon hidle hoff, fun _ _ _ hu hstate hidle => safelightIdle_enters hu hstate hidle,
    fun _ _ _ _ hu hon hentering hst hlines => powerEntryDone_enters hu hon hentering hst hlines,
    fun _ _ _ _ _ _ hu hreset hstate hentering hwaking => wakeSource_begins hu hreset hstate hentering hwaking,
    fun _ _ _ _ _ _ _ hu hreset hentering hheld => wakeSource_held hu hreset hentering hheld,
    fun _ _ _ _ _ hc hu hon hwaking hfrom hsteps => wakeStep_completes hc hu hon hwaking hfrom hsteps,
    fun _ _ _ _ hu hon hwaking hfrom => logicReady_wakes hu hon hwaking hfrom,
    fun _ _ hparked hdie => State.serveHeld_one hparked hdie, ?_,
    fun _ _ _ _ hu hon htarget hv => dvfsChangeDone_sets hu hon htarget hv⟩
  intro dt s u hu hon htray hpassed
  obtain ⟨t, hexec, hlast, htarget⟩ := dvfsPeriod_steers hu hon htray hpassed
  refine ⟨t, hexec, hlast, fun hoff hclk => ?_, fun henabled hmin hlate hlow hclk => ?_,
    fun henabled hmin hlate hseen hqueues hperiods hlow hclk => ?_⟩
  · have hnext := State.dvfsNext_of_disabled hoff
    rw [hnext] at htarget
    exact htarget hclk.symm
  · have hnext := State.dvfsNext_of_unscored henabled hmin hlate hlow
    rw [hnext] at htarget
    exact htarget (by omega)
  · have hnext := State.dvfsNext_of_low henabled hmin hlate hseen hqueues hperiods hlow
    rw [hnext] at htarget
    exact htarget (by omega)

end Sys2Proof.Machine
end

section
/-! The keeper: its update, its reset (19 R398, R405, R406). -/

namespace Sys2Proof.Machine

open Sys2Proof

-- one theorem after the other: each theorem that waits for the kernel would hold a thread
set_option Elab.async false

/-! ### The keeper stops and starts (19 R398, R406) -/

/-- The numbers of the objects of power and resets, and of KEEPER_VERSION. -/
abbrev keeperObject (k : Nat) : Prop := systemObject k ∨ k = Dict.keeperVersion.key 0 0

/-- `t` has the keeper, the resets and the flash of `s`, its KEEPER_VERSION and the objects of power and resets. -/
def KeepsKeeper (s t : State) : Prop := t.kp = s.kp ∧ t.rst = s.rst ∧ t.flash = s.flash ∧ KeepsObjects keeperObject s t

namespace KeepsKeeper

theorem refl (s : State) : KeepsKeeper s s := ⟨rfl, rfl, rfl, .refl _ s⟩

theorem traced {s t : State} (h : TracedFrom s t) : KeepsKeeper s t := by
  obtain ⟨hbuild, hrole, hregs⟩ := h.objects
  refine ⟨h.kp, h.rst, h.flash, hbuild, hrole, fun k hk => ?_⟩
  obtain hk | rfl := hk
  · exact h.system.1.2.2 k hk
  · exact hregs _ (by decide)

section
variable {s t : State} (h : KeepsKeeper s t)
include h

theorem trans {u : State} (k : KeepsKeeper t u) : KeepsKeeper s u := by
  obtain ⟨hkp, hrst, hflash, hkeeps⟩ := h
  obtain ⟨kkp, krst, kflash, kkeeps⟩ := k
  exact ⟨kkp.trans hkp, krst.trans hrst, kflash.trans hflash, hkeeps.trans kkeeps⟩

theorem raise {f a : Bool} {ty pl : Nat} : KeepsKeeper s (t.raise f a ty pl) := by
  have hother : ∀ o ∈ recordObjects, ¬ keeperObject (o.key 0 0) := by decide
  have hkeeps : KeepsObjects keeperObject t (t.raise f a ty pl) :=
    (KeepsUnrecorded.raise t f a ty pl).mono fun k hk o ho hko => hother o ho (by rwa [← hko])
  obtain ⟨_, _, _, _, _, _, _, _, _, hraised⟩ := RaisedFrom.raise t f a ty pl
  rw [hraised] at hkeeps ⊢
  exact h.trans ⟨rfl, rfl, rfl, hkeeps⟩

theorem keeperTraceOff : KeepsKeeper s t.keeperTraceOff := by
  unfold State.keeperTraceOff
  split
  · exact h.trans (.traced (SourceFrom.refl TraceSource.course 1 t).traceOff.traced)
  · exact h

theorem stackWrite {a : Nat} {b : Bytes} : KeepsKeeper s (t.stackWrite a b) := by
  unfold State.stackWrite
  split
  · exact h
  · exact h

theorem negAbandon : KeepsKeeper s t.negAbandon := by
  unfold State.negAbandon
  split
  · exact h
  · exact h.stackWrite
  · exact h.stackWrite

theorem keeperTraceOn : KeepsKeeper s t.keeperTraceOn := by
  unfold State.keeperTraceOn
  split
  · extract_lets s1
    have hs1 : SourceFrom TraceSource.course 1 t s1 := (SourceFrom.refl _ 1 t).syncPacket
    have hs2 : SourceFrom TraceSource.status 1 t (s1.setTrc 1 { s1.trc 1 with onCause := 3, nextAddr := none }) := hs1.status.setTrc rfl
    exact h.trans (.traced (hs2.trans (State.keeperRetires_status _)).traced)
  · exact h

end

end KeepsKeeper

/-- What a keeper that stops leaves: the reset in progress with its cause, no sessions, and no action of the keys. -/
structure KeeperHalted (s : State) (keys : List Nat) (cause : Nat) (t : State) : Prop where
  rst : t.rst = { s.rst with keeper := some (cause, (s.dap.actions.filter (fun a => keys.contains a.key)).length) }
  flash : t.flash = s.flash
  resets : t.stores Dict.keeperState 0 0 5
  reads : t.dap.reads = []
  writes : t.dap.writes = []
  actions : ∀ a ∈ t.dap.actions, keys.contains a.key = false

theorem KeeperHalted.raise {s t : State} {keys : List Nat} {cause : Nat} (h : KeeperHalted s keys cause t) (f a : Bool) (ty pl : Nat) :
    KeeperHalted s keys cause (t.raise f a ty pl) := by
  obtain ⟨hrst, hflash, hresets, hreads, hwrites, hactions⟩ := h
  obtain ⟨-, krst, kflash, kkeeps⟩ := (KeepsKeeper.refl t).raise (f := f) (a := a) (ty := ty) (pl := pl)
  obtain ⟨_, _, _, _, _, _, _, _, _, hraised⟩ := RaisedFrom.raise t f a ty pl
  refine ⟨krst.trans hrst, kflash.trans hflash, hresets.of_keeps kkeeps (by decide), ?_, ?_, ?_⟩ <;> rw [hraised]
  · exact hreads
  · exact hwrites
  · exact hactions

theorem State.keeperStops_halts (s : State) (keys : List Nat) (cause : Nat) : KeeperHalted s keys cause (s.keeperStops keys cause) := by
  unfold State.keeperStops
  extract_lets gone _ s1 _ s2 _ s3 pay
  obtain ⟨-, hrst, hflash, -⟩ := (KeepsKeeper.refl s).keeperTraceOff.negAbandon
  have hs3 : KeeperHalted s keys cause s3 := by
    refine ⟨congrArg (fun r : Resets => { r with keeper := some (cause, gone.length) }) hrst, hflash, State.stores_wr .., rfl, rfl, ?_⟩
    intro a ha
    simpa only [Bool.not_eq_true'] using (List.mem_filter.mp ha).2
  clear_value s3
  split
  · exact hs3.raise ..
  · exact hs3.raise ..

/-- What a keeper that serves again leaves as it was, and what KEEPER_STATE then reads. -/
theorem State.keeperStarts_serves (s : State) : s.keeperStarts.rst = { s.rst with keeper := none } ∧
    s.keeperStarts.kp.update = s.kp.update ∧ s.keeperStarts.kp.running = s.kp.running ∧
    s.keeperStarts.stores Dict.keeperState 0 0 (bit s.kp.running % 2 ^ 8) ∧
    KeepsObjects (· = Dict.keeperVersion.key 0 0) s s.keeperStarts := by
  unfold State.keeperStarts
  extract_lets _ s1 s2
  have hstored : s1.stores Dict.keeperState 0 0 (bit s.kp.running % 2 ^ 8) := State.stores_wr ..
  have hversion : KeepsObjects (· = Dict.keeperVersion.key 0 0) s s1 := .wr _ Dict.keeperState _ 0 0 (by decide)
  have hs2 : KeepsKeeper s1 s2 := by
    unfold s2
    split
    · exact (KeepsKeeper.refl s1).keeperTraceOn
    · exact .refl s1
  obtain ⟨hkp, hrst, -, hkeeps⟩ := hs2
  have hrst1 : s1.rst = { s.rst with keeper := none } := rfl
  have hkp1 : s1.kp = s.kp := rfl
  rw [hkp1] at hkp
  rw [hrst1] at hrst
  have hbegun : s2.rst = { s.rst with keeper := none } ∧ s2.kp.update = s.kp.update ∧ s2.kp.running = s.kp.running ∧
      s2.stores Dict.keeperState 0 0 (bit s.kp.running % 2 ^ 8) ∧ KeepsObjects (· = Dict.keeperVersion.key 0 0) s s2 :=
    ⟨hrst, by rw [hkp], by rw [hkp], hstored.of_keeps hkeeps (by decide), hversion.trans (hkeeps.mono fun _ hk => .inr hk)⟩
  clear_value s2
  split
  · exact hbegun
  · exact hbegun

theorem State.updatedRecord_keeps (s : State) (old new code : Nat) (k : KeeperUpdate) : KeepsKeeper s (s.updatedRecord old new code k) :=
  (KeepsKeeper.refl s).raise

theorem leAt_lt (bs : Bytes) (i n : Nat) : leAt bs i n < 2 ^ (8 * n) :=
  (ofLe_lt _).trans_le (Nat.pow_le_pow_right (by decide) (Nat.mul_le_mul_left 8 (List.length_take_le n _)))

/-! ### The commands of the keeper -/

section
variable {dt : Nat} {s u : State} (hu : u = s.elapse dt)
include hu

section
variable {rq : Requester} {persist : Bool} (h : u.serves Dict.keeperUpdate) (hdie : u.isDie = true → persist = false)
  (hidle : u.actionOf (Dict.keeperUpdate.key 0 0) = none)
include h hdie hidle

omit hu in
/-- A value of KEEPER_UPDATE that names an update begins it. -/
theorem State.serveKeeperUpdate_begins {r : Nat} (hr : r < 2) : u.serveKeeperUpdate rq (16 * bit persist + r) =
    State.updateStart (r == 0) persist (u.granted.beginAction rq.src rq.reqId Dict.keeperUpdate 0) := by
  have hbit : bit persist ≤ 1 := by cases persist <;> decide
  have hvalue : ¬ ((16 * bit persist + r) % 256 ≠ 16 * bit persist + r ∨ ((16 * bit persist + r) ≠ 0 ∧ (16 * bit persist + r) ≠ 1 ∧
      (16 * bit persist + r) ≠ 16 ∧ (16 * bit persist + r) ≠ 17) ∨ (u.isDie ∧ 16 ≤ 16 * bit persist + r)) := by
    have hlow : u.isDie = true → bit persist = 0 := fun hd => congrArg bit (hdie hd)
    rintro (hv | hv | ⟨hd, hv⟩)
    · omega
    · omega
    · have := hlow hd
      omega
  unfold State.serveKeeperUpdate
  rw [if_neg hvalue, State.serveLong_of_serves h hidle]
  have hlow : (16 * bit persist + r) % 2 = r := by omega
  have hhigh : decide (16 ≤ 16 * bit persist + r) = persist := by
    cases persist with
    | false => exact decide_eq_false (by show ¬ 16 ≤ 16 * 0 + r; omega)
    | true => exact decide_eq_true (by show 16 ≤ 16 * 1 + r; omega)
  rw [hlow, hhigh]

omit hu h hdie hidle in
/-- An update of which the keeper can make a beginning is VERIFYING. -/
theorem State.updateStart_verifies {live : Bool} (hrunning : live = true → u.kp.running = true) (src : DapSource) (reqId : Nat) :
    ((State.updateStart live persist (u.granted.beginAction src reqId Dict.keeperUpdate 0)).within s).kp.update =
        some { live := live, persist := persist, phase := .verifying, since := u.time.now } ∧
      ((State.updateStart live persist (u.granted.beginAction src reqId Dict.keeperUpdate 0)).within s).rd Dict.keeperState = 2 ∧
      ((State.updateStart live persist (u.granted.beginAction src reqId Dict.keeperUpdate 0)).within s).cmdCode Dict.keeperUpdate = 0xFF := by
  have hbegun : (u.granted.beginAction src reqId Dict.keeperUpdate 0).cmdCode Dict.keeperUpdate = 0xFF := State.cmdCode_setCode_same ..
  have hkp : (u.granted.beginAction src reqId Dict.keeperUpdate 0).kp.running = u.kp.running := rfl
  have hnow : (u.granted.beginAction src reqId Dict.keeperUpdate 0).time.now = u.time.now := rfl
  generalize u.granted.beginAction src reqId Dict.keeperUpdate 0 = v at hbegun hkp hnow
  have hstarts : ¬ (live && !v.kp.running) = true := by
    rw [hkp]
    cases live with
    | false => exact Bool.false_ne_true
    | true => simp [hrunning rfl]
  unfold State.updateStart
  rw [if_neg hstarts, ← hnow]
  exact ⟨rfl, State.stores.rd_within (State.stores_wr _ Dict.keeperState 2 0 0) s, hbegun⟩

theorem keeperUpdateLive_begins (hrunning : u.kp.running = true) : Does (.keeperUpdateLive dt rq persist) s (fun t =>
    t.kp.update = some { live := true, persist := persist, phase := .verifying, since := u.time.now } ∧
    t.rd Dict.keeperState = 2 ∧ t.cmdCode Dict.keeperUpdate = 0xFF) := by
  refine .of_asked hu rfl h.1 ?_
  have hbegins := State.serveKeeperUpdate_begins (rq := rq) h hdie hidle (r := 0) (by decide)
  rw [Nat.add_zero] at hbegins
  rw [hbegins]
  exact State.updateStart_verifies (fun _ => hrunning) ..

theorem keeperUpdateRestart_begins : Does (.keeperUpdateRestart dt rq persist) s (fun t =>
    t.kp.update = some { live := false, persist := persist, phase := .verifying, since := u.time.now } ∧
    t.rd Dict.keeperState = 2 ∧ t.cmdCode Dict.keeperUpdate = 0xFF) := by
  refine .of_asked hu rfl h.1 ?_
  rw [State.serveKeeperUpdate_begins (rq := rq) h hdie hidle (r := 1) (by decide)]
  exact State.updateStart_verifies (live := false) nofun ..

end

omit hu in
/-- The image is swapped in: LIVE at a quiet instant, RESTART at once. -/
theorem State.updateSwap_phase (k : KeeperUpdate) :
    ((u.updateSwap k).kp.update.map (·.phase)) = some (if k.live then .quiescing else .restarting) ∧ (u.updateSwap k).flash = u.flash ∧
      (k.live = false → (u.updateSwap k).rst.keeper.isSome = true ∧ (u.updateSwap k).stores Dict.keeperState 0 0 5) := by
  unfold State.updateSwap
  cases k.live with
  | true => exact ⟨rfl, rfl, nofun⟩
  | false =>
    obtain ⟨hrst, hflash, hresets, -⟩ := u.keeperStops_halts [Dict.exportCmd.key 0 0] 2
    exact ⟨rfl, hflash, fun _ => ⟨congrArg (fun r : Resets => r.keeper.isSome) hrst, hresets⟩⟩

variable (hon : u.coreOn = true) {k : KeeperUpdate} (hupdate : u.kp.update = some k)
include hon hupdate

theorem keeperVerified_goes (hphase : k.phase = .verifying) (hidle : u.rst.keeper = none) :
    Does (.keeperVerified dt) s (fun t =>
      if u.keeperTest u.kp.staged ≠ 0 then t.kp.update = none
      else if k.live = true ∧ imageFormat u.kp.staged ≠ u.kp.stateFormat then t.kp.update = none
      else if k.persist = true then (t.kp.update.map (·.phase)) = some .persisting ∧ t.rd Dict.keeperState = 3
      else if k.live = true then (t.kp.update.map (·.phase)) = some .quiescing
      else (t.kp.update.map (·.phase)) = some .restarting ∧ t.rst.keeper.isSome = true ∧ t.rd Dict.keeperState = 5) := by
  have hgoes : ¬ (k.phase != .verifying || u.rst.keeper.isSome) = true := by simp [hphase, hidle]
  refine .of_core hu rfl hon ?_
  rw [hupdate]
  dsimp only
  rw [if_neg hgoes]
  obtain ⟨hswapped, -, hstops⟩ := u.updateSwap_phase k
  by_cases htest : u.keeperTest u.kp.staged ≠ 0
  · rw [if_pos htest, if_pos htest]
    rfl
  rw [if_neg htest, if_neg htest]
  have hdiffers : (k.live && imageFormat u.kp.staged != u.kp.stateFormat) = true ↔ k.live = true ∧ imageFormat u.kp.staged ≠ u.kp.stateFormat := by
    simp
  by_cases hformat : k.live = true ∧ imageFormat u.kp.staged ≠ u.kp.stateFormat
  · rw [if_pos hformat, if_pos (hdiffers.mpr hformat)]
    rfl
  rw [if_neg hformat, if_neg (hdiffers.not.mpr hformat)]
  by_cases hpersist : k.persist = true
  · rw [if_pos hpersist, if_pos hpersist]
    exact ⟨rfl, State.stores.rd_within (State.stores_wr _ Dict.keeperState 3 0 0) s⟩
  rw [if_neg hpersist, if_neg hpersist]
  cases hlive : k.live with
  | true =>
    rw [hlive] at hswapped
    exact hswapped
  | false =>
    rw [hlive] at hswapped
    obtain ⟨hreset, hstate⟩ := hstops hlive
    exact ⟨hswapped, hreset, hstate.rd_within s⟩

theorem keeperPersisted_swaps (hphase : k.phase = .persisting) (hidle : u.rst.keeper = none) :
    Does (.keeperPersisted dt true) s (fun t =>
      (t.kp.update.map (·.phase)) = some (if k.live then .quiescing else .restarting) ∧
      (if u.rd Dict.bootResult / 64 = 0 then t.flash.slotB else t.flash.slotA) = u.kp.staged.take (keeperLength u.kp.staged)) := by
  have hgoes : ¬ (k.phase != .persisting || u.rst.keeper.isSome) = true := by simp [hphase, hidle]
  refine .of_core hu rfl hon ?_
  rw [hupdate]
  dsimp only
  rw [if_neg hgoes, if_pos rfl]
  obtain ⟨hswapped, hflash, -⟩ := (u.setSpareSlot (u.kp.staged.take (keeperLength u.kp.staged))).updateSwap_phase k
  refine ⟨hswapped, ?_⟩
  show (if u.rd Dict.bootResult / 64 = 0 then (State.updateSwap _ k).flash.slotB else (State.updateSwap _ k).flash.slotA) = _
  rw [hflash]
  unfold State.setSpareSlot State.emit
  dsimp only
  split
  · rfl
  · rfl

theorem keeperPersisted_fails (hphase : k.phase = .persisting) (hidle : u.rst.keeper = none) :
    Does (.keeperPersisted dt false) s (fun t => t.kp.update = none ∧ t.flash = u.flash) := by
  have hgoes : ¬ (k.phase != .persisting || u.rst.keeper.isSome) = true := by simp [hphase, hidle]
  refine .of_core hu rfl hon ?_
  rw [hupdate]
  dsimp only
  rw [if_neg hgoes]
  exact ⟨rfl, rfl⟩

theorem keeperQuiescent_pauses (hphase : k.phase = .quiescing) (hidle : u.rst.keeper = none) (hquiet : u.keeperQuiet = true) :
    Does (.keeperQuiescent dt) s (fun t => (t.kp.update.map (·.phase)) = some .paused ∧ t.rd Dict.keeperState = 4) := by
  have hgoes : ¬ (k.phase != .quiescing || u.rst.keeper.isSome) = true := by simp [hphase, hidle]
  refine .of_core hu rfl hon ?_
  rw [hupdate]
  dsimp only
  rw [if_neg hgoes, if_pos hquiet]
  exact ⟨rfl, State.stores.rd_within (State.stores_wr _ Dict.keeperState 4 0 0) s⟩

theorem keeperQuiescent_fails (hphase : k.phase = .quiescing) (hidle : u.rst.keeper = none) (hbusy : u.keeperQuiet = false)
    (hpassed : u.passed k.since 100000000 = true) :
    Does (.keeperQuiescent dt) s (fun t => t.kp.update = none ∧ t.kp.running = u.kp.running) := by
  have hgoes : ¬ (k.phase != .quiescing || u.rst.keeper.isSome) = true := by simp [hphase, hidle]
  refine .of_core hu rfl hon ?_
  rw [hupdate]
  dsimp only
  rw [if_neg hgoes, hbusy, if_neg Bool.false_ne_true, if_pos hpassed]
  exact ⟨rfl, rfl⟩

section
variable (hphase : k.phase = .paused ∨ k.phase = .restarting)
include hphase

omit hu hon hupdate in
theorem KeeperUpdate.ready_goes : ¬ (k.phase != .paused && k.phase != .restarting) = true := by
  obtain hphase | hphase := hphase <;> rw [hphase] <;> decide

theorem keeperReady_serves : Does (.keeperReady dt true) s (fun t => t.kp.update = none ∧ t.kp.running = true ∧ t.rst.keeper = none ∧
    t.rd Dict.keeperVersion = imageVersion u.kp.staged ∧ t.rd Dict.keeperState = 1) := by
  refine .of_core hu rfl hon ?_
  rw [hupdate]
  dsimp only
  rw [if_neg (KeeperUpdate.ready_goes hphase), if_pos rfl, if_pos rfl]
  have hversion : imageVersion u.kp.staged < 2 ^ 32 := leAt_lt _ 8 4
  generalize hw : State.updateEnds _ 0 = w
  have hupdated : w.kp.update = none := by rw [← hw]; rfl
  have hrunning : w.kp.running = true := by rw [← hw]; rfl
  have hstored : w.stores Dict.keeperVersion 0 0 (imageVersion u.kp.staged) := by
    have hwritten := State.stores_wr (u.setKp { u.kp with running := true, stateFormat := imageFormat u.kp.staged }) Dict.keeperVersion
      (imageVersion u.kp.staged) 0 0
    rw [← hw]
    exact hwritten.trans (congrArg some (Nat.mod_eq_of_lt hversion))
  obtain ⟨hrst, hkept, hruns, hstate, hkeeps⟩ := w.keeperStarts_serves
  obtain ⟨kkp, krst, -, kkeeps⟩ := w.keeperStarts.updatedRecord_keeps (u.rd Dict.keeperVersion) (imageVersion u.kp.staged) 0 k
  generalize State.updatedRecord _ _ _ _ _ = v at kkp krst kkeeps
  rw [hrunning] at hstate
  refine ⟨?_, ?_, ?_, State.stores.rd_within ((hstored.of_keeps hkeeps rfl).of_keeps kkeeps (by decide)) s, (hstate.of_keeps kkeeps (by decide)).rd_within s⟩
  · exact (congrArg Keeper.update kkp).trans (hkept.trans hupdated)
  · exact (congrArg Keeper.running kkp).trans (hruns.trans hrunning)
  · exact congrArg Resets.keeper (krst.trans hrst)

theorem keeperReady_returns : Does (.keeperReady dt false) s (fun t => t.kp.update = none ∧ t.kp.running = u.kp.running ∧ t.rst.keeper = none ∧
    t.rd Dict.keeperVersion = u.rd Dict.keeperVersion) := by
  refine .of_core hu rfl hon ?_
  rw [hupdate]
  dsimp only
  rw [if_neg (KeeperUpdate.ready_goes hphase), if_neg Bool.false_ne_true, if_neg Bool.false_ne_true]
  have hversion : KeepsObjects (· = Dict.keeperVersion.key 0 0) u (u.updateEnds 0x0A) := .refl _ u
  have hupdated : (u.updateEnds 0x0A).kp.update = none := rfl
  have hrunning : (u.updateEnds 0x0A).kp.running = u.kp.running := rfl
  generalize u.updateEnds 0x0A = w at hversion hupdated hrunning ⊢
  obtain ⟨hrst, hkept, hruns, -, hkeeps⟩ := w.keeperStarts_serves
  obtain ⟨kkp, krst, -, kkeeps⟩ := w.keeperStarts.updatedRecord_keeps (u.rd Dict.keeperVersion) (imageVersion u.kp.staged) 0x0A k
  generalize State.updatedRecord _ _ _ _ _ = v at kkp krst kkeeps ⊢
  refine ⟨?_, ?_, ?_, ?_⟩
  · exact (congrArg Keeper.update kkp).trans (hkept.trans hupdated)
  · exact (congrArg Keeper.running kkp).trans (hruns.trans hrunning)
  · exact congrArg Resets.keeper (krst.trans hrst)
  · exact (((hversion.trans hkeeps).trans (kkeeps.mono fun _ hk => .inr hk)).within_of hu).rd rfl

end

end

section
variable {dt : Nat} {s u : State} (hu : u = s.elapse dt) (hon : u.coreOn = true)
include hu hon

theorem keeperReset_completes {c : Instr} {cause : Nat} (hc : (c, cause) ∈ [(Instr.keeperScopeReset dt, 0), (Instr.keeperWatchdog dt, 1)]) :
    Does c s (fun t => t.rst.keeper = some (cause, (u.dap.actions.filter (fun a => keeperKeys.contains a.key)).length) ∧
      t.rd Dict.keeperState = 5 ∧ t.kp.update = none ∧ t.dap.reads = [] ∧ t.dap.writes = [] ∧
      ∀ a ∈ t.dap.actions, keeperKeys.contains a.key = false) := by
  have hreset (v : State) (hactions : v.dap.actions = u.dap.actions) :
      ((v.keeperReset cause).within s).rst.keeper = some (cause, (u.dap.actions.filter (fun a => keeperKeys.contains a.key)).length) ∧
      ((v.keeperReset cause).within s).rd Dict.keeperState = 5 ∧ (v.keeperReset cause).kp.update = none ∧
      (v.keeperReset cause).dap.reads = [] ∧ (v.keeperReset cause).dap.writes = [] ∧
      ∀ a ∈ (v.keeperReset cause).dap.actions, keeperKeys.contains a.key = false := by
    obtain ⟨hrst, -, hstate, hreads, hwrites, hgone⟩ := v.keeperStops_halts keeperKeys cause
    rw [hactions] at hrst
    exact ⟨congrArg Resets.keeper hrst, State.stores.rd_within (t := v.keeperReset cause) hstate s, rfl, hreads, hwrites, hgone⟩
  simp only [List.mem_cons, Prod.mk.injEq, List.not_mem_nil, or_false] at hc
  obtain ⟨rfl, rfl⟩ | ⟨rfl, rfl⟩ := hc
  · exact .of_core hu rfl hon (hreset _ rfl)
  · exact .of_core hu rfl hon (hreset _ rfl)

theorem keeperResetDone_starts (hreset : u.rst.keeper.isSome = true) (hupdate : u.kp.update = none) :
    Does (.keeperResetDone dt) s (fun t => t.rst.keeper = none ∧ t.rd Dict.keeperState = bit u.kp.running) := by
  obtain ⟨hrst, -, -, hstate, -⟩ := u.keeperStarts_serves
  refine .of_core hu rfl hon ?_
  rw [hreset, hupdate, if_pos (by decide)]
  have hbit : bit u.kp.running % 2 ^ 8 = bit u.kp.running := by cases u.kp.running <;> rfl
  exact ⟨congrArg Resets.keeper hrst, (hstate.rd_within s).trans hbit⟩

end

/-- Settles O17: an update goes from phase to phase or is given up, and a keeper that stops loses its sessions and its actions. -/
theorem keeperCommandsComplete : Obligations.KeeperCommandsComplete := by
  unfold Obligations.KeeperCommandsComplete
  exact ⟨fun _ _ _ _ _ hu h hdie hidle hrunning => keeperUpdateLive_begins hu h hdie hidle hrunning,
    fun _ _ _ _ _ hu h hdie hidle => keeperUpdateRestart_begins hu h hdie hidle,
    fun _ _ _ _ hu hon hupdate hphase hidle => keeperVerified_goes hu hon hupdate hphase hidle,
    fun _ _ _ _ hu hon hupdate hphase hidle => keeperPersisted_swaps hu hon hupdate hphase hidle,
    fun _ _ _ _ hu hon hupdate hphase hidle => keeperPersisted_fails hu hon hupdate hphase hidle,
    fun _ _ _ _ hu hon hupdate hphase hidle hquiet => keeperQuiescent_pauses hu hon hupdate hphase hidle hquiet,
    fun _ _ _ _ hu hon hupdate hphase hidle hbusy hpassed => keeperQuiescent_fails hu hon hupdate hphase hidle hbusy hpassed,
    fun _ _ _ _ hu hon hupdate hphase => keeperReady_serves hu hon hupdate hphase,
    fun _ _ _ _ hu hon hupdate hphase => keeperReady_returns hu hon hupdate hphase,
    fun _ _ _ _ _ hc hu hon => keeperReset_completes hu hon hc,
    fun _ _ _ hu hon hreset hupdate => keeperResetDone_starts hu hon hreset hupdate⟩

end Sys2Proof.Machine
end

section
/-! Lanes and links: what the operations behind a change of a lane leave as it was (13 R280 to R292). -/

namespace Sys2Proof.Machine

open Sys2Proof

-- one theorem after the other: each theorem that waits for the kernel would hold a thread
set_option Elab.async false

/-- The numbers of the objects of a lane's state machine and loops (OD 3000 on, but the counters of frames and resends), and of
RETRY_LIMIT. -/
abbrev laneObject (k : Nat) : Prop :=
  (0x300000 ≤ k ∧ k % 256 < 0x40 ∧ k % 256 ≠ 7 ∧ k % 256 ≠ 8 ∧ k % 256 ≠ 0x0A) ∨ k = Dict.retryLimit.key 0 0

/-- What an operation on another link or lane leaves of a link: reception as it was, and its unacknowledged frames waiting; frames may
have joined them at this instant. -/
def LinkKept (now : Nat) (l l' : Link) : Prop :=
  l'.expect = l.expect ∧ l'.taken = l.taken ∧ l'.resent = l.resent ∧ (l'.advanced = l.advanced ∨ l'.advanced = now) ∧
    (l.replay ≠ [] → l'.replay ≠ [])

/-- `t` is `s` after operations that leave time, the lanes and their objects, and the links of the groups in `K`; where `R` holds, the
routes too. -/
def LinkFrom (K : Nat → Prop) (R : Prop) (s t : State) : Prop :=
  t.time.now = s.time.now ∧ t.lnk.lanes = s.lnk.lanes ∧ t.lnk.split = s.lnk.split ∧ (R → t.rt = s.rt) ∧ KeepsObjects laneObject s t ∧
    ∀ g, K g → LinkKept s.time.now (s.link g) (t.link g)

theorem LinkKept.refl (now : Nat) (l : Link) : LinkKept now l l := ⟨rfl, rfl, rfl, .inl rfl, id⟩

theorem LinkKept.trans {now : Nat} {l l' l'' : Link} (h : LinkKept now l l') (k : LinkKept now l' l'') : LinkKept now l l'' := by
  obtain ⟨hexpect, htaken, hresent, hadvanced, hreplay⟩ := h
  obtain ⟨kexpect, ktaken, kresent, kadvanced, kreplay⟩ := k
  refine ⟨kexpect.trans hexpect, ktaken.trans htaken, kresent.trans hresent, ?_, fun hl => kreplay (hreplay hl)⟩
  obtain kadvanced | kadvanced := kadvanced
  · rwa [kadvanced]
  · exact .inr kadvanced

theorem State.link_setLink_same (s : State) (g : Nat) (l : Link) : (s.setLink g l).link g = l := Tbl.getD_set_same ..

theorem State.link_setLink_other (s : State) {g k : Nat} (h : k ≠ g) (l : Link) : (s.setLink g l).link k = s.link k :=
  Tbl.getD_set_other _ _ _ _ _ h.symm

namespace LinkFrom

variable {K : Nat → Prop} {R : Prop}

theorem refl (s : State) : LinkFrom K R s s := ⟨rfl, rfl, rfl, fun _ => rfl, .refl _ s, fun _ _ => .refl ..⟩

section
variable {s t : State} (h : LinkFrom K R s t)
include h

theorem trans {u : State} (k : LinkFrom K R t u) : LinkFrom K R s u := by
  obtain ⟨hnow, hlanes, hsplit, hrt, hobjects, hlinks⟩ := h
  obtain ⟨know, klanes, ksplit, krt, kobjects, klinks⟩ := k
  rw [hnow] at klinks
  exact ⟨know.trans hnow, klanes.trans hlanes, ksplit.trans hsplit, fun hR => (krt hR).trans (hrt hR), hobjects.trans kobjects,
    fun g hg => (hlinks g hg).trans (klinks g hg)⟩

theorem ite {c : Prop} [Decidable c] {u : State} (k : LinkFrom K R s u) : LinkFrom K R s (if c then t else u) := by
  split
  · exact h
  · exact k

theorem foldl {α : Type} {f : State → α → State} {l : List α} (hf : ∀ {u : State} (a : α), LinkFrom K R s u → LinkFrom K R s (f u a)) :
    LinkFrom K R s (l.foldl f t) :=
  List.foldlRecOn l f h fun _ hu a _ => hf a hu

/-! ### Objects and records -/

theorem wr {o : Ob} {v m j : Nat} (ho : ¬ laneObject (o.key m j)) : LinkFrom K R s (t.wr o v m j) := by
  obtain ⟨hnow, hlanes, hsplit, hrt, hobjects, hlinks⟩ := h
  exact ⟨hnow, hlanes, hsplit, hrt, hobjects.trans (.wr t o v m j ho), hlinks⟩

theorem bumpSat {o : Ob} {m j n : Nat} (ho : ¬ laneObject (o.key m j)) : LinkFrom K R s (t.bumpSat o m j n) := h.wr ho

theorem drawn : LinkFrom K R s t.drawn := h

theorem setGq {g : Nat} {q : GroupQ} : LinkFrom K R s (t.setGq g q) := h

theorem refresh {g : Nat} : LinkFrom K R s (t.refresh g) := h

theorem setBar {b : Barriers} : LinkFrom K R s (t.setBar b) := h

theorem setDap {x : Dap} : LinkFrom K R s { t with dap := x } := h

theorem setSch {x : Sched} : LinkFrom K R s { t with sch := x } := h

theorem setPtp {q : Nat} {l : PtpLane} : LinkFrom K R s (t.setPtp q l) := h

/-- Routes change where they do not count. -/
theorem setRt {x : Routes} (hR : ¬ R) : LinkFrom K R s { t with rt := x } := by
  obtain ⟨hnow, hlanes, hsplit, -, hobjects, hlinks⟩ := h
  exact ⟨hnow, hlanes, hsplit, fun hyes => absurd hyes hR, hobjects, hlinks⟩

theorem raised {u : State} (k : RaisedFrom t u) (hkeeps : KeepsUnrecorded t u) : LinkFrom K R s u := by
  have hother : ∀ o ∈ recordObjects, ¬ laneObject (o.key 0 0) := by decide
  have hobjects : KeepsObjects laneObject t u := hkeeps.mono fun k hk o ho hko => hother o ho (by rwa [← hko])
  obtain ⟨_, _, _, _, _, _, _, _, _, rfl⟩ := k
  exact h.trans ⟨rfl, rfl, rfl, fun _ => rfl, hobjects, fun _ _ => .refl ..⟩

theorem raiseAt {f a : Bool} {ty pl tm fr : Nat} : LinkFrom K R s (t.raiseAt f a ty pl tm fr) :=
  h.raised (.raiseAt ..) (KeepsUnrecorded.raiseAt ..)

theorem raiseO {ty pl : Nat} : LinkFrom K R s (t.raiseO ty pl) := h.raiseAt

theorem wake {source detail cls : Nat} : LinkFrom K R s (t.wake source detail cls) := by
  obtain ⟨_, hwake⟩ := t.wake_only source detail cls
  rw [hwake]
  exact h

theorem raiseIsland {f a : Bool} {ty pl tm fr : Nat} : LinkFrom K R s (t.raiseIsland f a ty pl tm fr) := by
  unfold State.raiseIsland
  extract_lets _ s1
  have hs1 : LinkFrom K R s s1 := h
  exact .ite h.raiseAt (.ite hs1.wake hs1)

theorem raiseIslandNow {f a : Bool} {ty pl : Nat} : LinkFrom K R s (t.raiseIslandNow f a ty pl) := h.raiseIsland

/-! ### Queues and responses -/

theorem queued {u : State} (k : QueuedFrom t u) : LinkFrom K R s u := by
  obtain ⟨_, rfl⟩ := k
  exact h

theorem enqueue {g c : Nat} {f : QFrame} : LinkFrom K R s (t.enqueue g c f) := h.queued (t.enqueue_only g c f)

theorem endRuns {c level die : Nat} : LinkFrom K R s (t.endRuns c level die) := h.setSch.foldl fun _ hu => hu.raiseO

theorem drop {g c level die cseq reason : Nat} (hc : c < 8) : LinkFrom K R s (t.drop g c level die cseq reason) := by
  have hcounter : ¬ laneObject (Dict.grpDrops.key g c) := by
    unfold laneObject Ob.key
    simp only [Dict.grpDrops, Dict.retryLimit]
    omega
  unfold State.drop
  extract_lets joins s1 s2
  have hs1 : LinkFrom K R s s1 := h.bumpSat hcounter
  split
  · exact hs1
  · exact hs1.endRuns

theorem sendRelay {g r : Nat} {f : QFrame} : LinkFrom K R s (t.sendRelay g r f) := (h.bumpSat (by decide)).foldl fun _ hu => hu.enqueue

theorem redirect {g r c : Nat} {f : QFrame} (hc : c < 8) : LinkFrom K R s (t.redirect g r c f) := by
  unfold State.redirect
  split
  case h_1 => exact .ite h.enqueue h.sendRelay
  case h_2 | h_3 => exact h.bumpSat (by decide)
  case h_4 | h_5 | h_6 | h_7 => exact h
  case h_8 | h_9 | h_10 | h_11 => exact h.drop hc
  all_goals exact h.enqueue

theorem enqueueUp {frame c : Nat} {f : QFrame} (hc : c < 8) : LinkFrom K R s (t.enqueueUp frame c f) := by
  unfold State.enqueueUp
  split
  · exact h
  · split
    · exact h.enqueue
    · exact h.redirect hc

theorem answer {src : DapSource} {r : DapReq} {st co total retry : Nat} {data : Bytes} :
    LinkFrom K R s (t.answer src r st co total data retry) := by
  obtain ⟨_, _, _, hanswer⟩ := t.answer_only src r st co total data retry
  rw [hanswer]
  exact h

theorem answerLost {src : DapSource} {r : DapReq} {reason : Nat} : LinkFrom K R s (t.answerLost src r reason) :=
  (h.bumpSat (by decide)).answer

theorem losePendings {gone : DapPending → Bool} {reason : Nat} : LinkFrom K R s (t.losePendings gone reason) :=
  h.setDap.foldl fun _ hu => hu.answerLost

theorem fitAlarms {l : List AlarmEntry} : LinkFrom K R s (t.fitAlarms l) := h.setSch.wr (by decide)

/-! ### Frames of links (13 R280 to R283) -/

/-- A link changes as an operation on another one may leave it. -/
theorem setLink {g : Nat} {l : Link} (hl : K g → LinkKept t.time.now (t.link g) l) : LinkFrom K R s (t.setLink g l) := by
  refine h.trans ⟨rfl, rfl, rfl, fun _ => rfl, .refl _ t, fun k hk => ?_⟩
  by_cases hkg : k = g
  · subst hkg
    rw [State.link_setLink_same]
    exact hl hk
  · rw [State.link_setLink_other t hkg]
    exact .refl ..

theorem txOn {q : Nat} {b : Bytes} : LinkFrom K R s (t.txOn q b) := by
  have hcounter : ¬ laneObject (Dict.laneFramesTx.key q 0) := by
    unfold laneObject Ob.key
    simp only [Dict.laneFramesTx, Dict.retryLimit]
    omega
  obtain ⟨c, hcounted⟩ := ((t.emit (.frame q (startBlock ++ b))).bump Dict.laneFramesTx q).countPort_only q 0 b.length
  rw [State.txOn, hcounted]
  exact wr (t := t.emit (.frame q (startBlock ++ b))) h hcounter

theorem rxOn {q n : Nat} : LinkFrom K R s (t.rxOn q n) := by
  have hcounter : ¬ laneObject (Dict.laneFramesRx.key q 0) := by
    unfold laneObject Ob.key
    simp only [Dict.laneFramesRx, Dict.retryLimit]
    omega
  obtain ⟨c, hcounted⟩ := (t.bump Dict.laneFramesRx q).countPort_only q 1 (frameBytes n)
  rw [State.rxOn, hcounted]
  exact h.wr hcounter

theorem sendSeq {g typ cls : Nat} {q : QFrame} : LinkFrom K R s (t.sendSeq g typ cls q) := by
  unfold State.sendSeq
  extract_lets l f l1
  have hl : LinkKept t.time.now l l1 := by
    refine ⟨rfl, rfl, rfl, ?_, fun _ => List.append_ne_nil_of_right_ne_nil _ (List.cons_ne_nil f [])⟩
    dsimp only [l1]
    split
    · exact .inr rfl
    · exact .inl rfl
  clear_value l1
  exact (h.setLink fun _ => hl).txOn

theorem sendCtl {g typ : Nat} {b : Bytes} : LinkFrom K R s (t.sendCtl g typ b) := .ite h.txOn h

theorem sendCredit {g : Nat} : LinkFrom K R s (t.sendCredit g) := by
  have hl : LinkKept t.time.now (t.link g) { t.link g with lastCredit := t.time.now } := .refl ..
  exact (h.setLink fun _ => hl).sendCtl

theorem sendRoute {g typ : Nat} {b : Bytes} : LinkFrom K R s (t.sendRoute g typ b) := by
  have hl : LinkKept t.time.now (t.link g) { t.link g with waiting := (t.link g).waiting ++ [(typ, b)] } := .refl ..
  exact .ite h (.ite h.sendSeq (h.setLink fun _ => hl))

theorem freeCredit {g : Nat} : LinkFrom K R s (t.freeCredit g) := by
  have hl : LinkKept t.time.now (t.link g)
      { t.link g with withheld := (t.link g).withheld.filter fun e => t.withholds g e.1 } := .refl ..
  exact h.setLink fun _ => hl

theorem releaseCredits : LinkFrom K R s t.releaseCredits := h.foldl fun _ hu => hu.freeCredit.sendCredit

/-! ### Messages down (09 R182, R195, R196) -/

theorem growTrees : LinkFrom K R s t.growTrees := .ite h h.setBar

theorem reissueFor {m : DownMsg} {g : Nat} : LinkFrom K R s (t.reissueFor m g) := by
  unfold State.reissueFor
  extract_lets resync target
  clear_value target
  split
  · exact h
  · exact .ite h (setBar h.enqueue)

theorem nack {m : DownMsg} {g : Nat} : LinkFrom K R s (t.nack m g) := (h.bumpSat (by decide)).reissueFor

theorem sendPorts {m : DownMsg} {ports : List Nat} : LinkFrom K R s (t.sendPorts m ports) := by
  unfold State.sendPorts
  extract_lets mm up s1
  have hs1 : LinkFrom K R s s1 := (h.foldl fun _ hu => hu.enqueue).setBar
  exact (hs1.foldl fun _ hu => hu.nack).setBar

theorem sendLeaves {m : DownMsg} {ports : List Nat} : LinkFrom K R s (t.sendLeaves m ports) := by
  refine h.foldl fun _ hu => ?_
  split
  · exact hu.sendPorts
  · exact hu

theorem sendResync {g : Nat} : LinkFrom K R s (t.sendResync g) :=
  .ite h (.ite h.sendLeaves (h.foldl fun _ hu => hu.sendPorts))

theorem linkLost {g : Nat} : LinkFrom K R s (t.linkLost g) := (h.setBar.foldl fun _ hu => .ite hu.reissueFor hu.nack).setBar

theorem sendArrival {a : LeafArrival} : LinkFrom K R s (t.sendArrival a) := h.enqueueUp (by decide)

theorem sendBarrier {b : OpenBarrier} : LinkFrom K R s (t.sendBarrier b) := (h.enqueueUp (by decide)).setBar

theorem resendBarriers : LinkFrom K R s t.resendBarriers := .ite (h.foldl fun _ hu => hu.sendArrival) (h.foldl fun _ hu => hu.sendBarrier)

/-! ### The clock (02 R31) -/

theorem setClock {v : Nat} : LinkFrom K R s (t.setClock v) := h.wr (o := Dict.clockState) (v := v) (m := 0) (j := 0) (by decide)

theorem toHoldover : LinkFrom K R s t.toHoldover := h.setClock.raiseIslandNow

theorem slaveChanged {before : Option Nat} : LinkFrom K R s (t.slaveChanged before) := by
  unfold State.slaveChanged
  extract_lets after s1
  have hs1 : LinkFrom K R s s1 := by
    unfold s1
    clear_value after
    split
    · exact .ite h h.setPtp
    · exact h
  clear_value s1 after
  refine .ite hs1 ?_
  split
  · exact .ite hs1 (.ite hs1.setClock hs1.toHoldover)
  · exact hs1.toHoldover
  · exact hs1

/-! ### Traffic that moves (13 R287 to R292) -/

theorem sendRoutes {g ff kind leg : Nat} {dies : List Nat} : LinkFrom K R s (t.sendRoutes g ff kind leg dies) :=
  h.foldl fun _ hu => hu.sendRoute

theorem sendJoin : LinkFrom K R s t.sendJoin := by
  unfold State.sendJoin
  split
  · exact .ite h.sendRoutes h
  · exact h

theorem moveTraffic {g k : Nat} : LinkFrom K R s (t.moveTraffic g k) := by
  unfold State.moveTraffic
  extract_lets q fs s1
  have hs1 : LinkFrom K R s s1 := h.setGq.refresh
  have hclass : ∀ e ∈ fs, e.1 < 8 := by
    intro e he
    obtain ⟨c, hc, hec⟩ := List.mem_flatMap.mp he
    obtain ⟨f, -, rfl⟩ := List.mem_map.mp hec
    have hlt : ∀ c ∈ ([1, 2, 3, 4, 5, 6, 7] : List Nat), c < 8 := by decide
    exact hlt c hc
  exact resendBarriers (List.foldlRecOn fs _ hs1 fun _ hu e he => hu.redirect (hclass e he))

theorem settleMoved : LinkFrom K R s t.settleMoved :=
  h.foldl fun _ hu => by
    split
    · split
      · exact hu.moveTraffic
      · exact hu
    · exact hu

theorem sendParentLost : LinkFrom K R s t.sendParentLost := .ite h (h.foldl fun _ hu => hu.sendRoute)

/-- What was lost with a link is put back into its queues. -/
theorem putBack {g : Nat} (hg : ¬ K g) : LinkFrom K R s (t.putBack g) := (h.setGq.setLink fun hk => absurd hk hg).fitAlarms

/-! ### Moves and groups (13 R288 to R292) -/

section
variable (hR : ¬ R)
include hR

theorem decideMove {buddy : Bool} {code : Nat} : LinkFrom K R s (t.decideMove buddy code) := by
  unfold State.decideMove
  split
  · exact h
  · extract_lets before old ff home _ s1 s2
    have hs1 : LinkFrom K R s s1 := h.setRt hR
    have hs2 : LinkFrom K R s s2 := ((hs1.wr (o := Dict.routeFrom) (by decide)).bumpSat (o := Dict.routeMoves) (by decide)).raiseIslandNow
    exact hs2.sendRoutes.settleMoved.slaveChanged

theorem decideTrigger {m : MoveTrigger} : LinkFrom K R s (t.decideTrigger m) := by
  unfold State.decideTrigger
  extract_lets cur
  split
  · exact .ite (.ite (h.decideMove hR) h) (.ite (h.decideMove hR) h)
  · exact .ite (h.decideMove hR) h
  · exact .ite (h.decideMove hR) h
  · exact .ite (h.decideMove hR) h

theorem trigger {m : MoveTrigger} : LinkFrom K R s (t.trigger m) := .ite h (.ite (h.setRt hR) (h.decideTrigger hR))

theorem groupLost {g : Nat} (hg : ¬ K g) : LinkFrom K R s (t.groupLost g) := by
  unfold State.groupLost
  extract_lets s1 q stays s2 s3 _
  have hs1 : LinkFrom K R s s1 := (h.putBack hg).refresh.linkLost
  have hs2 : LinkFrom K R s s2 := hs1.setGq.refresh
  have hs3 : LinkFrom K R s s3 := hs1.losePendings
  clear_value s1 s2 s3
  refine .ite hs2.losePendings ?_
  split
  · exact hs3
  · extract_lets s4 s5
    have hs4 : LinkFrom K R s s4 := .ite hs3 (hs3.setRt hR)
    have hs5 : LinkFrom K R s s5 := .ite (hs4.trigger hR) hs4
    exact hs5.settleMoved.sendParentLost

theorem upwardReached {b : Bool} : LinkFrom K R s (t.upwardReached b) := by
  unfold State.upwardReached
  extract_lets first _ s2
  have hs2 : LinkFrom K R s s2 := .ite h (h.setRt hR)
  exact .ite hs2.sendJoin (.ite (hs2.trigger hR) (.ite (hs2.decideMove hR) (.ite hs2.sendJoin hs2)))

end

theorem answerOwed {g : Nat} : LinkFrom K R s (t.answerOwed g) := by
  unfold State.answerOwed
  extract_lets mine
  have hheld (x : Resets) : LinkFrom K R s { t with rst := x } := h
  exact (hheld _).foldl fun _ hu => hu.answerLost

theorem persist : LinkFrom K R s t.persist := by
  unfold State.persist
  split
  · exact h
  · split
    · exact h
    · exact h

end

/-- A link that has come up starts afresh. -/
theorem groupReached {s t : State} {g : Nat} (h : LinkFrom K R s (t.setLink g { lastCredit := t.time.now })) (hR : ¬ R) :
    LinkFrom K R s (t.groupReached g) := by
  unfold State.groupReached
  extract_lets s1
  have hs1 : LinkFrom K R s s1 := h.refresh.answerOwed
  clear_value s1
  refine releaseCredits (ite hs1.growTrees.sendResync ?_)
  split
  · exact hs1
  · exact hs1.upwardReached hR

/-- Fewer links, or routes that do not count. -/
theorem weaken {K' : Nat → Prop} {R' : Prop} {s t : State} (h : LinkFrom K R s t) (hK : ∀ g, K' g → K g) (hR : R' → R) : LinkFrom K' R' s t := by
  obtain ⟨hnow, hlanes, hsplit, hrt, hobjects, hlinks⟩ := h
  exact ⟨hnow, hlanes, hsplit, fun hyes => hrt (hR hyes), hobjects, fun g hg => hlinks g (hK g hg)⟩

/-! ### What is kept -/

section
variable {s t : State} (h : LinkFrom K R s t)
include h

theorem now : t.time.now = s.time.now := h.1

theorem objects : KeepsObjects laneObject s t := h.2.2.2.2.1

theorem rdLane {o : Ob} (ho : o.idx = 0x3000 ∧ o.sub < 0x40 ∧ o.sub ≠ 7 ∧ o.sub ≠ 8 ∧ o.sub ≠ 0x0A) (p : Nat) : t.rd o p = s.rd o p :=
  h.objects.rd (.inl (by unfold Ob.key; omega))

theorem lane (p : Nat) : t.lane p = s.lane p := congrArg (fun l => Tbl.getD l p ({} : Lane)) h.2.1

theorem laneUp (p : Nat) : t.laneUp p = s.laneUp p := by
  simp only [State.laneUp, h.rdLane (o := Dict.laneState) (by decide)]

theorem link {g : Nat} (hg : K g) : LinkKept s.time.now (s.link g) (t.link g) := h.2.2.2.2.2 g hg

end

end LinkFrom

end Sys2Proof.Machine
end

section
/-! The lane state machine (13 R284 to R286, R444, Table 13-5). -/

namespace Sys2Proof.Machine

open Sys2Proof

-- one theorem after the other: each theorem that waits for the kernel would hold a thread
set_option Elab.async false

/-! ### Reading what an operation leaves -/

/-- An object reads the same once the command is done. -/
theorem KeepsObjects.rd_done {P : Nat → Prop} {dt : Nat} {s u v : State} (h : KeepsObjects P u v) (hu : u = s.elapse dt) (o : Ob) (m j : Nat) :
    (v.within s).rd o m j = v.rd o m j := by
  obtain ⟨hbuild, hrole, -⟩ := h.within_of hu
  obtain ⟨hbuild', hrole', -⟩ := h
  have hb : (v.within s).build = v.build := hbuild.trans hbuild'.symm
  have hr : (v.within s).role = v.role := hrole.trans hrole'.symm
  show Tbl.getD v.regs (o.key m j) (o.init (v.within s).build (v.within s).role m) = _
  rw [hb, hr]
  rfl

/-- Of the things that a fold goes through one counts: the others leave what `Rel` says. -/
theorem State.foldl_through {Rel : State → State → Prop} {f : State → Nat → State} {p : Nat} (hrefl : ∀ s, Rel s s)
    (htrans : ∀ {s t u}, Rel s t → Rel t u → Rel s u) (hf : ∀ t q, q ≠ p → Rel t (f t q)) {l : List Nat} (hl : l.Nodup) (hp : p ∈ l)
    (s : State) : ∃ v, Rel s v ∧ Rel (f v p) (l.foldl f s) := by
  obtain ⟨front, back, rfl⟩ := List.append_of_mem hp
  have hothers (k : List Nat) (hk : p ∉ k) (t : State) : Rel t (k.foldl f t) :=
    List.foldlRecOn k f (hrefl t) fun _ hv q hq => htrans hv (hf _ q fun e => hk (e ▸ hq))
  rw [List.nodup_append] at hl
  obtain ⟨-, hback, hdisjoint⟩ := hl
  refine ⟨front.foldl f s, hothers front (fun hmem => hdisjoint p hmem p List.mem_cons_self rfl) s, ?_⟩
  rw [List.foldl_append, List.foldl_cons]
  exact hothers back (List.nodup_cons.mp hback).1 _

theorem State.lane_setLane_same (s : State) (p : Nat) (l : Lane) : (s.setLane p l).lane p = l := Tbl.getD_set_same ..

theorem State.lane_setLane_other (s : State) {p q : Nat} (h : q ≠ p) (l : Lane) : (s.setLane p l).lane q = s.lane q :=
  Tbl.getD_set_other _ _ _ _ _ h.symm

section
variable {c : Instr} {dt p st : Nat} {s u : State} {P : State → Prop} (hu : u = s.elapse dt) (hreset : u.inReset = false)
include hu hreset

/-- An event of a lane in its state completes with its effect. -/
theorem Does.of_laneEvent {f : State → State} (hp : p < u.ports) (hexec : exec c s = .next (s.laneEvent dt p st f))
    (hstate : u.rd Dict.laneState p = st) (hP : P ((f u).within s)) : Does c s P := by
  have hacts : ¬ (u.inReset || !decide (p < u.ports) || u.rd Dict.laneState p != st) = true := by simp [hreset, hp, hstate]
  refine .of_after hu hexec ?_
  rw [if_neg hacts]
  exact hP

/-- A frame without a sequence number on a lane with block lock completes with its effect. -/
theorem Does.of_rxFrame {n : Nat} {act : State → State} (hp : p < u.ports) (hexec : exec c s = .next (s.rxFrame dt p n act))
    (hstate : 2 ≤ u.rd Dict.laneState p) (hP : P ((act (u.rxOn p n)).within s)) : Does c s P := by
  have hacts : ¬ (u.inReset || !decide (p < u.ports) || decide (u.rd Dict.laneState p < 2)) = true := by
    simp [hreset, hp, Nat.not_lt.mpr hstate]
  refine .of_after hu hexec ?_
  rw [if_neg hacts]
  exact hP

end

/-! ### A lane enters a state (Table 13-5) -/

/-- The lane as a state of its machine finds it. -/
def Lane.entering (l : Lane) (now cause : Nat) : Lane :=
  { l with entered := now, cause := cause, looped := false, identAt := none, identSeen := false, identDone := false }

/-- Lane p of `t` has entered a state of its machine from `s`. -/
structure LaneEntered (s : State) (p st step cause : Nat) (t : State) : Prop where
  state : t.rd Dict.laneState p = st
  step : t.rd Dict.laneTrainStep p = step
  lane : t.lane p = (s.lane p).entering s.time.now cause

theorem State.laneTo_keeps (s : State) (p st step cause : Nat) :
    KeepsObjects (fun k => k ≠ Dict.laneState.key p 0 ∧ k ≠ Dict.laneTrainStep.key p 0) s (s.laneTo p st step cause) := by
  have hwritten : KeepsObjects (fun k => k ≠ Dict.laneState.key p 0 ∧ k ≠ Dict.laneTrainStep.key p 0) s
      ((s.wr Dict.laneState st p).wr Dict.laneTrainStep step p) :=
    (KeepsObjects.wr s Dict.laneState st p 0 fun hk => hk.1 rfl).trans (.wr _ Dict.laneTrainStep step p 0 fun hk => hk.2 rfl)
  exact hwritten

theorem State.laneTo_entered (s : State) (p : Nat) {st step : Nat} (hst : st < 256) (hstep : step < 256) (cause : Nat) :
    LaneEntered s p st step cause (s.laneTo p st step cause) where
  state := by
    have hstored := (s.stores_wr Dict.laneState st p 0).wr_other (o' := Dict.laneTrainStep) (by decide) step p
    exact hstored.rd.trans (Nat.mod_eq_of_lt hst)
  step := (State.rd_wr_same ..).trans (Nat.mod_eq_of_lt hstep)
  lane := State.lane_setLane_same ..

/-- The objects of a lane, by another subindex than the state's and the step's. -/
theorem State.rd_laneTo {o : Ob} (s : State) (p st step cause : Nat) (ho : o.sub % 256 ≠ 2 ∧ o.sub % 256 ≠ 3) :
    (s.laneTo p st step cause).rd o p = s.rd o p :=
  (s.laneTo_keeps p st step cause).rd ⟨Ob.key_ne_of_sub ho.1 p p, Ob.key_ne_of_sub ho.2 p p⟩

theorem LaneEntered.later {K : Nat → Prop} {R : Prop} {s t v : State} {p st step cause : Nat} (h : LaneEntered s p st step cause t)
    (k : LinkFrom K R t v) : LaneEntered s p st step cause v where
  state := (k.rdLane (by decide) p).trans h.state
  step := (k.rdLane (by decide) p).trans h.step
  lane := (k.lane p).trans h.lane

theorem LaneEntered.done {P : Nat → Prop} {dt : Nat} {s t v w : State} {p st step cause : Nat} (h : LaneEntered s p st step cause v)
    (hu : t = w.elapse dt) (k : KeepsObjects P t v) : LaneEntered s p st step cause (v.within w) where
  state := (k.rd_done hu ..).trans h.state
  step := (k.rd_done hu ..).trans h.step
  lane := h.lane

/-- An UP lane has left UP, and what follows is to come. -/
def State.laneLeft (s : State) (p cause st step : Nat) : State := (s.laneTo p st step cause).bumpSat Dict.laneDownEvents p

theorem State.laneLeft_entered (s : State) (p : Nat) {st step : Nat} (hst : st < 256) (hstep : step < 256) (cause : Nat) :
    LaneEntered s p st step cause (s.laneLeft p cause st step) := by
  obtain ⟨hstate, hstep, hlane⟩ := s.laneTo_entered p hst hstep cause
  exact ⟨(State.rd_wr_other _ _ _ _ _ _ _ _ (Ob.key_ne_of_sub (by decide) p p)).trans hstate,
    (State.rd_wr_other _ _ _ _ _ _ _ _ (Ob.key_ne_of_sub (by decide) p p)).trans hstep, hlane⟩

theorem State.rd_laneLeft {o : Ob} (s : State) (p cause st step : Nat) (ho : o.sub % 256 ≠ 2 ∧ o.sub % 256 ≠ 3 ∧ o.sub % 256 ≠ 0x0B) :
    (s.laneLeft p cause st step).rd o p = s.rd o p :=
  (State.rd_wr_other _ _ _ _ _ _ _ _ (Ob.key_ne_of_sub (Ne.symm ho.2.2) p p)).trans (s.rd_laneTo p st step cause ⟨ho.1, ho.2.1⟩)

theorem State.laneLeft_events (s : State) (p cause st step : Nat) :
    (s.laneLeft p cause st step).rd Dict.laneDownEvents p = satTo 32 (s.rd Dict.laneDownEvents p + 1) := by
  rw [← s.rd_laneTo (o := Dict.laneDownEvents) p st step cause (by decide)]
  exact (State.stores_bumpSat _ Dict.laneDownEvents p 0 1).rd

/-- What a lane that leaves UP brings about leaves lanes alone, and the links of other groups. -/
theorem State.leaveUp_from (s : State) (p cause st step : Nat) (alarm : Bool) :
    LinkFrom (· ≠ s.groupOf p) False (s.laneLeft p cause st step) (s.leaveUp p cause st step alarm) := by
  unfold State.leaveUp
  extract_lets before g s1 s2 _ s3
  have hs3 : LinkFrom (· ≠ g) False (s.laneLeft p cause st step) s3 := (LinkFrom.refl _).wake.raiseIslandNow.setPtp
  clear_value s3 before
  have hlost : LinkFrom (· ≠ g) False (s.laneLeft p cause st step) (if s3.groupUp g then s3.refresh g else s3.groupLost g) :=
    .ite hs3.refresh (hs3.groupLost not_false (not_not.mpr rfl))
  exact hlost.slaveChanged

theorem State.laneLeft_keeps (s : State) (p cause st step : Nat) : KeepsObjects (fun _ => False) s (s.laneLeft p cause st step) :=
  ((s.laneTo_keeps p st step cause).mono fun _ => False.elim).trans (.wr _ _ _ _ _ id)

theorem State.leaveUp_entered (s : State) (p : Nat) {st step : Nat} (hst : st < 256) (hstep : step < 256) (cause : Nat) (alarm : Bool) :
    LaneEntered s p st step cause (s.leaveUp p cause st step alarm) :=
  (s.laneLeft_entered p hst hstep cause).later (s.leaveUp_from p cause st step alarm)

theorem State.leaveUp_keeps (s : State) (p cause st step : Nat) (alarm : Bool) :
    KeepsObjects (fun _ => False) s (s.leaveUp p cause st step alarm) :=
  (s.laneLeft_keeps p cause st step).trans ((s.leaveUp_from p cause st step alarm).objects.mono fun _ => False.elim)

/-- An object of a lane that leaves UP, but those of its state. -/
theorem State.rd_leaveUp {o : Ob} (s : State) (p cause st step : Nat) (alarm : Bool)
    (ho : o.idx = 0x3000 ∧ o.sub < 0x40 ∧ o.sub ≠ 7 ∧ o.sub ≠ 8 ∧ o.sub ≠ 0x0A) (hkept : o.sub % 256 ≠ 2 ∧ o.sub % 256 ≠ 3 ∧ o.sub % 256 ≠ 0x0B) :
    (s.leaveUp p cause st step alarm).rd o p = s.rd o p :=
  ((s.leaveUp_from p cause st step alarm).rdLane ho p).trans (s.rd_laneLeft p cause st step hkept)

/-- A lane in TRAINING has failed. -/
theorem State.trainFail_fails (v : State) (p : Nat) : KeepsObjects (fun _ => False) v (v.trainFail p) ∧
    (v.trainFail p).rd Dict.laneState p = 4 ∧ ((v.trainFail p).lane p).cause = (v.lane p).cause ∧
    (v.trainFail p).rd Dict.laneTrainFails p = satTo 32 (v.rd Dict.laneTrainFails p + 1) := by
  obtain ⟨hstate, -, hlane⟩ := v.laneTo_entered p (st := 4) (step := 0xFF) (by decide) (by decide) (v.lane p).cause
  have hcause : ((v.laneTo p 4 0xFF (v.lane p).cause).lane p).cause = (v.lane p).cause := by rw [hlane]; rfl
  refine ⟨((v.laneTo_keeps ..).mono fun _ => False.elim).trans (.wr _ _ _ _ _ id),
    (State.rd_wr_other _ _ _ _ _ _ _ _ (Ob.key_ne_of_sub (by decide) p p)).trans hstate, hcause, ?_⟩
  rw [← v.rd_laneTo (o := Dict.laneTrainFails) p 4 0xFF (v.lane p).cause (by decide)]
  exact (State.stores_bumpSat _ Dict.laneTrainFails p 0 1).rd

/-! ### LANE_ENABLE (13 R284) -/

/-- LANE_ENABLE has taken a value, and its consequences are to come. -/
def State.enableTaken (s : State) (p v : Nat) : State := (s.wr Dict.laneEnable v p).persist

section
variable (s : State) (p v : Nat)

theorem State.enableTaken_from : LinkFrom (fun _ => True) True (s.wr Dict.laneEnable v p) (s.enableTaken p v) := (LinkFrom.refl _).persist

theorem State.enableTaken_enable (hv : v < 256) : (s.enableTaken p v).rd Dict.laneEnable p = v :=
  ((s.enableTaken_from p v).rdLane (by decide) p).trans ((State.rd_wr_same ..).trans (Nat.mod_eq_of_lt hv))

theorem State.enableTaken_state : (s.enableTaken p v).rd Dict.laneState p = s.rd Dict.laneState p :=
  ((s.enableTaken_from p v).rdLane (by decide) p).trans (State.rd_wr_other _ _ _ _ _ _ _ _ (Ob.key_ne_of_sub (by decide) p p))

theorem State.enableTaken_keeps : KeepsObjects (fun _ => False) s (s.enableTaken p v) :=
  (KeepsObjects.wr s Dict.laneEnable v p 0 id).trans ((s.enableTaken_from p v).objects.mono fun _ => False.elim)

/-- A lane that is enabled leaves DISABLED for DOWN, and any other state not. -/
theorem State.setLaneEnable_on : KeepsObjects (fun _ => False) s (State.setLaneEnable p 1 s) ∧
    (State.setLaneEnable p 1 s).rd Dict.laneEnable p = 1 ∧
    (State.setLaneEnable p 1 s).rd Dict.laneState p = if s.rd Dict.laneState p = 0 then 1 else s.rd Dict.laneState p := by
  have heq : State.setLaneEnable p 1 s =
      if (s.enableTaken p 1).rd Dict.laneState p = 0 then (s.enableTaken p 1).laneTo p 1 0xFF 0 else s.enableTaken p 1 := rfl
  rw [heq, s.enableTaken_state p 1]
  split
  next h =>
    refine ⟨(s.enableTaken_keeps p 1).trans ((State.laneTo_keeps ..).mono fun _ => False.elim), ?_, (State.laneTo_entered _ p (by decide) (by decide) 0).state⟩
    exact (State.rd_laneTo _ p 1 0xFF 0 (by decide)).trans (s.enableTaken_enable p 1 (by decide))
  next h => exact ⟨s.enableTaken_keeps p 1, s.enableTaken_enable p 1 (by decide), s.enableTaken_state p 1⟩

/-- A lane that is disabled leaves whatever state it was in. -/
theorem State.setLaneEnable_off : KeepsObjects (fun _ => False) s (State.setLaneEnable p 0 s) ∧
    (State.setLaneEnable p 0 s).rd Dict.laneEnable p = 0 ∧ (State.setLaneEnable p 0 s).rd Dict.laneState p = 0 ∧
    (s.isTrayChip = true → (State.setLaneEnable p 0 s).rd Dict.laneLaserBias p = 0) := by
  have heq : State.setLaneEnable p 0 s =
      (if (s.enableTaken p 0).laneUp p then (s.enableTaken p 0).leaveUp p 3 0 0xFF true
       else if (s.enableTaken p 0).rd Dict.laneState p = 0 then s.enableTaken p 0
       else (s.enableTaken p 0).laneTo p 0 0xFF 0).laserOff p := rfl
  rw [heq]
  have henable := s.enableTaken_enable p 0 (by decide)
  have hkeeps := s.enableTaken_keeps p 0
  generalize s.enableTaken p 0 = e at henable hkeeps
  have hdisabled : ∃ w, (if e.laneUp p then e.leaveUp p 3 0 0xFF true else if e.rd Dict.laneState p = 0 then e else e.laneTo p 0 0xFF 0) = w ∧
      KeepsObjects (fun _ => False) s w ∧ w.rd Dict.laneEnable p = 0 ∧ w.rd Dict.laneState p = 0 := by
    refine ⟨_, rfl, ?_⟩
    split
    · exact ⟨hkeeps.trans (e.leaveUp_keeps ..), (e.rd_leaveUp p 3 0 0xFF true (by decide) (by decide)).trans henable,
        (e.leaveUp_entered p (by decide) (by decide) 3 true).state⟩
    · split
      next h => exact ⟨hkeeps, henable, h⟩
      next h => exact ⟨hkeeps.trans ((e.laneTo_keeps ..).mono fun _ => False.elim), (e.rd_laneTo p 0 0xFF 0 (by decide)).trans henable,
          (e.laneTo_entered p (by decide) (by decide) 0).state⟩
  obtain ⟨w, hw, hkept, henabled, hstate⟩ := hdisabled
  rw [hw]
  unfold State.laserOff
  split
  next => exact ⟨hkept.trans (.wr _ _ _ _ _ id), (State.rd_wr_other _ _ _ _ _ _ _ _ (Ob.key_ne_of_sub (by decide) p p)).trans henabled,
      (State.rd_wr_other _ _ _ _ _ _ _ _ (Ob.key_ne_of_sub (by decide) p p)).trans hstate, fun _ => State.rd_wr_same ..⟩
  next htray =>
    refine ⟨hkept, henabled, hstate, fun h => absurd ?_ htray⟩
    rwa [State.isTrayChip, hkept.1]

end

section
variable {dt : Nat} {s u : State} (hu : u = s.elapse dt)
include hu

section
variable {rq : Requester} {p : Nat} (h : u.serves Dict.laneEnable p)
include h

theorem laneEnableWrite_disables : Does (.laneEnableWrite dt rq p 0) s (fun t => t.rd Dict.laneEnable p = 0 ∧ t.rd Dict.laneState p = 0 ∧
    (u.isTrayChip = true → t.rd Dict.laneLaserBias p = 0)) := by
  obtain ⟨hkept, henable, hstate, hbias⟩ := u.granted.setLaneEnable_off p
  have hkeeps := (u.granted_keeps.mono (Q := fun _ => False) fun _ => False.elim).trans hkept
  refine .of_write hu h rfl ?_
  generalize State.setLaneEnable p 0 u.granted = w at hkeeps henable hstate hbias ⊢
  obtain ⟨rs, ms, qs, hanswer⟩ := w.answerWrite_only rq Dict.laneEnable p 0 0
  rw [hanswer]
  have hdone (o : Ob) := KeepsObjects.rd_done (v := w.replied rs ms qs) hkeeps hu o p 0
  exact ⟨(hdone _).trans henable, (hdone _).trans hstate, fun htray => (hdone _).trans (hbias htray)⟩

theorem laneEnableWrite_enables : Does (.laneEnableWrite dt rq p 1) s (fun t => t.rd Dict.laneEnable p = 1 ∧
    t.rd Dict.laneState p = if u.rd Dict.laneState p = 0 then 1 else u.rd Dict.laneState p) := by
  obtain ⟨hkept, henable, hstate⟩ := u.granted.setLaneEnable_on p
  have hkeeps := (u.granted_keeps.mono (Q := fun _ => False) fun _ => False.elim).trans hkept
  rw [u.rd_granted_of_sub (o := Dict.laneState) (by decide) p] at hstate
  refine .of_write hu h rfl ?_
  generalize State.setLaneEnable p 1 u.granted = w at hkeeps henable hstate ⊢
  obtain ⟨rs, ms, qs, hanswer⟩ := w.answerWrite_only rq Dict.laneEnable p 0 0
  rw [hanswer]
  have hdone (o : Ob) := KeepsObjects.rd_done (v := w.replied rs ms qs) hkeeps hu o p 0
  exact ⟨(hdone _).trans henable, (hdone _).trans hstate⟩

end

/-! ### The events of a lane (Table 13-5) -/

section
variable {p : Nat} (hreset : u.inReset = false) (hp : p < u.ports)
include hreset hp

theorem laneLock_trains (hstate : u.rd Dict.laneState p = 1) :
    Does (.laneLock dt p) s (fun t => t.rd Dict.laneState p = 2 ∧ t.rd Dict.laneTrainStep p = 1 ∧ (t.lane p).entered = u.time.now) := by
  obtain ⟨hnext, hstep, hlane⟩ := (u.laneTo_entered p (st := 2) (step := 1) (by decide) (by decide) 0).done hu (u.laneTo_keeps p 2 1 0)
  exact .of_laneEvent hu hreset hp rfl hstate ⟨hnext, hstep, congrArg Lane.entered hlane⟩

theorem lockLost_fails (hstate : u.rd Dict.laneState p = 3) :
    Does (.lockLost dt p) s (fun t => t.rd Dict.laneState p = 4 ∧ t.rd Dict.laneTrainStep p = 0xFF ∧ (t.lane p).cause = 0 ∧
      t.rd Dict.laneDownEvents p = satTo 32 (u.rd Dict.laneDownEvents p + 1)) := by
  have hkept := u.leaveUp_keeps p 0 4 0xFF true
  obtain ⟨hnext, hstep, hlane⟩ := (u.leaveUp_entered p (st := 4) (step := 0xFF) (by decide) (by decide) 0 true).done hu hkept
  have hevents : (u.leaveUp p 0 4 0xFF true).rd Dict.laneDownEvents p = satTo 32 (u.rd Dict.laneDownEvents p + 1) :=
    ((u.leaveUp_from p 0 4 0xFF true).rdLane (by decide) p).trans (u.laneLeft_events p 0 4 0xFF)
  exact .of_laneEvent hu hreset hp rfl hstate ⟨hnext, hstep, congrArg Lane.cause hlane, (hkept.rd_done hu ..).trans hevents⟩

theorem trainingSignalLost_fails (hstate : u.rd Dict.laneState p = 2) :
    Does (.trainingSignalLost dt p) s (fun t => t.rd Dict.laneState p = 4 ∧ (t.lane p).cause = (u.lane p).cause ∧
      t.rd Dict.laneTrainFails p = satTo 32 (u.rd Dict.laneTrainFails p + 1)) := by
  obtain ⟨hkept, hnext, hcause, hfails⟩ := u.trainFail_fails p
  exact .of_laneEvent hu hreset hp rfl hstate ⟨(hkept.rd_done hu ..).trans hnext, hcause, (hkept.rd_done hu ..).trans hfails⟩

end

end

/-! ### What comes to several lanes at once -/

/-- What an operation on another lane leaves of lane p: time, the lane and its objects. -/
def LaneBeside (p : Nat) (s t : State) : Prop := t.time = s.time ∧ t.lane p = s.lane p ∧ KeepsObjects (fun k => k / 256 = 0x3000 + p) s t

namespace LaneBeside

theorem refl (p : Nat) (s : State) : LaneBeside p s s := ⟨rfl, rfl, .refl _ s⟩

theorem trans {p : Nat} {s t u : State} (h : LaneBeside p s t) (k : LaneBeside p t u) : LaneBeside p s u := by
  obtain ⟨htime, hlane, hkeeps⟩ := h
  obtain ⟨ktime, klane, kkeeps⟩ := k
  exact ⟨ktime.trans htime, klane.trans hlane, hkeeps.trans kkeeps⟩

theorem wr {p q : Nat} (hq : q ≠ p) (s : State) {o : Ob} (ho : o.idx = 0x3000 ∧ o.sub < 256) (v : Nat) : LaneBeside p s (s.wr o v q) := by
  refine ⟨rfl, rfl, .wr s o v q 0 ?_⟩
  unfold Ob.key
  omega

theorem laneTo {p q : Nat} (hq : q ≠ p) (s : State) (st step cause : Nat) : LaneBeside p s (s.laneTo q st step cause) := by
  have hwritten : LaneBeside p s ((s.wr Dict.laneState st q).wr Dict.laneTrainStep step q) :=
    (wr hq s (by decide) st).trans (wr hq _ (by decide) step)
  refine hwritten.trans ⟨rfl, State.lane_setLane_other _ (Ne.symm hq) _, ?_⟩
  exact .refl _ _

theorem trainFail {p q : Nat} (hq : q ≠ p) (s : State) : LaneBeside p s (s.trainFail q) := (laneTo hq s ..).trans (wr hq _ (by decide) _)

theorem rd {p : Nat} {s t : State} (h : LaneBeside p s t) {o : Ob} (ho : o.idx = 0x3000 ∧ o.sub < 256) : t.rd o p = s.rd o p :=
  h.2.2.rd (by unfold Ob.key; omega)

end LaneBeside

theorem State.lanesIn_nodup (s : State) (st : Nat) : (s.lanesIn st).Nodup := List.nodup_range.filter _

theorem State.mem_lanesIn {s : State} {p st : Nat} (hp : p < s.ports) (hstate : s.rd Dict.laneState p = st) : p ∈ s.lanesIn st :=
  List.mem_filter.mpr ⟨List.mem_range.mpr hp, beq_iff_eq.mpr hstate⟩

section
variable {dt p : Nat} {s u : State} (hu : u = s.elapse dt) (hon : u.inChipReset = false) (hp : p < u.ports)
include hu hon hp

theorem trainLimit_fails (hstate : u.rd Dict.laneState p = 2) (hpassed : u.passed (u.lane p).entered (u.rd Dict.trainLimit * 1000000) = true) :
    Does (.trainLimit dt) s (fun t => t.rd Dict.laneState p = 4 ∧ (t.lane p).cause = (u.lane p).cause ∧
      t.rd Dict.laneTrainFails p = satTo 32 (u.rd Dict.laneTrainFails p + 1)) := by
  have hmem : p ∈ (u.lanesIn 2).filter fun q => u.passed (u.lane q).entered (u.rd Dict.trainLimit * 1000000) :=
    List.mem_filter.mpr ⟨State.mem_lanesIn hp hstate, hpassed⟩
  obtain ⟨v, hv, hdone⟩ := State.foldl_through (LaneBeside.refl p) LaneBeside.trans (fun t q hq => LaneBeside.trainFail hq t)
    ((u.lanesIn_nodup 2).filter _) hmem u
  obtain ⟨hkept, hnext, hcause, hfails⟩ := v.trainFail_fails p
  have hall := ((hv.2.2.mono (Q := fun _ => False) fun _ => False.elim).trans hkept).trans (hdone.2.2.mono fun _ => False.elim)
  refine .of_island hu rfl hon ⟨?_, ?_, ?_⟩
  · exact (hall.rd_done hu ..).trans ((hdone.rd (by decide)).trans hnext)
  · exact (congrArg Lane.cause hdone.2.1).trans (hcause.trans (congrArg Lane.cause hv.2.1))
  · rw [← hv.rd (o := Dict.laneTrainFails) (by decide)]
    exact (hall.rd_done hu ..).trans ((hdone.rd (by decide)).trans hfails)

theorem failHold_downs (hstate : u.rd Dict.laneState p = 4) (hpassed : u.passed (u.lane p).entered (u.rd Dict.failHold * 1000000) = true) :
    Does (.failHold dt) s (fun t => t.rd Dict.laneState p = 1 ∧ t.rd Dict.laneTrainFails p = u.rd Dict.laneTrainFails p) := by
  have hmem : p ∈ (u.lanesIn 4).filter fun q => u.passed (u.lane q).entered (u.rd Dict.failHold * 1000000) :=
    List.mem_filter.mpr ⟨State.mem_lanesIn hp hstate, hpassed⟩
  obtain ⟨v, hv, hdone⟩ := State.foldl_through (LaneBeside.refl p) LaneBeside.trans (fun t q hq => LaneBeside.laneTo hq t 1 0xFF 0)
    ((u.lanesIn_nodup 4).filter _) hmem u
  have hnext := (v.laneTo_entered p (st := 1) (step := 0xFF) (by decide) (by decide) 0).state
  have hfails := v.rd_laneTo (o := Dict.laneTrainFails) p 1 0xFF 0 (by decide)
  have hkept : KeepsObjects (fun _ => False) v (v.laneTo p 1 0xFF 0) := (v.laneTo_keeps ..).mono fun _ => False.elim
  have hall := ((hv.2.2.mono (Q := fun _ => False) fun _ => False.elim).trans hkept).trans (hdone.2.2.mono fun _ => False.elim)
  refine .of_island hu rfl hon ⟨?_, ?_⟩
  · exact (hall.rd_done hu ..).trans ((hdone.rd (by decide)).trans hnext)
  · exact (hall.rd_done hu ..).trans ((hdone.rd (by decide)).trans (hfails.trans (hv.rd (by decide))))

end

/-! ### RETRAIN (Table 13-5) -/

theorem retrain_trains {dt p : Nat} {rq : Requester} {s u : State} (hu : u = s.elapse dt) (h : u.serves Dict.laneRetrain p)
    (hup : u.laneUp p = true) :
    Does (.retrain dt rq p) s (fun t => t.rd Dict.laneState p = 2 ∧ t.rd Dict.laneTrainStep p = 1 ∧ (t.lane p).cause = 2 ∧
      t.cmdCode Dict.laneRetrain p = 0) := by
  have hup' : u.granted.laneUp p = true := by
    rw [State.laneUp, u.rd_granted_of_sub (o := Dict.laneState) (by decide)]
    exact hup
  have hkept : KeepsObjects (fun _ => False) u (u.granted.leaveUp p 2 2 1 false) :=
    (u.granted_keeps.mono fun _ => False.elim).trans (u.granted.leaveUp_keeps ..)
  have hentered := u.granted.leaveUp_entered p (st := 2) (step := 1) (by decide) (by decide) 2 false
  refine .of_cmd hu h rfl (congrArg (·, 0) (if_pos hup')) fun rs ms qs => ?_
  have hdone (o : Ob) := KeepsObjects.rd_done (v := ((u.granted.leaveUp p 2 2 1 false).setCode Dict.laneRetrain 0 p).replied rs ms qs) hkept hu o p 0
  exact ⟨(hdone _).trans hentered.state, (hdone _).trans hentered.step, congrArg Lane.cause hentered.lane, State.cmdCode_answered⟩

/-! ### TRAINING_COMPLETE (13 R273, R280, R285) -/

/-- `t` has the build, the split and the trained lanes of `s`, which give a lane its group. -/
def GroupsFrom (s t : State) : Prop := t.build = s.build ∧ t.lnk.split = s.lnk.split ∧ ∀ q, (t.lane q).inGroup = (s.lane q).inGroup

namespace GroupsFrom

theorem portGroup {s t : State} (h : GroupsFrom s t) (v : Nat) : t.portGroup v = s.portGroup v := by simp only [State.portGroup, h.2.2]

theorem groupOf {s t : State} (h : GroupsFrom s t) (p : Nat) : t.groupOf p = s.groupOf p := by
  obtain ⟨hbuild, hsplit, htrained⟩ := h
  have hport := GroupsFrom.portGroup ⟨hbuild, hsplit, htrained⟩ ((p - 32) / 4)
  unfold State.groupOf State.isDie
  rw [hbuild, hsplit, htrained, hport]

theorem groupUp {s t : State} (h : GroupsFrom s t) (hup : ∀ q, t.laneUp q = s.laneUp q) (g : Nat) : t.groupUp g = s.groupUp g := by
  have hlanes : t.lanesOf g = s.lanesOf g := by
    have hports : t.ports = s.ports := by
      unfold State.ports State.isDie
      rw [h.1]
    simp only [State.lanesOf, hports, h.groupOf]
  simp only [State.groupUp, hlanes, funext hup]

theorem of_link {K : Nat → Prop} {R : Prop} {s t : State} (h : LinkFrom K R s t) : GroupsFrom s t :=
  ⟨h.objects.1, h.2.2.1, fun q => congrArg Lane.inGroup (h.lane q)⟩

end GroupsFrom

/-- The name of a group is a port. -/
theorem State.groupOf_lt (s : State) {p : Nat} (hp : p < 256) : s.groupOf p < 256 := by
  have hport (v : Nat) (hv : 32 + 4 * v + 3 < 256) : s.portGroup v < 256 := by
    unfold State.portGroup
    cases hl : (upPorts v).filter fun q => (s.lane q).inGroup with
    | nil => simp only [List.headD_nil]; omega
    | cons q l =>
      have hq : q ∈ upPorts v := List.mem_of_mem_filter (hl ▸ List.mem_cons_self)
      obtain ⟨i, hi, rfl⟩ := List.mem_map.mp hq
      have := List.mem_range.mp hi
      simp only [List.headD_cons]
      omega
  unfold State.groupOf
  split
  · exact hp
  · split
    · split
      · exact hport _ (by omega)
      · exact hp
    · split
      · exact hp
      · omega
      · omega
      · split
        · exact hp
        · omega
      · omega

/-- A port's lane is named by its port's group once it has trained. -/
theorem State.groupOf_upstream {s : State} {p : Nat} (hdie : s.isDie = false) (hp : ¬ p < 32) (htrained : (s.lane p).inGroup = true) :
    s.groupOf p = s.portGroup ((p - 32) / 4) := by
  unfold State.groupOf
  rw [hdie, htrained, if_neg Bool.false_ne_true, if_pos (Nat.not_lt.mp hp), if_pos rfl]

/-- GROUP of a port's lanes is written, that of lane p among them. -/
theorem State.foldl_laneGroup (s : State) (p : Nat) {g : Nat} (hg : g < 256) (others : List Nat) :
    ∃ rg, (p :: others).foldl (fun (t : State) q => t.wr Dict.laneGroup g q) s = { s with regs := rg } ∧
      KeepsObjects (fun k => k % 256 ≠ 5) s { s with regs := rg } ∧ ({ s with regs := rg } : State).rd Dict.laneGroup p = g := by
  have hkey (q : Nat) : ¬ (fun k => k % 256 ≠ 5) (Dict.laneGroup.key q 0) := by
    unfold Ob.key
    simp only [Dict.laneGroup]
    omega
  have hfirst : ∃ rg, s.wr Dict.laneGroup g p = { s with regs := rg } ∧ KeepsObjects (fun k => k % 256 ≠ 5) s { s with regs := rg } ∧
      ({ s with regs := rg } : State).rd Dict.laneGroup p = g :=
    ⟨_, rfl, .wr s Dict.laneGroup g p 0 (hkey p), (State.rd_wr_same ..).trans (Nat.mod_eq_of_lt hg)⟩
  rw [List.foldl_cons]
  refine List.foldlRecOn (motive := fun t => ∃ rg, t = { s with regs := rg } ∧ KeepsObjects (fun k => k % 256 ≠ 5) s { s with regs := rg } ∧
    ({ s with regs := rg } : State).rd Dict.laneGroup p = g) others _ hfirst fun t ht q _ => ?_
  obtain ⟨rg, rfl, hkeeps, hread⟩ := ht
  refine ⟨_, rfl, hkeeps.trans (.wr { s with regs := rg } Dict.laneGroup g q 0 (hkey q)), ?_⟩
  by_cases hq : Dict.laneGroup.key q 0 = Dict.laneGroup.key p 0
  · have hqp : q = p := by
      unfold Ob.key at hq
      omega
    subst hqp
    exact (State.rd_wr_same { s with regs := rg } Dict.laneGroup g q 0).trans (Nat.mod_eq_of_lt hg)
  · exact (State.rd_wr_other { s with regs := rg } _ _ _ _ _ _ _ hq).trans hread

/-- A lane that joins its group: which lanes have trained, and the name of its group. -/
theorem State.joinGroup_joins (s : State) {p : Nat} (hp : p < 48) : (s.joinGroup p).build = s.build ∧ (s.joinGroup p).lnk.split = s.lnk.split ∧
    (∀ q, ((s.joinGroup p).lane q).inGroup = ((s.lane q).inGroup || !(s.isDie || decide (p < 32)) && q == p)) ∧
    KeepsObjects (fun k => k % 256 ≠ 5) s (s.joinGroup p) ∧ (s.joinGroup p).rd Dict.laneGroup p = (s.joinGroup p).groupOf p := by
  unfold State.joinGroup
  split
  next hfixed =>
    have hfixed' : (s.isDie || decide (p < 32)) = true := by simpa using hfixed
    refine ⟨rfl, rfl, fun q => ?_, .wr s Dict.laneGroup _ p 0 (by unfold Ob.key; simp only [Dict.laneGroup]; omega), ?_⟩
    · rw [hfixed', Bool.not_true, Bool.false_and, Bool.or_false]
      rfl
    · exact (State.rd_wr_same ..).trans (Nat.mod_eq_of_lt (s.groupOf_lt (by omega)))
  next hfree =>
    have hfree' : (s.isDie || decide (p < 32)) = false := by simpa using hfree
    obtain ⟨hdie, hup⟩ : s.isDie = false ∧ ¬ p < 32 := by simpa using hfree'
    extract_lets v others _ s1 g0 g s2
    have htrained (q : Nat) : (s1.lane q).inGroup = ((s.lane q).inGroup || !(s.isDie || decide (p < 32)) && q == p) := by
      rw [hfree', Bool.not_false, Bool.true_and]
      by_cases hqp : q = p
      · subst hqp
        rw [show s1.lane q = _ from State.lane_setLane_same ..]
        simp
      · rw [show s1.lane q = _ from State.lane_setLane_other s hqp _]
        simp [hqp]
    have hmine : (s1.lane p).inGroup = true := by simp [htrained, hfree']
    have hg : s1.groupOf p = g := State.groupOf_upstream hdie hup hmine
    have hlt : g < 256 := hg ▸ s1.groupOf_lt (by omega)
    obtain ⟨rg, hs2, hkeeps, hread⟩ := s1.foldl_laneGroup p hlt others
    have hs2' : s2 = { s1 with regs := rg } := hs2
    obtain ⟨hbuild, hsplit, hkept⟩ : s1.build = s.build ∧ s1.lnk.split = s.lnk.split ∧ KeepsObjects (fun k => k % 256 ≠ 5) s s1 :=
      ⟨rfl, rfl, .refl _ s⟩
    clear_value s2 g0 g s1 others
    subst hs2'
    split
    · exact ⟨hbuild, hsplit, htrained, hkept.trans hkeeps, hread.trans hg.symm⟩
    · exact ⟨hbuild, hsplit, htrained, hkept.trans hkeeps, hread.trans hg.symm⟩

/-- A frame leaves on a lane. -/
theorem State.txOn_sends (s : State) (p : Nat) (b : Bytes) :
    (s.txOn p b).time = s.time ∧ (s.txOn p b).out = Output.frame p (startBlock ++ b) :: s.out := by
  obtain ⟨c, hcounted⟩ := ((s.emit (.frame p (startBlock ++ b))).bump Dict.laneFramesTx p).countPort_only p 0 b.length
  rw [State.txOn, hcounted]
  exact ⟨rfl, rfl⟩

/-- A lane's IDENT leaves what the lane's group goes by, and the lane's state. -/
theorem State.sendIdent_keeps (s : State) (p : Nat) : GroupsFrom s (s.sendIdent p) ∧ KeepsObjects laneObject s (s.sendIdent p) ∧
    (s.sendIdent p).time = s.time ∧ (s.sendIdent p).out.length = s.out.length + 1 := by
  have hsame (q : Nat) : (((s.setLane p { s.lane p with identAt := some s.time.now, identDone := (s.lane p).identSeen }).lane q)).inGroup =
      (s.lane q).inGroup := by
    by_cases hq : q = p
    · subst hq
      rw [State.lane_setLane_same]
    · rw [State.lane_setLane_other s hq]
  unfold State.sendIdent
  extract_lets l
  have hset : GroupsFrom s (s.setLane p { l with identAt := some s.time.now, identDone := l.identSeen }) := ⟨rfl, rfl, hsame⟩
  have hkept : KeepsObjects laneObject s (s.setLane p { l with identAt := some s.time.now, identDone := l.identSeen }) := .refl _ s
  have htime : (s.setLane p { l with identAt := some s.time.now, identDone := l.identSeen }).time = s.time := rfl
  have hout : (s.setLane p { l with identAt := some s.time.now, identDone := l.identSeen }).out = s.out := rfl
  generalize s.setLane p { l with identAt := some s.time.now, identDone := l.identSeen } = v at hset hkept htime hout ⊢
  obtain ⟨b, hb⟩ : ∃ b, b = linkFrame 6 0 false 0 0 false (s.identPayload p) := ⟨_, rfl⟩
  rw [← hb]
  have hsent : LinkFrom (fun _ => True) True v (v.txOn p b) := (LinkFrom.refl v).txOn
  obtain ⟨ktime, kout⟩ := v.txOn_sends p b
  refine ⟨⟨hsent.objects.1.trans hset.1, hsent.2.2.1.trans hset.2.1, fun q => ?_⟩, hkept.trans hsent.objects, ktime.trans htime, ?_⟩
  · rw [hsent.lane]
    exact hset.2.2 q
  · rw [kout, hout]
    rfl

/-- Training of lane p has completed: what `trained` does up to the group's arrival at UP. -/
theorem State.trained_done (s : State) {p : Nat} (hp : p < 48) :
    KeepsObjects (fun _ => False) s (s.trained p) ∧ (s.trained p).rd Dict.laneState p = 3 ∧ (s.trained p).rd Dict.laneTrainStep p = 0xFF ∧
    (s.trained p).groupOf p = (s.joinGroup p).groupOf p ∧ (s.trained p).rd Dict.laneGroup p = (s.joinGroup p).groupOf p ∧
    ((s.joinGroup p).groupUp ((s.joinGroup p).groupOf p) = false →
      ((s.trained p).link ((s.joinGroup p).groupOf p)).expect = 0 ∧ ((s.trained p).link ((s.joinGroup p).groupOf p)).taken = []) := by
  obtain ⟨hbuild, hsplit, htrained, hkeeps, hname⟩ := s.joinGroup_joins hp
  unfold State.trained
  extract_lets before j g was s1 s2 s3 s4
  have hj : j = s.joinGroup p := rfl
  have hg : g = j.groupOf p := rfl
  have hwas : was = j.groupUp g := rfl
  have hentered : LaneEntered j p 3 0xFF 0 (j.laneTo p 3 0xFF 0) := j.laneTo_entered p (by decide) (by decide) 0
  have hto : KeepsObjects (fun _ => False) j (j.laneTo p 3 0xFF 0) := (j.laneTo_keeps ..).mono fun _ => False.elim
  have hs4 : LinkFrom (fun _ => True) True (j.laneTo p 3 0xFF 0) s4 := by
    have hcorr {o : Ob} (ho : o = Dict.laneEgressCorr ∨ o = Dict.laneIngressCorr) : ¬ laneObject (o.key p 0) := by
      obtain rfl | rfl := ho <;> unfold laneObject Ob.key <;> simp only [Dict.laneEgressCorr, Dict.laneIngressCorr, Dict.retryLimit] <;> omega
    have hs1 : LinkFrom (fun _ => True) True (j.laneTo p 3 0xFF 0) s1 := (LinkFrom.refl _).wake
    have hs2 : LinkFrom (fun _ => True) True (j.laneTo p 3 0xFF 0) s2 := ((hs1.wr (hcorr (.inl rfl))).drawn.wr (hcorr (.inr rfl))).drawn
    exact hs2.setPtp.raiseIslandNow
  have hgroup : GroupsFrom j (j.laneTo p 3 0xFF 0) := by
    refine ⟨rfl, rfl, fun q => ?_⟩
    by_cases hq : q = p
    · subst hq
      rw [hentered.lane]
      rfl
    · exact congrArg Lane.inGroup (State.lane_setLane_other _ hq _)
  have hnamed : (j.laneTo p 3 0xFF 0).rd Dict.laneGroup p = g := (j.rd_laneTo p 3 0xFF 0 (by decide)).trans hname
  have hall : ∃ v, (if was then s4.refresh g else s4.groupReached g).slaveChanged before = v ∧
      LinkFrom (· ≠ g) False (j.laneTo p 3 0xFF 0) v ∧ (was = false → LinkKept s4.time.now { lastCredit := s4.time.now } (v.link g)) := by
    have hbeside : LinkFrom (· ≠ g) False (j.laneTo p 3 0xFF 0) s4 := hs4.weaken (fun _ _ => trivial) False.elim
    refine ⟨_, rfl, ?_⟩
    cases was with
    | true => exact ⟨hbeside.refresh.slaveChanged, nofun⟩
    | false =>
      have hreached : LinkFrom (· ≠ g) False (j.laneTo p 3 0xFF 0) (s4.groupReached g) :=
        LinkFrom.groupReached (hbeside.setLink fun hk => absurd rfl hk) not_false
      have hlink : LinkFrom (fun _ => True) False (s4.setLink g { lastCredit := s4.time.now }) ((s4.groupReached g).slaveChanged before) :=
        (LinkFrom.groupReached (.refl _) not_false).slaveChanged
      refine ⟨hreached.slaveChanged, fun _ => ?_⟩
      have hkept := hlink.link (g := g) trivial
      rwa [State.link_setLink_same] at hkept
  obtain ⟨v, hv, hfrom, hlink⟩ := hall
  rw [hv]
  clear_value s4 was before
  have hobjects : KeepsObjects (fun _ => False) s v :=
    ((hkeeps.mono fun _ => False.elim).trans hto).trans (hfrom.objects.mono fun _ => False.elim)
  obtain ⟨hstate, hstep, -⟩ := hentered.later hfrom
  refine ⟨hobjects, hstate, hstep, ((GroupsFrom.of_link hfrom).groupOf p).trans (hgroup.groupOf p),
    (hfrom.rdLane (by decide) p).trans hnamed, fun hdown => ?_⟩
  obtain ⟨hexpect, htaken, -⟩ := hlink (hwas.trans hdown)
  exact ⟨hexpect, htaken⟩

/-- States whose lanes have the same groups give a lane that joins the same group. -/
theorem GroupsFrom.joinGroup {s t : State} (h : GroupsFrom s t) {p : Nat} (hp : p < 48) : GroupsFrom (s.joinGroup p) (t.joinGroup p) := by
  obtain ⟨hbuild, hsplit, htrained⟩ := h
  obtain ⟨sbuild, ssplit, strained, -⟩ := s.joinGroup_joins hp
  obtain ⟨tbuild, tsplit, ttrained, -⟩ := t.joinGroup_joins hp
  refine ⟨by rw [tbuild, sbuild, hbuild], by rw [tsplit, ssplit, hsplit], fun q => ?_⟩
  have hdie : t.isDie = s.isDie := by
    unfold State.isDie
    rw [hbuild]
  rw [strained, ttrained, htrained, hdie]

theorem State.laneUp_joinGroup (s : State) {p : Nat} (hp : p < 48) (q : Nat) : (s.joinGroup p).laneUp q = s.laneUp q := by
  obtain ⟨-, -, -, hkeeps, -⟩ := s.joinGroup_joins hp
  have hrd : (s.joinGroup p).rd Dict.laneState q = s.rd Dict.laneState q := hkeeps.rd (by
    unfold Ob.key
    simp only [Dict.laneState]
    omega)
  simp only [State.laneUp, hrd]

section
variable {dt p : Nat} {s u : State} (hu : u = s.elapse dt) (hreset : u.inReset = false) (hp : p < u.ports)
  (hstate : u.rd Dict.laneState p = 2)
include hu hreset hp hstate

theorem trainingComplete_ups (hseen : (u.lane p).identSeen = true) :
    Does (.trainingComplete dt p) s (fun t => t.rd Dict.laneState p = 3 ∧ t.rd Dict.laneTrainStep p = 0xFF ∧
      t.groupOf p = (u.joinGroup p).groupOf p ∧ t.rd Dict.laneGroup p = (u.joinGroup p).groupOf p ∧
      ((u.joinGroup p).groupUp ((u.joinGroup p).groupOf p) = false →
        (t.link ((u.joinGroup p).groupOf p)).expect = 0 ∧ (t.link ((u.joinGroup p).groupOf p)).taken = [])) := by
  have hp' : p < 48 := hp.trans_le u.ports_le
  obtain ⟨w, hw, hgroups, hkeeps⟩ : ∃ w, (if (u.lane p).identDone then u else u.sendIdent p) = w ∧ GroupsFrom u w ∧ KeepsObjects laneObject u w := by
    refine ⟨_, rfl, ?_⟩
    split
    · exact ⟨⟨rfl, rfl, fun _ => rfl⟩, .refl _ u⟩
    · obtain ⟨hgroups, hkeeps, -⟩ := u.sendIdent_keeps p
      exact ⟨hgroups, hkeeps⟩
  have hjoined : GroupsFrom (u.joinGroup p) (w.joinGroup p) := hgroups.joinGroup hp'
  have hup (q : Nat) : (w.joinGroup p).laneUp q = (u.joinGroup p).laneUp q := by
    have hrd : w.rd Dict.laneState q = u.rd Dict.laneState q := hkeeps.rd (.inl (by
      unfold Ob.key
      simp only [Dict.laneState]
      omega))
    rw [w.laneUp_joinGroup hp', u.laneUp_joinGroup hp', State.laneUp, State.laneUp, hrd]
  obtain ⟨hobjects, hnext, hstep, hname, hread, hfresh⟩ := w.trained_done hp'
  rw [hjoined.groupOf] at hname hread hfresh
  rw [hjoined.groupUp hup] at hfresh
  have hdone := (hkeeps.mono (Q := fun _ => False) fun _ => False.elim).trans hobjects
  refine .of_laneEvent hu hreset hp rfl hstate ?_
  rw [hseen, hw]
  have hgroup : GroupsFrom (w.trained p) ((w.trained p).within s) := ⟨(hdone.within_of hu).1.trans hdone.1.symm, rfl, fun _ => rfl⟩
  exact ⟨(hdone.rd_done hu ..).trans hnext, (hdone.rd_done hu ..).trans hstep, (hgroup.groupOf p).trans hname, (hdone.rd_done hu ..).trans hread,
    hfresh⟩

theorem trainingComplete_waits (hseen : (u.lane p).identSeen = false) :
    Does (.trainingComplete dt p) s (fun t => t.rd Dict.laneState p = 2 ∧ t.lnk = u.lnk ∧ t.out = u.out) := by
  refine .of_laneEvent hu hreset hp rfl hstate ?_
  rw [hseen]
  exact ⟨((KeepsObjects.refl (fun _ => False) u).rd_done hu ..).trans hstate, rfl, rfl⟩

end

/-- Settles O19: a lane enters the state that Table 13-5 gives, and what its group does then leaves the lane's objects alone. -/
theorem laneCommandsComplete : Obligations.LaneCommandsComplete := by
  unfold Obligations.LaneCommandsComplete
  refine ⟨fun _ _ _ _ _ hu h _ => laneEnableWrite_disables hu h, fun _ _ _ _ _ hu h _ => laneEnableWrite_enables hu h,
    fun _ _ _ _ hu hreset hp hstate => laneLock_trains hu hreset hp hstate, ?_,
    fun _ _ _ _ hu hreset hp hstate hseen => trainingComplete_waits hu hreset hp hstate hseen,
    fun _ _ _ _ hu hreset hp hstate => lockLost_fails hu hreset hp hstate,
    fun _ _ _ _ hu hon hp hstate hpassed => trainLimit_fails hu hon hp hstate hpassed,
    fun _ _ _ _ hu hreset hp hstate => trainingSignalLost_fails hu hreset hp hstate,
    fun _ _ _ _ hu hon hp hstate hpassed => failHold_downs hu hon hp hstate hpassed,
    fun _ _ _ _ _ hu h _ hup => retrain_trains hu h hup⟩
  rintro dt p s u g hu hreset hp hstate hseen rfl
  exact trainingComplete_ups hu hreset hp hstate hseen

end Sys2Proof.Machine
end

section
/-! What arrives and leaves on a lane that trains or adapts (13 R285, R286, R444). -/

namespace Sys2Proof.Machine

open Sys2Proof

-- one theorem after the other: each theorem that waits for the kernel would hold a thread
set_option Elab.async false

/-- A frame received on a lane counts, and nothing else is done. -/
theorem State.rxOn_only (s : State) (p n : Nat) : ∃ c, s.rxOn p n = { s.bump Dict.laneFramesRx p with cnt := c } :=
  (s.bump Dict.laneFramesRx p).countPort_only p 1 (frameBytes n)

theorem State.rxOn_counts (s : State) (p n : Nat) : (s.rxOn p n).rd Dict.laneFramesRx p = (s.rd Dict.laneFramesRx p + 1) % 2 ^ 64 := by
  obtain ⟨c, hc⟩ := s.rxOn_only p n
  rw [hc]
  exact State.rd_wr_same ..

theorem State.rxOn_keeps (s : State) (p n : Nat) : KeepsObjects (fun _ => False) s (s.rxOn p n) :=
  (LinkFrom.refl (K := fun _ => True) (R := True) s).rxOn.objects.mono fun _ => False.elim

/-! ### TRAIN and IDENT received -/

section
variable {dt p : Nat} {s u : State} (hu : u = s.elapse dt) (hreset : u.inReset = false) (hp : p < u.ports)
include hu hreset hp

/-- The lane has left UP for the state that a TRAIN frame of the other end names. -/
theorem train_leaves {tap step st cause next : Nat} {alarm : Bool} (hstate : u.rd Dict.laneState p = 3) (hnext : next = 2 ∨ next = 4)
    (hact : ∀ v : State, v.laneUp p = true → v.takeTrain p tap step st cause = v.leaveUp p cause next (if next = 2 then 1 else 0xFF) alarm) :
    Does (.train dt p tap step st cause) s (fun t => t.rd Dict.laneState p = next ∧ (t.lane p).cause = cause) := by
  have hup : (u.rxOn p 8).laneUp p = true := by
    rw [(LinkFrom.refl (K := fun _ => True) (R := True) u).rxOn.laneUp, State.laneUp, hstate]
    rfl
  refine .of_rxFrame hu hreset hp rfl (by omega) ?_
  rw [hact _ hup]
  have hkept := (u.rxOn_keeps p 8).trans ((u.rxOn p 8).leaveUp_keeps p cause next (if next = 2 then 1 else 0xFF) alarm)
  have hentered : LaneEntered (u.rxOn p 8) p next (if next = 2 then 1 else 0xFF) cause
      ((u.rxOn p 8).leaveUp p cause next (if next = 2 then 1 else 0xFF) alarm) :=
    State.leaveUp_entered _ p (by omega) (by split <;> decide) cause alarm
  exact ⟨(hkept.rd_done hu ..).trans hentered.state, congrArg Lane.cause hentered.lane⟩

theorem train_completes {tap step cause : Nat} (hstate : u.rd Dict.laneState p = 3) :
    Does (.train dt p tap step 1 cause) s (fun t => t.rd Dict.laneState p = 2 ∧ (t.lane p).cause = cause) ∧
    Does (.train dt p tap step 2 cause) s (fun t => t.rd Dict.laneState p = 4 ∧ (t.lane p).cause = cause) := by
  constructor
  · refine train_leaves hu hreset hp (alarm := cause != 2) hstate (.inl rfl) fun v hv => ?_
    rw [State.takeTrain, hv]
    rfl
  · refine train_leaves hu hreset hp (alarm := cause != 2) hstate (.inr rfl) fun v hv => ?_
    rw [State.takeTrain, hv]
    rfl

theorem ident_completes {payload : Nat} (hstate : u.rd Dict.laneState p = 2 ∨ u.rd Dict.laneState p = 3) :
    Does (.ident dt p payload) s (fun t => (t.lane p).identSeen = true ∧
      t.rd Dict.laneFramesRx p = (u.rd Dict.laneFramesRx p + 1) % 2 ^ 64 ∧ t.rdBytes Dict.laneNeighbour p = leBytes 16 payload ∧
      ∀ q, q < u.ports → q ≠ p → t.rdBytes Dict.laneNeighbour q = u.rdBytes Dict.laneNeighbour q) := by
  have hother : (u.rxOn p 16).rd Dict.laneState p = u.rd Dict.laneState p :=
    (LinkFrom.refl (K := fun _ => True) (R := True) u).rxOn.rdLane (by decide) p
  have htrains : ¬ (u.rxOn p 16).rd Dict.laneState p = 4 := by omega
  refine .of_rxFrame hu hreset hp rfl (by omega) ?_
  rw [if_neg htrains]
  have hcounts := ((u.rxOn_keeps p 16).rd_done hu Dict.laneFramesRx p 0).trans (u.rxOn_counts p 16)
  obtain ⟨c, hc⟩ := u.rxOn_only p 16
  refine ⟨congrArg Lane.identSeen (State.lane_setLane_same ..), hcounts, Tbl.getD_set_same .., fun q _ hq => ?_⟩
  have hkey : Dict.laneNeighbour.key p 0 ≠ Dict.laneNeighbour.key q 0 := by
    unfold Ob.key
    simp only [Dict.laneNeighbour]
    omega
  have hbuild : (((u.rxOn p 16).wrBytes Dict.laneNeighbour (leBytes 16 payload) p).within s).build = u.build :=
    ((u.rxOn_keeps p 16).within_of hu).1
  rw [hc] at hbuild ⊢
  refine (Tbl.getD_set_other _ _ _ _ _ hkey).trans ?_
  exact congrArg (fun b => Tbl.getD u.doms (Dict.laneNeighbour.key q 0) (Dict.laneNeighbour.initBytes b)) hbuild

end

/-! ### A TRAIN frame that leaves -/

theorem State.sendTrain_keeps (s : State) (p st : Nat) : KeepsObjects laneObject s (s.sendTrain p st) ∧ (s.sendTrain p st).time = s.time ∧
    (∃ b, (s.sendTrain p st).out = Output.frame p b :: s.out) ∧ (s.sendTrain p st).lane p = { s.lane p with trainAt := some s.time.now } := by
  unfold State.sendTrain
  extract_lets r
  have hset : KeepsObjects laneObject s (s.setLane p { s.lane p with trainAt := some s.time.now }) := .refl _ s
  have hlane := State.lane_setLane_same s p { s.lane p with trainAt := some s.time.now }
  have htime : (s.setLane p { s.lane p with trainAt := some s.time.now }).time = s.time := rfl
  have hout : (s.setLane p { s.lane p with trainAt := some s.time.now }).out = s.out := rfl
  clear_value r
  generalize s.setLane p { s.lane p with trainAt := some s.time.now } = v at hset hlane htime hout ⊢
  generalize linkFrame 5 0 false 0 0 false _ = b
  have hsent : LinkFrom (fun _ => True) True v (v.txOn p b).drawn := (LinkFrom.refl v).txOn.drawn
  obtain ⟨ktime, kout⟩ := v.txOn_sends p b
  exact ⟨hset.trans hsent.objects, ktime.trans htime, ⟨startBlock ++ b, kout.trans (congrArg _ hout)⟩, (hsent.lane p).trans hlane⟩

theorem State.sendIdent_lane (s : State) (p : Nat) :
    (s.sendIdent p).lane p = { s.lane p with identAt := some s.time.now, identDone := (s.lane p).identSeen } := by
  unfold State.sendIdent
  extract_lets l
  have hlane := State.lane_setLane_same s p { l with identAt := some s.time.now, identDone := l.identSeen }
  generalize s.setLane p { l with identAt := some s.time.now, identDone := l.identSeen } = v at hlane ⊢
  have hsent (b : Bytes) : LinkFrom (fun _ => True) True v (v.txOn p b) := (LinkFrom.refl v).txOn
  exact ((hsent _).lane p).trans hlane

/-- A lane in TRAINING has gone on, and its IDENT is to come. -/
theorem State.trainOn_goes (s : State) (p : Nat) : ∃ v step, step = min 3 (s.rd Dict.laneTrainStep p + s.freeVal % 4) ∧
    s.trainOn p = (if step = 3 && !(v.lane p).identDone && v.since (v.lane p).identAt 10000 then v.sendIdent p else v) ∧
    KeepsObjects (fun _ => False) s v ∧ v.rd Dict.laneTrainStep p = step ∧ v.time = s.time ∧ (v.lane p).identAt = (s.lane p).identAt ∧
    (v.lane p).identDone = (s.lane p).identDone ∧ (v.lane p).identSeen = (s.lane p).identSeen := by
  unfold State.trainOn
  extract_lets v step _ s1 s2
  refine ⟨s2, step, rfl, rfl, ?_⟩
  have hwritten : KeepsObjects (fun _ => False) s s1 := KeepsObjects.wr s Dict.laneTrainStep step p 0 id
  have hstep : s1.rd Dict.laneTrainStep p = step := (State.rd_wr_same ..).trans (Nat.mod_eq_of_lt (by omega : step < 256))
  have htime : s1.time = s.time := rfl
  have hlane : s1.lane p = { s.lane p with looped := step == 2 && v / 4 % 2 == 1 } := State.lane_setLane_same (s.wr Dict.laneTrainStep step p) ..
  unfold s2
  clear_value s1 v
  split
  · exact ⟨hwritten, hstep, htime, by rw [hlane], by rw [hlane], by rw [hlane]⟩
  · obtain ⟨hkeeps, ktime, -, klane⟩ := s1.sendTrain_keeps p 1
    refine ⟨hwritten.trans (hkeeps.mono fun _ => False.elim), ?_, ktime.trans htime, by rw [klane, hlane], by rw [klane, hlane],
      by rw [klane, hlane]⟩
    exact (hkeeps.rd (.inl (by unfold Ob.key; simp only [Dict.laneTrainStep]; omega))).trans hstep

section
variable {dt p : Nat} {s u : State} (hu : u = s.elapse dt) (hreset : u.inReset = false) (hp : p < u.ports)
include hu hreset hp

theorem trainFrameInterval_sends (hstate : u.rd Dict.laneState p = 4) :
    Does (.trainFrameInterval dt p) s (fun t => (∃ b, t.out = Output.frame p b :: u.out) ∧ t.rd Dict.laneState p = 4) := by
  have hacts : ¬ (u.inReset || !decide (p < u.ports)) = true := by simp [hreset, hp]
  have hnot : ¬ u.rd Dict.laneState p = 2 := by omega
  obtain ⟨hkeeps, -, hout, -⟩ := u.sendTrain_keeps p 2
  refine .of_island hu rfl (State.inChipReset_of_inReset hreset) ?_
  rw [if_neg hacts, if_neg hnot, if_pos hstate]
  refine ⟨hout, (hkeeps.rd_done hu ..).trans ((hkeeps.rd (.inl ?_)).trans hstate)⟩
  unfold Ob.key
  simp only [Dict.laneState]
  omega

theorem Does.of_trainOn {P : State → Prop} (hstate : u.rd Dict.laneState p = 2) (hP : P ((u.trainOn p).within s)) :
    Does (.trainFrameInterval dt p) s P := by
  have hacts : ¬ (u.inReset || !decide (p < u.ports)) = true := by simp [hreset, hp]
  refine .of_island hu rfl (State.inChipReset_of_inReset hreset) ?_
  rw [if_neg hacts, if_pos hstate]
  exact hP

theorem trainFrameInterval_steps (hstate : u.rd Dict.laneState p = 2) (hstep : u.rd Dict.laneTrainStep p ≤ 3) :
    Does (.trainFrameInterval dt p) s (fun t => u.rd Dict.laneTrainStep p ≤ t.rd Dict.laneTrainStep p ∧ t.rd Dict.laneTrainStep p ≤ 3) := by
  obtain ⟨v, step, hmin, heq, hkeeps, hwritten, -⟩ := u.trainOn_goes p
  have hident : KeepsObjects (fun _ => False) u (u.trainOn p) ∧ (u.trainOn p).rd Dict.laneTrainStep p = step := by
    rw [heq]
    split
    · obtain ⟨-, kkeeps, -⟩ := v.sendIdent_keeps p
      exact ⟨hkeeps.trans (kkeeps.mono fun _ => False.elim),
        (kkeeps.rd (.inl (by unfold Ob.key; simp only [Dict.laneTrainStep]; omega))).trans hwritten⟩
    · exact ⟨hkeeps, hwritten⟩
  refine .of_trainOn hu hreset hp hstate ?_
  rw [hident.1.rd_done hu, hident.2]
  omega

theorem trainFrameInterval_identifies (hstate : u.rd Dict.laneState p = 2) (hstep : u.rd Dict.laneTrainStep p = 3)
    (hdone : (u.lane p).identDone = false) (hsince : u.since (u.lane p).identAt 10000 = true) :
    Does (.trainFrameInterval dt p) s (fun t => (t.lane p).identAt = some u.time.now ∧ (t.lane p).identDone = (u.lane p).identSeen) := by
  obtain ⟨v, step, hmin, heq, -, -, htime, hat, hsent, hseen⟩ := u.trainOn_goes p
  have hsends : (step = 3 && !(v.lane p).identDone && v.since (v.lane p).identAt 10000) = true := by
    have hthree : step = 3 := by omega
    have hsince' : v.since (v.lane p).identAt 10000 = true := by
      rw [hat]
      unfold State.since State.passed
      rw [htime]
      exact hsince
    simp [hthree, hsent, hdone, hsince']
  refine .of_trainOn hu hreset hp hstate ?_
  rw [heq, if_pos hsends]
  have hlane : ((v.sendIdent p).within s).lane p = (v.sendIdent p).lane p := rfl
  rw [hlane, v.sendIdent_lane p, htime, hseen]
  exact ⟨rfl, rfl⟩

end

/-! ### Adaptive loops (13 R286) -/

/-- The subindices of what an adaptation period measures. -/
abbrev measured (k : Nat) : Prop := k % 256 = 0x0D ∨ k % 256 = 0x0E ∨ k % 256 = 0x16

/-- What an adaptation period may do to a lane: a step of CTLE or none, and neither CTLE nor DFE moves within 10 µs. -/
structure Adapts (s : State) (p : Nat) (t : State) : Prop where
  keeps : KeepsObjects (fun _ => False) s t
  state : t.rd Dict.laneState p = s.rd Dict.laneState p
  range : t.rd Dict.laneRxCtle p ≤ 15 ∨ t.rd Dict.laneRxCtle p = s.rd Dict.laneRxCtle p
  step : s.rd Dict.laneRxCtle p ≤ 15 → s.rd Dict.laneRxCtle p ≤ t.rd Dict.laneRxCtle p + 1 ∧ t.rd Dict.laneRxCtle p ≤ s.rd Dict.laneRxCtle p + 1
  rests : s.since (s.lane p).stepAt 10000 = false → t.rd Dict.laneRxCtle p = s.rd Dict.laneRxCtle p ∧ t.rd Dict.laneRxDfe p = s.rd Dict.laneRxDfe p
  silent : s.since (s.lane p).trainAt 1000000 = false → t.out = s.out

/-- Where neither CTLE nor DFE has moved. -/
theorem Adapts.of_same {s t : State} {p : Nat} (hkeeps : KeepsObjects (fun k => k / 256 = 0x3000 + p ∧ k % 256 ∈ [2, 0x10, 0x11]) s t)
    (hout : s.since (s.lane p).trainAt 1000000 = false → t.out = s.out) : Adapts s p t := by
  have hrd (o : Ob) (ho : o.idx = 0x3000 ∧ o.sub ∈ [2, 0x10, 0x11]) : t.rd o p = s.rd o p := hkeeps.rd (by
    unfold Ob.key
    simp only [List.mem_cons, List.not_mem_nil, or_false] at ho ⊢
    omega)
  have hctle := hrd Dict.laneRxCtle (by decide)
  have hdfe := hrd Dict.laneRxDfe (by decide)
  exact ⟨hkeeps.mono fun _ => False.elim, hrd Dict.laneState (by decide), .inr hctle, fun _ => by omega, fun _ => ⟨hctle, hdfe⟩, hout⟩

/-- One step of CTLE stays within its range, and goes no further than one. -/
theorem ctle_stepped (cur v : Nat) : (max 0 (min 15 ((cur : Int) + stepOf v))).toNat ≤ 15 ∧
    (cur ≤ 15 → cur ≤ (max 0 (min 15 ((cur : Int) + stepOf v))).toNat + 1 ∧ (max 0 (min 15 ((cur : Int) + stepOf v))).toNat ≤ cur + 1) := by
  unfold stepOf
  omega

theorem State.adapt_adapts (s : State) (p : Nat) : Adapts s p (s.adapt p) := by
  unfold State.adapt
  extract_lets v s1 s2 _ s3 tap dfe cur
  have hmeasured (o : Ob) (ho : o.sub % 256 ∉ [2, 0x10, 0x11]) :
      ¬ (fun k => k / 256 = 0x3000 + p ∧ k % 256 ∈ [2, 0x10, 0x11]) (o.key p 0) := by
    rintro ⟨-, hsub⟩
    refine ho ?_
    unfold Ob.key at hsub
    rwa [Nat.add_zero, Nat.mul_add_mod_self_right] at hsub
  have hs1 : KeepsObjects (fun k => k / 256 = 0x3000 + p ∧ k % 256 ∈ [2, 0x10, 0x11]) s s1 :=
    (KeepsObjects.wr s Dict.laneBerEst _ p 0 (hmeasured Dict.laneBerEst (by decide))).trans
      (.wr (s.wr Dict.laneBerEst _ p) Dict.laneEyeMargin _ p 0 (hmeasured Dict.laneEyeMargin (by decide)))
  obtain ⟨hs2, htime, hlane, hout⟩ : KeepsObjects (fun k => k / 256 = 0x3000 + p ∧ k % 256 ∈ [2, 0x10, 0x11]) s s2 ∧
      s2.time = s.time ∧ s2.lane p = s.lane p ∧ s2.out = s.out := by
    unfold s2
    split
    · exact ⟨hs1.trans (.wr s1 Dict.laneRxPower _ p 0 (hmeasured Dict.laneRxPower (by decide))), rfl, rfl, rfl⟩
    · exact ⟨hs1, rfl, rfl, rfl⟩
  have hs3 : KeepsObjects (fun k => k / 256 = 0x3000 + p ∧ k % 256 ∈ [2, 0x10, 0x11]) s s3 := hs2
  have hout3 : s3.out = s.out := hout
  have hsince (at_ : Option Nat) (n : Nat) : s2.since at_ n = s.since at_ n := by
    unfold State.since State.passed
    rw [htime]
  have hctle : s3.rd Dict.laneRxCtle p = s.rd Dict.laneRxCtle p := hs3.rd (by unfold Ob.key; simp only [Dict.laneRxCtle]; simp; omega)
  have hstate : s3.rd Dict.laneState p = s.rd Dict.laneState p := hs3.rd (by unfold Ob.key; simp only [Dict.laneState]; simp; omega)
  have hmoves (hstep : ¬ (!s2.since (s2.lane p).stepAt 10000) = true) : s.since (s.lane p).stepAt 10000 = false → False := by
    rw [hsince, hlane] at hstep
    simpa using hstep
  clear_value s1 s2 s3 v
  split
  · split
    next hsends =>
      obtain ⟨hkeeps, -⟩ := s2.sendTrain_keeps p 0
      refine .of_same (hs2.trans (hkeeps.mono ?_)) fun hrests => ?_
      · rintro k ⟨hidx, hsub⟩
        simp only [List.mem_cons, List.not_mem_nil, or_false] at hsub
        exact .inl (by omega)
      · rw [hsince, hlane, hrests] at hsends
        exact absurd hsends Bool.false_ne_true
    · exact .of_same hs2 fun _ => hout
  · split
    · exact .of_same hs2 fun _ => hout
    next hstep =>
      have hnever := hmoves hstep
      split
      · obtain ⟨hrange, hone⟩ := ctle_stepped (s.rd Dict.laneRxCtle p) (v / 3)
        rw [← hctle] at hrange hone
        generalize (max 0 (min 15 ((s3.rd Dict.laneRxCtle p : Int) + stepOf (v / 3)))).toNat = x at hrange hone ⊢
        have hx : (s3.wr Dict.laneRxCtle x p).rd Dict.laneRxCtle p = x := (State.rd_wr_same ..).trans (Nat.mod_eq_of_lt (by show x < 256; omega))
        exact ⟨(hs3.mono fun _ => False.elim).trans (.wr _ _ _ _ _ id), (s3.rd_wr_of_sub (by decide) x p p).trans hstate, .inl (by omega),
          fun h => by rw [hx, ← hctle]; exact hone (hctle ▸ h), fun h => absurd h hnever, fun _ => hout3⟩
      · generalize dfe - cur * 256 ^ tap + ofSigned 8 (satSigned 8 (toSigned 8 cur + stepOf (v / 3))) * 256 ^ tap = x
        have hsame : (s3.wr Dict.laneRxDfe x p).rd Dict.laneRxCtle p = s.rd Dict.laneRxCtle p := (s3.rd_wr_of_sub (by decide) x p p).trans hctle
        exact ⟨(hs3.mono fun _ => False.elim).trans (.wr _ _ _ _ _ id), (s3.rd_wr_of_sub (by decide) x p p).trans hstate, .inr hsame,
          fun _ => by omega, fun h => absurd h hnever, fun _ => hout3⟩

/-- The laser's next bias lies within 20.0 mA to 100.0 mA. -/
theorem State.nextBias_bounds (s : State) (p : Nat) (h : s.rd Dict.laneLaserBias p ≤ 1000) : 200 ≤ s.nextBias p ∧ s.nextBias p ≤ 1000 := by
  unfold State.nextBias
  extract_lets cur target power step
  have hcur : cur ≤ 1000 := h
  clear_value cur target power
  split
  · omega
  · split
    · omega
    · split
      · omega
      · omega

section
variable {dt p : Nat} {s u : State} (hu : u = s.elapse dt) (hreset : u.inReset = false) (hp : p < u.ports)
  (hstate : u.rd Dict.laneState p = 3)
include hu hreset hp hstate

theorem equaliserAdapt_completes : Does (.equaliserAdapt dt p) s (fun t => t.rd Dict.laneState p = 3 ∧
      (t.rd Dict.laneRxCtle p ≤ 15 ∨ t.rd Dict.laneRxCtle p = u.rd Dict.laneRxCtle p) ∧
      (u.rd Dict.laneRxCtle p ≤ 15 → u.rd Dict.laneRxCtle p ≤ t.rd Dict.laneRxCtle p + 1 ∧ t.rd Dict.laneRxCtle p ≤ u.rd Dict.laneRxCtle p + 1) ∧
      (u.since (u.lane p).stepAt 10000 = false → t.rd Dict.laneRxCtle p = u.rd Dict.laneRxCtle p ∧
        t.rd Dict.laneRxDfe p = u.rd Dict.laneRxDfe p) ∧
      (u.since (u.lane p).trainAt 1000000 = false → t.out = u.out)) := by
  obtain ⟨hkeeps, hnext, hrange, hstep, hrests, hsilent⟩ := u.adapt_adapts p
  refine .of_laneEvent hu hreset hp rfl hstate ?_
  have hdone (o : Ob) : ((u.adapt p).within s).rd o p = (u.adapt p).rd o p := hkeeps.rd_done hu o p 0
  rw [hdone, hdone, hdone]
  exact ⟨hnext.trans hstate, hrange, hstep, hrests, hsilent⟩

theorem laserLoop_moves (hdie : u.isDie = false) (hsince : u.since (u.lane p).biasAt 1000000 = true) (hbias : u.rd Dict.laneLaserBias p ≤ 1000) :
    Does (.laserLoop dt p) s (fun t => 200 ≤ t.rd Dict.laneLaserBias p ∧ t.rd Dict.laneLaserBias p ≤ 1000 ∧
      (t.lane p).biasAt = some u.time.now) := by
  have hacts : ¬ (u.isDie || !u.since (u.lane p).biasAt 1000000) = true := by simp [hdie, hsince]
  have hbounds := u.nextBias_bounds p hbias
  refine .of_laneEvent hu hreset hp rfl hstate ?_
  rw [if_neg hacts]
  extract_lets _ s1
  have hlane : (s1.lane p).biasAt = some u.time.now := congrArg Lane.biasAt (State.lane_setLane_same u ..)
  have hread : s1.rd Dict.laneLaserBias p = u.nextBias p := by
    refine (State.rd_wr_same ..).trans (Nat.mod_eq_of_lt ?_)
    show u.nextBias p < 65536
    omega
  have hkeeps : KeepsObjects (fun _ => False) u s1 :=
    KeepsObjects.wr (u.setLane p { u.lane p with biasAt := some u.time.now }) Dict.laneLaserBias (u.nextBias p) p 0 id
  clear_value s1
  split
  · have haged : ((s1.setLane p { s1.lane p with aged := true }).lane p).biasAt = some u.time.now := by
      rw [State.lane_setLane_same]
      exact hlane
    have hkept : KeepsObjects (fun _ => False) u (s1.setLane p { s1.lane p with aged := true }) := hkeeps
    have hreads : (s1.setLane p { s1.lane p with aged := true }).rd Dict.laneLaserBias p = u.nextBias p := hread
    generalize s1.setLane p { s1.lane p with aged := true } = w at haged hkept hreads ⊢
    generalize packBits [(8, p), (16, s1.rd Dict.laneLaserBias p), (104, 0)] = payload
    have hraised : LinkFrom (fun _ => True) True w (w.raiseIslandNow false false recLaserAgeing payload) := (LinkFrom.refl w).raiseIslandNow
    have hall := hkept.trans (hraised.objects.mono fun _ => False.elim)
    rw [hall.rd_done hu, hraised.rdLane (o := Dict.laneLaserBias) (by decide), hreads]
    exact ⟨hbounds.1, hbounds.2, (congrArg Lane.biasAt (hraised.lane p)).trans haged⟩
  · rw [hkeeps.rd_done hu, hread]
    exact ⟨hbounds.1, hbounds.2, hlane⟩

theorem laserLoop_rests (hsince : u.since (u.lane p).biasAt 1000000 = false) :
    Does (.laserLoop dt p) s (fun t => t.rd Dict.laneLaserBias p = u.rd Dict.laneLaserBias p ∧ t.recd = u.recd) := by
  have hacts : (u.isDie || !u.since (u.lane p).biasAt 1000000) = true := by simp [hsince]
  refine .of_laneEvent hu hreset hp rfl hstate ?_
  rw [if_pos hacts]
  exact ⟨(KeepsObjects.refl (fun _ => False) u).rd_done hu .., rfl⟩

end

/-- Settles O20: what a TRAIN or IDENT frame and the loops of a lane do, each on the lane's own objects. -/
theorem trainingFramesComplete : Obligations.TrainingFramesComplete := by
  unfold Obligations.TrainingFramesComplete
  exact ⟨fun _ _ _ _ _ _ _ hu hreset hp hstate => train_completes hu hreset hp hstate,
    fun _ _ _ _ _ hu hreset hp hstate => ident_completes hu hreset hp hstate,
    fun _ _ _ _ hu hreset hp hstate => equaliserAdapt_completes hu hreset hp hstate,
    fun _ _ _ _ hu hreset hp hstate hdie => ⟨fun hsince hbias => laserLoop_moves hu hreset hp hstate hdie hsince hbias,
      fun hsince => laserLoop_rests hu hreset hp hstate hsince⟩,
    fun _ _ _ _ hu hreset hp hstate => trainFrameInterval_sends hu hreset hp hstate,
    fun _ _ _ _ hu hreset hp hstate hstep => trainFrameInterval_steps hu hreset hp hstate hstep,
    fun _ _ _ _ hu hreset hp hstate hstep hdone hsince => trainFrameInterval_identifies hu hreset hp hstate hstep hdone hsince⟩

end Sys2Proof.Machine
end

section
/-! Frames that leave on a group, and acknowledgement, retry and credit (13 R280, R281, R283). -/

namespace Sys2Proof.Machine

open Sys2Proof

-- one theorem after the other: each theorem that waits for the kernel would hold a thread
set_option Elab.async false

/-! ### Frames that leave -/

/-- The numbers of all objects but a lane's counters of frames sent and resent. -/
abbrev notSent (k : Nat) : Prop := k % 256 ≠ 7 ∧ k % 256 ≠ 0x0A

/-- `t` is `s` with n frames sent. -/
def FramesOut (n : Nat) (s t : State) : Prop :=
  ∃ o rg c, t = { s with out := o, regs := rg, cnt := c } ∧ o.length = s.out.length + n ∧ KeepsObjects notSent s t

/-- The link of a group with a sequenced frame numbered and kept for replay (13 R280). -/
def Link.sent (l : Link) (now typ cls : Nat) (q : QFrame) : Link :=
  { l with
    nextSeq := (l.nextSeq + 1) % 4096
    replay := l.replay ++ [{ seq := l.nextSeq, typ := typ, cls := cls, frame := q }]
    advanced := if l.replay.isEmpty then now else l.advanced
    spent := if typ = 0 then Tbl.set l.spent cls ((Tbl.getD l.spent cls 0 + creditUnits q.bytes.length) % 65536) else l.spent }

namespace FramesOut

theorem refl (s : State) : FramesOut 0 s s := ⟨_, _, _, rfl, rfl, .refl _ s⟩

section
variable {n : Nat} {s t : State} (h : FramesOut n s t)
include h

theorem trans {m : Nat} {u : State} (k : FramesOut m t u) : FramesOut (n + m) s u := by
  obtain ⟨_, _, _, rfl, hout, hkeeps⟩ := h
  obtain ⟨_, _, _, rfl, kout, kkeeps⟩ := k
  exact ⟨_, _, _, rfl, by rw [kout, hout, Nat.add_assoc], hkeeps.trans kkeeps⟩

theorem keeps : KeepsObjects notSent s t := by
  obtain ⟨_, _, _, -, -, hkeeps⟩ := h
  exact hkeeps

theorem out : t.out.length = s.out.length + n := by
  obtain ⟨_, _, _, rfl, hout, -⟩ := h
  exact hout

theorem lnk : t.lnk = s.lnk := by
  obtain ⟨_, _, _, rfl, -⟩ := h
  rfl

theorem sch : t.sch = s.sch := by
  obtain ⟨_, _, _, rfl, -⟩ := h
  rfl

theorem rt : t.rt = s.rt := by
  obtain ⟨_, _, _, rfl, -⟩ := h
  rfl

theorem red : t.red = s.red := by
  obtain ⟨_, _, _, rfl, -⟩ := h
  rfl

theorem time : t.time = s.time := by
  obtain ⟨_, _, _, rfl, -⟩ := h
  rfl

theorem link (g : Nat) : t.link g = s.link g := congrArg (fun l : Links => Tbl.getD l.groups g {}) h.lnk

theorem laneUp (p : Nat) : t.laneUp p = s.laneUp p := by
  have hrd : t.rd Dict.laneState p = s.rd Dict.laneState p := h.keeps.rd (by
    unfold notSent Ob.key
    simp only [Dict.laneState]
    omega)
  simp only [State.laneUp, hrd]

theorem groups : GroupsFrom s t := ⟨h.keeps.1, congrArg Links.split h.lnk, fun q => congrArg (fun l : Links => (Tbl.getD l.lanes q {}).inGroup) h.lnk⟩

theorem txOn {q : Nat} {b : Bytes} : FramesOut (n + 1) s (t.txOn q b) := by
  refine h.trans ?_
  obtain ⟨c, hcounted⟩ := ((t.emit (.frame q (startBlock ++ b))).bump Dict.laneFramesTx q).countPort_only q 0 b.length
  rw [State.txOn, hcounted]
  refine ⟨_, _, _, rfl, rfl, KeepsObjects.wr (t.emit (.frame q (startBlock ++ b))) Dict.laneFramesTx _ q 0 ?_⟩
  unfold notSent Ob.key
  simp only [Dict.laneFramesTx]
  omega

theorem sendCtl {g typ : Nat} {b : Bytes} : FramesOut (n + if t.groupUp g then 1 else 0) s (t.sendCtl g typ b) := by
  unfold State.sendCtl
  split
  · exact h.txOn
  · exact h

/-- A frame leaves again. -/
theorem resent {q : Nat} {b : Bytes} {r : Nat} : FramesOut (n + 1) s ((t.bumpSat Dict.laneResends r).txOn q b) := by
  have hcounter : ¬ notSent (Dict.laneResends.key r 0) := by
    unfold notSent Ob.key
    simp only [Dict.laneResends]
    omega
  have hcounted : FramesOut 0 t (t.bumpSat Dict.laneResends r) := ⟨_, _, _, rfl, rfl, .bumpSat t _ r 0 1 hcounter⟩
  exact (h.trans hcounted).txOn

end

theorem sendSeq (s : State) (g typ cls : Nat) (q : QFrame) :
    FramesOut 1 (s.setLink g ((s.link g).sent s.time.now typ cls q)) (s.sendSeq g typ cls q) := (refl _).txOn

theorem sendCredit (s : State) (g : Nat) :
    ∃ n, FramesOut n (s.setLink g { s.link g with lastCredit := s.time.now }) (s.sendCredit g) ∧ (s.groupUp g = true → n = 1) := by
  refine ⟨_, (refl (s.setLink g { s.link g with lastCredit := s.time.now })).sendCtl, fun hup => ?_⟩
  have hup' : (s.setLink g { s.link g with lastCredit := s.time.now }).groupUp g = true := hup
  rw [if_pos hup']

/-- The unacknowledged frames of a link leave again. -/
theorem resentAll {s t : State} {n : Nat} (h : FramesOut n s t) (g : Nat) (fs : List SentFrame) :
    FramesOut (n + fs.length) s
      (fs.foldl (fun t f => (t.bumpSat Dict.laneResends (t.laneFor g f.seq)).txOn (t.laneFor g f.seq) (t.seqBytes g f)) t) := by
  induction fs generalizing n t with
  | nil => exact h
  | cons f fs ih =>
    rw [List.foldl_cons, List.length_cons, Nat.add_comm fs.length, ← Nat.add_assoc]
    exact ih h.resent

end FramesOut

/-! ### Frames that wait for room -/

/-- Frames may have joined those of a link that wait to be acknowledged, where some waited for room. -/
def ReplayGrows (g : Nat) (s t : State) : Prop :=
  t.time = s.time ∧ t.sch = s.sch ∧ KeepsObjects notSent s t ∧ (t.link g).resent = (s.link g).resent ∧
    ((t.link g).advanced = (s.link g).advanced ∨ (t.link g).advanced = s.time.now) ∧
    ∃ more, (t.link g).replay = (s.link g).replay ++ more ∧ ((s.link g).waiting = [] → more = [])

theorem ReplayGrows.refl (g : Nat) (s : State) : ReplayGrows g s s :=
  ⟨rfl, rfl, .refl _ s, rfl, .inl rfl, [], (List.append_nil _).symm, fun _ => rfl⟩

/-- A sequenced frame leaves on a group whose link has changed to l. -/
theorem State.sendSeq_setLink (s : State) (g : Nat) (l : Link) (typ cls : Nat) (q : QFrame) :
    ((s.setLink g l).sendSeq g typ cls q).link g = l.sent s.time.now typ cls q ∧ ((s.setLink g l).sendSeq g typ cls q).time = s.time ∧
    ((s.setLink g l).sendSeq g typ cls q).sch = s.sch ∧ KeepsObjects notSent s ((s.setLink g l).sendSeq g typ cls q) := by
  have hsent := FramesOut.sendSeq (s.setLink g l) g typ cls q
  have hlink := hsent.link g
  rw [State.link_setLink_same, State.link_setLink_same] at hlink
  exact ⟨hlink, hsent.time, hsent.sch, hsent.keeps⟩

theorem Link.sent_advanced (l : Link) (now typ cls : Nat) (q : QFrame) :
    (l.sent now typ cls q).advanced = l.advanced ∨ (l.sent now typ cls q).advanced = now := by
  unfold Link.sent
  dsimp only
  split
  · exact .inr rfl
  · exact .inl rfl

theorem State.sendWaiting_grows (n : Nat) (s : State) (g : Nat) : ReplayGrows g s (State.sendWaiting n s g) := by
  induction n generalizing s with
  | zero => exact .refl g s
  | succ n ih =>
    unfold State.sendWaiting
    split
    · exact .refl g s
    next w rest hwaiting =>
      split
      · obtain ⟨l, hl⟩ : ∃ l, l = { s.link g with waiting := rest } := ⟨_, rfl⟩
        obtain ⟨f, hf⟩ : ∃ f, (l.sent s.time.now w.1 0 { kind := .alarm, bytes := w.2 }).replay = l.replay ++ [f] := ⟨_, rfl⟩
        have hl' : l.resent = (s.link g).resent ∧ l.advanced = (s.link g).advanced ∧ l.replay = (s.link g).replay := by rw [hl]; exact ⟨rfl, rfl, rfl⟩
        obtain ⟨hresent, hadvanced, hreplay⟩ := hl'
        obtain ⟨hlink, htime, hsch, hkeeps⟩ := s.sendSeq_setLink g l w.1 0 { kind := .alarm, bytes := w.2 }
        have hsentAt := l.sent_advanced s.time.now w.1 0 { kind := .alarm, bytes := w.2 }
        rw [← hlink] at hsentAt hf
        rw [← hl]
        have hsame : ((s.setLink g l).sendSeq g w.1 0 { kind := .alarm, bytes := w.2 } |>.link g).resent = (s.link g).resent := by
          rw [hlink]
          exact hresent
        clear hl hlink
        generalize (s.setLink g l).sendSeq g w.1 0 { kind := .alarm, bytes := w.2 } = v at hf htime hsch hkeeps hsentAt hsame ⊢
        obtain ⟨ktime, ksch, kkeeps, kresent, kadvanced, more, kreplay, -⟩ := ih v
        refine ⟨ktime.trans htime, ksch.trans hsch, hkeeps.trans kkeeps, kresent.trans hsame, ?_, f :: more, ?_, fun h => ?_⟩
        · rw [htime] at kadvanced
          rw [hadvanced] at hsentAt
          obtain kadvanced | kadvanced := kadvanced
          · rwa [kadvanced]
          · exact .inr kadvanced
        · rw [kreplay, hf, hreplay, List.append_assoc]
          rfl
        · rw [hwaiting] at h
          exact absurd h (List.cons_ne_nil _ _)
      · exact .refl g s

/-! ### A group at RETRY_LIMIT (13 R281) -/

/-- What an operation on other lanes leaves of lane p: its state, and what it was when it entered it. -/
def LaneStays (p : Nat) (s t : State) : Prop :=
  t.lane p = s.lane p ∧ t.rd Dict.laneState p = s.rd Dict.laneState p

theorem State.leaveUp_stays {p q : Nat} (hq : q ≠ p) (s : State) (cause st step : Nat) (alarm : Bool) :
    LaneStays p s (s.leaveUp q cause st step alarm) := by
  have hfrom := s.leaveUp_from q cause st step alarm
  have hleft : LaneBeside p s (s.laneLeft q cause st step) := (LaneBeside.laneTo hq s ..).trans (.wr hq _ (by decide) _)
  exact ⟨(hfrom.lane p).trans hleft.2.1, (hfrom.rdLane (by decide) p).trans (hleft.rd (by decide))⟩

theorem State.failGroup_fails (s : State) {g p : Nat} (hp : p ∈ s.upLanes g) : KeepsObjects (fun _ => False) s (s.failGroup g) ∧
    (s.failGroup g).rd Dict.laneState p = 4 ∧ ((s.failGroup g).lane p).cause = 1 := by
  have hnodup : (s.upLanes g).Nodup := (List.nodup_range.filter _).filter _
  obtain ⟨v, -, hlane, hstate⟩ := State.foldl_through (Rel := LaneStays p) (f := fun t q => t.leaveUp q 1 4 0xFF true) (fun _ => ⟨rfl, rfl⟩)
    (fun ⟨hlane, hstate⟩ ⟨klane, kstate⟩ => ⟨klane.trans hlane, kstate.trans hstate⟩) (fun t q hq => t.leaveUp_stays hq 1 4 0xFF true) hnodup hp s
  have hentered := v.leaveUp_entered p (st := 4) (step := 0xFF) (by decide) (by decide) 1 true
  refine ⟨List.foldlRecOn _ _ (.refl _ s) fun t ht q _ => ht.trans (t.leaveUp_keeps q 1 4 0xFF true), hstate.trans hentered.state, ?_⟩
  rw [State.failGroup, hlane, hentered.lane]
  rfl

/-- What is sent again on a link, and then a group at RETRY_LIMIT is taken down. -/
theorem State.resend_sends (s : State) (g : Nat) (hreplay : (s.link g).replay ≠ []) :
    ∃ v, FramesOut (s.link g).replay.length
        (s.setLink g { s.link g with advanced := s.time.now, resent := (s.link g).resent + 1 }) v ∧
      s.resend g = if s.rd Dict.retryLimit ≤ (s.link g).resent + 1 then v.failGroup g else v := by
  unfold State.resend
  extract_lets l s1 s2
  have hsome : ¬ l.replay.isEmpty = true := by
    rw [List.isEmpty_iff]
    exact hreplay
  have hsent : FramesOut (0 + l.replay.length) s1 s2 := (FramesOut.refl s1).resentAll g l.replay
  rw [Nat.zero_add] at hsent
  refine ⟨s2, hsent, ?_⟩
  have hlimit : s2.rd Dict.retryLimit = s.rd Dict.retryLimit := hsent.keeps.rd (by decide)
  rw [if_neg hsome, hlimit]

/-- An operation on the links of other groups: time, the groups, RETRY_LIMIT and the link of group g are as they were, but that
frames may have joined the link. -/
def LinkBeside (g : Nat) (s t : State) : Prop :=
  t.time.now = s.time.now ∧ GroupsFrom s t ∧ t.rd Dict.retryLimit = s.rd Dict.retryLimit ∧ LinkKept s.time.now (s.link g) (t.link g) ∧
    KeepsObjects (fun _ => False) s t

theorem State.laneLeft_others (s : State) (p cause st step : Nat) :
    KeepsObjects (fun k => k % 256 ≠ 2 ∧ k % 256 ≠ 3 ∧ k % 256 ≠ 0x0B) s (s.laneLeft p cause st step) := by
  refine ((s.laneTo_keeps p st step cause).mono ?_).trans (.wr _ _ _ _ _ ?_)
  · rintro k ⟨hstate, hstep, -⟩
    unfold Ob.key
    simp only [Dict.laneState, Dict.laneTrainStep]
    omega
  · unfold Ob.key
    simp only [Dict.laneDownEvents]
    omega

namespace LinkBeside

theorem refl (g : Nat) (s : State) : LinkBeside g s s := ⟨rfl, ⟨rfl, rfl, fun _ => rfl⟩, rfl, .refl .., .refl _ s⟩

theorem trans {g : Nat} {s t u : State} (h : LinkBeside g s t) (k : LinkBeside g t u) : LinkBeside g s u := by
  obtain ⟨hnow, ⟨hbuild, hsplit, hgroups⟩, hlimit, hlink, hkeeps⟩ := h
  obtain ⟨know, ⟨kbuild, ksplit, kgroups⟩, klimit, klink, kkeeps⟩ := k
  rw [hnow] at klink
  exact ⟨know.trans hnow, ⟨kbuild.trans hbuild, ksplit.trans hsplit, fun q => (kgroups q).trans (hgroups q)⟩, klimit.trans hlimit,
    hlink.trans klink, hkeeps.trans kkeeps⟩

theorem leaveUp {g p : Nat} (s : State) (hp : s.groupOf p ≠ g) (cause st step : Nat) (alarm : Bool) :
    LinkBeside g s (s.leaveUp p cause st step alarm) := by
  have hfrom := s.leaveUp_from p cause st step alarm
  have hgroups : GroupsFrom s (s.laneLeft p cause st step) := by
    refine ⟨rfl, rfl, fun q => ?_⟩
    by_cases hq : q = p
    · subst hq
      have hlane : (s.laneLeft q cause st step).lane q = (s.lane q).entering s.time.now cause := State.lane_setLane_same ..
      rw [hlane]
      rfl
    · exact congrArg Lane.inGroup (State.lane_setLane_other _ hq _)
  have hlimit : (s.laneLeft p cause st step).rd Dict.retryLimit = s.rd Dict.retryLimit :=
    (s.laneLeft_others p cause st step).rd (by decide)
  obtain ⟨kbuild, ksplit, kgroups⟩ := GroupsFrom.of_link hfrom
  refine ⟨hfrom.now, ⟨kbuild.trans hgroups.1, ksplit.trans hgroups.2.1, fun q => (kgroups q).trans (hgroups.2.2 q)⟩,
    (hfrom.objects.rd (.inr rfl)).trans hlimit, hfrom.link (Ne.symm hp), s.leaveUp_keeps p cause st step alarm⟩

theorem failGroup {g k : Nat} (hk : k ≠ g) (s : State) : LinkBeside g s (s.failGroup k) := by
  refine List.foldlRecOn _ _ (refl g s) fun t ht p hp => ht.trans (leaveUp t ?_ ..)
  have hgroup : s.groupOf p = k := by
    obtain ⟨hmem, -⟩ := List.mem_filter.mp hp
    obtain ⟨-, hgroup⟩ := List.mem_filter.mp hmem
    exact beq_iff_eq.mp hgroup
  rw [ht.2.1.groupOf, hgroup]
  exact hk

theorem resend {g k : Nat} (hk : k ≠ g) (s : State) : LinkBeside g s (s.resend k) := by
  by_cases hreplay : (s.link k).replay = []
  · have hnothing : s.resend k = s := by rw [State.resend, hreplay]; rfl
    rw [hnothing]
    exact refl g s
  · obtain ⟨v, hsent, hresend⟩ := s.resend_sends k hreplay
    have hv : LinkBeside g s v := by
      have hsame := hsent.link g
      rw [State.link_setLink_other s (Ne.symm hk)] at hsame
      obtain ⟨hbuild, hsplit, hgroups⟩ := hsent.groups
      refine ⟨congrArg (·.now) hsent.time, ⟨hbuild, hsplit, hgroups⟩, hsent.keeps.rd (by decide), ?_, hsent.keeps.mono fun _ => False.elim⟩
      rw [hsame]
      exact .refl ..
    rw [hresend]
    split
    · exact hv.trans (failGroup hk v)
    · exact hv

end LinkBeside

/-! ### ACK, NAK, REPLAY_TIMEOUT -/

/-- A frame received on a lane: the links as they were, and the lanes. -/
theorem State.rxOn_same (s : State) (p n : Nat) : (s.rxOn p n).lnk = s.lnk ∧ (s.rxOn p n).sch = s.sch ∧ (s.rxOn p n).time = s.time ∧
    (s.rxOn p n).out = s.out ∧ KeepsObjects (fun k => k % 256 ≠ 8) s (s.rxOn p n) := by
  obtain ⟨c, hc⟩ := s.rxOn_only p n
  rw [hc]
  refine ⟨rfl, rfl, rfl, rfl, KeepsObjects.wr s Dict.laneFramesRx _ p 0 ?_⟩
  unfold Ob.key
  simp only [Dict.laneFramesRx]
  omega

/-- An ACK_SEQ that is in the window frees what lies before it. -/
theorem State.takeAckSeq_frees (s : State) {g a n : Nat} {f : SentFrame} (hfirst : (s.link g).replay.head? = some f)
    (hn : n = (a + 4096 - f.seq % 4096) % 4096) (hpos : 0 < n) (hle : n ≤ (s.link g).replay.length) :
    ∃ l, l.replay = (s.link g).replay.drop n ∧ l.waiting = (s.link g).waiting ∧ l.advanced = s.time.now ∧ l.resent = 0 ∧
      s.takeAckSeq g a = State.sendWaiting (s.link g).waiting.length (s.setLink g l) g := by
  obtain ⟨rest, hreplay⟩ : ∃ rest, (s.link g).replay = f :: rest := by
    cases hr : (s.link g).replay with
    | nil => rw [hr] at hfirst; cases hfirst
    | cons x rest => rw [hr] at hfirst; cases hfirst; exact ⟨rest, rfl⟩
  have hacts : ¬ (n = 0 ∨ (s.link g).replay.length < n) := by omega
  refine ⟨{ s.link g with
    replay := (s.link g).replay.drop n, advanced := s.time.now, resent := 0
    acked := s.unfinished g ((s.link g).acked ++ (s.link g).replay.take n) ((s.link g).replay.drop n) }, rfl, rfl, rfl, rfl, ?_⟩
  unfold State.takeAckSeq
  extract_lets l
  split
  next hnil => exact absurd (hreplay.symm.trans hnil) (List.cons_ne_nil _ _)
  next x _ hcons =>
    obtain ⟨rfl, -⟩ := List.cons_eq_cons.mp (hreplay.symm.trans hcons)
    rw [← hn, if_neg hacts]

/-- The number of the oldest frame itself frees nothing. -/
theorem State.takeAckSeq_oldest (s : State) {g : Nat} {f : SentFrame} (hfirst : (s.link g).replay.head? = some f) (hseq : f.seq < 4096) :
    s.takeAckSeq g f.seq = s := by
  unfold State.takeAckSeq
  extract_lets l
  split
  · rfl
  next x _ hcons =>
    obtain rfl : x = f := by
      have hhead : l.replay.head? = some f := hfirst
      rw [hcons] at hhead
      exact Option.some.inj hhead
    have hnone : (x.seq + 4096 - x.seq % 4096) % 4096 = 0 := by omega
    rw [hnone, if_pos (.inl rfl)]

section
variable {dt p : Nat} {s u : State} (hu : u = s.elapse dt) (hreset : u.inReset = false) (hp : p < u.ports)
  (hstate : u.rd Dict.laneState p = 3)
include hu hreset hp hstate

theorem ack_frees {a n : Nat} {f : SentFrame} (hfirst : (u.link (u.groupOf p)).replay.head? = some f)
    (hn : n = (a + 4096 - f.seq % 4096) % 4096) (hpos : 0 < n) (hle : n ≤ (u.link (u.groupOf p)).replay.length) :
    Does (.ack dt p a) s (fun t => (t.link (u.groupOf p)).advanced = u.time.now ∧ (t.link (u.groupOf p)).resent = 0 ∧ t.sch = u.sch ∧
      t.rd Dict.laneFramesRx p = (u.rd Dict.laneFramesRx p + 1) % 2 ^ 64 ∧
      ∃ more, (t.link (u.groupOf p)).replay = (u.link (u.groupOf p)).replay.drop n ++ more ∧
        ((u.link (u.groupOf p)).waiting = [] → more = [])) := by
  generalize hgroup : u.groupOf p = g at *
  refine .of_laneEvent hu hreset hp rfl hstate ?_
  rw [hgroup]
  obtain ⟨hlnk, hsch, htime, -, -⟩ := u.rxOn_same p 0
  have hkept := u.rxOn_keeps p 0
  have hcounts := u.rxOn_counts p 0
  generalize u.rxOn p 0 = v at hlnk hsch htime hkept hcounts ⊢
  have hlink : v.link g = u.link g := congrArg (fun l : Links => Tbl.getD l.groups g {}) hlnk
  rw [← hlink] at hfirst hle
  obtain ⟨l, hreplay, hwaiting, hadvanced, hresent, htake⟩ := v.takeAckSeq_frees hfirst hn hpos hle
  rw [htake]
  obtain ⟨ktime, ksch, kkeeps, kresent, kadvanced, more, kreplay, kwaiting⟩ := State.sendWaiting_grows (v.link g).waiting.length (v.setLink g l) g
  rw [State.link_setLink_same] at kresent kadvanced kreplay kwaiting
  have hall : KeepsObjects (fun _ => False) u (State.sendWaiting (v.link g).waiting.length (v.setLink g l) g) :=
    hkept.trans (kkeeps.mono fun _ => False.elim)
  have hcounted : (State.sendWaiting (v.link g).waiting.length (v.setLink g l) g).rd Dict.laneFramesRx p = v.rd Dict.laneFramesRx p :=
    kkeeps.rd (by unfold notSent Ob.key; simp only [Dict.laneFramesRx]; omega)
  refine ⟨?_, kresent.trans hresent, ksch.trans hsch, (hall.rd_done hu ..).trans (hcounted.trans hcounts), more, ?_, fun h => kwaiting ?_⟩
  · rw [← htime]
    obtain kadvanced | kadvanced := kadvanced
    · exact kadvanced.trans hadvanced
    · exact kadvanced
  · rw [← hlink, ← hreplay]
    exact kreplay
  · rw [hwaiting, hlink, h]

/-- NAK of the oldest unacknowledged frame: all of them are sent again. -/
theorem Does.of_nak {f : SentFrame} {P : State → Prop} (hfirst : (u.link (u.groupOf p)).replay.head? = some f) (hseq : f.seq < 4096)
    (hP : P (((u.rxOn p 0).resend (u.groupOf p)).within s)) : Does (.nak dt p f.seq) s P := by
  obtain ⟨hlnk, -⟩ := u.rxOn_same p 0
  have hlink : (u.rxOn p 0).link (u.groupOf p) = u.link (u.groupOf p) := congrArg (fun l : Links => Tbl.getD l.groups (u.groupOf p) {}) hlnk
  rw [← hlink] at hfirst
  refine .of_laneEvent hu hreset hp rfl hstate ?_
  rw [(u.rxOn p 0).takeAckSeq_oldest hfirst hseq]
  exact hP

section
variable {f : SentFrame} (hfirst : (u.link (u.groupOf p)).replay.head? = some f) (hseq : f.seq < 4096)
include hfirst hseq

theorem nak_resends (hlimit : (u.link (u.groupOf p)).resent + 1 < u.rd Dict.retryLimit) :
    Does (.nak dt p f.seq) s (fun t => (t.link (u.groupOf p)).replay = (u.link (u.groupOf p)).replay ∧
      (t.link (u.groupOf p)).resent = (u.link (u.groupOf p)).resent + 1 ∧ (t.link (u.groupOf p)).advanced = u.time.now ∧
      t.out.length = u.out.length + (u.link (u.groupOf p)).replay.length) := by
  refine .of_nak hu hreset hp hstate hfirst hseq ?_
  generalize u.groupOf p = g at *
  obtain ⟨hlnk, -, htime, hout, hkept⟩ := u.rxOn_same p 0
  generalize u.rxOn p 0 = v at hlnk htime hout hkept ⊢
  have hlink : v.link g = u.link g := congrArg (fun l : Links => Tbl.getD l.groups g {}) hlnk
  have hv : v.rd Dict.retryLimit = u.rd Dict.retryLimit := hkept.rd (by decide)
  rw [← hlink, ← hv] at hlimit
  have hsome : (v.link g).replay ≠ [] := by
    rw [hlink]
    intro hnil
    rw [hnil] at hfirst
    cases hfirst
  obtain ⟨w, hsent, hresend⟩ := v.resend_sends g hsome
  rw [hresend, if_neg (by omega)]
  have hw := hsent.link g
  rw [State.link_setLink_same] at hw
  have hdone : (w.within s).link g = w.link g := rfl
  rw [hdone, hw, ← hlink, ← htime]
  exact ⟨rfl, rfl, rfl, hsent.out.trans (congrArg (fun o : List Output => o.length + (v.link g).replay.length) hout)⟩

theorem nak_fails (hlimit : u.rd Dict.retryLimit ≤ (u.link (u.groupOf p)).resent + 1) :
    Does (.nak dt p f.seq) s (fun t => t.rd Dict.laneState p = 4 ∧ (t.lane p).cause = 1) := by
  refine .of_nak hu hreset hp hstate hfirst hseq ?_
  obtain ⟨g, hgroup⟩ : ∃ g, u.groupOf p = g := ⟨_, rfl⟩
  rw [hgroup] at hfirst hlimit ⊢
  obtain ⟨hlnk, -, -, -, hkept⟩ := u.rxOn_same p 0
  generalize u.rxOn p 0 = v at hlnk hkept ⊢
  have hlink : v.link g = u.link g := congrArg (fun l : Links => Tbl.getD l.groups g {}) hlnk
  have hv : v.rd Dict.retryLimit = u.rd Dict.retryLimit := hkept.rd (by decide)
  have hup : v.laneUp p = true := by
    have hrd : v.rd Dict.laneState p = 3 := (hkept.rd (by unfold Ob.key; simp only [Dict.laneState]; omega)).trans hstate
    rw [State.laneUp, hrd]
    rfl
  have hgroups : GroupsFrom u v := ⟨hkept.1, congrArg Links.split hlnk, fun q => congrArg (fun l : Links => (Tbl.getD l.lanes q {}).inGroup) hlnk⟩
  rw [← hlink, ← hv] at hlimit
  have hsome : (v.link g).replay ≠ [] := by
    rw [hlink]
    intro hnil
    rw [hnil] at hfirst
    cases hfirst
  obtain ⟨w, hsent, hresend⟩ := v.resend_sends g hsome
  rw [hresend, if_pos hlimit]
  have hmem : p ∈ w.upLanes g := by
    have hports : w.ports = u.ports := by
      unfold State.ports State.isDie
      have hbuild : w.build = u.build := hsent.keeps.1.trans hkept.1
      rw [hbuild]
    have hlanes : p ∈ w.lanesOf g := List.mem_filter.mpr
      ⟨List.mem_range.mpr (hports ▸ hp), beq_iff_eq.mpr ((hsent.groups.groupOf p).trans ((hgroups.groupOf p).trans hgroup))⟩
    exact List.mem_filter.mpr ⟨hlanes, (hsent.laneUp p).trans hup⟩
  obtain ⟨hfailed, hnext, hcause⟩ := w.failGroup_fails hmem
  have hall : KeepsObjects (fun _ => False) u (w.failGroup g) :=
    ((hkept.mono fun _ => False.elim).trans (hsent.keeps.mono fun _ => False.elim)).trans hfailed
  exact ⟨(hall.rd_done hu ..).trans hnext, hcause⟩

end

end

theorem State.groupList_nodup (s : State) : s.groupList.Nodup := List.nodup_range.filter _

section
variable {dt g : Nat} {s u : State} (hu : u = s.elapse dt) (hon : u.inChipReset = false) (hg : g ∈ u.groupList) (hup : u.groupUp g = true)
include hu hon hg hup

theorem replayTimeout_resends (hreplay : (u.link g).replay ≠ []) (hpassed : u.passed (u.link g).advanced (u.rd Dict.replayTimeout) = true)
    (hlimit : (u.link g).resent + 1 < u.rd Dict.retryLimit) :
    Does (.replayTimeout dt) s (fun t => (t.link g).resent = (u.link g).resent + 1 ∧ (t.link g).advanced = u.time.now) := by
  have hmem : g ∈ u.groupList.filter fun g => u.groupUp g && !(u.link g).replay.isEmpty && u.passed (u.link g).advanced (u.rd Dict.replayTimeout) := by
    have hsome : (u.link g).replay.isEmpty = false := by
      rw [List.isEmpty_eq_false_iff]
      exact hreplay
    exact List.mem_filter.mpr ⟨hg, by rw [hup, hsome, hpassed]; rfl⟩
  obtain ⟨v, hbefore, hafter⟩ := State.foldl_through (Rel := LinkBeside g) (LinkBeside.refl g) LinkBeside.trans
    (fun t q hq => LinkBeside.resend hq t) (u.groupList_nodup.filter _) hmem u
  refine .of_island hu rfl hon ?_
  obtain ⟨know, -, klimit, ⟨-, -, kresent, -, kreplay⟩, -⟩ := hbefore
  obtain ⟨w, hsent, hresend⟩ := v.resend_sends g (kreplay hreplay)
  rw [hresend, klimit, kresent, if_neg (by omega)] at hafter
  have hw := hsent.link g
  rw [State.link_setLink_same] at hw
  obtain ⟨-, -, -, ⟨-, -, wresent, wadvanced, -⟩, -⟩ := hafter
  have hnow : w.time.now = u.time.now := (congrArg (·.now) hsent.time).trans know
  rw [hw] at wresent wadvanced
  refine ⟨wresent.trans (congrArg (· + 1) kresent), ?_⟩
  obtain wadvanced | wadvanced := wadvanced
  · exact wadvanced.trans know
  · exact wadvanced.trans hnow

/-- What a CREDIT frame on another group leaves. -/
def CreditBeside (g : Nat) (s t : State) : Prop :=
  t.time = s.time ∧ GroupsFrom s t ∧ (∀ q, t.laneUp q = s.laneUp q) ∧ t.link g = s.link g ∧ s.out.length ≤ t.out.length

omit hu hon hg hup in
theorem CreditBeside.refl (g : Nat) (s : State) : CreditBeside g s s := ⟨rfl, ⟨rfl, rfl, fun _ => rfl⟩, fun _ => rfl, rfl, Nat.le_refl _⟩

omit hu hon hg hup in
theorem CreditBeside.trans {g : Nat} {s t u : State} (h : CreditBeside g s t) (k : CreditBeside g t u) : CreditBeside g s u := by
  obtain ⟨htime, ⟨hbuild, hsplit, hgroups⟩, hup, hlink, hout⟩ := h
  obtain ⟨ktime, ⟨kbuild, ksplit, kgroups⟩, kup, klink, kout⟩ := k
  exact ⟨ktime.trans htime, ⟨kbuild.trans hbuild, ksplit.trans hsplit, fun q => (kgroups q).trans (hgroups q)⟩,
    fun q => (kup q).trans (hup q), klink.trans hlink, hout.trans kout⟩

omit hu hon hg hup in
/-- A CREDIT frame with what is withheld no longer. -/
theorem State.freeCredit_sendCredit (s : State) (k : Nat) : ∃ n l, FramesOut n ((s.setLink k l).setLink k { l with lastCredit := s.time.now })
    ((s.freeCredit k).sendCredit k) ∧ (s.groupUp k = true → n = 1) := by
  obtain ⟨l, hl⟩ : ∃ l, s.freeCredit k = s.setLink k l := ⟨_, rfl⟩
  obtain ⟨n, hsent, hone⟩ := FramesOut.sendCredit (s.setLink k l) k
  rw [State.link_setLink_same] at hsent
  rw [hl]
  exact ⟨n, l, hsent, fun h => hone h⟩

omit hu hon hg hup in
theorem CreditBeside.credited {g k : Nat} (hk : k ≠ g) (s : State) : CreditBeside g s ((s.freeCredit k).sendCredit k) := by
  obtain ⟨n, l, hsent, -⟩ := s.freeCredit_sendCredit k
  have hlink := hsent.link g
  rw [State.link_setLink_other _ (Ne.symm hk), State.link_setLink_other _ (Ne.symm hk)] at hlink
  have hout := hsent.out
  exact ⟨hsent.time, hsent.groups, hsent.laneUp, hlink, hout ▸ Nat.le_add_right _ n⟩

theorem creditRefresh_credits (hpassed : u.passed (u.link g).lastCredit 10000 = true) :
    Does (.creditRefresh dt) s (fun t => (t.link g).lastCredit = u.time.now ∧ u.out.length < t.out.length) := by
  have hmem : g ∈ u.groupList.filter fun g => u.groupUp g && u.passed (u.link g).lastCredit 10000 :=
    List.mem_filter.mpr ⟨hg, by rw [hup, hpassed]; rfl⟩
  obtain ⟨v, ⟨htime, hgroups, hlanes, -, hout⟩, -, -, -, klink, kout⟩ := State.foldl_through (Rel := CreditBeside g)
    (f := fun t k => (t.freeCredit k).sendCredit k) (CreditBeside.refl g) CreditBeside.trans (fun t q hq => CreditBeside.credited hq t)
    (u.groupList_nodup.filter _) hmem u
  obtain ⟨n, l, hsent, hone⟩ := v.freeCredit_sendCredit g
  have hlast := congrArg Link.lastCredit (hsent.link g)
  rw [State.link_setLink_same] at hlast
  have hgrown := hsent.out
  rw [hone ((hgroups.groupUp hlanes g).trans hup)] at hgrown
  refine .of_island hu rfl hon ⟨(congrArg Link.lastCredit klink).trans (hlast.trans (congrArg (·.now) htime)), ?_⟩
  have hsame : ((v.setLink g l).setLink g { l with lastCredit := v.time.now }).out = v.out := rfl
  rw [hsame] at hgrown
  have hless : u.out.length < ((v.freeCredit g).sendCredit g).out.length := by omega
  exact hless.trans_le kout

end

/-! ### CREDIT (13 R283) -/

/-- A table whose first n places have been set. -/
theorem Tbl.get?_foldl_set {α : Type} (f : Nat → α) (t : Tbl α) (n c : Nat) :
    Tbl.get? ((List.range n).foldl (fun t c => Tbl.set t c (f c)) t) c = if c < n then some (f c) else Tbl.get? t c := by
  induction n with
  | zero => simp
  | succ n ih =>
    rw [List.range_succ, List.foldl_append, List.foldl_cons, List.foldl_nil]
    by_cases hc : c = n
    · subst hc
      rw [Tbl.get?_set_same, if_pos (Nat.lt_succ_self c)]
    · rw [Tbl.get?_set_other _ _ _ _ (Ne.symm hc), ih]
      have hlt : (c < n + 1) = (c < n) := by
        rw [eq_iff_iff]
        omega
      simp only [hlt]

section
variable {dt p : Nat} {s u : State} (hu : u = s.elapse dt) (hreset : u.inReset = false) (hp : p < u.ports)
include hu hreset hp

section
variable (hstate : u.rd Dict.laneState p = 3)
include hstate

theorem credit_taken {credits : List Nat} (hlen : credits.length = 8) :
    Does (.credit dt p credits) s (fun t => ∀ c, c < 8 → Tbl.get? (t.link (u.groupOf p)).credit c = credits[c]?) := by
  refine .of_laneEvent hu hreset hp rfl hstate fun c hc => ?_
  refine (congrArg (fun l : Link => Tbl.get? l.credit c) (State.link_setLink_same (u.rxOn p 16) (u.groupOf p) _)).trans ?_
  refine (Tbl.get?_foldl_set (fun c => credits.getD c (Tbl.getD (u.link (u.groupOf p)).credit c (fullGrant c))) _ 8 c).trans ?_
  rw [if_pos hc, List.getD_eq_getElem _ _ (by omega), List.getElem?_eq_getElem]

end

end

/-! ### DATA_FRAME (13 R280, R281, R283) -/

/-- A sequenced frame is accepted, and acknowledged. -/
theorem State.acceptSeq_accepts (s : State) (p n : Nat) : ∃ k v, s.acceptSeq p (s.link (s.groupOf p)).expect n true = (true, v) ∧
    FramesOut k ((s.setLink (s.groupOf p) { s.link (s.groupOf p) with expect := ((s.link (s.groupOf p)).expect + 1) % 4096, nakSince := none }).rxOn p n) v := by
  have hgood : (true && (s.link (s.groupOf p)).expect == (s.link (s.groupOf p)).expect) = true := by simp
  refine ⟨_, _, ?_, (FramesOut.refl _).sendCtl (g := s.groupOf p) (typ := 1) (b := [])⟩
  unfold State.acceptSeq
  extract_lets
  rw [if_pos hgood]

/-- A sequenced frame that is damaged or out of order is discarded, and a NAK follows where none is outstanding. -/
theorem State.acceptSeq_refuses (s : State) (p seq n : Nat) (good : Bool) (hbad : good = false ∨ seq ≠ (s.link (s.groupOf p)).expect)
    (hnak : (s.link (s.groupOf p)).nakSince = none) : ∃ k v, s.acceptSeq p seq n good = (false, v) ∧
    FramesOut k ((if good then s else s.bumpSat Dict.laneCrcErrors p).setLink (s.groupOf p) { s.link (s.groupOf p) with nakSince := some s.time.now }) v := by
  have hgood : ¬ (good && seq == (s.link (s.groupOf p)).expect) = true := by
    obtain rfl | hseq := hbad
    · simp
    · simp [hseq]
  refine ⟨_, _, ?_, (FramesOut.refl _).sendCtl (g := s.groupOf p) (typ := 2) (b := [])⟩
  unfold State.acceptSeq
  dsimp only
  rw [if_neg hgood, hnak]
  rfl

/-- Credit of an accepted frame is given back. -/
theorem State.takeCredit_gives (s : State) (g c n : Nat) : ∃ m l, FramesOut m ((s.setLink g l).setLink g { l with lastCredit := s.time.now })
    (s.takeCredit g c n) ∧ l.expect = (s.link g).expect ∧ l.nakSince = (s.link g).nakSince ∧
    l.taken = Tbl.set (s.link g).taken c ((Tbl.getD (s.link g).taken c 0 + creditUnits n) % 65536) := by
  obtain ⟨l, hl, hkept⟩ : ∃ l, s.takeCredit g c n = (s.setLink g l).sendCredit g ∧ l.expect = (s.link g).expect ∧
      l.nakSince = (s.link g).nakSince ∧ l.taken = Tbl.set (s.link g).taken c ((Tbl.getD (s.link g).taken c 0 + creditUnits n) % 65536) :=
    ⟨_, rfl, rfl, rfl, rfl⟩
  obtain ⟨m, hsent, -⟩ := FramesOut.sendCredit (s.setLink g l) g
  rw [State.link_setLink_same] at hsent
  rw [hl]
  exact ⟨m, l, hsent, hkept⟩

section
variable {dt p : Nat} {s u : State} (hu : u = s.elapse dt) (hreset : u.inReset = false) (hp : p < u.ports)
include hu hreset hp

theorem dataFrame_accepted {cls n : Nat} (hstate : u.rd Dict.laneState p = 3) :
    Does (.dataFrame dt p true (u.link (u.groupOf p)).expect cls n none none) s (fun t =>
      (t.link (u.groupOf p)).expect = ((u.link (u.groupOf p)).expect + 1) % 4096 ∧ (t.link (u.groupOf p)).nakSince = none ∧
      t.rd Dict.laneFramesRx p = (u.rd Dict.laneFramesRx p + 1) % 2 ^ 64 ∧
      Tbl.getD (t.link (u.groupOf p)).taken cls 0 = (Tbl.getD (u.link (u.groupOf p)).taken cls 0 + creditUnits n) % 65536) := by
  obtain ⟨k, v, haccept, hv⟩ := u.acceptSeq_accepts p n
  have hexec : execDataFrame dt p true (u.link (u.groupOf p)).expect cls n none none s = _ := congrArg Host.Outcome.next (if_pos rfl)
  refine .of_laneEvent hu hreset hp hexec hstate ?_
  simp only [haccept, Bool.not_true, Bool.false_eq_true, if_false]
  generalize u.groupOf p = g at *
  obtain ⟨l, hl⟩ : ∃ l, l = { u.link g with expect := ((u.link g).expect + 1) % 4096, nakSince := none } := ⟨_, rfl⟩
  rw [← hl] at hv
  obtain ⟨hlnk, -, -, -, -⟩ := (u.setLink g l).rxOn_same p n
  have hcounts := (u.setLink g l).rxOn_counts p n
  have hsame : (u.setLink g l).rd Dict.laneFramesRx p = u.rd Dict.laneFramesRx p := rfl
  rw [hsame] at hcounts
  have hkept : KeepsObjects (fun _ => False) u ((u.setLink g l).rxOn p n) := (u.setLink g l).rxOn_keeps p n
  have hlink : v.link g = l := by
    rw [hv.link, State.link, hlnk]
    exact State.link_setLink_same u g l
  obtain ⟨m, l', hw, hexpect, hnak, htaken⟩ := v.takeCredit_gives g cls n
  have hcredited : ((v.takeCredit g cls n).link g) = { l' with lastCredit := v.time.now } := (hw.link g).trans (State.link_setLink_same ..)
  have hkeeps : KeepsObjects notSent ((u.setLink g l).rxOn p n) (v.takeCredit g cls n) := hv.keeps.trans hw.keeps
  have hall : KeepsObjects (fun _ => False) u (v.takeCredit g cls n) := hkept.trans (hkeeps.mono fun _ => False.elim)
  clear hv hw
  generalize v.takeCredit g cls n = w at hcredited hkeeps hall ⊢
  obtain ⟨pw, hwake⟩ := w.touch.wake_only 1 p cls
  have hcounted : (({ w.touch with pw := pw } : State).within s).rd Dict.laneFramesRx p = w.rd Dict.laneFramesRx p :=
    hall.rd_done hu Dict.laneFramesRx p 0
  have hlast : (({ w.touch with pw := pw } : State).within s).link g = { l' with lastCredit := v.time.now } := hcredited
  rw [hwake, hcounted, hlast]
  rw [hlink, hl] at hexpect hnak htaken
  refine ⟨hexpect, hnak, (hkeeps.rd ?_).trans hcounts, ?_⟩
  · unfold notSent Ob.key
    simp only [Dict.laneFramesRx]
    omega
  · show Tbl.getD l'.taken cls 0 = _
    rw [htaken, Tbl.getD_set_same]

/-- A damaged frame on a lane with block lock. -/
theorem Does.of_badFrame {seq cls n : Nat} {ack : Option Nat} {relay : Option (Nat × RedRec)} {P : State → Prop} (hstate : 2 ≤ u.rd Dict.laneState p)
    (hP : P ((if u.laneUp p then (u.acceptSeq p seq n false).2 else u.bumpSat Dict.laneCrcErrors p).within s)) :
    Does (.dataFrame dt p false seq cls n ack relay) s P := by
  have hexec : execDataFrame dt p false seq cls n ack relay s = .next (s.badFrame dt p seq n) := congrArg Host.Outcome.next (if_neg nofun)
  have hacts : ¬ (u.inReset || !decide (p < u.ports) || decide (u.rd Dict.laneState p < 2)) = true := by
    simp [hreset, hp, Nat.not_lt.mpr hstate]
  refine .of_after hu hexec ?_
  rw [if_neg hacts]
  exact hP

theorem dataFrame_refused {good : Bool} {seq cls n : Nat} {relay : Option (Nat × RedRec)} (hstate : u.rd Dict.laneState p = 3)
    (hbad : good = false ∨ seq ≠ (u.link (u.groupOf p)).expect) (hnak : (u.link (u.groupOf p)).nakSince = none) :
    Does (.dataFrame dt p good seq cls n none relay) s (fun t =>
      (t.link (u.groupOf p)).expect = (u.link (u.groupOf p)).expect ∧ (t.link (u.groupOf p)).nakSince = some u.time.now ∧ t.rt = u.rt ∧
      t.red = u.red ∧
      (good = false → t.rd Dict.laneCrcErrors p = satTo (8 * Dict.laneCrcErrors.ty.bytes) (u.rd Dict.laneCrcErrors p + 1))) := by
  obtain ⟨k, v, hrefuse, hv⟩ := u.acceptSeq_refuses p seq n good hbad hnak
  have hdone : ((v.within s).link (u.groupOf p)).expect = (u.link (u.groupOf p)).expect ∧
      ((v.within s).link (u.groupOf p)).nakSince = some u.time.now ∧ (v.within s).rt = u.rt ∧ (v.within s).red = u.red ∧
      (good = false → (v.within s).rd Dict.laneCrcErrors p = satTo (8 * Dict.laneCrcErrors.ty.bytes) (u.rd Dict.laneCrcErrors p + 1)) := by
    have hlink : (v.within s).link (u.groupOf p) = { u.link (u.groupOf p) with nakSince := some u.time.now } :=
      (hv.link _).trans (State.link_setLink_same ..)
    have hrt := hv.rt
    have hred := hv.red
    rw [hlink]
    cases good with
    | true => exact ⟨rfl, rfl, hrt, hred, nofun⟩
    | false =>
      refine ⟨rfl, rfl, hrt, hred, fun _ => ?_⟩
      have hkept : KeepsObjects (fun _ => False) u v := (KeepsObjects.bumpSat u Dict.laneCrcErrors p 0 1 id).trans (hv.keeps.mono fun _ => False.elim)
      have hcounted : v.rd Dict.laneCrcErrors p = (u.bumpSat Dict.laneCrcErrors p).rd Dict.laneCrcErrors p :=
        hv.keeps.rd (by unfold notSent Ob.key; simp only [Dict.laneCrcErrors]; omega)
      exact (hkept.rd_done hu ..).trans (hcounted.trans (u.stores_bumpSat Dict.laneCrcErrors p 0 1).rd)
  cases good with
  | true =>
    have hexec : execDataFrame dt p true seq cls n none relay s = _ := congrArg Host.Outcome.next (if_pos rfl)
    refine .of_laneEvent hu hreset hp hexec hstate ?_
    simp only [hrefuse, Bool.not_false, if_true]
    exact hdone
  | false =>
    have hup : u.laneUp p = true := by rw [State.laneUp, hstate]; rfl
    refine .of_badFrame hu hreset hp (by omega) ?_
    rw [if_pos hup, hrefuse]
    exact hdone

theorem dataFrame_training {seq cls n : Nat} {ack : Option Nat} {relay : Option (Nat × RedRec)} (hstate : u.rd Dict.laneState p = 2) :
    Does (.dataFrame dt p false seq cls n ack relay) s (fun t => t.rd Dict.laneState p = 2 ∧ t.lnk = u.lnk ∧ t.out = u.out ∧
      t.rd Dict.laneCrcErrors p = satTo (8 * Dict.laneCrcErrors.ty.bytes) (u.rd Dict.laneCrcErrors p + 1)) := by
  have hup : ¬ u.laneUp p = true := by simp [State.laneUp, hstate]
  have hkept : KeepsObjects (fun _ => False) u (u.bumpSat Dict.laneCrcErrors p) := .bumpSat u _ p 0 1 id
  refine .of_badFrame hu hreset hp (by omega) ?_
  rw [if_neg hup]
  refine ⟨(hkept.rd_done hu ..).trans ?_, rfl, rfl, (hkept.rd_done hu ..).trans (u.stores_bumpSat Dict.laneCrcErrors p 0 1).rd⟩
  exact (State.rd_wr_of_sub u (by decide) _ p p).trans hstate

end

/-- Settles O21: what a frame does to the link of its group, and what else it brings about leaves that link alone. -/
theorem linkCommandsComplete : Obligations.LinkCommandsComplete := by
  unfold Obligations.LinkCommandsComplete
  refine ⟨?_, ?_, ?_, ?_, ?_, ?_, ?_, ?_, fun _ _ _ _ _ _ _ _ _ hu hreset hp hstate => dataFrame_training hu hreset hp hstate⟩
  · rintro dt p a s u g f n hu hreset hp hstate rfl hfirst hn hpos hle
    exact ack_frees hu hreset hp hstate hfirst hn hpos hle
  · rintro dt p s u g f hu hreset hp hstate rfl hfirst hseq hlimit
    exact nak_resends hu hreset hp hstate hfirst hseq hlimit
  · rintro dt p s u g f hu hreset hp hstate rfl hfirst hseq hlimit
    exact nak_fails hu hreset hp hstate hfirst hseq hlimit
  · exact fun _ _ _ _ hu hon hg hup hreplay hpassed hlimit => replayTimeout_resends hu hon hg hup hreplay hpassed hlimit
  · rintro dt p credits s u g hu hreset hp hstate rfl hlen
    exact credit_taken hu hreset hp hstate hlen
  · exact fun _ _ _ _ hu hon hg hup hpassed => creditRefresh_credits hu hon hg hup hpassed
  · rintro dt p cls n s u g hu hreset hp hstate rfl
    exact dataFrame_accepted hu hreset hp hstate
  · rintro dt p good seq cls n relay s u g hu hreset hp hstate rfl hbad hnak
    exact dataFrame_refused hu hreset hp hstate hbad hnak

end Sys2Proof.Machine
end

section
/-! Routes and their moves (13 R287 to R289, R292; 15 R446). -/

namespace Sys2Proof.Machine

open Sys2Proof

-- one theorem after the other: each theorem that waits for the kernel would hold a thread
set_option Elab.async false

/-! ### What a move of the upward route is decided by -/

/-- The numbers of the objects that a move of the upward route is decided by, and of a lane's state. -/
abbrev routeObject (k : Nat) : Prop :=
  k ∈ [Dict.frameNow.key 0 0, Dict.upUse.key 0 0, Dict.routeLead.key 0 0, Dict.routeHome.key 0 0, Dict.homeHold.key 0 0,
    Dict.shutterStart.key 0 0, Dict.shutterPeriod.key 0 0, Dict.shutterBase.key 0 0] ∨ (0x300000 ≤ k ∧ k % 256 = 2)

/-- `t` has of `s` what a move of the upward route is decided by. -/
def RouteSame (s t : State) : Prop :=
  t.rt.entries = s.rt.entries ∧ t.time = s.time ∧ t.shutter = s.shutter ∧ GroupsFrom s t ∧ KeepsObjects routeObject s t

namespace RouteSame

theorem refl (s : State) : RouteSame s s := ⟨rfl, rfl, rfl, ⟨rfl, rfl, fun _ => rfl⟩, .refl _ s⟩

theorem granted (s : State) : RouteSame s s.granted := by
  refine ⟨rfl, rfl, rfl, ⟨rfl, rfl, fun _ => rfl⟩, s.granted_keeps.mono fun k hk => ?_⟩
  obtain hk | ⟨hk, -⟩ := hk
  · have hall : ∀ k ∈ [Dict.frameNow.key 0 0, Dict.upUse.key 0 0, Dict.routeLead.key 0 0, Dict.routeHome.key 0 0, Dict.homeHold.key 0 0,
        Dict.shutterStart.key 0 0, Dict.shutterPeriod.key 0 0, Dict.shutterBase.key 0 0], k ≠ 0x102D00 := by decide
    exact hall k hk
  · omega

section
variable {s t : State} (h : RouteSame s t)
include h

theorem trans {u : State} (k : RouteSame t u) : RouteSame s u := by
  obtain ⟨hentries, htime, hshutter, ⟨hbuild, hsplit, hgroups⟩, hkeeps⟩ := h
  obtain ⟨kentries, ktime, kshutter, ⟨kbuild, ksplit, kgroups⟩, kkeeps⟩ := k
  exact ⟨kentries.trans hentries, ktime.trans htime, kshutter.trans hshutter,
    ⟨kbuild.trans hbuild, ksplit.trans hsplit, fun q => (kgroups q).trans (hgroups q)⟩, hkeeps.trans kkeeps⟩

/-- The routes take another value with the entries as they are. -/
theorem setRt {x : Routes} (hx : x.entries = t.rt.entries) : RouteSame s { t with rt := x } := by
  obtain ⟨hentries, htime, hshutter, hgroups, hkeeps⟩ := h
  exact ⟨hx.trans hentries, htime, hshutter, hgroups, hkeeps⟩

theorem setLink {g : Nat} {l : Link} : RouteSame s (t.setLink g l) := h

theorem framesOut {n : Nat} {u : State} (k : FramesOut n t u) : RouteSame s u := by
  refine h.trans ?_
  have hgroups := k.groups
  obtain ⟨_, _, _, rfl, -, hkeeps⟩ := k
  refine ⟨rfl, rfl, rfl, hgroups, hkeeps.mono fun k hk => ?_⟩
  obtain hk | ⟨-, hk⟩ := hk
  · have hall : ∀ k ∈ [Dict.frameNow.key 0 0, Dict.upUse.key 0 0, Dict.routeLead.key 0 0, Dict.routeHome.key 0 0, Dict.homeHold.key 0 0,
        Dict.shutterStart.key 0 0, Dict.shutterPeriod.key 0 0, Dict.shutterBase.key 0 0], notSent k := by decide
    exact hall k hk
  · unfold notSent
    omega

theorem rxOn {p n : Nat} : RouteSame s (t.rxOn p n) := by
  refine h.trans ?_
  obtain ⟨-, -, -, -, hkeeps⟩ := t.rxOn_same p n
  obtain ⟨c, hc⟩ := t.rxOn_only p n
  rw [hc] at hkeeps ⊢
  refine ⟨rfl, rfl, rfl, ⟨rfl, rfl, fun _ => rfl⟩, hkeeps.mono fun k hk => ?_⟩
  obtain hk | ⟨-, hk⟩ := hk
  · have hall : ∀ k ∈ [Dict.frameNow.key 0 0, Dict.upUse.key 0 0, Dict.routeLead.key 0 0, Dict.routeHome.key 0 0, Dict.homeHold.key 0 0,
        Dict.shutterStart.key 0 0, Dict.shutterPeriod.key 0 0, Dict.shutterBase.key 0 0], k % 256 ≠ 8 := by decide
    exact hall k hk
  · omega

/-! #### What is as it was -/

theorem role : t.role = s.role := h.2.2.2.2.2.1

theorem isDie : t.isDie = s.isDie := by
  unfold State.isDie
  rw [h.2.2.2.1.1]

theorem isDown (p : Nat) : t.isDown p = s.isDown p := by
  unfold State.isDown State.isTrayChip
  rw [h.2.2.2.1.1]

theorem rd {o : Ob} (ho : routeObject (o.key 0 0)) : t.rd o = s.rd o := h.2.2.2.2.rd ho

theorem frameNow : t.frameNow = s.frameNow := h.rd (by decide)

theorem laneUp (p : Nat) : t.laneUp p = s.laneUp p := by
  have hrd : t.rd Dict.laneState p = s.rd Dict.laneState p := h.2.2.2.2.rd (.inr (by
    unfold Ob.key
    simp only [Dict.laneState]
    omega))
  simp only [State.laneUp, hrd]

theorem groupOf (p : Nat) : t.groupOf p = s.groupOf p := h.2.2.2.1.groupOf p

theorem groupUp (g : Nat) : t.groupUp g = s.groupUp g := h.2.2.2.1.groupUp h.laneUp g

theorem upGroup (b : Bool) : t.upGroup b = s.upGroup b := by
  have hport : t.portGroup = s.portGroup := funext h.2.2.2.1.portGroup
  have huse : t.rd Dict.upUse = s.rd Dict.upUse := h.rd (by decide)
  simp only [State.upGroup, State.upPort?, h.isDie, h.role, hport, huse]

theorem upGroupUp (b : Bool) : t.upGroupUp b = s.upGroupUp b := by
  have hup : t.groupUp = s.groupUp := funext h.groupUp
  simp only [State.upGroupUp, h.upGroup, hup]

theorem upwardOf (g : Nat) : t.upwardOf g = s.upwardOf g := by simp only [State.upwardOf, h.upGroup]

theorem routeBuddy (frame : Nat) : t.routeBuddy frame = s.routeBuddy frame := by simp only [State.routeBuddy, h.1]

theorem movePending : t.movePending = s.movePending := by simp only [State.movePending, h.1, h.frameNow]

theorem routeNow : t.routeNow = s.routeNow := by simp only [State.routeNow, State.routeGroup, h.upGroup, h.routeBuddy, h.frameNow]

theorem firstFrame (lead : Nat) : t.firstFrame lead = s.firstFrame lead := by
  have hschedule : t.schedule 0 = s.schedule 0 := by
    have hstart : t.rd Dict.shutterStart 0 = s.rd Dict.shutterStart 0 := h.rd (by decide)
    have hperiod : t.rd Dict.shutterPeriod 0 = s.rd Dict.shutterPeriod 0 := h.rd (by decide)
    have hbase : t.rd Dict.shutterBase 0 = s.rd Dict.shutterBase 0 := h.rd (by decide)
    simp only [State.schedule, hstart, hperiod, hbase]
  simp only [State.firstFrame, State.chan, h.2.1, h.2.2.1, hschedule]

theorem moveStart : t.firstFrame (t.rd Dict.routeLead) = s.firstFrame (s.rd Dict.routeLead) := by
  rw [h.firstFrame, h.rd (o := Dict.routeLead) (by decide)]

end

end RouteSame

theorem State.isDie_of_isDown {s : State} {p : Nat} (h : s.isDown p = true) : s.isDie = false := by
  cases hb : s.build with
  | die => simp [State.isDown, State.isTrayChip, hb] at h
  | trayChip => simp [State.isDie, hb]

/-! ### A move is decided (13 R288) -/

/-- The move's entry is in front of the others, and nothing that follows changes the routes again. -/
theorem State.decideMove_decides {s : State} {buddy : Bool} (code : Nat) (hup : s.upGroupUp buddy = true) :
    (s.decideMove buddy code).rt.entries = { buddy := buddy, start := some (s.firstFrame (s.rd Dict.routeLead)) } :: s.rt.entries ∧
    (s.decideMove buddy code).rt.homeSince = if buddy && s.upGroupUp false then none else s.rt.homeSince := by
  unfold State.decideMove
  split
  next hnone => simp [State.upGroupUp, hnone] at hup
  next t htarget =>
    extract_lets before old ff home _ s1 s2
    have hentered : s1.rt.entries = { buddy := buddy, start := some ff } :: s.rt.entries ∧ s1.rt.homeSince = home := ⟨rfl, rfl⟩
    have hs2 : LinkFrom (fun _ => True) True s1 s2 :=
      (((LinkFrom.refl s1).wr (o := Dict.routeFrom) (by decide)).bumpSat (o := Dict.routeMoves) (by decide)).raiseIslandNow
    have hlast := (hs2.sendRoutes (g := t) (ff := ff) (kind := 1) (leg := 0) (dies := s2.moverDies)).settleMoved.slaveChanged (before := before)
    obtain ⟨-, -, -, hrt, -⟩ := hlast
    rw [hrt trivial]
    exact hentered

theorem State.trigger_decides {s : State} {m : MoveTrigger} (hrole : s.role ≠ .root) (hpending : s.movePending = false) :
    s.trigger m = s.decideTrigger m := by
  have hnot : ¬ (s.role == Role.root) = true := by simpa using hrole
  rw [State.trigger, if_neg hnot, hpending]
  rfl

section
variable {dt : Nat} {s u : State} (hu : u = s.elapse dt)
include hu

theorem parentLost_moves {p : Nat} {b : Bool} (hreset : u.inReset = false) (hp : p < u.ports) (hstate : u.rd Dict.laneState p = 3)
    (hrole : u.role ≠ .root) (hupward : u.upwardOf (u.groupOf p) = some b) (hpending : u.movePending = false)
    (hcurrent : u.routeBuddy u.frameNow = b) (hother : u.upGroupUp (!b) = true) :
    Does (.parentLost dt p (u.link (u.groupOf p)).expect) s (fun t =>
      t.rt.entries = { buddy := !b, start := some (u.firstFrame (u.rd Dict.routeLead)) } :: u.rt.entries) := by
  obtain ⟨k, v, haccept, hv⟩ := u.acceptSeq_accepts p 0
  have hsame : RouteSame u v := (RouteSame.refl u).setLink.rxOn.framesOut hv
  refine .of_laneEvent hu hreset hp rfl hstate ?_
  simp only [haccept, hsame.upwardOf, hupward, Bool.not_true, Bool.false_eq_true, if_false]
  rw [State.trigger_decides (by rwa [hsame.role]) (by rwa [hsame.movePending])]
  have hup : v.upGroupUp (!b) = true := by rwa [hsame.upGroupUp]
  have hmoves : v.decideTrigger { code := 1, buddy := b } = v.decideMove (!b) 1 := by
    have hcur : v.routeBuddy v.frameNow = b := by rw [hsame.frameNow, hsame.routeBuddy, hcurrent]
    have hacts : (b == v.routeBuddy v.frameNow && v.upGroupUp (!v.routeBuddy v.frameNow)) = true := by
      rw [hcur, hup, beq_self_eq_true]
      rfl
    show (if (b == v.routeBuddy v.frameNow && v.upGroupUp (!v.routeBuddy v.frameNow)) = true then
      v.decideMove (!v.routeBuddy v.frameNow) 1 else v) = _
    rw [if_pos hacts, hcur]
  obtain ⟨hentries, -⟩ := State.decideMove_decides 1 hup
  rw [hmoves]
  exact hentries.trans (by rw [hsame.moveStart, hsame.1])

theorem routeMove_moves {rq : Requester} {b : Bool} (h : u.serves Dict.routeMove) (hup : u.upGroupUp b = true) (hpending : u.movePending = false)
    (hcurrent : u.routeBuddy u.frameNow ≠ b) :
    Does (.routeMove dt rq (bit b)) s (fun t => t.cmdCode Dict.routeMove = 0 ∧
      t.rt.entries = { buddy := b, start := some (u.firstFrame (u.rd Dict.routeLead)) } :: u.rt.entries) := by
  have hsame := RouteSame.granted u
  have hup' : u.granted.upGroupUp b = true := by rwa [hsame.upGroupUp]
  have hacts : State.routeMove (bit b) u.granted = (u.granted.decideMove b 3, 0) := by
    have hvalue : ¬ 1 < bit b := by cases b <;> decide
    have hb : (bit b == 1) = b := by cases b <;> rfl
    have hcur : (u.granted.routeBuddy u.granted.frameNow == b) = false := by
      rw [hsame.frameNow, hsame.routeBuddy]
      exact beq_eq_false_iff_ne.mpr hcurrent
    rw [State.routeMove, if_neg hvalue, hb]
    simp only [hup', hsame.movePending, hpending, hcur, Bool.not_true, Bool.false_eq_true, if_false]
  refine .of_cmd hu h rfl hacts fun rs ms qs => ⟨State.cmdCode_answered, ?_⟩
  obtain ⟨hentries, -⟩ := State.decideMove_decides 3 hup'
  exact hentries.trans (by rw [hsame.moveStart, hsame.1])

theorem homeHold_moves {t0 : Nat} (hon : u.inChipReset = false) (hrole : u.role ≠ .root) (hsince : u.rt.homeSince = some t0)
    (hpassed : u.passed t0 (u.rd Dict.homeHold * 1000000) = true) (hpending : u.movePending = false) (hcurrent : u.routeBuddy u.frameNow = true)
    (hup : u.upGroupUp false = true) (hhome : u.flag Dict.routeHome = true) :
    Does (.homeHold dt) s (fun t => t.rt.homeSince = none ∧
      t.rt.entries = { buddy := false, start := some (u.firstFrame (u.rd Dict.routeLead)) } :: u.rt.entries) := by
  obtain ⟨v, hv⟩ : ∃ v : State, v = { u with rt := { u.rt with homeSince := none } } := ⟨_, rfl⟩
  have hsame : RouteSame u v := hv ▸ (RouteSame.refl u).setRt rfl
  have hnever : v.rt.homeSince = none := by rw [hv]
  have hup' : v.upGroupUp false = true := by rwa [hsame.upGroupUp]
  have hacts : (v.routeBuddy v.frameNow && v.upGroupUp false && v.flag Dict.routeHome) = true := by
    have hflag : v.flag Dict.routeHome = true := by rwa [State.flag, hsame.rd (o := Dict.routeHome) (by decide)]
    rw [hsame.frameNow, hsame.routeBuddy, hcurrent, hup', hflag]
    rfl
  have hmoves : v.trigger { code := 2, buddy := false } = v.decideMove false 2 := by
    rw [State.trigger_decides (by rwa [hsame.role]) (by rwa [hsame.movePending])]
    exact if_pos hacts
  obtain ⟨hentries, hnone⟩ := State.decideMove_decides 2 hup'
  refine .of_island hu rfl hon ?_
  simp only [hsince, hpassed, if_true]
  have hdone : (v.trigger { code := 2, buddy := false }).rt.homeSince = none ∧ (v.trigger { code := 2, buddy := false }).rt.entries =
      { buddy := false, start := some (u.firstFrame (u.rd Dict.routeLead)) } :: u.rt.entries := by
    rw [hmoves, hentries, hnone, hsame.moveStart, hsame.1]
    exact ⟨hnever, rfl⟩
  rw [hv] at hdone
  exact hdone

end

/-! ### The route table (13 R289) -/

/-- A die's change that comes at a frame. -/
def Routes.changes (r : Routes) (d : Nat) (port : Option Nat) (ff : Nat) : Prop := (Tbl.get? r.table d).bind (·.next) = some (port, ff)

theorem State.setRoute_changes (s : State) (d : Nat) (port : Option Nat) (ff : Nat) : (s.setRoute d port ff).rt.changes d port ff := by
  unfold Routes.changes State.setRoute
  simp only [Tbl.get?_set_same, Option.bind_some]

theorem State.setRoute_keeps (s : State) {d e : Nat} {port : Option Nat} {ff : Nat} (h : s.rt.changes d port ff) :
    (s.setRoute e port ff).rt.changes d port ff := by
  by_cases hd : d = e
  · rw [hd]
    exact s.setRoute_changes e port ff
  · unfold Routes.changes State.setRoute
    dsimp only
    rw [Tbl.get?_set_other _ _ _ _ (Ne.symm hd)]
    exact h

theorem State.setRoutes_changes (s : State) (dies : List Nat) (port : Option Nat) (ff : Nat) :
    (∀ d ∈ dies, (s.setRoutes dies port ff).rt.changes d port ff) ∧ (s.setRoutes dies port ff).rt.legs = s.rt.legs := by
  have hfold : ∀ (l : List Nat) (s : State), (∀ d, s.rt.changes d port ff ∨ d ∈ l → (l.foldl (fun (t : State) d => t.setRoute d port ff) s).rt.changes d port ff) ∧
      (l.foldl (fun (t : State) d => t.setRoute d port ff) s).rt.legs = s.rt.legs := by
    intro l
    induction l with
    | nil => exact fun s => ⟨fun d hd => hd.elim id fun h => absurd h List.not_mem_nil, rfl⟩
    | cons e l ih =>
      intro s
      obtain ⟨hchanges, hlegs⟩ := ih (s.setRoute e port ff)
      refine ⟨fun d hd => hchanges d ?_, hlegs⟩
      obtain hd | hd := hd
      · exact .inl (s.setRoute_keeps hd)
      · obtain rfl | hd := List.mem_cons.mp hd
        · exact .inl (s.setRoute_changes d port ff)
        · exact .inr hd
  unfold State.setRoutes
  extract_lets s1 s2
  obtain ⟨hchanges, hlegs⟩ : (∀ d, s.rt.changes d port ff ∨ d ∈ dies → s1.rt.changes d port ff) ∧ s1.rt.legs = s.rt.legs := hfold dies s
  have hs2 : s2.rt = s1.rt := by
    unfold s2
    split <;> rfl
  have hgrown : s2.growTrees.rt = s1.rt := by
    unfold State.growTrees
    split <;> exact hs2
  rw [hgrown]
  exact ⟨fun d hd => hchanges d (.inr hd), hlegs⟩

theorem State.sendRoutes_rt (s : State) (g ff kind leg : Nat) (dies : List Nat) : (s.sendRoutes g ff kind leg dies).rt = s.rt :=
  (LinkFrom.refl (K := fun _ => True) (R := True) s).sendRoutes.2.2.2.1 trivial

theorem State.takeJoin_changes (s : State) (g ff : Nat) (dies : List Nat) : ∀ d ∈ dies, (s.takeJoin g ff dies).rt.changes d (some g) ff := by
  intro d hd
  obtain ⟨hchanges, -⟩ := s.setRoutes_changes dies (some g) ff
  unfold State.takeJoin
  dsimp only
  split
  · rw [State.sendRoutes_rt]
    exact hchanges d hd
  · exact hchanges d hd

theorem State.takeMove_changes (s : State) (g ff leg : Nat) (dies : List Nat) :
    (∀ d ∈ dies, (s.takeMove g ff leg dies).rt.changes d (if leg < 2 then some g else none) ff) ∧
    (leg = 0 → { leg := 0, start := ff, port := g, old := none, dies := dies } ∈ (s.takeMove g ff leg dies).rt.legs) := by
  unfold State.takeMove
  extract_lets s0 s1 olds1 s1' olds2 s1''
  split
  · obtain ⟨hchanges, hlegs⟩ := s0.setRoutes_changes dies (some g) ff
    have hadded : { leg := 0, start := ff, port := g, old := none, dies := dies } ∈ s1.rt.legs := List.mem_append_right _ List.mem_cons_self
    split
    · rw [State.sendRoutes_rt]
      exact ⟨fun d hd => hchanges d hd, fun _ => hadded⟩
    · exact ⟨fun d hd => hchanges d hd, fun _ => hadded⟩
  · obtain ⟨hchanges, -⟩ := s0.setRoutes_changes dies (some g) ff
    refine ⟨fun d hd => ?_, nofun⟩
    refine List.foldlRecOn (motive := fun t : State => t.rt.changes d (some g) ff) olds1 _ (hchanges d hd) fun t ht e _ => ?_
    rw [State.sendRoutes_rt]
    exact ht
  next hzero hone =>
    obtain ⟨hchanges, -⟩ := s0.setRoutes_changes dies none ff
    have hzero' : leg ≠ 0 := hzero
    have hone' : leg ≠ 1 := hone
    have hleg : ¬ leg < 2 := by omega
    rw [if_neg hleg]
    refine ⟨fun d hd => ?_, fun h => absurd h hzero⟩
    exact List.foldlRecOn (motive := fun t : State => t.rt.changes d none ff) olds2 _ (hchanges d hd) fun t ht e _ => ht

section
variable {dt p ff : Nat} {dies : List Nat} {s u : State} (hu : u = s.elapse dt) (hreset : u.inReset = false) (hp : p < u.ports)
  (hstate : u.rd Dict.laneState p = 3) (hdie : u.isDie = false)
include hu hreset hp hstate hdie

/-- A ROUTE frame that is next in order is accepted at a chip, and acts. -/
theorem Does.of_routeFrame {c : Instr} {n : Nat} {act : State → State} {P : State → Prop}
    (hexec : exec c s = .next (s.routeFrame dt p (u.link (u.groupOf p)).expect n act)) (hP : ∀ v, RouteSame u v → P ((act v).within s)) :
    Does c s P := by
  obtain ⟨k, v, haccept, hv⟩ := u.acceptSeq_accepts p (16 + 24 * n)
  have hsame : RouteSame u v := (RouteSame.refl u).setLink.rxOn.framesOut hv
  have htray : v.isTrayChip = true := by
    have hbuild : v.build = u.build := hsame.2.2.2.1.1
    rw [State.isTrayChip, hbuild]
    cases hb : u.build with
    | die => simp [State.isDie, hb] at hdie
    | trayChip => rfl
  refine .of_laneEvent hu hreset hp hexec hstate ?_
  simp only [haccept, htray, Bool.and_true, if_true]
  exact hP v hsame

theorem routeMoveLeg_old (hup : u.isDown p = false) : Does (.routeMoveLeg dt p (u.link (u.groupOf p)).expect ff 2 dies) s
    (fun t => ∀ d ∈ dies, t.rt.changes d none ff) := by
  refine .of_routeFrame hu hreset hp hstate hdie rfl fun v hsame => ?_
  rw [hsame.isDown, hup]
  exact (v.takeMove_changes (v.groupOf p) ff 2 dies).1

end

section
variable {dt p ff : Nat} {dies : List Nat} {s u : State} (hu : u = s.elapse dt) (hreset : u.inReset = false) (hp : p < u.ports)
  (hstate : u.rd Dict.laneState p = 3) (hdown : u.isDown p = true)
include hu hreset hp hstate hdown

theorem routeJoin_changes : Does (.routeJoin dt p (u.link (u.groupOf p)).expect ff dies) s
    (fun t => ∀ d ∈ dies, t.rt.changes d (some (u.groupOf p)) ff) := by
  refine .of_routeFrame hu hreset hp hstate (State.isDie_of_isDown hdown) rfl fun v hsame => ?_
  rw [hsame.isDown, hdown, if_pos rfl, hsame.groupOf]
  exact v.takeJoin_changes (u.groupOf p) ff dies

theorem routeMoveLeg_changes {leg : Nat} (hleg : leg < 2) : Does (.routeMoveLeg dt p (u.link (u.groupOf p)).expect ff leg dies) s
    (fun t => (∀ d ∈ dies, t.rt.changes d (some (u.groupOf p)) ff) ∧
      (leg = 0 → { leg := 0, start := ff, port := u.groupOf p, old := none, dies := dies } ∈ t.rt.legs)) := by
  refine .of_routeFrame hu hreset hp hstate (State.isDie_of_isDown hdown) rfl fun v hsame => ?_
  have htaken := v.takeMove_changes (u.groupOf p) ff leg dies
  rw [if_pos hleg] at htaken
  have hacts : (v.isDown p == decide (leg < 2)) = true := by rw [hsame.isDown, hdown, decide_eq_true hleg]; rfl
  rw [if_pos hacts, hsame.groupOf]
  exact htaken

end

/-! ### DIE_ID of a leaf (13 R289, 15 R446) -/

theorem State.sendRoute_keeps (s : State) (g typ : Nat) (b : Bytes) : KeepsObjects notSent s (s.sendRoute g typ b) := by
  unfold State.sendRoute
  split
  · exact .refl _ s
  · split
    · exact (FramesOut.sendSeq s g typ 0 { kind := .alarm, bytes := b }).keeps
    · exact .refl _ s

theorem State.sendJoin_keeps (s : State) : KeepsObjects notSent s s.sendJoin := by
  unfold State.sendJoin
  split
  · split
    · exact List.foldlRecOn _ _ (.refl _ s) fun t ht b _ => ht.trans (t.sendRoute_keeps ..)
    · exact .refl _ s
  · exact .refl _ s

/-- The JOIN of one die takes one frame of 40 bytes. -/
theorem routePayloads_single (ff kind leg d : Nat) : ∃ b : Bytes, routePayloads ff kind leg [d] = [b] ∧ b.length = 40 := by
  obtain ⟨c, hc⟩ : ∃ c, missChunks (sortNat [d]) = [c] := ⟨_, rfl⟩
  unfold routePayloads
  dsimp only
  rw [hc]
  exact ⟨_, rfl, by simp⟩

/-- A ROUTE frame leaves at once where none waits and there is room. -/
theorem State.sendRoute_sends {s : State} {g typ : Nat} {b : Bytes} (hup : s.groupUp g = true) (hwaiting : (s.link g).waiting = [])
    (hroom : s.replayRoom g b.length = true) : ((s.sendRoute g typ b).link g).replay.length = (s.link g).replay.length + 1 := by
  have hacts : ((s.link g).waiting.isEmpty && s.replayRoom g b.length) = true := by rw [hwaiting, hroom]; rfl
  have hdown : ¬ (!s.groupUp g) = true := by rw [hup]; exact Bool.false_ne_true
  rw [State.sendRoute, if_neg hdown, if_pos hacts, (FramesOut.sendSeq s g typ 0 _).link, State.link_setLink_same]
  exact List.length_append

theorem State.outNow_of_up {s : State} {g : Nat} (hroute : s.routeNow = some g) (hup : s.groupUp g = true) : s.outNow = some g := by
  have hgroup : s.routeGroup s.frameNow = some g := hroute
  have hstays : s.movedTo g = none := by
    unfold State.movedTo
    split
    · rfl
    · split
      · rw [hup, Bool.not_true, Bool.and_false]
        rfl
      · rfl
  rw [State.outNow, State.outGroup, hgroup, Option.map_some, hstays, Option.getD_none]

/-- A die with a number sends a JOIN of one frame. -/
theorem State.sendJoin_sends {s : State} {g : Nat} (hdie : s.isDie = true) (hid : s.rd Dict.dieId ≠ 0xFFFFFFFF) (hroute : s.routeNow = some g)
    (hup : s.groupUp g = true) (hwaiting : (s.link g).waiting = []) (hroom : s.replayRoom g 40 = true) :
    (s.sendJoin.link g).replay.length = (s.link g).replay.length + 1 := by
  have hmover : s.moverDies = [s.dieField] := by rw [State.moverDies, if_pos hdie, if_neg hid]
  obtain ⟨b, hpayload, hlen⟩ := routePayloads_single (s.firstFrame (2 * s.rd Dict.routeLead)) 0 0 s.dieField
  unfold State.sendJoin
  rw [State.outNow_of_up hroute hup]
  dsimp only
  rw [if_pos hup, State.sendRoutes, hmover, hpayload, List.foldl_cons, List.foldl_nil]
  exact State.sendRoute_sends hup hwaiting (by rwa [hlen])

theorem dieIdWrite_joins {dt v : Nat} {rq : Requester} {s u : State} (hu : u = s.elapse dt) (h : u.serves Dict.dieId) (hdie : u.isDie = true)
    (hfresh : u.rd Dict.dieId = 0xFFFFFFFF) (hv : v < 131072) : Does (.dieIdWrite dt rq v) s (fun t => t.rd Dict.dieId = v ∧
      ∀ g, u.routeNow = some g → u.groupUp g = true → (u.link g).waiting = [] → u.replayRoom g 40 = true →
        (t.link g).replay.length = (u.link g).replay.length + 1) := by
  have hgranted : u.granted.isDie = true := hdie
  have hfresh' : u.granted.rd Dict.dieId = 0xFFFFFFFF := (u.rd_granted (by decide)).trans hfresh
  have hok : (u.granted.rd Dict.dieId == 0xFFFFFFFF && (decide (v < 131072) || v == 0xFFFFFFFF)) = true := by simp [hfresh', hv]
  have hset : State.setDieId v u.granted = (u.granted.wr Dict.dieId v).sendJoin := by
    unfold State.setDieId
    dsimp only
    rw [if_pos hok]
  have hread : (u.granted.wr Dict.dieId v).rd Dict.dieId = v := (State.rd_wr_same ..).trans (Nat.mod_eq_of_lt (by show v < 2 ^ 32; omega))
  have hsame : RouteSame u (u.granted.wr Dict.dieId v) :=
    (RouteSame.granted u).trans ⟨rfl, rfl, rfl, ⟨rfl, rfl, fun _ => rfl⟩, .wr u.granted Dict.dieId v 0 0 (by decide)⟩
  have hlink (g : Nat) : (u.granted.wr Dict.dieId v).link g = u.link g := rfl
  have hroom (g : Nat) : (u.granted.wr Dict.dieId v).replayRoom g 40 = u.replayRoom g 40 := rfl
  have hwritten : KeepsObjects (fun _ => False) u (u.granted.wr Dict.dieId v) :=
    (u.granted_keeps.mono fun _ => False.elim).trans (.wr u.granted Dict.dieId v 0 0 id)
  refine .of_write hu h rfl ?_
  rw [if_pos hgranted, hset]
  generalize u.granted.wr Dict.dieId v = w at hread hsame hlink hroom hwritten ⊢
  have hkept := w.sendJoin_keeps
  have hjoins : ∀ g, u.routeNow = some g → u.groupUp g = true → (u.link g).waiting = [] → u.replayRoom g 40 = true →
      (w.sendJoin.link g).replay.length = (u.link g).replay.length + 1 := by
    intro g hroute hup hwaiting hfits
    rw [← hlink]
    exact State.sendJoin_sends (by rwa [hsame.isDie]) (by rw [hread]; omega) (by rwa [hsame.routeNow]) (by rwa [hsame.groupUp])
      (by rwa [hlink]) (by rwa [hroom])
  have hreads : w.sendJoin.rd Dict.dieId = v := (hkept.rd (by decide)).trans hread
  generalize w.sendJoin = x at hkept hjoins hreads ⊢
  obtain ⟨rs, ms, qs, hanswer⟩ := x.answerWrite_only rq Dict.dieId 0 0 0
  rw [hanswer]
  have hall : KeepsObjects (fun _ => False) u (x.replied rs ms qs) := hwritten.trans (hkept.mono fun _ => False.elim)
  exact ⟨(hall.rd_done hu ..).trans hreads, hjoins⟩

/-- Settles O22: what a frame or a write changes of the routes, which no message that follows changes again. -/
theorem routeCommandsComplete : Obligations.RouteCommandsComplete := by
  unfold Obligations.RouteCommandsComplete
  refine ⟨?_, ?_, ?_, ?_, ?_, fun _ _ _ _ _ hu h hup hpending hcurrent => routeMove_moves hu h hup hpending hcurrent,
    fun _ _ _ _ hu hon hrole hsince hpassed hpending hcurrent hup hhome =>
      homeHold_moves hu hon hrole hsince hpassed hpending hcurrent hup hhome,
    fun _ _ _ _ _ hu h hdie hfresh hv => dieIdWrite_joins hu h hdie hfresh hv⟩
  · rintro dt p ff dies s u g hu hreset hp hstate hdown rfl
    exact routeJoin_changes hu hreset hp hstate hdown
  · rintro dt p ff dies s u g hu hreset hp hstate hdown rfl
    obtain ⟨t, ht, hchanges, hleg⟩ := routeMoveLeg_changes (ff := ff) (dies := dies) hu hreset hp hstate hdown (leg := 0) (by decide)
    exact ⟨t, ht, hchanges, hleg rfl⟩
  · rintro dt p ff dies s u g hu hreset hp hstate hdown rfl
    obtain ⟨t, ht, hchanges, -⟩ := routeMoveLeg_changes (ff := ff) (dies := dies) hu hreset hp hstate hdown (leg := 1) (by decide)
    exact ⟨t, ht, hchanges⟩
  · rintro dt p ff dies s u g hu hreset hp hstate hdie hup rfl
    exact routeMoveLeg_old hu hreset hp hstate hdie hup
  · rintro dt p s u g b hu hreset hp hstate rfl hrole hupward hpending hcurrent hother
    exact parentLost_moves hu hreset hp hstate hrole hupward hpending hcurrent hother

end Sys2Proof.Machine
end

section
/-! The DATA decision, gate lists and drops (14 R299, R300, R306, R312). -/

namespace Sys2Proof.Machine

open Sys2Proof

-- one theorem after the other: each theorem that waits for the kernel would hold a thread
set_option Elab.async false

theorem State.gq_setGq_same (s : State) (g : Nat) (q : GroupQ) : (s.setGq g q).gq g = q := Tbl.getD_set_same ..

theorem State.gq_setGq_other (s : State) {g k : Nat} (h : k ≠ g) (q : GroupQ) : (s.setGq g q).gq k = s.gq k :=
  Tbl.getD_set_other _ _ _ _ _ h.symm

/-! ### Objects of the last decision (14 R314) -/

/-- A number that a filter of a table refuses has no entry left. -/
theorem Tbl.get?_filter_none {α : Type} {keep : Nat → Bool} (t : Tbl α) {k : Nat} (hk : keep k = false) :
    Tbl.get? (t.filter fun e => keep e.1) k = none := by
  induction t with
  | nil => rfl
  | cons e t ih =>
    rw [List.filter_cons]
    split
    next he =>
      have hne : ¬ e.1 = k := fun h => by rw [h, hk] at he; exact Bool.false_ne_true he
      exact (if_neg hne).trans ih
    next => exact ih

/-- After a decision the objects of its group read as they stand. -/
theorem State.latch_old (s : State) (g : Nat) {o : Ob} {m : Nat} (hgroup : o.idx + m = 0x3000 + g) (hsub : o.sub < 256) :
    Tbl.get? (s.latch g).sch.old (o.key m 0) = none := by
  have hkey : o.key m 0 / 256 = 0x3000 + g := by
    unfold Ob.key
    omega
  refine Tbl.get?_filter_none (keep := fun k => k / 256 != 0x3000 + g && k / 256 != Dict.decimLimit.idx && k / 256 != Dict.retryAfter.idx) _ ?_
  simp [hkey]

/-! ### Credits given back behind a decision (13 R283) -/

/-- Control frames on links: the scheduler and every link's unacknowledged frames are as they were. -/
def ReplayKept (s t : State) : Prop := t.sch = s.sch ∧ (∀ g, (t.link g).replay = (s.link g).replay) ∧ KeepsObjects (fun _ => False) s t

theorem ReplayKept.refl (s : State) : ReplayKept s s := ⟨rfl, fun _ => rfl, .refl _ s⟩

theorem ReplayKept.trans {s t u : State} (h : ReplayKept s t) (k : ReplayKept t u) : ReplayKept s u := by
  obtain ⟨hsch, hreplay, hkeeps⟩ := h
  obtain ⟨ksch, kreplay, kkeeps⟩ := k
  exact ⟨ksch.trans hsch, fun g => (kreplay g).trans (hreplay g), hkeeps.trans kkeeps⟩

theorem ReplayKept.setLink (s : State) {g : Nat} {l : Link} (hl : l.replay = (s.link g).replay) : ReplayKept s (s.setLink g l) := by
  refine ⟨rfl, fun k => ?_, .refl _ s⟩
  by_cases hk : k = g
  · rw [hk, State.link_setLink_same, hl]
  · rw [State.link_setLink_other _ hk]

theorem ReplayKept.framesOut {n : Nat} {s t : State} (h : FramesOut n s t) : ReplayKept s t :=
  ⟨h.sch, fun g => congrArg Link.replay (h.link g), h.keeps.mono fun _ => False.elim⟩

theorem ReplayKept.releaseCredits (s : State) : ReplayKept s s.releaseCredits := by
  refine List.foldlRecOn _ _ (.refl s) fun t ht k _ => ht.trans ?_
  have hfreed : ReplayKept t (t.freeCredit k) := .setLink t rfl
  obtain ⟨n, hsent, -⟩ := FramesOut.sendCredit (t.freeCredit k) k
  have hset : ReplayKept (t.freeCredit k) ((t.freeCredit k).setLink k { (t.freeCredit k).link k with lastCredit := (t.freeCredit k).time.now }) :=
    .setLink _ rfl
  exact (hfreed.trans hset).trans (.framesOut hsent)

/-! ### A frame of a class leaves -/

/-- Where producers hold nothing back, nothing enters a queue. -/
theorem State.admitAll_none {s : State} {g : Nat} (h : (s.gq g).held = []) : s.admitAll g = s := by
  have hnone (c : Nat) : State.enterQueue ((s.gq g).heldOf c).length s g c = s := by
    unfold GroupQ.heldOf
    rw [h]
    rfl
  simp only [State.admitAll, List.foldl_cons, List.foldl_nil, hnone]

theorem QueuedFrom.admitAll (s : State) (g : Nat) : QueuedFrom s (s.admitAll g) :=
  List.foldlRecOn _ _ (.refl s) fun _ ht _ _ => ht.trans (.enterQueue ..)

/-- The class's queue without its first frame, which is on its way. -/
def GroupQ.served (q : GroupQ) (c : Nat) (f : QFrame) (now : Nat) : GroupQ :=
  { q with q := Tbl.set q.q c ((q.of c).drop 1), deficit := Tbl.set q.deficit c (Tbl.getD q.deficit c 0 - f.bytes.length)
           sending := some (f.kind, now, f.bytes.length) }

/-- What a DATA frame of class c that has left on group g leaves: the link holds it, and the queue has lost it. -/
structure ClassSent (s : State) (g c : Nat) (f : QFrame) (t : State) : Prop where
  alarms : t.sch.alarms = s.sch.alarms
  old : t.sch.old = s.sch.old
  replay : (t.link g).replay = (s.link g).replay ++ [{ seq := (s.link g).nextSeq, typ := 0, cls := c, frame := f }]
  keeps : KeepsObjects (fun _ => False) s t
  queue : (s.gq g).held = [] → (t.gq g).of c = ((s.gq g).of c).drop 1

theorem State.sendClass_sent (s : State) (g c : Nat) (f : QFrame) : ClassSent s g c f (s.sendClass g c f) := by
  obtain ⟨w, hw⟩ : ∃ w, w = (s.setGq g ((s.gq g).served c f s.time.now)).bump Dict.grpClassBytes g c f.bytes.length := ⟨_, rfl⟩
  obtain ⟨x, hx⟩ : ∃ x, x = w.sendSeq g 0 c f := ⟨_, rfl⟩
  obtain ⟨y, hy⟩ : ∃ y, y = (x.admitAll g).responseLeft f.bytes s.time.now := ⟨_, rfl⟩
  have heq : s.sendClass g c f = if y.eligible g c then y else
      y.setGq g { y.gq g with active := (y.gq g).active.erase c, deficit := Tbl.set (y.gq g).deficit c 0 } := by
    rw [hy, hx, hw]
    rfl
  have hwgq : w.gq g = (s.gq g).served c f s.time.now := by
    rw [hw]
    exact State.gq_setGq_same ..
  have hwkeeps : KeepsObjects (fun _ => False) s w := by
    rw [hw]
    exact KeepsObjects.bump (s.setGq g ((s.gq g).served c f s.time.now)) Dict.grpClassBytes g c f.bytes.length id
  have hwlink : w.link g = s.link g := by rw [hw]; rfl
  have hwsch : w.sch.alarms = s.sch.alarms ∧ w.sch.old = s.sch.old := by rw [hw]; exact ⟨rfl, rfl⟩
  have hsent := hx ▸ FramesOut.sendSeq w g 0 c f
  have hlink := hsent.link g
  rw [State.link_setLink_same, hwlink] at hlink
  have hxsch : x.sch = w.sch := hsent.sch
  have hxkeeps : KeepsObjects (fun _ => False) w x := hsent.keeps.mono fun _ => False.elim
  have hyFrom : y.sch.alarms = x.sch.alarms ∧ y.sch.old = x.sch.old ∧ y.lnk = x.lnk ∧ KeepsObjects (fun _ => False) x y := by
    obtain ⟨q, hq⟩ := QueuedFrom.admitAll x g
    rw [hy, hq]
    exact ⟨rfl, rfl, rfl, .refl _ x⟩
  obtain ⟨halarms, hold, hlnk, hykeeps⟩ := hyFrom
  have hqueue : (s.gq g).held = [] → (y.gq g).of c = ((s.gq g).of c).drop 1 := by
    intro hheld
    have hxgq : x.gq g = w.gq g := congrArg (fun r : Sched => Tbl.getD r.groups g {}) hxsch
    have hnone : x.admitAll g = x := State.admitAll_none (by rw [hxgq, hwgq]; exact hheld)
    have hygq : y.gq g = x.gq g := by
      rw [hy, hnone]
      rfl
    rw [hygq, hxgq, hwgq]
    exact Tbl.getD_set_same ..
  have hsofar : ClassSent s g c f y :=
    ⟨halarms.trans ((congrArg Sched.alarms hxsch).trans hwsch.1), hold.trans ((congrArg Sched.old hxsch).trans hwsch.2),
      (congrArg (fun r : Links => (Tbl.getD r.groups g {}).replay) hlnk).trans (congrArg Link.replay hlink),
      (hwkeeps.trans hxkeeps).trans hykeeps, hqueue⟩
  rw [heq]
  split
  · exact hsofar
  · obtain ⟨halarms, hold, hreplay, hkeeps, hqueue⟩ := hsofar
    exact ⟨halarms, hold, hreplay, hkeeps, fun h => (congrArg (fun q : GroupQ => q.of c) (State.gq_setGq_same ..)).trans (hqueue h)⟩

/-! ### DATA_DECISION (14 R299, R300) -/

theorem State.refresh_gq (s : State) (g : Nat) : ((s.refresh g).gq g).q = (s.gq g).q ∧ ((s.refresh g).gq g).held = (s.gq g).held ∧
    ((s.refresh g).gq g).gates = (s.gq g).gates := by
  unfold State.refresh
  extract_lets q keep join gone
  rw [State.gq_setGq_same]
  exact ⟨rfl, rfl, rfl⟩

/-- What the alarms of class 0 leave: those that follow them are in the buffer or wait, and the link holds one frame more. -/
theorem State.sendAlarms_sent (s : State) (g : Nat) :
    (s.sendAlarms g).sch.alarms ++ (s.sendAlarms g).sch.waiting = s.sch.alarms.drop 64 ++ s.sch.waiting ∧
    ((s.sendAlarms g).link g).replay.length = (s.link g).replay.length + 1 := by
  unfold State.sendAlarms
  extract_lets out bytes nums ring _ s1 s2
  have hfit : s1.sch.alarms ++ s1.sch.waiting = s.sch.alarms.drop 64 ++ s.sch.waiting := State.fitAlarms_all ..
  have hlink1 : s1.link g = s.link g := rfl
  have hsent := FramesOut.sendSeq (s1.bump Dict.grpClassBytes g 0 bytes.length) g 0 0 { kind := .alarm, bytes := bytes, frame := s.frameNow }
  have hs2 : s2.sch.alarms ++ s2.sch.waiting = s.sch.alarms.drop 64 ++ s.sch.waiting ∧ (s2.link g).replay.length = (s.link g).replay.length + 1 := by
    have hsch := hsent.sch
    have hlink := hsent.link g
    have hbumped : (s1.bump Dict.grpClassBytes g 0 bytes.length).link g = s1.link g := rfl
    rw [State.link_setLink_same, hbumped, hlink1] at hlink
    have hsch' : s2.sch = s1.sch := hsch
    have hlink' : s2.link g = (s.link g).sent _ 0 0 _ := hlink
    rw [hsch', hlink']
    exact ⟨hfit, List.length_append⟩
  clear_value s2
  split
  · exact hs2
  · exact hs2

section
variable {dt g : Nat} {s u : State} (hu : u = s.elapse dt) (hon : u.coreOn = true) (hboot : u.bootTray = false) (hg : g ∈ u.groupList)
  (hup : u.groupUp g = true) (hroom : u.replayRoom g 2048 = true)
include hu hon hboot hg hup hroom

/-- The group decides, and credit is given back behind it. -/
theorem Does.of_dataDecision {P : State → Prop}
    (hP : ∀ v, v = ((u.latch g).admitAll g).refresh g → P (((if u.class0Ready g then v.sendAlarms g else v.serveDrr 64 g).releaseCredits).within s)) :
    Does (.dataDecision dt g) s P := by
  refine .of_core hu rfl hon ?_
  have hlisted : ¬ (!u.groupList.contains g) = true := by simp [hg]
  have hboot' : ¬ (u.latch g).bootTray = true := by
    have hlatch : (u.latch g).bootTray = u.bootTray := rfl
    rw [hlatch, hboot]
    exact Bool.false_ne_true
  unfold State.decide_
  rw [if_neg hlisted]
  dsimp only
  rw [if_neg hboot']
  have hacts : ¬ (!(u.latch g).groupUp g || !(u.latch g).replayRoom g 2048) = true := by
    have hlatch : (u.latch g).groupUp g = u.groupUp g ∧ (u.latch g).replayRoom g 2048 = u.replayRoom g 2048 := ⟨rfl, rfl⟩
    rw [hlatch.1, hlatch.2, hup, hroom]
    exact Bool.false_ne_true
  unfold State.dataDecision
  rw [if_neg hacts]
  dsimp only
  have hready : (((u.latch g).admitAll g).refresh g).class0Ready g = u.class0Ready g := by
    obtain ⟨q, hq⟩ := QueuedFrom.admitAll (u.latch g) g
    rw [hq]
    rfl
  rw [hready]
  exact hP _ rfl

theorem dataDecision_alarms (hready : u.class0Ready g = true) :
    Does (.dataDecision dt g) s (fun t => t.sch.alarms ++ t.sch.waiting = u.sch.alarms.drop 64 ++ u.sch.waiting ∧
      (t.link g).replay.length = (u.link g).replay.length + 1) := by
  refine .of_dataDecision hu hon hboot hg hup hroom fun v hv => ?_
  rw [if_pos hready]
  obtain ⟨hfrom, hlink⟩ : v.sch.alarms.drop 64 ++ v.sch.waiting = u.sch.alarms.drop 64 ++ u.sch.waiting ∧ v.link g = u.link g := by
    obtain ⟨q, hq⟩ := QueuedFrom.admitAll (u.latch g) g
    rw [hv, hq]
    exact ⟨rfl, rfl⟩
  obtain ⟨halarms, hreplay⟩ := v.sendAlarms_sent g
  obtain ⟨ksch, kreplay, -⟩ := ReplayKept.releaseCredits (v.sendAlarms g)
  have hdone : ((v.sendAlarms g).releaseCredits.within s).sch = (v.sendAlarms g).sch := ksch
  have hlinked : (((v.sendAlarms g).releaseCredits.within s).link g).replay = ((v.sendAlarms g).link g).replay := kreplay g
  rw [hdone, hlinked, halarms, hreplay, hfrom, hlink]
  exact ⟨rfl, rfl⟩

theorem dataDecision_class {v : State} {c : Nat} {rest : List Nat} {f : QFrame} (hready : u.class0Ready g = false)
    (hv : v = ((u.latch g).admitAll g).refresh g) (hactive : (v.gq g).active = c :: rest) (hfirst : ((v.gq g).of c).head? = some f)
    (hdeficit : f.bytes.length ≤ Tbl.getD (v.gq g).deficit c 0 + (if (v.gq g).fresh.testBit c then v.quantum g c else 0)) :
    Does (.dataDecision dt g) s (fun t => t.sch.alarms = u.sch.alarms ∧
      (t.link g).replay = (u.link g).replay ++ [{ seq := (u.link g).nextSeq, typ := 0, cls := c, frame := f }] ∧
      (∀ o m, o.idx + m = 0x3000 + g → o.sub < 256 → t.rdAt o m = t.rd o m) ∧
      ((u.gq g).held = [] → (t.gq g).of c = ((u.gq g).of c).drop 1)) := by
  refine .of_dataDecision hu hon hboot hg hup hroom fun v' hv' => ?_
  obtain rfl : v' = v := hv'.trans hv.symm
  rw [hready, if_neg Bool.false_ne_true]
  obtain ⟨halarms, hold, hlink, hkeeps⟩ : v'.sch.alarms = u.sch.alarms ∧ v'.sch.old = (u.latch g).sch.old ∧ v'.link g = u.link g ∧
      KeepsObjects (fun _ => False) u v' := by
    obtain ⟨q, hq⟩ := QueuedFrom.admitAll (u.latch g) g
    rw [hv', hq]
    exact ⟨rfl, rfl, rfl, .refl _ u⟩
  have hqueue : (u.gq g).held = [] → (v'.gq g).held = [] ∧ (v'.gq g).of c = (u.gq g).of c := by
    intro hheld
    have hnone : (u.latch g).admitAll g = u.latch g := State.admitAll_none hheld
    rw [hnone] at hv'
    obtain ⟨hq, hkept, -⟩ := (u.latch g).refresh_gq g
    rw [hv']
    exact ⟨hkept.trans hheld, congrArg (fun q => Tbl.getD q c []) hq⟩
  obtain ⟨q1, hserved, hof, hheld⟩ : ∃ q1, v'.serveDrr 64 g = (v'.setGq g q1).sendClass g c f ∧ q1.of c = (v'.gq g).of c ∧
      q1.held = (v'.gq g).held := by
    have hfits : f.bytes.length ≤ if (v'.gq g).fresh.testBit c then Tbl.getD (v'.gq g).deficit c 0 + v'.quantum g c else Tbl.getD (v'.gq g).deficit c 0 := by
      split at hdeficit
      next h => rwa [if_pos h]
      next h => rwa [if_neg h, ← Nat.add_zero (Tbl.getD (v'.gq g).deficit c 0)]
    refine ⟨{ v'.gq g with
      deficit := Tbl.set (v'.gq g).deficit c (if (v'.gq g).fresh.testBit c then Tbl.getD (v'.gq g).deficit c 0 + v'.quantum g c else Tbl.getD (v'.gq g).deficit c 0)
      fresh := clrBit (v'.gq g).fresh c }, ?_, rfl, rfl⟩
    rw [State.serveDrr]
    dsimp only
    rw [hactive]
    dsimp only
    rw [hfirst]
    dsimp only
    rw [if_pos hfits]
  obtain ⟨salarms, sold, sreplay, skeeps, squeue⟩ := (v'.setGq g q1).sendClass_sent g c f
  rw [State.gq_setGq_same, hheld, hof] at squeue
  rw [hserved]
  generalize (v'.setGq g q1).sendClass g c f = w at salarms sold sreplay skeeps squeue
  obtain ⟨ksch, kreplay, kkeeps⟩ := ReplayKept.releaseCredits w
  generalize w.releaseCredits = x at ksch kreplay kkeeps
  have hsch : (x.within s).sch = w.sch := ksch
  refine ⟨?_, ?_, fun o m hgroup hsub => ?_, fun hnone => ?_⟩
  · rw [hsch]
    exact salarms.trans halarms
  · have hsame : (v'.setGq g q1).link g = u.link g := hlink
    rw [hsame] at sreplay
    exact (kreplay g).trans sreplay
  · have hcleared : Tbl.get? (x.within s).sch.old (o.key m 0) = none := by
      rw [hsch, sold]
      have holds : (v'.setGq g q1).sch.old = (u.latch g).sch.old := hold
      rw [holds]
      exact u.latch_old g hgroup hsub
    rw [State.rdAt, hcleared, Option.getD_none]
  · obtain ⟨hnever, hkept⟩ := hqueue hnone
    rw [← hkept, ← squeue hnever]
    exact congrArg (fun r : Sched => (Tbl.getD r.groups g {}).of c) hsch

end

/-! ### Gate lists (14 R305 to R307) -/

/-- `t` has the gate lists of `s`. -/
def GatesFrom (s t : State) : Prop := ∀ g, (t.gq g).gates = (s.gq g).gates

namespace GatesFrom

theorem refl (s : State) : GatesFrom s s := fun _ => rfl

section
variable {s t : State} (h : GatesFrom s t)
include h

theorem trans {u : State} (k : GatesFrom t u) : GatesFrom s u := fun g => (k g).trans (h g)

theorem setGq {g : Nat} {q : GroupQ} (hq : q.gates = (t.gq g).gates) : GatesFrom s (t.setGq g q) := by
  refine h.trans fun k => ?_
  by_cases hk : k = g
  · rw [hk, State.gq_setGq_same, hq]
  · rw [State.gq_setGq_other _ hk]

theorem refresh {g : Nat} : GatesFrom s (t.refresh g) := h.setGq rfl

end

theorem enqueued {s t : State} (h : GatesFrom s t) (n g c : Nat) : GatesFrom s (State.enterQueue n t g c) := by
  induction n generalizing t with
  | zero => exact h
  | succ n ih =>
    unfold State.enterQueue
    dsimp only
    split
    · exact h
    · split
      · exact ih (h.setGq rfl)
      · exact h

section
variable {s t : State} (h : GatesFrom s t)
include h

theorem enqueue {g c : Nat} {f : QFrame} : GatesFrom s (t.enqueue g c f) := by
  unfold State.enqueue
  dsimp only
  split
  · refine refresh (enqueued (setGq h ?_) _ _ _)
    rfl
  · refine refresh (setGq h ?_)
    rfl

theorem answerWrite {rq : Requester} {o : Ob} {m st co : Nat} : GatesFrom s (t.answerWrite rq o m st co) := by
  unfold State.answerWrite State.answer State.respond
  split
  · exact h
  · exact enqueue h
  · exact h

end

end GatesFrom

/-- An answer leaves the completion codes and the gate lists as they are. -/
theorem State.answerWrite_gates (s : State) (rq : Requester) (o : Ob) (m st co : Nat) :
    (s.answerWrite rq o m st co).cmdCodes = s.cmdCodes ∧ GatesFrom s (s.answerWrite rq o m st co) := by
  refine ⟨?_, GatesFrom.answerWrite (.refl s)⟩
  obtain ⟨_, _, _, hanswer⟩ := s.answerWrite_only rq o m st co
  rw [hanswer]

/-- What GATE_APPLY reads of a group's objects. -/
theorem State.rd_granted_gate (s : State) {o : Ob} (ho : o.idx = 0x3000) (p : Nat) : s.granted.rd o p = s.rd o p := by
  refine s.rd_granted ?_
  unfold Ob.key
  omega

section
variable {dt p : Nat} {rq : Requester} {s u : State} (hu : u = s.elapse dt) (h : u.serves Dict.grpGateApply p) (hname : u.groupOf p = p)
include hu h hname

theorem gateApply_adopts (hvalid : u.gatesValid p = true)
    (hbase : u.time.now + 100000 * nsUnits ≤ nsOfTime80 (u.rd Dict.grpGateBase p) * nsUnits) :
    Does (.gateApply dt rq p) s (fun t => t.cmdCode Dict.grpGateApply p = 0 ∧
      (t.gq p).gates.head? = some { base := nsOfTime80 (u.rd Dict.grpGateBase p), cycle := u.rd Dict.grpGateCycle p, entries := u.stagedGates p } ∧
      (t.gq p).gatesNext u.time.now = (t.gq p).gates.head? ∧ (t.gq p).gatesAt u.time.now = (u.gq p).gatesAt u.time.now) := by
  have hgranted : ¬ (u.granted.groupOf p != p) = true := by
    have hsame : u.granted.groupOf p = u.groupOf p := rfl
    rw [hsame, hname]
    simp
  have hstaged : u.granted.stagedGates p = u.stagedGates p := by
    have hbytes : u.granted.rdBytes Dict.grpGateStage p = u.rdBytes Dict.grpGateStage p := rfl
    simp only [State.stagedGates, hbytes, u.rd_granted_gate (o := Dict.grpGateStageN) rfl]
  have hvalid' : u.granted.gatesValid p = true := by
    have hbytes : u.granted.rdBytes Dict.grpGateStage p = u.rdBytes Dict.grpGateStage p := rfl
    rw [← hvalid]
    simp only [State.gatesValid, hbytes, hstaged, u.rd_granted_gate (o := Dict.grpGateStageN) rfl, u.rd_granted_gate (o := Dict.grpGateCycle) rfl]
  have hearly : ¬ nsOfTime80 (u.granted.rd Dict.grpGateBase p) * nsUnits < u.granted.time.now + 100000 * nsUnits := by
    rw [u.rd_granted_gate (o := Dict.grpGateBase) rfl]
    exact Nat.not_lt.mpr hbase
  refine .of_write hu h rfl ?_
  rw [if_neg hgranted]
  dsimp only
  rw [if_neg hearly, if_pos hvalid']
  dsimp only
  rw [hstaged, u.rd_granted_gate (o := Dict.grpGateBase) rfl, u.rd_granted_gate (o := Dict.grpGateCycle) rfl]
  obtain ⟨l, hl⟩ : ∃ l : GateList, l = { base := nsOfTime80 (u.rd Dict.grpGateBase p), cycle := u.rd Dict.grpGateCycle p, entries := u.stagedGates p } :=
    ⟨_, rfl⟩
  have hbase' : u.time.now < l.base * nsUnits := by
    have hns : 0 < 100000 * nsUnits := by decide
    rw [hl]
    exact Nat.lt_of_lt_of_le (Nat.lt_add_of_pos_right hns) hbase
  rw [← hl]
  obtain ⟨q, hq, hgates⟩ : ∃ q : GroupQ, q = { u.granted.gq p with gates := l :: (u.granted.gq p).gates.filter (fun l => decide (l.base * nsUnits ≤ u.granted.time.now)) } ∧
      q.gates = l :: (u.gq p).gates.filter (fun l => decide (l.base * nsUnits ≤ u.time.now)) := ⟨_, rfl, rfl⟩
  rw [← hq]
  have hadopted : ((((u.granted.setGq p q).refresh p).setCode Dict.grpGateApply 0 p).gq p).gates =
      l :: (u.gq p).gates.filter (fun l => decide (l.base * nsUnits ≤ u.time.now)) := by
    rw [← hgates]
    exact ((u.granted.setGq p q).refresh_gq p).2.2.trans (congrArg GroupQ.gates (State.gq_setGq_same ..))
  have hcode : (((u.granted.setGq p q).refresh p).setCode Dict.grpGateApply 0 p).cmdCode Dict.grpGateApply p = 0 := State.cmdCode_setCode_same ..
  generalize ((u.granted.setGq p q).refresh p).setCode Dict.grpGateApply 0 p = v at hadopted hcode ⊢
  obtain ⟨hcodes, hgates'⟩ := v.answerWrite_gates rq Dict.grpGateApply p 0 0
  generalize v.answerWrite rq Dict.grpGateApply p 0 0 = x at hcodes hgates' ⊢
  have hdone : ((x.within s).gq p).gates = l :: (u.gq p).gates.filter (fun l => decide (l.base * nsUnits ≤ u.time.now)) :=
    (hgates' p).trans hadopted
  refine ⟨(congrArg (fun c => Tbl.getD c (Dict.grpGateApply.key p 0) 0xFE) hcodes).trans hcode, by rw [hdone]; rfl, ?_, ?_⟩
  · rw [GroupQ.gatesNext, hdone, List.head?_cons, Option.filter_some, if_pos (decide_eq_true hbase')]
  · have hlater : ¬ (fun l : GateList => decide (l.base * nsUnits ≤ u.time.now)) l = true := by simpa using hbase'
    rw [GroupQ.gatesAt, hdone, List.find?_cons_of_neg (p := fun l : GateList => decide (l.base * nsUnits ≤ u.time.now)) hlater, List.find?_filter]
    simp [GroupQ.gatesAt]

theorem gateApply_late (hlate : nsOfTime80 (u.rd Dict.grpGateBase p) * nsUnits < u.time.now + 100000 * nsUnits) :
    Does (.gateApply dt rq p) s (fun t => t.cmdCode Dict.grpGateApply p = 1 ∧ (t.gq p).gates = (u.gq p).gates) := by
  have hgranted : ¬ (u.granted.groupOf p != p) = true := by
    have hsame : u.granted.groupOf p = u.groupOf p := rfl
    rw [hsame, hname]
    simp
  have hbase : nsOfTime80 (u.granted.rd Dict.grpGateBase p) * nsUnits < u.granted.time.now + 100000 * nsUnits := by
    rw [u.rd_granted_gate rfl]
    exact hlate
  refine .of_write hu h rfl ?_
  rw [if_neg hgranted]
  dsimp only
  rw [if_pos hbase]
  have hcoded : GatesFrom u (u.granted.setCode Dict.grpGateApply 1 p) := .refl u
  have hcode : (u.granted.setCode Dict.grpGateApply 1 p).cmdCode Dict.grpGateApply p = 1 := State.cmdCode_setCode_same ..
  generalize u.granted.setCode Dict.grpGateApply 1 p = v at hcoded hcode ⊢
  obtain ⟨hcodes, hgates⟩ := v.answerWrite_gates rq Dict.grpGateApply p 0 1
  generalize v.answerWrite rq Dict.grpGateApply p 0 1 = x at hcodes hgates ⊢
  exact ⟨(congrArg (fun c => Tbl.getD c (Dict.grpGateApply.key p 0) 0xFE) hcodes).trans hcode, (hgates p).trans (hcoded p)⟩

end

/-! ### Eligibility follows the gates (14 R306) -/

theorem Tbl.getD_foldl_zero (l : List Nat) (t : Tbl Nat) (c : Nat) (h : c ∈ l ∨ Tbl.getD t c 0 = 0) :
    Tbl.getD (l.foldl (fun t c => Tbl.set t c 0) t) c 0 = 0 := by
  induction l generalizing t with
  | nil => exact h.elim (fun hc => absurd hc List.not_mem_nil) id
  | cons e l ih =>
    refine ih _ ?_
    by_cases he : c = e
    · exact .inr (by rw [he, Tbl.getD_set_same])
    · rw [Tbl.getD_set_other _ _ _ _ _ (Ne.symm he)]
      exact h.imp (fun hc => (List.mem_cons.mp hc).resolve_left he) id

/-- The active list after the gates have changed: a class that has left it or joined it has no deficit, and one that joined is fresh. -/
theorem State.refresh_class (s : State) (g : Nat) {c : Nat} (hlow : 1 ≤ c) (hhigh : c ≤ 7) :
    (s.eligible g c = true ↔ c ∈ ((s.refresh g).gq g).active) ∧
    (s.eligible g c = true → c ∉ (s.gq g).active →
      ((s.refresh g).gq g).fresh.testBit c = true ∧ Tbl.getD ((s.refresh g).gq g).deficit c 0 = 0) ∧
    (s.eligible g c = false → c ∈ (s.gq g).active → c ∉ ((s.refresh g).gq g).active ∧ Tbl.getD ((s.refresh g).gq g).deficit c 0 = 0) := by
  unfold State.refresh
  extract_lets q keep join gone
  rw [State.gq_setGq_same]
  have hkeep : c ∈ keep ↔ c ∈ q.active ∧ s.eligible g c = true := List.mem_filter
  have hjoin : c ∈ join ↔ c ∉ q.active ∧ s.eligible g c = true := by
    have hclass : ∀ c, 1 ≤ c → c ≤ 7 → c ∈ ([1, 2, 3, 4, 5, 6, 7] : List Nat) := fun c h1 h7 => by
      simp only [List.mem_cons, List.not_mem_nil, or_false]
      omega
    unfold join
    rw [List.mem_filter]
    simp [hclass c hlow hhigh]
  have hgone : c ∈ gone ↔ c ∈ q.active ∧ s.eligible g c = false := by
    unfold gone
    rw [List.mem_filter]
    simp
  have hactive : c ∈ keep ++ join ↔ s.eligible g c = true := by
    rw [List.mem_append, hkeep, hjoin]
    by_cases hc : c ∈ q.active <;> simp [hc]
  refine ⟨hactive.symm, fun helig hnew => ⟨?_, ?_⟩, fun helig hold => ⟨?_, ?_⟩⟩
  · rw [testBit_foldl_setBit]
    simp [hjoin.mpr ⟨hnew, helig⟩]
  · exact Tbl.getD_foldl_zero _ _ c (.inl (List.mem_append_right _ (hjoin.mpr ⟨hnew, helig⟩)))
  · rw [hactive, helig]
    exact Bool.false_ne_true
  · exact Tbl.getD_foldl_zero _ _ c (.inl (List.mem_append_left _ (hgone.mpr ⟨hold, helig⟩)))

section
variable {dt : Nat} {s u : State} (hu : u = s.elapse dt) (hon : u.coreOn = true)
include hu hon

theorem gateEntryChange_refreshes {g : Nat} (hg : g ∈ u.groupList) :
    Does (.gateEntryChange dt g) s (fun t => (t.gq g).gates = (u.gq g).gates ∧
      ∀ c, 1 ≤ c → c ≤ 7 → (u.eligible g c = true ↔ c ∈ (t.gq g).active) ∧
        (u.eligible g c = true → c ∉ (u.gq g).active → (t.gq g).fresh.testBit c = true ∧ Tbl.getD (t.gq g).deficit c 0 = 0) ∧
        (u.eligible g c = false → c ∈ (u.gq g).active → c ∉ (t.gq g).active ∧ Tbl.getD (t.gq g).deficit c 0 = 0)) := by
  have hlisted : ¬ (!u.groupList.contains g) = true := by simp [hg]
  refine .of_core hu rfl hon ?_
  rw [if_neg hlisted]
  exact ⟨(u.refresh_gq g).2.2, fun c hlow hhigh => u.refresh_class g hlow hhigh⟩

/-! ### Drops (14 R312) -/

theorem classDropFlush_writes : Does (.classDropFlush dt) s
    (fun t => t.sch.runs = u.sch.runs.filter (fun r => !u.passed r.since 1000000)) := by
  refine .of_core hu rfl hon ?_
  have hwritten (l : List DropRun) (v : State) : (l.foldl State.writeRun v).sch.runs = v.sch.runs := by
    refine List.foldlRecOn (motive := fun t : State => t.sch.runs = v.sch.runs) l _ rfl fun t ht r _ => ?_
    obtain ⟨_, _, _, _, _, _, _, _, _, hraised⟩ : RaisedFrom t (t.writeRun r) := .raise ..
    rw [hraised]
    exact ht
  exact hwritten ..

end

/-- Settles O23: which frame a decision sends, which list a write adopts, and what follows changes neither. -/
theorem schedulerCommandsComplete : Obligations.SchedulerCommandsComplete := by
  unfold Obligations.SchedulerCommandsComplete
  exact ⟨fun _ _ _ _ hu hon hboot hg hup hroom hready => dataDecision_alarms hu hon hboot hg hup hroom hready,
    fun _ _ _ _ _ _ _ _ hu hon hboot hg hup hroom hready hv hactive hfirst hdeficit =>
      dataDecision_class hu hon hboot hg hup hroom hready hv hactive hfirst hdeficit,
    fun _ _ _ _ _ hu h hname hvalid hbase => gateApply_adopts hu h hname hvalid hbase,
    fun _ _ _ _ _ hu h hname hlate => gateApply_late hu h hname hlate,
    fun _ _ _ _ hu hon hg => gateEntryChange_refreshes hu hon hg,
    fun _ _ _ hu hon _ => classDropFlush_writes hu hon⟩

end Sys2Proof.Machine
end

section
/-! DAP requests, responses, sessions and actions (15 R317 to R323, R325, R326). -/

namespace Sys2Proof.Machine

open Sys2Proof

-- one theorem after the other: each theorem that waits for the kernel would hold a thread
set_option Elab.async false

/-! ### Commands that find the core running -/

/-- A request of a die's host for the die itself. -/
theorem State.takeRequest_mailbox {s : State} {r : DapReq} (hdie : s.isDie = true) (hlevel : r.tlevel = 7) (hpath : r.path = []) (via : Datagram) :
    s.takeRequest .mailbox r via = s.touch.serveRequest .mailbox r := by
  simp only [State.takeRequest, hdie, hlevel, hpath, Bool.not_true, Bool.false_eq_true, if_false, and_self, if_true]

section
variable {c : Instr} {dt : Nat} {s u : State} {P : State → Prop} (hu : u = s.elapse dt) (hon : u.coreOn = true)
include hu hon

/-- A datagram that arrives completes with what the port makes of it. -/
theorem Does.of_fromMgmt {bad : Bool} {i : Instr} {f : State → State} (hexec : exec c s = .next (s.fromMgmt dt bad i f)) (hP : P ((f u).within s)) :
    Does c s P := by
  refine .of_after hu hexec ?_
  rw [if_pos hon]
  exact hP

/-- A DAP request completes with what its target makes of it, wherever it came from. -/
theorem Does.of_fromSource {src : DapSource} {bad : Bool} {i : Instr} {f : State → State} (hexec : exec c s = .next (s.fromSource dt src bad i f))
    (hP : P ((f u).within s)) : Does c s P := by
  have hacts : s.fromSource dt src bad i f = (f u).within s := by
    cases src with
    | mailbox => rw [State.fromSource, State.fromHost, State.after, ← hu, if_pos hon]
    | lane p => rw [State.fromSource, State.fromLane_from hu hon]
    | mgmt _ _ => rw [State.fromSource, State.fromMgmt, State.after, ← hu, if_pos hon]
  exact ⟨_, hexec.trans (congrArg Host.Outcome.next hacts), hP⟩

end

/-! ### What a die answers -/

/-- The level that a die's responses name depends on its role alone: it has no groups below it. -/
theorem State.dapLevel_of_die {s t : State} (hs : s.isDie = true) (ht : t.isDie = true) (hrole : t.role = s.role) : t.dapLevel = s.dapLevel := by
  have hlow {v : State} (hv : v.isDie = true) : v.upperSpine = false := by
    have hnone : v.downGroups = [] := by
      have hdown (p : Nat) : v.isDown p = false := by
        cases hb : v.build with
        | die => simp [State.isDown, State.isTrayChip, hb]
        | trayChip => simp [State.isDie, hb] at hv
      rw [State.downGroups, List.filter_eq_nil_iff]
      intro p _
      rw [hdown]
      exact Bool.false_ne_true
    rw [State.upperSpine, hnone, List.any_nil, Bool.and_false]
  simp only [State.dapLevel, hrole, hlow hs, hlow ht]

/-- An answer to the host of a die joins the messages that wait for it. -/
theorem State.answer_mailbox {u s : State} (hdie : u.isDie = true) (hkeeps : KeepsObjects (· = Dict.dieId.key 0 0) u s) (r : DapReq)
    (st co total : Nat) (data : Bytes) (retry : Nat) : s.answer .mailbox r st co total data retry = s.mbSend 0 0 (DapResp.bytes
      { op := r.op, reqId := r.reqId, idx := r.idx, sub := r.sub, status := st, completion := co, tlevel := u.dapLevel, tdie := u.dieField
        offset := r.offset, total := total, retry := retry, data := data }) := by
  have hdie' : s.isDie = true := by rwa [State.isDie, hkeeps.1]
  have hid : s.rd Dict.dieId = u.rd Dict.dieId := hkeeps.rd rfl
  have hfield : s.dieField = u.dieField := by rw [State.dieField, State.dieField, hid]
  have hbytes : s.answerBytes r st co total data retry = DapResp.bytes
      { op := r.op, reqId := r.reqId, idx := r.idx, sub := r.sub, status := st, completion := co, tlevel := u.dapLevel, tdie := u.dieField
        offset := r.offset, total := total, retry := retry, data := data } := by
    rw [State.answerBytes, if_pos hdie', hfield, State.dapLevel_of_die hdie hdie' hkeeps.2.1]
  rw [State.answer, hbytes]
  rfl

/-- Objects of a die that stand for themselves: no value of theirs is formed, and no write of theirs is a command of its own. -/
theorem Dict.find?_of_die {r : Role} {o : Ob} (ho : o ∈ [Dict.seed, Dict.calmWatch, Dict.bracketWait, Dict.myJob, Dict.dieId, Dict.verdict,
    Dict.jobState, Dict.memberEpoch]) : Dict.find? .die r o.idx o.sub = some (o, 0, 0) := by
  have hall : ∀ o ∈ [Dict.seed, Dict.calmWatch, Dict.bracketWait, Dict.myJob, Dict.dieId, Dict.verdict, Dict.jobState, Dict.memberEpoch],
      ∀ r ∈ [Role.leaf, .tray, .rack, .spine, .root], Dict.find? .die r o.idx o.sub = some (o, 0, 0) := by decide +kernel
  exact hall o ho r (by cases r <;> decide)

theorem State.serveRequest_read {r : DapReq} (hop : r.op = 1) (src : DapSource) (s : State) : s.serveRequest src r = s.serveReadReq src r := by
  unfold State.serveRequest
  rw [hop]
  rfl

theorem State.serveRequest_write {r : DapReq} (hop : r.op = 2) (src : DapSource) (s : State) :
    s.serveRequest src r = s.serveWriteReq ⟨src, r.reqId⟩ r := by
  unfold State.serveRequest
  rw [hop]
  rfl

theorem State.serveRequest_abort {r : DapReq} (hop : r.op = 3) (src : DapSource) (s : State) : s.serveRequest src r = s.serveAbortReq src r := by
  unfold State.serveRequest
  rw [hop]
  rfl

/-! ### OBJECT_WRITE (15 R322) -/

/-- No effect of its own follows a plain scalar's value; the next verdict's LEAF_STATE notes CALM_WATCH (20 R417). -/
theorem State.written_plain {x : State} (hbuild : x.build = .die) {o : Ob} (ho : o ∈ [Dict.seed, Dict.calmWatch, Dict.bracketWait]) (old : Nat) :
    ∃ ver, x.written o 0 0 old = { x with ver := ver } := by
  have hrows : ∀ o ∈ [Dict.seed, Dict.calmWatch, Dict.bracketWait], o.accD = .rw ∧ o.idx ≠ 0x1108 ∧ o.idx ≠ 0x1102 ∧ o.idx ≠ 0x1109 ∧
      o.idx ≠ 0x1120 ∧ o.idx ≠ 0x2110 ∧ o.idx ≠ 0x2320 ∧ ¬ 0x2601 ≤ o.idx ∧ o.idx ≠ 0x260C ∧ o.idx ≠ 0x3000 := by decide
  obtain ⟨haccess, hsource, hnow, hgm, hchannel, hslot, hinit, htrace, hcursor, hlane⟩ := hrows o ho
  have heffect : x.afterWrite o.idx o.sub 0 0 old = x := by simp [State.afterWrite, hchannel, hsource, hslot, hinit, htrace, hcursor, hlane]
  obtain ⟨ver, hconfig⟩ : ∃ ver, x.afterConfig o.idx o.sub 0 = { x with ver := ver } := by
    unfold State.afterConfig
    split
    next h => exact absurd h.1 hslot
    next =>
      split
      · exact ⟨_, rfl⟩
      · exact ⟨x.ver, rfl⟩
  have hplain : ¬ (({ x with ver := ver } : State).accessOf o == .rwp) = true := by
    have hkind : ({ x with ver := ver } : State).accessOf o = .rw := by
      simp only [State.accessOf, hsource, hnow, hgm, or_self, if_false, hbuild, Ob.access, haccess]
    rw [hkind]
    decide
  refine ⟨ver, ?_⟩
  unfold State.written
  dsimp only
  rw [heffect, hconfig, if_neg hplain]

/-- A plain scalar of a die takes a written value as it stands. -/
theorem State.writeScalar_plain (w : State) (hdie : w.isDie = true) {o : Ob} (ho : o ∈ [Dict.seed, Dict.calmWatch, Dict.bracketWait]) {v : Nat}
    (hv : v < 2 ^ 32) (id : Nat) :
    ∃ ver, w.writeScalar o 0 0 { op := 2, reqId := id, idx := o.idx, sub := o.sub, total := 4, data := leBytes 4 v } = { w.wr o v with ver := ver } := by
  have hvalue : ofLe (leBytes 4 v) = v := ofLe_leBytes_of_lt hv
  have hbuild : w.build = .die := beq_iff_eq.mp hdie
  have hfour : ∀ o ∈ [Dict.seed, Dict.calmWatch, Dict.bracketWait], o.ty.bytes = 4 ∧ o.ty ≠ .bool ∧ o.hi = 0 ∧ o.ty ≠ .time80 ∧
      (decidedObs.any (fun x => x.key 0 0 == o.key 0 0)) = false ∧ o.idx ≠ 0x3000 ∧ o.key 0 0 ≠ Dict.logSyncInterval.key 0 0 ∧
      o.key 0 0 ≠ Dict.shutterMode.key 0 0 ∧ o.key 0 0 ≠ Dict.grpPoliceEnable.key 0 0 ∧ o.key 0 0 ≠ Dict.slotVkind.key 0 0 ∧
      o.key 0 0 ≠ Dict.slotPipeCount.key 0 0 := by decide
  obtain ⟨hbytes, hbool, hhi, htime, hdecided, hgroup, hsync, hmode, hpolice, hvkind, hpipes⟩ := hfour o ho
  have helsewhere : w.elsewhere o 0 = false := by simp [State.elsewhere, hgroup]
  have hpermits : w.permits o 0 v = true := by simp [State.permits, hbool, hhi, htime, hsync, hmode, hpolice, hvkind, hpipes]
  have hscalar : w.scalarValue o { op := 2, reqId := id, idx := o.idx, sub := o.sub, total := 4, data := leBytes 4 v } = (v, w) := by
    simp [State.scalarValue, hbytes, hvalue]
  have htaken : w.valueFor o 0 v = (v, w) := by simp [State.valueFor, hpermits]
  have hkept : w.keepOld o 0 = w := by simp [State.keepOld, hdecided]
  unfold State.writeScalar
  rw [helsewhere, if_neg Bool.false_ne_true, hscalar]
  dsimp only
  rw [htaken]
  dsimp only
  rw [hkept]
  exact State.written_plain (show (w.wr o v).build = .die from hbuild) ho _

/-- A WRITE of a plain scalar waits for no session of its own. -/
theorem State.serveWriteReq_plain {s : State} (hbuild : s.build = .die) {o : Ob} (ho : o ∈ [Dict.seed, Dict.calmWatch, Dict.bracketWait])
    {r : DapReq} (hidx : r.idx = o.idx) (hsub : r.sub = o.sub) (rq : Requester) :
    s.serveWriteReq rq r = s.serveRead rq.src r fun s => s.writePlain rq o 0 0 r := by
  have hrows : ∀ o ∈ [Dict.seed, Dict.calmWatch, Dict.bracketWait], o ∈ [Dict.seed, Dict.calmWatch, Dict.bracketWait, Dict.myJob, Dict.dieId,
      Dict.verdict, Dict.jobState, Dict.memberEpoch] ∧ o.whole = false ∧ (ownWrites.find? (fun e => e.1.key 0 0 == o.key 0 0)).isNone = true := by
    decide +kernel
  obtain ⟨hlisted, hwhole, hown⟩ := hrows o ho
  have hfind : Dict.find? s.build s.role r.idx r.sub = some (o, 0, 0) := by
    rw [hidx, hsub, hbuild]
    exact Dict.find?_of_die hlisted
  have hnone : (ownWrites.find? (fun e => e.1.key 0 0 == o.key 0 0)).map (·.2) = none := by
    rw [Option.isNone_iff_eq_none.mp hown]
    rfl
  unfold State.serveWriteReq
  rw [hfind]
  dsimp only
  rw [hnone]
  simp only [hwhole, Bool.false_and]
  rfl

/-- A WRITE of a plain scalar that has reached its target. -/
theorem State.writePlain_scalar {w : State} (hbuild : w.build = .die) {o : Ob} (ho : o ∈ [Dict.seed, Dict.calmWatch, Dict.bracketWait])
    (rq : Requester) (r : DapReq) : w.writePlain rq o 0 0 r = (w.writeScalar o 0 0 r).answer rq.src r 0 0 0 [] 0 := by
  have hrows : ∀ o ∈ [Dict.seed, Dict.calmWatch, Dict.bracketWait], o.whole = false ∧ o.accD ≠ .ro ∧ o.idx ≠ 0x1108 ∧ o.idx ≠ 0x1102 ∧
      o.idx ≠ 0x1109 := by decide
  obtain ⟨hwhole, haccess, hsource, hnow, hgm⟩ := hrows o ho
  have hrw : ¬ (w.accessOf o == .ro) = true := by
    have hkind : w.accessOf o = o.accD := by simp only [State.accessOf, hsource, hnow, hgm, or_self, if_false, hbuild, Ob.access]
    rw [hkind, beq_iff_eq]
    exact haccess
  unfold State.writePlain
  dsimp only
  rw [if_neg hrw, hwhole, if_neg Bool.false_ne_true]

/-- A full queue: the request is answered BUSY, and nothing else is done. -/
theorem State.serveRead_full {u : State} {r : DapReq} (hstatus : u.targetStatus r.idx r.sub = 0) (hfull : u.queueFull = true) (src : DapSource)
    (act : State → State) : State.serveRead src r act u = u.touch.answerBusy src r (u.touch.rdAt Dict.retryAfter) := by
  have hstatus' : u.touch.targetStatus r.idx r.sub = 0 := hstatus
  have hfull' : u.touch.queueFull = true := hfull
  simp only [State.serveRead, State.serveAny, hstatus', hfull', Bool.true_or, Bool.not_false, Bool.and_self, if_true]

section
variable {dt id : Nat} {o : Ob} {s u : State} (hu : u = s.elapse dt) (hon : u.coreOn = true) (hdie : u.isDie = true)
include hu hon hdie

theorem objectWrite_stores (ho : o ∈ [Dict.seed, Dict.calmWatch, Dict.bracketWait]) (h : u.serves o) {v : Nat} (hv : v < 2 ^ 32) :
    Does (.objectWrite dt (.dap .mailbox { op := 2, reqId := id, idx := o.idx, sub := o.sub, total := 4, data := leBytes 4 v } {})) s
      (fun t => t.rd o = v ∧ t.mb.waiting = u.mb.waiting ++ [{ door := 0, kind := 0, bytes := DapResp.bytes {
          op := 2, reqId := id, idx := o.idx, sub := o.sub, tlevel := u.dapLevel, tdie := u.dieField } }]) := by
  obtain ⟨r, hr⟩ : ∃ r : DapReq, r = { op := 2, reqId := id, idx := o.idx, sub := o.sub, total := 4, data := leBytes 4 v } := ⟨_, rfl⟩
  have hrows : ∀ o ∈ [Dict.seed, Dict.calmWatch, Dict.bracketWait], o.key 0 0 ≠ Dict.dieId.key 0 0 ∧ o.ty.bytes = 4 := by decide
  obtain ⟨hother, hbytes⟩ := hrows o ho
  have hbuild : u.build = .die := beq_iff_eq.mp hdie
  obtain ⟨w, hw⟩ : ∃ w, w = u.touch.granted := ⟨_, rfl⟩
  have hwbuild : w.build = .die := by rw [hw]; exact hbuild
  have hwkeeps : KeepsObjects (· ≠ 0x102D00) u w := by rw [hw]; exact u.granted_keeps
  have hwmb : w.mb = u.mb := by rw [hw]; rfl
  obtain ⟨ver, hwritten⟩ := w.writeScalar_plain (beq_iff_eq.mpr hwbuild) ho hv id
  rw [← hr] at hwritten
  have hplain : u.touch.serveRequest .mailbox r = ({ w.wr o v with ver := ver } : State).answer .mailbox r 0 0 0 [] 0 := by
    have hserves : u.touch.serves o := h
    have hop : r.op = 2 := by rw [hr]
    rw [State.serveRequest_write hop, State.serveWriteReq_plain (s := u.touch) hbuild ho (by rw [hr]) (by rw [hr]),
      State.serveRead_of_serves hserves .mailbox _ (by rw [hr]; rfl) (by rw [hr]), ← hw, State.writePlain_scalar hwbuild ho, hwritten]
  have hkeeps : KeepsObjects (· = Dict.dieId.key 0 0) u { w.wr o v with ver := ver } := by
    refine (hwkeeps.mono fun k hk => ?_).trans (.wr w o v 0 0 hother)
    rw [hk]
    decide
  have hread : ({ w.wr o v with ver := ver } : State).rd o = v := by
    refine (State.rd_wr_same w o v 0 0).trans (Nat.mod_eq_of_lt ?_)
    rw [hbytes]
    exact hv
  have hall : KeepsObjects (fun _ => False) u { w.wr o v with ver := ver } := hkeeps.mono fun _ => False.elim
  have hmb : ({ w.wr o v with ver := ver } : State).mb = u.mb := hwmb
  have hserved : u.takeRequest .mailbox r {} = ({ w.wr o v with ver := ver } : State).mbSend 0 0 (DapResp.bytes {
      op := 2, reqId := id, idx := o.idx, sub := o.sub, tlevel := u.dapLevel, tdie := u.dieField }) := by
    rw [State.takeRequest_mailbox hdie (by rw [hr]) (by rw [hr]), hplain, State.answer_mailbox hdie hkeeps, hr]
  have hdone : ((u.takeRequest .mailbox r {}).within s).rd o = v ∧ ((u.takeRequest .mailbox r {}).within s).mb.waiting =
      u.mb.waiting ++ [{ door := 0, kind := 0, bytes := DapResp.bytes {
        op := 2, reqId := id, idx := o.idx, sub := o.sub, tlevel := u.dapLevel, tdie := u.dieField } }] := by
    rw [hserved]
    generalize ({ w.wr o v with ver := ver } : State) = x at hread hall hmb
    exact ⟨(hall.rd_done (v := x) hu o 0 0).trans hread, congrArg (fun m : Mailbox => m.waiting ++ _) hmb⟩
  rw [hr] at hdone
  exact .of_fromSource hu hon rfl hdone

theorem objectWrite_busy (ho : o ∈ [Dict.seed, Dict.calmWatch]) (hstatus : u.targetStatus o.idx o.sub = 0) (hfull : u.queueFull = true) :
    Does (.objectWrite dt (.dap .mailbox { op := 2, reqId := id, idx := o.idx, sub := o.sub, total := 4, data := leBytes 4 5 } {})) s
      (fun t => t.regs = u.regs ∧ t.doms = u.doms ∧ t.dap.queue = u.dap.queue) := by
  obtain ⟨r, hr⟩ : ∃ r : DapReq, r = { op := 2, reqId := id, idx := o.idx, sub := o.sub, total := 4, data := leBytes 4 5 } := ⟨_, rfl⟩
  have hbuild : u.build = .die := beq_iff_eq.mp hdie
  have ho' : o ∈ [Dict.seed, Dict.calmWatch, Dict.bracketWait] := by
    have hall : ∀ o ∈ [Dict.seed, Dict.calmWatch], o ∈ [Dict.seed, Dict.calmWatch, Dict.bracketWait] := by decide
    exact hall o ho
  have hserved : u.takeRequest .mailbox r {} = u.touch.touch.answerBusy .mailbox r (u.touch.touch.rdAt Dict.retryAfter) := by
    have hop : r.op = 2 := by rw [hr]
    have hstatus' : u.touch.targetStatus r.idx r.sub = 0 := by
      rw [hr]
      exact hstatus
    rw [State.takeRequest_mailbox hdie (by rw [hr]) (by rw [hr]), State.serveRequest_write hop,
      State.serveWriteReq_plain (s := u.touch) hbuild ho' (by rw [hr]) (by rw [hr])]
    exact State.serveRead_full hstatus' hfull .mailbox _
  have hdone : ((u.takeRequest .mailbox r {}).within s).regs = u.regs ∧ ((u.takeRequest .mailbox r {}).within s).doms = u.doms ∧
      ((u.takeRequest .mailbox r {}).within s).dap.queue = u.dap.queue := by
    rw [hserved]
    exact ⟨rfl, rfl, rfl⟩
  rw [hr] at hdone
  exact .of_fromSource hu hon rfl hdone

theorem objectWrite_irqEnable (v : Nat) : Does (.objectWrite dt (.register 0x008 v)) s
    (fun t => t.mb = { u.mb with irqEnable := v % 2 ^ 32 } ∧ t.out = Output.hostResponse 0 false :: u.out) :=
  .of_onPort hu hon hdie rfl ⟨rfl, rfl⟩

end

/-! ### DAP_READ (15 R322, R325) -/

/-- The value of a plain object of a die is what it stores. -/
theorem State.readObject_plain {w : State} (hbuild : w.build = .die) {o : Ob}
    (ho : o ∈ [Dict.myJob, Dict.dieId, Dict.verdict, Dict.jobState, Dict.memberEpoch]) :
    w.readObject o.idx o.sub = leBytes o.ty.bytes (w.rd o) ∧ w.writeOnly o.idx o.sub = false := by
  have hrows : ∀ o ∈ [Dict.myJob, Dict.dieId, Dict.verdict, Dict.jobState, Dict.memberEpoch], o ∈ [Dict.seed, Dict.calmWatch, Dict.bracketWait,
      Dict.myJob, Dict.dieId, Dict.verdict, Dict.jobState, Dict.memberEpoch] ∧ o.whole = false ∧ o.accD ≠ .wo ∧ o.ty ≠ .cmd ∧ o.idx ≠ 0x1108 ∧
      o.idx ≠ 0x1102 ∧ o.idx ≠ 0x1109 ∧ o.idx ≠ 0x3000 ∧ (formedObjects.find? (fun e => e.1.key 0 0 == o.key 0 0)).isNone = true := by
    decide +kernel
  obtain ⟨hlisted, hwhole, haccess, hcmd, hsource, hnow, hgm, hgroup, hformed⟩ := hrows o ho
  have hfind : Dict.find? w.build w.role o.idx o.sub = some (o, 0, 0) := by
    rw [hbuild]
    exact Dict.find?_of_die hlisted
  have helsewhere : w.elsewhere o 0 = false := by simp [State.elsewhere, hgroup]
  constructor
  · have hvalue : w.value o 0 0 = leBytes o.ty.bytes (w.rd o) := by
      unfold State.value
      rw [Option.isNone_iff_eq_none.mp hformed, helsewhere]
      simp [State.stored, hcmd, hnow, hwhole]
    unfold State.readObject
    rw [hfind]
    exact hvalue
  · unfold State.writeOnly
    rw [hfind]
    have hkind : w.accessOf o = o.accD := by simp only [State.accessOf, hsource, hnow, hgm, or_self, if_false, hbuild, Ob.access]
    dsimp only
    rw [hkind, beq_eq_false_iff_ne]
    exact haccess

section
variable {dt id : Nat} {o : Ob} {s u : State} (hu : u = s.elapse dt) (hon : u.coreOn = true) (hdie : u.isDie = true)
include hu hon hdie

theorem dapRead_answers (ho : o ∈ [Dict.myJob, Dict.dieId, Dict.verdict, Dict.jobState, Dict.memberEpoch]) (h : u.serves o) :
    Does (.dapRead dt .mailbox { op := 1, reqId := id, idx := o.idx, sub := o.sub } {}) s (fun t =>
      t.mb.waiting = u.mb.waiting ++ [{ door := 0, kind := 0, bytes := DapResp.bytes {
          op := 1, reqId := id, idx := o.idx, sub := o.sub, tlevel := u.dapLevel, tdie := u.dieField, total := o.ty.bytes
          data := leBytes o.ty.bytes (u.rd o) } }]) := by
  obtain ⟨r, hr⟩ : ∃ r : DapReq, r = { op := 1, reqId := id, idx := o.idx, sub := o.sub } := ⟨_, rfl⟩
  have hrows : ∀ o ∈ [Dict.myJob, Dict.dieId, Dict.verdict, Dict.jobState, Dict.memberEpoch], o.ty.bytes ≤ 32 ∧ o.key 0 0 ≠ 0x102D00 ∧
      o.idx * 256 + o.sub ≠ Dict.fWindow.key 0 0 ∧ o.idx * 256 + o.sub ≠ Dict.oWindow.key 0 0 ∧ o.idx * 256 + o.sub ≠ Dict.storeRead.key 0 0 ∧
      o.idx * 256 + o.sub ≠ Dict.exportData.key 0 0 := by decide
  obtain ⟨hshort, hserved, hfwindow, howindow, hstore, hexport⟩ := hrows o ho
  obtain ⟨w, hw⟩ : ∃ w, w = u.touch.granted := ⟨_, rfl⟩
  have hwbuild : w.build = .die := by rw [hw]; exact beq_iff_eq.mp hdie
  have hwkeeps : KeepsObjects (· ≠ 0x102D00) u w := by rw [hw]; exact u.granted_keeps
  have hwmb : w.mb = u.mb := by rw [hw]; rfl
  obtain ⟨hvalue, hreadable⟩ := State.readObject_plain hwbuild ho
  rw [hwkeeps.rd hserved] at hvalue
  have hread : ∃ f d, w.readBytes .mailbox r =
      ({ w with free := f, dap := d } : State).answer .mailbox r 0 0 o.ty.bytes (leBytes o.ty.bytes (u.rd o)) 0 := by
    have hdata : ((leBytes o.ty.bytes (u.rd o)).drop 0).take (readCap .mailbox) = leBytes o.ty.bytes (u.rd o) := by
      rw [List.drop_zero, List.take_of_length_le]
      rw [length_leBytes]
      exact hshort
    have hsmall : decide (1024 < o.ty.bytes) = false := by simp; omega
    rw [hr]
    unfold State.readBytes
    dsimp only
    rw [if_pos rfl]
    dsimp only
    rw [hreadable, if_neg Bool.false_ne_true, hvalue, hdata, length_leBytes, hsmall, if_neg hexport]
    have hcopies : ¬ (decide ((0 : Nat) = 0) && false && decide (o.ty.bytes ≤ w.copyLimit)) = true := by simp
    rw [if_neg hcopies, if_pos rfl]
    exact ⟨_, _, rfl⟩
  obtain ⟨f, d, hread⟩ := hread
  have hkeeps : KeepsObjects (· = Dict.dieId.key 0 0) u { w with free := f, dap := d } := by
    refine hwkeeps.mono fun k hk => ?_
    rw [hk]
    decide
  have hanswered : u.takeRequest .mailbox r {} = ({ w with free := f, dap := d } : State).mbSend 0 0 (DapResp.bytes {
      op := 1, reqId := id, idx := o.idx, sub := o.sub, tlevel := u.dapLevel, tdie := u.dieField, total := o.ty.bytes
      data := leBytes o.ty.bytes (u.rd o) }) := by
    have hserves : u.touch.serves o := h
    rw [State.takeRequest_mailbox hdie (by rw [hr]) (by rw [hr]), State.serveRequest_read (by rw [hr]), State.serveReadReq,
      State.serveRead_of_serves hserves .mailbox _ (by rw [hr]; rfl) (by rw [hr]), ← hw]
    have hkey : r.idx * 256 + r.sub = o.idx * 256 + o.sub := by rw [hr]
    dsimp only
    rw [hkey, if_neg hfwindow, if_neg howindow, if_neg hstore, hread, State.answer_mailbox hdie hkeeps, hr]
  have hdone : ((u.takeRequest .mailbox r {}).within s).mb.waiting = u.mb.waiting ++ [{ door := 0, kind := 0, bytes := DapResp.bytes {
      op := 1, reqId := id, idx := o.idx, sub := o.sub, tlevel := u.dapLevel, tdie := u.dieField, total := o.ty.bytes
      data := leBytes o.ty.bytes (u.rd o) } }] := by
    rw [hanswered]
    exact congrArg (fun m : Mailbox => m.waiting ++ _) hwmb
  rw [hr] at hdone
  exact .of_fromSource hu hon rfl hdone

end

/-! ### DAP_ABORT and sessions (15 R325, R326) -/

/-- A load whose session has ended leaves the other sessions alone. -/
theorem State.imageAborted_sessions (s : State) (k : Nat) : (s.imageAborted k).dap.writes = s.dap.writes ∧
    (s.imageAborted k).dap.reads = s.dap.reads := by
  unfold State.imageAborted
  split
  · split
    · unfold State.loadFails
      dsimp only
      split
      · split
        · exact ⟨rfl, rfl⟩
        · exact ⟨rfl, rfl⟩
      · exact ⟨rfl, rfl⟩
    · exact ⟨rfl, rfl⟩
  · exact ⟨rfl, rfl⟩

/-- The write session of an object is there no more, and the other sessions are. -/
theorem State.abortWrite_sessions (s : State) (key : Nat) : (s.abortWrite key).dap.writes = s.dap.writes.filter (fun w => w.key != key) ∧
    (s.abortWrite key).dap.reads = s.dap.reads := by
  unfold State.abortWrite
  split
  · dsimp only
    split
    · obtain ⟨hwrites, hreads⟩ := (s.dropWrite key).imageAborted_sessions (by assumption)
      exact ⟨hwrites, hreads⟩
    · exact ⟨rfl, rfl⟩
  next hnone =>
    refine ⟨(List.filter_eq_self.mpr fun w hw => ?_).symm, rfl⟩
    rw [bne_iff_ne]
    rintro hkey
    exact hnone (List.any_eq_true.mpr ⟨w, hw, beq_iff_eq.mpr hkey⟩)

/-- Several write sessions end. -/
theorem State.abortWrites_sessions (l : List WriteSession) (s : State) :
    (∀ w ∈ (l.foldl (fun t w => t.abortWrite w.key) s).dap.writes, w ∈ s.dap.writes ∧ ∀ x ∈ l, w.key ≠ x.key) ∧
    (l.foldl (fun t w => t.abortWrite w.key) s).dap.reads = s.dap.reads := by
  induction l generalizing s with
  | nil => exact ⟨fun w hw => ⟨hw, fun x hx => absurd hx List.not_mem_nil⟩, rfl⟩
  | cons e l ih =>
    obtain ⟨hwrites, hreads⟩ := s.abortWrite_sessions e.key
    obtain ⟨hrest, hsame⟩ := ih (s.abortWrite e.key)
    refine ⟨fun w hw => ?_, hsame.trans hreads⟩
    obtain ⟨hmem, hkeys⟩ := hrest w hw
    rw [hwrites, List.mem_filter, bne_iff_ne] at hmem
    exact ⟨hmem.1, List.forall_mem_cons.mpr ⟨hmem.2, hkeys⟩⟩

/-- A request whose target serves and has room. -/
theorem State.serveRead_of_free {u : State} {r : DapReq} (hstatus : u.targetStatus r.idx r.sub = 0) (hroom : u.queueFull = false) (src : DapSource)
    (act : State → State) : State.serveRead src r act u = act u.granted := by
  have hstatus' : u.touch.targetStatus r.idx r.sub = 0 := hstatus
  have hroom' : u.touch.queueFull = false := hroom
  simp only [State.serveRead, State.serveAny, hstatus', hroom', Bool.or_self, Bool.not_false, Bool.and_false, Bool.false_eq_true, if_false,
    State.granted]

theorem dapAbort_ends {dt id idx sub : Nat} {s u : State} (hu : u = s.elapse dt) (hon : u.coreOn = true) (hdie : u.isDie = true)
    (hstatus : u.targetStatus idx sub = 0) (hroom : u.queueFull = false) :
    Does (.dapAbort dt .mailbox { op := 3, reqId := id, idx := idx, sub := sub } {}) s (fun t => ∀ w ∈ t.dap.writes, w.key ≠ idx * 256 + sub) := by
  obtain ⟨r, hr⟩ : ∃ r : DapReq, r = { op := 3, reqId := id, idx := idx, sub := sub } := ⟨_, rfl⟩
  have hdone : ∀ w ∈ ((u.takeRequest .mailbox r {}).within s).dap.writes, w.key ≠ idx * 256 + sub := by
    have hfree : u.touch.targetStatus r.idx r.sub = 0 := by
      rw [hr]
      exact hstatus
    rw [State.takeRequest_mailbox hdie (by rw [hr]) (by rw [hr]), State.serveRequest_abort (by rw [hr]), State.serveAbortReq,
      State.serveRead_of_free hfree hroom]
    have hkey : r.idx * 256 + r.sub = idx * 256 + sub := by rw [hr]
    rw [hkey]
    obtain ⟨hwrites, -⟩ := u.touch.granted.abortWrite_sessions (idx * 256 + sub)
    generalize u.touch.granted.abortWrite (idx * 256 + sub) = v at hwrites
    intro w hw
    have hmem : w ∈ v.dap.writes := hw
    rw [hwrites, List.mem_filter, bne_iff_ne] at hmem
    exact hmem.2
  rw [hr] at hdone
  exact .of_fromSource hu hon rfl hdone

/-! ### Responses and entries that wait (15 R321) -/

/-- An answer leaves the pending entries, the sessions and the actions as they are. -/
theorem State.respond_keeps (s : State) (src : DapSource) (b : Bytes) : (s.respond src b).dap.pending = s.dap.pending ∧
    (s.respond src b).dap.actions = s.dap.actions ∧ (s.respond src b).dap.held = s.dap.held ∧ (s.respond src b).cmdCodes = s.cmdCodes ∧
    (s.respond src b).regs = s.regs := by
  cases src with
  | mailbox => exact ⟨rfl, rfl, rfl, rfl, rfl⟩
  | lane p =>
    obtain ⟨q, hq⟩ := s.enqueue_only (s.groupOf p) 2 { kind := .dapResponse, bytes := b }
    rw [State.respond, hq]
    exact ⟨rfl, rfl, rfl, rfl, rfl⟩
  | mgmt a p => exact ⟨rfl, rfl, rfl, rfl, rfl⟩

/-- Answering an action leaves the actions, the writes held for one and the codes as they are. -/
theorem State.answerAction_keeps (s : State) (a : CmdAction) (c : Nat) : (s.answerAction a c).dap.actions = s.dap.actions ∧
    (s.answerAction a c).dap.held = s.dap.held ∧ (s.answerAction a c).cmdCodes = s.cmdCodes := by
  unfold State.answerAction
  split
  next src _ _ =>
    obtain ⟨-, hactions, hheld, hcodes, -⟩ := s.respond_keeps src _
    exact ⟨hactions, hheld, hcodes⟩
  next => exact ⟨rfl, rfl, rfl⟩

/-- An action completes while no write waits for one: it leaves the actions, and its code is readable. -/
theorem State.completeAction_of_noneHeld (s : State) (a : CmdAction) (hheld : s.dap.held = []) :
    (s.completeAction a).dap.actions = s.dap.actions.erase a ∧ (s.completeAction a).cmdCodes = Tbl.set s.cmdCodes a.key (a.code.getD 0) := by
  have hlast (v : State) (hnone : v.dap.held = []) (c : Nat) : ((v.answerAction a c).nextHeld a.key).dap.actions = v.dap.actions ∧
      ((v.answerAction a c).nextHeld a.key).cmdCodes = v.cmdCodes := by
    obtain ⟨hactions, hkept, hcodes⟩ := v.answerAction_keeps a c
    rw [State.nextHeld, hkept, hnone, List.find?_nil]
    exact ⟨hactions, hcodes⟩
  exact hlast { s with cmdCodes := Tbl.set s.cmdCodes a.key (a.code.getD 0), dap := { s.dap with actions := s.dap.actions.erase a } } hheld _

/-- An ICMPv6 message to an address of the port is answered at once (15 R317). -/
theorem State.icmpAnswer_answers {u : State} (htray : u.isTrayChip = true) (hmac : u.dap.mac.all (· == 0) = false) {addr : Bytes}
    (haddr : u.dap.answersAt addr = true) (msg : Bytes) : u.icmpAnswer addr false msg = u.touch.emit (.icmp msg) := by
  have hmine : (u.dap.mac.all (· == 0) || !u.dap.answersAt addr) = false := by rw [hmac, haddr]; rfl
  rw [State.icmpAnswer, htray, hmine]
  rfl

section
variable {dt : Nat} {s u : State} (hu : u = s.elapse dt) (hon : u.coreOn = true)
include hu hon

theorem dapResponse_matches {p : Nat} {r : DapResp} (hup : u.laneUp p = true) : Does (.dapResponse dt p r) s (fun t =>
      t.dap.pending = u.dap.pending.filter (fun e => !(e.port == u.groupOf p && e.id == r.reqId)) ∧
      (u.isTrayChip = true → (∀ e ∈ u.dap.pending, ¬(e.port = u.groupOf p ∧ e.id = r.reqId)) →
        t.rd Dict.orphanResponses = satTo (8 * Dict.orphanResponses.ty.bytes) (u.rd Dict.orphanResponses + 1))) := by
  have hacts : ¬ (!u.laneUp p) = true := by simp [hup]
  refine ⟨_, congrArg Host.Outcome.next (State.fromLane_from hu hon p 2 _ _), ?_⟩
  rw [if_neg hacts]
  unfold State.takeResponse
  dsimp only
  split
  next e hfound =>
    refine ⟨(State.respond_keeps _ e.source _).1, fun _ hnone => ?_⟩
    have hmine := List.find?_some hfound
    rw [Bool.and_eq_true, beq_iff_eq, beq_iff_eq] at hmine
    exact absurd hmine (hnone e (List.mem_of_find?_eq_some hfound))
  next hnone =>
    have hall : u.dap.pending.filter (fun e => !(e.port == u.groupOf p && e.id == r.reqId)) = u.dap.pending := by
      refine List.filter_eq_self.mpr fun e he => ?_
      rw [Bool.not_eq_true']
      exact Bool.eq_false_iff.mpr (List.find?_eq_none.mp hnone e he)
    rw [hall]
    split
    · refine ⟨rfl, fun _ _ => ?_⟩
      have hkept : KeepsObjects (fun _ => False) u (u.touch.bumpSat Dict.orphanResponses) := .bumpSat u.touch _ 0 0 1 id
      exact (hkept.rd_done hu ..).trans (u.touch.stores_bumpSat Dict.orphanResponses 0 0 1).rd
    next htray => exact ⟨rfl, fun h => absurd h htray⟩

theorem pendTimeout_loses : Does (.pendTimeout dt) s
    (fun t => t.dap.pending = u.dap.pending.filter (fun e => decide (u.time.now < e.due))) := by
  refine .of_core hu rfl hon ?_
  have hlost (l : List DapPending) (v : State) : (l.foldl (fun t e =>
      t.answerLost e.source { op := e.op, reqId := e.reqId, idx := e.idx, sub := e.sub } 3) v).dap.pending = v.dap.pending :=
    List.foldlRecOn (motive := fun t : State => t.dap.pending = v.dap.pending) l _ rfl fun t ht e _ =>
      (State.respond_keeps (t.bumpSat Dict.routeLosts) e.source _).1.trans ht
  refine (hlost _ _).trans (List.filter_congr fun e _ => ?_)
  rw [← decide_not, decide_eq_decide]
  exact Nat.not_le

theorem segTimeout_ends : Does (.segTimeout dt) s (fun t => t.dap.reads = u.dap.reads.filter (fun e => decide (u.time.now < e.due)) ∧
      ∀ w ∈ t.dap.writes, w ∈ u.dap.writes ∧ u.time.now < w.due) := by
  refine .of_core hu rfl hon ?_
  obtain ⟨hwrites, hreads⟩ := State.abortWrites_sessions (u.dap.writes.filter fun w => decide (w.due ≤ u.time.now))
    { u with dap := { u.dap with reads := u.dap.reads.filter (fun e => decide (u.time.now < e.due)) } }
  refine ⟨hreads, fun w hw => ?_⟩
  obtain ⟨hmem, hkeys⟩ := hwrites w hw
  refine ⟨hmem, Nat.lt_of_not_le fun hdue => ?_⟩
  exact hkeys w (List.mem_filter.mpr ⟨hmem, decide_eq_true hdue⟩) rfl

/-! ### Actions (15 R323) -/

theorem cmdInProgress_answers {a : CmdAction} {id : Nat} (hone : u.dap.actions = [a]) (hwaiting : a.waiting = some (.mailbox, id))
    (hcode : a.code = none) (hpassed : u.passed a.since 1000000 = true) :
    Does (.cmdInProgress dt) s (fun t => t.dap.actions = [{ a with waiting := none }] ∧
      t.mb.waiting.length = u.mb.waiting.length + 1 ∧ t.cmdCodes = u.cmdCodes) := by
  have hdue : (a.waiting.isSome && a.code.isNone && u.passed a.since 1000000) = true := by rw [hwaiting, hcode, hpassed]; rfl
  refine .of_core hu rfl hon ?_
  simp only [hone, List.filter_cons_of_pos (p := fun a : CmdAction => a.waiting.isSome && a.code.isNone && u.passed a.since 1000000) hdue,
    List.filter_nil, List.foldl_cons, List.foldl_nil, List.map_cons, List.map_nil, if_pos hdue]
  rw [State.answerAction, hwaiting]
  exact ⟨rfl, List.length_append, rfl⟩

theorem cmdComplete_completes {a : CmdAction} {c : Nat} (hone : u.dap.actions = [a]) (hcode : a.code = some c) (hheld : u.dap.held = []) :
    Does (.cmdComplete dt) s (fun t => t.dap.actions = [] ∧ Tbl.get? t.cmdCodes a.key = some c) := by
  have hdone : a.code.isSome = true := by rw [hcode]; rfl
  refine .of_core hu rfl hon ?_
  rw [hone, List.filter_cons_of_pos (p := fun a : CmdAction => a.code.isSome) hdone, List.filter_nil, List.foldl_cons, List.foldl_nil]
  obtain ⟨hactions, hcodes⟩ := u.completeAction_of_noneHeld a hheld
  generalize u.completeAction a = w at hactions hcodes
  rw [hone, List.erase_cons_head] at hactions
  rw [hcode, Option.getD_some] at hcodes
  refine ⟨hactions, ?_⟩
  rw [show (w.within s).cmdCodes = w.cmdCodes from rfl, hcodes, Tbl.get?_set_same]

/-! ### The management port (15 R317) -/

section
variable (htray : u.isTrayChip = true)
include htray

theorem objectWrite_damaged : Does (.objectWrite dt .damaged) s (fun t =>
      t.rd Dict.mgmtDiscards = satTo (8 * Dict.mgmtDiscards.ty.bytes) (u.rd Dict.mgmtDiscards + 1)) := by
  refine .of_fromMgmt hu hon rfl ?_
  rw [if_pos htray]
  have hkept : KeepsObjects (fun _ => False) u (u.bumpSat Dict.mgmtDiscards) := .bumpSat u _ 0 0 1 id
  exact (hkept.rd_done hu ..).trans (u.stores_bumpSat Dict.mgmtDiscards 0 0 1).rd

theorem dapRead_refused {addr port : Nat} {r : DapReq} {via : Datagram} (hbad : via.bad = false)
    (hnot : via.plain = false ∨ via.port ≠ u.dap.udpPort ∨ u.dap.answersAt via.dest = false) :
    Does (.dapRead dt (.mgmt addr port) r via) s (fun t => t.regs = u.regs ∧ t.dap = u.dap) := by
  refine .of_fromSource hu hon rfl ?_
  have haccepts : u.dap.accepts via = false := by
    unfold Dap.accepts
    obtain h | h | h := hnot <;> simp [h]
  have hdropped : u.takeRequest (.mgmt addr port) { r with op := 1 } via = u.touch := by
    rw [State.takeRequest, htray, hbad, haccepts]
    rfl
  rw [hdropped]
  exact ⟨rfl, rfl⟩

section
variable (hmac : u.dap.mac.all (· == 0) = false)
include hmac

theorem neighborSolicitation_answers {peer target : Bytes} (haddr : u.dap.answersAt target = true) :
    Does (.neighborSolicitation dt peer target false) s (fun t => ∃ b, t.out = Output.icmp b :: u.out) := by
  refine .of_fromMgmt hu hon rfl ?_
  dsimp only
  rw [State.icmpAnswer_answers htray hmac haddr]
  exact ⟨_, rfl⟩

theorem echoRequest_answers {peer addr body : Bytes} (haddr : u.dap.answersAt addr = true) :
    Does (.echoRequest dt peer addr body false) s (fun t => t.out = Output.icmp (icmpMessage addr peer 129 body) :: u.out) := by
  refine .of_fromMgmt hu hon rfl ?_
  rw [State.icmpAnswer_answers htray hmac haddr]
  rfl

end

end

end

/-- Settles O48: each request, response, session and action does what chapter 15 says; the clause of the answer to a held action needs the
answers to leave the other parts of the protocol's state, which `State.respond_keeps` says. -/
theorem dapCommandsComplete : Obligations.DapCommandsComplete :=
  ⟨fun _ _ _ _ _ _ hu hon hdie ho hserves hv => objectWrite_stores hu hon hdie ho hserves hv,
    fun _ v _ _ hu hon hdie => objectWrite_irqEnable hu hon hdie v,
    fun _ _ _ hu hon htray => objectWrite_damaged hu hon htray,
    fun _ _ _ _ _ hu hon hdie ho hserves => dapRead_answers hu hon hdie ho hserves,
    fun _ _ _ _ _ hu hon hdie ho hstatus hfull => objectWrite_busy hu hon hdie ho hstatus hfull,
    fun _ _ _ _ _ _ _ hu hon htray hbad hnot => dapRead_refused hu hon htray hbad hnot,
    fun _ _ _ _ _ _ hu hon hdie hstatus hroom => dapAbort_ends hu hon hdie hstatus hroom,
    fun _ _ _ _ _ hu hon hup => dapResponse_matches hu hon hup,
    fun _ _ _ hu hon => pendTimeout_loses hu hon,
    fun _ _ _ hu hon => segTimeout_ends hu hon,
    fun _ _ _ _ _ hu hon hone hwaiting hcode hpassed => cmdInProgress_answers hu hon hone hwaiting hcode hpassed,
    fun _ _ _ _ _ hu hon hone hcode hheld => cmdComplete_completes hu hon hone hcode hheld,
    fun _ _ _ _ _ hu hon htray hmac haddr => neighborSolicitation_answers hu hon htray hmac haddr,
    fun _ _ _ _ _ _ hu hon htray hmac haddr => echoRequest_answers hu hon htray hmac haddr⟩

end Sys2Proof.Machine
end
